-- ==== Sys2Proof/Word.lean ====
section
/-! DEFINITION. The word types of the ZK8512-A1 (spec 00, R4): bit 0 is the least significant bit. -/

namespace Sys2Proof

/-- One byte. -/
abbrev Byte := BitVec 8

/-- One record of a host event queue or of an event window: 32 bytes, byte k at bits [8k+7:8k] (08 R270). -/
abbrev Record := BitVec 256

/-- One command entry: 64 bytes, byte k at bits [8k+7:8k] (09 R305). -/
abbrev Entry := BitVec 512

end Sys2Proof
end

