-- ==== Sys2Proof/Syntax.lean ====
section
/-! DEFINITION. The commands and events of the ZK8512-A1: one constructor of `Instr` per row of
spec/opcode_table.json, with the operands that the happening brings (what the driver writes, what the link,
a pin, a sensor or a neighbour delivers). -/

namespace Sys2Proof

/-- A BAR0 write (17 R560): the function that writes, the offset, the size in bytes and the value. -/
structure BarAcc where
  fn   : Nat
  off  : Nat
  size : Nat
  val  : BitVec 64
deriving DecidableEq, Repr

/-- What the check bits of a store give for a word that an engine reads (05 R154): sound, a single-bit error that is corrected, or a
double-bit error. -/
inductive StoreRead
  | clean
  | corrected
  | bad
deriving DecidableEq, Repr

/-- What the issue of a microword meets (05 R154, R163): in the micro-store, in the nanostore, and a parity error on a register read. -/
structure StoreCheck where
  micro : StoreRead := .clean
  nano : StoreRead := .clean
  parity : Bool := false
deriving DecidableEq, Repr

/-- A reference clock source (01 R12, R13). -/
inductive RefSource
  | refclkIn
  | recovered
deriving DecidableEq, Repr

/-- What a vernier recalibration finds (04 R114, 13 R454): every tap within its limits or not. -/
inductive CalResult
  | good
  | bad
deriving DecidableEq, Repr

/-- A change of power state that the host makes (08 R291, 09 R299). -/
inductive PowerChange
  /-- function `f` enters D3hot -/
  | d3 (f : Nat)
  /-- function `f` returns to D0 -/
  | d0 (f : Nat)
  /-- the link enters L1 -/
  | linkL1
  /-- the link enters L2/L3 Ready -/
  | linkL23
  /-- the link returns to L0 -/
  | linkL0
deriving DecidableEq, Repr

/-- A change of a function's MSI-X masks (09 R298). -/
inductive MsixOp
  /-- one vector of the table -/
  | vector (v : Nat)
  /-- the Function Mask -/
  | functionMask
  /-- the MSI-X Enable bit -/
  | enable
deriving DecidableEq, Repr

/-- The issue of a pin-engine instruction: the engine, and whether the slot at its PC fails its parity check (07 R252). -/
structure PnIssue where
  n : Nat
  parity : Bool := false
deriving DecidableEq, Repr

/-- An error that a scrub step finds (11 R383, R384): in the word of a berth, or in the microword or nano-word of a physical
engine, that the step reads; whether it is uncorrectable, and for a store the failing bit of the codeword. An upset is an error that has
struck another word of the berths (berth × 8192 + word), for whichever read finds it first (11 R371; DESIGN CHOICE, log 45: no row is given
for it). -/
inductive ScrubFind
  | berth (b : Nat) (ue : Bool)
  | upset (w : Nat) (ue : Bool)
  | store (p : Nat) (nano : Bool) (ue : Bool) (cell : Nat)
deriving DecidableEq, Repr

/-- One march failure (11 R385, R395): the word within the row, the failing bit of the codeword and the background. -/
structure MarchFail where
  word : Nat
  cell : Nat
  background : Nat
deriving DecidableEq, Repr

/-- What the read data of a lighter burst is when it returns (10 R346, R353). -/
inductive HostData
  | bytes (d : List (BitVec 8))
  | failed (cause : Nat)
deriving DecidableEq, Repr

/-- What the receivers of a causeway port report (12 R401). -/
inductive LaneEvent
  /-- both lanes locked and deskewed -/
  | locked
  /-- a lane lost -/
  | lost
  /-- code errors above the limit -/
  | errors
deriving DecidableEq, Repr

/-- What the boot ROM fetched from one source (15 R507 to R512): no usable SFDP table (QSPI), nothing (a read failed), or the image's
bytes. -/
inductive BootFetch
  | noSfdp
  | failed
  | image (bytes : List (BitVec 8))
deriving DecidableEq, Repr

/-- The rows of the table of operations and events, in the table's order. -/
inductive Instr
  /-- Command that does nothing and completes. (R313) -/
  | nop (ring : Nat) (w : BitVec 512)
  /-- Command that creates a channel item, which becomes current, is queued, or supersedes the current item. (R119) -/
  | arm (ring : Nat) (w : BitVec 512)
  /-- Long command that fails the unbegun parts of a channel's items and optionally truncates an open pulse, window or gate. (R121) -/
  | disarm (ring : Nat) (w : BitVec 512)
  /-- Command that changes the timing fields of a channel's current item and keeps its GEN. (R120) -/
  | update (ring : Nat) (w : BitVec 512)
  /-- Command that writes a 64-byte snapshot of a channel, axis, tracker, pin engine, lighter channel or berth to host memory. (R315) -/
  | readState (ring : Nat) (w : BitVec 512)
  /-- Long command that schedules a new configuration of axis 1-15 for time AT. (R59) -/
  | setAxis (ring : Nat) (w : BitVec 512)
  /-- The first TCLK boundary at or after AT arrives and the new axis configuration takes effect. (R61) -/
  | setAxisApply (n : Nat)
  /-- Command that adjusts the AX0 rate word and remaining phase correction. (R40) -/
  | discipline (ring : Nat) (w : BitVec 512)
  /-- Command that steps AX0 to a new absolute or relative value, with or without FORCE. (R45) -/
  | stepTime (ring : Nat) (w : BitVec 512)
  /-- Long command that starts writing a signed microcode image into an engine's stores. (R216) -/
  | loadImage (ring : Nat) (w : BitVec 512)
  /-- Image hashing ends after the last byte and LSTATE becomes VERIFIED or INVALID. (R217) -/
  | loadVerifyDone (n : Nat)
  /-- Long command that holds dispatch and drains a logical engine so that its verified image can start. (R219) -/
  | activateImage (ring : Nat) (w : BitVec 512)
  /-- DRAIN_US expires and the handler frames still open are abandoned with reason DRAIN. (R219) -/
  | activateDrainTimeout (n : Nat)
  /-- At a sampled boundary of the base level the serving engine stops and the load target starts the new image. (R219) -/
  | activateSwitch (n : Nat)
  /-- Long command that starts moving a logical quay onto a spare physical quay. (R147) -/
  | substituteQuay (ring : Nat) (w : BitVec 512)
  /-- The spare quay completes its one-round copy of the 16 channel states. (R147) -/
  | mirrorCopyDone (parity : List Nat)
  /-- The comparison round of the commitments of both quays ends, and the substitution either fails MISMATCH or seeks a quiet window. (R147) -/
  | mirrorCompareDone (differ : Bool)
  /-- At t_s the crossbar moves the pins to the spare quay and the old quay is retired. (R147) -/
  | quaySwitch
  /-- No quiet switch time is found within 10 us and the substitution fails NO_QUIET. (R148) -/
  | noQuietTimeout
  /-- The 100 us retry timer of an automatic substitution that failed NO_QUIET expires. (R452) -/
  | autoSubRetry
  /-- Long command that starts a planned relief of a logical engine onto a relief engine. (R212) -/
  | relieveEngine (ring : Nat) (w : BitVec 512)
  /-- RELIEVE_ENGINE with RETURN, which moves a logical engine back to its home engine. (R212) -/
  | relieveReturn (ring : Nat) (w : BitVec 512)
  /-- The relief engine finishes copying the stores of the logical engine. (R212) -/
  | reliefCopyDone (n : Nat) (uncorrectable : Bool)
  /-- At the first sampled boundary after the copy, dispatch is held and all frame and engine state moves to the relief engine. (R212) -/
  | reliefTakeover (n : Nat) (parity : Bool)
  /-- A warm relief engine completes its copy of the stores and WARM reads 1. (R211) -/
  | warmCopyDone (p : Nat)
  /-- Command that starts a lighter channel program at a given address and priority. (R332) -/
  | startLighter (ring : Nat) (w : BitVec 512)
  /-- Long command that drains a lighter channel into PAUSED. (R359) -/
  | pauseLighter (ring : Nat) (w : BitVec 512)
  /-- PAUSE_LIGHTER with RESUME, which makes a paused channel run again. (R360) -/
  | resumeLighter (ring : Nat) (w : BitVec 512)
  /-- The outstanding reads of a pausing lighter channel have returned and left, and the channel becomes PAUSED. (R359) -/
  | ltPauseDrained (c : Nat)
  /-- Long command that sets the current owner, and optionally the home owner, of a berth. (R379) -/
  | berthHandover (ring : Nat) (w : BitVec 512)
  /-- Long command that loads a pin engine's shadow program for a swap. (R244) -/
  | swapProgram (ring : Nat) (w : BitVec 512)
  /-- Long command that writes a MARK record to the harbour log. (R482) -/
  | logMark (ring : Nat) (w : BitVec 512)
  /-- LOG_CLEAR with OPT 0, which issues a nonce challenge for clearing the log. (R485) -/
  | logClearChallenge (ring : Nat) (w : BitVec 512)
  /-- LOG_CLEAR with OPT 1, which checks an HMAC response and clears the log when it verifies. (R486) -/
  | logClearRespond (ring : Nat) (w : BitVec 512)
  /-- Command on the master that sets the expected epoch and digest of a configuration class. (R441) -/
  | tallySet (ring : Nat) (w : BitVec 512)
  /-- Long command that completes when every earlier entry of its ring has completed and its records are issued. (R319) -/
  | fence (ring : Nat) (w : BitVec 512)
  /-- Long command that starts the key-off sequence. (R317) -/
  | enterVigil (ring : Nat) (w : BitVec 512)
  /-- Write of GO in SYS_MODE, which requests OPERATE. (R20) -/
  | sysModeGo (a : BarAcc)
  /-- Write of HOLD in SYS_MODE, which requests STEADY and sets GO_REQ. (R21) -/
  | sysModeHold (a : BarAcc)
  /-- Write to SYS_RESET in the two-word key sequence that causes an authorised full reset. (R25) -/
  | sysResetWrite (a : BarAcc)
  /-- Write of GO in SYS_PUSHLEN, which starts a PCIe push fetch of the boot image. (R509) -/
  | pushGo (a : BarAcc)
  /-- F0 write to an axis register, accepted only while EN is 0, or which enables the axis. (R62) -/
  | axCfgWrite (a : BarAcc)
  /-- Write to TIMEOUT_MS, judged at once against the latest request. (R47) -/
  | ax0HoldWrite (a : BarAcc)
  /-- F0 write to tracker registers, including the enable write that is checked and may be refused. (R71) -/
  | wtCfgWrite (a : BarAcc)
  /-- F0 write to a crossbar entry, changing the pin source, filter, inversion or IN_DIS, or refused. (R224) -/
  | tioPinWrite (a : BarAcc)
  /-- Write of FLUSH_TX, which empties a pin engine's TX FIFO. (R257) -/
  | flushTx (a : BarAcc)
  /-- Write of FLUSH_RX, which empties a pin engine's RX FIFO. (R257) -/
  | flushRx (a : BarAcc)
  /-- F0 write of a source's target, priority and group. (R263) -/
  | slTgtWrite (a : BarAcc)
  /-- W1C write to SL_PEND, which cancels pending deliveries. (R264) -/
  | slPendClear (a : BarAcc)
  /-- Write of HOLD in SL_CTRL, which stops or resumes all sluice delivery. (R269) -/
  | sluiceHoldWrite (a : BarAcc)
  /-- Write of a group's HOLDOFF, which may shorten the running residual. (R294) -/
  | holdoffWrite (a : BarAcc)
  /-- Write of EN in HQ_CFG, which enables, drains or re-enables a host event queue. (R284) -/
  | hqEnWrite (a : BarAcc)
  /-- Write of DISCARD, which drops a held or disabled queue's staged records as lost. (R284) -/
  | hqDiscard (a : BarAcc)
  /-- Write of EN in CQ_CFG, which enables a command ring or starts its drain. (R323) -/
  | cqEnWrite (a : BarAcc)
  /-- Write of a function's slab address, accepted only with its rings and queues idle. (R328) -/
  | hiSlabWrite (a : BarAcc)
  /-- F0 write that hands a berth over, at once or after a loan return. (R378) -/
  | bhOwnerWrite (a : BarAcc)
  /-- Write of RELOC in DR_CTRL, which requests relocation of a berth. (R391) -/
  | relocWrite (a : BarAcc)
  /-- Write to a publication slot, which enables it or is refused. (R425) -/
  | cwPubWrite (a : BarAcc)
  /-- Write to a snapshot list configuration, including the enable write that is checked and may be refused. (R498) -/
  | hlLcfgWrite (a : BarAcc)
  /-- Read of a register holding RC fields, which clears those fields. (R6) -/
  | rcRead (fn : Nat) (off : Nat) (size : Nat)
  /-- Any other BAR0 write, acting under the access codes of its fields. (R6) -/
  | regWrite (a : BarAcc)
  /-- The poll interval expires and an 8-byte read of a function's SUMMARY is issued. (R302) -/
  | pollIssue (f : Nat)
  /-- A SUMMARY poll response returns, and a change starts the index-line and prefetch reads. (R303) -/
  | pollResponse (f : Nat) (summary : BitVec 64)
  /-- A read of a slab index line completes, updating CQ_PI, HQ_CI and LT_PI. (R303) -/
  | indexLineDone (f : Nat) (line : Nat) (data : BitVec 512)
  /-- A batch or prefetch of command entries returns and covered entries with the right PHASE are taken. (R309) -/
  | entryFetchDone (ring : Nat) (first : Nat) (entries : List (BitVec 512))
  /-- The 1 us timer for re-reading an entry with the wrong PHASE expires. (R310) -/
  | phaseReread (ring : Nat) (w : BitVec 512)
  /-- A fetched entry is accepted in ring order and its opcode, FORCE and grant checks are made. (R318) -/
  | entryAccept (ring : Nat)
  /-- The 100 us probe read of F0's SUMMARY that keeps HI_LINK_RTT current is issued. (R327) -/
  | rttProbe
  /-- The 100 us zero-length read behind a record write that measures HI_LINK_WR is issued. (R327) -/
  | wrProbe
  /-- PERST# is asserted, resetting the host interface, holding queues and draining rings. (R300) -/
  | perst
  /-- A hot reset or link disable, acting as PERST#. (R300) -/
  | hotReset
  /-- Function Level Reset of one function. (R300) -/
  | flr (f : Nat)
  /-- The PCIe data link layer goes down. (R462) -/
  | linkDown
  /-- The PCIe data link layer comes up. (R462) -/
  | linkUp (speed : BitVec 2) (width : BitVec 3)
  /-- A function's Bus Master Enable changes. (R285) -/
  | bmeChange (f : Nat) (on : Bool)
  /-- A function enters or leaves D3hot, or the link changes power state. (R291) -/
  | powerStateChange (ch : PowerChange)
  /-- A vector is unmasked and its pending message is sent. (R283) -/
  | msixUnmask (f : Nat) (what : MsixOp)
  /-- The 100 ms timer expires while PME_Status stays 1 and PM_PME is sent again. (R292) -/
  | pmeResend (f : Nat)
  /-- A sluice source rises, latching its pending bit or item and notifying its watchers. (R261) -/
  | sourceRise
  /-- A group's hold-off timer expires and its pending sources are delivered. (R266) -/
  | holdoffExpire (g : Nat)
  /-- A queue's write engine issues a record TLP, or stages it when the queue cannot be written. (R280) -/
  | hqRecordIssue (q : Nat)
  /-- A staging cause clears and staged records are written round robin. (R286) -/
  | stagingDrain (q : Nat)
  /-- At a sampled boundary an eligible source wins and the engine enters its handler over E1-E4. (R197) -/
  | meDispatch (p : Nat)
  /-- A microengine issues one microword with its nano-word and sequencing. (R156) -/
  | meWord (p : Nat) (chk : StoreCheck)
  /-- The condition of a waiting WAIT word becomes true and the word commits. (R156) -/
  | meWaitSatisfied (p : Nat) (chk : StoreCheck)
  /-- An engine's TIMER counts down to 0. (R188) -/
  | meTimerExpire (p : Nat)
  /-- The watchdog reaches WD_US without a heartbeat and the engine faults HEARTBEAT. (R207) -/
  | heartbeatExpire (p : Nat)
  /-- A running load target stops at its next sampled boundary for a LOAD_IMAGE with HALT. (R218) -/
  | haltStop (n : Nat)
  /-- Quay-port READ32 or READ64 of a channel word at the channel's scan slot. (R169) -/
  | qpRead (p : Nat)
  /-- Quay-port LOADSLIP that copies channel state into the slip at a scan slot. (R169) -/
  | qpLoadslip (p : Nat)
  /-- Quay-port ARM of a channel from the slip at its scan slot. (R170) -/
  | qpArm (p : Nat)
  /-- Quay-port UPDATE of a channel from the slip at its scan slot. (R170) -/
  | qpUpdate (p : Nat)
  /-- Quay-port DISARM of a channel at its scan slot. (R170) -/
  | qpDisarm (p : Nat)
  /-- A quay's scan slot for one channel, which applies pending writes and descriptors and commits, waits or takes captures. (R110) -/
  | scanVisit (c : Nat) (parity : Bool)
  /-- The edge generator places a committed edge at its time and raises the fire source. (R114) -/
  | edgePlace (p : Nat) (i : Nat)
  /-- No transition appears within 8 ns of a placed change of level. (R139) -/
  | auditNoTransition (pin : Nat)
  /-- The 1 ms vernier recalibration of a quay runs, and may set SUSPECT. (R114) -/
  | vernierCal (p : Nat) (result : CalResult)
  /-- No selected edge arrives within TCAP on a MEASURE channel. (R132) -/
  | measureTimeout (c : Nat)
  /-- A TIO ball changes level, timestamped at its crossing, and its filter window starts. (R225) -/
  | pinTransition (pin : Nat) (level : Bool) (tap : BitVec 4)
  /-- A filter window ends and the transition is delivered to every input consumer. (R225) -/
  | filterAccept (pin : Nat)
  /-- No tooth is accepted within STALL_MULT times T(L) and the tracker stalls. (R94) -/
  | wtStall (n : Nat)
  /-- No pulse arrives within STALL_MULT times P_k on a DISTANCE or LINE axis. (R55) -/
  | axisStall (n : Nat)
  /-- One AX0 accumulator disagrees with the others and repair begins with entry into STEADY. (R35) -/
  | voteDisagree (i : Nat) (v : BitVec 112)
  /-- No two working accumulators agree and AX0 becomes INVALID. (R449) -/
  | noMajority (v0 : BitVec 112) (v1 : BitVec 112) (v2 : BitVec 112)
  /-- An accumulator's 2^24-period repair watch ends clean. (R447) -/
  | repairWatchEnd (i : Nat)
  /-- TIMEOUT_MS passes in LOCKED and AX0 enters HOLDOVER. (R47) -/
  | holdoverTimeout
  /-- The remaining phase correction reaches zero and SLEWING clears. (R34) -/
  | slewComplete
  /-- The active REFCLK source fails and the clock unit switches or loses lock. (R13) -/
  | refclkFail (src : RefSource) (freq : Bool)
  /-- A preferred source has run 10 ms within tolerance and the clock switches back. (R14) -/
  | refclkRestore (src : RefSource)
  /-- The PLL loses lock, holds frequency and the device enters STEADY. (R450) -/
  | pllLockLoss
  /-- The PLL regains lock. (R450) -/
  | pllRelock
  /-- The device, waiting in STEADY, enters OPERATE once all its conditions hold. (R20) -/
  | enterOperate
  /-- The start-up self-test ends. (R506) -/
  | selfTestDone
  /-- Pin-engine DLY instruction. (R233) -/
  | pnDly (n : Nat) (parity : Bool)
  /-- Pin-engine conditional jump. (R234) -/
  | pnJmp (n : Nat) (parity : Bool)
  /-- Pin-engine wait on a lane level or edge. (R236) -/
  | pnWaitp (x : PnIssue)
  /-- Pin-engine wait on a shared flag. (R236) -/
  | pnWaitf (x : PnIssue)
  /-- Pin-engine wait on an event latch. (R237) -/
  | pnWaite (x : PnIssue)
  /-- Pin-engine wait bound to a SOFT channel event, with its touch placed at that event's time. (R238) -/
  | pnWaitx (x : PnIssue)
  /-- Pin-engine PUSH to the RX FIFO. (R240) -/
  | pnPush (x : PnIssue)
  /-- Pin-engine PULL from the TX FIFO. (R240) -/
  | pnPull (x : PnIssue)
  /-- Pin-engine shift of one bit of SR onto a lane. (R239) -/
  | pnOut (n : Nat) (parity : Bool)
  /-- Pin-engine shift of a lane level into SR. (R239) -/
  | pnIn (n : Nat) (parity : Bool)
  /-- Pin-engine load of an immediate. (R233) -/
  | pnLdi (x : PnIssue)
  /-- Pin-engine register operation. (R235) -/
  | pnMov (n : Nat) (parity : Bool)
  /-- Pin-engine decrement and jump if nonzero. (R233) -/
  | pnDjnz (x : PnIssue)
  /-- Pin-engine raise of SIG or write of a shared flag. (R233) -/
  | pnSig (x : PnIssue)
  /-- Pin-engine push of a lane-edge timestamp. (R241) -/
  | pnCapt (x : PnIssue)
  /-- Pin-engine stop. (R233) -/
  | pnEnd (x : PnIssue)
  /-- A pin-engine wait is satisfied and applies its touch. (R236) -/
  | pnWaitSatisfied (n : Nat)
  /-- CNT reaches 0 in a pin-engine wait with TMO. (R236) -/
  | pnWaitTimeout (n : Nat)
  /-- A blocked PUSH, PULL or CAPT can complete. (R240) -/
  | pnBlockRelease (n : Nat)
  /-- A swap point comes and the shadow program becomes active. (R246) -/
  | pnSwap (n : Nat)
  /-- SWAP_DEADLINE expires and the swap is forced. (R247) -/
  | swapDeadlineExpire (n : Nat)
  /-- Lighter END, either final or a tail park. (R337) -/
  | ltEnd (c : Nat)
  /-- Lighter MOVE descriptor begins. (R338) -/
  | ltMove (c : Nat)
  /-- Lighter MOVEI to a register or memory. (R339) -/
  | ltMovei (c : Nat)
  /-- Lighter LOOP opens a loop frame. (R341) -/
  | ltLoop (c : Nat)
  /-- Lighter ENDL closes or repeats a loop body. (R341) -/
  | ltEndl (c : Nat)
  /-- Lighter WAIT on the latch, a flag or an axis. (R340) -/
  | ltWait (c : Nat)
  /-- Lighter SIGNAL raises the event source and may write a flag. (R341) -/
  | ltSignal (c : Nat)
  /-- Lighter FENCE issues read-backs. (R351) -/
  | ltFence (c : Nat)
  /-- Lighter LINK sets PC. (R341) -/
  | ltLink (c : Nat)
  /-- A lighter instruction-line fetch returns. (R336) -/
  | ltFetchDone (c : Nat) (line : Option (BitVec 512))
  /-- A lighter WAIT condition holds. (R340) -/
  | ltWaitSatisfied (c : Nat)
  /-- A lighter WAIT TIMEOUT expires and an error item is raised. (R340) -/
  | ltWaitTimeout (c : Nat)
  /-- Arbitration chooses a ready channel and its burst's reads issue. (R347) -/
  | ltBurstStart (c : Nat)
  /-- A burst's read data returns and is written on. (R346) -/
  | ltBurstData (c : Nat) (data : HostData)
  /-- The FENCE read-backs complete. (R351) -/
  | ltFenceDone (c : Nat)
  /-- A tail word re-fetch returns, yielding END or LINK. (R357) -/
  | ltTailRefetch (c : Nat) (word : Option (BitVec 64))
  /-- TAIL_US expires in TAIL_WAIT. (R358) -/
  | ltTailTimer (c : Nat)
  /-- The scrub interval expires and the dredger reads one word of each berth. (R383) -/
  | scrubTick (finds : List ScrubFind)
  /-- The dredger borrows an idle berth for a march test. (R386) -/
  | loanStart (b : Nat) (fail : List MarchFail)
  /-- A loan return completes and the berth goes back to its home owner. (R388) -/
  | loanReturnDone (badRows : Nat)
  /-- An in-service spare-row repair completes. (R389) -/
  | rowRepairDone (b : Nat)
  /-- A relocation copy ends and reads switch to the new bank. (R391) -/
  | relocDone
  /-- The self-test repeat march pass ends. (R393) -/
  | selfTestPassDone
  /-- The post-seal zeroing of B00-B15 ends. (R394) -/
  | berthZeroDone
  /-- The repair map is written after a retirement or repair. (R457) -/
  | repairMapUpdate
  /-- A causeway port's lanes gain or lose lock or see errors. (R401) -/
  | portLinkEvent (p : Nat) (ev : LaneEvent)
  /-- A causeway port has run 1 us error-free and becomes UP. (R401) -/
  | portUpTimer (p : Nat)
  /-- At a frame boundary a causeway port sends its most urgent frame. (R407) -/
  | frameTx (p : Nat)
  /-- A received causeway frame fails its checks and is discarded. (R404) -/
  | frameDiscard (p : Nat)
  /-- The 125 us SYNC timer expires. (R409) -/
  | syncSend
  /-- The 1 ms DREQ timer expires. (R414) -/
  | dreqSend (p : Nat)
  /-- The 1 us SNAP interval of a publication expires. (R427) -/
  | snapSend (k : Nat)
  /-- The 10 ms SUBSCRIBE timer of a REMOTE axis expires. (R426) -/
  | subscribeSend (n : Nat)
  /-- The 10 ms ROUTE timer expires. (R413) -/
  | routeSend
  /-- A SYNC frame is received and the offset measured. (R415) -/
  | rxSync (p : Nat) (from_ : BitVec 10) (body : BitVec 384) (tc : Nat)
  /-- A DREQ is received and answered. (R414) -/
  | rxDreq (p : Nat) (seq : BitVec 16) (t2 : Nat)
  /-- A DRESP is received and the path delay computed. (R414) -/
  | rxDresp (p : Nat) (body : BitVec 192) (t4 : Nat)
  /-- A TOOTH frame is received, forwarded and applied. (R428) -/
  | rxTooth (p : Nat) (from_ : BitVec 10) (body : BitVec 448)
  /-- A SNAP frame is received, forwarded and applied. (R428) -/
  | rxSnap (p : Nat) (from_ : BitVec 10) (body : BitVec 256)
  /-- A SUBSCRIBE is received and recorded, forwarded or refused. (R426) -/
  | rxSubscribe (p : Nat) (body : BitVec 32)
  /-- A SUBNAK is received or forwarded. (R426) -/
  | rxSubnak (p : Nat) (dst : BitVec 10) (body : BitVec 64)
  /-- A ROUTE frame is received. (R413) -/
  | rxRoute (p : Nat) (from_ : BitVec 10) (bitmap : BitVec 1024)
  /-- A TALLY is received, compared and forwarded. (R439) -/
  | rxTally (p : Nat) (body : BitVec 160)
  /-- A TREPORT is received and aggregated. (R440) -/
  | rxTreport (p : Nat) (body : BitVec 1088)
  /-- An ACK releases acknowledged REC frames. (R434) -/
  | rxAck (p : Nat) (seq : BitVec 16)
  /-- A REC frame is received, forwarded or raised as a remote source. (R433) -/
  | rxRec (p : Nat) (body : BitVec 320)
  /-- A REC frame is not acknowledged within 10 us and is sent again. (R434) -/
  | recRetransmit (p : Nat)
  /-- The 1 ms servo interval ends and a discipline request may be issued. (R416) -/
  | servoInterval
  /-- No SYNC arrives for LOSS_SYNCS periods and the parent is lost. (R419) -/
  | parentLossTimeout
  /-- DID 1 sees no master 0 for MASTER_LOSS_MS and becomes ACTING_MASTER. (R422) -/
  | masterLossTimeout
  /-- A better candidate completes its 100 ms or REVERT_S period and the device re-parents. (R411) -/
  | candidateTimer (p : Nat)
  /-- A subscription port bit expires after 30 ms. (R426) -/
  | subBitExpire (i : Nat) (p : Nat)
  /-- A ROUTE entry expires after 30 ms. (R413) -/
  | routeExpire (p : Nat) (did : BitVec 10)
  /-- A sequence gap is unfilled for 100 ms and GAP is raised. (R435) -/
  | gapTimeout (did : BitVec 10)
  /-- No SNAP for 4 us and a REMOTE axis enters holdover. (R429) -/
  | remoteHoldover (n : Nat)
  /-- No SNAP for PUB_TIMEOUT_MS and the publisher is absent. (R429) -/
  | remoteAbsent (n : Nat)
  /-- The master's TALLY_PERIOD expires and a round starts. (R438) -/
  | tallyRoundStart
  /-- A device's report delay expires and it sends TREPORT. (R440) -/
  | treportWindow
  /-- The master closes the round 500 us after sending it. (R441) -/
  | tallyRoundClose
  /-- A class digest is recomputed after its content changes. (R437) -/
  | digestRecompute (c : Nat)
  /-- The sampler finishes a list and composes the SNAPSHOT record. (R477) -/
  | snapshotSampled
  /-- The 1 us packing window ends and an ITEMS record is composed. (R480) -/
  | itemsPackClose
  /-- The log begins writing the next queued record. (R481) -/
  | logRecordStart (mismatches : Nat)
  /-- A record's valid mark is written and LOG_RECORD rises. (R474) -/
  | logRecordDurable
  /-- A keel copy write completes. (R491) -/
  | keelWriteDone
  /-- The 60 s clearing lockout ends. (R487) -/
  | lockoutEnd
  /-- CHAL_S passes since the challenge was issued. (R486) -/
  | challengeExpire
  /-- On entry into RESET the boot ROM locks the PLL, loads AX0, zeroes banks and applies the repair map. (R506) -/
  | bootRomStart
  /-- A boot image fetch ends and the image is checked. (R512) -/
  | bootFetchDone (fetch : BootFetch)
  /-- Boot code 32-bit BAR0 write. (R513) -/
  | bootWr32
  /-- Boot code 64-bit BAR0 write. (R513) -/
  | bootWr64
  /-- Boot code read-modify-write. (R513) -/
  | bootRmw32
  /-- Boot code poll of a register. (R513) -/
  | bootPoll32
  /-- A POLL32 exceeds 10 ms. (R515) -/
  | bootPollTimeout
  /-- Boot code delay. (R513) -/
  | bootDelay
  /-- A DELAY expires. (R513) -/
  | bootDelayEnd
  /-- Boot code write of a signing key slot. (R513) -/
  | hmkey
  /-- Boot code write of the log key. (R522) -/
  | logkey
  /-- Boot code load of a microcode image. (R514) -/
  | bootMeImage
  /-- Boot code load of a pin-engine program. (R514) -/
  | pnProg
  /-- Boot code blows a REVOKE or SVN fuse. (R516) -/
  | fuse
  /-- Boot code sets HM_SEAL and the device enters STEADY. (R523) -/
  | seal
  /-- KEY_ON high or VWAKE# low held 32 vigil periods moves VIGIL to RESET. (R531) -/
  | keyOn (vwake : Bool)
  /-- KEY_ON low held 32 vigil periods, or ENTER_VIGIL, runs the key-off sequence. (R529) -/
  | keyOff
  /-- RESET# low for 1 us runs a close and a core reset. (R505) -/
  | resetPin
  /-- All core supplies have been good for 1 ms and the core is powered. (R502) -/
  | corePowerGood (va : Bool) (vb : Bool)
  /-- A core supply fails while READY is high. (R496) -/
  | powerLoss
  /-- The vigil supply rises from below retention. (R504) -/
  | coldPowerUp
  /-- The vigil supply falls below retention and VALID clears. (R528) -/
  | vigilSupplyFail
  /-- No crystal edge for 1 ms sets XFAIL or clears VALID. (R528) -/
  | crystalStop
  /-- The TS_PERIOD timer expires and the vigil recomputes INC. (R525) -/
  | tempSample (temp : BitVec 10)
  /-- A 2^20-edge calibration measurement ends and CAL is set. (R526) -/
  | vigilCalDone (err : Int) (dtemp : Nat)
  /-- TRST# resets the test access port. (R504) -/
  | jtagTrst
  /-- JTAG EXTEST, effective only with RESET# low. (R557) -/
  | extest (lvl : BitVec 128) (oe : BitVec 128)
  /-- JTAG CLAMP, effective only with RESET# low. (R557) -/
  | clamp
  /-- JTAG HIGHZ, effective only with RESET# low. (R557) -/
  | highz
  /-- JTAG INTEST, effective only with RESET# low. (R557) -/
  | intest (lvl : BitVec 128)
  /-- JTAG BYPASS. (R557) -/
  | bypass
  /-- JTAG IDCODE read. (R557) -/
  | idcode
  /-- JTAG SAMPLE. (R557) -/
  | sample
  /-- JTAG PRELOAD. (R557) -/
  | preload (lvl : BitVec 128) (oe : BitVec 128)
  /-- PERST# is released, ending WAKE# assertion and raising HOST_LINK. (R292) -/
  | perstRelease
  /-- RESET# goes high, ending the core's hold in reset so the boot ROM can start. (R505) -/
  | resetRelease
  /-- The link partner acknowledges a record or lighter write TLP at the data link layer, so it counts as written. (R288) -/
  | dllAck (count : Nat)
  /-- A host read of a command body address, such as a LOAD_IMAGE image chunk or a SWAP_PROGRAM block, completes or fails with FETCH. (R244) -/
  | bodyReadDone (ring : Nat) (tag : BitVec 32) (data : Option (List (BitVec 8)))
  /-- A lighter access to a full TX FIFO or empty RX FIFO has been held 1 us and becomes a bus error. (R242) -/
  | fifoTimeout (c : Nat)
  /-- The zero-length read behind a probe record write completes and HI_LINK_WR is updated. (R327) -/
  | wrProbeDone
  /-- The host writes PME_En or clears PME_Status in a function's power management register. (R292) -/
  | pmeControlWrite (f : Nat) (en : Bool) (clear : Bool)
  /-- The host masks a vector, sets the Function Mask or clears MSI-X Enable, so later messages go to the PBA. (R283) -/
  | msixMask (f : Nat) (what : MsixOp)
  /-- The host writes NumVFs in the SR-IOV capability, enabling or disabling virtual functions. (R296) -/
  | numvfsWrite (n : Nat)
  /-- The vigil's internal switch changes its supply between VBAK and VDDIO18 as their levels cross, updating ON_VBAK. (R500) -/
  | supplySwitchover (onVbak : Bool)
deriving DecidableEq, Repr

end Sys2Proof
end

