-- ==== Sys2Proof/Config.lean ====
section
/-! DEFINITION. What the spec leaves open: an uninterpreted constant with no body, so that a claim about it holds whatever it is. -/

namespace Sys2Proof.Config

/-- The free value number n: a value that the spec draws from a random source or does not state (14 R485). -/
opaque freeValue : Nat → Nat

end Sys2Proof.Config
end

