-- ==== Sys2Proof/Machine/State.lean ====
section
/-! DEFINITION. The state of the ZK8512-A1: every register, store, counter, queue and pin that the spec gives the part,
as plain data, and the queue of the commands that wait. -/

namespace Sys2Proof.Machine

/-- A table by number that lists only the entries that differ from their reset value (numbers strictly rising). -/
abbrev Tbl (α : Type) := List (Nat × α)

/-- No command of the part stops it for good: no rule of the spec names such a stop, so there is no fault. -/
inductive Fault
deriving DecidableEq, Repr

/-- Why a command has no meaning. -/
inductive Refusal
  /-- Raised by an arm of `exec` for a row that has no meaning yet; safe: nothing is claimed about it. -/
  | notModelled (mnemonic : String)
deriving DecidableEq, Repr

/-! ### Time (02) -/

/-- One of the three AX0 accumulators with its copies of the rate word and of the remaining correction, and its repair
watch with its start (ns) and reloads (02 R34, 13 R447). Unit 2^-48 ns. -/
structure Accum where
  val      : BitVec 112 := 0
  rate     : BitVec 48 := 0
  rem      : Int := 0
  watching : Bool := false
  watchAt  : Nat := 0
  attempts : Nat := 0
deriving DecidableEq, Repr

/-- The axis unit's AX0 (02 R34 to R48). `elapsed` counts AX0 time without steps, 2^-48 ns (R33); `eclk` counts ECLK
cycles; `ref` is the elapsed time of the latest accepted request (R47); `uncBase`, `uncAt` are the base of AX0_UNC and
the elapsed time at which it was set (R48); `lost` that no two accumulators agreed since the latest STEP_TIME (13 R449); `calEdges` counts
the edges of the vigil that AX0 has been LOCKED for (15 R526). -/
structure Timebase where
  a0 : Accum := {}
  a1 : Accum := {}
  a2 : Accum := {}
  elapsed : Nat := 0
  eclk    : Nat := 0
  ref     : Nat := 0
  uncBase : Nat := 0
  uncAt   : Nat := 0
  lost    : Bool := false
  calEdges : Nat := 0
deriving DecidableEq, Repr

/-- A command in flight: the ring that carried it, the function that posted it, its entry, the ring's RGEN at the fetch
and a serial number of its acceptance (09 R316, R318). -/
structure Cmd where
  ring : Nat := 0
  fn   : Nat := 0
  w    : Entry := 0
  rgen : Nat := 0
  uid  : Nat := 0
deriving DecidableEq, Repr

/-- A model of a shaft between teeth (03 R83 to R86): slots per revolution, micro-tick bits, zero offset, the global slot
of the latest tooth with the micro-ticks beyond it, its AX0 time (2^-16 ns), the period (2^-16 ns per slot, 0 for none),
the slope, the slots to the next tooth and the sense. -/
structure AngleModel where
  n    : Nat := 0
  mt   : Nat := 0
  zofs : Nat := 0
  g    : Int := 0
  m    : Nat := 0
  tk   : Int := 0
  p    : Nat := 0
  dp   : Int := 0
  l    : Nat := 1
  rev  : Bool := false
deriving DecidableEq, Repr

/-- What a REMOTE axis has received (12 R427 to R430): whether a SNAP has come, its type, quality, DIR, STALL, sample time
(AX0 ns), value and rate (32.32), the elapsed time (ns) of its arrival; the latest TOOTH's model and pulse (value after it, U 32.16),
and whether no TOOTH has come since the first SNAP after a gap; holdover, absence, the elapsed time of the latest SUBNAK STEADY; the
held value and the slew term (2^-43 units) with its start. -/
structure Remote where
  seen    : Bool := false
  typ     : Nat := 0
  quality : Nat := 3
  rev     : Bool := false
  stall   : Bool := false
  t       : Nat := 0
  v       : Nat := 0
  rate    : Nat := 0
  at_     : Nat := 0
  model   : AngleModel := {}
  u       : Nat := 0
  base    : Nat := 0
  stale   : Bool := true
  holdover : Bool := false
  absent  : Bool := false
  subnak  : Option Nat := none
  held    : Nat := 0
  slew    : Nat := 0
  slewAt  : Nat := 0
deriving DecidableEq, Repr

/-- A SET_AXIS that waits for its AT (02 R59, R61). -/
structure AxisReq where
  cmd  : Cmd
  cfg  : Nat
  para : Nat
  parb : Nat
  parc : Nat
  cont : Bool
  at_  : Nat
deriving DecidableEq, Repr

/-- The hidden state of AX1 to AX15 (02 R50 to R61, 12 R427 to R430): the counting value, the hidden fraction of
DISTANCE, the value below which the axis does not fall, the AX0 time of the latest pulse and the latest period (1/8 ns), the value of that
pulse (2^-16 units), the number of pulses, the stall flag, the backlog, the hidden fractions beside PARB and PARC, the scheduled change; for
REMOTE the latest snapshot. -/
structure Axis where
  v        : Nat := 0
  frac     : Nat := 0
  hold     : Nat := 0
  tk       : Int := 0
  pk       : Nat := 0
  u        : Nat := 0
  pulses   : Nat := 0
  stalled  : Bool := false
  backlog  : Nat := 0
  reverse  : Bool := false
  bFrac    : Nat := 0
  cFrac    : Nat := 0
  sched    : List AxisReq := []
  remote   : Remote := {}
deriving DecidableEq, Repr

/-! ### Sluice and host event queues (08) -/

/-- A source line that has risen and that the sluice has not taken yet: its records (the second and later ones are the
CAPTURE_EXT records of 02 R65) and whether the occurrence is an item (08 R264); whether it is an edge of the line, which whatever
counts or latches the source sees, and whether that is all of it, its records coming apart (06 R209, R210); the ECLK cycle (08 R268); or
the COMPLETION of a command with its status and GEN, which waits behind a FAIL record (08 R282). -/
structure Rise where
  src  : Nat
  recs : List Record
  item : Bool
  edge : Bool := true
  bare : Bool := false
  at_  : Nat := 0
  comp : Option (Cmd × Nat × Nat) := none
deriving DecidableEq, Repr

/-- A source: the occurrences since its latest delivery and the records of the latest one (08 R261, R267). -/
structure Src where
  count : Nat := 0
  recs  : List Record := []
deriving DecidableEq, Repr

/-- A source group's hold-off timer (08 R266): when it expires (ns of ECLK time), whether it runs, the engine-targeted sources that became
eligible for one dispatch at its latest expiry, and the ECLK cycle of the delivery that last reloaded it: what becomes deliverable in that
cycle is delivered as well (R268). -/
structure Group where
  running : Bool := false
  until_  : Nat := 0
  elig    : List Nat := []
  opened  : Option Nat := none
deriving DecidableEq, Repr

/-- An item in the sluice's item store (08 R264, R265). -/
structure Item where
  src  : Nat
  recs : List Record
deriving DecidableEq, Repr

/-- Records that are written or lost together: the records of one capture, or one record (08 R286); `item` for an
itemised source, `ring` for the COMPLETION of a command of that ring; `part` where earlier records of the capture have been written, and
`more` for a written record that others of its capture follow (08 R282, R288). -/
structure RecUnit where
  recs : List Record
  item : Bool := false
  ring : Option Nat := none
  part : Bool := false
  more : Bool := false
deriving DecidableEq, Repr

/-- A host event queue beside its registers (08 R279 to R288): records staged, COMPLETIONs that wait for room behind them (R287), records
generated after those and not issued, how often its ring has been enabled, losses
not yet reported with the time, the itemised count and the cause of the first one, and whether
LOSS has risen since the latest LOSS_COUNT. -/
structure HQueue where
  gen      : List RecUnit := []
  staged   : List RecUnit := []
  held     : List RecUnit := []
  epoch    : Nat := 0
  lost     : Nat := 0
  lostAt   : Nat := 0
  lostItem : Nat := 0
  lostWhy  : Nat := 0
  raised   : Bool := false
deriving DecidableEq, Repr

/-- The sluice (08): source lines that have risen, sources, groups, the item store, host event queues, the queue that
drained last (R286), and the losses to staging since the latest LOSS record (13 R467). -/
structure Sluice where
  rises  : List Rise := []
  srcs   : Tbl Src := []
  grps   : Tbl Group := []
  items  : List Item := []
  hqs    : Tbl HQueue := []
  rr     : Nat := 63
  lossStage : Nat := 0
deriving DecidableEq, Repr

/-! ### Host interface (09) -/

/-- One PCI Express function (09 R296 to R299, 08 R291, R292): Bus Master Enable, D3hot, PME_En and PME_Status, wake signalled, when it sent
its latest PM_PME message, MSI-X Enable,
Function Mask, the unmasked vectors, the PBA, and the MSI-X table's messages (address in bits [63:0], data in [95:64]). -/
structure Func where
  bme      : Bool := false
  d3       : Bool := false
  pmeEn    : Bool := false
  pmeStat  : Bool := false
  wakePend : Bool := false
  pmeAt    : Nat := 0
  msixEn   : Bool := false
  fmask    : Bool := false
  unmasked : List Nat := []
  pba      : List Nat := []
  msix     : Tbl (BitVec 96) := []
deriving DecidableEq, Repr

/-- An entry that has been fetched and not accepted (09 R309, R318). -/
structure Fetched where
  w      : Entry
  rgen   : Nat
  /-- the entry was taken after 16 reads with the wrong PHASE (09 R310) -/
  torn   : Bool
deriving DecidableEq, Repr

/-- A command ring beside its registers (09 R306 to R325): PI as last read, fetched entries, commands accepted and still
running, wrong-phase reads of the entry at CI, commands completed since the
latest FENCE, and the entries prefetched at CI that wait for the index line (R309). -/
structure Ring where
  pi       : Nat := 0
  fetched  : List Fetched := []
  running  : List Cmd := []
  wrong    : Nat := 0
  fenced   : Nat := 0
  prefetch : List Entry := []
deriving DecidableEq, Repr

/-- What the part has sent to the link and the link has not acknowledged (08 R288), or waits for an answer. -/
inductive Posted
  /-- a record written to slot `slot` of host queue q, at an address in the memory of function `fn` (08 R279), in the queue's `epoch` -/
  | record (q slot fn addr epoch : Nat) (u : RecUnit)
  /-- an MSI-X message of function f: its vector, and the address and data of the vector's table entry (09 R297, R298) -/
  | msix (f vector addr data : Nat)
  /-- a PM_PME message of function f -/
  | pme (f : Nat)
  /-- a memory write of function f -/
  | write (f addr : Nat) (bytes : List (BitVec 8))
deriving DecidableEq, Repr

/-- A read that the part has issued on the link: its kind, whose memory, the address, the length, and when (ns). -/
inductive ReadKind
  | poll
  | index (line : Nat)
  | entries (ring first n : Nat)
  | body (uid off : Nat)
  | lighter (c : Nat)
  | rttProbe
  | wrProbe
deriving DecidableEq, Repr

structure Read where
  kind : ReadKind
  fn   : Nat
  addr : Nat
  len  : Nat
  at_  : Nat
deriving DecidableEq, Repr

/-- The host interface (09): functions, rings, NumVFs, the link, posted writes, outstanding reads, the round trips and
posted-write times of the last window with their times, when the latest poll, index line or entry fetch and the latest probe were issued
(R327), the serial of the next accepted command, the function served last and the ring of each (R320), WAKE#, the value that the latest BAR
read returned, and the SYS_RESET key state (01 R25). -/
structure HostIf where
  fns      : Tbl Func := []
  numVFs   : Nat := 0
  rings    : Tbl Ring := []
  l1       : Bool := false
  l23      : Bool := false
  posted   : List Posted := []
  reads    : List Read := []
  rtts     : List (Nat × Nat) := []
  wrts     : List (Nat × Nat) := []
  ownRead  : Option Nat := none
  probed   : Option Nat := none
  uid      : Nat := 0
  lastFn   : Nat := 7
  lastRing : Tbl Nat := []
  wakeLow  : Bool := false
  lastRead : Nat := 0
  key1     : Bool := false
  vigilReq : Option Cmd := none
deriving DecidableEq, Repr

/-! ### Harbour log (14) -/

/-- A STEP_TIME that was accepted: the command, the value as given (16 fraction bits), and its flags (02 R43 to R45). -/
structure StepReq where
  cmd   : Cmd
  value : Nat
  rel   : Bool
  unc   : Nat
  force : Bool
  /-- the AX0 values, 2^-48 ns, that the STEP record gives as the old and the new one -/
  old   : Nat
  new   : Nat := 0
deriving DecidableEq, Repr

/-- What a log record brings about when it is durable (14 R482, R488, 02 R45). -/
inductive LogAct
  | nothing
  | step (r : StepReq)
  | mark (c : Cmd)
  | clear (c : Cmd) (clearTo : Nat)
deriving DecidableEq, Repr

/-- A log record in the write queue: its class of 14 R481, LTYPE, units, the record's bytes before the valid mark (byte
k at bits [8k+7:8k]), and what follows when it is durable. -/
structure LogRec where
  cls   : Nat
  ltype : Nat
  units : Nat
  img   : Nat
  act   : LogAct := .nothing
deriving DecidableEq, Repr

/-- The record being written: its SEQ, the store units it takes, and when its last word is verified (elapsed ns; 14 R472). -/
structure LogWrite where
  item  : LogRec
  seq   : Nat
  units : List Nat
  done  : Nat := 0
deriving DecidableEq, Repr

/-- What the sampler has of the trigger it takes (14 R477): the entry that comes next, the data so far and its length, whether all of it
could be read, the ECLK cycle in which the next entry was reached, and that of the last sample. -/
structure Sampling where
  entry : Nat := 0
  off   : Nat := 0
  data  : Nat := 0
  ok    : Bool := true
  since : Nat
  last  : Nat
deriving DecidableEq, Repr

/-- A snapshot trigger that waits for the sampler (14 R477). -/
structure Trigger where
  list   : Nat
  src    : Nat
  ev     : Record
  at_    : Nat
  steady : Bool
  eclk   : Nat
deriving DecidableEq, Repr

/-- A keel entry (14 R490, R491). -/
structure KeelEntry where
  kind  : Nat
  close : Bool
  seq   : Nat
  at_   : Nat
  unit  : Nat
  body  : Nat
deriving DecidableEq, Repr

/-- An outstanding challenge (14 R485): the function, the nonce, CSEQ, CLEAR_TO, FIRST_SEQ and the elapsed time, ns. -/
structure Challenge where
  fn      : Nat
  nonce   : Nat
  cseq    : Nat
  clearTo : Nat
  first   : Nat
  at_     : Nat
deriving DecidableEq, Repr

/-- The harbour log (14). `store` holds the bytes of the main array and of the keel area at their store addresses; the write queue
and the record being written; entries that wait to be packed, with the elapsed ns at which they were generated; triggers that wait for the sampler, what it has of the
first, and each list's latest trigger
(elapsed ns); triggers dropped since the latest record; the bad units, records since the header's update and its generation; CSEQ, the
AUTH failures in a row, LOCK_END, the end (elapsed ns) of the lockout, the challenge; the keel's entries, its losses, the ones that
wait for its next write, KGEN, and what follows the write; the STEP_TIMEs accepted, first the one in progress (02 R44); what the scan
in RESET found; the counts of a close. -/
structure Log where
  store     : List Host.Cell := []
  queue     : List LogRec := []
  writing   : Option LogWrite := none
  pack      : List (Nat × Record) := []
  sampler   : List Trigger := []
  sampling  : Option Sampling := none
  lastSnap  : Tbl Nat := []
  dropped   : Nat := 0
  bad       : List Nat := []
  sinceHdr  : Nat := 0
  hdrGen    : Nat := 0
  cseq      : Nat := 0
  authFails : Nat := 0
  lockEnd   : Nat := 0
  lockUntil : Nat := 0
  challenge : Option Challenge := none
  keel      : List KeelEntry := []
  keelLost  : Nat := 0
  keelNew   : List KeelEntry := []
  keelGen   : Nat := 0
  keelBusy  : Bool := false
  keelDone  : Nat := 0
  keelActs  : List LogAct := []
  steps     : List StepReq := []
  torn      : Nat := 0
  lastClose : Nat := 0
  orderly   : Bool := false
  closing   : Bool := false
  closeEntries : Nat := 0
  closeKeel : Nat := 0
deriving DecidableEq, Repr

/-! ### Wheel trackers (03) -/

/-- One axis as a capture samples it: the axis, its value, quality and direction (02 R63, R64). -/
structure AxisCap where
  n : Nat
  v : Nat
  q : Nat
  rev : Bool
deriving DecidableEq, Repr

/-- An input transition that waits for its channel's scan slot (04 R109, R130): its time on AX0 and in elapsed time (1/8 ns),
the level after it, the axes sampled with it, by how much AX0 has stepped since (1/8 ns), and when it is delivered, where that was settled
before its filter changed (07 R226). -/
structure InEdge where
  t    : Nat
  el   : Nat
  lvl  : Bool
  axs  : List AxisCap
  off  : Int := 0
  due  : Option Nat := none
deriving DecidableEq, Repr

/-- What the latest accepted tooth left for READ_STATE (03 R91): value, AX0 time (2^-16 ns), global slot, period, slope, and in LIMP the
angle of the interval. -/
structure ToothSnap where
  v  : Nat := 0
  t  : Nat := 0
  g  : Int := 0
  p  : Nat := 0
  dp : Int := 0
  ang : Nat := 0
deriving DecidableEq, Repr

/-- What a tracker keeps of the phase wheel (03 R96, R101 to R103). `t`, `i` are the time of the latest phase edge and the
interval before it (1/8 ns), `run` and `idx` the edges matched in order and the latest of them (R102), `since` (one more than the
edges since sync dropped, 0 when not counted) and `stall` count edges for R101, `evid` is phase-order evidence that waits for the
next tooth (R96), `zero` that edge 0 has been met in SEEK (R75). In LIMP: `pos` the hidden signed position (2^-24 rev) at the AX0
time `at_` (1/8 ns), `lim` the pattern edge of the latest LIMP tooth, `intv`, `angle` the time and angle of its interval, `turn`
that the shaft has turned since, `wait` and `rejs` as the primary wheel's. -/
structure Phase where
  t     : Option Int := none
  i     : Option Nat := none
  run   : Nat := 0
  idx   : Nat := 0
  since : Nat := 0
  stall : Nat := 0
  evid  : Option (Nat × Bool) := none
  zero  : Bool := false
  pos   : Int := 0
  at_   : Int := 0
  lim   : Nat := 0
  intv  : Nat := 0
  angle : Nat := 0
  turn  : Bool := false
  wait  : Nat := 0
  rejs  : Nat := 0
deriving DecidableEq, Repr

/-- A wheel tracker beside its registers. `ps` is the state of the primary wheel's own search (0 off, 1 SEEK, 2 CONFIRM,
3 SYNC). `g`, `m` are the hidden signed position: the global slot, and micro-ticks beyond it after a reversal (R96, R99);
`tk` the time of the latest tooth (2^-16 ns of AX0); `hist` the periods, newest first (R82), `ivals` the intervals
accepted since the latest entry into CONFIRM, SYNC or forward motion; `wait` is 1 while the next tooth ends a stall or a
reversal and gives no interval, 2 while the next interval gives the period unchecked (R74, R95); `held` the axis value held
while there is no sync (R72), `floor` the value that the axis holds until it is overtaken (R104). `lastEdge`, `lastTooth` are
the times of the latest edge on the pin and of the latest tooth in SEEK (1/8 ns). `seekN`, `seekInt`, `teeth`, `rejs` count
under R73, R74, R78; `synced` is set from the first sync (R76). `inbox` holds what came in the running ECLK cycle: the part (0 DIR,
1 tooth, 2 phase edge) and the transition (R106). -/
structure Tracker where
  ps    : Nat := 0
  g     : Int := 0
  m     : Nat := 0
  tk    : Int := 0
  hist  : List Nat := []
  ivals : Nat := 0
  wait  : Nat := 0
  held  : Nat := 0
  floor : Nat := 0
  lastEdge  : Option Int := none
  lastTooth : Option Int := none
  seekN   : Nat := 0
  seekInt : Option Nat := none
  teeth   : Nat := 0
  rejs    : Nat := 0
  synced  : Bool := false
  ph      : Phase := {}
  snap    : ToothSnap := {}
  inbox   : List (Nat × InEdge) := []
deriving DecidableEq, Repr

/-! ### Channels and quays (04) -/

/-- The words 0x00 to 0x2F of a channel item, and its GEN (04 R116, R118). -/
structure ChItem where
  gen  : Nat := 0
  ctrl : Nat := 0
  io   : Nat := 0
  cmp  : Nat := 0
  en   : Nat := 0
  tcap : Nat := 0
  adv  : Nat := 0
  xax  : Nat := 0
  cnt  : Nat := 0
  width : Nat := 0
  aux  : Nat := 0
deriving DecidableEq, Repr

/-- A DISARM that waits for its channel to become idle (04 R121): the command, the GEN, items failed, pulse truncated. -/
structure Disarm where
  cmd   : Cmd
  gen   : Nat
  fails : Nat
  trunc : Bool
deriving DecidableEq, Repr

/-- An edge of a tick's pulse that waits for its visit (04 R134): the item, its time in elapsed AX0 (1/8 ns), the level. -/
structure Tail where
  item : ChItem
  el   : Nat
  start : Bool
deriving DecidableEq, Repr

/-- An item that has ended and still takes captures timestamped before its end (04 R131, R145): from when, until when (AX0,
1/8 ns), its PROG and ring index. -/
structure Ended where
  item  : ChItem
  from_ : Int
  until_ : Int
  prog  : Nat
deriving DecidableEq, Repr

/-- A channel (04 R116 to R137): its current item (`shown` is the latest one, `since` when it became current, AX0 1/8 ns), the queued item,
the GEN counter, and the STATUS, PROG and LAST words; what the quay keeps for the item: first edge committed and placed, end committed, the
gate level at the end of its latest slot, the start's time on AX0 and in elapsed time (1/8 ns), the close of a window on AX0, the next pulse
or tick, selected input edges since the latest tick, ticks taken, SHORT seen, the jump (old and new axis value) that passed an event not yet
begun, the elapsed times of tick pulses' ends that wait, a closing edge that a truncation owes; the latest edge of the channel; the
measurement's edges (elapsed), the time its cap runs from and whether the cap has reported; input transitions that wait for the slot;
whether a commitment has found the generator full; the frozen flag (13 R453); the item that ended last; DISARMs that wait;
the ring commands that wait for the slot (R109); the level that a GATE has committed to its pin; the load of a TRAIN's slot: the tooth's
time and the first pulse not begun then (R127). -/
structure Chan where
  cur     : Option ChItem := none
  shown   : ChItem := {}
  since   : Int := 0
  queued  : Option ChItem := none
  gen     : Nat := 0
  cstate  : Nat := 0
  late    : Bool := false
  auditErr : Bool := false
  gateOpen : Bool := false
  rate    : Bool := false
  miss    : Nat := 0
  prog    : Nat := 0
  lastSub : Nat := 0
  last    : Nat := 0
  started : Bool := false
  placed  : Bool := false
  endSet  : Bool := false
  held    : Bool := false
  startT  : Int := 0
  startEl : Nat := 0
  closeT  : Option Int := none
  k       : Nat := 0
  inCnt   : Nat := 0
  ticks   : Nat := 0
  short   : Bool := false
  jump    : Option (Nat × Nat) := none
  tails   : List Tail := []
  owed    : Option ChItem := none
  lastEdge : Option Int := none
  mSel    : Option Nat := none
  mOpp    : Option Nat := none
  mFrom   : Nat := 0
  mOut    : Bool := false
  inputs  : List InEdge := []
  full    : Bool := false
  frozen  : Bool := false
  ended   : Option Ended := none
  waits   : List Disarm := []
  cmds    : List Cmd := []
  drv     : Bool := false
  load    : Option (Int × Nat) := none
deriving DecidableEq, Repr

/-- What a committed edge is to its item: the first edge (start, open, the single edge), the end or close, a DIVIDE tick,
the end of a tick's pulse, a level change of a gate, a closing edge that DISARM or a truncation places. -/
inductive EdgeRole
  | first
  | last
  | tick
  | tail
  | level (isOpen : Bool)
  | closing (done : Bool)
deriving DecidableEq, Repr

/-- A committed edge in the edge generator (04 R112 to R114): the channel, the item as it was committed, its role, the level
that it drives on OUT_PIN (none for a SOFT event or a window) or a toggle, the placed time (AX0, 1/8 ns), LATE with its
lateness (`native`: in axis units, else ns), CAPPED, SHORT, the pulse's index, the axis value at which it was due, whether
it takes no slot of its own (R113), whether its item has ended as completed with this edge still to place (R119, R142), and whether a
mirroring spare holds it too (R147). -/
structure Edge where
  ch    : Nat
  item  : ChItem
  role  : EdgeRole
  lvl   : Option Bool := none
  toggle : Bool := false
  t     : Nat
  late  : Bool := false
  lateBy : Nat := 0
  native : Bool := false
  capped : Bool := false
  short : Bool := false
  k     : Nat := 0
  due   : Nat := 0
  own   : Bool := false
  fin   : Bool := false
  mir   : Bool := false
deriving DecidableEq, Repr

/-- A logical quay: its committed edges, the scan rate in use, whether the round that precedes a change runs (13 R460), the index that is
visited next and the ECLK cycle of the latest visit (04 R109). -/
structure Quay where
  edges : List Edge := []
  half  : Bool := true
  round : Bool := false
  next  : Nat := 0
  at_   : Option Nat := none
deriving DecidableEq, Repr

/-- A physical quay beside its registers: the pins of the current run of audit faults, the pins inherited from a
predecessor, its substitution mismatches, and when (ns) it calibrated last since the latest core reset (13 R452 to R455). -/
structure PhysQuay where
  run       : List Nat := []
  inherited : List Nat := []
  mismatches : Nat := 0
  calAt     : Option Nat := none
deriving DecidableEq, Repr

/-- A running substitution (04 R147): logical quay, old and new physical quay, phase (1 copying, 2 comparing, 3 seeking
t_s), when it was accepted (ns), the command (none when automatic), and the channels that failed QUAY_FAULT. -/
structure Subst where
  q     : Nat
  old   : Nat
  new   : Nat
  phase : Nat
  at_   : Nat
  cmd   : Option Cmd
  failed : Nat := 0
deriving DecidableEq, Repr

/-- The quays (04, 13): channels, logical and physical quays, the running substitution, the physical quays that wait for an
automatic substitution, and those whose 100 µs retry runs (R452). -/
structure Quays where
  chans : Tbl Chan := []
  quays : Tbl Quay := []
  phys  : Tbl PhysQuay := []
  subst : Option Subst := none
  auto  : List Nat := []
  retry : List (Nat × Nat) := []
deriving DecidableEq, Repr

/-! ### TIO crossbar (07 R222 to R226) -/

/-- Who placed an edge on a pin: a channel, for an item's GEN, or a lane of a pin engine, for a PGEN (04 R139, 07 R251,
R253). -/
inductive Driver
  | channel (c gen : Nat)
  | engine (n lane gen : Nat)
deriving DecidableEq, Repr

/-- A placed change of level that the audit expects on a pin (04 R139). -/
structure Expect where
  by_  : Driver
  t    : Nat
  lvl  : Bool
deriving DecidableEq, Repr

/-- A TIO pin: the level at the ball, the filtered level as consumers see it, the transitions in the filter, oldest first (the last one's
window may still run; the others have been accepted and wait for delivery, 07 R225), the level that a channel drives (none before R571
starts its drive), the level that pin engines have written last and, for the latest write, its ECLK cycle, its engine, the level before that
cycle and its time (07 R229), the audits that wait, a raw transition that no placed change has
claimed yet and the time of the latest placed edge (04 R139). -/
structure Pin where
  ball   : Bool := false
  filt   : Bool := false
  window : List InEdge := []
  chLvl  : Option Bool := none
  peLvl  : Bool := false
  peBy   : Option (Nat × Nat × Bool × Nat) := none
  expect : List Expect := []
  early  : Option (Nat × Bool) := none
  placed : Option Nat := none
deriving DecidableEq, Repr

/-! ### Berths and the dredger (11) -/

/-- A loan of a berth (11 R386): the berth, the chunk under test and whether the return has begun (R388). -/
structure Loan where
  b : Nat
  chunk : Nat
  back : Bool := false
deriving DecidableEq, Repr

/-- A word that a port of a berth has written in the ECLK cycle that runs (11 R375, R376): P1 or P0, the word (berth × 8192 + word)
and the number that it held before. -/
structure PortWrite where
  p1 : Bool
  word : Nat
  old : Nat
deriving DecidableEq, Repr

/-- Berths and dredger beside their registers (11): the words written in the ECLK cycle `cycAt`, the uncorrectable words (berth × 8192 +
word), the words that hold a correctable error, ECLK time (ns) of the latest access of each berth, the next chunk of each berth, the loan, the
rows under repair of each REPAIRING berth, the first at work, the relocation (berth and target) and those that wait, rows that the save buffer serves (R388), rows' corrected words of this scrub
pass, and failing columns' rows of a bank (R385); BH_OWNER writes and BERTH_HANDOVERs that wait for a return; the ECLK cycle of a berth's latest
handover with its owner before it (R381); the word that the scrub reads next, and of a store, and when it read the last ones (ns), the berths whose march repeat is due (R393), and whether the zeroing after HM_SEAL runs (R394). -/
structure Dredger where
  cyc     : List PortWrite := []
  cycAt   : Nat := 0
  bad     : List Nat := []
  soft    : List Nat := []
  used    : Tbl Nat := []
  chunk   : Tbl Nat := []
  loan    : Option Loan := none
  repair  : Tbl (List Nat) := []
  reloc   : Option (Nat × Nat) := none
  relocs  : List Nat := []
  buffer  : List (Nat × Nat) := []
  ces     : List (Nat × Nat) := []
  columns : List (Nat × Nat) := []
  owners  : Tbl Nat := []
  waits   : List Cmd := []
  prev    : Tbl (Option (Nat × Nat × Nat)) := []
  word    : Nat := 0
  sword   : Nat := 0
  scrubAt : Nat := 0
  again   : Bool := false
  zeroing : Bool := false
deriving DecidableEq, Repr

/-! ### Modes, clocks and the part's pins (01, 13, 15, 16) -/

/-- What the mode control keeps beside SYS_MODE: the recovery causes of this STEADY period that have not ended (01 R20), the
end of the start-up self-test, whether the core is powered (not in VIGIL), RESET# low, the debounced level of KEY_ON
(01 R24), whether the core supplies are good (15 R502), whether a key-on has been debounced (R531), whether the vigil has
risen from below retention since the latest start of the core (R504), and the repair map (13 R457): the values of the register fields
that it restores, by their numbers. -/
structure Sys where
  supplies : Bool := false
  want     : Bool := false
  cold     : Bool := true
  causes   : List Nat := []
  tested   : Bool := false
  powered  : Bool := false
  resetLow : Bool := false
  keyHigh  : Bool := false
  map      : Tbl Nat := []
deriving DecidableEq, Repr

/-! ### The causeway (12) -/

/-- A frame that waits to be sent, or the content of one (12 R404 to R406): TYPE, the sender's DID as the header gives it, the
destination DID (none for the neighbour), and the body, byte k at bits [8k+7:8k]. -/
structure Frame where
  typ   : Nat
  from_ : Nat
  dst   : Option Nat := none
  body  : Nat := 0
deriving DecidableEq, Repr

/-- The latest SYNC that a port received (12 R409): sender, transmit time (2^-16 ns), rate word, AX0_UNC, MASTER_DID, HOPS,
NOPATH, STEADY and PATH. -/
structure SyncView where
  from_  : Nat := 0
  time   : Nat := 0
  rate   : Int := 0
  unc    : Nat := 0
  master : Nat := 0
  hops   : Nat := 0
  nopath : Bool := false
  steady : Bool := false
  path   : List Nat := []
deriving DecidableEq, Repr

/-- A causeway port beside its registers: the frames that wait and the latest one sent, the delays accepted (2^-16 ns, newest first)
and rejected in a row, the sequence of the latest DREQ and its transmit time (2^-16 ns) until it is answered, the latest SYNC and its
elapsed time (ns), since when the port has been usable and has offered master 0 (ns), the latest ROUTE bitmap, the ROUTE bitmaps
with their times (ns) whose entries have not expired, the REC frames not acknowledged (link sequence, body), when each was last sent (ns),
the next sequence to send and the next expected; when the port entered ALIGN (ns), and when the frame on the wire ends (0.1 ns). -/
structure CwPort where
  tx      : List Frame := []
  wire    : Option Frame := none
  delays  : List Int := []
  rejRun  : Nat := 0
  dreqSeq : Nat := 0
  dreqAt  : Option Nat := none
  sync    : SyncView := {}
  syncAt  : Option Nat := none
  usableAt : Option Nat := none
  zeroAt  : Option Nat := none
  route   : Nat := 0
  routes  : List (Nat × Nat) := []
  recs    : List (Nat × Nat) := []
  recAt   : Tbl Nat := []
  txSeq   : Nat := 0
  rxSeq   : Nat := 0
  alignAt : Nat := 0
  wireEnd : Nat := 0
deriving DecidableEq, Repr

/-- A subscription entry (12 R426): publisher's DID and slot, and for each port that has asked the elapsed time (ns). -/
structure Sub where
  did   : Nat
  slot  : Nat
  ports : Tbl Nat := []
deriving DecidableEq, Repr

/-- What the report of one class counts (12 R440). -/
structure TallyGroup where
  stale : Nat := 0
  mism  : Nat := 0
  lowStale : Nat := 0xFFFF
  lowMism  : Nat := 0xFFFF
deriving DecidableEq, Repr

/-- The causeway beside its registers: ports, subscriptions, the REC bodies held while ISOLATED, the origin sequence, for each DID
the next expected sequence and the missing ones with the times (ns) of their gaps; the servo's accepted offsets of the interval, how
many it has seen, the previous mean, the intervals in a row that were discarded and that were good, the integral, the ECLK cycle of
the latest re-parent; the time until which there was a usable candidate with master 0 (ns); the round's groups and devices
reporting, the elapsed time of its start (ns), whether its report has gone, the classes compared in it; TALLY_SET values that wait
for the next round (epoch, digest, ECLK cycle); when each periodic send was last made (R406). -/
structure Causeway where
  ports  : Tbl CwPort := []
  subs   : List Sub := []
  held   : List Nat := []
  origin : Nat := 0
  expect : Tbl Nat := []
  gaps   : Tbl (List (Nat × Nat)) := []
  offs   : List Int := []
  seen   : Nat := 0
  prev   : Int := 0
  badRun : Nat := 0
  goodRun : Nat := 0
  integ  : Int := 0
  moved  : Option Nat := none
  noZero : Nat := 0
  groups : Tbl TallyGroup := []
  devices : Nat := 0
  roundAt : Nat := 0
  reported : Bool := true
  compared : Nat := 0
  nextSet : Tbl (Nat × Nat × Nat) := []
  timers : Tbl (Option Nat) := []
deriving DecidableEq, Repr

/-! ### Pin engines (07 R227 to R257) -/

/-- What a swap will make active (07 R244 to R249): the program block, the command that brought it (none from PN_PROG), and when
SWAP_DEADLINE ends (ns of ECLK time; none before the entry into OPERATE, 01 R17). -/
structure Shadow where
  prog : BitVec 1024
  cmd  : Option Cmd
  due  : Option Nat
deriving DecidableEq, Repr

/-- The latest transition of one sense on a lane since the program started: its AX0 time (1/8 ns) and how many (07 R241). -/
structure LaneCap where
  t : Nat := 0
  n : Nat := 0
deriving DecidableEq, Repr

/-- A pin engine beside its registers (07 "Engine state"): WA, WB, SR, CNT, the event latches, lane levels and enables, the phase
accumulator and the ticks that remain before the next issue (R230, R231), the FIFOs, the running block and the shadow, the lanes'
latest edges (by 2 × lane + falling), and of the wait that runs: whether its edge has come, whether CNT has reached 0, the GEN of
the event that WAITX is bound to, whether that event has been placed, and the words of a CAPT as it issued (R241); and whether the latest
WAITX event was LATE (R234). -/
structure PinEngine where
  wa : BitVec 32 := 0
  wb : BitVec 32 := 0
  sr : BitVec 32 := 0
  cnt : BitVec 16 := 0
  latch : BitVec 4 := 0
  lvl : BitVec 8 := 0
  oe : BitVec 8 := 0
  acc : BitVec 32 := 0
  slack : Nat := 0
  tx : List (BitVec 32) := []
  rx : List (BitVec 32) := []
  prog : BitVec 1024 := 0
  shadow : Option Shadow := none
  caps : Tbl LaneCap := []
  edge : Bool := false
  tmo : Bool := false
  bound : Option Nat := none
  wxDone : Bool := false
  capt : List (BitVec 32) := []
  wxLate : Bool := false
deriving DecidableEq, Repr

/-! ### Microengines (05, 06) -/

/-- A hardware frame (05 R188, 06 R192 to R197): PC, the flags, LOOP, the slip (48 bytes), the event window, its own return-stack
entries, newest first, the source that opened it with its event's GEN (none for the base level), and its group. -/
structure MeFrame where
  pc : Nat := 0
  z : Bool := false
  n : Bool := false
  c : Bool := false
  v : Bool := false
  qe : Bool := false
  be : Bool := false
  se : Bool := false
  ae : Bool := false
  loop : BitVec 16 := 0
  slip : BitVec 384 := 0
  ev : List Record := []
  stack : List Nat := []
  src : Option (Nat × Nat) := none
  grp : Nat := 0
deriving DecidableEq, Repr

/-- An active source of an engine (06 R203): its event's GEN, the frame that took it, and the PC of that frame once it has exited. -/
structure Active where
  src : Nat
  gen : Nat
  frame : Nat
  exited : Option Nat := none
deriving DecidableEq, Repr

/-- The latched snapshot of a tracker or of AX0 (05 R179): the words of AP_W. -/
abbrev Snapshot := List (BitVec 64)

/-- What the axis unit port returns to a word when it issues (05 R178, R179): APD, the axis register's value, AE, and the snapshots
of the engine after it; none where it returns or changes none. -/
structure ApResult where
  apd : Option (BitVec 32) := none
  ar : Option (BitVec 64) := none
  ae : Option Bool := none
  trk : Option Snapshot := none
  ax0 : Option Snapshot := none
deriving DecidableEq, Repr

/-- A physical microengine beside its registers (05, 06): R1 to R31, AR0 to AR3, local flags, TIMER, the watch (axis, value), the snapshots,
the frames, lowest first, the active sources, the words of the atomic run with its channel access and berth words (R182, R183), whether the
boundary before the next word is sampled, the word's COND and axis port result while its channel access waits for the scan slot (R167)
and while its berth returns (R185), the waiting sources that DEPTH_FULL has counted (R195); the stores (words beyond the image read as
unloaded) with the image's BASE_ENTRY, RECOVER_ENTRY and vectors (R215), and its SHA-256 (12 R437); the ECLK time (ns) from which the
watchdog counts, and what it had counted when the last frame closed (R207); and the PC at which a fault stopped it (05 R187). -/
structure Engine where
  gpr : Tbl (BitVec 32) := []
  ar : Tbl (BitVec 64) := []
  lf : BitVec 8 := 0
  timer : BitVec 32 := 0
  watch : Option (Nat × Nat) := none
  trkSnap : Snapshot := []
  ax0Snap : Snapshot := []
  frames : List MeFrame := []
  active : List Active := []
  run : Nat := 0
  runQp : Nat := 0
  runBp : Nat := 0
  sampled : Bool := true
  qpWait : Option (Bool × ApResult) := none
  bpWait : Option (Bool × ApResult) := none
  full : List Nat := []
  micro : List (BitVec 48) := []
  nano : List (BitVec 192) := []
  base_ : Nat := 0
  recover_ : Nat := 0
  vectors : List Nat := []
  digest : BitVec 256 := 0
  beat : Nat := 0
  beatHeld : Nat := 0
  stop : Nat := 0
deriving DecidableEq, Repr

/-- A LOAD_IMAGE (06 R216 to R218): the command (none from boot code), the load target, the image's address and length, the key
slot, the bytes that have arrived, and whether it still waits for the target to stop. -/
structure MeLoad where
  cmd : Cmd
  target : Nat
  space : Nat
  addr : Nat
  len : Nat
  slot : Nat := 0
  bytes : List Byte := []
  halting : Bool := false
deriving DecidableEq, Repr

/-- A relief or a return (06 R212, R213): the physical engine that gives up the logical engine and the one that takes it over, the
command, whether it is a return, the fault cause of an unplanned one, whether the stores are copied, and whether a warm copy is used. -/
structure MeRelief where
  old : Nat
  new : Nat
  cmd : Option Cmd
  ret : Bool := false
  cause : Option Nat := none
  copied : Bool := false
  warm : Bool := false
deriving DecidableEq, Repr

/-- An ACTIVATE_IMAGE (06 R219): the command, KEEP_REGS, when DRAIN_US ends (ns), and the frames abandoned with DRAIN. -/
structure MeAct where
  cmd : Cmd
  keep : Bool
  due : Nat
  lost : Nat := 0
deriving DecidableEq, Repr

/-- A logical engine: the physical engines that serve it and are its home where these are not the engine of its own number
(R212 to R214), what runs on it, and whether its home has been loaded since a relief took it over (06 R212). -/
structure MeOps where
  serv : Option Nat := none
  home : Option Nat := none
  load : Option MeLoad := none
  relief : Option MeRelief := none
  act : Option MeAct := none
  loaded : Bool := false
deriving DecidableEq, Repr

/-! ### The lighter (10) -/

/-- A loop frame (10 R341): the remaining count, none for an endless one, and the body's address. -/
structure LtLoop where
  count : Option Nat
  body : Nat
deriving DecidableEq, Repr

/-- A burst in flight (10 R345, R347): its source address and its bytes there, the bytes that it has still to write, what its read has
returned and not passed on, the words of an RX port that it has still to read, and whether its data has returned. -/
structure LtBurst where
  src : Nat
  len : Nat
  out : Nat
  data : Option HostData := none
  need : Nat := 0
  back : Bool := false
deriving DecidableEq, Repr

/-- A channel as it stood at the start of the writes of its first burst (10 R362): the holding register, the destination register and the
bytes not yet written. -/
structure LtMark where
  hold : List Byte
  dst : Nat
  wr : Nat
deriving DecidableEq, Repr

/-- A failed descriptor whose word is still to be written back (10 R353): its cause, the failing address, whether that was a write. -/
structure LtFailing where
  cause : Nat
  addr : Nat
  wr : Bool
deriving DecidableEq, Repr

/-- The MOVE under way (10 R346, R360): its word, its address, bytes not yet read and bytes not yet written. -/
structure LtMove where
  word : BitVec 64
  pc : Nat
  rd : Nat
  wr : Nat
deriving DecidableEq, Repr

/-- A held instruction line (10 R336, R357): its address, its 64 bytes, the LT_PI at its read, and that of the words fetched again. -/
structure LtLine where
  addr : Nat
  data : BitVec 512
  pi : Nat
  words : Tbl (Option Nat) := []
deriving DecidableEq, Repr

/-- A lighter channel beside its registers (10 R330): A0 to A3, loop frames, innermost first, the holding register of 32 bytes, the MOVE
under way and its bursts, oldest first, with the state at the start of the first of them, and its failure while that waits to be written
back; held lines and line reads under way (address, LT_PI); the start (ns) of a WAIT; the FENCE under way; the host address and the
words of berths written since the latest FENCE (R351); whether host memory has been accessed since START_LIGHTER (R362); SIGNAL and END
event sources raised (R364); LT_PI as last read; whether the word of the parked END is being fetched again, with its LT_PI, and since
when it has been parked (ns); the PAUSE_LIGHTER that drains; since when (ns) a read or a write of a port is held (R242). -/
structure Lt where
  areg : Tbl (BitVec 64) := []
  loops : List LtLoop := []
  hold : List Byte := []
  move : Option LtMove := none
  bursts : List LtBurst := []
  mark : Option LtMark := none
  fail : Option LtFailing := none
  lines : List LtLine := []
  fetches : List (Nat × Nat) := []
  wait : Option Nat := none
  fence : Bool := false
  hostDirty : Option Nat := none
  berthDirty : Tbl Nat := []
  usedHost : Bool := false
  sigs : Nat := 0
  pi : Nat := 0
  refetch : Option Nat := none
  tailAt : Nat := 0
  pause : Option Cmd := none
  rdHeld : Option Nat := none
  wrHeld : Option Nat := none
deriving DecidableEq, Repr

/-- The lighter: channels, and of each priority level the channel that was served last (10 R347). -/
structure Lighter where
  chans : Tbl Lt := []
  last : Tbl Nat := []
deriving DecidableEq, Repr

/-! ### Boot, vigil, fuses and test access (15, 16) -/

/-- The fuses (15 R511). -/
structure Fuses where
  hash : Tbl (BitVec 256) := []
  revoke : BitVec 4 := 0
  svn : Nat := 0
deriving DecidableEq, Repr

/-- The boot ROM and boot code beside SYS_BOOT (15 R506 to R517): whether the ROM's steps 1 to 7 are done; AX0 (ns) and AX0_UNC as loaded
from the vigil, the sources that remain (0 QSPI A, 1 QSPI B, 2 push), the image, the KEY_HASH slots that verified it, the index of the
operation, when a poll or delay ends (ns), the engines to activate and the pin-engine blocks to start at HM_SEAL, the log key, whether
this is a key-on (CAUSE 0x01), and the ECLK cycle of the SEAL operation (R533). -/
structure Boot where
  loaded : Bool := false
  ax0 : Nat := 0
  unc : Nat := 0
  sources : List Nat := []
  image : List Byte := []
  slots : List Nat := []
  op : Nat := 0
  poll : Option Nat := none
  delay : Option Nat := none
  acts : List Nat := []
  progs : Tbl (BitVec 1024) := []
  logKey : BitVec 256 := 0
  keyOn : Bool := false
  sealAt : Option Nat := none
deriving DecidableEq, Repr

/-- The vigil beside its registers (15 R524 to R531): the counter in units of 2^-32 ns, the increment that applies from the next
edge, the phase of the crystal (32 768 Hz of the model's time, unit 2^-15 ns, an edge each 10^9), the counter at the latest copy,
whether the crystal has stopped, the time that the crystal has told (2^-15 ns), and that of the latest temperature sample. -/
structure Vigil where
  cnt : Nat := 0
  inc : Nat := 131072000000000
  phase : Nat := 0
  offAt : Nat := 0
  stopped : Bool := false
  el : Nat := 0
  sampled : Option Nat := none
deriving DecidableEq, Repr

/-- The instruction of the test access port (16 R557). -/
inductive TapOp
  | bypass
  | idcode
  | sample
  | preload
  | extest
  | clamp
  | highz
  | intest
deriving DecidableEq, Repr

/-- The test access port: its instruction, the boundary register's levels and enables, and what SAMPLE or INTEST left in it. -/
structure Tap where
  op : TapOp := .idcode
  lvl : BitVec 128 := 0
  oe : BitVec 128 := 0
  seen : BitVec 128 := 0
  dr : BitVec 32 := 0
deriving DecidableEq, Repr

/-! ### The running ECLK cycle -/

/-- What has happened in one ECLK cycle, where a rule settles what the happenings of a cycle do to each other: its ECLK count, and the bits
of W1C fields that events have set in it, by the number of the field (00 R6); of RC fields that have counted in it, by their number, the
value before and how much they counted, and of registers that the host has written in it the function, the offset and the word before
(17 R565). It counts for nothing once ECLK has moved on. -/
structure Cycle where
  at_  : Nat := 0
  w1c  : Tbl Nat := []
  rc   : List (Nat × Nat × Nat) := []
  wr   : List (Nat × Nat × Nat) := []
deriving DecidableEq, Repr

/-! ### The whole part -/

/-- The part: the values of the register fields that differ from their reset values, by the number that `Fld.key` gives (17 R570), the berth
memory (11 R370; address 0x1_0000 × berth + byte), the fuses (15 R511), AX0, the shared flags (05 R177), each block's hidden
state. -/
structure Dev where
  regs : Tbl Nat := []
  mem  : List Host.Cell := []
  tb   : Timebase := {}
  axes : Tbl Axis := []
  trk  : Tbl Tracker := []
  qy   : Quays := {}
  pins : Tbl Pin := []
  dr   : Dredger := {}
  sys  : Sys := {}
  cw   : Causeway := {}
  sl   : Sluice := {}
  hi   : HostIf := {}
  lg   : Log := {}
  sf   : BitVec 32 := 0
  pn   : Tbl PinEngine := []
  me   : Tbl Engine := []
  mo   : Tbl MeOps := []
  lt   : Lighter := {}
  fuse : Fuses := {}
  boot : Boot := {}
  vg   : Vigil := {}
  tap  : Tap := {}
  /-- what the running ECLK cycle has seen (the model's own field) -/
  cyc  : Cycle := {}
  /-- how many free values have been used (the model's own field) -/
  freeCtr : Nat := 0
deriving DecidableEq, Repr

/-- The state of the model: the part and the queue of the commands that wait, first in, first out. -/
structure State where
  dev     : Dev := {}
  pending : List Instr := []
deriving DecidableEq, Repr

/-- The part right after a cold power-up (15 R504, R532), the one reset after which nothing survives: every register at its reset
value of 17 R570, after a loss of AX0's continuity (01 R29, 17 R563): AX0_INVALID of SYS_FAULT (bit address 0x100) is 1 and STATE of
AX0_STATUS (bit address 0x410C0) is INVALID, which saturates AX0_UNC. -/
def State.reset : State := { dev := { regs := [(0x100, 1), (0x410C0, 3)] } }

end Sys2Proof.Machine
end

