-- ==== Sys2Proof/Machine/Regs.lean ====
section
/-! DEFINITION. The register map (17 R559, R570, and the field table of each chapter): one `Fld` per field, named as
the spec names it, and one `RegRow` per register with the access code of each field (00 R6).
Only the value of a field that differs from its reset value is listed in the state. -/

namespace Sys2Proof.Machine

/-- Where a field lies: its bit address in BAR0 (8 × offset + bit; for a register with several instances, that of the first), its width,
and its reset value for an instance. -/
structure Fld where
  pos : Nat
  len : Nat
  rst : Nat → Nat := fun _ => 0

/-- The access codes of 00 R6 that a field of the map has. -/
inductive Acc
  | rw
  | ro
  | rc
  | w1c
  | wo
  | sealed
deriving DecidableEq, Repr

/-- One register of R570: offset, distance and number of instances, distance and number along a second index, width in
bits and the fields. -/
structure RegRow where
  base   : Nat
  stride : Nat := 0
  count  : Nat := 1
  stride2 : Nat := 0
  count2 : Nat := 1
  width  : Nat
  flds   : List (Fld × Acc)

/-- The number of instance i, j of a field in the state: its low 32 bits are the field's bit address, so no two fields share one. -/
def Fld.key (f : Fld) (i j : Nat) : Nat := f.pos % 2 ^ 32 + 2 ^ 32 * (i + 2 ^ 32 * j)

/-- The k-th of the like fields of one register, so many bits apart. -/
def Fld.nth (f : Fld) (step k : Nat) : Fld := { f with pos := f.pos + step * k }

/-! SYS_ID, 64 bits (17 R566). -/
def SYS_ID.VENDOR_ID : Fld := ⟨0x0, 16, fun _ => 8078⟩
def SYS_ID.DEVICE_ID : Fld := ⟨0x10, 16, fun _ => 34066⟩
def SYS_ID.REVISION : Fld := ⟨0x20, 8, fun _ => 1⟩
def SYS_ID.JEDEC_ID : Fld := ⟨0x28, 11, fun _ => 1453⟩
def rowSYS_ID : RegRow := ⟨0x0, 0x0, 1, 0, 1, 64, [(SYS_ID.VENDOR_ID, .ro), (SYS_ID.DEVICE_ID, .ro), (SYS_ID.REVISION, .ro), (SYS_ID.JEDEC_ID, .ro)]⟩

/-! SYS_CAP, 32 bits (17 R568). -/
def SYS_CAP.QUAYS : Fld := ⟨0x40, 6, fun _ => 32⟩
def SYS_CAP.ENGINES : Fld := ⟨0x46, 6, fun _ => 24⟩
def SYS_CAP.PIN_ENGINES : Fld := ⟨0x4c, 6, fun _ => 32⟩
def SYS_CAP.LIGHTER : Fld := ⟨0x52, 6, fun _ => 32⟩
def SYS_CAP.BERTHS : Fld := ⟨0x58, 6, fun _ => 32⟩
def rowSYS_CAP : RegRow := ⟨0x8, 0x0, 1, 0, 1, 32, [(SYS_CAP.QUAYS, .ro), (SYS_CAP.ENGINES, .ro), (SYS_CAP.PIN_ENGINES, .ro), (SYS_CAP.LIGHTER, .ro), (SYS_CAP.BERTHS, .ro)]⟩

/-! SYS_MODE, 32 bits (01 R19). -/
def SYS_MODE.MODE : Fld := ⟨0x80, 2, fun _ => 0⟩
def SYS_MODE.PENDING_GO : Fld := ⟨0x82, 1, fun _ => 0⟩
def SYS_MODE.AUTO_RESUME : Fld := ⟨0x83, 1, fun _ => 1⟩
def SYS_MODE.GO : Fld := ⟨0x84, 1, fun _ => 0⟩
def SYS_MODE.HOLD : Fld := ⟨0x85, 1, fun _ => 0⟩
def SYS_MODE.CAUSE : Fld := ⟨0x88, 8, fun _ => 0⟩
def SYS_MODE.STEPPED : Fld := ⟨0x90, 1, fun _ => 0⟩
def SYS_MODE.ARMED : Fld := ⟨0x91, 1, fun _ => 0⟩
def SYS_MODE.GO_REQ : Fld := ⟨0x92, 1, fun _ => 1⟩
def rowSYS_MODE : RegRow := ⟨0x10, 0x0, 1, 0, 1, 32, [(SYS_MODE.MODE, .ro), (SYS_MODE.PENDING_GO, .ro), (SYS_MODE.AUTO_RESUME, .rw), (SYS_MODE.GO, .wo), (SYS_MODE.HOLD, .wo), (SYS_MODE.CAUSE, .ro), (SYS_MODE.STEPPED, .ro), (SYS_MODE.ARMED, .ro), (SYS_MODE.GO_REQ, .ro)]⟩

/-! SYS_RESET, 32 bits (01 R25). -/
def SYS_RESET.KEY : Fld := ⟨0xc0, 32, fun _ => 0⟩
def rowSYS_RESET : RegRow := ⟨0x18, 0x0, 1, 0, 1, 32, [(SYS_RESET.KEY, .wo)]⟩

/-! SYS_FAULT, 32 bits (13 R469). -/
def SYS_FAULT.AX0_INVALID : Fld := ⟨0x100, 1, fun _ => 0⟩
def SYS_FAULT.TB_DEGRADED : Fld := ⟨0x101, 1, fun _ => 0⟩
def SYS_FAULT.QUAY_EXHAUSTED : Fld := ⟨0x102, 1, fun _ => 0⟩
def SYS_FAULT.ENGINE_EXHAUSTED : Fld := ⟨0x103, 1, fun _ => 0⟩
def SYS_FAULT.BERTH_EXHAUSTED : Fld := ⟨0x104, 1, fun _ => 0⟩
def SYS_FAULT.FREQ_HOLD : Fld := ⟨0x105, 1, fun _ => 0⟩
def SYS_FAULT.SW : Fld := ⟨0x106, 1, fun _ => 0⟩
def rowSYS_FAULT : RegRow := ⟨0x20, 0x0, 1, 0, 1, 32, [(SYS_FAULT.AX0_INVALID, .ro), (SYS_FAULT.TB_DEGRADED, .ro), (SYS_FAULT.QUAY_EXHAUSTED, .ro), (SYS_FAULT.ENGINE_EXHAUSTED, .ro), (SYS_FAULT.BERTH_EXHAUSTED, .ro), (SYS_FAULT.FREQ_HOLD, .ro), (SYS_FAULT.SW, .rw)]⟩

/-! SYS_FMASK, 32 bits (13 R469). -/
def SYS_FMASK.EN : Fld := ⟨0x140, 7, fun _ => 127⟩
def rowSYS_FMASK : RegRow := ⟨0x28, 0x0, 1, 0, 1, 32, [(SYS_FMASK.EN, .sealed)]⟩

/-! SYS_REPAIR, 32 bits (13 R469). -/
def SYS_REPAIR.SPARE_QUAYS : Fld := ⟨0x180, 2, fun _ => 2⟩
def SYS_REPAIR.RELIEF_FREE : Fld := ⟨0x182, 2, fun _ => 2⟩
def SYS_REPAIR.SPARE_BERTHS : Fld := ⟨0x184, 6, fun _ => 0⟩
def SYS_REPAIR.MAP_VALID : Fld := ⟨0x18a, 1, fun _ => 0⟩
def rowSYS_REPAIR : RegRow := ⟨0x30, 0x0, 1, 0, 1, 32, [(SYS_REPAIR.SPARE_QUAYS, .ro), (SYS_REPAIR.RELIEF_FREE, .ro), (SYS_REPAIR.SPARE_BERTHS, .ro), (SYS_REPAIR.MAP_VALID, .ro)]⟩

/-! SYS_BOOT, 32 bits (15 R534). -/
def SYS_BOOT.STAGE : Fld := ⟨0x200, 4, fun _ => 0⟩
def SYS_BOOT.SOURCE : Fld := ⟨0x204, 2, fun _ => 0⟩
def SYS_BOOT.BOOTSEL : Fld := ⟨0x206, 2, fun _ => 0⟩
def SYS_BOOT.LAST_ERR : Fld := ⟨0x208, 8, fun _ => 0⟩
def SYS_BOOT.ERR_OP : Fld := ⟨0x210, 16, fun _ => 0⟩
def rowSYS_BOOT : RegRow := ⟨0x40, 0x0, 1, 0, 1, 32, [(SYS_BOOT.STAGE, .ro), (SYS_BOOT.SOURCE, .ro), (SYS_BOOT.BOOTSEL, .ro), (SYS_BOOT.LAST_ERR, .ro), (SYS_BOOT.ERR_OP, .ro)]⟩

/-! SYS_PUSH, 64 bits (15 R534). -/
def SYS_PUSH.ADDR : Fld := ⟨0x244, 60, fun _ => 0⟩
def rowSYS_PUSH : RegRow := ⟨0x48, 0x0, 1, 0, 1, 64, [(SYS_PUSH.ADDR, .rw)]⟩

/-! SYS_PUSHLEN, 32 bits (15 R534). -/
def SYS_PUSHLEN.LEN : Fld := ⟨0x280, 21, fun _ => 0⟩
def SYS_PUSHLEN.GO : Fld := ⟨0x29f, 1, fun _ => 0⟩
def rowSYS_PUSHLEN : RegRow := ⟨0x50, 0x0, 1, 0, 1, 32, [(SYS_PUSHLEN.LEN, .rw), (SYS_PUSHLEN.GO, .wo)]⟩

/-! SYS_RSTCAUSE, 32 bits (15 R534). -/
def SYS_RSTCAUSE.CAUSE : Fld := ⟨0x2c0, 3, fun _ => 0⟩
def SYS_RSTCAUSE.ATTEMPTS : Fld := ⟨0x2c8, 8, fun _ => 0⟩
def rowSYS_RSTCAUSE : RegRow := ⟨0x58, 0x0, 1, 0, 1, 32, [(SYS_RSTCAUSE.CAUSE, .ro), (SYS_RSTCAUSE.ATTEMPTS, .ro)]⟩

/-! SYS_IOCFG, 32 bits (16 R558). -/
def SYS_IOCFG.VA : Fld := ⟨0x300, 1, fun _ => 0⟩
def SYS_IOCFG.VB : Fld := ⟨0x301, 1, fun _ => 0⟩
def SYS_IOCFG.DRV_A : Fld := ⟨0x302, 2, fun _ => 1⟩
def SYS_IOCFG.DRV_B : Fld := ⟨0x304, 2, fun _ => 1⟩
def SYS_IOCFG.PD_DIS_A : Fld := ⟨0x306, 1, fun _ => 0⟩
def SYS_IOCFG.PD_DIS_B : Fld := ⟨0x307, 1, fun _ => 0⟩
def SYS_IOCFG.CLOAD_A : Fld := ⟨0x308, 4, fun _ => 5⟩
def SYS_IOCFG.CLOAD_B : Fld := ⟨0x30c, 4, fun _ => 5⟩
def rowSYS_IOCFG : RegRow := ⟨0x60, 0x0, 1, 0, 1, 32, [(SYS_IOCFG.VA, .ro), (SYS_IOCFG.VB, .ro), (SYS_IOCFG.DRV_A, .rw), (SYS_IOCFG.DRV_B, .rw), (SYS_IOCFG.PD_DIS_A, .rw), (SYS_IOCFG.PD_DIS_B, .rw), (SYS_IOCFG.CLOAD_A, .rw), (SYS_IOCFG.CLOAD_B, .rw)]⟩

/-! SYS_TEMP, 32 bits (16 R558). -/
def SYS_TEMP.TEMP : Fld := ⟨0x340, 10, fun _ => 0⟩
def SYS_TEMP.HOT : Fld := ⟨0x34a, 1, fun _ => 0⟩
def rowSYS_TEMP : RegRow := ⟨0x68, 0x0, 1, 0, 1, 32, [(SYS_TEMP.TEMP, .ro), (SYS_TEMP.HOT, .ro)]⟩

/-! HM_SEAL, 32 bits (15 R534). -/
def HM_SEAL.SEAL : Fld := ⟨0x8000, 1, fun _ => 0⟩
def rowHM_SEAL : RegRow := ⟨0x1000, 0x0, 1, 0, 1, 32, [(HM_SEAL.SEAL, .ro)]⟩

/-! HM_STATUS, 32 bits (15 R534). -/
def HM_STATUS.LOGKEY_SET : Fld := ⟨0x8040, 1, fun _ => 0⟩
def HM_STATUS.KEYS_SET : Fld := ⟨0x8048, 8, fun _ => 0⟩
def HM_STATUS.DENY_CNT : Fld := ⟨0x8050, 8, fun _ => 0⟩
def HM_STATUS.DENY_FUNC : Fld := ⟨0x8058, 3, fun _ => 0⟩
def rowHM_STATUS : RegRow := ⟨0x1008, 0x0, 1, 0, 1, 32, [(HM_STATUS.LOGKEY_SET, .ro), (HM_STATUS.KEYS_SET, .ro), (HM_STATUS.DENY_CNT, .rc), (HM_STATUS.DENY_FUNC, .ro)]⟩

/-! HM_FRIGHTS, 32 bits (15 R534). -/
def HM_FRIGHTS.FULL_RESET : Fld := ⟨0x8800, 1, fun _ => 0⟩
def HM_FRIGHTS.KEY_OFF : Fld := ⟨0x8801, 1, fun _ => 0⟩
def HM_FRIGHTS.LOG_READ : Fld := ⟨0x8802, 1, fun _ => 0⟩
def HM_FRIGHTS.LOG_CLEAR : Fld := ⟨0x8803, 1, fun _ => 0⟩
def HM_FRIGHTS.STEP_FORCE : Fld := ⟨0x8804, 1, fun _ => 0⟩
def HM_FRIGHTS.TALLY : Fld := ⟨0x8805, 1, fun _ => 0⟩
def rowHM_FRIGHTS : RegRow := ⟨0x1100, 0x40, 8, 0, 1, 32, [(HM_FRIGHTS.FULL_RESET, .sealed), (HM_FRIGHTS.KEY_OFF, .sealed), (HM_FRIGHTS.LOG_READ, .sealed), (HM_FRIGHTS.LOG_CLEAR, .sealed), (HM_FRIGHTS.STEP_FORCE, .sealed), (HM_FRIGHTS.TALLY, .sealed)]⟩

/-! HM_FQUAY, 32 bits (15 R534). -/
def HM_FQUAY.QUAY : Fld := ⟨0x8840, 32, fun _ => 0⟩
def rowHM_FQUAY : RegRow := ⟨0x1108, 0x40, 8, 0, 1, 32, [(HM_FQUAY.QUAY, .sealed)]⟩

/-! HM_FRES, 32 bits (15 R534). -/
def HM_FRES.AXES : Fld := ⟨0x8880, 16, fun _ => 0⟩
def HM_FRES.TRK : Fld := ⟨0x8890, 8, fun _ => 0⟩
def rowHM_FRES : RegRow := ⟨0x1110, 0x40, 8, 0, 1, 32, [(HM_FRES.AXES, .sealed), (HM_FRES.TRK, .sealed)]⟩

/-! HM_FENG, 32 bits (15 R534). -/
def HM_FENG.ENG : Fld := ⟨0x88c0, 24, fun _ => 0⟩
def rowHM_FENG : RegRow := ⟨0x1118, 0x40, 8, 0, 1, 32, [(HM_FENG.ENG, .sealed)]⟩

/-! HM_FPIN, 32 bits (15 R534). -/
def HM_FPIN.PIN : Fld := ⟨0x8900, 32, fun _ => 0⟩
def rowHM_FPIN : RegRow := ⟨0x1120, 0x40, 8, 0, 1, 32, [(HM_FPIN.PIN, .sealed)]⟩

/-! HM_FBERTH, 32 bits (15 R534). -/
def HM_FBERTH.BERTH : Fld := ⟨0x8940, 32, fun _ => 0⟩
def rowHM_FBERTH : RegRow := ⟨0x1128, 0x40, 8, 0, 1, 32, [(HM_FBERTH.BERTH, .sealed)]⟩

/-! HM_OWN, 32 bits (15 R534). -/
def HM_OWN.FUNC : Fld := ⟨0xa000, 3, fun _ => 0⟩
def HM_OWN.VALID : Fld := ⟨0xa003, 1, fun _ => 0⟩
def rowHM_OWN : RegRow := ⟨0x1400, 0x4, 20, 0, 1, 32, [(⟨0xa000, 3, fun _ => 0⟩, .sealed), (⟨0xa004, 3, fun _ => 0⟩, .sealed), (⟨0xa008, 3, fun _ => 0⟩, .sealed), (⟨0xa00c, 3, fun _ => 0⟩, .sealed), (⟨0xa010, 3, fun _ => 0⟩, .sealed), (⟨0xa014, 3, fun _ => 0⟩, .sealed), (⟨0xa018, 3, fun _ => 0⟩, .sealed), (⟨0xa01c, 3, fun _ => 0⟩, .sealed), (⟨0xa003, 1, fun _ => 0⟩, .sealed), (⟨0xa007, 1, fun _ => 0⟩, .sealed), (⟨0xa00b, 1, fun _ => 0⟩, .sealed), (⟨0xa00f, 1, fun _ => 0⟩, .sealed), (⟨0xa013, 1, fun _ => 0⟩, .sealed), (⟨0xa017, 1, fun _ => 0⟩, .sealed), (⟨0xa01b, 1, fun _ => 0⟩, .sealed), (⟨0xa01f, 1, fun _ => 0⟩, .sealed)]⟩

/-! HM_ENG, 64 bits (15 R534). -/
def HM_ENG.QUAY : Fld := ⟨0xa800, 32, fun _ => 0⟩
def HM_ENG.BERTH : Fld := ⟨0xa820, 32, fun _ => 0⟩
def rowHM_ENG : RegRow := ⟨0x1500, 0x10, 24, 0, 1, 64, [(HM_ENG.QUAY, .sealed), (HM_ENG.BERTH, .sealed)]⟩

/-! HM_EKEY, 32 bits (15 R534). -/
def HM_EKEY.KEYS : Fld := ⟨0xa840, 8, fun _ => 0⟩
def rowHM_EKEY : RegRow := ⟨0x1508, 0x10, 24, 0, 1, 32, [(HM_EKEY.KEYS, .sealed)]⟩

/-! HM_KEY, 512 bits (15 R534). -/
def HM_KEY.KEY : Fld := ⟨0xc000, 512, fun _ => 0⟩
def rowHM_KEY : RegRow := ⟨0x1800, 0x40, 8, 0, 1, 512, [(HM_KEY.KEY, .ro)]⟩

/-! HM_LOGKEY, 256 bits (15 R534). -/
def rowHM_LOGKEY : RegRow := ⟨0x1a00, 0x0, 1, 0, 1, 256, []⟩

/-! CK_REFSEL, 32 bits (01 R12). -/
def CK_REFSEL.SRC : Fld := ⟨0x10000, 2, fun _ => 0⟩
def CK_REFSEL.FALLBACK_EN : Fld := ⟨0x10002, 1, fun _ => 1⟩
def CK_REFSEL.FREQ_HOLD_EN : Fld := ⟨0x10003, 1, fun _ => 1⟩
def CK_REFSEL.ACTIVE : Fld := ⟨0x10004, 2, fun _ => 0⟩
def CK_REFSEL.SWITCHED : Fld := ⟨0x10006, 1, fun _ => 0⟩
def rowCK_REFSEL : RegRow := ⟨0x2000, 0x0, 1, 0, 1, 32, [(CK_REFSEL.SRC, .sealed), (CK_REFSEL.FALLBACK_EN, .sealed), (CK_REFSEL.FREQ_HOLD_EN, .sealed), (CK_REFSEL.ACTIVE, .ro), (CK_REFSEL.SWITCHED, .w1c)]⟩

/-! CK_STAT, 32 bits (17 R569). -/
def CK_STAT.LOCKED : Fld := ⟨0x10040, 1, fun _ => 0⟩
def CK_STAT.PLL_HOLD : Fld := ⟨0x10041, 1, fun _ => 0⟩
def CK_STAT.IN_OK : Fld := ⟨0x10042, 1, fun _ => 0⟩
def CK_STAT.REC_OK : Fld := ⟨0x10043, 1, fun _ => 0⟩
def CK_STAT.LOCK_LOSS : Fld := ⟨0x10048, 8, fun _ => 0⟩
def CK_STAT.REF_OFS : Fld := ⟨0x10050, 16, fun _ => 0⟩
def rowCK_STAT : RegRow := ⟨0x2008, 0x0, 1, 0, 1, 32, [(CK_STAT.LOCKED, .ro), (CK_STAT.PLL_HOLD, .ro), (CK_STAT.IN_OK, .ro), (CK_STAT.REC_OK, .ro), (CK_STAT.LOCK_LOSS, .rc), (CK_STAT.REF_OFS, .ro)]⟩

/-! VG_CTRL, 32 bits (15 R534). -/
def VG_CTRL.VDRIFT_PPB : Fld := ⟨0x18000, 16, fun _ => 3000⟩
def VG_CTRL.TS_PERIOD : Fld := ⟨0x18010, 8, fun _ => 64⟩
def VG_CTRL.AUTO_CAL : Fld := ⟨0x18018, 1, fun _ => 1⟩
def rowVG_CTRL : RegRow := ⟨0x3000, 0x0, 1, 0, 1, 32, [(VG_CTRL.VDRIFT_PPB, .rw), (VG_CTRL.TS_PERIOD, .rw), (VG_CTRL.AUTO_CAL, .rw)]⟩

/-! VG_STAT, 32 bits (15 R534). -/
def VG_STAT.VALID : Fld := ⟨0x18040, 1, fun _ => 0⟩
def VG_STAT.XFAIL : Fld := ⟨0x18041, 1, fun _ => 0⟩
def VG_STAT.ON_VBAK : Fld := ⟨0x18042, 1, fun _ => 0⟩
def VG_STAT.TEMP : Fld := ⟨0x18048, 10, fun _ => 0⟩
def rowVG_STAT : RegRow := ⟨0x3008, 0x0, 1, 0, 1, 32, [(VG_STAT.VALID, .ro), (VG_STAT.XFAIL, .ro), (VG_STAT.ON_VBAK, .ro), (VG_STAT.TEMP, .ro)]⟩

/-! VG_COMP, 32 bits (15 R534). -/
def VG_COMP.T0 : Fld := ⟨0x18080, 10, fun _ => 100⟩
def VG_COMP.K2 : Fld := ⟨0x18090, 12, fun _ => 4062⟩
def rowVG_COMP : RegRow := ⟨0x3010, 0x0, 1, 0, 1, 32, [(VG_COMP.T0, .rw), (VG_COMP.K2, .rw)]⟩

/-! VG_CAL, 32 bits (15 R534). -/
def VG_CAL.CAL : Fld := ⟨0x180c0, 24, fun _ => 0⟩
def rowVG_CAL : RegRow := ⟨0x3018, 0x0, 1, 0, 1, 32, [(VG_CAL.CAL, .rw)]⟩

/-! VG_OFF, 64 bits (15 R534). -/
def VG_OFF.T_OFF : Fld := ⟨0x18100, 32, fun _ => 0⟩
def VG_OFF.UNC_OFF : Fld := ⟨0x18120, 32, fun _ => 4294967295⟩
def rowVG_OFF : RegRow := ⟨0x3020, 0x0, 1, 0, 1, 64, [(VG_OFF.T_OFF, .ro), (VG_OFF.UNC_OFF, .ro)]⟩

/-! HI_SLAB, 64 bits (09 R329). -/
def HI_SLAB.BASE : Fld := ⟨0x2000c, 52, fun _ => 0⟩
def rowHI_SLAB : RegRow := ⟨0x4000, 0x40, 8, 0, 1, 64, [(HI_SLAB.BASE, .rw)]⟩

/-! HI_POLL, 32 bits (09 R329). -/
def HI_POLL.POLL : Fld := ⟨0x20040, 16, fun _ => 62500⟩
def HI_POLL.OUTSTANDING : Fld := ⟨0x20050, 4, fun _ => 8⟩
def rowHI_POLL : RegRow := ⟨0x4008, 0x40, 8, 0, 1, 32, [(HI_POLL.POLL, .rw), (HI_POLL.OUTSTANDING, .rw)]⟩

/-! HI_FSTAT, 32 bits (09 R329). -/
def HI_FSTAT.BME : Fld := ⟨0x20080, 1, fun _ => 0⟩
def HI_FSTAT.D3 : Fld := ⟨0x20081, 1, fun _ => 0⟩
def HI_FSTAT.ASLEEP : Fld := ⟨0x20082, 1, fun _ => 0⟩
def HI_FSTAT.WAKE_PEND : Fld := ⟨0x20083, 1, fun _ => 0⟩
def rowHI_FSTAT : RegRow := ⟨0x4010, 0x40, 8, 0, 1, 32, [(HI_FSTAT.BME, .ro), (HI_FSTAT.D3, .ro), (HI_FSTAT.ASLEEP, .ro), (HI_FSTAT.WAKE_PEND, .ro)]⟩

/-! HI_SUM, 64 bits (09 R329). -/
def HI_SUM.SUMMARY : Fld := ⟨0x200c0, 64, fun _ => 0⟩
def rowHI_SUM : RegRow := ⟨0x4018, 0x40, 8, 0, 1, 64, [(HI_SUM.SUMMARY, .ro)]⟩

/-! HI_LINK, 32 bits (09 R329). -/
def HI_LINK.SPEED : Fld := ⟨0x21000, 2, fun _ => 0⟩
def HI_LINK.WIDTH : Fld := ⟨0x21002, 3, fun _ => 0⟩
def HI_LINK.UP : Fld := ⟨0x21005, 1, fun _ => 0⟩
def HI_LINK.L1 : Fld := ⟨0x21006, 1, fun _ => 0⟩
def HI_LINK.PERST : Fld := ⟨0x21007, 1, fun _ => 0⟩
def HI_LINK.DOWN_CNT : Fld := ⟨0x21010, 16, fun _ => 0⟩
def rowHI_LINK : RegRow := ⟨0x4200, 0x0, 1, 0, 1, 32, [(HI_LINK.SPEED, .ro), (HI_LINK.WIDTH, .ro), (HI_LINK.UP, .ro), (HI_LINK.L1, .ro), (HI_LINK.PERST, .ro), (HI_LINK.DOWN_CNT, .rc)]⟩

/-! HI_LINK_RTT, 32 bits (09 R329). -/
def HI_LINK_RTT.RTT_MAX : Fld := ⟨0x21040, 16, fun _ => 65535⟩
def HI_LINK_RTT.RTT_LAST : Fld := ⟨0x21050, 16, fun _ => 65535⟩
def rowHI_LINK_RTT : RegRow := ⟨0x4208, 0x0, 1, 0, 1, 32, [(HI_LINK_RTT.RTT_MAX, .ro), (HI_LINK_RTT.RTT_LAST, .ro)]⟩

/-! HI_LINK_WR, 32 bits (09 R329). -/
def HI_LINK_WR.WR_MAX : Fld := ⟨0x21080, 16, fun _ => 65535⟩
def rowHI_LINK_WR : RegRow := ⟨0x4210, 0x0, 1, 0, 1, 32, [(HI_LINK_WR.WR_MAX, .ro)]⟩

/-! CQ_BASE, 64 bits (09 R329). -/
def CQ_BASE.BASE : Fld := ⟨0x2800c, 52, fun _ => 0⟩
def rowCQ_BASE : RegRow := ⟨0x5000, 0x40, 64, 0, 1, 64, [(CQ_BASE.BASE, .rw)]⟩

/-! CQ_CFG, 32 bits (09 R329). -/
def CQ_CFG.SIZE : Fld := ⟨0x28040, 5, fun _ => 4⟩
def CQ_CFG.EN : Fld := ⟨0x28045, 1, fun _ => 0⟩
def CQ_CFG.PREFETCH : Fld := ⟨0x28046, 1, fun _ => 0⟩
def CQ_CFG.CQ_HQ : Fld := ⟨0x28048, 6, fun _ => 0⟩
def CQ_CFG.FUNC : Fld := ⟨0x28050, 3, fun _ => 0⟩
def rowCQ_CFG : RegRow := ⟨0x5008, 0x40, 64, 0, 1, 32, [(CQ_CFG.SIZE, .rw), (CQ_CFG.EN, .rw), (CQ_CFG.PREFETCH, .rw), (CQ_CFG.CQ_HQ, .rw), (CQ_CFG.FUNC, .ro)]⟩

/-! CQ_CI, 32 bits (09 R329). -/
def CQ_CI.CI : Fld := ⟨0x28080, 32, fun _ => 0⟩
def rowCQ_CI : RegRow := ⟨0x5010, 0x40, 64, 0, 1, 32, [(CQ_CI.CI, .ro)]⟩

/-! CQ_STAT, 32 bits (09 R329). -/
def CQ_STAT.RSTATE : Fld := ⟨0x280c0, 2, fun _ => 0⟩
def CQ_STAT.REEN_PEND : Fld := ⟨0x280c2, 1, fun _ => 0⟩
def CQ_STAT.LONG : Fld := ⟨0x280c3, 3, fun _ => 0⟩
def CQ_STAT.RGEN : Fld := ⟨0x280d0, 16, fun _ => 0⟩
def rowCQ_STAT : RegRow := ⟨0x5018, 0x40, 64, 0, 1, 32, [(CQ_STAT.RSTATE, .ro), (CQ_STAT.REEN_PEND, .ro), (CQ_STAT.LONG, .ro), (CQ_STAT.RGEN, .ro)]⟩

/-! CQ_ERR, 32 bits (09 R329). -/
def CQ_ERR.PHASE_CNT : Fld := ⟨0x28100, 8, fun _ => 0⟩
def CQ_ERR.ABORT_CNT : Fld := ⟨0x28108, 8, fun _ => 0⟩
def CQ_ERR.LOGGED_CNT : Fld := ⟨0x28110, 8, fun _ => 0⟩
def rowCQ_ERR : RegRow := ⟨0x5020, 0x40, 64, 0, 1, 32, [(CQ_ERR.PHASE_CNT, .rc), (CQ_ERR.ABORT_CNT, .rc), (CQ_ERR.LOGGED_CNT, .rc)]⟩

/-! AX_CFG, 32 bits (02 R67). -/
def AX_CFG.TYPE : Fld := ⟨0x40000, 3, fun _ => 0⟩
def AX_CFG.EN : Fld := ⟨0x40003, 1, fun n => if n = 0 then 1 else 0⟩
def AX_CFG.SRC : Fld := ⟨0x40004, 12, fun _ => 0⟩
def AX_CFG.SRC_IS_PIN : Fld := ⟨0x40010, 1, fun _ => 0⟩
def AX_CFG.EDGE : Fld := ⟨0x40011, 2, fun _ => 0⟩
def AX_CFG.DMODE : Fld := ⟨0x40013, 1, fun _ => 0⟩
def AX_CFG.INTERP : Fld := ⟨0x40014, 1, fun _ => 0⟩
def AX_CFG.DIR_EN : Fld := ⟨0x40015, 1, fun _ => 0⟩
def AX_CFG.DIR_POL : Fld := ⟨0x40016, 1, fun _ => 0⟩
def AX_CFG.DIR_PIN : Fld := ⟨0x40017, 7, fun _ => 0⟩
def rowAX_CFG : RegRow := ⟨0x8000, 0x20, 16, 0, 1, 32, [(AX_CFG.TYPE, .rw), (AX_CFG.EN, .rw), (AX_CFG.SRC, .rw), (AX_CFG.SRC_IS_PIN, .rw), (AX_CFG.EDGE, .rw), (AX_CFG.DMODE, .rw), (AX_CFG.INTERP, .rw), (AX_CFG.DIR_EN, .rw), (AX_CFG.DIR_POL, .rw), (AX_CFG.DIR_PIN, .rw)]⟩

/-! AX_PARA, 64 bits (02 R67). -/
def AX_PARA.PARA : Fld := ⟨0x40040, 48, fun _ => 0⟩
def rowAX_PARA : RegRow := ⟨0x8008, 0x20, 16, 0, 1, 64, [(AX_PARA.PARA, .rw)]⟩

/-! AX_PARB, 64 bits (02 R67). -/
def AX_PARB.PARB : Fld := ⟨0x40080, 64, fun n => if n = 0 then 0 else 4⟩
def rowAX_PARB : RegRow := ⟨0x8010, 0x20, 16, 0, 1, 64, [(AX_PARB.PARB, .rw)]⟩

/-! AX_PARC, 64 bits (02 R67). -/
def AX_PARC.PARC : Fld := ⟨0x400c0, 64, fun _ => 0⟩
def rowAX_PARC : RegRow := ⟨0x8018, 0x20, 16, 0, 1, 64, [(AX_PARC.PARC, .rw)]⟩

/-! AX0_DSRC, 32 bits (02 R67). -/
def AX0_DSRC.SRC : Fld := ⟨0x41000, 2, fun _ => 0⟩
def AX0_DSRC.ENGINE : Fld := ⟨0x41002, 5, fun _ => 0⟩
def rowAX0_DSRC : RegRow := ⟨0x8200, 0x0, 1, 0, 1, 32, [(AX0_DSRC.SRC, .sealed), (AX0_DSRC.ENGINE, .sealed)]⟩

/-! AX0_SLEW, 32 bits (02 R67). -/
def AX0_SLEW.SLEW_PPM : Fld := ⟨0x41040, 9, fun _ => 500⟩
def AX0_SLEW.RSTEP_PPM : Fld := ⟨0x41050, 9, fun _ => 20⟩
def rowAX0_SLEW : RegRow := ⟨0x8208, 0x0, 1, 0, 1, 32, [(AX0_SLEW.SLEW_PPM, .rw), (AX0_SLEW.RSTEP_PPM, .rw)]⟩

/-! AX0_HOLD, 32 bits (02 R67). -/
def AX0_HOLD.TIMEOUT_MS : Fld := ⟨0x41080, 16, fun _ => 2000⟩
def AX0_HOLD.DRIFT_PPB : Fld := ⟨0x41090, 16, fun _ => 100⟩
def rowAX0_HOLD : RegRow := ⟨0x8210, 0x0, 1, 0, 1, 32, [(AX0_HOLD.TIMEOUT_MS, .rw), (AX0_HOLD.DRIFT_PPB, .rw)]⟩

/-! AX0_STATUS, 32 bits (02 R67). -/
def AX0_STATUS.STATE : Fld := ⟨0x410c0, 2, fun _ => 0⟩
def AX0_STATUS.SLEWING : Fld := ⟨0x410c2, 1, fun _ => 0⟩
def AX0_STATUS.VOTE_FAULT : Fld := ⟨0x410c3, 3, fun _ => 0⟩
def AX0_STATUS.STEP_COUNT : Fld := ⟨0x410c8, 8, fun _ => 0⟩
def rowAX0_STATUS : RegRow := ⟨0x8218, 0x0, 1, 0, 1, 32, [(AX0_STATUS.STATE, .ro), (AX0_STATUS.SLEWING, .ro), (AX0_STATUS.VOTE_FAULT, .w1c), (AX0_STATUS.STEP_COUNT, .ro)]⟩

/-! AX0_UNC, 32 bits (02 R67). -/
def AX0_UNC.UNC : Fld := ⟨0x41100, 32, fun _ => 0⟩
def rowAX0_UNC : RegRow := ⟨0x8220, 0x0, 1, 0, 1, 32, [(AX0_UNC.UNC, .ro)]⟩

/-! AX0_REPAIR, 32 bits (13 R469). -/
def AX0_REPAIR.RETIRED : Fld := ⟨0x41140, 2, fun _ => 0⟩
def AX0_REPAIR.REPAIRING : Fld := ⟨0x41142, 1, fun _ => 0⟩
def AX0_REPAIR.ACC : Fld := ⟨0x41143, 2, fun _ => 0⟩
def AX0_REPAIR.ATTEMPTS : Fld := ⟨0x41145, 2, fun _ => 0⟩
def rowAX0_REPAIR : RegRow := ⟨0x8228, 0x0, 1, 0, 1, 32, [(AX0_REPAIR.RETIRED, .ro), (AX0_REPAIR.REPAIRING, .ro), (AX0_REPAIR.ACC, .ro), (AX0_REPAIR.ATTEMPTS, .ro)]⟩

/-! WT_CFG, 32 bits (03 R107). -/
def WT_CFG.EN : Fld := ⟨0x48000, 1, fun _ => 0⟩
def WT_CFG.PRI_EDGE : Fld := ⟨0x48001, 1, fun _ => 0⟩
def WT_CFG.PRI_PIN : Fld := ⟨0x48002, 7, fun _ => 0⟩
def WT_CFG.PH_EN : Fld := ⟨0x48009, 1, fun _ => 0⟩
def WT_CFG.PH_PIN : Fld := ⟨0x4800a, 7, fun _ => 0⟩
def WT_CFG.LIMP_EN : Fld := ⟨0x48011, 1, fun _ => 0⟩
def rowWT_CFG : RegRow := ⟨0x9000, 0x200, 8, 0, 1, 32, [(WT_CFG.EN, .rw), (WT_CFG.PRI_EDGE, .rw), (WT_CFG.PRI_PIN, .rw), (WT_CFG.PH_EN, .rw), (WT_CFG.PH_PIN, .rw), (WT_CFG.LIMP_EN, .rw)]⟩

/-! WT_WHEEL, 32 bits (03 R107). -/
def WT_WHEEL.SLOTS : Fld := ⟨0x48040, 13, fun _ => 60⟩
def WT_WHEEL.GAP_TEETH : Fld := ⟨0x4804d, 2, fun _ => 2⟩
def rowWT_WHEEL : RegRow := ⟨0x9008, 0x200, 8, 0, 1, 32, [(WT_WHEEL.SLOTS, .rw), (WT_WHEEL.GAP_TEETH, .rw)]⟩

/-! WT_ZERO, 32 bits (03 R107). -/
def WT_ZERO.ZERO_OFS : Fld := ⟨0x48080, 24, fun _ => 0⟩
def rowWT_ZERO : RegRow := ⟨0x9010, 0x200, 8, 0, 1, 32, [(WT_ZERO.ZERO_OFS, .rw)]⟩

/-! WT_WIN, 32 bits (03 R107). -/
def WT_WIN.EARLY_FRAC : Fld := ⟨0x480c0, 8, fun _ => 102⟩
def WT_WIN.GAP_FRAC : Fld := ⟨0x480c8, 8, fun _ => 160⟩
def WT_WIN.LOSS_LIMIT : Fld := ⟨0x480d0, 8, fun _ => 3⟩
def WT_WIN.STALL_MULT : Fld := ⟨0x480d8, 4, fun _ => 4⟩
def rowWT_WIN : RegRow := ⟨0x9018, 0x200, 8, 0, 1, 32, [(WT_WIN.EARLY_FRAC, .rw), (WT_WIN.GAP_FRAC, .rw), (WT_WIN.LOSS_LIMIT, .rw), (WT_WIN.STALL_MULT, .rw)]⟩

/-! WT_INTERP, 32 bits (03 R107). -/
def WT_INTERP.MT_BITS : Fld := ⟨0x48100, 5, fun _ => 14⟩
def WT_INTERP.ACCEL_DEPTH : Fld := ⟨0x48108, 3, fun _ => 3⟩
def rowWT_INTERP : RegRow := ⟨0x9020, 0x200, 8, 0, 1, 32, [(WT_INTERP.MT_BITS, .rw), (WT_INTERP.ACCEL_DEPTH, .rw)]⟩

/-! WT_SYNC, 32 bits (03 R107). -/
def WT_SYNC.SYNC_NEED : Fld := ⟨0x48140, 13, fun _ => 8⟩
def WT_SYNC.PH_SYNC_NEED : Fld := ⟨0x48150, 5, fun _ => 3⟩
def rowWT_SYNC : RegRow := ⟨0x9028, 0x200, 8, 0, 1, 32, [(WT_SYNC.SYNC_NEED, .rw), (WT_SYNC.PH_SYNC_NEED, .rw)]⟩

/-! WT_REV, 32 bits (03 R107). -/
def WT_REV.REV_DIR_EN : Fld := ⟨0x48180, 1, fun _ => 0⟩
def WT_REV.REV_PH_EN : Fld := ⟨0x48181, 1, fun _ => 0⟩
def WT_REV.REV_GAP_EN : Fld := ⟨0x48182, 1, fun _ => 0⟩
def WT_REV.DIR_POL : Fld := ⟨0x48183, 1, fun _ => 0⟩
def WT_REV.DIR_PIN : Fld := ⟨0x48184, 7, fun _ => 0⟩
def rowWT_REV : RegRow := ⟨0x9030, 0x200, 8, 0, 1, 32, [(WT_REV.REV_DIR_EN, .rw), (WT_REV.REV_PH_EN, .rw), (WT_REV.REV_GAP_EN, .rw), (WT_REV.DIR_POL, .rw), (WT_REV.DIR_PIN, .rw)]⟩

/-! WT_PH_CFG, 32 bits (03 R107). -/
def WT_PH_CFG.PH_COUNT : Fld := ⟨0x481c0, 6, fun _ => 0⟩
def WT_PH_CFG.PH_TOL : Fld := ⟨0x481c8, 24, fun _ => 32768⟩
def rowWT_PH_CFG : RegRow := ⟨0x9038, 0x200, 8, 0, 1, 32, [(WT_PH_CFG.PH_COUNT, .rw), (WT_PH_CFG.PH_TOL, .rw)]⟩

/-! WT_STATUS, 32 bits (03 R107). -/
def WT_STATUS.STATE : Fld := ⟨0x48200, 3, fun _ => 0⟩
def WT_STATUS.DIR : Fld := ⟨0x48203, 1, fun _ => 0⟩
def WT_STATUS.STALL : Fld := ⟨0x48204, 1, fun _ => 0⟩
def WT_STATUS.REL : Fld := ⟨0x48205, 1, fun _ => 0⟩
def WT_STATUS.CFG_ERR : Fld := ⟨0x48206, 1, fun _ => 0⟩
def WT_STATUS.LOSS_CNT : Fld := ⟨0x48208, 8, fun _ => 0⟩
def WT_STATUS.REJ_CNT : Fld := ⟨0x48210, 8, fun _ => 0⟩
def WT_STATUS.PH_MIS_CNT : Fld := ⟨0x48218, 8, fun _ => 0⟩
def rowWT_STATUS : RegRow := ⟨0x9040, 0x200, 8, 0, 1, 32, [(WT_STATUS.STATE, .ro), (WT_STATUS.DIR, .ro), (WT_STATUS.STALL, .ro), (WT_STATUS.REL, .ro), (WT_STATUS.CFG_ERR, .ro), (WT_STATUS.LOSS_CNT, .rc), (WT_STATUS.REJ_CNT, .rc), (WT_STATUS.PH_MIS_CNT, .rc)]⟩

/-! WT_PH_EDGE, 32 bits (03 R107). -/
def WT_PH_EDGE.ANGLE : Fld := ⟨0x48800, 24, fun _ => 0⟩
def WT_PH_EDGE.POL : Fld := ⟨0x48818, 1, fun _ => 0⟩
def rowWT_PH_EDGE : RegRow := ⟨0x9100, 0x200, 8, 4, 32, 32, [(WT_PH_EDGE.ANGLE, .rw), (WT_PH_EDGE.POL, .rw)]⟩

/-! SL_CTRL, 32 bits (08 R295). -/
def SL_CTRL.HOLD : Fld := ⟨0x50000, 1, fun _ => 0⟩
def rowSL_CTRL : RegRow := ⟨0xa000, 0x0, 1, 0, 1, 32, [(SL_CTRL.HOLD, .rw)]⟩

/-! SL_STAGE, 32 bits (08 R295). -/
def SL_STAGE.BERTHS : Fld := ⟨0x50040, 32, fun _ => 4294901760⟩
def rowSL_STAGE : RegRow := ⟨0xa008, 0x0, 1, 0, 1, 32, [(SL_STAGE.BERTHS, .sealed)]⟩

/-! SL_STAT, 32 bits (08 R295). -/
def SL_STAT.STAGED : Fld := ⟨0x50080, 16, fun _ => 0⟩
def SL_STAT.ITEMS : Fld := ⟨0x50090, 11, fun _ => 0⟩
def SL_STAT.STAGE_FULL : Fld := ⟨0x5009b, 1, fun _ => 0⟩
def rowSL_STAT : RegRow := ⟨0xa010, 0x0, 1, 0, 1, 32, [(SL_STAT.STAGED, .ro), (SL_STAT.ITEMS, .ro), (SL_STAT.STAGE_FULL, .ro)]⟩

/-! SL_CNT, 32 bits (08 R295). -/
def SL_CNT.ITEM_OVF : Fld := ⟨0x500c0, 16, fun _ => 0⟩
def SL_CNT.STAGE_LOST : Fld := ⟨0x500d0, 16, fun _ => 0⟩
def rowSL_CNT : RegRow := ⟨0xa018, 0x0, 1, 0, 1, 32, [(SL_CNT.ITEM_OVF, .rc), (SL_CNT.STAGE_LOST, .rc)]⟩

/-! SL_GRP, 32 bits (08 R295). -/
def SL_GRP.HOLDOFF : Fld := ⟨0x50800, 16, fun _ => 0⟩
def SL_GRP.RESIDUAL : Fld := ⟨0x50810, 16, fun _ => 0⟩
def rowSL_GRP : RegRow := ⟨0xa100, 0x4, 64, 0, 1, 32, [(SL_GRP.HOLDOFF, .rw), (SL_GRP.RESIDUAL, .ro)]⟩

/-! SL_PEND, 32 bits (08 R295). -/
def SL_PEND.PEND : Fld := ⟨0x54000, 32, fun _ => 0⟩
def rowSL_PEND : RegRow := ⟨0xa800, 0x4, 128, 0, 1, 32, [(SL_PEND.PEND, .w1c)]⟩

/-! SL_TGT, 32 bits (08 R295). -/
def SL_TGT.KIND : Fld := ⟨0x58000, 2, fun _ => 0⟩
def SL_TGT.TARGET : Fld := ⟨0x58002, 6, fun _ => 0⟩
def SL_TGT.PRIO : Fld := ⟨0x58008, 8, fun _ => 0⟩
def SL_TGT.GROUP : Fld := ⟨0x58010, 6, fun _ => 0⟩
def rowSL_TGT : RegRow := ⟨0xb000, 0x4, 4096, 0, 1, 32, [(SL_TGT.KIND, .rw), (SL_TGT.TARGET, .rw), (SL_TGT.PRIO, .rw), (SL_TGT.GROUP, .rw)]⟩

/-! HQ_BASE, 64 bits (08 R295). -/
def HQ_BASE.BASE : Fld := ⟨0x7800c, 52, fun _ => 0⟩
def rowHQ_BASE : RegRow := ⟨0xf000, 0x40, 64, 0, 1, 64, [(HQ_BASE.BASE, .rw)]⟩

/-! HQ_CFG, 32 bits (08 R295). -/
def HQ_CFG.SIZE : Fld := ⟨0x78040, 5, fun _ => 4⟩
def HQ_CFG.VECTOR : Fld := ⟨0x78045, 6, fun _ => 0⟩
def HQ_CFG.EN : Fld := ⟨0x7804b, 1, fun _ => 0⟩
def HQ_CFG.DISCARD : Fld := ⟨0x7804c, 1, fun _ => 0⟩
def HQ_CFG.FUNC : Fld := ⟨0x78050, 3, fun _ => 0⟩
def HQ_CFG.STG_MAX : Fld := ⟨0x78054, 4, fun _ => 0⟩
def rowHQ_CFG : RegRow := ⟨0xf008, 0x40, 64, 0, 1, 32, [(HQ_CFG.SIZE, .rw), (HQ_CFG.VECTOR, .rw), (HQ_CFG.EN, .rw), (HQ_CFG.DISCARD, .wo), (HQ_CFG.FUNC, .ro), (HQ_CFG.STG_MAX, .rw)]⟩

/-! HQ_PI, 32 bits (08 R295). -/
def HQ_PI.PI : Fld := ⟨0x78080, 32, fun _ => 0⟩
def rowHQ_PI : RegRow := ⟨0xf010, 0x40, 64, 0, 1, 32, [(HQ_PI.PI, .ro)]⟩

/-! HQ_CI, 32 bits (08 R295). -/
def HQ_CI.CI : Fld := ⟨0x780c0, 32, fun _ => 0⟩
def rowHQ_CI : RegRow := ⟨0xf018, 0x40, 64, 0, 1, 32, [(HQ_CI.CI, .ro)]⟩

/-! HQ_STAT, 32 bits (08 R295). -/
def HQ_STAT.QSTATE : Fld := ⟨0x78100, 2, fun _ => 0⟩
def HQ_STAT.FULL : Fld := ⟨0x78102, 1, fun _ => 0⟩
def HQ_STAT.REEN_PEND : Fld := ⟨0x78103, 1, fun _ => 0⟩
def HQ_STAT.PHASE : Fld := ⟨0x78104, 1, fun _ => 0⟩
def HQ_STAT.STAGED : Fld := ⟨0x78108, 16, fun _ => 0⟩
def rowHQ_STAT : RegRow := ⟨0xf020, 0x40, 64, 0, 1, 32, [(HQ_STAT.QSTATE, .ro), (HQ_STAT.FULL, .ro), (HQ_STAT.REEN_PEND, .ro), (HQ_STAT.PHASE, .ro), (HQ_STAT.STAGED, .ro)]⟩

/-! HQ_LOSS, 32 bits (08 R295). -/
def HQ_LOSS.LOST : Fld := ⟨0x78140, 32, fun _ => 0⟩
def rowHQ_LOSS : RegRow := ⟨0xf028, 0x40, 64, 0, 1, 32, [(HQ_LOSS.LOST, .rc)]⟩

/-! QY_CFG, 32 bits (04 R150). -/
def QY_CFG.AUDIT_LIMIT : Fld := ⟨0x80000, 8, fun _ => 4⟩
def QY_CFG.AUTO_SUB : Fld := ⟨0x80008, 1, fun _ => 0⟩
def rowQY_CFG : RegRow := ⟨0x10000, 0x400, 34, 0, 1, 32, [(QY_CFG.AUDIT_LIMIT, .rw), (QY_CFG.AUTO_SUB, .sealed)]⟩

/-! QY_STATUS, 32 bits (04 R150). -/
def QY_STATUS.ROLE : Fld := ⟨0x80040, 2, fun p => if p < 32 then 0 else 1⟩
def QY_STATUS.LOGICAL : Fld := ⟨0x80042, 5, fun p => if p < 32 then p else 0⟩
def QY_STATUS.SUSPECT : Fld := ⟨0x80047, 1, fun _ => 0⟩
def QY_STATUS.SLOTS_USED : Fld := ⟨0x80048, 4, fun _ => 0⟩
def rowQY_STATUS : RegRow := ⟨0x10008, 0x400, 34, 0, 1, 32, [(QY_STATUS.ROLE, .ro), (QY_STATUS.LOGICAL, .ro), (QY_STATUS.SUSPECT, .ro), (QY_STATUS.SLOTS_USED, .ro)]⟩

/-! QY_AUDIT, 32 bits (04 R150). -/
def QY_AUDIT.AUDIT_CNT : Fld := ⟨0x80080, 16, fun _ => 0⟩
def QY_AUDIT.CONSEC : Fld := ⟨0x80090, 8, fun _ => 0⟩
def QY_AUDIT.LAST_PIN : Fld := ⟨0x80098, 7, fun _ => 0⟩
def rowQY_AUDIT : RegRow := ⟨0x10010, 0x400, 34, 0, 1, 32, [(QY_AUDIT.AUDIT_CNT, .rc), (QY_AUDIT.CONSEC, .ro), (QY_AUDIT.LAST_PIN, .ro)]⟩

/-! QY_LATE, 32 bits (04 R150). -/
def QY_LATE.LATE_CNT : Fld := ⟨0x800c0, 16, fun _ => 0⟩
def QY_LATE.FULL_CNT : Fld := ⟨0x800d0, 16, fun _ => 0⟩
def rowQY_LATE : RegRow := ⟨0x10018, 0x400, 34, 0, 1, 32, [(QY_LATE.LATE_CNT, .rc), (QY_LATE.FULL_CNT, .rc)]⟩

/-! QY_DIAG, 32 bits (04 R150). -/
def QY_DIAG.VCAL_OK : Fld := ⟨0x80100, 1, fun _ => 0⟩
def QY_DIAG.RING_COLL : Fld := ⟨0x80108, 8, fun _ => 0⟩
def QY_DIAG.FAIL_UNROUTED : Fld := ⟨0x80110, 8, fun _ => 0⟩
def QY_DIAG.RING_LOST : Fld := ⟨0x80118, 8, fun _ => 0⟩
def rowQY_DIAG : RegRow := ⟨0x10020, 0x400, 34, 0, 1, 32, [(QY_DIAG.VCAL_OK, .ro), (QY_DIAG.RING_COLL, .rc), (QY_DIAG.FAIL_UNROUTED, .rc), (QY_DIAG.RING_LOST, .rc)]⟩

/-! ME_STATUS, 32 bits (05 R189). -/
def ME_STATUS.ROLE : Fld := ⟨0x100000, 2, fun p => if p < 24 then 0 else 1⟩
def ME_STATUS.LOGICAL : Fld := ⟨0x100002, 5, fun p => if p < 24 then p else 0⟩
def ME_STATUS.FAULT : Fld := ⟨0x100007, 1, fun _ => 0⟩
def ME_STATUS.RUNNING : Fld := ⟨0x100008, 1, fun _ => 0⟩
def ME_STATUS.WAITING : Fld := ⟨0x100009, 1, fun _ => 0⟩
def ME_STATUS.DEPTH : Fld := ⟨0x10000a, 4, fun _ => 0⟩
def rowME_STATUS : RegRow := ⟨0x20000, 0x1000, 26, 0, 1, 32, [(ME_STATUS.ROLE, .ro), (ME_STATUS.LOGICAL, .ro), (ME_STATUS.FAULT, .ro), (ME_STATUS.RUNNING, .ro), (ME_STATUS.WAITING, .ro), (ME_STATUS.DEPTH, .ro)]⟩

/-! ME_PC, 32 bits (05 R189). -/
def ME_PC.PC : Fld := ⟨0x100040, 13, fun _ => 0⟩
def rowME_PC : RegRow := ⟨0x20008, 0x1000, 26, 0, 1, 32, [(ME_PC.PC, .ro)]⟩

/-! ME_FAULT, 32 bits (05 R189). -/
def ME_FAULT.FPC : Fld := ⟨0x100080, 13, fun _ => 0⟩
def ME_FAULT.FRAME : Fld := ⟨0x10008d, 3, fun _ => 0⟩
def ME_FAULT.CAUSE : Fld := ⟨0x100090, 8, fun _ => 0⟩
def ME_FAULT.VALID : Fld := ⟨0x100098, 1, fun _ => 0⟩
def rowME_FAULT : RegRow := ⟨0x20010, 0x1000, 26, 0, 1, 32, [(ME_FAULT.FPC, .ro), (ME_FAULT.FRAME, .ro), (ME_FAULT.CAUSE, .ro), (ME_FAULT.VALID, .ro)]⟩

/-! ME_CNT, 32 bits (05 R189). -/
def ME_CNT.ATOM_OVERRUN : Fld := ⟨0x1000c0, 16, fun _ => 0⟩
def ME_CNT.ECC_CORR : Fld := ⟨0x1000d0, 8, fun _ => 0⟩
def rowME_CNT : RegRow := ⟨0x20018, 0x1000, 26, 0, 1, 32, [(ME_CNT.ATOM_OVERRUN, .rc), (ME_CNT.ECC_CORR, .rc)]⟩

/-! ME_DCFG, 32 bits (06 R221). -/
def ME_DCFG.PRIGRP : Fld := ⟨0x100800, 4, fun _ => 4⟩
def ME_DCFG.AUTO_COMPLETE : Fld := ⟨0x100804, 1, fun _ => 1⟩
def ME_DCFG.SW_RESTART : Fld := ⟨0x100805, 1, fun _ => 1⟩
def ME_DCFG.AUTO_RELIEF : Fld := ⟨0x100806, 1, fun _ => 1⟩
def rowME_DCFG : RegRow := ⟨0x20100, 0x1000, 26, 0, 1, 32, [(ME_DCFG.PRIGRP, .rw), (ME_DCFG.AUTO_COMPLETE, .rw), (ME_DCFG.SW_RESTART, .rw), (ME_DCFG.AUTO_RELIEF, .sealed)]⟩

/-! ME_DSTAT, 32 bits (06 R221). -/
def ME_DSTAT.CUR_SRC : Fld := ⟨0x100840, 12, fun _ => 0⟩
def ME_DSTAT.BASE : Fld := ⟨0x10084c, 1, fun _ => 0⟩
def ME_DSTAT.CUR_FRAME : Fld := ⟨0x10084d, 3, fun _ => 0⟩
def ME_DSTAT.ACTIVE : Fld := ⟨0x100850, 8, fun _ => 0⟩
def ME_DSTAT.HELD : Fld := ⟨0x100858, 1, fun _ => 0⟩
def rowME_DSTAT : RegRow := ⟨0x20108, 0x1000, 26, 0, 1, 32, [(ME_DSTAT.CUR_SRC, .ro), (ME_DSTAT.BASE, .ro), (ME_DSTAT.CUR_FRAME, .ro), (ME_DSTAT.ACTIVE, .ro), (ME_DSTAT.HELD, .ro)]⟩

/-! ME_DCNT, 32 bits (06 R221). -/
def ME_DCNT.SPURIOUS_COMPLETE : Fld := ⟨0x100880, 16, fun _ => 0⟩
def ME_DCNT.DEPTH_FULL : Fld := ⟨0x100890, 16, fun _ => 0⟩
def rowME_DCNT : RegRow := ⟨0x20110, 0x1000, 26, 0, 1, 32, [(ME_DCNT.SPURIOUS_COMPLETE, .rc), (ME_DCNT.DEPTH_FULL, .rc)]⟩

/-! ME_WDOG, 32 bits (06 R221). -/
def ME_WDOG.WD_US : Fld := ⟨0x1008c0, 16, fun _ => 0⟩
def rowME_WDOG : RegRow := ⟨0x20118, 0x1000, 26, 0, 1, 32, [(ME_WDOG.WD_US, .rw)]⟩

/-! ME_RELIEF, 32 bits (06 R221). -/
def ME_RELIEF.WARM_EN : Fld := ⟨0x1c0900, 1, fun _ => 0⟩
def ME_RELIEF.WARM_FOR : Fld := ⟨0x1c0901, 5, fun _ => 0⟩
def ME_RELIEF.WARM : Fld := ⟨0x1c0906, 1, fun _ => 0⟩
def ME_RELIEF.COPYING : Fld := ⟨0x1c0907, 1, fun _ => 0⟩
def rowME_RELIEF : RegRow := ⟨0x38120, 0x1000, 2, 0, 1, 32, [(ME_RELIEF.WARM_EN, .rw), (ME_RELIEF.WARM_FOR, .rw), (ME_RELIEF.WARM, .ro), (ME_RELIEF.COPYING, .ro)]⟩

/-! ME_IMAGE, 32 bits (06 R221). -/
def ME_IMAGE.LSTATE : Fld := ⟨0x100940, 2, fun _ => 0⟩
def ME_IMAGE.ACT : Fld := ⟨0x100942, 1, fun _ => 0⟩
def ME_IMAGE.KEY_SLOT : Fld := ⟨0x100943, 3, fun _ => 0⟩
def rowME_IMAGE : RegRow := ⟨0x20128, 0x1000, 26, 0, 1, 32, [(ME_IMAGE.LSTATE, .ro), (ME_IMAGE.ACT, .ro), (ME_IMAGE.KEY_SLOT, .ro)]⟩

/-! ME_IVER, 32 bits (06 R221). -/
def ME_IVER.IMAGE_VERSION : Fld := ⟨0x100980, 32, fun _ => 0⟩
def rowME_IVER : RegRow := ⟨0x20130, 0x1000, 26, 0, 1, 32, [(ME_IVER.IMAGE_VERSION, .ro)]⟩

/-! PN_STATUS, 32 bits (07 R257). -/
def PN_STATUS.STATE : Fld := ⟨0x1e0000, 2, fun _ => 0⟩
def PN_STATUS.SWAP_PEND : Fld := ⟨0x1e0002, 1, fun _ => 0⟩
def PN_STATUS.PC : Fld := ⟨0x1e0003, 5, fun _ => 0⟩
def PN_STATUS.SC : Fld := ⟨0x1e0008, 6, fun _ => 0⟩
def PN_STATUS.PGEN : Fld := ⟨0x1e0010, 16, fun _ => 0⟩
def rowPN_STATUS : RegRow := ⟨0x3c000, 0x80, 32, 0, 1, 32, [(PN_STATUS.STATE, .ro), (PN_STATUS.SWAP_PEND, .ro), (PN_STATUS.PC, .ro), (PN_STATUS.SC, .ro), (PN_STATUS.PGEN, .ro)]⟩

/-! PN_LANE, 64 bits (07 R257). -/
def PN_LANE.PIN : Fld := ⟨0x1e0040, 7, fun _ => 0⟩
def PN_LANE.EN : Fld := ⟨0x1e0047, 1, fun _ => 0⟩
def rowPN_LANE : RegRow := ⟨0x3c008, 0x80, 32, 0, 1, 64, [(⟨0x1e0040, 7, fun _ => 0⟩, .rw), (⟨0x1e0048, 7, fun _ => 0⟩, .rw), (⟨0x1e0050, 7, fun _ => 0⟩, .rw), (⟨0x1e0058, 7, fun _ => 0⟩, .rw), (⟨0x1e0060, 7, fun _ => 0⟩, .rw), (⟨0x1e0068, 7, fun _ => 0⟩, .rw), (⟨0x1e0070, 7, fun _ => 0⟩, .rw), (⟨0x1e0078, 7, fun _ => 0⟩, .rw), (⟨0x1e0047, 1, fun _ => 0⟩, .rw), (⟨0x1e004f, 1, fun _ => 0⟩, .rw), (⟨0x1e0057, 1, fun _ => 0⟩, .rw), (⟨0x1e005f, 1, fun _ => 0⟩, .rw), (⟨0x1e0067, 1, fun _ => 0⟩, .rw), (⟨0x1e006f, 1, fun _ => 0⟩, .rw), (⟨0x1e0077, 1, fun _ => 0⟩, .rw), (⟨0x1e007f, 1, fun _ => 0⟩, .rw)]⟩

/-! PN_FIFO, 32 bits (07 R257). -/
def PN_FIFO.TX_WM : Fld := ⟨0x1e0080, 4, fun _ => 4⟩
def PN_FIFO.RX_WM : Fld := ⟨0x1e0084, 4, fun _ => 4⟩
def PN_FIFO.TX_LVL : Fld := ⟨0x1e0088, 4, fun _ => 0⟩
def PN_FIFO.RX_LVL : Fld := ⟨0x1e008c, 4, fun _ => 0⟩
def PN_FIFO.FLUSH_TX : Fld := ⟨0x1e0090, 1, fun _ => 0⟩
def PN_FIFO.FLUSH_RX : Fld := ⟨0x1e0091, 1, fun _ => 0⟩
def rowPN_FIFO : RegRow := ⟨0x3c010, 0x80, 32, 0, 1, 32, [(PN_FIFO.TX_WM, .rw), (PN_FIFO.RX_WM, .rw), (PN_FIFO.TX_LVL, .ro), (PN_FIFO.RX_LVL, .ro), (PN_FIFO.FLUSH_TX, .wo), (PN_FIFO.FLUSH_RX, .wo)]⟩

/-! PN_SWAP, 32 bits (07 R257). -/
def PN_SWAP.DEADLINE : Fld := ⟨0x1e00c0, 16, fun _ => 1000⟩
def PN_SWAP.DL_UNIT : Fld := ⟨0x1e00d0, 1, fun _ => 0⟩
def rowPN_SWAP : RegRow := ⟨0x3c018, 0x80, 32, 0, 1, 32, [(PN_SWAP.DEADLINE, .rw), (PN_SWAP.DL_UNIT, .rw)]⟩

/-! PN_CNT, 32 bits (07 R257). -/
def PN_CNT.STALE_CNT : Fld := ⟨0x1e0100, 16, fun _ => 0⟩
def PN_CNT.DROP_CNT : Fld := ⟨0x1e0110, 16, fun _ => 0⟩
def rowPN_CNT : RegRow := ⟨0x3c020, 0x80, 32, 0, 1, 32, [(PN_CNT.STALE_CNT, .rc), (PN_CNT.DROP_CNT, .rc)]⟩

/-! PN_ERR, 32 bits (07 R257). -/
def PN_ERR.AUDIT_CNT : Fld := ⟨0x1e0140, 8, fun _ => 0⟩
def PN_ERR.ABANDON_CNT : Fld := ⟨0x1e0148, 8, fun _ => 0⟩
def PN_ERR.LANE_CNT : Fld := ⟨0x1e0150, 8, fun _ => 0⟩
def PN_ERR.LAST_CAUSE : Fld := ⟨0x1e0158, 8, fun _ => 0⟩
def rowPN_ERR : RegRow := ⟨0x3c028, 0x80, 32, 0, 1, 32, [(PN_ERR.AUDIT_CNT, .rc), (PN_ERR.ABANDON_CNT, .rc), (PN_ERR.LANE_CNT, .rc), (PN_ERR.LAST_CAUSE, .ro)]⟩

/-! TIO_PIN, 32 bits (07 R258). -/
def TIO_PIN.OUT_SRC : Fld := ⟨0x1e8000, 2, fun _ => 0⟩
def TIO_PIN.OUT_CH : Fld := ⟨0x1e8002, 9, fun _ => 0⟩
def TIO_PIN.IN_DIS : Fld := ⟨0x1e800b, 1, fun _ => 0⟩
def TIO_PIN.IN_INV : Fld := ⟨0x1e800c, 1, fun _ => 0⟩
def TIO_PIN.FILT : Fld := ⟨0x1e800d, 8, fun _ => 0⟩
def TIO_PIN.FUNIT : Fld := ⟨0x1e8015, 1, fun _ => 0⟩
def rowTIO_PIN : RegRow := ⟨0x3d000, 0x4, 128, 0, 1, 32, [(TIO_PIN.OUT_SRC, .rw), (TIO_PIN.OUT_CH, .rw), (TIO_PIN.IN_DIS, .rw), (TIO_PIN.IN_INV, .rw), (TIO_PIN.FILT, .rw), (TIO_PIN.FUNIT, .rw)]⟩

/-! TIO_STAT, 32 bits (07 R258). -/
def TIO_STAT.GLITCH_CNT : Fld := ⟨0x1e9000, 8, fun _ => 0⟩
def TIO_STAT.LEVEL : Fld := ⟨0x1e9008, 1, fun _ => 0⟩
def TIO_STAT.DRIVEN : Fld := ⟨0x1e9009, 1, fun _ => 0⟩
def TIO_STAT.REFUSED : Fld := ⟨0x1e900a, 1, fun _ => 0⟩
def rowTIO_STAT : RegRow := ⟨0x3d200, 0x4, 128, 0, 1, 32, [(TIO_STAT.GLITCH_CNT, .rc), (TIO_STAT.LEVEL, .ro), (TIO_STAT.DRIVEN, .ro), (TIO_STAT.REFUSED, .w1c)]⟩

/-! LT_CFG, 32 bits (10 R369). -/
def LT_CFG.REQ_KIND : Fld := ⟨0x1f0000, 2, fun _ => 0⟩
def LT_CFG.REQ_PN : Fld := ⟨0x1f0002, 5, fun _ => 0⟩
def LT_CFG.EVSEL : Fld := ⟨0x1f0007, 12, fun _ => 0⟩
def LT_CFG.EV_EN : Fld := ⟨0x1f0013, 1, fun _ => 0⟩
def LT_CFG.BURST_MAX : Fld := ⟨0x1f0014, 2, fun _ => 0⟩
def LT_CFG.TAIL_US : Fld := ⟨0x1f0016, 10, fun _ => 0⟩
def rowLT_CFG : RegRow := ⟨0x3e000, 0x80, 32, 0, 1, 32, [(LT_CFG.REQ_KIND, .rw), (LT_CFG.REQ_PN, .rw), (LT_CFG.EVSEL, .rw), (LT_CFG.EV_EN, .rw), (LT_CFG.BURST_MAX, .rw), (LT_CFG.TAIL_US, .rw)]⟩

/-! LT_STAT, 32 bits (10 R369). -/
def LT_STAT.LSTATE : Fld := ⟨0x1f0040, 3, fun _ => 0⟩
def LT_STAT.PRIO : Fld := ⟨0x1f0043, 2, fun _ => 0⟩
def LT_STAT.FUNC : Fld := ⟨0x1f0045, 3, fun _ => 0⟩
def LT_STAT.LATCH : Fld := ⟨0x1f0048, 1, fun _ => 0⟩
def LT_STAT.HELD : Fld := ⟨0x1f0049, 6, fun _ => 0⟩
def LT_STAT.LGEN : Fld := ⟨0x1f0050, 16, fun _ => 0⟩
def rowLT_STAT : RegRow := ⟨0x3e008, 0x80, 32, 0, 1, 32, [(LT_STAT.LSTATE, .ro), (LT_STAT.PRIO, .ro), (LT_STAT.FUNC, .ro), (LT_STAT.LATCH, .ro), (LT_STAT.HELD, .ro), (LT_STAT.LGEN, .ro)]⟩

/-! LT_PC, 64 bits (10 R369). -/
def LT_PC.PC : Fld := ⟨0x1f0080, 64, fun _ => 0⟩
def rowLT_PC : RegRow := ⟨0x3e010, 0x80, 32, 0, 1, 64, [(LT_PC.PC, .ro)]⟩

/-! LT_CNT, 32 bits (10 R369). -/
def LT_CNT.ERR_CNT : Fld := ⟨0x1f00c0, 16, fun _ => 0⟩
def LT_CNT.SKIP_CNT : Fld := ⟨0x1f00d0, 16, fun _ => 0⟩
def rowLT_CNT : RegRow := ⟨0x3e018, 0x80, 32, 0, 1, 32, [(LT_CNT.ERR_CNT, .rc), (LT_CNT.SKIP_CNT, .rc)]⟩

/-! LT_DIAG, 32 bits (10 R369). -/
def LT_DIAG.WB_FAIL : Fld := ⟨0x1f0100, 8, fun _ => 0⟩
def LT_DIAG.PARK_CNT : Fld := ⟨0x1f0108, 8, fun _ => 0⟩
def LT_DIAG.PAUSE_CAUSE : Fld := ⟨0x1f0110, 2, fun _ => 0⟩
def rowLT_DIAG : RegRow := ⟨0x3e020, 0x80, 32, 0, 1, 32, [(LT_DIAG.WB_FAIL, .rc), (LT_DIAG.PARK_CNT, .rc), (LT_DIAG.PAUSE_CAUSE, .ro)]⟩

/-! LT_BYTES, 64 bits (10 R369). -/
def LT_BYTES.BYTES : Fld := ⟨0x1f0140, 64, fun _ => 0⟩
def rowLT_BYTES : RegRow := ⟨0x3e028, 0x80, 32, 0, 1, 64, [(LT_BYTES.BYTES, .ro)]⟩

/-! BH_OWNER, 32 bits (11 R398). -/
def BH_OWNER.CUR_KIND : Fld := ⟨0x1f8000, 2, fun _ => 2⟩
def BH_OWNER.CUR_INDEX : Fld := ⟨0x1f8002, 5, fun _ => 0⟩
def BH_OWNER.HOME_KIND : Fld := ⟨0x1f8008, 2, fun _ => 2⟩
def BH_OWNER.HOME_INDEX : Fld := ⟨0x1f800a, 5, fun _ => 0⟩
def BH_OWNER.PEND : Fld := ⟨0x1f800f, 1, fun _ => 0⟩
def rowBH_OWNER : RegRow := ⟨0x3f000, 0x20, 32, 0, 1, 32, [(BH_OWNER.CUR_KIND, .rw), (BH_OWNER.CUR_INDEX, .rw), (BH_OWNER.HOME_KIND, .rw), (BH_OWNER.HOME_INDEX, .rw), (BH_OWNER.PEND, .ro)]⟩

/-! BH_XFER, 32 bits (11 R398). -/
def BH_XFER.EN : Fld := ⟨0x1f8040, 1, fun _ => 0⟩
def BH_XFER.FLAG : Fld := ⟨0x1f8041, 5, fun _ => 0⟩
def BH_XFER.NEXT_KIND : Fld := ⟨0x1f8046, 2, fun _ => 0⟩
def BH_XFER.NEXT_INDEX : Fld := ⟨0x1f8048, 5, fun _ => 0⟩
def BH_XFER.SWAP : Fld := ⟨0x1f804d, 1, fun _ => 0⟩
def BH_XFER.XFER_IGN : Fld := ⟨0x1f804e, 8, fun _ => 0⟩
def rowBH_XFER : RegRow := ⟨0x3f008, 0x20, 32, 0, 1, 32, [(BH_XFER.EN, .rw), (BH_XFER.FLAG, .rw), (BH_XFER.NEXT_KIND, .rw), (BH_XFER.NEXT_INDEX, .rw), (BH_XFER.SWAP, .rw), (BH_XFER.XFER_IGN, .rc)]⟩

/-! BH_STAT, 32 bits (11 R398). -/
def BH_STAT.BSTATE : Fld := ⟨0x1f8080, 3, fun _ => 0⟩
def BH_STAT.BANK : Fld := ⟨0x1f8083, 5, fun b => b⟩
def BH_STAT.SPARE_ROWS : Fld := ⟨0x1f8088, 3, fun _ => 4⟩
def BH_STAT.STALL_CNT : Fld := ⟨0x1f8090, 8, fun _ => 0⟩
def BH_STAT.COLL_CNT : Fld := ⟨0x1f8098, 8, fun _ => 0⟩
def rowBH_STAT : RegRow := ⟨0x3f010, 0x20, 32, 0, 1, 32, [(BH_STAT.BSTATE, .ro), (BH_STAT.BANK, .ro), (BH_STAT.SPARE_ROWS, .ro), (BH_STAT.STALL_CNT, .rc), (BH_STAT.COLL_CNT, .rc)]⟩

/-! BH_ECC, 32 bits (11 R398). -/
def BH_ECC.CE_CNT : Fld := ⟨0x1f80c0, 16, fun _ => 0⟩
def BH_ECC.UE_CNT : Fld := ⟨0x1f80d0, 8, fun _ => 0⟩
def BH_ECC.LAST_ROW : Fld := ⟨0x1f80d8, 7, fun _ => 0⟩
def rowBH_ECC : RegRow := ⟨0x3f018, 0x20, 32, 0, 1, 32, [(BH_ECC.CE_CNT, .rc), (BH_ECC.UE_CNT, .rc), (BH_ECC.LAST_ROW, .ro)]⟩

/-! BH_SPARE, 32 bits (11 R398). -/
def BH_SPARE.SPARE : Fld := ⟨0x1fa000, 32, fun _ => 0⟩
def rowBH_SPARE : RegRow := ⟨0x3f400, 0x0, 1, 0, 1, 32, [(BH_SPARE.SPARE, .sealed)]⟩

/-! DR_CFG, 32 bits (11 R399). -/
def DR_CFG.MARCH_EN : Fld := ⟨0x228000, 1, fun _ => 1⟩
def DR_CFG.SCRUB_EN : Fld := ⟨0x228001, 1, fun _ => 1⟩
def DR_CFG.AUTO_RELOC : Fld := ⟨0x228002, 1, fun _ => 1⟩
def DR_CFG.SCRUB_DIV : Fld := ⟨0x228008, 8, fun _ => 15⟩
def DR_CFG.LOAN_IDLE : Fld := ⟨0x228010, 8, fun _ => 10⟩
def DR_CFG.CE_ROW_LIMIT : Fld := ⟨0x228018, 4, fun _ => 4⟩
def rowDR_CFG : RegRow := ⟨0x45000, 0x0, 1, 0, 1, 32, [(DR_CFG.MARCH_EN, .rw), (DR_CFG.SCRUB_EN, .rw), (DR_CFG.AUTO_RELOC, .sealed), (DR_CFG.SCRUB_DIV, .rw), (DR_CFG.LOAN_IDLE, .rw), (DR_CFG.CE_ROW_LIMIT, .rw)]⟩

/-! DR_LOAN, 32 bits (11 R399). -/
def DR_LOAN.LOANABLE : Fld := ⟨0x228040, 32, fun _ => 0⟩
def rowDR_LOAN : RegRow := ⟨0x45008, 0x0, 1, 0, 1, 32, [(DR_LOAN.LOANABLE, .rw)]⟩

/-! DR_CTRL, 32 bits (11 R399). -/
def DR_CTRL.RELOC_BERTH : Fld := ⟨0x228080, 5, fun _ => 0⟩
def DR_CTRL.RELOC : Fld := ⟨0x228085, 1, fun _ => 0⟩
def rowDR_CTRL : RegRow := ⟨0x45010, 0x0, 1, 0, 1, 32, [(DR_CTRL.RELOC_BERTH, .wo), (DR_CTRL.RELOC, .wo)]⟩

/-! DR_STAT, 32 bits (11 R399). -/
def DR_STAT.LOAN_ACTIVE : Fld := ⟨0x2280c0, 1, fun _ => 0⟩
def DR_STAT.LOAN_BERTH : Fld := ⟨0x2280c1, 5, fun _ => 0⟩
def DR_STAT.LOAN_CHUNK : Fld := ⟨0x2280c6, 7, fun _ => 0⟩
def DR_STAT.RELOCATING : Fld := ⟨0x2280cd, 1, fun _ => 0⟩
def DR_STAT.RELOC_SRC : Fld := ⟨0x2280ce, 5, fun _ => 0⟩
def rowDR_STAT : RegRow := ⟨0x45018, 0x0, 1, 0, 1, 32, [(DR_STAT.LOAN_ACTIVE, .ro), (DR_STAT.LOAN_BERTH, .ro), (DR_STAT.LOAN_CHUNK, .ro), (DR_STAT.RELOCATING, .ro), (DR_STAT.RELOC_SRC, .ro)]⟩

/-! DR_CNT, 32 bits (11 R399). -/
def DR_CNT.MARCH_FAIL : Fld := ⟨0x228100, 16, fun _ => 0⟩
def DR_CNT.STORE_CE : Fld := ⟨0x228110, 8, fun _ => 0⟩
def DR_CNT.STORE_UE : Fld := ⟨0x228118, 8, fun _ => 0⟩
def rowDR_CNT : RegRow := ⟨0x45020, 0x0, 1, 0, 1, 32, [(DR_CNT.MARCH_FAIL, .rc), (DR_CNT.STORE_CE, .rc), (DR_CNT.STORE_UE, .rc)]⟩

/-! DR_PASS, 32 bits (11 R399). -/
def DR_PASS.CHUNKS : Fld := ⟨0x228140, 32, fun _ => 0⟩
def rowDR_PASS : RegRow := ⟨0x45028, 0x0, 1, 0, 1, 32, [(DR_PASS.CHUNKS, .ro)]⟩

/-! CW_ID, 32 bits (12 R445). -/
def CW_ID.DID : Fld := ⟨0x200000, 10, fun _ => 0⟩
def CW_ID.EN : Fld := ⟨0x20000a, 1, fun _ => 0⟩
def rowCW_ID : RegRow := ⟨0x40000, 0x0, 1, 0, 1, 32, [(CW_ID.DID, .sealed), (CW_ID.EN, .sealed)]⟩

/-! CW_PARENT, 32 bits (12 R445). -/
def CW_PARENT.ORD0 : Fld := ⟨0x200040, 3, fun _ => 7⟩
def CW_PARENT.ORD1 : Fld := ⟨0x200043, 3, fun _ => 7⟩
def CW_PARENT.ORD2 : Fld := ⟨0x200046, 3, fun _ => 7⟩
def CW_PARENT.ORD3 : Fld := ⟨0x200049, 3, fun _ => 7⟩
def CW_PARENT.REVERT_S : Fld := ⟨0x20004c, 12, fun _ => 10⟩
def rowCW_PARENT : RegRow := ⟨0x40008, 0x0, 1, 0, 1, 32, [(CW_PARENT.ORD0, .sealed), (CW_PARENT.ORD1, .sealed), (CW_PARENT.ORD2, .sealed), (CW_PARENT.ORD3, .sealed), (CW_PARENT.REVERT_S, .rw)]⟩

/-! CW_TIMING, 32 bits (12 R445). -/
def CW_TIMING.LOSS_SYNCS : Fld := ⟨0x200080, 4, fun _ => 4⟩
def CW_TIMING.MASTER_LOSS_MS : Fld := ⟨0x200084, 16, fun _ => 50⟩
def CW_TIMING.PUB_TIMEOUT_MS : Fld := ⟨0x200094, 12, fun _ => 10⟩
def rowCW_TIMING : RegRow := ⟨0x40010, 0x0, 1, 0, 1, 32, [(CW_TIMING.LOSS_SYNCS, .rw), (CW_TIMING.MASTER_LOSS_MS, .sealed), (CW_TIMING.PUB_TIMEOUT_MS, .rw)]⟩

/-! CW_SERVO, 32 bits (12 R445). -/
def CW_SERVO.KI_SHIFT : Fld := ⟨0x2000c0, 5, fun _ => 4⟩
def rowCW_SERVO : RegRow := ⟨0x40018, 0x0, 1, 0, 1, 32, [(CW_SERVO.KI_SHIFT, .rw)]⟩

/-! CW_TSTAT, 32 bits (12 R445). -/
def CW_TSTAT.ROLE : Fld := ⟨0x200100, 3, fun _ => 0⟩
def CW_TSTAT.UPPORT : Fld := ⟨0x200103, 3, fun _ => 7⟩
def CW_TSTAT.HOPS : Fld := ⟨0x200106, 4, fun _ => 15⟩
def CW_TSTAT.MASTER_DID : Fld := ⟨0x20010a, 10, fun _ => 0⟩
def CW_TSTAT.LOCKED : Fld := ⟨0x200114, 1, fun _ => 0⟩
def CW_TSTAT.OFFSET_RANGE : Fld := ⟨0x200115, 1, fun _ => 0⟩
def rowCW_TSTAT : RegRow := ⟨0x40020, 0x0, 1, 0, 1, 32, [(CW_TSTAT.ROLE, .ro), (CW_TSTAT.UPPORT, .ro), (CW_TSTAT.HOPS, .ro), (CW_TSTAT.MASTER_DID, .ro), (CW_TSTAT.LOCKED, .ro), (CW_TSTAT.OFFSET_RANGE, .ro)]⟩

/-! CW_OFFSET, 64 bits (12 R445). -/
def CW_OFFSET.OFFSET : Fld := ⟨0x200140, 48, fun _ => 0⟩
def rowCW_OFFSET : RegRow := ⟨0x40028, 0x0, 1, 0, 1, 64, [(CW_OFFSET.OFFSET, .ro)]⟩

/-! CW_FCNT, 32 bits (12 R445). -/
def CW_FCNT.FWD_LOST : Fld := ⟨0x200180, 16, fun _ => 0⟩
def CW_FCNT.DUP : Fld := ⟨0x200190, 8, fun _ => 0⟩
def CW_FCNT.GAPS : Fld := ⟨0x200198, 8, fun _ => 0⟩
def rowCW_FCNT : RegRow := ⟨0x40030, 0x0, 1, 0, 1, 32, [(CW_FCNT.FWD_LOST, .rc), (CW_FCNT.DUP, .rc), (CW_FCNT.GAPS, .rc)]⟩

/-! CW_PCFG, 32 bits (12 R445). -/
def CW_PCFG.EN : Fld := ⟨0x200800, 1, fun _ => 0⟩
def rowCW_PCFG : RegRow := ⟨0x40100, 0x40, 4, 0, 1, 32, [(CW_PCFG.EN, .sealed)]⟩

/-! CW_PSTAT, 32 bits (12 R445). -/
def CW_PSTAT.LSTATE : Fld := ⟨0x200840, 2, fun _ => 0⟩
def CW_PSTAT.ROLE : Fld := ⟨0x200842, 2, fun _ => 0⟩
def CW_PSTAT.NB_DID : Fld := ⟨0x200844, 10, fun _ => 0⟩
def CW_PSTAT.NB_HOPS : Fld := ⟨0x20084e, 4, fun _ => 15⟩
def CW_PSTAT.NB_MASTER : Fld := ⟨0x200852, 10, fun _ => 0⟩
def CW_PSTAT.USABLE : Fld := ⟨0x20085c, 1, fun _ => 0⟩
def CW_PSTAT.NB_STEADY : Fld := ⟨0x20085d, 1, fun _ => 0⟩
def rowCW_PSTAT : RegRow := ⟨0x40108, 0x40, 4, 0, 1, 32, [(CW_PSTAT.LSTATE, .ro), (CW_PSTAT.ROLE, .ro), (CW_PSTAT.NB_DID, .ro), (CW_PSTAT.NB_HOPS, .ro), (CW_PSTAT.NB_MASTER, .ro), (CW_PSTAT.USABLE, .ro), (CW_PSTAT.NB_STEADY, .ro)]⟩

/-! CW_PDELAY, 32 bits (12 R445). -/
def CW_PDELAY.D : Fld := ⟨0x200880, 24, fun _ => 0⟩
def CW_PDELAY.REJ : Fld := ⟨0x200898, 8, fun _ => 0⟩
def rowCW_PDELAY : RegRow := ⟨0x40110, 0x40, 4, 0, 1, 32, [(CW_PDELAY.D, .ro), (CW_PDELAY.REJ, .rc)]⟩

/-! CW_ASYM, 32 bits (12 R445). -/
def CW_ASYM.TRIM : Fld := ⟨0x2008c0, 16, fun _ => 0⟩
def rowCW_ASYM : RegRow := ⟨0x40118, 0x40, 4, 0, 1, 32, [(CW_ASYM.TRIM, .sealed)]⟩

/-! CW_PCNT, 32 bits (12 R445). -/
def CW_PCNT.CRC_ERR : Fld := ⟨0x200900, 16, fun _ => 0⟩
def CW_PCNT.RETX : Fld := ⟨0x200910, 16, fun _ => 0⟩
def rowCW_PCNT : RegRow := ⟨0x40120, 0x40, 4, 0, 1, 32, [(CW_PCNT.CRC_ERR, .rc), (CW_PCNT.RETX, .rc)]⟩

/-! CW_PUB, 32 bits (12 R445). -/
def CW_PUB.AXIS : Fld := ⟨0x201000, 4, fun _ => 0⟩
def CW_PUB.EN : Fld := ⟨0x201004, 1, fun _ => 0⟩
def CW_PUB.REFUSED : Fld := ⟨0x201005, 1, fun _ => 0⟩
def rowCW_PUB : RegRow := ⟨0x40200, 0x8, 4, 0, 1, 32, [(CW_PUB.AXIS, .rw), (CW_PUB.EN, .rw), (CW_PUB.REFUSED, .ro)]⟩

/-! CW_FWD, 32 bits (12 R445). -/
def CW_FWD.SRC : Fld := ⟨0x202000, 12, fun _ => 0⟩
def CW_FWD.REMOTE_NUM : Fld := ⟨0x20200c, 11, fun _ => 0⟩
def CW_FWD.EN : Fld := ⟨0x202017, 1, fun _ => 0⟩
def rowCW_FWD : RegRow := ⟨0x40400, 0x4, 64, 0, 1, 32, [(CW_FWD.SRC, .rw), (CW_FWD.REMOTE_NUM, .rw), (CW_FWD.EN, .rw)]⟩

/-! CW_TALLY, 32 bits (12 R445). -/
def CW_TALLY.PERIOD_MS : Fld := ⟨0x204000, 10, fun _ => 100⟩
def rowCW_TALLY : RegRow := ⟨0x40800, 0x0, 1, 0, 1, 32, [(CW_TALLY.PERIOD_MS, .rw)]⟩

/-! CW_TROUND, 32 bits (12 R445). -/
def CW_TROUND.ROUND : Fld := ⟨0x204040, 32, fun _ => 0⟩
def rowCW_TROUND : RegRow := ⟨0x40808, 0x0, 1, 0, 1, 32, [(CW_TROUND.ROUND, .ro)]⟩

/-! CW_TREPORT, 32 bits (12 R445). -/
def CW_TREPORT.REPORTING : Fld := ⟨0x204080, 11, fun _ => 0⟩
def rowCW_TREPORT : RegRow := ⟨0x40810, 0x0, 1, 0, 1, 32, [(CW_TREPORT.REPORTING, .ro)]⟩

/-! CW_TLOCAL, 128 bits (12 R445). -/
def CW_TLOCAL.EPOCH : Fld := ⟨0x204800, 32, fun _ => 0⟩
def CW_TLOCAL.RESULT : Fld := ⟨0x204820, 2, fun _ => 0⟩
def CW_TLOCAL.DIGEST : Fld := ⟨0x204840, 64, fun _ => 0⟩
def rowCW_TLOCAL : RegRow := ⟨0x40900, 0x10, 16, 0, 1, 128, [(CW_TLOCAL.EPOCH, .rw), (CW_TLOCAL.RESULT, .ro), (CW_TLOCAL.DIGEST, .ro)]⟩

/-! CW_TEXP, 128 bits (12 R445). -/
def CW_TEXP.EPOCH : Fld := ⟨0x205000, 32, fun _ => 0⟩
def CW_TEXP.SET : Fld := ⟨0x205020, 1, fun _ => 0⟩
def CW_TEXP.DIGEST : Fld := ⟨0x205040, 64, fun _ => 0⟩
def rowCW_TEXP : RegRow := ⟨0x40a00, 0x10, 16, 0, 1, 128, [(CW_TEXP.EPOCH, .ro), (CW_TEXP.SET, .ro), (CW_TEXP.DIGEST, .ro)]⟩

/-! CW_TRES, 64 bits (12 R445). -/
def CW_TRES.STALE_CNT : Fld := ⟨0x205800, 16, fun _ => 0⟩
def CW_TRES.MISMATCH_CNT : Fld := ⟨0x205810, 16, fun _ => 0⟩
def CW_TRES.LOW_STALE : Fld := ⟨0x205820, 16, fun _ => 0xFFFF⟩
def CW_TRES.LOW_MISMATCH : Fld := ⟨0x205830, 16, fun _ => 65535⟩
def rowCW_TRES : RegRow := ⟨0x40b00, 0x8, 16, 0, 1, 64, [(CW_TRES.STALE_CNT, .ro), (CW_TRES.MISMATCH_CNT, .ro), (CW_TRES.LOW_STALE, .ro), (CW_TRES.LOW_MISMATCH, .ro)]⟩

/-! HL_CFG, 32 bits (14 R498). -/
def HL_CFG.OVERWRITE : Fld := ⟨0x220000, 1, fun _ => 0⟩
def HL_CFG.FAULT_EN : Fld := ⟨0x220001, 1, fun _ => 0⟩
def HL_CFG.FLIST : Fld := ⟨0x220002, 3, fun _ => 0⟩
def HL_CFG.CHAL_S : Fld := ⟨0x220008, 8, fun _ => 60⟩
def rowHL_CFG : RegRow := ⟨0x44000, 0x0, 1, 0, 1, 32, [(HL_CFG.OVERWRITE, .rw), (HL_CFG.FAULT_EN, .rw), (HL_CFG.FLIST, .rw), (HL_CFG.CHAL_S, .rw)]⟩

/-! HL_STAT, 32 bits (14 R498). -/
def HL_STAT.STATE : Fld := ⟨0x220040, 2, fun _ => 0⟩
def HL_STAT.LOGFAIL : Fld := ⟨0x220042, 1, fun _ => 0⟩
def HL_STAT.CHALLENGE : Fld := ⟨0x220043, 1, fun _ => 0⟩
def HL_STAT.LOCKOUT : Fld := ⟨0x220044, 1, fun _ => 0⟩
def HL_STAT.BAD_UNITS : Fld := ⟨0x220048, 8, fun _ => 0⟩
def HL_STAT.KEEL_USED : Fld := ⟨0x220050, 6, fun _ => 0⟩
def rowHL_STAT : RegRow := ⟨0x44008, 0x0, 1, 0, 1, 32, [(HL_STAT.STATE, .ro), (HL_STAT.LOGFAIL, .ro), (HL_STAT.CHALLENGE, .ro), (HL_STAT.LOCKOUT, .ro), (HL_STAT.BAD_UNITS, .ro), (HL_STAT.KEEL_USED, .ro)]⟩

/-! HL_SEQ, 64 bits (14 R498). -/
def HL_SEQ.FIRST_SEQ : Fld := ⟨0x220080, 32, fun _ => 0⟩
def HL_SEQ.LAST_SEQ : Fld := ⟨0x2200a0, 32, fun _ => 0⟩
def rowHL_SEQ : RegRow := ⟨0x44010, 0x0, 1, 0, 1, 64, [(HL_SEQ.FIRST_SEQ, .ro), (HL_SEQ.LAST_SEQ, .ro)]⟩

/-! HL_PTR, 64 bits (14 R498). -/
def HL_PTR.HEAD : Fld := ⟨0x2200c0, 17, fun _ => 0⟩
def HL_PTR.TAIL : Fld := ⟨0x2200e0, 17, fun _ => 0⟩
def rowHL_PTR : RegRow := ⟨0x44018, 0x0, 1, 0, 1, 64, [(HL_PTR.HEAD, .ro), (HL_PTR.TAIL, .ro)]⟩

/-! HL_CNT, 32 bits (14 R498). -/
def HL_CNT.DROPPED : Fld := ⟨0x220100, 16, fun _ => 0⟩
def HL_CNT.OVERWRITTEN : Fld := ⟨0x220110, 16, fun _ => 0⟩
def rowHL_CNT : RegRow := ⟨0x44020, 0x0, 1, 0, 1, 32, [(HL_CNT.DROPPED, .rc), (HL_CNT.OVERWRITTEN, .rc)]⟩

/-! HL_WINBASE, 32 bits (14 R498). -/
def HL_WINBASE.BASE : Fld := ⟨0x220148, 15, fun _ => 0⟩
def rowHL_WINBASE : RegRow := ⟨0x44028, 0x0, 1, 0, 1, 32, [(HL_WINBASE.BASE, .rw)]⟩

/-! HL_LCFG, 64 bits (14 R498). -/
def HL_LCFG.LEN : Fld := ⟨0x220200, 7, fun _ => 0⟩
def HL_LCFG.EN : Fld := ⟨0x220207, 1, fun _ => 0⟩
def HL_LCFG.BYTES : Fld := ⟨0x220208, 10, fun _ => 0⟩
def HL_LCFG.ERR : Fld := ⟨0x220212, 1, fun _ => 0⟩
def HL_LCFG.HOLD_US : Fld := ⟨0x220220, 16, fun _ => 0⟩
def rowHL_LCFG : RegRow := ⟨0x44040, 0x8, 8, 0, 1, 64, [(HL_LCFG.LEN, .rw), (HL_LCFG.EN, .rw), (HL_LCFG.BYTES, .ro), (HL_LCFG.ERR, .ro), (HL_LCFG.HOLD_US, .rw)]⟩

/-! HL_TRIG, 32 bits (14 R498). -/
def HL_TRIG.TRIG : Fld := ⟨0x220800, 32, fun _ => 0⟩
def rowHL_TRIG : RegRow := ⟨0x44100, 0x4, 128, 0, 1, 32, [(HL_TRIG.TRIG, .rw)]⟩

/-! HL_GLIST, 32 bits (14 R498). -/
def HL_GLIST.LIST : Fld := ⟨0x221800, 3, fun _ => 0⟩
def rowHL_GLIST : RegRow := ⟨0x44300, 0x4, 8, 0, 1, 32, [(⟨0x221800, 3, fun _ => 0⟩, .rw), (⟨0x221804, 3, fun _ => 0⟩, .rw), (⟨0x221808, 3, fun _ => 0⟩, .rw), (⟨0x22180c, 3, fun _ => 0⟩, .rw), (⟨0x221810, 3, fun _ => 0⟩, .rw), (⟨0x221814, 3, fun _ => 0⟩, .rw), (⟨0x221818, 3, fun _ => 0⟩, .rw), (⟨0x22181c, 3, fun _ => 0⟩, .rw)]⟩

/-! HL_WIN, 64 bits (14 R498). -/
def HL_WIN.DATA : Fld := ⟨0x222000, 64, fun _ => 0⟩
def rowHL_WIN : RegRow := ⟨0x44400, 0x8, 32, 0, 1, 64, [(HL_WIN.DATA, .ro)]⟩

/-! HL_LIST, 32 bits (14 R498). -/
def HL_LIST.SEL : Fld := ⟨0x224000, 28, fun _ => 0⟩
def HL_LIST.KIND : Fld := ⟨0x22401c, 4, fun _ => 0⟩
def rowHL_LIST : RegRow := ⟨0x44800, 0x100, 8, 4, 64, 32, [(HL_LIST.SEL, .rw), (HL_LIST.KIND, .rw)]⟩

/-- The registers of block SYS (17 R559). -/
def rowsSYS : List RegRow := [rowSYS_ID, rowSYS_CAP, rowSYS_MODE, rowSYS_RESET, rowSYS_FAULT, rowSYS_FMASK, rowSYS_REPAIR, rowSYS_BOOT, rowSYS_PUSH, rowSYS_PUSHLEN, rowSYS_RSTCAUSE, rowSYS_IOCFG, rowSYS_TEMP]

/-- The registers of block HM (17 R559). -/
def rowsHM : List RegRow := [rowHM_SEAL, rowHM_STATUS, rowHM_FRIGHTS, rowHM_FQUAY, rowHM_FRES, rowHM_FENG, rowHM_FPIN, rowHM_FBERTH, rowHM_OWN, rowHM_ENG, rowHM_EKEY, rowHM_KEY, rowHM_LOGKEY]

/-- The registers of block CK (17 R559). -/
def rowsCK : List RegRow := [rowCK_REFSEL, rowCK_STAT]

/-- The registers of block VG (17 R559). -/
def rowsVG : List RegRow := [rowVG_CTRL, rowVG_STAT, rowVG_COMP, rowVG_CAL, rowVG_OFF]

/-- The registers of block HI (17 R559). -/
def rowsHI : List RegRow := [rowHI_SLAB, rowHI_POLL, rowHI_FSTAT, rowHI_SUM, rowHI_LINK, rowHI_LINK_RTT, rowHI_LINK_WR, rowCQ_BASE, rowCQ_CFG, rowCQ_CI, rowCQ_STAT, rowCQ_ERR]

/-- The registers of block AX (17 R559). -/
def rowsAX : List RegRow := [rowAX_CFG, rowAX_PARA, rowAX_PARB, rowAX_PARC, rowAX0_DSRC, rowAX0_SLEW, rowAX0_HOLD, rowAX0_STATUS, rowAX0_UNC, rowAX0_REPAIR]

/-- The registers of block WT (17 R559). -/
def rowsWT : List RegRow := [rowWT_CFG, rowWT_WHEEL, rowWT_ZERO, rowWT_WIN, rowWT_INTERP, rowWT_SYNC, rowWT_REV, rowWT_PH_CFG, rowWT_STATUS, rowWT_PH_EDGE]

/-- The registers of block SL (17 R559). -/
def rowsSL : List RegRow := [rowSL_CTRL, rowSL_STAGE, rowSL_STAT, rowSL_CNT, rowSL_GRP, rowSL_PEND, rowSL_TGT, rowHQ_BASE, rowHQ_CFG, rowHQ_PI, rowHQ_CI, rowHQ_STAT, rowHQ_LOSS]

/-- The registers of block QY (17 R559). -/
def rowsQY : List RegRow := [rowQY_CFG, rowQY_STATUS, rowQY_AUDIT, rowQY_LATE, rowQY_DIAG]

/-- The registers of block ME (17 R559). -/
def rowsME : List RegRow := [rowME_STATUS, rowME_PC, rowME_FAULT, rowME_CNT, rowME_DCFG, rowME_DSTAT, rowME_DCNT, rowME_WDOG, rowME_RELIEF, rowME_IMAGE, rowME_IVER]

/-- The registers of block PN (17 R559). -/
def rowsPN : List RegRow := [rowPN_STATUS, rowPN_LANE, rowPN_FIFO, rowPN_SWAP, rowPN_CNT, rowPN_ERR]

/-- The registers of block TIO (17 R559). -/
def rowsTIO : List RegRow := [rowTIO_PIN, rowTIO_STAT]

/-- The registers of block LT (17 R559). -/
def rowsLT : List RegRow := [rowLT_CFG, rowLT_STAT, rowLT_PC, rowLT_CNT, rowLT_DIAG, rowLT_BYTES]

/-- The registers of block BH (17 R559). -/
def rowsBH : List RegRow := [rowBH_OWNER, rowBH_XFER, rowBH_STAT, rowBH_ECC, rowBH_SPARE]

/-- The registers of block CW (17 R559). -/
def rowsCW : List RegRow := [rowCW_ID, rowCW_PARENT, rowCW_TIMING, rowCW_SERVO, rowCW_TSTAT, rowCW_OFFSET, rowCW_FCNT, rowCW_PCFG, rowCW_PSTAT, rowCW_PDELAY, rowCW_ASYM, rowCW_PCNT, rowCW_PUB, rowCW_FWD, rowCW_TALLY, rowCW_TROUND, rowCW_TREPORT, rowCW_TLOCAL, rowCW_TEXP, rowCW_TRES]

/-- The registers of block HL (17 R559). -/
def rowsHL : List RegRow := [rowHL_CFG, rowHL_STAT, rowHL_SEQ, rowHL_PTR, rowHL_CNT, rowHL_WINBASE, rowHL_LCFG, rowHL_TRIG, rowHL_GLIST, rowHL_WIN, rowHL_LIST]

/-- The registers of block DR (17 R559). -/
def rowsDR : List RegRow := [rowDR_CFG, rowDR_LOAN, rowDR_CTRL, rowDR_STAT, rowDR_CNT, rowDR_PASS]

/-- The registers of the block that an offset lies in (17 R559); none in the reserved range. -/
def rowsAt (off : Nat) : List RegRow :=
  if off < 0x1000 then rowsSYS
  else if off < 0x2000 then rowsHM
  else if off < 0x3000 then rowsCK
  else if off < 0x4000 then rowsVG
  else if off < 0x8000 then rowsHI
  else if off < 0x9000 then rowsAX
  else if off < 0xa000 then rowsWT
  else if off < 0x10000 then rowsSL
  else if off < 0x20000 then rowsQY
  else if off < 0x3c000 then rowsME
  else if off < 0x3d000 then rowsPN
  else if off < 0x3e000 then rowsTIO
  else if off < 0x3f000 then rowsLT
  else if off < 0x40000 then rowsBH
  else if off < 0x44000 then rowsCW
  else if off < 0x45000 then rowsHL
  else if off < 0x46000 then rowsDR
  else []

end Sys2Proof.Machine
end

