-- ==== Sys2Proof/Machine/Ops.lean ====
section
/-! DEFINITION. Named operations that every block uses: bit fields, tables, register fields, AX0 as it is read, records,
source lines, log items, faults and modes. -/

namespace Sys2Proof.Machine

open Sys2Proof

/-! ### Numbers and bit fields (00 R4) -/

/-- Bits [lo+len-1:lo] of a number. -/
def cut (v lo len : Nat) : Nat := (v >>> lo) % 2 ^ len

/-- Bit i of a number. -/
def bit (v i : Nat) : Bool := (v >>> i) % 2 == 1

/-- Bits [lo+len-1:lo] of a word. -/
def bits {n : Nat} (w : BitVec n) (lo len : Nat) : Nat := cut w.toNat lo len

/-- A number put together from fields (first bit, width, value) that do not overlap. -/
def pack (l : List (Nat × Nat × Nat)) : Nat :=
  l.foldl (fun a f => a + (f.2.2 % 2 ^ f.2.1) <<< f.1) 0

/-- The field of `n` bytes at byte `k`. -/
def byt (k n v : Nat) : Nat × Nat × Nat := (8 * k, 8 * n, v)

/-- `v` with bits [lo+len-1:lo] replaced by `x`. -/
def put (v lo len x : Nat) : Nat :=
  v - (cut v lo len) <<< lo + (x % 2 ^ len) <<< lo

/-- A number of `w` bits read as two's complement. -/
def toS (w v : Nat) : Int := if v % 2 ^ w < 2 ^ (w - 1) then (v % 2 ^ w : Nat) else (v % 2 ^ w : Nat) - (2 ^ w : Nat)

/-- An integer as `w` bits of two's complement. -/
def ofS (w : Nat) (i : Int) : Nat := (i % (2 ^ w : Nat)).toNat

/-- An integer held within [-2^(w-1), 2^(w-1)-1]. -/
def clampS (w : Nat) (i : Int) : Int := max (-(2 ^ (w - 1) : Nat)) (min i ((2 ^ (w - 1) : Nat) - 1))

/-- Whole part of a quotient rounded up. -/
def ceilDiv (a b : Nat) : Nat := (a + b - 1) / b

/-- Bytes of a number, lowest first. -/
def bytesOf (v : Nat) : Nat → List Byte
  | 0 => []
  | n + 1 => BitVec.ofNat 8 v :: bytesOf (v / 256) n

/-- The number that bytes spell, lowest first. -/
def ofBytes : List Byte → Nat
  | [] => 0
  | b :: t => b.toNat + 256 * ofBytes t

/-- The number of set bits of the low `n` bits. -/
def popcount (v : Nat) : Nat → Nat
  | 0 => 0
  | n + 1 => popcount v n + (if bit v n then 1 else 0)

/-- The list [0, …, n-1]. -/
def upto (n : Nat) : List Nat := List.range n

/-! ### Tables -/

/-- The entry of a number, or `d` where the table lists none. -/
def get {α : Type} (d : α) : Tbl α → Nat → α
  | [], _ => d
  | e :: t, k => if e.1 = k then e.2 else get d t k

/-- The table with an entry put in its place. -/
def ins {α : Type} (k : Nat) (v : α) : Tbl α → Tbl α
  | [] => [(k, v)]
  | e :: t => if k < e.1 then (k, v) :: e :: t else if e.1 = k then (k, v) :: t else e :: ins k v t

/-- The table without the entry of a number. -/
def del {α : Type} (k : Nat) (t : Tbl α) : Tbl α := t.filter (fun e => e.1 ≠ k)

/-- The table after a write: a default value is not listed. -/
def set {α : Type} [DecidableEq α] (d : α) (t : Tbl α) (k : Nat) (v : α) : Tbl α :=
  if v = d then del k t else ins k v t

/-- The table with a function on every entry. -/
def mapTbl {α : Type} [DecidableEq α] (d : α) (f : α → α) (t : Tbl α) : Tbl α :=
  t.filterMap (fun e => if f e.2 = d then none else some (e.1, f e.2))

/-! ### Register fields -/

/-- The value of instance i (and j) of a register field. -/
def Dev.fld (d : Dev) (f : Fld) (i : Nat := 0) (j : Nat := 0) : Nat := get (f.rst i) d.regs (f.key i j)

/-- Whether a one-bit field is set. -/
def Dev.flag (d : Dev) (f : Fld) (i : Nat := 0) (j : Nat := 0) : Bool := d.fld f i j == 1

/-- The part with a value put in a register field. -/
def Dev.setFld (d : Dev) (f : Fld) (v : Nat) (i : Nat := 0) (j : Nat := 0) : Dev :=
  { d with regs := set (f.rst i) d.regs (f.key i j) (v % 2 ^ f.len) }

/-- The part with a one-bit field set or cleared. -/
def Dev.setFlag (d : Dev) (f : Fld) (b : Bool) (i : Nat := 0) (j : Nat := 0) : Dev := d.setFld f b.toNat i j

/-- A field returns to its reset value. -/
def Dev.clearFld (d : Dev) (f : Fld) (i : Nat := 0) (j : Nat := 0) : Dev := d.setFld f (f.rst i) i j

/-- One bit of a field. -/
def Dev.fbit (d : Dev) (f : Fld) (i b : Nat) : Bool := bit (d.fld f i) b

/-- The part with one bit of a field set or cleared. -/
def Dev.setBit (d : Dev) (f : Fld) (i b : Nat) (v : Bool) : Dev := d.setFld f (put (d.fld f i) b 1 v.toNat) i

/-! ### The running ECLK cycle -/

/-- What the running ECLK cycle has seen. -/
def Dev.cycle (d : Dev) : Cycle := if d.cyc.at_ = d.tb.eclk then d.cyc else { at_ := d.tb.eclk }

/-- A field that has value `old` counts `n` in this cycle. -/
def Cycle.counted (c : Cycle) (key old n : Nat) : Cycle :=
  { c with rc := match c.rc.find? (fun e => e.1 == key) with
    | some e => (key, e.2.1, e.2.2 + n) :: c.rc.filter (fun x => x.1 != key)
    | none => (key, old, n) :: c.rc }

/-- A saturating counter field counts `n` more, and the cycle remembers it (17 R565). -/
def Dev.count (d : Dev) (f : Fld) (i : Nat := 0) (n : Nat := 1) : Dev :=
  { d.setFld f (min (d.fld f i + n) (2 ^ f.len - 1)) i with cyc := d.cycle.counted (f.key i 0) (d.fld f i) n }

/-- A read clears an RC field: it then holds what it has counted in the cycle (00 R6, 17 R565), and another read of the cycle sees it
cleared. -/
def Dev.readClears (d : Dev) (f : Fld) (i j : Nat) : Dev :=
  match d.cycle.rc.find? (fun e => e.1 == f.key i j) with
  | some e =>
    let c := d.cycle
    { d.setFld f (min (f.rst i + e.2.2) (2 ^ f.len - 1)) i j with
      cyc := { c with rc := (e.1, f.rst i, e.2.2) :: c.rc.filter (fun x => x.1 != e.1) } }
  | none => d.clearFld f i j

/-- An event sets bits of a W1C field, and the cycle remembers it (00 R6). -/
def Dev.setEvent (d : Dev) (f : Fld) (mask : Nat) (i : Nat := 0) : Dev :=
  let c := d.cycle
  { d.setFld f (d.fld f i ||| mask) i with cyc := { c with w1c := set 0 c.w1c (f.key i 0) (get 0 c.w1c (f.key i 0) ||| mask) } }

/-- The bits of a W1C field that a write of ones clears: those that no event has set in the same cycle (00 R6). -/
def Dev.w1cCleared (d : Dev) (f : Fld) (ones i : Nat) : Nat :=
  let hit := d.fld f i &&& ones
  hit - (hit &&& get 0 d.cycle.w1c (f.key i 0))

/-! ### AX0 as the blocks read it (02 R34) -/

/-- The bitwise majority of the three accumulators; with one retired (13 R448) the lower-numbered of the other two. -/
def Dev.ax0 (d : Dev) : Nat :=
  let x := d.tb.a0.val
  let y := d.tb.a1.val
  let z := d.tb.a2.val
  match d.fld AX0_REPAIR.RETIRED with
  | 0 => ((x &&& y) ||| (x &&& z) ||| (y &&& z)).toNat
  | 1 => y.toNat
  | _ => x.toNat

/-- AX0 in whole ns. -/
def Dev.ns (d : Dev) : Nat := d.ax0 >>> 48

/-- AX0 in units of 125 ps. -/
def Dev.t8 (d : Dev) : Nat := d.ax0 >>> 45

/-- The visible fraction of AX0, 2^-16 ns. -/
def Dev.frac16 (d : Dev) : Nat := cut d.ax0 32 16

/-- Elapsed AX0 time in units of 125 ps (02 R33). -/
def Dev.el8 (d : Dev) : Nat := d.tb.elapsed >>> 45

/-- Elapsed AX0 time in ns. -/
def Dev.elNs (d : Dev) : Nat := d.tb.elapsed >>> 48

/-- ECLK time in ns (01 R11: one cycle is 2 ns). -/
def Dev.ecNs (d : Dev) : Nat := 2 * d.tb.eclk

/-- The working accumulators' remaining correction. -/
def Dev.rem (d : Dev) : Int := if d.fld AX0_REPAIR.RETIRED = 1 then d.tb.a1.rem else d.tb.a0.rem

/-- The rate word. -/
def Dev.rate (d : Dev) : Int := if d.fld AX0_REPAIR.RETIRED = 1 then d.tb.a1.rate.toInt else d.tb.a0.rate.toInt

/-- Nanoseconds, rounded up, of a magnitude in 2^-48 ns. -/
def ceilNs (x : Nat) : Nat := ceilDiv x (2 ^ 48)

/-- AX0_UNC (02 R48): INVALID saturates; LOCKED is the base plus the remaining correction; FREE and HOLDOVER grow by
DRIFT_PPB over the time in the state. -/
def Dev.unc (d : Dev) : Nat :=
  let st := d.fld AX0_STATUS.STATE
  let growth := d.fld AX0_HOLD.DRIFT_PPB * (d.tb.elapsed - d.tb.uncAt)
  if st = 3 then 0xFFFFFFFF
  else if st = 1 then min (d.tb.uncBase + ceilNs d.rem.natAbs) 0xFFFFFFFF
  else min (d.tb.uncBase + ceilDiv (growth + d.rem.natAbs * 1000000000) (1000000000 * 2 ^ 48)) 0xFFFFFFFF

/-! ### Device and mode -/

/-- This device's DID (12). -/
def Dev.did (d : Dev) : Nat := d.fld CW_ID.DID

/-- MODE of SYS_MODE is STEADY. -/
def Dev.steady (d : Dev) : Bool := d.fld SYS_MODE.MODE == 1

/-- MODE of SYS_MODE is OPERATE. -/
def Dev.operate (d : Dev) : Bool := d.fld SYS_MODE.MODE == 2

/-- HM_SEAL is 1 (15 R523). -/
def Dev.sealed (d : Dev) : Bool := d.flag HM_SEAL.SEAL

/-- A relief engine that keeps copies of logical engine n's stores starts copying again (06 R211). -/
def Dev.warmStale (d : Dev) (n : Nat) : Dev :=
  (upto 2).foldl (fun e k =>
    if e.flag ME_RELIEF.WARM_EN k && e.fld ME_RELIEF.WARM_FOR k == n && e.fld ME_STATUS.ROLE (24 + k) == 1 then
      (e.setFld ME_RELIEF.WARM 0 k).setFld ME_RELIEF.COPYING 1 k
    else e) d

/-- The next free value (the model's own counter moves on): `Config.freeValue` of the counter, unconstrained. -/
def Dev.nextFree (d : Dev) : Dev := { d with freeCtr := d.freeCtr + 1 }

/-! ### Records and source lines (08 R270) -/

/-- A record of type `typ` about source `src`, with the bytes 16 to 30 given as fields. -/
def Dev.recAt (d : Dev) (typ src gen time : Nat) (b : List (Nat × Nat × Nat)) : Record :=
  BitVec.ofNat 256 (pack ([byt 0 1 typ, (16, 12, src), byt 4 2 gen, (48, 10, d.did), byt 8 8 time] ++ b))

/-- The line of a source rises with the records of the occurrence; the sluice takes it in a SOURCE_RISE (08 R261). -/
def Dev.raiseRecs (d : Dev) (src : Nat) (recs : List Record) (item : Bool) : Dev :=
  { d with sl := { d.sl with rises := d.sl.rises ++ [{ src := src, recs := recs, item := item, at_ := d.tb.eclk }] } }

/-- A source rises now with one record. -/
def Dev.raise (d : Dev) (typ src gen : Nat) (b : List (Nat × Nat × Nat)) (item : Bool := false) : Dev :=
  d.raiseRecs src [d.recAt typ src gen d.ns b] item

/-- A SYSTEM record of sources 0x7D8 to 0x7E4 (08 R260, 13 R467). -/
def Dev.raiseSys (d : Dev) (src : Nat) (b : List (Nat × Nat × Nat)) : Dev := d.raise 0x0E src 0 b

/-! ### Entries for the harbour log (14 R480) -/

/-- An item entry of `kind` goes to the log's packing window. -/
def Dev.logItem (d : Dev) (kind : Nat) (b : List (Nat × Nat × Nat)) : Dev :=
  { d with lg := { d.lg with pack := d.lg.pack ++ [(d.elNs, BitVec.ofNat 256 (pack (b ++ [byt 31 1 kind])))] } }

/-- A record goes to the log as a RECORD entry, FLAGS[7:4] holding the reason (14 R480). -/
def Dev.logRecord (d : Dev) (reason : Nat) (r : Record) : Dev :=
  { d with lg := { d.lg with pack := d.lg.pack ++
      [(d.elNs, BitVec.ofNat 256 (put (put r.toNat 12 4 reason) 248 8 0x05))] } }

/-! ### Mode and faults (01 R22, 13 R465, R466) -/

/-- SYS_FAULT[6:0]. -/
def Dev.faultBits (d : Dev) : Nat :=
  pack [(0, 1, d.fld SYS_FAULT.AX0_INVALID), (1, 1, d.fld SYS_FAULT.TB_DEGRADED), (2, 1, d.fld SYS_FAULT.QUAY_EXHAUSTED),
    (3, 1, d.fld SYS_FAULT.ENGINE_EXHAUSTED), (4, 1, d.fld SYS_FAULT.BERTH_EXHAUSTED), (5, 1, d.fld SYS_FAULT.FREQ_HOLD),
    (6, 1, d.fld SYS_FAULT.SW)]

/-- MODE, source 0x7DA, rises with the mode before and after and SYS_FAULT (13 R467). -/
def Dev.raiseMode (d : Dev) (old : Nat) : Dev :=
  d.raiseSys 0x7DA [byt 16 1 (d.fld SYS_MODE.MODE), byt 17 1 old, byt 18 1 (d.fld SYS_MODE.CAUSE),
    (152, 1, d.fld SYS_MODE.PENDING_GO), (153, 1, d.fld SYS_MODE.GO_REQ), byt 20 1 d.faultBits]

/-- A bit of SYS_FAULT takes a value; a change raises MODE (13 R466). -/
def Dev.setFault (d : Dev) (f : Fld) (b : Bool) : Dev :=
  if d.flag f = b then d else (d.setFlag f b).raiseMode (d.fld SYS_MODE.MODE)

/-- FAULT# is driven low (13 R466): a fault bit that SYS_FMASK lets through, while the core is powered (15 R502, R529). -/
def Dev.faultLow (d : Dev) : Bool := d.sys.powered && d.faultBits &&& d.fld SYS_FMASK.EN ≠ 0

/-- LOGFAIL# is driven low (14 R492), while the core is powered. -/
def Dev.logfailLow (d : Dev) : Bool := d.sys.powered && d.flag HL_STAT.LOGFAIL

/-- READY is driven high: from the moment the core is powered until it is isolated (15 R503). -/
def Dev.readyHigh (d : Dev) : Bool := d.sys.powered

/-! ### Resource owners and grants (15 R519, R520) -/

/-- The owner of entry k of HM_OWN (rings 0-63, queues 64-127, lighter channels 128-159), where one is set. -/
def Dev.owner (d : Dev) (k : Nat) : Option Nat :=
  if d.flag (HM_OWN.VALID.nth 4 (k % 8)) (k / 8) then some (d.fld (HM_OWN.FUNC.nth 4 (k % 8)) (k / 8)) else none

/-- Function f exists: F0, or a function that NumVFs enables (09 R296). -/
def Dev.fnOn (d : Dev) (f : Nat) : Bool := f ≤ d.hi.numVFs

/-- The owning function of ring m, if it is enabled. -/
def Dev.ringOwner (d : Dev) (m : Nat) : Option Nat := (d.owner m).filter d.fnOn

/-- The owning function of queue n, if it is enabled. -/
def Dev.queueOwner (d : Dev) (n : Nat) : Option Nat := (d.owner (64 + n)).filter d.fnOn

/-- The owning function of lighter channel c, if it is enabled. -/
def Dev.lighterOwner (d : Dev) (c : Nat) : Option Nat := (d.owner (128 + c)).filter d.fnOn

/-- A denial: DENY_CNT and DENY_FUNC of HM_STATUS. -/
def Dev.deny (d : Dev) (f : Nat) : Dev := (d.count HM_STATUS.DENY_CNT).setFld HM_STATUS.DENY_FUNC f

/-- A command or event that changes the part; the meaning of an ordinary row. The time base changes only by its own rows
(02 R36), and berth memory and fuses only by theirs. -/
def State.act (s : State) (f : Dev → Dev) : Host.Outcome State Fault Refusal :=
  .next { s with dev := { f s.dev with tb := s.dev.tb, mem := s.dev.mem, fuse := s.dev.fuse } }

/-- The meaning of a row that may change berth memory and not the time base. -/
def State.actMem (s : State) (f : Dev → Dev) : Host.Outcome State Fault Refusal :=
  .next { s with dev := { f s.dev with tb := s.dev.tb, fuse := s.dev.fuse } }

/-- The meaning of a row that may change the time base (02 R36) and not berth memory. -/
def State.actTime (s : State) (f : Dev → Dev) : Host.Outcome State Fault Refusal :=
  .next { s with dev := { f s.dev with mem := s.dev.mem, fuse := s.dev.fuse } }

/-- The meaning of a row that may change both; fuses change only by their own row (15 R516). -/
def State.actAll (s : State) (f : Dev → Dev) : Host.Outcome State Fault Refusal :=
  .next { s with dev := { f s.dev with fuse := s.dev.fuse } }

end Sys2Proof.Machine
end

