-- ==== Sys2Proof/Machine/Crypto.lean ====
section
/-! DEFINITION. The functions of the standards that the spec names: SHA-256 (FIPS 180-4), HMAC-SHA-256 (FIPS 198-1), verification of an
ECDSA signature on curve P-256 (FIPS 186) and CRC-32 with the IEEE 802.3 polynomial (00 R3, 12 R404, 14 R473). PRESUMED: the text of these
standards is not in the spec (log 3). -/

namespace Sys2Proof.Machine

/-- A number handed on as a numeral, so that a long computation does not carry unevaluated terms. -/
def handOn {α : Type} (n : Nat) (k : Nat → α) : α :=
  match n with
  | 0 => k 0
  | m + 1 => k (m + 1)

/-- The number that bytes spell, highest first. -/
def ofBytesBE (l : List Byte) : Nat := l.foldl (fun a b => a * 256 + b.toNat) 0

/-! ### SHA-256 (FIPS 180-4) -/

/-- ROTR and SHR of a 32-bit word. -/
def rotr32 (x n : Nat) : Nat := (x >>> n) ||| ((x <<< (32 - n)) % 2 ^ 32)

/-- The round constants. -/
def shaK : List Nat :=
  [0x428a2f98, 0x71374491, 0xb5c0fbcf, 0xe9b5dba5, 0x3956c25b, 0x59f111f1, 0x923f82a4, 0xab1c5ed5] ++
  [0xd807aa98, 0x12835b01, 0x243185be, 0x550c7dc3, 0x72be5d74, 0x80deb1fe, 0x9bdc06a7, 0xc19bf174] ++
  [0xe49b69c1, 0xefbe4786, 0x0fc19dc6, 0x240ca1cc, 0x2de92c6f, 0x4a7484aa, 0x5cb0a9dc, 0x76f988da] ++
  [0x983e5152, 0xa831c66d, 0xb00327c8, 0xbf597fc7, 0xc6e00bf3, 0xd5a79147, 0x06ca6351, 0x14292967] ++
  [0x27b70a85, 0x2e1b2138, 0x4d2c6dfc, 0x53380d13, 0x650a7354, 0x766a0abb, 0x81c2c92e, 0x92722c85] ++
  [0xa2bfe8a1, 0xa81a664b, 0xc24b8b70, 0xc76c51a3, 0xd192e819, 0xd6990624, 0xf40e3585, 0x106aa070] ++
  [0x19a4c116, 0x1e376c08, 0x2748774c, 0x34b0bcb5, 0x391c0cb3, 0x4ed8aa4a, 0x5b9cca4f, 0x682e6ff3] ++
  [0x748f82ee, 0x78a5636f, 0x84c87814, 0x8cc70208, 0x90befffa, 0xa4506ceb, 0xbef9a3f7, 0xc67178f2]

/-- The eight working words a to h. -/
structure ShaWords where
  a : Nat
  b : Nat
  c : Nat
  d : Nat
  e : Nat
  f : Nat
  g : Nat
  h : Nat
  deriving DecidableEq, Repr

/-- The initial hash value. -/
def shaInit : ShaWords :=
  { a := 0x6a09e667, b := 0xbb67ae85, c := 0x3c6ef372, d := 0xa54ff53a, e := 0x510e527f, f := 0x9b05688c, g := 0x1f83d9ab, h := 0x5be0cd19 }

/-- One round with its constant and its word of the schedule. -/
def shaRound (s : ShaWords) (k w : Nat) : ShaWords :=
  let s1 := Nat.xor (Nat.xor (rotr32 s.e 6) (rotr32 s.e 11)) (rotr32 s.e 25)
  let ch := Nat.xor (Nat.land s.e s.f) (Nat.land (2 ^ 32 - 1 - s.e) s.g)
  let s0 := Nat.xor (Nat.xor (rotr32 s.a 2) (rotr32 s.a 13)) (rotr32 s.a 22)
  let maj := Nat.xor (Nat.xor (Nat.land s.a s.b) (Nat.land s.a s.c)) (Nat.land s.b s.c)
  handOn ((s.h + s1 + ch + k + w) % 2 ^ 32) fun t1 =>
  handOn ((s.d + t1) % 2 ^ 32) fun e =>
  handOn ((t1 + s0 + maj) % 2 ^ 32) fun a =>
    { a := a, b := s.a, c := s.b, d := s.c, e := e, f := s.e, g := s.f, h := s.g }

/-- The rounds with the constants of a list; `w` holds the next 16 words of the schedule. -/
def shaRounds : List Nat → List Nat → ShaWords → ShaWords
  | [], _, s => s
  | k :: ks, w, s =>
    let x := w.getD 1 0
    let y := w.getD 14 0
    let r0 := Nat.xor (Nat.xor (rotr32 x 7) (rotr32 x 18)) (x >>> 3)
    let r1 := Nat.xor (Nat.xor (rotr32 y 17) (rotr32 y 19)) (y >>> 10)
    handOn (w.headD 0) fun w0 =>
    handOn ((r1 + w.getD 9 0 + r0 + w0) % 2 ^ 32) fun next =>
      shaRounds ks (w.drop 1 ++ [next]) (shaRound s k w0)

/-- One block of 16 words. -/
def shaBlock (s : ShaWords) (w : List Nat) : ShaWords :=
  let t := shaRounds shaK w s
  handOn ((s.a + t.a) % 2 ^ 32) fun a => handOn ((s.b + t.b) % 2 ^ 32) fun b =>
  handOn ((s.c + t.c) % 2 ^ 32) fun c => handOn ((s.d + t.d) % 2 ^ 32) fun d =>
  handOn ((s.e + t.e) % 2 ^ 32) fun e => handOn ((s.f + t.f) % 2 ^ 32) fun f =>
  handOn ((s.g + t.g) % 2 ^ 32) fun g => handOn ((s.h + t.h) % 2 ^ 32) fun h =>
    { a := a, b := b, c := c, d := d, e := e, f := f, g := g, h := h }

/-- Four bytes to a word, highest first. -/
def shaWordsOf : List Byte → List Nat
  | a :: b :: c :: d :: t => ofBytesBE [a, b, c, d] :: shaWordsOf t
  | _ => []

/-- `n` blocks of a list of words. -/
def shaBlocks : Nat → List Nat → ShaWords → ShaWords
  | 0, _, s => s
  | n + 1, w, s => shaBlocks n (w.drop 16) (shaBlock s (w.take 16))

/-- A message with its padding: the bit 1, zeros, and its length in bits as 8 bytes, highest first. -/
def shaPad (m : List Byte) : List Byte :=
  m ++ 0x80 :: List.replicate ((119 - m.length % 64) % 64) 0 ++ (bytesOf (8 * m.length) 8).reverse

/-- SHA-256 of a byte string (00 R3). Byte k of the digest is bits [8k+7:8k]. -/
def sha256 (m : List Byte) : BitVec 256 :=
  let p := shaPad m
  let s := shaBlocks (p.length / 64) (shaWordsOf p) shaInit
  BitVec.ofNat 256 (ofBytes ([s.a, s.b, s.c, s.d, s.e, s.f, s.g, s.h].flatMap (fun w => (bytesOf w 4).reverse)))

/-- HMAC-SHA-256 of a byte string under a 32-byte key whose byte k is bits [8k+7:8k] (00 R3, 14 R486, FIPS 198-1). -/
def hmacSha256 (key : BitVec 256) (m : List Byte) : BitVec 256 :=
  let k := bytesOf key.toNat 64
  let inner := sha256 (k.map (· ^^^ 0x36) ++ m)
  sha256 (k.map (· ^^^ 0x5C) ++ bytesOf inner.toNat 32)

/-! ### CRC-32 -/

/-- `n` bits of the remainder, lowest bit first. -/
def crcBits : Nat → Nat → Nat
  | 0, c => c
  | n + 1, c => handOn (if c % 2 = 1 then Nat.xor (c / 2) 0xEDB88320 else c / 2) (crcBits n)

/-- CRC-32 with the IEEE 802.3 polynomial over a byte string (12 R404, 14 R473): bits lowest first, initial value and final inversion
of all ones. -/
def crc32 (m : List Byte) : BitVec 32 :=
  BitVec.ofNat 32 (Nat.xor (m.foldl (fun c b => crcBits 8 (Nat.xor c b.toNat)) 0xFFFFFFFF) 0xFFFFFFFF)

/-! ### ECDSA on curve P-256 (FIPS 186) -/

/-- The prime of the field. -/
def p256P : Nat := 0xffffffff00000001000000000000000000000000ffffffffffffffffffffffff
/-- The order of the base point. -/
def p256N : Nat := 0xffffffff00000000ffffffffffffffffbce6faada7179e84f3b9cac2fc632551
/-- The coefficient b of the curve y² = x³ - 3x + b. -/
def p256B : Nat := 0x5ac635d8aa3a93e7b3ebbd55769886bc651d06b0cc53b0f63bce3c3e27d2604b
/-- The base point. -/
def p256Gx : Nat := 0x6b17d1f2e12c4247f8bce6e563a440f277037d812deb33a0f4a13945d898c296
/-- The base point. -/
def p256Gy : Nat := 0x4fe342e2fe1a7f9b8ee7eb4a7c0f9e162bce33576b315ececbb6406837bf51f5

/-- x to the power e modulo m; `n` is at least the number of bits of e. -/
def powMod (m x e : Nat) : Nat → Nat
  | 0 => 1 % m
  | n + 1 => handOn (powMod m x (e / 2) n) fun r => if e % 2 = 1 then r * r % m * x % m else r * r % m

/-- The inverse modulo a prime, as the power with exponent m - 2. -/
def invMod (m x : Nat) : Nat := powMod m x (m - 2) 256

/-- A point in Jacobian coordinates: (X / Z², Y / Z³), and with Z = 0 the point at infinity. -/
structure JPoint where
  x : Nat
  y : Nat
  z : Nat
  deriving DecidableEq, Repr

/-- A difference modulo the prime. -/
def fsub (a b : Nat) : Nat := (a + p256P - b % p256P) % p256P

/-- A point from its coordinates, each brought to a numeral. -/
def mkPoint (x y z : Nat) : JPoint := handOn x fun x => handOn y fun y => handOn z fun z => { x := x, y := y, z := z }

/-- Twice a point. -/
def JPoint.double (q : JPoint) : JPoint :=
  handOn (q.y * q.y % p256P) fun yy =>
  handOn (4 * q.x * yy % p256P) fun s =>
  handOn (q.z * q.z % p256P) fun zz =>
  handOn (3 * fsub q.x zz * (q.x + zz) % p256P) fun m =>
  handOn (fsub (m * m) (2 * s)) fun x =>
    mkPoint x (fsub (m * fsub s x) (8 * yy * yy)) (2 * q.y * q.z % p256P)

/-- The sum of two points. -/
def JPoint.add (q r : JPoint) : JPoint :=
  if q.z = 0 then r else if r.z = 0 then q else
  handOn (q.z * q.z % p256P) fun qz =>
  handOn (r.z * r.z % p256P) fun rz =>
  handOn (q.x * rz % p256P) fun u1 =>
  handOn (r.x * qz % p256P) fun u2 =>
  handOn (q.y * rz % p256P * r.z % p256P) fun s1 =>
  handOn (r.y * qz % p256P * q.z % p256P) fun s2 =>
    if u1 = u2 then (if s1 = s2 then q.double else { x := 1, y := 1, z := 0 }) else
    handOn (fsub u2 u1) fun h =>
    handOn (fsub s2 s1) fun t =>
    handOn (h * h % p256P) fun hh =>
    handOn (hh * h % p256P) fun hhh =>
    handOn (u1 * hh % p256P) fun v =>
    handOn (fsub (t * t) (hhh + 2 * v)) fun x =>
      mkPoint x (fsub (t * fsub v x) (s1 * hhh)) (h * q.z % p256P * r.z % p256P)

/-- u1 · G + u2 · Q over the highest `n` of 256 bits, for a table of G, Q and G + Q. -/
def twoMul (g q gq : JPoint) (u1 u2 : Nat) : Nat → JPoint
  | 0 => { x := 1, y := 1, z := 0 }
  | n + 1 =>
    let a := (twoMul g q gq (u1 / 2) (u2 / 2) n).double
    if u1 % 2 = 1 then (if u2 % 2 = 1 then a.add gq else a.add g) else if u2 % 2 = 1 then a.add q else a

/-- A signature (r, s) of a digest verifies under the public key (Qx, Qy). -/
def p256Verify (qx qy e r s : Nat) : Bool :=
  if p256P ≤ qx ∨ p256P ≤ qy ∨ qy * qy % p256P ≠ fsub (qx * qx % p256P * qx + p256B) (3 * qx) ∨ r = 0 ∨ p256N ≤ r ∨ s = 0 ∨ p256N ≤ s then false
  else
    handOn (invMod p256N s) fun w =>
    handOn (e * w % p256N) fun u1 =>
    handOn (r * w % p256N) fun u2 =>
      let g : JPoint := { x := p256Gx, y := p256Gy, z := 1 }
      let q : JPoint := { x := qx, y := qy, z := 1 }
      let t := twoMul g q (g.add q) u1 u2 256
      if t.z = 0 then false
      else handOn (invMod p256P (t.z * t.z % p256P)) fun i => t.x * i % p256P % p256N == r

/-- ECDSA P-256 verification (00 R3, 15 R510): a key of Qx and Qy, a SHA-256 digest, and a signature of r and s, each of 32 bytes
highest first. Byte k of each operand is bits [8k+7:8k]. -/
def ecdsaVerify (key : BitVec 512) (digest : BitVec 256) (sig : BitVec 512) : Bool :=
  let be (v : Nat) : Nat := ofBytesBE (bytesOf v 32)
  p256Verify (be key.toNat) (be (key.toNat / 2 ^ 256)) (be digest.toNat) (be sig.toNat) (be (sig.toNat / 2 ^ 256))

end Sys2Proof.Machine
end

