-- ==== Sys2Proof/Machine/HostQ.lean ====
section
/-! DEFINITION. Host event queues (08 R279 to R292): generating, staging, losing and writing records, messages, wake, and
the meanings of the rows of that family. -/

namespace Sys2Proof.Machine

open Sys2Proof

/-! ### Parts of the state -/

/-- Host queue q. -/
def Dev.hq (d : Dev) (q : Nat) : HQueue := get {} d.sl.hqs q

/-- The part with host queue q replaced. -/
def Dev.setHq (d : Dev) (q : Nat) (h : HQueue) : Dev := { d with sl := { d.sl with hqs := set {} d.sl.hqs q h } }

/-- Command ring m. -/
def Dev.ring (d : Dev) (m : Nat) : Ring := get {} d.hi.rings m

/-- The part with command ring m replaced. -/
def Dev.setRing (d : Dev) (m : Nat) (r : Ring) : Dev := { d with hi := { d.hi with rings := set {} d.hi.rings m r } }

/-- Function f. -/
def Dev.func (d : Dev) (f : Nat) : Func := get {} d.hi.fns f

/-- The part with function f replaced. -/
def Dev.setFunc (d : Dev) (f : Nat) (x : Func) : Dev := { d with hi := { d.hi with fns := set {} d.hi.fns f x } }

/-- Something goes to the link (08 R288), which leaves L1 for it (08 R285). -/
def Dev.post (d : Dev) (p : Posted) : Dev := { d with hi := { d.hi with posted := d.hi.posted ++ [p], l1 := false } }

/-! ### The link and the functions (08 R285, R291) -/

/-- The link is in L0 or L1. -/
def Dev.linkUsable (d : Dev) : Bool := d.flag HI_LINK.UP && !d.flag HI_LINK.PERST && !d.hi.l23

/-- Function f is asleep (08 R291). -/
def Dev.asleep (d : Dev) (f : Nat) : Bool := (d.func f).d3 || !d.linkUsable

/-- Wake is signalled for function f (08 R291, R292): PM_PME and PME_Status while the link is in L0 or L1, else WAKE#. -/
def Dev.wake (d : Dev) (f : Nat) : Dev :=
  if d.asleep f && (d.func f).pmeEn then
    if d.linkUsable then
      if (d.func f).pmeStat then d
      else (d.setFunc f { d.func f with pmeStat := true, wakePend := true, pmeAt := d.ecNs }).post (.pme f)
    else
      let e := d.setFunc f { d.func f with wakePend := true }
      { e with hi := { e.hi with wakeLow := true } }
  else d

/-- An MSI-X message of function f is sent, or its vector becomes pending (08 R283). -/
def Dev.sendMsix (d : Dev) (f v : Nat) : Dev :=
  let x := d.func f
  let e := get 0 x.msix v
  if x.msixEn && !x.fmask && x.unmasked.contains v && d.linkUsable && x.bme then
    d.post (.msix f v (e.toNat % 2 ^ 64) (e.toNat / 2 ^ 64))
  else if x.pba.contains v then d else d.setFunc f { x with pba := v :: x.pba }

/-- Pending messages that nothing keeps back are sent (08 R283). -/
def Dev.msixFlush (d : Dev) (f : Nat) : Dev :=
  let x := d.func f
  if x.d3 then d else x.pba.foldr (fun v e => e.sendMsix f v) (d.setFunc f { x with pba := [] })

/-- The message of queue q. -/
def Dev.notifyQueue (d : Dev) (q : Nat) : Dev :=
  match d.queueOwner q with
  | some f => d.sendMsix f (d.fld HQ_CFG.VECTOR q)
  | none => d

/-! ### Queue levels -/

/-- PI − CI of queue q, modulo 2^32 (08 R279). -/
def Dev.hqLevel (d : Dev) (q : Nat) : Nat := (d.fld HQ_PI.PI q + 2 ^ 32 - d.fld HQ_CI.CI q) % 2 ^ 32

/-- Queue q is full. -/
def Dev.hqFull (d : Dev) (q : Nat) : Bool := d.hqLevel q == 2 ^ d.fld HQ_CFG.SIZE q

/-- PHASE of the next record of queue q (08 R280). -/
def Dev.hqPhase (d : Dev) (q : Nat) : Nat := (d.fld HQ_PI.PI q / 2 ^ d.fld HQ_CFG.SIZE q + 1) % 2

/-- Queue q cannot be written now (08 R285). -/
def Dev.hqBlocked (d : Dev) (q : Nat) : Bool :=
  match d.queueOwner q with
  | none => true
  | some f => !d.linkUsable || !(d.func f).bme || (d.func f).d3 || d.fld HQ_STAT.QSTATE q == 3 || d.hqFull q

/-- The number of records in units. -/
def recCount (l : List RecUnit) : Nat := (l.map (fun u => u.recs.length)).sum

/-- Records in staging, all queues (SL_STAT STAGED). -/
def Dev.stagedTotal (d : Dev) : Nat := (d.sl.hqs.map (fun e => recCount e.2.staged)).sum

/-- The berths that stage: the 16 lowest-numbered of SL_STAGE that are not spares (08 R285). -/
def Dev.stageBerths (d : Dev) : List Nat :=
  ((upto 32).filter (fun b => d.fbit SL_STAGE.BERTHS 0 b && !d.fbit BH_SPARE.SPARE 0 b)).take 16

/-- Records that staging holds at most. -/
def Dev.stageCap (d : Dev) : Nat := 2048 * d.stageBerths.length

/-! ### Losing records (08 R284, R286) -/

/-- LOSS, source 0x7E3: kind, queue, losses of the kind since the LOSS record before (13 R467). -/
def Dev.raiseLoss (d : Dev) (kind q n : Nat) : Dev := d.raiseSys 0x7E3 [byt 16 1 kind, byt 17 1 q, byt 20 4 n]

/-- The records of a unit are lost to queue q with a cause (08 R277): counted, itemised ones logged, LOSS raised at the
first loss from staging after each LOSS_COUNT. -/
def Dev.lose (d : Dev) (q : Nat) (u : RecUnit) (cause : Nat) : Dev :=
  let n := u.recs.length
  let h := d.hq q
  let d1 := d.setHq q { h with
    lost := min (h.lost + n) 0xFFFFFFFF
    lostAt := if h.lost = 0 then d.ns else h.lostAt
    lostItem := min (h.lostItem + (if u.item then n else 0)) 0xFFFF
    lostWhy := if h.lost = 0 then cause else h.lostWhy
    raised := h.raised || cause = 1 || cause = 2 }
  let d2 := d1.count HQ_LOSS.LOST q n
  let d3 := if u.item then u.recs.foldl (fun e r => e.logRecord (if cause = 4 then 6 else 3) r) d2 else d2
  if cause = 1 ∨ cause = 2 then
    let d4 := d3.count SL_CNT.STAGE_LOST 0 n
    let k := d4.sl.lossStage + n
    if h.raised then { d4 with sl := { d4.sl with lossStage := k } }
    else { d4 with sl := { d4.sl with lossStage := 0 } }.raiseLoss 2 q k
  else d3

/-- The LOSS_COUNT record of queue q (08 R277). -/
def Dev.lossRec (d : Dev) (q : Nat) : Record :=
  let h := d.hq q
  d.recAt 0x11 0 0 d.ns [byt 16 4 h.lost, byt 20 8 h.lostAt, byt 28 2 h.lostItem, byt 30 1 h.lostWhy]

/-- The losses of queue q have been reported. -/
def Dev.clearLoss (d : Dev) (q : Nat) : Dev :=
  d.setHq q { d.hq q with lost := 0, lostAt := 0, lostItem := 0, lostWhy := 0, raised := false }

/-- A record with STAGED set in FLAGS (08 R270, R285). -/
def markStaged (r : Record) : Record := r ||| BitVec.ofNat 256 (2 ^ 10)

/-- The cause that keeps `n` more records of queue q out of staging, if any (08 R286). -/
def Dev.stageRefuses (d : Dev) (q n : Nat) : Option Nat :=
  if d.stagedTotal + n > d.stageCap then some 1
  else if d.fld HQ_CFG.STG_MAX q ≠ 0 ∧ recCount (d.hq q).staged + n > 2048 * d.fld HQ_CFG.STG_MAX q then some 2
  else none

/-- A COMPLETION of ring m waits for room in staging (08 R287). -/
def Dev.ringHeld (d : Dev) (m : Nat) : Bool := d.sl.hqs.any (fun e => e.2.held.any (fun u => u.ring == some m))

/-- An ACTIVE ring waits, or a WAITING one resumes (09 R323). -/
def Dev.ringMode (d : Dev) (m : Nat) : Dev :=
  let st := d.fld CQ_STAT.RSTATE m
  if st = 1 ∨ st = 3 then
    let stop : Bool := d.ringHeld m || (match d.ringOwner m with
      | some f => !(d.func f).bme || (d.func f).d3
      | none => true)
    d.setFld CQ_STAT.RSTATE (if stop then 3 else 1) m
  else d

/-- A drained ring becomes DISABLED, or ACTIVE with RGEN + 1 under REEN_PEND (09 R323, R324). -/
def Dev.ringDrained (d : Dev) (m : Nat) : Dev :=
  if d.fld CQ_STAT.RSTATE m = 2 ∧ (d.ring m).running = [] ∧ d.ringHeld m = false then
    if d.flag CQ_STAT.REEN_PEND m then
      let g := d.fld CQ_STAT.RGEN m
      ((((d.setFld CQ_STAT.RSTATE 1 m).setFld CQ_STAT.REEN_PEND 0 m).setFld CQ_CFG.EN 1 m).setFld CQ_CI.CI 0 m).setFld
        CQ_STAT.RGEN (if g = 0xFFFF then 1 else g + 1) m |>.setRing m {} |>.ringMode m
    else d.setFld CQ_STAT.RSTATE 0 m
  else d

/-- A COMPLETION that waited is staged, written or logged: its ring resumes, or its drain may end (08 R287, 09 R323). -/
def Dev.ringServed (d : Dev) (u : RecUnit) : Dev :=
  match u.ring with
  | some m => (d.ringMode m).ringDrained m
  | none => d

/-- A unit goes to staging, or it is lost; a COMPLETION waits instead (08 R286, R287), and its ring goes to WAITING
(09 R323). -/
def Dev.stage (d : Dev) (q : Nat) (u : RecUnit) : Dev :=
  let h := d.hq q
  match d.stageRefuses q u.recs.length with
  | none => d.setHq q { h with staged := h.staged ++ [{ u with recs := u.recs.map markStaged }] }
  | some cause =>
    match u.ring with
    | some m => (d.setHq q { h with held := h.held ++ [u] }).ringMode m
    | none => d.lose q u cause

/-! ### Writing records (08 R280, R282 to R284) -/

/-- A queue becomes ACTIVE with PI = CI = 0; a LOSS_COUNT that is due becomes its first record (08 R284, 13 R464). -/
def Dev.hqEnable (d : Dev) (q : Nat) : Dev :=
  let d1 := d.setHq q { d.hq q with epoch := (d.hq q).epoch + 1 }
  (((d1.setFld HQ_STAT.QSTATE 1 q).setFld HQ_CFG.EN 1 q).setFld HQ_PI.PI 0 q).setFld HQ_CI.CI 0 q

/-- A queue whose drain has ended becomes DISABLED, or ACTIVE again under REEN_PEND (08 R284). -/
def Dev.hqDrained (d : Dev) (q : Nat) : Dev :=
  let h := d.hq q
  if d.fld HQ_STAT.QSTATE q = 2 ∧ h.gen = [] ∧ h.staged = [] ∧ h.held = [] then
    if d.flag HQ_STAT.REEN_PEND q then (d.setFld HQ_STAT.REEN_PEND 0 q).hqEnable q else d.setFld HQ_STAT.QSTATE 0 q
  else d

/-- One record TLP of queue q: PHASE, the slot and its address in the owner's memory, PI, and the message when the queue was empty (08 R279,
R280, R283). -/
def Dev.writeRec (d : Dev) (q : Nat) (r : Record) (u : RecUnit) : Dev :=
  let pi := d.fld HQ_PI.PI q
  let slot := pi % 2 ^ d.fld HQ_CFG.SIZE q
  let phased := BitVec.ofNat 256 (put r.toNat 255 1 (d.hqPhase q))
  let addr := d.fld HQ_BASE.BASE q * 4096 + 32 * slot
  let p : Posted := .record q slot ((d.queueOwner q).getD 0) addr (d.hq q).epoch { u with recs := [phased] }
  let d1 := (d.post p).setFld HQ_PI.PI ((pi + 1) % 2 ^ 32) q
  if d.hqLevel q = 0 then d1.notifyQueue q else d1

/-- Records of one unit are written one after the other; `more` where the unit has others behind them. -/
def Dev.writeRecs (d : Dev) (q : Nat) (u : RecUnit) (more : Bool) : List Record → Dev
  | [] => d
  | r :: rs => (d.writeRec q r { u with more := more || !rs.isEmpty }).writeRecs q { u with part := true } more rs

/-- The free slots of queue q. -/
def Dev.hqRoom (d : Dev) (q : Nat) : Nat := 2 ^ d.fld HQ_CFG.SIZE q - d.hqLevel q

/-- A capture whose first n records have been written (08 R282). -/
def RecUnit.after (u : RecUnit) (n : Nat) : RecUnit := { u with recs := u.recs.drop n, part := true }

/-- A unit of queue q, which is not full, is written as far as there is room; the rest of a capture is staged, or where staging refuses it the
capture is lost whole (08 R282, R285, R286). -/
def Dev.writeUnit (d : Dev) (q : Nat) (u : RecUnit) : Dev :=
  if u.recs.length ≤ d.hqRoom q then d.writeRecs q u false u.recs
  else match d.stageRefuses q (u.after (d.hqRoom q)).recs.length with
    | some cause => d.lose q u cause
    | none => (d.writeRecs q u true (u.recs.take (d.hqRoom q))).stage q (u.after (d.hqRoom q))

/-- A record unit is generated for queue q (08 R284, R291): lost where the queue is DISABLED or DRAINING, else it waits
for the write engine; an asleep owner is woken. -/
def Dev.generate (d : Dev) (q : Nat) (u : RecUnit) : Dev :=
  let st := d.fld HQ_STAT.QSTATE q
  let d1 := if st = 1 ∨ st = 3 then d.setHq q { d.hq q with gen := (d.hq q).gen ++ [u] } else d.lose q u 3
  match d.queueOwner q with
  | some f => d1.wake f
  | none => d1

/-- The LOSS_COUNT of queue q is written (08 R277, R282). -/
def Dev.writeLoss (d : Dev) (q : Nat) : Dev := (d.clearLoss q).writeRec q (d.lossRec q) { recs := [] }

/-- A LOSS_COUNT of queue q is due before its next record, unless that record goes on with a capture (08 R282). -/
def Dev.lossDue (d : Dev) (q : Nat) : Bool :=
  (d.hq q).lost != 0 && !(match (d.hq q).staged with | u :: _ => u.part | [] => false)

/-- The write engine of queue q takes its oldest record that waits behind no held COMPLETION, a LOSS_COUNT that is due ahead of it or, in
ACTIVE, by itself (08 R280, R282, R284 to R286). -/
def Dev.issueGen (d : Dev) (q : Nat) : Dev :=
  match (d.hq q).gen with
  | [] => if d.lossDue q ∧ d.fld HQ_STAT.QSTATE q = 1 ∧ d.hqBlocked q = false then d.writeLoss q else d
  | u :: t =>
    let d1 := d.setHq q { d.hq q with gen := t }
    if d.hqBlocked q then d1.stage q u
    else if d.lossDue q then d.writeLoss q
    else if (d.hq q).staged ≠ [] then d
    else (d1.writeUnit q u).hqDrained q

/-- The write engine of queue q: a COMPLETION that waits goes first (08 R287), and while none can go what comes behind it meets the same. -/
def Dev.issueRec (d : Dev) (q : Nat) : Dev :=
  match (d.hq q).held with
  | [] => d.issueGen q
  | u :: t =>
    let d1 := d.setHq q { d.hq q with held := t }
    if d.hqBlocked q then
      if (d.stageRefuses q u.recs.length).isSome then d.issueGen q else (d1.stage q u).ringServed u
    else if d.lossDue q then d.writeLoss q
    else if (d.hq q).staged ≠ [] then d
    else ((d1.writeUnit q u).hqDrained q).ringServed u

/-- Queue q has staged records and can be written. -/
def Dev.canDrain (d : Dev) (q : Nat) : Bool := !(d.hq q).staged.isEmpty && !d.hqBlocked q

/-- The queue that drains next, round robin after the latest one (08 R286). -/
def Dev.nextDrain (d : Dev) : Option Nat :=
  ((upto 64).map (fun k => (d.sl.rr + 1 + k) % 64)).find? d.canDrain

/-- The oldest staged unit of queue q is written as far as the queue has room (08 R286). -/
def Dev.drainUnit (d : Dev) (q : Nat) (u : RecUnit) (t : List RecUnit) : Dev :=
  let n := d.hqRoom q
  let rest : List RecUnit := if u.recs.length ≤ n then [] else [u.after n]
  let d1 := d.setHq q { d.hq q with staged := rest ++ t }
  let d2 : Dev := { d1 with sl := { d1.sl with rr := if rest.isEmpty then q else d1.sl.rr } }
  (d2.writeRecs q u (!rest.isEmpty) (u.recs.take n)).hqDrained q

/-! ### Resets (08 R284, R288, R289) -/

/-- A record write of queue q, as staging takes it back (08 R288). -/
def Posted.unstaged (q : Nat) : Posted → Option RecUnit
  | .record p _ _ _ _ u => if p = q then some { u with recs := u.recs.map markStaged } else none
  | _ => none

/-- Units as staging holds them: the records of one capture together again. -/
def joinUnits : List RecUnit → List RecUnit
  | [] => []
  | u :: t =>
    match joinUnits t with
    | [] => [{ u with more := false }]
    | v :: l => if u.more then { v with recs := u.recs ++ v.recs, part := u.part } :: l else u :: v :: l

/-- The records of queue q that the link has not acknowledged are staged again in their place (08 R288); PI goes back over those that lie in
the ring as it is enabled now, but not below CI. -/
def Dev.restage (d : Dev) (q : Nat) : Dev :=
  let us := d.hi.posted.filterMap (Posted.unstaged q)
  let n := (d.hi.posted.filter (fun p => match p with | .record p _ _ _ e _ => p == q && e == (d.hq q).epoch | _ => false)).length
  let d1 := d.setHq q { d.hq q with staged := joinUnits (us ++ (d.hq q).staged) }
  d1.setFld HQ_PI.PI ((d1.fld HQ_PI.PI q + 2 ^ 32 - min n (d.hqLevel q)) % 2 ^ 32) q

/-- A posted TLP that is no record: a memory write is sent again when the link is back (10 R362); messages end with the link. -/
def Posted.replayed : Posted → Bool
  | .write _ _ _ => true
  | _ => false

/-- The link has gone: every unacknowledged record is staged again. -/
def Dev.restageAll (d : Dev) : Dev :=
  let e := (upto 64).foldl Dev.restage d
  { e with hi := { e.hi with posted := e.hi.posted.filter Posted.replayed } }

/-- An ACTIVE or DRAINING queue becomes HELD (08 R289). -/
def Dev.hqHold (d : Dev) (q : Nat) : Dev :=
  if d.fld HQ_STAT.QSTATE q = 1 ∨ d.fld HQ_STAT.QSTATE q = 2 then
    (d.setFld HQ_STAT.QSTATE 3 q).setFld HQ_STAT.REEN_PEND 0 q
  else d

/-- Records of queue q wait to be written. -/
def Dev.hqWaiting (d : Dev) (q : Nat) : Bool :=
  let h := d.hq q
  !h.gen.isEmpty || !h.held.isEmpty || !h.staged.isEmpty

/-- Function f falls asleep with something unread, or with a record that is still to be staged (08 R291, R294). -/
def Dev.sleepCheck (d : Dev) (f : Nat) : Dev :=
  if (upto 64).any (fun q => d.queueOwner q == some f &&
      (d.hqLevel q ≠ 0 || d.hqWaiting q)) || !(d.func f).pba.isEmpty then d.wake f else d

/-! ### Completions (09 R316, R321, R322) -/

/-- The driver tag of a command. -/
def Cmd.tag (c : Cmd) : Nat := bits c.w 32 32

/-- The opcode of a command. -/
def Cmd.op (c : Cmd) : Nat := bits c.w 0 8

/-- TARGET of a command. -/
def Cmd.target (c : Cmd) : Nat := bits c.w 16 16

/-- OPT of a command. -/
def Cmd.opt (c : Cmd) : Bool := c.w.getLsbD 11

/-- A COMPLETION whose queue is not enabled goes to the log (09 R322). -/
def Dev.logCompletion (d : Dev) (c : Cmd) (status gen : Nat) : Dev :=
  (d.logItem 0x04 [byt 0 1 c.ring, byt 1 1 c.op, byt 2 2 c.rgen, byt 4 4 c.tag, byt 8 1 status, byt 9 1 2, byt 10 8 gen]).count
    CQ_ERR.LOGGED_CNT c.ring

/-- The COMPLETION record of a command (09 R316). -/
def Dev.completionRec (d : Dev) (c : Cmd) (status gen time : Nat) (b : List (Nat × Nat × Nat)) : Record :=
  d.recAt 0x01 c.ring gen time ([byt 16 4 c.tag, byt 20 1 status, byt 21 1 c.op] ++
    (if status = 0 ∨ (c.op = 0x08 ∧ status = 0x12) then b else []))

/-- A COMPLETION that queue q does not take is reported in its next LOSS_COUNT (09 R322). -/
def Dev.loseDone (d : Dev) (q : Nat) : Dev :=
  let h := d.hq q
  (d.setHq q { h with
    lost := min (h.lost + 1) 0xFFFFFFFF
    lostAt := if h.lost = 0 then d.ns else h.lostAt
    lostWhy := if h.lost = 0 then 3 else h.lostWhy }).count HQ_LOSS.LOST q

/-- A COMPLETION is generated for the ring's queue (09 R322). -/
def Dev.completed (d : Dev) (c : Cmd) (status gen : Nat) (r : Record) : Dev :=
  let q := d.fld CQ_CFG.CQ_HQ c.ring
  let st := d.fld HQ_STAT.QSTATE q
  if st = 0 ∨ st = 2 then
    (d.logCompletion c status gen).loseDone q
  else d.generate q { recs := [r], ring := some c.ring }

/-- A FAIL record, or a COMPLETION behind one, waits for the sluice. -/
def Dev.failWaits (d : Dev) : Bool := d.sl.rises.any (fun x => x.comp.isSome || x.recs.any (fun r => r.toNat % 256 == 6))

/-- The end of a command is reported; QUIET suppresses a COMPLETION with status OK (09 R307). It comes behind the FAIL records that
wait for the sluice (08 R282). -/
def Dev.report (d : Dev) (c : Cmd) (status gen time : Nat) (b : List (Nat × Nat × Nat)) : Dev :=
  if status = 0 ∧ c.w.getLsbD 10 then d
  else
    let r := d.completionRec c status gen time b
    if d.failWaits then
      { d with sl := { d.sl with rises := d.sl.rises ++ [{ src := 0, recs := [r], item := false, comp := some (c, status, gen) }] } }
    else d.completed c status gen r

/-- The long opcodes (09 R313). -/
def longOp (op : Nat) : Bool := op == 2 || op == 5 || (8 ≤ op && op ≤ 0xB) || (0xD ≤ op && op ≤ 0x11) || op == 0x13 || op == 0x14

/-- LONG of CQ_STAT for ring m. -/
def Dev.setLong (d : Dev) (m : Nat) : Dev :=
  d.setFld CQ_STAT.LONG (min (((d.ring m).running.filter (fun c => longOp c.op)).length) 4) m

/-- The end of a command: it leaves the ring's running commands, its COMPLETION is generated, and a drain may end. -/
def Dev.finishAt (d : Dev) (c : Cmd) (status gen time : Nat) (b : List (Nat × Nat × Nat)) : Dev :=
  let r := d.ring c.ring
  let d1 := d.setRing c.ring { r with
    running := r.running.filter (fun x => x.uid ≠ c.uid)
    fenced := min (r.fenced + 1) 0xFFFF }
  (d1.setLong c.ring |>.report c status gen time b).ringDrained c.ring

/-- The end of a command now, GEN being the ring's RGEN at the fetch. -/
def Dev.finish (d : Dev) (c : Cmd) (status : Nat) (b : List (Nat × Nat × Nat) := []) : Dev :=
  d.finishAt c status c.rgen d.ns b

/-- A FENCE whose earlier commands have completed and whose records have been issued completes (09 R319). -/
def Dev.fencePoll (d : Dev) (m : Nat) : Dev :=
  match (d.ring m).running with
  | [c] =>
    if c.op = 0x13 ∧ d.sl.rises = [] ∧ (upto 64).all (fun q => d.queueOwner q ≠ some c.fn || !d.hqWaiting q) then
      let n := (d.ring m).fenced
      (d.finish c 0 [byt 22 2 n]).setRing m { (d.finish c 0 [byt 22 2 n]).ring m with fenced := 0 }
    else d
  | _ => d

/-- Every ring's FENCE is looked at. -/
def Dev.fences (d : Dev) : Dev := (upto 64).foldl Dev.fencePoll d

/-! ### The rows -/

/-- The COMPLETION of ENTER_VIGIL has been written: no record follows it (09 R317). -/
def Dev.writesOver (d : Dev) : Bool :=
  match d.hi.vigilReq with
  | some c =>
    let h := d.hq (d.fld CQ_CFG.CQ_HQ c.ring)
    d.sl.rises.all (fun x => x.comp.isNone) && (h.gen ++ h.held ++ h.staged).all (fun u => u.ring ≠ some c.ring || u.recs.all (fun r => bits r 168 8 ≠ 0x14))
  | none => false

/-- DLL_ACK (08 R288): the oldest `count` posted TLPs count as written. -/
def dllAckEff (count : Nat) (d : Dev) : Dev := { d with hi := { d.hi with posted := d.hi.posted.drop count } }

end Sys2Proof.Machine
end

