-- ==== Sys2Proof/Machine/Sluice.lean ====
section
/-! DEFINITION. The sluice (08 R259 to R269): sources, targets, groups and hold-off, the item store and delivery, and the
meanings of its rows but SOURCE_RISE. -/

namespace Sys2Proof.Machine

open Sys2Proof

/-- Source s. -/
def Dev.src (d : Dev) (s : Nat) : Src := get {} d.sl.srcs s

/-- The part with source s replaced. -/
def Dev.setSrc (d : Dev) (s : Nat) (x : Src) : Dev := { d with sl := { d.sl with srcs := set {} d.sl.srcs s x } }

/-- Group g. -/
def Dev.grp (d : Dev) (g : Nat) : Group := get {} d.sl.grps g

/-- The part with group g replaced. -/
def Dev.setGrp (d : Dev) (g : Nat) (x : Group) : Dev := { d with sl := { d.sl with grps := set {} d.sl.grps g x } }

/-- The pending bit of source s (SL_PEND). -/
def Dev.pend (d : Dev) (s : Nat) : Bool := d.fbit SL_PEND.PEND (s / 32) (s % 32)

/-- The part with the pending bit of source s set or cleared. -/
def Dev.setPend (d : Dev) (s : Nat) (b : Bool) : Dev := d.setBit SL_PEND.PEND (s / 32) (s % 32) b

/-- KIND of source s: 0 none, 1 engine, 2 host queue. -/
def Dev.kind (d : Dev) (s : Nat) : Nat := d.fld SL_TGT.KIND s

/-- TARGET of source s. -/
def Dev.tgt (d : Dev) (s : Nat) : Nat := d.fld SL_TGT.TARGET s

/-- GROUP of source s. -/
def Dev.grpOf (d : Dev) (s : Nat) : Nat := d.fld SL_TGT.GROUP s

/-- Source s is itemised by its number (08 R264); a remote source is where the occurrence says so. -/
def itemisedSrc (s : Nat) : Bool :=
  if s < 0x600 then s % 3 == 2
  else if s < 0x640 then false
  else if s < 0x6C0 then s % 4 == 3
  else if s < 0x700 then s % 2 == 1
  else 0x7C0 ≤ s && s ≤ 0x7D7

/-- A record with MERGED set in FLAGS (08 R267). -/
def markMerged (r : Record) : Record := r ||| BitVec.ofNat 256 (2 ^ 8)

/-- A record with ITEM set in FLAGS (08 R264). -/
def markItem (r : Record) : Record := r ||| BitVec.ofNat 256 (2 ^ 9)

/-- SLUICE_HOLD (08 R269). -/
def Dev.held (d : Dev) : Bool := d.flag SL_CTRL.HOLD

/-- Group g takes a delivery now (08 R266). -/
def Dev.grpReady (d : Dev) (g : Nat) : Bool := d.fld SL_GRP.HOLDOFF g == 0 || !(d.grp g).running

/-- The timer of group g reloads (08 R266); HOLDOFF 0 moderates nothing. -/
def Dev.reload (d : Dev) (g : Nat) : Dev :=
  if d.fld SL_GRP.HOLDOFF g = 0 then d
  else d.setGrp g { d.grp g with running := true, until_ := d.ecNs + 256 * d.fld SL_GRP.HOLDOFF g, opened := some d.tb.eclk }

/-- The records of the latest occurrence of source s as they are delivered: MERGED where more than one has latched. -/
def Dev.deliverable (d : Dev) (s : Nat) : List Record :=
  let x := d.src s
  if x.count > 1 then x.recs.map markMerged else x.recs

/-- An event makes source s pending (00 R6, 08 R261). -/
def Dev.latchPend (d : Dev) (s : Nat) : Dev := d.setEvent SL_PEND.PEND (2 ^ (s % 32)) (s / 32)

/-- Source s is no longer one that its group's latest expiry has let through (08 R266). -/
def Dev.ineligible (d : Dev) (s : Nat) : Dev :=
  let x := d.grp (d.grpOf s)
  d.setGrp (d.grpOf s) { x with elig := x.elig.filter (· ≠ s) }

/-- The pending bit of source s is cleared at its delivery, or by a cancellation (08 R261). -/
def Dev.taken (d : Dev) (s : Nat) : Dev := ((d.setSrc s {}).setPend s false).ineligible s

/-- Source s is delivered to its host queue (08 R261, R266). -/
def Dev.deliverHost (d : Dev) (s : Nat) : Dev :=
  ((d.taken s).generate (d.tgt s) { recs := d.deliverable s }).reload (d.grpOf s)

/-- `a` goes before `b`: higher PRIO, then lower number (08 R268). -/
def Dev.moreUrgent (d : Dev) (a b : Nat) : Bool :=
  d.fld SL_TGT.PRIO a > d.fld SL_TGT.PRIO b || (d.fld SL_TGT.PRIO a == d.fld SL_TGT.PRIO b && a < b)

/-- A source number put into a list in the order of `moreUrgent`. -/
def Dev.insertUrgent (d : Dev) (s : Nat) : List Nat → List Nat
  | [] => [s]
  | x :: t => if d.moreUrgent s x then s :: x :: t else x :: Dev.insertUrgent d s t

/-- The pending non-itemised sources of group g with targets of `kind`, most urgent first. -/
def Dev.pendingOf (d : Dev) (g kind : Nat) : List Nat :=
  ((d.sl.srcs.map (fun e => e.1)).filter (fun s => d.pend s && d.kind s == kind && d.grpOf s == g)).foldr d.insertUrgent []

/-- The timer of group g has expired: its pending engine sources become eligible for one dispatch (08 R266). -/
def Dev.openGroup (d : Dev) (g : Nat) : Dev := d.setGrp g { d.grp g with running := false, elig := d.pendingOf g 1 }

/-- Every pending host-targeted source of group g, whose timer has expired, is delivered once (08 R266). -/
def Dev.deliverGroup (d : Dev) (g : Nat) : Dev := (d.pendingOf g 2).foldl Dev.deliverHost (d.openGroup g)

/-- An item becomes a record of its host queue (08 R264). -/
def Dev.deliverItem (d : Dev) (s : Nat) (recs : List Record) : Dev :=
  d.generate (d.tgt s) { recs := recs.map markItem, item := true }

/-- Source s has an item in the store. -/
def Dev.hasItem (d : Dev) (s : Nat) : Bool := d.sl.items.any (fun i => i.src == s)

/-- An item finds the store full: it goes to the log and LOSS rises (08 R265). -/
def Dev.itemOverflow (d : Dev) (recs : List Record) : Dev :=
  let d1 := (recs.foldl (fun e r => e.logRecord 2 r) d).count SL_CNT.ITEM_OVF
  d1.raiseLoss 1 0xFF 1

/-- An item enters the store, or overflows it (08 R264, R265). -/
def Dev.storeItem (d : Dev) (s : Nat) (recs : List Record) : Dev :=
  if d.sl.items.length ≥ 1024 then d.itemOverflow recs
  else ({ d with sl := { d.sl with items := d.sl.items ++ [{ src := s, recs := recs.map markItem }] } } : Dev).latchPend s

/-- An occurrence of a source that is itemised (08 R264): a record at once for a host queue, an item for an engine; held by
SLUICE_HOLD; a source with no target keeps no item. -/
def Dev.latchItem (d : Dev) (s : Nat) (recs : List Record) : Dev :=
  match d.kind s with
  | 2 => if d.held then d.storeItem s recs else d.deliverItem s recs
  | 1 => d.storeItem s recs
  | _ => d.latchPend s

/-- An occurrence, in ECLK cycle `at_`, of a source that is not itemised latches and, where its group takes a delivery or has begun to in that
cycle, is delivered at once to a host queue, or becomes eligible (08 R261, R266, R268). -/
def Dev.latch (d : Dev) (s : Nat) (recs : List Record) (at_ : Nat) : Dev :=
  let g := d.grpOf s
  let d1 := (d.setSrc s { count := (d.src s).count + 1, recs := recs }).latchPend s
  let same := (d.grp g).opened == some at_
  if d.held then d1
  else if d.kind s = 2 ∧ (d.grpReady g || same) then
    let d2 := d1.deliverHost s
    d2.setGrp g { d2.grp g with opened := some at_ }
  else if d.kind s = 1 ∧ same ∧ (d1.grp g).elig.contains s = false then d1.setGrp g { d1.grp g with elig := (d1.grp g).elig ++ [s] }
  else d1

/-- The items whose source now targets a host queue are released, oldest first (08 R264, R269). -/
def Dev.releaseItems (d : Dev) : Dev :=
  let go := d.sl.items.filter (fun i => d.kind i.src == 2)
  let stay := d.sl.items.filter (fun i => d.kind i.src != 2)
  let d1 := { d with sl := { d.sl with items := stay } }
  let d2 := go.foldl (fun e i => e.generate (e.tgt i.src) { recs := i.recs, item := true }) d1
  go.foldl (fun e i => if e.hasItem i.src then e else e.setPend i.src false) d2

/-! ### The rows -/

/-- HOLDOFF_EXPIRE (08 R266): pending sources of the group are delivered once unless SLUICE_HOLD holds them. -/
def holdoffExpireEff (g : Nat) (d : Dev) : Dev :=
  if (d.grp g).running ∧ (d.grp g).until_ ≤ d.ecNs then
    if d.held then d.openGroup g else d.deliverGroup g
  else d

/-- HOLD of SL_CTRL is cleared: every group whose timer has expired, then the items (08 R269). -/
def Dev.unhold (d : Dev) : Dev :=
  ((upto 64).foldl (fun e g => if e.grpReady g then e.deliverGroup g else e) d).releaseItems

/-- HOLD of SL_CTRL takes a value. -/
def Dev.writeHold (d : Dev) (b : Bool) : Dev :=
  let d1 := d.setFlag SL_CTRL.HOLD b
  if d.held && !b then d1.unhold else d1

/-- HOLDOFF of group g takes a value: a running residual becomes the lesser of the two (08 R294). -/
def Dev.writeHoldoff (d : Dev) (g v : Nat) : Dev :=
  let d1 := d.setFld SL_GRP.HOLDOFF v g
  let x := d.grp g
  if !x.running then d1
  else if v = 0 then
    if d.held then d1.openGroup g else d1.deliverGroup g
  else d1.setGrp g { x with until_ := min x.until_ (d.ecNs + 256 * v) }

/-- SL_TGT of source s takes a value (08 R262, R263): a KIND that is reserved or an engine above 23 leaves KIND and TARGET;
what is pending goes to the target that is now named; an itemised source that had none starts with no item. -/
def Dev.writeTgt (d : Dev) (s v : Nat) : Dev :=
  let k := cut v 0 2
  let bad := k = 3 ∨ (k = 1 ∧ cut v 2 6 > 23)
  let old := d.kind s
  let d0 := if d.grpOf s = cut v 16 6 then d else d.ineligible s
  let d1 := (d0.setFld SL_TGT.PRIO (cut v 8 8) s).setFld SL_TGT.GROUP (cut v 16 6) s
  if bad then d1
  else
    let d2 := (d1.setFld SL_TGT.KIND k s).setFld SL_TGT.TARGET (cut v 2 6) s
    let plain := (d.src s).count ≠ 0
    if old = 0 ∧ k ≠ 0 ∧ ¬ plain then d2.setPend s false
    else if k = 0 then
      let drop := d2.sl.items.filter (fun i => i.src == s)
      let d3 := { d2 with sl := { d2.sl with items := d2.sl.items.filter (fun i => i.src != s) } }
      drop.foldl (fun e i => i.recs.foldl (fun x r => x.logRecord 2 r) e) d3
    else if k = 2 ∧ ¬ d2.held then
      let d3 := if d2.hasItem s then d2.releaseItems else d2
      if plain ∧ d3.pend s ∧ d3.grpReady (d3.grpOf s) then d3.deliverHost s else d3
    else d2

/-- Ones written to SL_PEND cancel the deliveries of those sources, but of one with an item in the store (08 R264) and of one that has risen
in the same cycle (00 R6). -/
def Dev.writePend (d : Dev) (w v : Nat) : Dev :=
  (upto 32).foldl (fun e b =>
    if bit (d.w1cCleared SL_PEND.PEND v w) b && !e.hasItem (32 * w + b) then e.taken (32 * w + b) else e) d

end Sys2Proof.Machine
end

