-- ==== Sys2Proof/Machine/Axes.lean ====
section
/-! DEFINITION. Axis values, qualities and predictions (02 R50 to R64, 03 R69, R82 to R87, R103, 12 R428 to R430). -/

namespace Sys2Proof.Machine

open Sys2Proof

/-- Where a position of an axis stands: it waits without a prediction, is predicted at an AX0 time (1/8 ns), lies at or
behind the value reached (03 R87), or is reached on a COUNT axis (04 R111). -/
inductive Pred
  | wait
  | due (t : Int)
  | passed
  | reached
deriving DecidableEq, Repr

/-! ### Counting (02 R34) -/

/-- Units of `slew_word` per ppm (02 R34). -/
def ppmWord : Nat := 281474977

/-- slew_word. -/
def Dev.slewWord (d : Dev) : Nat := d.fld AX0_SLEW.SLEW_PPM * ppmWord

/-- The part of the remaining correction that one TCLK period works off. -/
def slewStep (rem : Int) (word : Nat) : Int :=
  if rem < 0 then -(min rem.natAbs word : Nat) else (min rem.natAbs word : Nat)

/-- One TCLK period of an accumulator. -/
def Accum.tclk (a : Accum) (word : Nat) : Accum :=
  let st := slewStep a.rem word
  { a with rem := a.rem - st, val := a.val + BitVec.ofInt 112 (2 ^ 48 + a.rate.toInt + st) }

/-- One TCLK period of the axis unit; elapsed time counts slews (02 R33). -/
def Dev.tclk (d : Dev) : Dev :=
  let w := d.slewWord
  let inc := 2 ^ 48 + d.rate + slewStep d.rem w
  { d with tb := { d.tb with
    a0 := d.tb.a0.tclk w, a1 := d.tb.a1.tclk w, a2 := d.tb.a2.tclk w, elapsed := d.tb.elapsed + inc.toNat } }

/-! ### The angle model (03 R69, R82 to R87) -/

/-- Micro-ticks per slot. -/
def AngleModel.micro (a : AngleModel) : Nat := 2 ^ a.mt

/-- d_L of 03 R83 times 2L + 1, exact: the slope, limited below at −2 P / (2L + 1). -/
def AngleModel.slope (a : AngleModel) : Int := max (a.dp * (2 * a.l + 1 : Nat)) (-(2 * a.p : Nat))

/-- T(x / y) of 03 R83, 2^-16 ns, formed exactly and rounded once, to nearest, ties up. -/
def AngleModel.timeAt (a : AngleModel) (x y : Nat) : Int :=
  let q : Int := (2 * a.l + 1 : Nat)
  let num := 2 * y * x * a.p * q + a.slope * x * (x + y : Nat)
  let den := 2 * y * y * q
  (2 * num + den) / (2 * den)

/-- T(k / 2^MT_BITS). -/
def AngleModel.timeTo (a : AngleModel) (k : Nat) : Int := a.timeAt k a.micro

/-- The largest index ≤ `top` whose time is at most `dt` (03 R84), found bit by bit. -/
def AngleModel.seek (a : AngleModel) (top : Nat) (dt : Int) : Nat → Nat → Nat
  | 0, acc => acc
  | b + 1, acc =>
    let c := acc + 2 ^ b
    a.seek top dt b (if c ≤ top && a.timeTo c ≤ dt then c else acc)

/-- The signed position in micro-ticks at an AX0 time, 2^-16 ns (03 R84, R98). -/
def AngleModel.pos (a : AngleModel) (t16 : Nat) : Int :=
  let base := a.g * a.micro + a.m
  if a.p = 0 then base
  else
    let k := a.seek (a.l * a.micro - 1) ((t16 : Int) - a.tk) 19 0
    if a.rev then base - k else base + k

/-- The signed axis value of a position (03 R69, R99). -/
def AngleModel.rawValue (a : AngleModel) (pos : Int) : Int :=
  let turn : Int := a.n * a.micro
  if turn = 0 then 0 else (pos / turn) * 2 ^ 24 + (pos % turn) * 2 ^ 24 / turn + a.zofs

/-- The axis value, 48 bits, never below zero (03 R69, R99). -/
def AngleModel.value (a : AngleModel) (pos : Int) : Nat := (max 0 (a.rawValue pos) % 2 ^ 48).toNat

/-- The micro-ticks from the latest tooth to the target of an axis value (03 R85). -/
def AngleModel.target (a : AngleModel) (v : Nat) : Int :=
  let p := (v + 2 ^ 48 - a.zofs) % 2 ^ 48
  let q := ((p % 2 ^ 24) * (a.n * a.micro) + 2 ^ 23) / 2 ^ 24
  let g : Int := (p / 2 ^ 24 : Nat) * (a.n : Int) + (q / a.micro : Nat)
  (g - a.g) * a.micro + (q % a.micro : Nat) - a.m

/-- A time in 2^-16 ns rounded to the nearest 125 ps. -/
def near8 (t : Int) : Int := (t + 4096) / 8192

/-- The prediction of an angle (03 R87): suspended in reverse (R98), waiting without a period (R95) or beyond the next
tooth. -/
def AngleModel.predict (a : AngleModel) (v : Nat) : Pred :=
  if a.rev then .wait
  else
    let x := a.target v
    if x ≤ 0 then .passed
    else if a.p = 0 then .wait
    else if x ≤ (a.l * a.micro : Nat) then .due (near8 (a.tk + a.timeTo x.toNat))
    else .wait

/-- The provisional prediction t_k + x × (P_k + dp) of an angle beyond the next tooth, 1/8 ns (03 R87): only READ_STATE shows it. -/
def AngleModel.provisional (a : AngleModel) (v : Nat) : Option Int :=
  let x := a.target v
  let mm : Int := a.micro
  if a.rev ∨ a.p = 0 ∨ x ≤ (a.l * a.micro : Nat) then none
  else some ((2 * (a.tk * mm + x * (a.p + a.dp)) + 8192 * mm) / (16384 * mm))

/-! ### Trackers as models -/

/-- Tracker n. -/
def Dev.trkr (d : Dev) (n : Nat) : Tracker := get {} d.trk n

/-- The part with tracker n replaced. -/
def Dev.setTrkr (d : Dev) (n : Nat) (t : Tracker) : Dev := { d with trk := set {} d.trk n t }

/-- Slots N of tracker n's wheel. -/
def Dev.wtN (d : Dev) (n : Nat) : Nat := d.fld WT_WHEEL.SLOTS n

/-- Missing teeth g of tracker n's wheel. -/
def Dev.wtG (d : Dev) (n : Nat) : Nat := d.fld WT_WHEEL.GAP_TEETH n

/-- The next tooth boundary strictly above or below a signed position in micro-ticks (03 R68). -/
def nextTooth (n g mm : Nat) (pos : Int) (down : Bool) : Int :=
  if n = 0 ∨ mm = 0 then 0
  else if down then
    let b := -((-pos) / (mm : Int)) - 1
    let s := b % n
    if s > n - g - 1 then b - s + (n - g - 1 : Nat) else b
  else
    let b := pos / (mm : Int) + 1
    let s := b % n
    if s > n - g - 1 then b - s + n else b

/-- The slope dp of 03 R82: 0 until ACCEL_DEPTH intervals have been accepted. -/
def Dev.wtSlope (d : Dev) (n : Nat) : Int :=
  let t := d.trkr n
  let depth := d.fld WT_INTERP.ACCEL_DEPTH n
  match t.hist with
  | [] => 0
  | p :: _ =>
    if t.ivals < depth ∨ t.hist.length < depth ∨ depth < 2 then 0
    else
      let old := t.hist.getD (depth - 1) 0
      let dp := ((p : Int) - old).tdiv (depth - 1)
      max (-((p / 4 : Nat) : Int)) (min dp ((p / 4 : Nat) : Int))

/-- The time of a transition on AX0 as it counts now (02 R33, R46): a step shifts it. -/
def InEdge.at8 (e : InEdge) : Int := e.t + e.off

/-- The model of tracker n from its latest tooth, which is also the tooth descriptor (03 R86). -/
def Dev.wtModel (d : Dev) (n : Nat) : AngleModel :=
  let t := d.trkr n
  let mt := d.fld WT_INTERP.MT_BITS n
  let down := d.flag WT_STATUS.DIR n
  let mm : Nat := 2 ^ mt
  let base : Int := t.g * mm + t.m
  let nx := nextTooth (d.wtN n) (d.wtG n) mm base down
  { n := d.wtN n, mt := mt, zofs := d.fld WT_ZERO.ZERO_OFS n, g := t.g, m := t.m, tk := t.tk,
    p := t.hist.headD 0, dp := d.wtSlope n, l := (nx - t.g).natAbs, rev := down }

/-- AX0 now in 2^-16 ns. -/
def Dev.t16 (d : Dev) : Nat := d.ax0 >>> 32

/-- The angle of pattern edge i and of the interval ending at it (03 R70, R102). -/
def Dev.phAngle (d : Dev) (n i : Nat) : Nat := d.fld WT_PH_EDGE.ANGLE n i

/-- The pattern angle of the interval that ends at edge i (03 R102). -/
def Dev.phIntv (d : Dev) (n i : Nat) : Nat :=
  let c := d.fld WT_PH_CFG.PH_COUNT n
  if i = 0 then d.phAngle n 0 + 2 ^ 24 - d.phAngle n (c - 1) else d.phAngle n i - d.phAngle n (i - 1)

/-- The next pattern edge in the sense of motion. -/
def Dev.phNext (d : Dev) (n i : Nat) : Nat :=
  let c := d.fld WT_PH_CFG.PH_COUNT n
  if d.flag WT_STATUS.DIR n then (i + c - 1) % (max c 1) else (i + 1) % (max c 1)

/-- The angle from pattern edge i to the next one in the sense of motion. -/
def Dev.phAhead (d : Dev) (n i : Nat) : Nat :=
  if d.flag WT_STATUS.DIR n then d.phIntv n i else d.phIntv n (d.phNext n i)

/-- The signed LIMP position in 2^-24 rev without ZERO_OFS at an AX0 time, 1/8 ns (03 R103): Δθ = A × (t − t_i) / I, one unit
short of the next pattern edge at most. -/
def Dev.limpPos (d : Dev) (n t8 : Nat) : Int :=
  let p := (d.trkr n).ph
  let k := if p.intv = 0 then 0 else min (p.angle * ((t8 : Int) - p.at_).toNat / p.intv) (d.phAhead n p.lim - 1)
  if d.flag WT_STATUS.DIR n then p.pos - k else p.pos + k

/-- The signed value of tracker n now, before the holds of R72, R99 and R104. -/
def Dev.wtRaw (d : Dev) (n : Nat) : Int :=
  if d.fld WT_STATUS.STATE n = 5 then d.limpPos n d.t8 + d.fld WT_ZERO.ZERO_OFS n
  else
    let a := d.wtModel n
    a.rawValue (a.pos d.t16)

/-- The axis value of tracker n now (03 R69, R72, R99, R104). -/
def Dev.wtValue (d : Dev) (n : Nat) : Nat :=
  let t := d.trkr n
  let st := d.fld WT_STATUS.STATE n
  if st = 3 ∨ st = 5 then max ((max 0 (d.wtRaw n) % 2 ^ 48).toNat) t.floor else t.held

/-- Capture quality of tracker n now (03 R72, R95, R99, 02 R64). It is 2 in SYNC as long as no period is held, after a reversal as after a
stall, and while the axis holds the value of R104 (DESIGN CHOICE, log 70: the spec names only the stall). -/
def Dev.wtQuality (d : Dev) (n : Nat) : Nat :=
  let t := d.trkr n
  match d.fld WT_STATUS.STATE n with
  | 3 =>
    let a := d.wtModel n
    if d.flag WT_STATUS.STALL n || t.hist.isEmpty || d.wtRaw n < 0 || d.wtRaw n < t.floor then 2
    else if a.pos d.t16 = a.g * a.micro + a.m && a.m = 0 then 0 else 1
  | 5 => 2
  | _ => 3

/-- The angle of an axis value beyond the latest LIMP tooth, 2^-24 rev, and the time of a position Δθ beyond it, Δθ × I / A, 1/8 ns
(03 R103). -/
def Dev.limpTime (d : Dev) (n v : Nat) : Int × Int :=
  let p := (d.trkr n).ph
  let x : Int := ((v + 2 ^ 48 - d.fld WT_ZERO.ZERO_OFS n) % 2 ^ 48 : Nat) - p.pos
  (x, p.at_ + (2 * x * p.intv + p.angle) / (2 * p.angle : Nat))

/-- A LIMP period is held (03 R95, R103). -/
def Dev.limpRuns (d : Dev) (n : Nat) : Bool := (d.trkr n).ph.intv != 0 && (d.trkr n).ph.angle != 0

/-- The prediction of tracker n for an axis value: every position ahead of the latest tooth from the descriptor (03 R87, R103), one at or
behind it at once. An event armed in stall at or behind the position commits LATE too (DEDUCED, log 27: R87 before R94). -/
def Dev.wtPredict (d : Dev) (n v : Nat) : Pred :=
  let t := d.trkr n
  let st := d.fld WT_STATUS.STATE n
  if d.flag WT_STATUS.DIR n then .wait
  else if st = 3 then
    if v ≤ t.floor then .passed
    else if d.flag WT_STATUS.STALL n && 0 < (d.wtModel n).target v then .wait
    else (d.wtModel n).predict v
  else if st = 5 then
    let (x, at_) := d.limpTime n v
    if x ≤ 0 ∨ v ≤ t.floor then .passed
    else if d.flag WT_STATUS.STALL n ∨ ¬ d.limpRuns n ∨ (d.phAhead n t.ph.lim : Int) < x then .wait
    else .due at_
  else .wait

/-- The provisional prediction of tracker n for an axis value (03 R87, R103): none in stall, in reverse and without sync. -/
def Dev.wtProvisional (d : Dev) (n v : Nat) : Option Int :=
  if d.flag WT_STATUS.DIR n || d.flag WT_STATUS.STALL n then none
  else if d.fld WT_STATUS.STATE n = 3 then (d.wtModel n).provisional v
  else if d.fld WT_STATUS.STATE n = 5 ∧ d.limpRuns n ∧ (d.phAhead n (d.trkr n).ph.lim : Int) < (d.limpTime n v).1 then
    some (d.limpTime n v).2
  else none

/-! ### Axes -/

/-- Hidden state of axis n. -/
def Dev.axis (d : Dev) (n : Nat) : Axis := get {} d.axes n

/-- The part with the hidden state of axis n replaced. -/
def Dev.setAxis (d : Dev) (n : Nat) (a : Axis) : Dev := { d with axes := set {} d.axes n a }

/-- TYPE of axis n (02 R31). -/
def Dev.axType (d : Dev) (n : Nat) : Nat := d.fld AX_CFG.TYPE n

/-- Axis n is enabled. -/
def Dev.axOn (d : Dev) (n : Nat) : Bool := d.flag AX_CFG.EN n

/-- The value of one pulse, 2^-16 units (02 R52): UNIT of a DISTANCE axis, 256 of a LINE axis. -/
def Dev.axUnit (d : Dev) (n : Nat) : Nat := if d.axType n = 4 then 256 * 65536 else d.fld AX_PARA.PARA n

/-- The largest whole advance between two pulses, U − 1 (02 R52). -/
def unitClamp (u16 : Nat) : Nat := (u16 - 65536) / 65536

/-- The value of a pulse axis at an AX0 time (02 R52, R55, R56), which never falls (R32): the running interval is interpolated with the value
of the pulse that began it (R61). -/
def pulseValue (interp : Bool) (a : Axis) (t8 : Nat) : Nat :=
  max a.hold
    (if interp ∧ a.pulses ≥ 2 ∧ a.backlog = 0 ∧ a.pk ≠ 0 then a.v + min (a.u * ((t8 : Int) - a.tk).toNat / (a.pk * 65536)) (unitClamp a.u) else a.v)

/-- The prediction of a pulse axis (02 R52, R54). -/
def pulsePredict (interp stalled : Bool) (a : Axis) (t8 v : Nat) : Pred :=
  if v ≤ pulseValue interp a t8 then .passed
  else if interp ∧ a.pulses ≥ 2 ∧ a.backlog = 0 ∧ a.pk ≠ 0 ∧ ¬ stalled ∧ v - a.v ≤ unitClamp a.u then
    .due (a.tk + ((2 * (v - a.v) * 65536 * a.pk + a.u) / (2 * a.u) : Nat))
  else .wait

/-- The value of a TIME_DERIVED axis, signed, 2^-16 ns (02 R50). -/
def derived16 (ax0 scale : Nat) (origin16 offset16 : Int) : Int :=
  offset16 + ((ax0 : Int) - origin16 * 2 ^ 32) * scale / 2 ^ 64

/-- ORIGIN of axis n with its hidden fraction, 2^-16 ns (02 R61). -/
def Dev.axOrigin (d : Dev) (n : Nat) : Int := d.fld AX_PARC.PARC n * 65536 + (d.axis n).cFrac

/-- OFFSET of axis n with its hidden fraction, 2^-16 ns. -/
def Dev.axOffset (d : Dev) (n : Nat) : Int := toS 64 (d.fld AX_PARB.PARB n) * 65536 + (d.axis n).bFrac

/-- The value of TIME_DERIVED axis n now, 2^-16 ns. -/
def Dev.axDerived (d : Dev) (n : Nat) : Int := derived16 d.ax0 (d.fld AX_PARA.PARA n) (d.axOrigin n) (d.axOffset n)

/-- The prediction on a TIME_DERIVED scale for a position in 1/8 ns (02 R50). -/
def derivedPredict (scale : Nat) (origin16 offset16 pos8 : Int) : Pred :=
  if scale = 0 then if pos8 * 8192 ≤ offset16 then .passed else .wait
  else .due (near8 ((pos8 * 8192 - offset16) * 2 ^ 32 / scale + origin16))

/-- The model of a REMOTE pulse axis: its latest pulse (12 R427). -/
def Remote.pulse (r : Remote) : Axis := { v := r.base, tk := r.model.tk / 8192, pk := r.model.p / 8192, u := r.u, pulses := 2 }

/-- The publisher's value of a REMOTE axis as reconstructed now (12 R428), native units; until a TOOTH has come, and while an ANGLE
publisher has no sync, the latest SNAP. -/
def Remote.value (r : Remote) (ax0 : Nat) : Nat :=
  match r.typ with
  | 2 => if r.stale || r.quality == 3 then r.v else r.model.value (r.model.pos (ax0 >>> 32))
  | 1 => ofS 64 (derived16 ax0 r.rate (r.t * 65536) (toS 64 r.v * 65536) / 65536)
  | 3 | 4 => if r.stale then r.v else pulseValue true r.pulse (ax0 >>> 45)
  | _ => r.v

/-- What is left of the slew term, 2^-43 units (12 R430): it falls at 2^-4 of the published rate, 2^-11 for TIME_DERIVED. -/
def Remote.slewFine (r : Remote) (elNs : Nat) : Nat := r.slew - r.rate * (elNs - r.slewAt) * (if r.typ = 1 then 1 else 128)

/-- What is left of the slew term in whole units. -/
def Remote.slewLeft (r : Remote) (elNs : Nat) : Nat := ceilDiv (r.slewFine elNs) (2 ^ 43)

/-- The value of a REMOTE axis now (12 R429, R430). -/
def Remote.now (r : Remote) (ax0 elNs : Nat) : Nat :=
  if !r.seen then 0
  else if r.absent then r.held
  else max r.held (r.value ax0 - r.slewLeft elNs)

/-- The prediction on a REMOTE axis (12 R428 to R430): on the slewed value while it slews. -/
def Remote.predict (r : Remote) (ax0 elNs v : Nat) : Pred :=
  if !r.seen || r.absent then .wait
  else if v ≤ r.now ax0 elNs then (if r.typ = 6 then .reached else .passed)
  else if r.typ ≠ 1 && r.typ ≠ 6 && (r.stale || r.quality == 3 || r.stall || r.rev) then .wait
  else if r.slewLeft elNs ≠ 0 then
    let speed := r.rate + r.rate / 2 ^ (if r.typ = 1 then 11 else 4)
    if speed = 0 then .wait
    else .due ((ax0 >>> 45) + (v + r.slewLeft elNs - r.value ax0) * 8 * 2 ^ 32 / speed : Nat)
  else
    match r.typ with
    | 2 => r.model.predict v
    | 1 => derivedPredict r.rate (r.t * 65536) (toS 64 r.v * 65536) (toS 64 v * 8)
    | 3 | 4 => pulsePredict true r.stall r.pulse (ax0 >>> 45) v
    | _ => .wait

/-- The value of axis n now in its native unit, whole ns for TIME and TIME_DERIVED (02 R31). The spec gives a disabled axis a quality and no
value: it reads 0 here; an axis of n ≥ 1 that is enabled with TYPE still at its reset value 0 counts as COUNT (DESIGN CHOICE, log 69). -/
def Dev.axValue (d : Dev) (n : Nat) : Nat :=
  if n = 0 then d.ns
  else if !d.axOn n then 0
  else
    match d.axType n with
    | 1 => ofS 64 (d.axDerived n / 65536)
    | 2 => if d.fld AX_CFG.SRC n < 8 then d.wtValue (d.fld AX_CFG.SRC n) else 0
    | 3 => if d.fld AX_CFG.SRC n < 128 then pulseValue (d.flag AX_CFG.INTERP n) (d.axis n) d.t8 else 0
    | 4 => if d.fld AX_CFG.SRC n < 512 then pulseValue (d.flag AX_CFG.INTERP n) (d.axis n) d.t8 else 0
    | 5 => (d.axis n).remote.now d.ax0 d.elNs
    | _ => (d.axis n).v

/-- The quality of axis n now (02 R64, R51, R57, 12 R428). -/
def Dev.axQuality (d : Dev) (n : Nat) : Nat :=
  if n = 0 then 0
  else if !d.axOn n then 3
  else
    let a := d.axis n
    let src := d.fld AX_CFG.SRC n
    match d.axType n with
    | 1 => 0
    | 2 => if src < 8 then d.wtQuality src else 3
    | 5 =>
      if !a.remote.seen || a.remote.absent then 3
      else if a.remote.holdover then max 2 a.remote.quality else a.remote.quality
    | 6 => 0
    | 0 => 0
    | _ =>
      if src ≥ (if d.axType n = 4 then 512 else 128) then 3
      else if a.stalled ∨ a.backlog ≠ 0 then 2
      else if d.axValue n = a.v then 0 else 1

/-- The direction bit of axis n (02 R56, R64): reverse. -/
def Dev.axReverse (d : Dev) (n : Nat) : Bool :=
  match d.axType n with
  | 2 => d.fld AX_CFG.SRC n < 8 && d.flag WT_STATUS.DIR (d.fld AX_CFG.SRC n)
  | 3 => d.flag AX_CFG.DIR_EN n && (d.axis n).reverse
  | 5 => (d.axis n).remote.rev
  | _ => false

/-- Positions of axis n are in 1/8 ns (04 R116 CMP_SUB, R126): TIME and TIME_DERIVED. -/
def Dev.axTimed (d : Dev) (n : Nat) : Bool := n = 0 || d.axType n = 1

/-- The prediction of axis n for a position: 1/8 ns on TIME and TIME_DERIVED axes, native units on the others. -/
def Dev.axPredict (d : Dev) (n : Nat) (pos : Nat) : Pred :=
  if n = 0 then .due pos
  else if !d.axOn n then .wait
  else
    let src := d.fld AX_CFG.SRC n
    match d.axType n with
    | 1 => derivedPredict (d.fld AX_PARA.PARA n) (d.axOrigin n) (d.axOffset n) (toS 67 pos)
    | 2 => if src < 8 then d.wtPredict src pos else .wait
    | 3 | 4 =>
      if src ≥ (if d.axType n = 4 then 512 else 128) then .wait
      else pulsePredict (d.flag AX_CFG.INTERP n) (d.axis n).stalled (d.axis n) d.t8 pos
    | 5 => (d.axis n).remote.predict d.ax0 d.elNs pos
    | _ => if pos ≤ (d.axis n).v then .reached else .wait

/-- Axis n runs in reverse and its events are suspended (03 R97, R98). -/
def Dev.axSuspended (d : Dev) (n : Nat) : Bool := (d.axType n = 2 || d.axType n = 5) && n ≠ 0 && d.axReverse n

end Sys2Proof.Machine
end

