-- ==== Sys2Proof/Machine/Modes.lean ====
section
/-! DEFINITION. Operating modes (01 R20 to R23) and AX0's states (02 R47): the operations that other blocks use. -/

namespace Sys2Proof.Machine

open Sys2Proof

/-- A recovery cause: CAUSE 3 to 6 (01 R20, SYS_MODE). -/
def recoveryCause (c : Nat) : Bool := 3 ≤ c && c ≤ 6

/-- Axis publishing goes off (01 R16): SNAP and TOOTH frames that wait are not sent. -/
def Dev.publishOff (d : Dev) : Dev :=
  { d with cw := { d.cw with ports := d.cw.ports.map (fun e => (e.1, { e.2 with tx := e.2.tx.filter (fun f => f.typ ≠ 4 ∧ f.typ ≠ 5) })) } }

/-- A trigger of the entry into STEADY (01 R22, R23): from OPERATE it changes the mode; in STEADY a recovery trigger overwrites
CAUSE and is one more cause to end. -/
def Dev.enterSteady (d : Dev) (cause : Nat) : Dev :=
  if d.operate then
    let d1 := (((d.setFld SYS_MODE.MODE 1).setFld SYS_MODE.CAUSE cause).setFld SYS_MODE.STEPPED 0).setFld SYS_MODE.ARMED 0
    ({ d1.publishOff with sys := { d1.sys with causes := if recoveryCause cause then [cause] else [] } } : Dev).raiseMode 2
  else if d.steady && recoveryCause cause then
    { d.setFld SYS_MODE.CAUSE cause with sys := { d.sys with causes := cause :: d.sys.causes.filter (· ≠ cause) } }
  else d

/-- A recovery cause has ended (01 R20). -/
def Dev.endCause (d : Dev) (cause : Nat) : Dev :=
  { d with sys := { d.sys with causes := d.sys.causes.filter (· ≠ cause) } }

/-- The three AX0 counters agree (01 R20). -/
def Dev.votersAgree (d : Dev) : Bool :=
  d.fld AX0_REPAIR.RETIRED == 0 && d.tb.a0.val == d.tb.a1.val && d.tb.a1.val == d.tb.a2.val &&
    !d.tb.a0.watching && !d.tb.a1.watching && !d.tb.a2.watching

/-- The conditions of 01 R20 for OPERATE. -/
def Dev.canOperate (d : Dev) : Bool :=
  d.steady && d.sealed && d.sys.tested && d.flag CK_STAT.LOCKED && d.fld CK_REFSEL.ACTIVE ≠ 2 && d.votersAgree &&
    d.sys.causes.isEmpty && (d.flag SYS_MODE.PENDING_GO || (!d.flag SYS_MODE.GO_REQ && d.flag SYS_MODE.AUTO_RESUME))

/-- AX0 changes its state (02 R47) and AX0_STATE, source 0x7DB, rises (13 R467). -/
def Dev.setAx0State (d : Dev) (st : Nat) : Dev :=
  let old := d.fld AX0_STATUS.STATE
  if old = st then d
  else
    let d1 := d.setFld AX0_STATUS.STATE st
    d1.raiseSys 0x7DB [byt 16 1 st, byt 17 1 old, byt 20 4 d1.unc]

end Sys2Proof.Machine
end

