-- ==== Sys2Proof/Machine/Berths.lean ====
section
/-! DEFINITION. Berths and the dredger (11): memory, owners, loans, repair and relocation, and the meanings of their rows. -/

namespace Sys2Proof.Machine

open Sys2Proof

/-! ### Memory (11 R370 to R372) -/

/-- The byte at an address: berth in bits [20:16], byte in bits [15:0]; a byte that nothing has written reads 0. -/
def Dev.peek (d : Dev) (a : Nat) : Byte := get 0 d.mem a

/-- The part with a byte of berth memory written. -/
def Dev.poke (d : Dev) (a : Nat) (b : Byte) : Dev := { d with mem := set 0 d.mem a b }

/-- `n` bytes from an address. -/
def Dev.peekN (d : Dev) (a n : Nat) : List Byte := (upto n).map (fun k => d.peek (a + k))

/-- The number at an address, lowest byte first. -/
def Dev.peekNat (d : Dev) (a n : Nat) : Nat := ofBytes (d.peekN a n)

/-- The part with bytes written from an address on. -/
def Dev.pokeN (d : Dev) (a : Nat) : List Byte → Dev
  | [] => d
  | b :: t => Dev.pokeN (d.poke a b) (a + 1) t

/-- The words of 8 bytes that an access of `n` bytes at `a` touches. -/
def wordsOf (a n : Nat) : List Nat := (upto ((a % 8 + n + 7) / 8)).map (fun k => a / 8 + k)

/-- A word that an access touches is uncorrectable (11 R371). -/
def Dev.wordBad (d : Dev) (a n : Nat) : Bool := (wordsOf a n).any (fun w => d.dr.bad.contains w)

/-- An 8-byte word that an access of `n` bytes at `a` replaces whole. -/
def wholeWord (a n w : Nat) : Bool := a ≤ 8 * w && 8 * w + 8 ≤ a + n

/-! ### State of a berth -/

/-- BSTATE of berth b. -/
def Dev.bstate (d : Dev) (b : Nat) : Nat := d.fld BH_STAT.BSTATE b

/-- Berth b is in BH_SPARE (11 R382). -/
def Dev.isSpare (d : Dev) (b : Nat) : Bool := d.fbit BH_SPARE.SPARE 0 b

/-- Berth b is in use for staging (08 R285). -/
def Dev.staging (d : Dev) (b : Nat) : Bool := d.stageBerths.contains b

/-- BERTH, source 0x7DF, rises (11 R395). -/
def Dev.raiseBerth (d : Dev) (event b row word target : Nat) : Dev :=
  d.raiseSys 0x7DF [byt 16 1 event, byt 17 1 b, byt 18 1 (d.fld BH_STAT.BANK b), byt 19 1 row, byt 20 2 word,
    byt 22 1 (d.fld BH_STAT.SPARE_ROWS b), byt 23 1 target]

/-- DREDGER, source 0x7E0, rises (11 R395). -/
def Dev.raiseDredger (d : Dev) (event b bank row word bit_ background : Nat) : Dev :=
  d.raiseSys 0x7E0 [byt 16 1 event, byt 17 1 b, byt 18 1 bank, byt 19 1 row, byt 20 2 word, byt 22 1 bit_, byt 23 1 background]

/-! ### Relocation (11 R390 to R393) -/

/-- Berth s has a healthy bank: no uncorrectable word and no failing cell has been found in it (DESIGN CHOICE, log 69). -/
def Dev.healthy (d : Dev) (s : Nat) : Bool := !d.dr.bad.any (fun w => w / 8192 == s) && !d.dr.columns.any (fun x => x.1 / 72 == s)

/-- The lowest-numbered healthy spare berth. -/
def Dev.spareFor (d : Dev) (b : Nat) : Option Nat := (upto 32).find? (fun s => d.isSpare s && s ≠ b && d.bstate s == 5 && d.healthy s)

/-- No spare berth remains for berth b (11 R392, 01 R30). -/
def Dev.relocNone (d : Dev) (b : Nat) : Dev := (d.raiseBerth 6 b 0 0 0).setFault SYS_FAULT.BERTH_EXHAUSTED true

/-- A berth starts to mirror into its new bank (11 R391 step 2). -/
def Dev.mirror (d : Dev) (b : Nat) : Dev := d.setFld BH_STAT.BSTATE 4 b

/-- A relocation starts, waits for the running one, or finds no spare berth (11 R391, R392); a lent berth is returned first. -/
def Dev.relocate (d : Dev) (b : Nat) : Dev :=
  if d.bstate b = 5 ∨ d.bstate b = 6 ∨ b ≥ 32 then d
  else
    match d.dr.reloc with
    | some (src, _) =>
      if src = b ∨ d.dr.relocs.contains b then d else { d with dr := { d.dr with relocs := d.dr.relocs ++ [b] } }
    | none =>
      match d.spareFor b with
      | none => d.relocNone b
      | some s =>
        let d1 := ({ d with dr := { d.dr with reloc := some (b, s) } }.raiseBerth 4 b 0 0 s)
        let d2 := (d1.setFld DR_STAT.RELOCATING 1).setFld DR_STAT.RELOC_SRC b
        match d2.dr.loan with
        | some l =>
          if l.b = b then { d2.setFld BH_STAT.BSTATE 2 b with dr := { d2.dr with loan := some { l with back := true } } }
          else d2.mirror b
        | none => d2.mirror b

/-- The march repeat of 11 R393 has ended with its relocations. -/
def Dev.marchRepeatOver (d : Dev) : Dev :=
  if !d.dr.again ∧ d.dr.reloc = none then d.endCause 6 else d

/-! ### Findings (11 R371) -/

/-- An uncorrectable word has been read: it is counted. -/
def Dev.countUe (d : Dev) (w : Nat) : Dev :=
  let b := w / 8192
  let row := w % 8192 / 64
  ((d.count BH_ECC.UE_CNT b).setFld BH_ECC.LAST_ROW row b).raiseBerth 2 b row (w % 8192) 0

/-- A word has been corrected: it is counted, and it is sound again. -/
def Dev.countCe (d : Dev) (w : Nat) : Dev :=
  let b := w / 8192
  let row := w % 8192 / 64
  let d1 := ((d.count BH_ECC.CE_CNT b).setFld BH_ECC.LAST_ROW row b).raiseBerth 1 b row (w % 8192) 0
  { d1 with dr := { d1.dr with soft := d1.dr.soft.filter (fun x => x != w) } }

/-- The dredger copies n words from word w on, a chunk, a row or a whole berth: it finds what they hold as every read does, and copies an
uncorrectable word poisoned. -/
def Dev.copyRead (d : Dev) (w n : Nat) : Dev :=
  let mine (l : List Nat) : List Nat := l.filter (fun x => decide (w ≤ x) && decide (x < w + n))
  (mine d.dr.bad).foldl Dev.countUe ((mine d.dr.soft).foldl Dev.countCe d)

/-- A relocation ends: reads switch to the new bank (11 R391 steps 4 and 5). -/
def Dev.relocEnd (d : Dev) : Dev :=
  match d.dr.reloc with
  | none => d
  | some (b, s) =>
    if d.bstate b ≠ 4 then d
    else
      let d0 := d.copyRead (b * 8192) 8192
      let d1 := ((d0.setFld BH_STAT.BANK (d0.fld BH_STAT.BANK s) b).setFld BH_STAT.SPARE_ROWS 4 b).setFld BH_STAT.BSTATE 0 b
      let d2 := ((d1.setFld BH_STAT.BSTATE 6 s).setBit BH_SPARE.SPARE 0 s false).setFld DR_STAT.RELOCATING 0
      let d3 : Dev := { d2 with dr := { d2.dr with
        reloc := none, relocs := d2.dr.relocs.drop 1, repair := del b d2.dr.repair,
        buffer := d2.dr.buffer.filter (fun x => x.1 ≠ b), columns := d2.dr.columns.filter (fun x => x.1 / 72 ≠ b) } }
      let d4 := d3.raiseBerth 5 b 0 0 s
      match d2.dr.relocs with
      | n :: _ => d4.relocate n
      | [] => d4.marchRepeatOver

/-! ### Spare rows (11 R389, R390) -/

/-- Rows of berth b whose repair has started or waits. -/
def Dev.repairs (d : Dev) (b : Nat) : List Nat := get [] d.dr.repair b

/-- A row of a berth needs repair outside a loan. With no spare row left the berth is relocated, or, where AUTO_RELOC is 0 and no spare
berth is left either, its failure exceeds the spares (11 R390, R392, 01 R30). -/
def Dev.repairRow (d : Dev) (b row : Nat) : Dev :=
  if (d.bstate b = 0 ∨ d.bstate b = 3) ∧ (d.repairs b).contains row = false then
    if d.fld BH_STAT.SPARE_ROWS b ≤ (d.repairs b).length then
      if d.flag DR_CFG.AUTO_RELOC then d.relocate b else if d.spareFor b = none then d.relocNone b else d
    else { d.setFld BH_STAT.BSTATE 3 b with dr := { d.dr with repair := ins b (d.repairs b ++ [row]) d.dr.repair } }
  else d

/-- A spare row is mapped (11 R389). -/
def Dev.useSpareRow (d : Dev) (b row : Nat) : Dev :=
  (d.setFld BH_STAT.SPARE_ROWS (d.fld BH_STAT.SPARE_ROWS b - 1) b).raiseBerth 3 b row 0 0

/-- A requester or the scrub has read an uncorrectable word (11 R371, R389). -/
def Dev.berthUe (d : Dev) (w : Nat) : Dev := (d.countUe w).repairRow (w / 8192) (w % 8192 / 64)

/-- It has read a word that was corrected (11 R371, R383, R389). -/
def Dev.berthCe (d : Dev) (w : Nat) : Dev :=
  let d1 := d.countCe w
  let ces := if d1.dr.ces.contains (w / 64, w) then d1.dr.ces else (w / 64, w) :: d1.dr.ces
  let d2 : Dev := { d1 with dr := { d1.dr with ces := ces } }
  if (ces.filter (fun x => x.1 = w / 64)).length ≥ max 1 (d.fld DR_CFG.CE_ROW_LIMIT) then d2.repairRow (w / 8192) (w % 8192 / 64) else d2

/-! ### Owners (11 R377 to R381) -/

/-- An owner's kind and index are in range (11 R377). -/
def ownerOk (kind idx : Nat) : Bool := (kind == 0 && idx < 24) || (kind == 1 && idx < 32) || (kind == 2 && idx < 8)

/-- An owner belongs to function f: itself, an engine granted to it, or a lighter channel that it owns. -/
def Dev.belongs (d : Dev) (f kind idx : Nat) : Bool :=
  (kind == 0 && d.fbit HM_FENG.ENG f idx) || (kind == 1 && d.owner (128 + idx) == some f) || (kind == 2 && idx == f)

/-- An owner that a function granted berth b stands behind (11 R377). -/
def Dev.ownerAllowed (d : Dev) (b kind idx : Nat) : Bool :=
  ownerOk kind idx && (upto 8).any (fun f => d.fbit HM_FBERTH.BERTH f b && d.belongs f kind idx)

/-- CUR_KIND and CUR_INDEX of berth b change. -/
def Dev.putCur (d : Dev) (b kind idx : Nat) : Dev := (d.setFld BH_OWNER.CUR_KIND kind b).setFld BH_OWNER.CUR_INDEX idx b

/-- Whom P0 of berth b serves in this ECLK cycle: a handover takes effect at the cycle's end (11 R381). -/
def Dev.portOwner (d : Dev) (b : Nat) : Nat × Nat :=
  match get none d.dr.prev b with
  | some (t, k, i) => if t = d.tb.eclk then (k, i) else (d.fld BH_OWNER.CUR_KIND b, d.fld BH_OWNER.CUR_INDEX b)
  | none => (d.fld BH_OWNER.CUR_KIND b, d.fld BH_OWNER.CUR_INDEX b)

/-- The current owner of berth b changes by a handover. -/
def Dev.setCur (d : Dev) (b kind idx : Nat) : Dev :=
  let p := d.portOwner b
  let d1 := d.putCur b kind idx
  { d1 with dr := { d1.dr with prev := set none d1.dr.prev b (some (d.tb.eclk, p.1, p.2)) } }

/-- The home owner of berth b changes. -/
def Dev.setHome (d : Dev) (b kind idx : Nat) : Dev := (d.setFld BH_OWNER.HOME_KIND kind b).setFld BH_OWNER.HOME_INDEX idx b

/-- The home owner's access to a lent berth starts the return (11 R387). -/
def Dev.startReturn (d : Dev) (b : Nat) : Dev :=
  match d.dr.loan with
  | some l =>
    if l.b = b ∧ ¬ l.back then
      { (d.setFld BH_STAT.BSTATE 2 b).count BH_STAT.STALL_CNT b with dr := { d.dr with loan := some { l with back := true } } }
    else d
  | none => d

/-- The owners that a BH_OWNER value names, each kept where the value names a reserved one (11 R398). -/
def Dev.applyOwner (d : Dev) (b v : Nat) : Dev :=
  let d1 := if ownerOk (cut v 0 2) (cut v 2 5) then d.setCur b (cut v 0 2) (cut v 2 5) else d
  if ownerOk (cut v 8 2) (cut v 10 5) then d1.setHome b (cut v 8 2) (cut v 10 5) else d1

/-- A kind and index out of range, other than the reserved kind, which only leaves its own pair (11 R378, R398). -/
def ownerBad (kind idx : Nat) : Bool := kind ≠ 3 && !ownerOk kind idx

/-- F0 writes BH_OWNER of berth b (11 R378). -/
def Dev.writeOwner (d : Dev) (b v : Nat) : Dev :=
  let ck := cut v 0 2
  let ci := cut v 2 5
  let hk := cut v 8 2
  let hi := cut v 10 5
  if ownerBad ck ci ∨ ownerBad hk hi ∨ (ck ≠ 3 ∧ ¬ d.ownerAllowed b ck ci) ∨ (hk ≠ 3 ∧ ¬ d.ownerAllowed b hk hi) ∨
      d.staging b then d
  else if d.bstate b = 1 ∨ d.bstate b = 2 then
    let d1 := (d.startReturn b).setFld BH_OWNER.PEND 1 b
    { d1 with dr := { d1.dr with owners := ins b v d1.dr.owners } }
  else if d.bstate b = 5 ∨ d.bstate b = 6 then d
  else d.applyOwner b v

/-- The handover of BERTH_HANDOVER (11 R379) takes effect and completes. -/
def Dev.handover (d : Dev) (c : Cmd) (waited : Bool) : Dev :=
  let b := c.target
  let kind := bits c.w 64 2
  let idx := bits c.w 72 8
  let pk := d.fld BH_OWNER.CUR_KIND b
  let pi := d.fld BH_OWNER.CUR_INDEX b
  let d1 := d.setCur b kind idx
  let d2 := if c.opt then d1.setHome b kind idx else d1
  d2.finish c 0 [byt 22 1 pk, byt 23 1 pi, (192, 1, waited.toNat)]

/-- BERTH_HANDOVER (11 R379) once its general checks have passed: the status that applies, if any. -/
def Dev.handoverCheck (d : Dev) (c : Cmd) : Nat :=
  let b := c.target
  let kind := bits c.w 64 2
  let idx := bits c.w 72 8
  if ¬ ownerOk kind idx ∨ bits c.w 66 6 ≠ 0 then 1
  else if ¬ (d.belongs c.fn kind idx ∨ (c.fn = 0 ∧ kind = 2 ∧ d.fbit HM_FBERTH.BERTH idx b)) then 9
  else if d.bstate b = 4 ∨ d.bstate b = 5 ∨ d.bstate b = 6 ∨ d.staging b then 0x13
  else 0

/-- BERTH_HANDOVER takes effect, or waits for a loan's return (11 R379). -/
def Dev.handoverCmd (d : Dev) (c : Cmd) : Dev :=
  match d.handoverCheck c with
  | 0 =>
    if d.bstate c.target = 1 ∨ d.bstate c.target = 2 then
      let d1 := d.startReturn c.target
      { d1 with dr := { d1.dr with waits := d1.dr.waits ++ [c] } }
    else d.handover c false
  | s => d.finish c s

/-- A shared flag rises, set by an owner or by another setter (11 R380). -/
def Dev.flagRise (d : Dev) (flag : Nat) (setter : Option (Nat × Nat)) : Dev :=
  (upto 32).foldl (fun e b =>
    if e.flag BH_XFER.EN b && e.fld BH_XFER.FLAG b == flag then
      let ck := e.fld BH_OWNER.CUR_KIND b
      let ci := e.fld BH_OWNER.CUR_INDEX b
      let nk := e.fld BH_XFER.NEXT_KIND b
      let ni := e.fld BH_XFER.NEXT_INDEX b
      if setter = some (ck, ci) ∧ (ck = 0 ∨ ck = 1) ∧ ¬ (e.bstate b = 1 ∨ e.bstate b = 2 ∨ e.bstate b = 4) ∧
          e.ownerAllowed b nk ni then
        let e1 := e.setCur b nk ni
        if e.flag BH_XFER.SWAP b then (e1.setFld BH_XFER.NEXT_KIND ck b).setFld BH_XFER.NEXT_INDEX ci b else e1
      else e.count BH_XFER.XFER_IGN b
    else e) d

/-! ### Access -/

/-- What an access to a berth meets (11 R373, R382, R387, R394): it is served, it stalls, the protection refuses it, or the
berth is lent to another owner's dredger. -/
inductive Access
  | served
  | stall
  | denied
  | lent
deriving DecidableEq, Repr

/-- The access of an owner (kind, index) that the map grants the berth or not: an engine needs the grant also where it owns (05 R174). -/
def Dev.access (d : Dev) (b kind idx : Nat) (granted : Bool) : Access :=
  let owns := d.portOwner b == (kind, idx)
  let home := d.fld BH_OWNER.HOME_KIND b == kind && d.fld BH_OWNER.HOME_INDEX b == idx
  if b ≥ 32 || d.isSpare b || d.bstate b == 5 || d.bstate b == 6 || (kind == 0 && !granted) then .denied
  else if d.dr.zeroing && b < 16 then .stall
  else if d.bstate b == 1 || d.bstate b == 2 then (if home then .stall else if granted then .lent else .denied)
  else if owns || granted then .served
  else .denied

/-- A port of berth b has been used (11 R386). -/
def Dev.touch (d : Dev) (b : Nat) : Dev := { d with dr := { d.dr with used := ins b d.ecNs d.dr.used } }

/-- A word has been read: what the read finds is counted (11 R371). -/
def Dev.findWord (d : Dev) (w : Nat) : Dev :=
  if d.dr.bad.contains w then d.berthUe w else if d.dr.soft.contains w then d.berthCe w else d

/-- The part after a read that was served. -/
def Dev.afterRead (d : Dev) (a n : Nat) : Dev := (wordsOf a n).foldl Dev.findWord (d.touch (a / 65536))

/-- A write of `n` bytes meets an uncorrectable word that it does not replace whole (11 R372). -/
def Dev.writeBad (d : Dev) (a n : Nat) : Bool :=
  (wordsOf a n).any (fun w => d.dr.bad.contains w && !wholeWord a n w)

/-- A write that was served: the bytes; words replaced whole are sound again, and a correctable word that it merges into (11 R372). -/
def Dev.berthWrite (d : Dev) (a : Nat) (bs : List Byte) : Dev :=
  let n := bs.length
  let d1 := (d.touch (a / 65536)).pokeN a bs
  { d1 with dr := { d1.dr with bad := d1.dr.bad.filter (fun w => !wholeWord a n w), soft := d1.dr.soft.filter (fun w => !(wordsOf a n).contains w) } }

/-! ### The two ports (11 R373 to R376) -/

/-- What the ports have written in this ECLK cycle. -/
def Dev.cycNow (d : Dev) : List PortWrite := if d.dr.cycAt = d.tb.eclk then d.dr.cyc else []

/-- The port of berth b for an owner: P0 serves only the current owner. -/
def Dev.onP1 (d : Dev) (b kind idx : Nat) : Bool := d.portOwner b != (kind, idx)

/-- A P1 write of `n` bytes at `a` meets a word that P0 has written in this cycle: COLLIDE (11 R375). -/
def Dev.collides (d : Dev) (a n : Nat) : Bool := (wordsOf a n).any (fun w => d.cycNow.any (fun x => !x.p1 && x.word == w))

/-- The words that a write through a port replaces are noted with what they held. -/
def Dev.noteWrite (d : Dev) (p1 : Bool) (a n : Nat) : Dev :=
  let news := ((wordsOf a n).filter (fun w => !d.cycNow.any (fun x => x.p1 == p1 && x.word == w))).map (fun w =>
    { p1 := p1, word := w, old := d.peekNat (8 * w) 8 : PortWrite })
  { d with dr := { d.dr with cyc := d.cycNow ++ news, cycAt := d.tb.eclk } }

/-- A write through a port: whether it has collided, and the part after it. -/
def Dev.portWrite (d : Dev) (p1 : Bool) (a : Nat) (bs : List Byte) : Bool × Dev :=
  if p1 && d.collides a bs.length then (true, d.count BH_STAT.COLL_CNT (a / 65536))
  else (false, (d.noteWrite p1 a bs.length).berthWrite a bs)

/-- A byte as a port reads it: a word that the other port writes in this cycle reads as before (11 R376). -/
def Dev.portByte (d : Dev) (p1 : Bool) (a : Nat) : Byte :=
  match d.cycNow.find? (fun x => x.p1 != p1 && x.word == a / 8) with
  | some x => BitVec.ofNat 8 (x.old / 2 ^ (8 * (a % 8)))
  | none => d.peek a

/-- `n` bytes as a port reads them. -/
def Dev.portRead (d : Dev) (p1 : Bool) (a n : Nat) : List Byte := (upto n).map (fun k => d.portByte p1 (a + k))

/-- A quay's ring write is refused (04 R133). -/
def Dev.ringRefused (d : Dev) (b : Nat) : Bool :=
  d.isSpare b || d.staging b || d.bstate b == 1 || d.bstate b == 2 || d.bstate b == 5 || d.bstate b == 6 ||
    (d.dr.zeroing && b < 16)

/-! ### The rows -/

/-- An error strikes a word of the berths. -/
def Dev.strike (d : Dev) (w : Nat) (ue : Bool) : Dev :=
  if d.dr.bad.contains w then d
  else if ue then { d with dr := { d.dr with bad := w :: d.dr.bad, soft := d.dr.soft.filter (fun x => x != w) } }
  else if d.dr.soft.contains w then d
  else { d with dr := { d.dr with soft := w :: d.dr.soft } }

/-- One finding of a scrub step (11 R383, R384). -/
def Dev.scrubFind (d : Dev) (f : ScrubFind) : Dev :=
  match f with
  | .berth b ue => if b < 32 then d.strike (b * 8192 + d.dr.word) ue else d
  | .upset w ue => if w < 32 * 8192 then d.strike w ue else d
  | .store p nano ue cell =>
    if p < 26 then
      let d1 := d.count (if ue then DR_CNT.STORE_UE else DR_CNT.STORE_CE)
      let n := d.fld ME_STATUS.LOGICAL p
      let d2 := if ue ∨ (get {} d.mo n).serv.getD n ≠ p then d1 else d1.warmStale n
      d2.raiseDredger (if ue then 4 else 3) p 0 (if nano then 128 else 0)
        (if nano then d.dr.sword % 512 else d.dr.sword) cell 0
    else d

/-- The scrub reads one word of each berth that is NORMAL, SPARE or REPAIRING (11 R383). -/
def Dev.scrubRead (d : Dev) : Dev :=
  (upto 32).foldl (fun e b => if e.bstate b = 0 ∨ e.bstate b = 3 ∨ e.bstate b = 5 then e.findWord (b * 8192 + d.dr.word) else e) d

/-- The interval of the scrub in ns (11 R383). -/
def Dev.scrubPeriod (d : Dev) : Nat := (d.fld DR_CFG.SCRUB_DIV + 1) * 256

/-- SCRUB_TICK (11 R383, R384): a step that its interval has made due. -/
def scrubTickEff (finds : List ScrubFind) (d : Dev) : Dev :=
  if d.flag DR_CFG.SCRUB_EN ∧ d.dr.scrubAt + d.scrubPeriod ≤ d.ecNs then
    let d1 := (finds.foldl Dev.scrubFind d).scrubRead
    let w := (d1.dr.word + 1) % 8192
    { d1 with dr := { d1.dr with word := w, sword := (d1.dr.sword + 1) % 8192, ces := if w = 0 then [] else d1.dr.ces, scrubAt := d1.ecNs } }
  else d

/-- A channel with a live ring in berth b (11 R386). -/
def Dev.ringIn (d : Dev) (b : Nat) : Bool :=
  d.qy.chans.any (fun e => (e.2.cstate == 1 || e.2.cstate == 2) &&
    (match e.2.cur with | some i => bit i.ctrl 20 && cut i.aux 0 5 == b | none => false))

/-- The dredger may borrow berth b (11 R386, R388, R393). -/
def Dev.loanable (d : Dev) (b : Nat) : Bool :=
  b < 32 && d.flag DR_CFG.MARCH_EN && d.fbit DR_LOAN.LOANABLE 0 b && d.bstate b == 0 &&
    d.fld BH_OWNER.CUR_KIND b == d.fld BH_OWNER.HOME_KIND b && d.fld BH_OWNER.CUR_INDEX b == d.fld BH_OWNER.HOME_INDEX b &&
    (d.dr.again || d.ecNs - get 0 d.dr.used b ≥ 1000 * max 1 (d.fld DR_CFG.LOAN_IDLE)) && !d.ringIn b &&
    d.dr.loan.isNone && d.dr.reloc.isNone && d.dr.buffer.isEmpty

/-- The save buffer stands in for the failing row, and the berth is to be relocated (11 R388, R391). -/
def Dev.standIn (d : Dev) (b row : Nat) : Dev :=
  let d1 : Dev := { d with dr := { d.dr with buffer := if d.dr.buffer.contains (b, row) then d.dr.buffer else (b, row) :: d.dr.buffer } }
  if d1.flag DR_CFG.AUTO_RELOC then d1.relocate b else if d1.spareFor b = none then d1.relocNone b else d1

/-- The row of a loan is repaired, or the save buffer will serve it (11 R388 to R390). -/
def Dev.loanRepair (d : Dev) (b row : Nat) : Dev :=
  if d.fld BH_STAT.SPARE_ROWS b ≠ 0 then d.useSpareRow b row else d.standIn b row

/-- The chunk reads back wrong n times as it is returned: each time a further spare row takes the row's place, twice at most (11 R388). -/
def Dev.returnRepair (d : Dev) (b row n : Nat) : Dev :=
  let k := min (min n 2) (d.fld BH_STAT.SPARE_ROWS b)
  let d1 := (upto k).foldl (fun e _ => e.useSpareRow b row) d
  if n > k then d1.standIn b row else d1

/-- A failing cell is noted; a second row at its bit position is a column fault (11 R385, R393). -/
def Dev.marchFail (d : Dev) (b row : Nat) (f : MarchFail) : Dev :=
  let col := b * 72 + f.cell
  let hit := d.dr.columns.any (fun x => x.1 == col && x.2 ≠ row)
  let d1 : Dev := { d with dr := { d.dr with columns := if d.dr.columns.contains (col, row) then d.dr.columns else (col, row) :: d.dr.columns } }
  let d2 := d1.raiseDredger 1 b (d.fld BH_STAT.BANK b) row (row * 64 + f.word) f.cell f.background
  if hit then
    let d3 := (d2.raiseDredger 2 b (d.fld BH_STAT.BANK b) row (row * 64 + f.word) f.cell f.background).relocate b
    ({ d3 with dr := { d3.dr with again := true } } : Dev).enterSteady 6
  else d2

/-- LOAN_START (11 R385, R386): the loan, and what the march finds in its chunk. -/
def loanStartEff (b : Nat) (fail : List MarchFail) (d : Dev) : Dev :=
  if d.loanable b then
    let c := get 0 d.dr.chunk b
    let d1 := (((d.setFld BH_STAT.BSTATE 1 b).putCur b 3 0).setFld DR_STAT.LOAN_ACTIVE 1).setFld DR_STAT.LOAN_BERTH b
    let d2 : Dev := { d1.setFld DR_STAT.LOAN_CHUNK c with dr := { d1.dr with loan := some { b := b, chunk := c } } }
    let w := b * 8192 + c * 64
    let bad := d2.dr.bad.any (fun x => x / 64 == w / 64)
    let d3 := d2.copyRead w 64
    if fail = [] then (if bad then d3.loanRepair b c else d3)
    else fail.foldl (fun e f => e.marchFail b c f) ((d3.count DR_CNT.MARCH_FAIL).loanRepair b c)
  else d

/-- LOAN_RETURN_DONE (11 R388): the chunk's row has read back wrong `badRows` times: of itself, of its spare row, and of the further one. -/
def loanReturnDoneEff (badRows : Nat) (d : Dev) : Dev :=
  match d.dr.loan with
  | none => d
  | some l =>
    let d1 := d.returnRepair l.b l.chunk badRows
    let full := !l.back
    let d2 := ((d1.setFld BH_STAT.BSTATE 0 l.b).putCur l.b (d1.fld BH_OWNER.HOME_KIND l.b) (d1.fld BH_OWNER.HOME_INDEX l.b)).setFld
      DR_STAT.LOAN_ACTIVE 0
    let d3 := if full then d2.setFld DR_PASS.CHUNKS ((d2.fld DR_PASS.CHUNKS + 1) % 2 ^ 32) else d2
    let d4 : Dev := { d3 with dr := { d3.dr with
      loan := none, chunk := if full then ins l.b ((l.chunk + 1) % 128) d3.dr.chunk else d3.dr.chunk } }
    let d5 := match d4.dr.reloc with
      | some (src, _) => if src = l.b then d4.mirror l.b else d4
      | none => d4
    let d6 := if d5.flag BH_OWNER.PEND l.b then
        ({ d5 with dr := { d5.dr with owners := del l.b d5.dr.owners } }.applyOwner l.b (get 0 d5.dr.owners l.b)).setFld BH_OWNER.PEND 0 l.b
      else d5
    let mine := d6.dr.waits.filter (fun c => c.target == l.b)
    mine.foldl (fun e c => e.handover c true) { d6 with dr := { d6.dr with waits := d6.dr.waits.filter (fun c => c.target != l.b) } }

/-- ROW_REPAIR_DONE (11 R389): the row's words are copied, and a further row that waits is repaired next. -/
def rowRepairDoneEff (b : Nat) (d : Dev) : Dev :=
  if d.bstate b = 3 then
    match d.repairs b with
    | [] => d.setFld BH_STAT.BSTATE 0 b
    | row :: t =>
      let d1 := if t = [] then d.setFld BH_STAT.BSTATE 0 b else d
      (({ d1 with dr := { d1.dr with repair := set [] d1.dr.repair b t } } : Dev).copyRead (b * 8192 + row * 64) 64).useSpareRow b row
  else d

/-- RELOC_DONE (11 R391). -/
def relocDoneEff (d : Dev) : Dev := d.relocEnd

/-- SELF_TEST_PASS_DONE (11 R393). -/
def selfTestPassDoneEff (d : Dev) : Dev :=
  if d.dr.again then ({ d with dr := { d.dr with again := false } } : Dev).marchRepeatOver else d

/-- BERTH_ZERO_DONE (11 R394): B00 to B15 read zero with valid check bits. -/
def berthZeroDoneEff (d : Dev) : Dev :=
  if d.dr.zeroing then
    { d with mem := d.mem.filter (fun c => c.1 ≥ 0x100000),
             dr := { d.dr with zeroing := false, bad := d.dr.bad.filter (fun w => w ≥ 16 * 8192), soft := d.dr.soft.filter (fun w => w ≥ 16 * 8192) } }
  else d

/-- A write of RELOC with a berth (11 R391). -/
def Dev.writeReloc (d : Dev) (v : Nat) : Dev := if bit v 5 then d.relocate (cut v 0 5) else d

/-- BH_SPARE takes a value: spare berths read SPARE (11 R382); a spare that is consumed is not offered again (17 R564). -/
def Dev.writeSpare (d : Dev) (v0 : Nat) : Dev :=
  let v := pack (((upto 32).filter (fun b => d.bstate b ≠ 6)).map (fun b => (b, 1, (bit v0 b).toNat)))
  (upto 32).foldl (fun e b =>
    if bit v b && e.bstate b == 0 then e.setFld BH_STAT.BSTATE 5 b
    else if !bit v b && e.bstate b == 5 then e.setFld BH_STAT.BSTATE 0 b else e) (d.setFld BH_SPARE.SPARE v)

/-- The 64 bytes of READ_STATE class 5 (11 R396). -/
def Dev.berthState (d : Dev) (b : Nat) : Nat :=
  pack [(0, 2, d.fld BH_OWNER.CUR_KIND b), (2, 5, d.fld BH_OWNER.CUR_INDEX b), (8, 2, d.fld BH_OWNER.HOME_KIND b),
    (10, 5, d.fld BH_OWNER.HOME_INDEX b), (15, 1, d.fld BH_OWNER.PEND b), (16, 3, d.bstate b), byt 3 1 (d.fld BH_STAT.BANK b),
    byt 4 1 (d.fld BH_STAT.SPARE_ROWS b),
    byt 5 1 (match d.dr.loan with | some l => if l.b = b then l.chunk else 0xFF | none => 0xFF),
    byt 8 2 (d.fld BH_ECC.CE_CNT b), byt 10 1 (d.fld BH_ECC.UE_CNT b), (88, 7, d.fld BH_ECC.LAST_ROW b),
    byt 12 1 (d.fld BH_STAT.STALL_CNT b), byt 13 1 (d.fld BH_STAT.COLL_CNT b),
    (128, 1, d.fld BH_XFER.EN b), (129, 5, d.fld BH_XFER.FLAG b), (134, 2, d.fld BH_XFER.NEXT_KIND b),
    (136, 5, d.fld BH_XFER.NEXT_INDEX b), (141, 1, d.fld BH_XFER.SWAP b), (142, 8, d.fld BH_XFER.XFER_IGN b)]

end Sys2Proof.Machine
end

