-- ==== Sys2Proof/Machine/Egress.lean ====
section
/-! DEFINITION. What other blocks send on the causeway: frames on a port, and the TOOTH frames of published axes (12 R406,
R426, R427). -/

namespace Sys2Proof.Machine

open Sys2Proof

/-- Causeway port p. -/
def Dev.cwp (d : Dev) (p : Nat) : CwPort := get {} d.cw.ports p

/-- The part with causeway port p replaced. -/
def Dev.setCwp (d : Dev) (p : Nat) (x : CwPort) : Dev := { d with cw := { d.cw with ports := set {} d.cw.ports p x } }

/-- The causeway is in use and port p is UP. -/
def Dev.cwUp (d : Dev) (p : Nat) : Bool := d.flag CW_ID.EN && d.fld CW_PSTAT.LSTATE p == 2

/-- Port p carries only link measurement (12 R412). -/
def Dev.cwRefused (d : Dev) (p : Nat) : Bool := d.fld CW_PSTAT.ROLE p == 3

/-- A frame waits on port p; a port that is not UP keeps none, and a REFUSED one only DREQ and DRESP (12 R401, R412). -/
def Dev.cwSend (d : Dev) (p : Nat) (f : Frame) : Dev :=
  if d.cwUp p && (!d.cwRefused p || f.typ == 2 || f.typ == 3) then d.setCwp p { d.cwp p with tx := (d.cwp p).tx ++ [f] } else d

/-- The ports that have asked for a slot of a device (12 R426). -/
def Dev.subPorts (d : Dev) (did slot : Nat) : List Nat :=
  match d.cw.subs.find? (fun s => s.did == did && s.slot == slot) with
  | some s => s.ports.map (fun e => e.1)
  | none => []

/-- A frame on every port in a slot's mask but one. -/
def Dev.cwCast (d : Dev) (did slot but : Nat) (f : Frame) : Dev :=
  ((d.subPorts did slot).filter (· ≠ but)).foldl (fun e p => e.cwSend p f) d

/-- The TOOTH body of a tooth of axis n (12 R427). -/
def Dev.toothBody (d : Dev) (slot n : Nat) : Nat :=
  let a := d.wtModel (d.fld AX_CFG.SRC n)
  pack [byt 0 1 slot, (8, 1, a.rev.toNat), byt 2 2 a.n, (32, 5, a.mt), byt 5 1 a.l, byt 8 8 (a.tk.toNat / 65536),
    byt 16 2 (a.tk.toNat % 65536), byt 20 4 (ofS 32 a.g), byt 24 3 a.zofs, byt 32 8 a.p, byt 40 8 (ofS 64 a.dp)]

/-- The TOOTH body of a pulse of axis n. -/
def Dev.pulseBody (d : Dev) (slot n : Nat) : Nat :=
  let a := d.axis n
  pack [byt 0 1 slot, (8, 1, a.reverse.toNat), (9, 1, 1), byt 8 8 (a.tk.toNat / 8), byt 16 2 (a.tk.toNat % 8 * 8192), byt 20 4 a.pulses,
    byt 24 8 a.v, byt 32 8 (a.pk * 8192), byt 48 8 (d.axUnit n)]

/-- A tooth or pulse of axis n is published in every slot that holds the axis, in OPERATE (12 R427). -/
def Dev.pubTooth (d : Dev) (n : Nat) : Dev :=
  if d.operate then
    ((upto 4).filter (fun k => d.flag CW_PUB.EN k && d.fld CW_PUB.AXIS k == n)).foldl (fun e k =>
      e.cwCast e.did k 4 { typ := 4, from_ := e.did, body := if e.axType n = 2 then e.toothBody k n else e.pulseBody k n }) d
  else d

end Sys2Proof.Machine
end

