-- ==== Sys2Proof/Machine/PinBase.lean ====
section
/-! DEFINITION. Pin engines as other blocks see them (07 R227 to R243): the engine, its program block, its lanes, and binding
WAITX to a committed event. -/

namespace Sys2Proof.Machine

open Sys2Proof

/-- Pin engine n. -/
def Dev.pne (d : Dev) (n : Nat) : PinEngine := get {} d.pn n

/-- The part with pin engine n replaced. -/
def Dev.setPne (d : Dev) (n : Nat) (x : PinEngine) : Dev := { d with pn := set {} d.pn n x }

/-- STATE of pin engine n: 0 STOPPED, 1 RUNNING, 2 WAITING, 3 FAULT. -/
def Dev.pnState (d : Dev) (n : Nat) : Nat := d.fld PN_STATUS.STATE n

/-- Instruction k of a program block (07 R243). -/
def blkSlot (p : BitVec 1024) (k : Nat) : Nat := bits p (16 * k) 16

/-- Touch entry k of a program block, 1 to 7. -/
def blkTouch (p : BitVec 1024) (k : Nat) : Nat := bits p (512 + 32 * (k - 1)) 32

/-- TICKRATE. -/
def blkRate (p : BitVec 1024) : Nat := bits p 736 32

/-- START. -/
def blkStart (p : BitVec 1024) : Nat := bits p 768 5

/-- SHIFT_LEN. -/
def blkShift (p : BitVec 1024) : Nat := bits p 776 8

/-- JLANE. -/
def blkJLane (p : BitVec 1024) : Nat := bits p 784 3

/-- JFLAG. -/
def blkJFlag (p : BitVec 1024) : Nat := bits p 787 5

/-- CLEAR of FLAGS. -/
def blkClear (p : BitVec 1024) : Bool := p.getLsbD 792

/-- CONST0 and CONST1. -/
def blkConst (p : BitVec 1024) (k : Nat) : BitVec 32 := BitVec.ofNat 32 (bits p (800 + 32 * k) 32)

/-- SWAP_MASK bars the boundary before slot k. -/
def blkBarred (p : BitVec 1024) (k : Nat) : Bool := p.getLsbD (864 + k)

/-- The source that event input k watches, if any. -/
def blkEvsel (p : BitVec 1024) (k : Nat) : Option Nat :=
  if p.getLsbD (896 + 16 * k + 15) then some (bits p (896 + 16 * k) 12) else none

/-- The instruction at PC of pin engine n. -/
def Dev.pnWord (d : Dev) (n : Nat) : Nat := blkSlot (d.pne n).prog (d.fld PN_STATUS.PC n)

/-- OP of an instruction. -/
def pnOp (w : Nat) : Nat := cut w 12 4

/-- The pin of lane k of engine n, if the lane is enabled. -/
def Dev.lanePin (d : Dev) (n k : Nat) : Option Nat := if d.flag (PN_LANE.EN.nth 8 k) n then some (d.fld (PN_LANE.PIN.nth 8 k) n) else none

/-- An event of SOFT channel c commits: every engine that waits for one binds to it (07 R238). -/
def Dev.waitxBind (d : Dev) (c gen : Nat) : Dev :=
  (upto 32).foldl (fun e n =>
    let x := e.pne n
    if e.pnState n = 2 ∧ pnOp (e.pnWord n) = 5 ∧ cut (e.pnWord n) 0 9 = c ∧ x.bound.isNone ∧ x.wxDone = false then
      e.setPne n { x with bound := some gen }
    else e) d

/-- The output enable of a pin whose source is the pin engines: the OR of the enables of every engine that maps it on an enabled
lane (07 R229). -/
def Dev.peEnabled (d : Dev) (pin : Nat) : Bool :=
  (upto 32).any (fun n => (upto 8).any (fun k => d.lanePin n k == some pin && (d.pne n).oe.getLsbD k))

/-- Shared flag i. -/
def Dev.flagOn (d : Dev) (i : Nat) : Bool := d.sf.getLsbD i

/-- A shared flag takes a level; its rise may hand berths over (05 R177, 11 R380). -/
def Dev.setSf (d : Dev) (i : Nat) (b : Bool) (setter : Option (Nat × Nat)) : Dev :=
  let d1 := { d with sf := BitVec.ofNat 32 (put d.sf.toNat i 1 b.toNat) }
  if b && !d.flagOn i then d1.flagRise i setter else d1

end Sys2Proof.Machine
end

