-- ==== Sys2Proof/Machine/Chan.lean ====
section
/-! DEFINITION. Channels (04 R108 to R145): items, ARM, UPDATE and DISARM, the scan visit, commitment and captures. Times are
in 1/8 ns. -/

namespace Sys2Proof.Machine

open Sys2Proof

/-! ### Fields of an item (04 R116) -/

def ChItem.mode (i : ChItem) : Nat := cut i.ctrl 0 4
def ChItem.axis (i : ChItem) : Nat := cut i.ctrl 4 4
def ChItem.sub (i : ChItem) : Nat := cut i.ctrl 8 3
/-- END_SEL -/
def ChItem.byTime (i : ChItem) : Bool := bit i.ctrl 11
/-- The idle level of OUT_PIN: POL. -/
def ChItem.idle (i : ChItem) : Bool := bit i.ctrl 12
def ChItem.act (i : ChItem) : Nat := cut i.ctrl 13 2
def ChItem.edgeIn (i : ChItem) : Nat := cut i.ctrl 15 2
def ChItem.gated (i : ChItem) : Bool := bit i.ctrl 17
def ChItem.stopOnFault (i : ChItem) : Bool := bit i.ctrl 18
def ChItem.tickEv (i : ChItem) : Bool := bit i.ctrl 19
def ChItem.ringEn (i : ChItem) : Bool := bit i.ctrl 20
def ChItem.outPin (i : ChItem) : Nat := cut i.io 0 7
def ChItem.outEn (i : ChItem) : Bool := bit i.io 7
def ChItem.inPin (i : ChItem) : Nat := cut i.io 8 7
def ChItem.inEn (i : ChItem) : Bool := bit i.io 15
def ChItem.gateCh (i : ChItem) : Nat := cut i.io 16 9
/-- The XN further axes of XAX. -/
def ChItem.xaxes (i : ChItem) : List Nat := ([cut i.xax 0 4, cut i.xax 4 4, cut i.xax 8 4]).take (cut i.xax 12 2)
def ChItem.berth (i : ChItem) : Nat := cut i.aux 0 5
def ChItem.ringBase (i : ChItem) : Nat := cut i.aux 16 12
def ChItem.sizeK (i : ChItem) : Nat := cut i.aux 28 4
def ChItem.wrIdx (i : ChItem) : Nat := cut i.aux 32 16

/-- CAPTURE, MEASURE or GATE on a pin: ACTIVE at once (04 R122). -/
def ChItem.pinForm (i : ChItem) : Bool := i.inEn && (i.mode == 4 || i.mode == 6 || i.mode == 8)

/-- The item's mode places positions on AXIS (04 R572). -/
def ChItem.positioned (i : ChItem) : Bool :=
  i.mode == 1 || i.mode == 2 || i.mode == 3 || i.mode == 5 || i.mode == 9 || ((i.mode == 7 || i.mode == 8) && !i.inEn)

/-- Open-ended items (04 R119). -/
def ChItem.openEnded (i : ChItem) : Bool :=
  i.mode == 4 || i.mode == 6 || (i.mode == 8 && i.inEn) || ((i.mode == 3 || i.mode == 7) && i.cnt == 0)

/-- The item of channel bytes 0x00 to 0x2F, given as a number of 384 bits. -/
def ChItem.ofBytes (v gen : Nat) : ChItem :=
  {
    gen := gen, ctrl := cut v 0 32, io := cut v 32 32, cmp := cut v 64 64, en := cut v 128 64, tcap := cut v 192 32,
    adv := cut v 224 16, xax := cut v 240 16, cnt := cut v 256 32, width := cut v 288 32, aux := cut v 320 64 }

/-- Bytes 0x00 to 0x2F of an item. -/
def ChItem.toNat (i : ChItem) : Nat :=
  pack [(0, 32, i.ctrl), (32, 32, i.io), (64, 64, i.cmp), (128, 64, i.en), (192, 32, i.tcap), (224, 16, i.adv), (240, 16, i.xax),
    (256, 32, i.cnt), (288, 32, i.width), (320, 64, i.aux)]

/-! ### Channels, quays and pins as parts of the state -/

/-- Channel c. -/
def Dev.chan (d : Dev) (c : Nat) : Chan := get {} d.qy.chans c

/-- The part with channel c replaced. -/
def Dev.setChan (d : Dev) (c : Nat) (x : Chan) : Dev := { d with qy := { d.qy with chans := set {} d.qy.chans c x } }

/-- Logical quay q. -/
def Dev.quay (d : Dev) (q : Nat) : Quay := get {} d.qy.quays q

/-- The part with logical quay q replaced. -/
def Dev.setQuay (d : Dev) (q : Nat) (x : Quay) : Dev := { d with qy := { d.qy with quays := set {} d.qy.quays q x } }

/-- Physical quay p. -/
def Dev.physQ (d : Dev) (p : Nat) : PhysQuay := get {} d.qy.phys p

/-- The part with physical quay p replaced. -/
def Dev.setPhysQ (d : Dev) (p : Nat) (x : PhysQuay) : Dev := { d with qy := { d.qy with phys := set {} d.qy.phys p x } }

/-- The physical quay that serves logical quay q (04 R146). -/
def Dev.physOf (d : Dev) (q : Nat) : Nat :=
  ((upto 34).find? (fun p => d.fld QY_STATUS.ROLE p == 0 && d.fld QY_STATUS.LOGICAL p == q)).getD q

/-- TIO pin n. -/
def Dev.pin (d : Dev) (n : Nat) : Pin := get {} d.pins n

/-- The part with TIO pin n replaced. -/
def Dev.setPin (d : Dev) (n : Nat) (x : Pin) : Dev := { d with pins := set {} d.pins n x }

/-- The crossbar connects pin n to channel c as an output (07 R223). -/
def Dev.pinOut (d : Dev) (n c : Nat) : Bool := d.fld TIO_PIN.OUT_SRC n == 1 && d.fld TIO_PIN.OUT_CH n == c

/-- The scan period of a channel's quay (04 R109). -/
def Dev.scanS (d : Dev) (c : Nat) : Nat := if (d.quay (c / 16)).half then 512 else 256

/-- The lead below which a visit commits (04 R110, 13 R460). -/
def Dev.horizon (d : Dev) (c : Nat) : Nat := if (d.quay (c / 16)).round then 2048 else 4 * d.scanS c

/-- The trains that hold a slot of quay q's edge generator, by channel and GEN: each from its first pulse's commitment to its last edge (04
R113). -/
def Dev.trainSlots (d : Dev) (q : Nat) : List (Nat × Nat) :=
  let left := ((d.quay q).edges.filter (fun e => !e.own && e.item.mode == 3)).map (fun e => (e.ch, e.item.gen))
  let run := (upto 16).filterMap (fun k =>
    match (d.chan (16 * q + k)).cur with
    | some i => if i.mode == 3 && (d.chan (16 * q + k)).started then some (16 * q + k, i.gen) else none
    | none => none)
  (left ++ run).eraseDups

/-- The quay's edge generator: slots in use (04 R113). -/
def Dev.slotsUsed (d : Dev) (q : Nat) : Nat :=
  ((d.quay q).edges.filter (fun e => !e.own && e.item.mode != 3)).length + (d.trainSlots q).length

/-- Channel c has a committed edge that is not placed. -/
def Dev.hasEdges (d : Dev) (c : Nat) : Bool := (d.quay (c / 16)).edges.any (fun e => e.ch == c)

/-- Something begun is left on channel c: an edge, a tick's pulse or a closing edge. -/
def Dev.begunLeft (d : Dev) (c : Nat) : Bool := d.hasEdges c || !(d.chan c).tails.isEmpty || (d.chan c).owed.isSome

/-! ### Records of a channel (08 R271 to R275) -/

/-- The FIRE record of an edge raises the channel's fire source (04 R114, R123, 08 R272). -/
def Dev.fire (d : Dev) (e : Edge) (isEnd done : Bool) : Dev :=
  let lat := min e.lateBy 0x7FFFFF
  d.raiseRecs (3 * e.ch) [d.recAt 0x02 (3 * e.ch) e.item.gen (e.t / 8)
    [(128, 3, e.t % 8), (131, 1, isEnd.toNat), (132, 1, e.late.toNat), (133, 1, e.capped.toNat), (134, 1, e.short.toNat),
     (135, 1, done.toNat), (136, 4, e.item.mode), (140, 4, e.item.axis), byt 18 2 (d.chan e.ch).prog, byt 20 8 e.due,
     (224, 23, lat), (247, 1, (e.late && e.native).toNat)]] false

/-- The FAIL record of an item raises the channel's fault source, and is counted where the source targets none (04 R142, R143). -/
def Dev.failItem (d : Dev) (c : Nat) (i : ChItem) (code : Nat) (queued : Bool) : Dev :=
  let d1 := d.raise 0x06 (3 * c + 2) i.gen
    [byt 16 1 code, (136, 4, i.mode), (140, 4, i.axis), byt 18 2 (if queued then 0 else (d.chan c).prog),
     byt 20 8 (d.axValue i.axis), (224, 1, queued.toNat)] true
  if d.fld SL_TGT.KIND (3 * c + 2) = 0 then d1.count QY_DIAG.FAIL_UNROUTED (d.physOf (c / 16)) else d1

/-- The records of a capture (02 R63 to R66, 08 R273). -/
def Dev.captureRecs (d : Dev) (c : Nat) (i : ChItem) (e : InEdge) (prog : Nat) : List Record :=
  let src := 3 * c + 1
  let xs := i.xaxes
  let head (k : Nat) (typ : Nat) (a : Option AxisCap) : Record :=
    let (n, v, q, r) := match a with | some a => (a.n, a.v, a.q, a.rev) | none => (0, 0, 0, false)
    d.recAt typ src i.gen (e.t / 8) [(128, 3, e.t % 8), (131, 1, (!e.lvl).toNat), (132, 2, k), (136, 4, n), (140, 2, q),
      (142, 1, r.toNat), byt 18 2 prog, byt 20 8 v]
  let sample (n : Nat) : Option AxisCap := some ((e.axs.find? (fun a => a.n == n)).getD { n := n, v := e.t / 8, q := 0, rev := false })
  match xs with
  | [] => [head 0 0x03 none]
  | x :: t => head xs.length 0x03 (sample x) :: (t.zipIdx.map (fun p => head (p.2 + 2) 0x04 (sample p.1)))

/-! ### Pins that channels drive (07 R571) -/

/-- An item that becomes current starts the drive of its OUT_PIN at the idle level; the ball's change to it is no unexpected edge. -/
def Dev.startDrive (d : Dev) (c : Nat) (i : ChItem) : Dev :=
  if i.outEn && d.pinOut i.outPin c && (d.pin i.outPin).chLvl.isNone then
    d.setPin i.outPin { d.pin i.outPin with chLvl := some i.idle, placed := some d.t8 }
  else d

/-! ### Life of an item (04 R118 to R122) -/

/-- A waiting DISARM completes (04 R121, 09 R316). -/
def Dev.disarmDone (d : Dev) (w : Disarm) : Dev :=
  d.finishAt w.cmd 0 w.gen d.ns [byt 22 2 w.gen, byt 24 1 w.fails, (200, 1, w.trunc.toNat)]

/-- An item becomes current (04 R116, R119, R122). -/
def Dev.become (d : Dev) (c : Nat) (i : ChItem) : Dev :=
  let ch := d.chan c
  (d.startDrive c i).setChan c { ch with
    cur := some i, shown := i, since := d.t8, cstate := if i.pinForm then 2 else if i.positioned && d.axSuspended i.axis then 3 else 1, prog := 0, auditErr := false, rate := false,
    gateOpen := false, held := false, started := false, placed := false, endSet := false, closeT := none, k := 0, inCnt := 0, ticks := 0, short := false,
    jump := none, mSel := none, mOpp := none, mFrom := d.el8, mOut := false, full := false, drv := false, load := none }

/-- A channel with no current item: one that a DISARM drains waits for what is begun; else the queued item becomes current, or IDLE; what
waits for that completes (04 R121, R122). -/
def Dev.settle (d : Dev) (c : Nat) : Dev :=
  let ch := d.chan c
  if ch.cur.isSome || ch.cstate == 0 then d
  else if ch.cstate == 4 && d.begunLeft c then d
  else
    let d1 := match ch.queued with
      | some i => (d.setChan c { ch with queued := none, waits := [] }).become c i
      | none => d.setChan c { ch with cstate := 0, waits := [] }
    ch.waits.foldl Dev.disarmDone d1

/-- The current item ends (04 R142): failed with a code, or completed. -/
def Dev.endItem (d : Dev) (c : Nat) (fail : Option Nat) : Dev :=
  let ch := d.chan c
  match ch.cur with
  | none => d
  | some i =>
    let d1 := match fail with
      | some code => d.failItem c i code false
      | none => d
    let past : Option Ended :=
      if i.mode = 4 then some { item := i, from_ := ch.since, until_ := d.t8, prog := ch.prog }
      else if i.mode = 5 ∧ ch.started then
        some { item := i, from_ := ch.startT, until_ := min (ch.closeT.getD d.t8) d.t8, prog := ch.prog }
      else none
    d1.setChan c { d1.chan c with cur := none, ended := past, gateOpen := false, held := false, jump := none, frozen := false }

/-! ### Checks of ARM (04 R117, R123 to R137) -/

/-- Bits of an item that must be 0 (04 R116). -/
def ChItem.reserved (i : ChItem) : Bool :=
  i.ctrl >>> 21 ≠ 0 || i.io >>> 25 ≠ 0 || cut i.xax 14 2 ≠ 0 || cut i.aux 5 11 ≠ 0 || cut i.aux 48 16 ≠ 0

/-- A field marked "—" for the mode is not 0 (04 R123). -/
def ChItem.stray (i : ChItem) : Bool :=
  match i.mode with
  | 1 | 9 => i.en ≠ 0 || i.tcap ≠ 0 || i.cnt ≠ 0 || i.width ≠ 0
  | 2 | 5 | 8 => i.cnt ≠ 0 || i.width ≠ 0
  | 3 | 7 => i.tcap ≠ 0
  | 4 => i.axis ≠ 0 || i.cmp ≠ 0 || i.en ≠ 0 || i.tcap ≠ 0 || i.cnt ≠ 0 || i.width ≠ 0
  | 6 => i.axis ≠ 0 || i.cmp ≠ 0 || i.en ≠ 0 || i.cnt ≠ 0 || i.width ≠ 0
  | _ => true

/-- The range checks of ARM for the item's mode (04 R117, R124, R126, R132 to R134): true where one fails. -/
def Dev.rangeBad (d : Dev) (i : ChItem) : Bool :=
  let on := i.axis == 0 || d.axOn i.axis
  let timed := on && d.axTimed i.axis
  i.reserved || i.stray || i.mode == 0 || i.mode > 9 || i.edgeIn == 3 || (i.mode == 1 && i.act == 3) ||
    (i.sub ≠ 0 && on && !timed) ||
    (match i.mode with
      | 2 => i.tcap == 0 || (!i.byTime && i.en ≤ i.cmp) || (i.byTime && i.en < 256)
      | 3 => i.width < 16 || (timed && (i.en < 32 || i.width + 16 > i.en)) || (on && !timed && i.en == 0)
      | 6 => i.edgeIn == 2
      | 7 => (if i.inEn then i.en == 0 || i.en ≥ 2 ^ 32 else on && i.en == 0) || (i.outEn && i.width < 256)
      | _ => false) ||
    ((i.mode == 4 || i.mode == 5) && i.ringEn && (i.sizeK == 0 || i.sizeK > 12 || i.ringBase + 2 ^ i.sizeK > 4096))

/-- AXIS or an axis of XAX is disabled, or its type is not permitted for the mode (04 R117, R123). -/
def Dev.axisBad (d : Dev) (i : ChItem) : Bool :=
  (i.axis :: i.xaxes).any (fun n => n ≠ 0 && !d.axOn n) || (i.mode == 3 && i.axis ≠ 0 && d.axType i.axis == 6)

/-- The crossbar does not connect a pin that the item names (04 R117, 07 R223). -/
def Dev.pinBad (d : Dev) (c : Nat) (i : ChItem) : Bool :=
  (i.outEn && !d.pinOut i.outPin c) || (i.inEn && d.flag TIO_PIN.IN_DIS i.inPin)

/-- The gate links of a channel's items, current and queued (04 R137). -/
def Dev.gateLinks (d : Dev) (c : Nat) : List Nat :=
  ([(d.chan c).cur, (d.chan c).queued].filterMap id).filterMap (fun i => if i.gated then some i.gateCh else none)

/-- The chain from channel n, `links` further links allowed, returns to channel c or runs on too long (04 R137). -/
def Dev.loops (d : Dev) (c : Nat) : Nat → Nat → Bool
  | 0, n => n == c || !(d.gateLinks n).isEmpty
  | k + 1, n => n == c || (d.gateLinks n).any (fun m => d.loops c k m)

/-- The berth of a capture ring is not for this user (04 R117): not granted, a spare or a staging berth. -/
def Dev.ringDenied (d : Dev) (i : ChItem) (granted : Nat → Bool) : Bool :=
  i.ringEn && (!granted i.berth || d.isSpare i.berth || d.staging i.berth)

/-- The status of an ARM after DENIED (04 R117). -/
def Dev.armCheck (d : Dev) (c : Nat) (i : ChItem) : Nat :=
  if d.rangeBad i then 1
  else if d.axisBad i then 2
  else if d.pinBad c i then 3
  else if i.gated && d.loops c 7 i.gateCh then 4
  else 0

/-! ### Predictions (04 R110, R111, R138) -/

/-- A position of an item in the units of `axPredict`: 1/8 ns on TIME and TIME_DERIVED axes. -/
def Dev.posOf (d : Dev) (i : ChItem) (v sub : Nat) : Nat := if d.axTimed i.axis then v * 8 + sub else v

/-- The position of pulse or tick k (04 R126, R134). -/
def Dev.pulsePos (d : Dev) (i : ChItem) (k : Nat) : Nat := d.posOf i i.cmp i.sub + k * i.en

/-- A position as a record gives it, in the native unit. -/
def Dev.native (d : Dev) (i : ChItem) (pos : Nat) : Nat := if d.axTimed i.axis then pos / 8 % 2 ^ 64 else pos % 2 ^ 64

/-- When an edge is due (04 R110, R111, R87): at a time, at once on a COUNT axis, or at once and late in axis units. -/
inductive Plan
  | at_ (t : Int)
  | reached
  | past (by_ : Nat)
deriving DecidableEq, Repr

/-- The plan of a position that has not begun and its prediction, moved earlier by ADVANCE where `adv`; none while it waits. -/
def Dev.planOf (d : Dev) (ch : Chan) (i : ChItem) (pos : Nat) (pred : Pred) (adv : Bool) : Option Plan :=
  let jumped := match ch.jump with
    | some (o, n) => if o < pos ∧ pos ≤ n then some (n - pos) else none
    | none => none
  match jumped with
  | some l => some (.past l)
  | none =>
    match pred with
    | .wait => none
    | .due t => some (.at_ (t - (if adv then 8 * i.adv else 0 : Nat)))
    | .passed => some (.past (d.axValue i.axis - d.native i pos))
    | .reached => some .reached

/-- The plan of a position of the item's axis. -/
def Dev.plan (d : Dev) (ch : Chan) (i : ChItem) (pos : Nat) (adv : Bool) : Option Plan := d.planOf ch i pos (d.axPredict i.axis pos) adv

/-- The provisional prediction of the item's start (03 R87). The 64 bytes of R116 have no field for it. -/
def Dev.provisional (d : Dev) (c : Nat) : Option Int :=
  match (d.chan c).cur with
  | some i =>
    if i.positioned && d.axType i.axis == 2 && !(d.chan c).started && decide (d.fld AX_CFG.SRC i.axis < 8) then
      d.wtProvisional (d.fld AX_CFG.SRC i.axis) (d.posOf i i.cmp i.sub)
    else none
  | none => none

/-- Where an edge is placed that commits at this visit: its time, LATE with its lateness; none where it waits (04 R110 to R113,
R115). -/
def Dev.place (d : Dev) (c : Nat) (p : Plan) (r115 : Bool) : Option (Nat × Bool × Nat × Bool) :=
  let ch := d.chan c
  let s := d.scanS c
  let soon := d.t8 + 3 * s
  let apart (t : Nat) : Nat := if r115 then (match ch.lastEdge with | some l => (max (t : Int) (l + s)).toNat | none => t) else t
  match p with
  | .at_ t =>
    if t ≥ d.t8 + d.horizon c then none
    else
      let x := apart (max t soon).toNat
      some (x, decide ((x : Int) > t), if (x : Int) > t then ceilDiv (x - t).toNat 8 else 0, false)
  | .reached => some (apart soon, decide (apart soon > soon), ceilDiv (apart soon - soon) 8, false)
  | .past by_ => some (apart soon, true, by_, true)

/-- A spare mirrors logical quay q and has copied its channels (04 R147). -/
def Dev.mirrored (d : Dev) (q : Nat) : Bool := match d.qy.subst with | some x => x.q == q && decide (2 ≤ x.phase) | none => false

/-- An edge enters the edge generator (04 R112, R113), and that of a mirroring spare (R147). -/
def Dev.addEdge (d : Dev) (e : Edge) : Dev :=
  let q := e.ch / 16
  let d1 := d.setQuay q { d.quay q with edges := (d.quay q).edges ++ [{ e with mir := d.mirrored q }] }
  let d0 := if e.item.mode = 9 then d1.waitxBind e.ch e.item.gen else d1
  let d2 := if (d.chan e.ch).full && !e.own then d0.count QY_LATE.FULL_CNT (d.physOf q) else d0
  d2.setChan e.ch { d2.chan e.ch with
    full := false, lastEdge := some (match (d2.chan e.ch).lastEdge with | some l => max l e.t | none => e.t) }

/-- The generator has a free slot for one more edge of channel c. -/
def Dev.slotFree (d : Dev) (c : Nat) : Bool := d.slotsUsed (c / 16) < 8

/-- A commitment finds no free slot (04 R113). -/
def Dev.noSlot (d : Dev) (c : Nat) : Dev := d.setChan c { d.chan c with full := true }

/-- The level that channel g held as a gate at the end of its latest slot (04 R136). -/
def Dev.gateHeld (d : Dev) (g : Nat) : Bool :=
  match (d.chan g).cur with
  | some i => i.mode == 8 && (d.chan g).cstate == 2 && (d.chan g).held
  | none => false

/-- The gate that the current item follows is open, or it follows none. -/
def Dev.gateOk (d : Dev) (i : ChItem) : Bool := !i.gated || d.gateHeld i.gateCh

/-! ### First edges and ends (04 R123 to R125, R131, R135) -/

/-- The level that an item's first edge drives. -/
def ChItem.firstLvl (i : ChItem) : Option Bool :=
  match i.mode with
  | 1 => if i.outEn then some (if i.act = 1 then i.idle else !i.idle) else none
  | 5 | 9 => none
  | _ => if i.outEn then some (!i.idle) else none

/-- The level that an item's end drives. -/
def ChItem.lastLvl (i : ChItem) : Option Bool :=
  match i.mode with
  | 1 | 5 | 9 => none
  | _ => if i.outEn then some i.idle else none

/-- The item's first edge commits where its visit has come (04 R110, R136); a closed gate fails the item. -/
def Dev.commitFirst (d : Dev) (c : Nat) (i : ChItem) : Dev :=
  let ch := d.chan c
  let pos := d.posOf i i.cmp i.sub
  match d.plan ch i pos true with
  | none => d
  | some p =>
    match d.place c p true with
    | none => d
    | some (t, late, by_, nat) =>
      if !d.gateOk i then (d.endItem c (some 3)).settle c
      else if !d.slotFree c then d.noSlot c
      else
        let d1 := d.addEdge {
          ch := c, item := i, role := .first, lvl := i.firstLvl, toggle := i.mode == 1 && i.act == 2, t := t,
          late := late, lateBy := by_, native := nat, due := d.native i pos }
        d1.setChan c { d1.chan c with
          started := true, startT := t, startEl := d.el8 + (t - d.t8), drv := i.mode == 8 && i.outEn
          cstate := if ch.cstate = 1 then 2 else ch.cstate }

/-- The end of an item by duration or time cap (04 R124, R131, R135): elapsed time, and whether it is the cap. -/
def Dev.timedEnd (ch : Chan) (i : ChItem) : Option (Nat × Bool) :=
  let cap := if i.tcap = 0 then none else some (ch.startEl + 8 * i.tcap)
  if i.byTime then
    match cap with
    | some x => if x < ch.startEl + i.en then some (x, true) else some (ch.startEl + i.en, false)
    | none => some (ch.startEl + i.en, false)
  else cap.map (fun x => (x, true))

/-- The end edge of an item that has begun commits where its visit has come: the first of its position, duration and cap. -/
def Dev.commitEnd (d : Dev) (c : Nat) (i : ChItem) : Dev :=
  let ch := d.chan c
  let byPos := if i.byTime || ch.cstate == 3 then none
    else (d.plan ch i (d.posOf i i.en 0) (i.lastLvl.isSome)).bind (fun p => d.place c p true)
  let byEl := (Dev.timedEnd ch i).bind (fun x => (d.place c (.at_ ((d.t8 : Int) + x.1 - d.el8)) true).map (fun y => (x, y)))
  let pick : Option (Bool × Nat × Nat × Bool × Nat × Bool) :=
    match byPos, byEl with
    | some p, some ((x, cap), y) =>
      if y.1 < p.1 then some (cap, (d.t8 + x - d.el8) / 8, y) else some (false, d.native i (d.posOf i i.en 0), p)
    | some p, none => some (false, d.native i (d.posOf i i.en 0), p)
    | none, some ((x, cap), y) => some (cap, (d.t8 + x - d.el8) / 8, y)
    | none, none => none
  match pick with
  | none => d
  | some (cap, due, t, late, by_, nat) =>
    if !d.slotFree c then d.noSlot c
    else
      let d1 := d.addEdge {
        ch := c, item := i, role := .last, lvl := i.lastLvl, t := t, late := late, lateBy := by_, native := nat,
        capped := cap, due := due }
      d1.setChan c { d1.chan c with endSet := true, closeT := some t }

/-! ### TRAIN (04 R126 to R129) -/

/-- The angle model that a train's slot is loaded from (04 R127): a tracker's in SYNC, or a REMOTE axis's, while it predicts. -/
def Dev.trainModel (d : Dev) (i : ChItem) : Option AngleModel :=
  let src := d.fld AX_CFG.SRC i.axis
  let runs (a : AngleModel) (on : Bool) : Option AngleModel := if on && a.p != 0 && !a.rev then some a else none
  if i.axis = 0 ∨ ¬ d.axOn i.axis then none
  else
    match d.axType i.axis with
    | 2 => runs (d.wtModel src) (decide (src < 8) && d.fld WT_STATUS.STATE src == 3 && !d.flag WT_STATUS.STALL src)
    | 5 =>
      let r := (d.axis i.axis).remote
      runs r.model (r.typ == 2 && r.seen && !r.absent && !r.stale && r.quality != 3 && !r.stall && !r.rev && r.slewLeft d.elNs == 0)
    | _ => none

/-- Where pulse k lies beyond the tooth of the load, in 2^-24 micro-ticks (04 R127): x0 of the load's first pulse by R85, then Δ a pulse,
unrounded. -/
def Dev.trainX (d : Dev) (a : AngleModel) (ch : Chan) (i : ChItem) (k : Nat) : Int :=
  let k0 := match ch.load with | some (tk, j) => if tk = a.tk ∧ j ≤ k then j else k | none => k
  a.target (d.pulsePos i k0) * 2 ^ 24 + ((k - k0) * i.en * a.n * a.micro : Nat)

/-- The time of a place in 2^-24 micro-ticks beyond a tooth, 1/8 ns. -/
def AngleModel.timeFine (a : AngleModel) (x : Nat) : Int := near8 (a.tk + a.timeAt x (a.micro * 2 ^ 24))

/-- The prediction of pulse k (04 R127): on an angle, from the load of the train's slot. -/
def Dev.trainPredict (d : Dev) (ch : Chan) (i : ChItem) (k : Nat) : Pred :=
  let pred := d.axPredict i.axis (d.pulsePos i k)
  match d.trainModel i with
  | none => pred
  | some a =>
    let x := d.trainX a ch i k
    if pred = .passed ∨ x ≤ 0 then .passed
    else if x ≤ (a.l * a.micro * 2 ^ 24 : Nat) then .due (a.timeFine x.toNat)
    else .wait

/-- The time at which the axis model puts pulse k, whether or not a descriptor reaches it (04 R127, R128). -/
def Dev.trainTime (d : Dev) (ch : Chan) (i : ChItem) (k : Nat) : Option Int :=
  let pos := d.pulsePos i k
  let pulse (a : Axis) : Option Int :=
    if a.pk = 0 ∨ a.u = 0 then none else some (a.tk + ((pos : Int) - a.v) * 65536 * a.pk / a.u)
  match d.trainModel i with
  | some a => let x := d.trainX a ch i k; if x < 0 then none else some (a.timeFine x.toNat)
  | none =>
    match d.axPredict i.axis pos, d.axType i.axis with
    | .due t, _ => some t
    | _, 3 | _, 4 => pulse (d.axis i.axis)
    | _, 5 => if (d.axis i.axis).remote.typ = 2 then none else pulse (d.axis i.axis).remote.pulse
    | _, _ => none

/-- The converted period before pulse k (04 R127, R128), 1/8 ns. -/
def Dev.trainPeriod (d : Dev) (ch : Chan) (i : ChItem) (k : Nat) : Option Int :=
  match d.trainTime ch i (k - 1), d.trainTime ch i k with
  | some a, some b => some (b - a)
  | _, _ => none

/-- A descriptor that the train's slot has not been loaded from loads it (04 R127). -/
def Dev.trainLoad (d : Dev) (c : Nat) (i : ChItem) : Dev :=
  let ch := d.chan c
  match d.trainModel i with
  | some a =>
    let now : Bool := match ch.load with | some (tk, _) => tk == a.tk | none => false
    if now then d else d.setChan c { ch with load := some (a.tk, ch.k) }
  | none => d

/-- One pulse of a train is committed: its start and its end share the train's slot (04 R113, R128). -/
def Dev.addPulse (d : Dev) (c : Nat) (i : ChItem) (k t : Nat) (late : Bool) (by_ : Nat) (nat : Bool) : Dev :=
  let ch := d.chan c
  let pos := d.pulsePos i k
  let period := if i.cnt ≠ 0 ∧ k + 1 ≥ i.cnt then none else (d.trainPeriod ch i (k + 1)).map (fun p => max 32 p.toNat)
  let w := match period with
    | some p => if p < i.width + 16 then p - 16 else i.width
    | none => i.width
  let short := ch.short || decide (w < i.width)
  let e : Edge := {
    ch := c, item := i, role := .first, lvl := i.firstLvl, t := t, late := late, lateBy := by_, native := nat,
    short := short, k := k, due := d.native i pos }
  let d1 := (d.addEdge e).addEdge { e with
    role := .last, lvl := i.lastLvl, t := t + w, late := false, lateBy := 0, native := false,
    due := (t + w) / 8 }
  d1.setChan c { d1.chan c with
    started := true, startT := t, k := k + 1, short := short,
    cstate := if (d1.chan c).cstate = 1 then 2 else (d1.chan c).cstate }

/-- The item completes at this slot with no edge that could report it: the fire source rises here, with the due position of pulse or tick k
(04 R136, R142). -/
def Dev.completeNow (d : Dev) (c : Nat) (i : ChItem) (k : Nat) : Dev :=
  ((d.fire { ch := c, item := i, role := .last, t := d.t8, due := d.native i (d.pulsePos i k), short := (d.chan c).short } true true).endItem
    c none).settle c

/-- A pulse or tick that a closed gate skips; the last one completes the item (04 R136). -/
def Dev.skip (d : Dev) (c : Nat) (i : ChItem) (k : Nat) : Dev :=
  let ch := d.chan c
  let d1 := d.setChan c { ch with miss := min 255 (ch.miss + 1), k := k + 1 }
  if i.cnt ≠ 0 ∧ k + 1 ≥ i.cnt then d1.completeNow c i k else d1

/-- An UPDATE has lowered COUNT to what has begun, and nothing begun is left: the item completes (04 R120; DEDUCED, log 37). -/
def Dev.allBegun (d : Dev) (c : Nat) (i : ChItem) : Bool := i.cnt != 0 && decide (i.cnt ≤ (d.chan c).k) && !d.hasEdges c

/-- The pulses of a running train that begin before the visit's horizon (04 R126 to R129, R136). -/
def Dev.trainFill (d : Dev) (c : Nat) (i : ChItem) : Nat → Dev
  | 0 => d
  | n + 1 =>
    let ch := d.chan c
    if (i.cnt ≠ 0 ∧ ch.k ≥ i.cnt) ∨ ch.cur ≠ some i then d
    else
      match d.planOf ch i (d.pulsePos i ch.k) (d.trainPredict ch i ch.k) true with
      | none => d
      | some p =>
        let due : Option (Int × Option Nat) := match p with
          | .at_ t => if t ≥ d.t8 + d.horizon c then none else some (t, none)
          | .reached => some (d.t8, none)
          | .past l => some (d.t8, some l)
        match due with
        | none => d
        | some (t, native) =>
          if !d.gateOk i then (d.skip c i ch.k).trainFill c i n
          else
            let least := max (ch.startT + 32) (ch.lastEdge.getD 0 + 16)
            let rate : Bool := match d.trainPeriod ch i ch.k with | some p => native.isNone && decide (p < 32) | none => false
            let x := (max (max t d.t8) least).toNat
            let late := native.isSome || decide ((x : Int) > t)
            let by_ := match native with | some l => l | none => ceilDiv (x - t).toNat 8
            let d1 := if rate then d.setChan c { ch with rate := true } else d
            (d1.addPulse c i ch.k x late by_ native.isSome).trainFill c i n

/-- The visit of a TRAIN. -/
def Dev.visitTrain (d0 : Dev) (c : Nat) (i : ChItem) : Dev :=
  let d := d0.trainLoad c i
  if d.allBegun c i then d.completeNow c i ((d.chan c).k - 1)
  else if (d.chan c).started then d.trainFill c i 80
  else
    match d.planOf (d.chan c) i (d.pulsePos i 0) (d.trainPredict (d.chan c) i 0) true with
    | none => d
    | some p =>
      match d.place c p false with
      | none => d
      | some (t, late, by_, nat) =>
        if !d.gateOk i then (d.endItem c (some 3)).settle c
        else if !d.slotFree c then d.noSlot c
        else (d.addPulse c i 0 t late by_ nat).trainFill c i 80

/-! ### DIVIDE in the axis form (04 R134) -/

/-- A tick of the axis form commits; with OUT_EN its pulse's end follows (04 R134). -/
def Dev.visitDivide (d : Dev) (c : Nat) (i : ChItem) : Dev :=
  let ch := d.chan c
  if d.allBegun c i then d.completeNow c i (ch.k - 1)
  else if i.cnt ≠ 0 ∧ ch.k ≥ i.cnt then d
  else
    let pos := d.pulsePos i ch.k
    match d.plan ch i pos true with
    | none => d
    | some p =>
      match d.place c p true with
      | none => d
      | some (t, late, by_, nat) =>
        if !d.gateOk i then (if ch.started then d.skip c i ch.k else (d.endItem c (some 3)).settle c)
        else if !d.slotFree c then d.noSlot c
        else
          let d1 := d.addEdge {
            ch := c, item := i, role := .tick, lvl := i.firstLvl, t := t, late := late, lateBy := by_,
            native := nat, k := ch.k, due := d.native i pos }
          let x := d1.chan c
          d1.setChan c { x with
            started := true, k := ch.k + 1, cstate := if x.cstate = 1 then 2 else x.cstate,
            tails := if i.outEn then x.tails ++ [{ item := i, el := d.el8 + (t - d.t8) + i.width, start := false }] else x.tails }

/-- The edges of tick pulses whose visit has come (04 R134): an end follows its start by WIDTH. -/
def Dev.visitTails (d : Dev) (c : Nat) : Dev :=
  (d.chan c).tails.foldl (fun e x =>
    match e.place c (.at_ ((e.t8 : Int) + x.el - e.el8)) true with
    | none => e
    | some (t, late, by_, _) =>
      if !e.slotFree c then e.noSlot c
      else
        let e1 := e.addEdge {
          ch := c, item := x.item, role := .tail, lvl := some (if x.start then !x.item.idle else x.item.idle),
          t := t, late := late, lateBy := by_ }
        let ts := (e1.chan c).tails.erase x
        e1.setChan c { e1.chan c with
          tails :=
          if x.start then ts ++ [{ item := x.item, el := e.el8 + (t - e.t8) + x.item.width, start := false }] else ts }) d

/-! ### Pulses on axes (02 R52 to R58) and the events that they pass (02 R53, 03 R93) -/

/-- The positions of channel c's events that have not begun. -/
def Dev.unbegun (d : Dev) (c : Nat) (i : ChItem) : List Nat :=
  let ch := d.chan c
  match i.mode with
  | 1 | 9 => if ch.started then [] else [d.posOf i i.cmp i.sub]
  | 2 | 5 | 8 =>
    (if ch.started then [] else [d.posOf i i.cmp i.sub]) ++ (if ch.endSet || i.byTime then [] else [d.posOf i i.en 0])
  | 3 | 7 => if i.cnt ≠ 0 ∧ ch.k ≥ i.cnt then [] else [d.pulsePos i ch.k]
  | _ => []

/-- The value of axis n has jumped from `o` to `v`: the events between fire at the next visit (02 R53, 03 R93). The lateness of
the lowest of them, if there is one. -/
def Dev.jumpAxis (d : Dev) (n o v : Nat) : Dev × Option Nat :=
  d.qy.chans.foldl (fun (acc : Dev × Option Nat) e =>
    match e.2.cur with
    | none => acc
    | some i =>
      if i.positioned && i.axis == n && (e.2.cstate == 1 || e.2.cstate == 2) then
        let hit := (acc.1.unbegun e.1 i).filter (fun p => o < p ∧ p ≤ v)
        match hit with
        | [] => acc
        | p :: _ =>
          let ch := acc.1.chan e.1
          (acc.1.setChan e.1 { ch with jump := some ((match ch.jump with | some (x, _) => min x o | none => o), v) },
            some (max (acc.2.getD 0) (v - p)))
      else acc) (d, none)

/-- A pulse of DISTANCE or LINE axis n at a time (1/8 ns), backward where the direction input says so (02 R52 to R56). -/
def Dev.axPulse (d : Dev) (n : Nat) (t : Int) (backward : Bool) : Dev :=
  let a := d.axis n
  let u := d.axUnit n
  let fwdOnly := d.axType n = 3 ∧ d.flag AX_CFG.DIR_EN n ∧ d.flag AX_CFG.DMODE n
  let old := d.axValue n
  let step : Axis :=
    { a with v := (a.v + (a.frac + u) / 65536) % 2 ^ 64, frac := (a.frac + u) % 65536 }
  let a1 : Axis :=
    if fwdOnly ∧ backward then { a with backlog := min (a.backlog + 1) 0xFFFFFFFF }
    else if fwdOnly ∧ a.backlog ≠ 0 then { a with backlog := a.backlog - 1 }
    else step
  let a2 : Axis := { a1 with
    hold := max a.hold old, tk := t, pk := if a.pulses = 0 then 0 else (t - a.tk).toNat, u := u, pulses := a.pulses + 1, stalled := false,
    reverse := d.flag AX_CFG.DIR_EN n && backward }
  ((d.setAxis n a2).jumpAxis n old (max a2.hold a2.v)).1.pubTooth n

/-- A tick of DIVIDE channel c at a time advances the LINE axes that name it (02 R52, 04 R134). -/
def Dev.divideTick (d : Dev) (c t : Nat) : Dev :=
  ((upto 16).filter (fun n => n ≠ 0 && d.axOn n && d.axType n == 4 && d.fld AX_CFG.SRC n == c)).foldl (fun e n => e.axPulse n t false) d

/-! ### Inputs (04 R130 to R134) -/

/-- EDGE_IN selects a transition. -/
def ChItem.selects (i : ChItem) (lvl : Bool) : Bool := i.edgeIn == 2 || (i.edgeIn == 0) == lvl

/-- The entry of a capture ring (04 R133). -/
def ringEntry (i : ChItem) (e : InEdge) (prog : Nat) : List Byte :=
  bytesOf (pack [byt 0 8 (e.t / 8), (64, 3, e.t % 8), (67, 1, (!e.lvl).toNat), byt 10 2 i.gen, (96, 29, prog)]) 16

/-- A capture of an item: the ring entry, LAST and the capture source (04 R130, R133, 11 R367). A WR_IDX that ARM gave beyond the ring counts
modulo its size (DESIGN CHOICE, log 69: the spec gives it no range). -/
def Dev.capture (d : Dev) (c : Nat) (i : ChItem) (e : InEdge) (prog : Nat) : Dev :=
  let d1 :=
    if i.ringEn then
      if d.ringRefused i.berth then d.count QY_DIAG.RING_LOST (d.physOf (c / 16))
      else
        let a := i.berth * 65536 + 16 * (i.ringBase + i.wrIdx % 2 ^ i.sizeK)
        match d.portWrite true a (ringEntry i e prog) with
        | (false, x) => x
        | (true, x) => (x.count QY_DIAG.RING_COLL (d.physOf (c / 16))).berthWrite a (ringEntry i e prog)
    else d
  let ch := d1.chan c
  let d2 := d1.setChan c { ch with last := e.t / 8, lastSub := e.t % 8 }
  d2.raiseRecs (3 * c + 1) (d2.captureRecs c i e prog) false

/-- An item with its ring index advanced. -/
def ChItem.ringNext (i : ChItem) : ChItem :=
  if i.ringEn then { i with aux := put i.aux 32 16 ((i.wrIdx + 1) % 2 ^ i.sizeK) } else i

/-- A MEASURE report (04 R132, 08 R274). -/
def Dev.measured (d : Dev) (c : Nat) (i : ChItem) (time width period : Nat) (timeout : Bool) : Dev :=
  let ch := d.chan c
  let prog := (ch.prog + 1) % 2 ^ 29
  let w := min width 0xFFFFFFFF
  let p := min period 0xFFFFFFFF
  let d1 := d.setChan c { ch with prog := prog, last := w + p * 2 ^ 32, lastSub := 0 }
  d1.raiseRecs (3 * c + 1) [d1.recAt 0x05 (3 * c + 1) i.gen time [(128, 1, timeout.toNat), (136, 4, i.mode), (140, 4, i.axis),
    byt 18 2 prog, byt 20 4 w, byt 24 4 p]] false

/-- One input transition of the current item at its scan slot; `taken` once this visit has taken a capture (04 R130 to R136). -/
def Dev.takeInput (d : Dev) (c : Nat) (i : ChItem) (taken : Bool) (e : InEdge) : Dev × Bool :=
  let ch := d.chan c
  let missed : Chan := { ch with miss := min 255 (ch.miss + 1) }
  let shut := !d.gateOk i
  match i.mode with
  | 4 | 5 =>
    let inside := i.mode == 4 || (ch.started && ch.startT ≤ e.at8 && (match ch.closeT with | some x => e.at8 < x | none => true))
    if inside && i.selects e.lvl then
      let prog := (ch.prog + 1) % 2 ^ 29
      if ch.frozen || shut || taken then (d.setChan c { missed with prog := prog }, taken)
      else
        let d1 := (d.setChan c { ch with prog := prog }).capture c i e prog
        let x := d1.chan c
        (d1.setChan c { x with cur := x.cur.map ChItem.ringNext, shown := x.shown.ringNext }, true)
    else (d, taken)
  | 6 =>
    let sel := i.selects e.lvl
    if ch.frozen || shut then (if sel then (d.setChan c missed, taken) else (d, taken))
    else if sel then
      let d1 := d.setChan c { ch with mSel := some e.el, mFrom := e.el, mOut := false }
      match ch.mSel with
      | none => (d1, taken)
      | some prev =>
        let w := match ch.mOpp with | some o => if o > prev then o - prev else 0 | none => 0
        (d1.measured c i (e.t / 8) w (e.el - prev) false, taken)
    else (d.setChan c { ch with mOpp := some e.el }, taken)
  | 7 =>
    if i.selects e.lvl && !(i.cnt ≠ 0 && ch.ticks ≥ i.cnt) then
      if ch.frozen || shut then (d.setChan c missed, taken)
      else if ch.inCnt + 1 < i.en then (d.setChan c { ch with inCnt := ch.inCnt + 1 }, taken)
      else
        let final := i.cnt ≠ 0 && ch.ticks + 1 ≥ i.cnt
        let tails := if i.outEn then ch.tails ++ [{ item := i, el := d.el8 + 3 * d.scanS c, start := true }] else ch.tails
        let d1 := (d.setChan c { ch with
          inCnt := 0, ticks := ch.ticks + 1, prog := (ch.prog + 1) % 2 ^ 29, last := e.t / 8,
          lastSub := e.t % 8, started := true, cstate := if ch.cstate = 1 then 2 else ch.cstate, tails := tails }).divideTick c e.t
        let d2 := if final || i.tickEv then
            d1.fire { ch := c, item := i, role := .tick, t := e.t, due := e.t / 8 } final final
          else d1
        (if final then (d2.endItem c none).settle c else d2, taken)
    else (d, taken)
  | _ => (d, taken)

/-- An input transition of an item that has ended, timestamped before its end (04 R131, R145); `taken` once this visit has taken a capture,
so that a further one is dropped (R130). -/
def Dev.takeEnded (d : Dev) (c : Nat) (x : Ended) (taken : Bool) (e : InEdge) : Dev × Bool :=
  if x.from_ ≤ e.at8 ∧ e.at8 < x.until_ ∧ x.item.selects e.lvl then
    let prog := (x.prog + 1) % 2 ^ 29
    let d1 := if taken then d.setChan c { d.chan c with miss := min 255 ((d.chan c).miss + 1) } else d.capture c x.item e prog
    let it := if taken then x.item else x.item.ringNext
    let ch := d1.chan c
    (d1.setChan c { ch with
      ended := some { x with prog := prog, item := it },
      prog := if ch.cur.isNone then prog else ch.prog, shown := if ch.cur.isNone then it else ch.shown }, true)
  else (d, taken)

/-- The input transitions that wait for this visit (04 R109, R130). -/
def Dev.takeInputs (d : Dev) (c : Nat) : Dev :=
  let ins := (d.chan c).inputs
  (ins.foldl (fun (acc : Dev × Bool) e =>
    let ch := acc.1.chan c
    match ch.cur, ch.ended with
    | some i, past =>
      if i.inEn ∧ ch.since ≤ e.at8 then acc.1.takeInput c i acc.2 e
      else match past with
        | some x => acc.1.takeEnded c x acc.2 e
        | none => acc
    | none, some x => acc.1.takeEnded c x acc.2 e
    | none, none => acc) (d.setChan c { d.chan c with inputs := [] }, false)).1

/-! ### Gates (04 R135) -/

/-- The filtered level of a pin as its consumers see it (07 R225). -/
def Dev.pinLvl (d : Dev) (n : Nat) : Bool := (d.pin n).filt

/-- The level of a GATE at its visit (04 R135, R136): its own term ANDed with the gate upstream. A change counts at once; a driven gate
commits it as an edge, which raises the fire source where it is placed, and an undriven one raises it at this slot (DESIGN CHOICE, log 69). -/
def Dev.visitGate (d : Dev) (c : Nat) (i : ChItem) : Dev :=
  let ch := d.chan c
  let own := if i.inEn then d.pinLvl i.inPin ≠ i.idle else ch.placed
  let lvl := own && d.gateOk i
  let turned (x : Dev) : Dev := x.setChan c { ch with gateOpen := lvl, prog := (ch.prog + 1) % 2 ^ 29 }
  let e : Edge := { ch := c, item := i, role := .level lvl, t := d.t8, due := d.ns }
  if ch.cstate ≠ 2 then d
  else
    let d1 := if lvl = ch.gateOpen then d else if i.outEn then turned d else (turned d).fire e (!lvl) false
    if !i.outEn ∨ ch.drv = lvl then d1
    else
      match d1.place c .reached true with
      | none => d1
      | some (t, late, by_, _) =>
        if !d1.slotFree c then d1.noSlot c
        else
          (d1.setChan c { d1.chan c with drv := lvl }).addEdge
            { e with lvl := some (if lvl then !i.idle else i.idle), t := t, late := late, lateBy := by_, due := t / 8 }

/-! ### The visit (04 R109 to R115) -/

/-- The closing edge of a cut item (04 R121): at this slot + 3S, no earlier than S after the channel's latest edge, in no slot. -/
def Dev.closeNow (d : Dev) (c : Nat) (i : ChItem) (done : Bool) : Dev :=
  let soon := d.t8 + 3 * d.scanS c
  let t := match (d.chan c).lastEdge with | some l => (max (soon : Int) (l + d.scanS c)).toNat | none => soon
  d.addEdge { ch := c, item := i, role := .closing done, lvl := i.lastLvl, t := t, own := true, due := t / 8 }

/-- A closing edge that a truncation owes. -/
def Dev.placeOwed (d : Dev) (c : Nat) : Dev :=
  let ch := d.chan c
  match ch.owed with
  | none => d
  | some i => (d.setChan c { ch with owed := none }).closeNow c i false

/-- The current item's next edge. -/
def Dev.visitItem (d : Dev) (c : Nat) (i : ChItem) : Dev :=
  let ch := d.chan c
  let live := ch.cstate == 1 || ch.cstate == 2
  match i.mode with
  | 1 | 9 => if live && !ch.started then d.commitFirst c i else d
  | 2 | 5 | 8 =>
    if i.mode == 8 && i.inEn then d
    else if !ch.started then (if live then d.commitFirst c i else d)
    else if !ch.endSet then d.commitEnd c i else d
  | 3 => if live then d.visitTrain c i else d
  | 7 =>
    if !live then d
    else if !i.inEn then d.visitDivide c i
    else if i.cnt ≠ 0 ∧ i.cnt ≤ ch.ticks then
      ((d.fire { ch := c, item := i, role := .tick, t := 8 * ch.last + ch.lastSub, due := ch.last } true true).endItem c none).settle c
    else d
  | _ => d

/-- The scan rate changes at the ends of rounds (13 R460). -/
def Dev.scanRound (d : Dev) (c : Nat) : Dev :=
  let q := c / 16
  let x := d.quay q
  if c % 16 = 0 then
    if d.operate then (if x.half ∨ x.round then d.setQuay q { x with half := false, round := false } else d)
    else if !x.half then d.setQuay q { x with round := true } else d
  else d

/-- The round before STEADY's rate ends with index 15 (13 R460). -/
def Dev.scanRoundEnd (d : Dev) (c : Nat) : Dev :=
  let q := c / 16
  let x := d.quay q
  if c % 16 = 15 ∧ x.round then d.setQuay q { x with half := true, round := false } else d

/-- GATE_OPEN of a gated channel that is no GATE is the level last seen (04 R116). -/
def Dev.seeGate (d : Dev) (c : Nat) : Dev :=
  match (d.chan c).cur with
  | some i => if i.gated && i.mode ≠ 8 then d.setChan c { d.chan c with gateOpen := d.gateHeld i.gateCh } else d
  | none => d

/-- The visit of channel c by its quay's scan engine. -/
def Dev.visit (d : Dev) (c : Nat) : Dev :=
  let d1 := ((d.scanRound c).seeGate c).takeInputs c
  if (d1.chan c).frozen then d1.scanRoundEnd c
  else
    let d2 := (d1.placeOwed c).visitTails c
    let d3 := match (d2.chan c).cur with
      | some i => d2.visitItem c i
      | none => d2.settle c
    let d4 := match (d3.chan c).cur with
      | some i => if i.mode == 8 then d3.visitGate c i else d3
      | none => d3
    (d4.setChan c { d4.chan c with held := (d4.chan c).gateOpen }).scanRoundEnd c

/-! ### ARM, UPDATE, DISARM at the scan slot (04 R117 to R121) -/

/-- An endless train or divider has completed: its last committed edge reports that, or, with none left, the fire source at this slot (04
R119, R142). -/
def Dev.markFin (d : Dev) (c : Nat) (i : ChItem) : Dev :=
  let q := d.quay (c / 16)
  let last := (q.edges.filter (fun e => e.ch == c && e.item.gen == i.gen && (e.role == .last || e.role == .tick))).getLast?
  if last.isNone then
    d.fire { ch := c, item := i, role := .last, t := d.t8, due := d.native i (d.pulsePos i ((d.chan c).k - 1)), short := (d.chan c).short } true true
  else d.setQuay (c / 16) { q with edges := q.edges.map (fun e => if some e = last then { e with fin := true } else e) }

/-- The next GEN of a channel (04 R118). -/
def nextGen (g : Nat) : Nat := if g ≥ 0xFFFF then 1 else g + 1

/-- An ARM that has passed its checks takes effect (04 R118, R119). -/
def Dev.armDo (d : Dev) (c : Nat) (body : ChItem) : Dev :=
  let ch := d.chan c
  let i : ChItem := { body with gen := nextGen ch.gen }
  let d1 := (d.setChan c { ch with gen := i.gen }).setFld SYS_MODE.ARMED 1
  let replaced (e : Dev) : Dev :=
    match (e.chan c).queued with
    | some old => (e.failItem c old 2 true).setChan c { e.chan c with queued := none }
    | none => e
  let queue (e : Dev) : Dev := let e1 := replaced e; e1.setChan c { e1.chan c with queued := some i }
  match ch.cur with
  | none => if ch.cstate = 4 then queue d1 else d1.become c i
  | some old =>
    if ch.cstate = 1 ∨ ch.cstate = 3 then (replaced (d1.endItem c (some 2))).become c i
    else if ch.cstate = 2 ∧ old.openEnded then
      let d2 := if old.mode = 3 ∧ ch.started then (d1.trainFill c old 80).markFin c old
        else if old.mode = 7 ∧ ch.started then d1.markFin c old
        else d1
      (replaced (d2.endItem c none)).become c i
    else queue d1

/-- ARM: the status, and the part (04 R117 to R119). -/
def Dev.arm (d : Dev) (c : Nat) (body : ChItem) : Nat × Dev :=
  match d.armCheck c body with
  | 0 => (0, d.armDo c body)
  | s => (s, d)

/-- The item with the fields that UPDATE names replaced (04 R120). -/
def ChItem.updated (i b : ChItem) (fields : Nat) : ChItem :=
  { i with
    cmp := if bit fields 0 then b.cmp else i.cmp
    ctrl := if bit fields 1 then put i.ctrl 8 3 b.sub else i.ctrl
    en := if bit fields 2 then b.en else i.en
    tcap := if bit fields 3 then b.tcap else i.tcap
    adv := if bit fields 4 then b.adv else i.adv
    cnt := if bit fields 5 then b.cnt else i.cnt
    width := if bit fields 6 then b.width else i.width }

/-- UPDATE: the status, and the part (04 R120, 09 R314). -/
def Dev.update (d : Dev) (c : Nat) (body : ChItem) (fields : Nat) : Nat × Dev :=
  let ch := d.chan c
  if cut fields 7 4 ≠ 0 then (5, d)
  else
    match ch.cur with
    | none => (6, d)
    | some i =>
      let n := i.updated body fields
      if fields = 0 ∨ cut fields 11 5 ≠ 0 ∨ d.rangeBad n then (1, d)
      else (0, d.setChan c { ch with cur := some n, shown := n })

/-- What DISARM does to the current item (04 R121): the part, items failed DISARMED, and whether a pulse was truncated. What has begun runs
on as the current item. -/
def Dev.disarmCur (d : Dev) (c : Nat) (i : ChItem) (trunc : Bool) : Dev × Nat × Bool :=
  let ch := d.chan c
  let failed : Dev × Nat × Bool := (d.endItem c (some 1), 1, false)
  match i.mode with
  | 1 | 9 => if ch.started then (d, 0, false) else failed
  | 2 =>
    if !ch.started then failed
    else if ch.endSet || !trunc then (d, 0, false)
    else ((d.closeNow c i false).endItem c (some 4), 0, true)
  | 5 | 8 =>
    if i.mode = 8 ∧ i.inEn then
      if !ch.gateOpen then failed
      else
        let d1 := d.setChan c { ch with gateOpen := false, held := false, prog := (ch.prog + 1) % 2 ^ 29, endSet := true }
        if trunc then (((if i.outEn then d1.closeNow c i false else d1)).endItem c (some 4), 0, false)
        else if i.outEn then (d1.closeNow c i true, 0, false)
        else ((d1.fire { ch := c, item := i, role := .last, t := d.t8, due := d.ns } true true).endItem c none, 0, false)
    else if !ch.started then failed
    else if ch.endSet then (d, 0, false)
    else
      let shut := ch.gateOpen && i.mode == 8
      let d1 := d.setChan c { ch with
        closeT := some (d.t8 : Int), endSet := true, gateOpen := false, held := false,
        prog := if shut then (ch.prog + 1) % 2 ^ 29 else ch.prog }
      let drives := i.lastLvl.isSome
      if trunc then ((if drives then d1.closeNow c i false else d1).endItem c (some 4), 0, false)
      else if drives then (d1.closeNow c i true, 0, false)
      else ((d1.fire { ch := c, item := i, role := .last, t := d.t8, due := d.ns } true true).endItem c none, 0, false)
  | 3 =>
    if !ch.started then failed
    else
      let d1 := d.trainFill c i 80
      if (d1.chan c).cur.isNone then (d1, 0, false)
      else if i.cnt ≠ 0 ∧ (d1.chan c).k ≥ i.cnt then (d1, 0, false)
      else (d1.endItem c (some 1), 1, false)
  | 7 => if !i.inEn ∧ i.cnt ≠ 0 ∧ ch.k ≥ i.cnt then (d, 0, false) else failed
  | _ => failed

/-- DISARM (04 R121): the part, the GEN of the current item, items failed DISARMED, and whether a pulse was truncated. -/
def Dev.disarm (d : Dev) (c : Nat) (trunc : Bool) : Dev × Nat × Nat × Bool :=
  let ch := d.chan c
  let gen := match ch.cur with | some i => i.gen | none => ch.shown.gen
  let (d1, n1) := match ch.queued with
    | some i => ((d.failItem c i 1 true).setChan c { d.chan c with queued := none }, 1)
    | none => (d, 0)
  match ch.cur with
  | none => (d1.settle c, gen, n1, false)
  | some i =>
    let (d2, n2, tr) := d1.disarmCur c i trunc
    let d3 := if d2.begunLeft c then d2.setChan c { d2.chan c with cstate := 4 } else d2
    (d3.settle c, gen, n1 + n2, tr)

/-- A frozen channel's item ends with a DISARM as DISARMED (13 R453). -/
def Dev.disarmAny (d : Dev) (c : Nat) (trunc : Bool) : Dev × Nat × Nat × Bool :=
  let ch := d.chan c
  if ch.frozen ∧ ch.cur.isSome then
    let gen := match ch.cur with | some i => i.gen | none => 0
    let (d1, n1) := match ch.queued with
      | some i => ((d.failItem c i 1 true).setChan c { d.chan c with queued := none }, 1)
      | none => (d, 0)
    (((d1.endItem c (some 1))).settle c, gen, n1 + 1, false)
  else d.disarm c trunc

/-! ### Reversal and fault (03 R97, R100, 04 R140) -/

/-- The item of channel c is cut off: an open pulse is truncated and the item fails with a code (03 R97, 04 R140). -/
def Dev.cutOff (d : Dev) (c : Nat) (i : ChItem) (code : Nat) : Dev :=
  let ch := d.chan c
  let isOpen := ch.started && !ch.endSet && (i.mode == 2 || ((i.mode == 5 || i.mode == 8) && i.lastLvl.isSome) )
  let d1 := if i.mode = 3 ∧ ch.started then d.trainFill c i 80 else d
  let d2 := d1.endItem c (some code)
  let d3 := if isOpen then d2.setChan c { d2.chan c with owed := some i } else d2
  d3.settle c

/-- Axis n has turned to reverse (03 R97, 04 R122). -/
def Dev.reverseAxis (d : Dev) (n : Nat) : Dev :=
  d.qy.chans.foldl (fun e x =>
    match x.2.cur with
    | none => e
    | some i =>
      if i.positioned && i.axis == n && (x.2.cstate == 1 || x.2.cstate == 2) then
        if i.mode = 2 ∧ x.2.started then (if x.2.endSet then e else e.cutOff x.1 i 4)
        else
          let e1 := if i.mode = 3 ∧ x.2.started then e.trainFill x.1 i 80 else e
          e1.setChan x.1 { e1.chan x.1 with cstate := 3 }
      else e) d

/-- Axis n has turned to forward (03 R100, 04 R122). -/
def Dev.forwardAxis (d : Dev) (n : Nat) : Dev :=
  d.qy.chans.foldl (fun e x =>
    match x.2.cur with
    | none => e
    | some i => if i.positioned && i.axis == n && x.2.cstate == 3 then e.setChan x.1 { e.chan x.1 with cstate := 1 } else e) d

/-- A channel is armed on axis n (04 R572). -/
def Dev.armedOn (d : Dev) (n : Nat) : Bool :=
  d.qy.chans.any (fun e => ([e.2.cur, e.2.queued].filterMap id).any (fun i => i.positioned && i.axis == n))

/-! ### Channel state as read (04 R116) -/

/-- STATUS of channel c. -/
def Dev.chStatus (d : Dev) (c : Nat) : Nat :=
  let ch := d.chan c
  pack [(0, 16, ch.shown.gen), (16, 3, ch.cstate), (19, 1, ch.queued.isSome.toNat), (20, 1, ch.late.toNat),
    (21, 1, ch.auditErr.toNat), (22, 1, ch.gateOpen.toNat), (23, 1, ch.rate.toNat), (24, 8, ch.miss)]

/-- The 64 bytes of channel c. -/
def Dev.chBytes (d : Dev) (c : Nat) : Nat :=
  let ch := d.chan c
  pack [(0, 384, ch.shown.toNat), (384, 32, d.chStatus c), (416, 3, ch.lastSub), (419, 29, ch.prog), (448, 64, ch.last)]

/-- MEASURE_TIMEOUT (04 R132): no selected edge within TCAP, not even one that waits for the slot. -/
def measureTimeoutEff (c : Nat) (d : Dev) : Dev :=
  let ch := d.chan c
  match ch.cur with
  | none => d
  | some i =>
    let inTime := ch.inputs.any (fun e => i.selects e.lvl && decide (e.el ≤ ch.mFrom + 8 * i.tcap))
    if i.mode = 6 ∧ i.tcap ≠ 0 ∧ ¬ ch.mOut ∧ ch.mFrom + 8 * i.tcap ≤ d.el8 ∧ ¬ ch.frozen ∧ ¬ inTime then
      let d1 := d.setChan c { ch with mSel := none, mOut := true }
      d1.measured c i d.ns (if i.inEn ∧ d.pinLvl i.inPin = (i.edgeIn == 0) then 0xFFFFFFFF else 0) 0xFFFFFFFF true
    else d

end Sys2Proof.Machine
end

