-- ==== Sys2Proof/Machine/Tracker.lean ====
section
/-! DEFINITION. Wheel trackers (03 R68 to R107): acquiring sync, judging edges, stall, reversal, limp mode, and what a transition
of a tracker's pins does. Tooth times and periods are in 2^-16 ns, edge times in 1/8 ns. -/

namespace Sys2Proof.Machine

open Sys2Proof

/-! ### Configuration -/

/-- STATE of tracker n (03 R72). -/
def Dev.wtState (d : Dev) (n : Nat) : Nat := d.fld WT_STATUS.STATE n

/-- DIR of tracker n: reverse. -/
def Dev.wtDown (d : Dev) (n : Nat) : Bool := d.flag WT_STATUS.DIR n

/-- Micro-ticks per slot of tracker n. -/
def Dev.wtMicro (d : Dev) (n : Nat) : Nat := 2 ^ d.fld WT_INTERP.MT_BITS n

/-- PH_COUNT of tracker n. -/
def Dev.phCount (d : Dev) (n : Nat) : Nat := d.fld WT_PH_CFG.PH_COUNT n

/-- The enabled ANGLE axes that name tracker n (02 R51). -/
def Dev.wtAxes (d : Dev) (n : Nat) : List Nat :=
  (upto 16).filter (fun a => a ≠ 0 && d.axOn a && d.axType a == 2 && d.fld AX_CFG.SRC a == n)

/-- G of 03 R79 and the gap test of R73, in 1/256: 1 + GAP_FRAC × g. -/
def Dev.gapFactor (d : Dev) (n : Nat) : Nat := 256 + d.fld WT_WIN.GAP_FRAC n * d.wtG n

/-- The interval that ends at pattern edge i in the sense of motion, as an angle (03 R102). -/
def Dev.phEnd (d : Dev) (n i : Nat) : Nat :=
  if d.wtDown n then d.phIntv n ((i + 1) % max 1 (d.phCount n)) else d.phIntv n i

/-- The pattern edge before edge i in the sense of motion. -/
def Dev.phPrev (d : Dev) (n i : Nat) : Nat :=
  let c := max 1 (d.phCount n)
  if d.wtDown n then (i + 1) % c else (i + c - 1) % c

/-- The polarity of a pattern edge that a phase level after it shows in the sense of motion. -/
def Dev.phPol (d : Dev) (n : Nat) (lvl : Bool) : Nat := if lvl == d.wtDown n then 1 else 0

/-- The pattern edges that a phase edge could be by its polarity and the ratio of two intervals (03 R102). -/
def Dev.phMatches (d : Dev) (n : Nat) (lvl : Bool) (i iPrev : Nat) : List Nat :=
  (upto (d.phCount n)).filter (fun k =>
    d.fld WT_PH_EDGE.POL n k == d.phPol n lvl &&
      ((d.phEnd n (d.phPrev n k) * i : Nat) - (d.phEnd n k * iPrev : Nat) : Int).natAbs ≤ d.fld WT_PH_CFG.PH_TOL n * iPrev)

/-- The fields of a tracker's registers are in their ranges (03 R71). -/
def Dev.wtRanges (d : Dev) (n : Nat) : Bool :=
  let inside (f : Fld) (lo hi : Nat) : Bool := lo ≤ d.fld f n && d.fld f n ≤ hi
  inside WT_WHEEL.SLOTS 8 4096 && inside WT_WIN.EARLY_FRAC 32 224 && inside WT_WIN.GAP_FRAC 32 224 &&
    inside WT_WIN.LOSS_LIMIT 1 255 && inside WT_WIN.STALL_MULT 2 15 && inside WT_INTERP.MT_BITS 4 16 &&
    inside WT_INTERP.ACCEL_DEPTH 2 4 && inside WT_SYNC.SYNC_NEED 1 4096 && inside WT_SYNC.PH_SYNC_NEED 2 31

/-- The phase pattern follows 03 R70. -/
def Dev.wtPattern (d : Dev) (n : Nat) : Bool :=
  let c := d.phCount n
  2 ≤ c && c ≤ 32 && c % 2 == 0 && (upto c).all (fun i =>
    (i == 0 || d.phAngle n (i - 1) < d.phAngle n i) && d.phIntv n i > 2 * d.fld WT_PH_CFG.PH_TOL n &&
      d.fld WT_PH_EDGE.POL n i ≠ d.fld WT_PH_EDGE.POL n ((i + 1) % c))

/-- Some pattern edge is identified uniquely by R102, forward, from its own ratio (03 R71). -/
def Dev.wtUnique (d : Dev) (n : Nat) : Bool :=
  let c := d.phCount n
  (upto c).any (fun i => (upto c).all (fun k =>
    k == i || d.fld WT_PH_EDGE.POL n k ≠ d.fld WT_PH_EDGE.POL n i ||
      ((d.phIntv n ((k + c - 1) % c) * d.phIntv n i : Nat) - (d.phIntv n k * d.phIntv n ((i + c - 1) % c) : Nat) : Int).natAbs >
        d.fld WT_PH_CFG.PH_TOL n * d.phIntv n ((i + c - 1) % c)))

/-- A write that sets EN of tracker n passes the checks of 03 R71. -/
def Dev.wtCfgOk (d : Dev) (n : Nat) : Bool :=
  d.wtRanges n && (!d.flag WT_CFG.PH_EN n || (d.wtPattern n && (!d.flag WT_CFG.LIMP_EN n || d.wtUnique n)))

/-! ### Sources (03 R105, 08 R276) -/

/-- Source k of tracker n rises with an axis value and a correction or lateness. -/
def Dev.raiseTrkAt (d : Dev) (n k v : Nat) (corr : Int) : Dev :=
  d.raise 0x08 (0x600 + 8 * n + k) 0
    [byt 16 1 k, (136, 3, d.wtState n), (139, 1, (d.wtDown n).toNat), (140, 1, d.fld WT_STATUS.STALL n),
     byt 20 8 v, (224, 24, ofS 24 (clampS 24 corr))]

/-- Source k of tracker n rises with the axis value now. -/
def Dev.raiseTrk (d : Dev) (n k : Nat) (corr : Int) : Dev := d.raiseTrkAt n k (d.wtValue n) corr

/-- The axis value at the latest tooth, where the position stands on its boundary (03 R84, R92, R103). -/
def Dev.wtHere (d : Dev) (n : Nat) : Nat :=
  let t := d.trkr n
  let a := d.wtModel n
  match d.wtState n with
  | 3 => max (a.value (a.g * a.micro + a.m)) t.floor
  | 5 => max ((max 0 (t.ph.pos + d.fld WT_ZERO.ZERO_OFS n) % 2 ^ 48).toNat) t.floor
  | _ => t.held

/-- The value of tracker n has moved from `old` to that of the tooth: events between fire, and JUMP rises (03 R93). -/
def Dev.wtJump (d : Dev) (n old : Nat) : Dev :=
  let v := d.wtHere n
  if v ≤ old then d
  else
    let (e, late) := (d.wtAxes n).foldl (fun (acc : Dev × Option Nat) a =>
      let (x, l) := acc.1.jumpAxis a old v
      (x, match l with | some y => some (max (acc.2.getD 0) y) | none => acc.2)) (d, none)
    match late with
    | some l => e.raiseTrkAt n 3 v l
    | none => e

/-- What READ_STATE shows of the latest tooth (03 R91). -/
def Dev.wtSnap (d : Dev) (n : Nat) : Dev :=
  let t := d.trkr n
  d.setTrkr n { t with snap := { v := d.wtHere n, t := t.tk.toNat, g := t.g, p := t.hist.headD 0, dp := d.wtSlope n, ang := 0 } }

/-- REVOLUTION rises at a tooth that stands at mechanical zero, forward (03 R105), in every state in which one is taken. -/
def Dev.wtRevolution (d : Dev) (n : Nat) : Dev :=
  if !d.wtDown n && (d.trkr n).g % (max 1 (d.wtN n) : Nat) = 0 then d.raiseTrkAt n 2 (d.wtHere n) 0 else d

/-- A primary tooth accepted before SYNC: in LIMP the latest tooth stays the phase wheel's (03 R91, R101). -/
def Dev.wtSnapConfirm (d : Dev) (n : Nat) : Dev := (if d.wtState n = 5 then d else d.wtSnap n).wtRevolution n

/-- The floor of 03 R104 ends when the primary value has overtaken it. -/
def Dev.wtFloor (d : Dev) (n : Nat) : Dev :=
  let t := d.trkr n
  if t.floor ≠ 0 ∧ (t.floor : Int) ≤ d.wtRaw n then d.setTrkr n { t with floor := 0 } else d

/-! ### Losing sync (03 R74, R78 to R80, R101) -/

/-- The primary wheel's search starts afresh in SEEK; STATE follows where the tracker is not in limp mode (03 R73). -/
def Dev.wtReseek (d : Dev) (n : Nat) : Dev :=
  let t := d.trkr n
  let d1 := d.setTrkr n { t with
    ps := 1, lastTooth := none, seekN := 0, seekInt := none, teeth := 0, rejs := 0, wait := 0, hist := [], ivals := 0,
    ph := { t.ph with zero := false, evid := none } }
  if d.wtState n = 2 then d1.setFld WT_STATUS.STATE 1 n else d1

/-- Sync drops (03 R80). -/
def Dev.wtDrop (d : Dev) (n : Nat) : Dev :=
  let t := d.trkr n
  let d1 := d.setTrkr n { t with held := d.wtValue n, floor := 0, ph := { t.ph with since := 1 } }
  let d2 := ((d1.setFld WT_STATUS.STATE 1 n).setFld WT_STATUS.STALL 0 n).wtReseek n
  (d2.count WT_STATUS.LOSS_CNT n).raiseTrk n 1 0

/-- LIMP_SEEK begins (03 R101); a stalled primary wheel starts its own search. -/
def Dev.wtLimpSeek (d : Dev) (n : Nat) : Dev :=
  let v := d.wtValue n
  let d1 := if (d.trkr n).ps = 3 then d.wtReseek n else d
  let t := d1.trkr n
  let d2 := d1.setTrkr n { t with held := v, floor := 0, ph := { t.ph with since := 0, run := 0, stall := 0 } }
  ((d2.setFld WT_STATUS.STATE 4 n).setFld WT_STATUS.STALL 0 n).raiseTrk n 6 0

/-- An edge is rejected (03 R77, R78, R74). -/
def Dev.wtReject (d : Dev) (n : Nat) : Dev :=
  let d1 := d.count WT_STATUS.REJ_CNT n
  let t := d1.trkr n
  if t.ps = 2 then d1.wtReseek n
  else if t.ps = 3 then
    let d2 := d1.setTrkr n { t with rejs := t.rejs + 1 }
    if t.rejs + 1 ≥ d.fld WT_WIN.LOSS_LIMIT n then d2.wtDrop n else d2
  else d1

/-! ### Reversal (03 R96 to R100, R573) -/

/-- Channels on the tracker's axes are suspended or resume (03 R97, R100). -/
def Dev.wtTurned (d : Dev) (n : Nat) : Dev :=
  (d.wtAxes n).foldl (fun e a => if d.wtDown n then e.reverseAxis a else e.forwardAxis a) d

/-- DIR toggles without a position (03 R573). -/
def Dev.wtToggle (d : Dev) (n : Nat) : Dev :=
  let d1 := d.setFlag WT_STATUS.DIR (!d.wtDown n) n
  let d2 := if (d1.trkr n).ps = 2 then d1.wtReseek n else d1
  (d2.raiseTrk n 5 0).wtTurned n

/-- A reversal in SYNC (03 R97): the position in micro-ticks; the next tooth is counted without an interval (`wait` 1), or ends the
first interval (`wait` 2, from `tk`). The correction is 0 for the DIR input. -/
def Dev.wtReverse (d : Dev) (n : Nat) (pos : Int) (wait : Nat) (tk : Int) (dirIn : Bool) : Dev :=
  let old := d.wtValue n
  let mm := d.wtMicro n
  let d0 := d.wtFloor n
  let t := d0.trkr n
  let d1 := (d0.setTrkr n { t with
    g := pos / (mm : Int), m := (pos % (mm : Int)).toNat, tk := tk, hist := [], ivals := 0, wait := wait,
    ph := { t.ph with evid := none } }).setFlag WT_STATUS.DIR (!d.wtDown n) n
  (d1.raiseTrk n 5 (if dirIn then 0 else (old : Int) - d1.wtValue n)).wtTurned n

/-- The position in micro-ticks with a remainder `a` modulo a revolution that lies nearest the position now (03 R96). -/
def Dev.wtNear (d : Dev) (n : Nat) (a : Int) : Int :=
  let turn : Int := d.wtN n * d.wtMicro n
  let p := (d.wtModel n).pos d.t16
  if turn = 0 then a else a + turn * ((p - a + turn / 2) / turn)

/-- The position of an angle in 2^-24 rev, rounded to the nearest micro-tick (03 R85). -/
def Dev.wtOfAngle (d : Dev) (n a : Nat) : Int := ((a * (d.wtN n * d.wtMicro n) + 2 ^ 23) / 2 ^ 24 : Nat)

/-- A reversal in LIMP (03 R103): the position stands as it is and the history is cleared. -/
def Dev.limpReverse (d : Dev) (n : Nat) : Dev :=
  let t := d.trkr n
  let d1 := (d.setTrkr n { t with ph := { t.ph with
    pos := d.limpPos n d.t8, at_ := d.t8, intv := 0, angle := 0, turn := !t.ph.turn, wait := 1 } }).setFlag
      WT_STATUS.DIR (!d.wtDown n) n
  let d2 := if (d1.trkr n).ps = 2 then d1.wtReseek n else d1
  (d2.raiseTrk n 5 0).wtTurned n

/-- The DIR input of tracker n takes a level (03 R96, R573). -/
def Dev.wtDirIn (d : Dev) (n : Nat) (lvl : Bool) : Dev :=
  let down := lvl == d.flag WT_REV.DIR_POL n
  if down == d.wtDown n then d
  else
    match d.wtState n with
    | 0 => d
    | 3 => d.wtReverse n ((d.wtModel n).pos d.t16) 1 d.t16 true
    | 5 => d.limpReverse n
    | _ => d.wtToggle n

/-! ### Entering CONFIRM and SYNC (03 R73 to R76, R104) -/

/-- Mechanical zero, or the boundary that stands for it, has been found at slot s (03 R73 to R75). -/
def Dev.wtConfirm (d : Dev) (n : Nat) (t8 : Int) (s : Nat) (per : List Nat) : Dev :=
  let t := d.trkr n
  let d1 := d.setTrkr n { t with
    ps := 2, g := s, m := 0, tk := t8 * 8192, hist := per, ivals := 0, teeth := 0, rejs := 0,
    wait := if per = [] then 2 else 0, lastTooth := some t8, ph := { t.ph with zero := false } }
  (if d.wtState n = 1 then d1.setFld WT_STATUS.STATE 2 n else d1).wtSnapConfirm n

/-- The revolution that makes a value the smallest not below `v` (03 R76); `raw` is the value in revolution 0. A `v` that a reversal left
low lets revolution −1 in. -/
def leastRev (raw v : Nat) : Int := -(((raw : Int) - v) / 2 ^ 24)

/-- The revolution that puts a value nearest `v` (03 R104). -/
def nearRev (raw v : Nat) : Int := ((v : Int) + 2 ^ 23 - raw) / 2 ^ 24

/-- The tracker enters SYNC (03 R74, R76, R104). -/
def Dev.wtSync (d : Dev) (n : Nat) : Dev :=
  let old := d.wtValue n
  let t := d.trkr n
  let turn := d.wtN n
  let s := (t.g % (max 1 turn : Nat)).toNat
  let raw := (({ d.wtModel n with g := s, m := 0 } : AngleModel).value (s * d.wtMicro n : Nat))
  let limp := d.wtState n == 5
  let rev : Int := if !t.synced then 0 else if limp then nearRev raw old else leastRev raw old
  let d1 := d.setTrkr n { t with
    ps := 3, g := rev * turn + s, m := 0, hist := t.hist.take 1, ivals := 0, rejs := 0, synced := true,
    floor := if limp then old else 0, ph := { t.ph with since := 0, run := 0, evid := none } }
  let d2 := ((d1.setFld WT_STATUS.STATE 3 n).setFld WT_STATUS.STALL 0 n)
  let d3 := (d2.wtFloor n).wtSnap n
  ((d3.raiseTrkAt n 0 (d3.wtHere n) 0).wtRevolution n).wtJump n old

/-! ### Teeth (03 R73, R74, R77 to R79, R82, R92, R95) -/

/-- A tooth in SEEK (03 R73, R75). -/
def Dev.wtSeek (d : Dev) (n : Nat) (t8 : Int) : Dev :=
  let t := d.trkr n
  let early : Bool := match t.lastTooth, t.seekInt with
    | some l, some p => decide ((t8 - l) * 256 < (d.fld WT_WIN.EARLY_FRAC n * p : Nat))
    | _, _ => false
  if early then d.wtReject n
  else
    let intv := t.lastTooth.map (fun l => (t8 - l).toNat)
    let g := d.wtG n
    let d1 := d.setTrkr n { t with lastTooth := some t8, seekInt := intv, seekN := t.seekN + 1 }
    let per := match intv with | some i => [i * 8192] | none => []
    if g = 0 then
      if !d.flag WT_CFG.PH_EN n then (d1.setFld WT_STATUS.REL 1 n).wtConfirm n t8 0 per
      else if t.ph.zero then d1.wtConfirm n t8 (ceilDiv (d.phAngle n 0 * d.wtN n) (2 ^ 24) % max 1 (d.wtN n)) per
      else d1
    else
      match intv, t.seekInt with
      | some i, some p =>
        if t.seekN ≥ 2 ∧ i * 256 ≥ d.gapFactor n * p then
          d1.wtConfirm n t8 (if d.wtDown n then d.wtN n - g - 1 else 0) [i * 8192 / (g + 1)]
        else d1
      | _, _ => d1

/-- The position at the next tooth boundary in the sense of motion. -/
def Dev.wtNext (d : Dev) (n : Nat) : Int :=
  let t := d.trkr n
  nextTooth (d.wtN n) (d.wtG n) (d.wtMicro n) (t.g * d.wtMicro n + t.m) (d.wtDown n)

/-- A tooth is accepted in CONFIRM or SYNC: it is counted, and the history takes its interval (03 R82, R92, R95). -/
def Dev.wtCount (d : Dev) (n : Nat) (t8 : Int) : Dev :=
  let t := d.trkr n
  let nx := d.wtNext n
  let per := (t8 * 8192 - t.tk).toNat / max 1 (nx - t.g).natAbs
  let hist := if t.wait = 1 then [] else if t.wait = 2 then [per] else (per :: t.hist).take 4
  d.setTrkr n { t with
    g := nx, m := 0, tk := t8 * 8192, hist := hist, ivals := if t.wait = 1 then 0 else t.ivals + 1,
    wait := if t.wait = 1 then 2 else 0, rejs := 0, teeth := t.teeth + 1 }

/-- An accepted tooth in SYNC (03 R84, R86, R92 to R95, R105). -/
def Dev.wtTooth (d : Dev) (n : Nat) (t8 : Int) : Dev :=
  let old := d.wtValue n
  let d1 := (((d.wtCount n t8).setFld WT_STATUS.STALL 0 n).wtFloor n).wtSnap n
  let d2 := d1.wtRevolution n
  (d.wtAxes n).foldl Dev.pubTooth (if d.wtDown n then d2 else d2.wtJump n old)

/-- What the gap check of 03 R79 finds: nothing, GAP_ABSENT or GAP_UNEXPECTED. A wheel without a gap is not checked (DESIGN CHOICE,
log 70: G would be the slot period itself). -/
def Dev.wtGapCheck (d : Dev) (n : Nat) (t8 : Int) : Nat :=
  let t := d.trkr n
  let a := d.wtModel n
  let big : Bool := (t8 * 8192 - t.tk) * 256 ≥ d.gapFactor n * a.timeTo a.micro
  if d.wtG n = 0 ∨ t.wait ≠ 0 then 0
  else if a.l > 1 then (if big then 0 else 1)
  else if big then 2 else 0

/-- The tooth that ends a gap at the wrong count turns the shaft (03 R96): it stands at N − g − 1 or 0 and is not counted
again, but is an accepted tooth (R78, R91). -/
def Dev.wtGapTurn (d : Dev) (n : Nat) (t8 : Int) : Dev :=
  let b : Nat := if d.wtDown n then 0 else d.wtN n - d.wtG n - 1
  let d1 := (d.wtReverse n (d.wtNear n (b * d.wtMicro n : Nat)) 2 (t8 * 8192) false).setFld WT_STATUS.STALL 0 n
  ((d1.setTrkr n { d1.trkr n with rejs := 0 }).wtSnap n).wtRevolution n

/-- Phase-order evidence that has stood until this tooth turns the shaft, and the tooth is counted in the new sense (03 R96). -/
def Dev.wtEvidence (d : Dev) (n : Nat) : Dev :=
  match (d.trkr n).ph.evid with
  | some (i, _) => d.wtReverse n (d.wtNear n (d.wtOfAngle n (d.phAngle n i))) 1 d.t16 false
  | none => d

/-- A tooth in CONFIRM or SYNC (03 R74, R77 to R79). -/
def Dev.wtTrack (d : Dev) (n : Nat) (t8 : Int) (close : Bool) : Dev :=
  let t := d.trkr n
  let a := d.wtModel n
  if close then d.wtReject n
  else if t.wait = 0 ∧ (t8 * 8192 - t.tk) * 256 < (d.fld WT_WIN.EARLY_FRAC n : Int) * a.timeTo (a.l * a.micro) then
    d.wtReject n
  else if t.ps = 2 then
    if d.wtGapCheck n t8 ≠ 0 then d.wtReseek n
    else
      let d1 := d.wtCount n t8
      if t.teeth + 1 ≥ d.fld WT_SYNC.SYNC_NEED n then d1.wtSync n else d1.wtSnapConfirm n
  else
    let d1 := d.wtEvidence n
    match d1.wtGapCheck n t8 with
    | 0 => d1.wtTooth n t8
    | 2 => if d.flag WT_REV.REV_GAP_EN n then d1.wtGapTurn n t8 else d1.wtDrop n
    | _ => d1.wtDrop n

/-- An edge of PRI_PIN (03 R73, R77): the edge that is no tooth counts for the 8 ns test only. -/
def Dev.wtPrimary (d : Dev) (n : Nat) (e : InEdge) : Dev :=
  let t := d.trkr n
  let close := match t.lastEdge with | some l => e.at8 < l + 64 | none => false
  let d1 := d.setTrkr n { t with lastEdge := some e.at8 }
  if e.lvl == d.flag WT_CFG.PRI_EDGE n then d1
  else
    match t.ps with
    | 0 => d1
    | 1 => if close then d1.wtReject n else d1.wtSeek n e.at8
    | _ => d1.wtTrack n e.at8 close

/-! ### The phase wheel (03 R75, R81, R96, R101 to R103) -/

/-- The position of tracker n modulo a revolution, 2^-24 rev, in the ECLK cycle in which the tracker judges the phase edge (DEDUCED from
R106, log 27). -/
def Dev.wtAngleNow (d : Dev) (n : Nat) : Nat :=
  let turn : Int := d.wtN n * d.wtMicro n
  if turn = 0 then 0 else (((d.wtModel n).pos d.t16 % turn) * 2 ^ 24 / turn).toNat

/-- The distance of two angles on the circle, 2^-24 rev. -/
def circ (a b : Nat) : Nat :=
  let x := (a + 2 ^ 24 - b) % 2 ^ 24
  min x (2 ^ 24 - x)

/-- The index among those given that makes `f` least. -/
def leastBy (f : Nat → Nat) : List Nat → Option Nat
  | [] => none
  | x :: t => match leastBy f t with
    | some y => if f y < f x then some y else some x
    | none => some x

/-- New phase-order evidence (03 R96): the edge last crossed and the level that shows it crossed back. -/
def Dev.wtNewEvid (d : Dev) (n : Nat) (lvl : Bool) : Option (Nat × Bool) :=
  let a := d.wtAngleNow n
  let c := d.phCount n
  match leastBy (fun k => (a + 2 ^ 24 - d.phAngle n k) % 2 ^ 24) (upto c) with
  | none => none
  | some lo =>
    let hi := (lo + 1) % c
    let tol := d.fld WT_PH_CFG.PH_TOL n
    let i := if d.wtDown n then hi else lo
    if d.fld WT_PH_EDGE.POL n i ≠ d.phPol n lvl && (a + 2 ^ 24 - d.phAngle n lo) % 2 ^ 24 > tol &&
        (d.phAngle n hi + 2 ^ 24 - a) % 2 ^ 24 > tol then some (i, lvl) else none

/-- A phase edge in SYNC (03 R81, R96). -/
def Dev.wtPhaseSync (d : Dev) (n : Nat) (lvl : Bool) : Dev :=
  let t := d.trkr n
  let a := d.wtAngleNow n
  let evid := if t.ph.evid.isSome then none else if d.flag WT_REV.REV_PH_EN n then d.wtNewEvid n lvl else none
  let d1 := d.setTrkr n { t with ph := { t.ph with evid := evid } }
  let same := (upto (d.phCount n)).filter (fun k => d.fld WT_PH_EDGE.POL n k == d.phPol n lvl)
  match leastBy (fun k => circ a (d.phAngle n k)) same with
  | some k =>
    if circ a (d.phAngle n k) ≤ d.fld WT_PH_CFG.PH_TOL n then d1 else (d1.count WT_STATUS.PH_MIS_CNT n).raiseTrk n 7 0
  | none => d1

/-- What READ_STATE shows of the latest LIMP tooth (03 R91). -/
def Dev.limpSnap (d : Dev) (n : Nat) : Dev :=
  let t := d.trkr n
  d.setTrkr n { t with snap := {
    v := d.wtHere n, t := (t.ph.at_ * 8192).toNat, g := t.ph.pos * (d.wtN n : Int) / 2 ^ 24, p := t.ph.intv * 8192, dp := 0,
    ang := t.ph.angle } }

/-- The tracker enters LIMP at pattern edge i (03 R102, R76). -/
def Dev.wtLimp (d : Dev) (n : Nat) (t8 : Int) (i intv : Nat) : Dev :=
  let old := d.wtValue n
  let raw := d.phAngle n i + d.fld WT_ZERO.ZERO_OFS n
  let rev := leastRev raw old
  let t := d.trkr n
  let d1 := d.setTrkr n { t with
    floor := 0
    ph := { t.ph with
      rejs := 0, pos := rev * 2 ^ 24 + d.phAngle n i, at_ := t8, lim := i, intv := intv, angle := d.phEnd n i, turn := false, wait := 0 } }
  let d2 := ((d1.setFld WT_STATUS.STATE 5 n).setFld WT_STATUS.STALL 0 n).limpSnap n
  (d2.raiseTrkAt n 0 (d2.wtHere n) 0).wtJump n old

/-- A phase edge in LIMP_SEEK (03 R102). -/
def Dev.wtPhaseSeek (d : Dev) (n : Nat) (t8 : Int) (hits : List Nat) (intv : Nat) : Dev :=
  let t := d.trkr n
  match hits with
  | [i] =>
    let run := if t.ph.run ≠ 0 ∧ d.phNext n t.ph.idx = i then t.ph.run + 1 else 1
    let d1 := d.setTrkr n { t with ph := { t.ph with run := run, idx := i } }
    if run ≥ d.fld WT_SYNC.PH_SYNC_NEED n then d1.wtLimp n t8 i intv else d1
  | _ => d.setTrkr n { t with ph := { t.ph with run := 0 } }

/-- The angle from the latest LIMP tooth to the next, and its pattern edge; after a turn that edge is met again. -/
def Dev.limpAhead (d : Dev) (n : Nat) : Nat × Nat :=
  let p := (d.trkr n).ph
  if p.turn then (0, p.lim) else (d.phAhead n p.lim, d.phNext n p.lim)

/-- A phase edge in LIMP acts as a tooth (03 R103, R77, R78, R92, R95). -/
def Dev.wtPhaseLimp (d : Dev) (n : Nat) (t8 : Int) (close : Bool) : Dev :=
  let t := d.trkr n
  let p := t.ph
  let (ahead, i) := d.limpAhead n
  let i_ := (t8 - p.at_).toNat
  if close ∨ (p.wait = 0 ∧ i_ * 256 * p.angle < d.fld WT_WIN.EARLY_FRAC n * (ahead * p.intv)) then
    let d1 := (d.count WT_STATUS.REJ_CNT n).setTrkr n { t with ph := { p with rejs := p.rejs + 1 } }
    if p.rejs + 1 ≥ d.fld WT_WIN.LOSS_LIMIT n then d1.wtDrop n else d1
  else
    let old := d.wtValue n
    let turn0 : Int := p.pos - p.pos % 2 ^ 24
    let cand : Int := turn0 + d.phAngle n i
    let pos : Int :=
      if d.wtDown n then (if cand > p.pos ∨ (cand = p.pos ∧ ¬ p.turn) then cand - 2 ^ 24 else cand)
      else if cand < p.pos ∨ (cand = p.pos ∧ ¬ p.turn) then cand + 2 ^ 24 else cand
    let known := p.wait ≠ 1
    let d1 := (d.setTrkr n { t with
      ph := { p with
        rejs := 0, pos := pos, at_ := t8, lim := i, intv := if known then i_ else 0, angle := if known then ahead else 0,
        turn := false, wait := if p.wait = 1 then 2 else 0 } }).setFld WT_STATUS.STALL 0 n
    let d2 := d1.limpSnap n
    (d.wtAxes n).foldl Dev.pubTooth (if d.wtDown n then d2 else d2.wtJump n old)

/-- An edge of PH_PIN (03 R75, R81, R101 to R103). In SEEK an edge is taken as pattern edge 0 where R102 matches it with that edge alone
(DEDUCED, log 27: R75 does not say how it is recognised), and the first tooth after it is still awaited when other phase edges come between. -/
def Dev.wtPhase (d : Dev) (n : Nat) (e : InEdge) : Dev :=
  let t := d.trkr n
  let intv := match t.ph.t with | some l => (e.at8 - l).toNat | none => 0
  let hits := match t.ph.t, t.ph.i with | some _, some p => d.phMatches n e.lvl intv p | _, _ => []
  let close := match t.ph.t with | some l => e.at8 < l + 64 | none => false
  let limpOn := d.flag WT_CFG.LIMP_EN n && d.flag WT_CFG.PH_EN n
  let ph1 : Phase := { t.ph with
    t := some e.at8, i := t.ph.t.map (fun l => (e.at8 - l).toNat)
    since := if t.ph.since ≠ 0 then t.ph.since + 1 else 0
    stall := if d.flag WT_STATUS.STALL n then t.ph.stall + 1 else t.ph.stall
    zero := t.ph.zero || (t.ps == 1 && d.wtG n == 0 && hits == [0]) }
  let d1 := d.setTrkr n { t with ph := ph1 }
  match d.wtState n with
  | 1 | 2 => if limpOn && ph1.since > d.phCount n then d1.wtLimpSeek n else d1
  | 3 =>
    if limpOn && d.flag WT_STATUS.STALL n && ph1.stall ≥ 2 then d1.wtLimpSeek n else d1.wtPhaseSync n e.lvl
  | 4 => d1.wtPhaseSeek n e.at8 hits intv
  | 5 => d1.wtPhaseLimp n e.at8 close
  | _ => d1

/-- A transition of a pin waits in tracker n until its ECLK cycle ends: its part as DIR (0), tooth (1) and phase edge (2) (03 R106). -/
def Dev.wtPin (d : Dev) (n pin : Nat) (e : InEdge) : Dev :=
  if d.wtState n = 0 then d
  else
    let t := d.trkr n
    let part (role : Nat) (on : Bool) : List (Nat × InEdge) := if on then [(role, e)] else []
    let here := part 0 (d.flag WT_REV.REV_DIR_EN n && d.fld WT_REV.DIR_PIN n == pin) ++ part 1 (d.fld WT_CFG.PRI_PIN n == pin) ++
      part 2 (d.flag WT_CFG.PH_EN n && d.fld WT_CFG.PH_PIN n == pin)
    d.setTrkr n { t with inbox := t.inbox ++ here }

/-- What came in one part of a tracker's inbox is taken. -/
def Dev.wtTake (d : Dev) (n : Nat) (x : Nat × InEdge) : Dev :=
  if d.wtState n = 0 then d
  else
    match x.1 with
    | 0 => d.wtDirIn n x.2.lvl
    | 1 => d.wtPrimary n x.2
    | _ => d.wtPhase n x.2

/-- The ECLK cycle ends: tracker n takes what came in it, DIR first, then teeth, then phase edges (03 R106). -/
def Dev.wtCycle (d : Dev) (n : Nat) : Dev :=
  let l := (d.trkr n).inbox
  let part (role : Nat) : List (Nat × InEdge) := l.filter (fun x => x.1 == role)
  if l = [] then d
  else (part 0 ++ part 1 ++ part 2).foldl (fun e x => e.wtTake n x) (d.setTrkr n { d.trkr n with inbox := [] })

/-! ### Stall (03 R94, R103) -/

/-- The stall deadline of tracker n fell in an ECLK cycle that is over: no tooth within STALL_MULT × T(L), and none in the deadline's own
cycle, whose teeth are taken first (03 R106). -/
def Dev.wtStallDue (d : Dev) (n : Nat) : Bool :=
  let t := d.trkr n
  let a := d.wtModel n
  let k := d.fld WT_WIN.STALL_MULT n
  match d.wtState n with
  | 3 => t.wait == 0 && a.p ≠ 0 && (t.tk : Int) + k * a.timeTo (a.l * a.micro) < d.t16
  | 5 => t.ph.wait == 0 && t.ph.angle ≠ 0 && t.ph.at_ + k * (d.phAhead n t.ph.lim * t.ph.intv) / t.ph.angle < d.t8
  | _ => false

/-- The shaft stalls (03 R94). -/
def wtStallEff (n : Nat) (d : Dev) : Dev :=
  if n < 8 ∧ d.wtStallDue n ∧ ¬ d.flag WT_STATUS.STALL n then
    let t := d.trkr n
    let d1 := if d.wtState n = 3 then d.setTrkr n { t with wait := 1, ph := { t.ph with stall := 0 } }
      else d.setTrkr n { t with ph := { t.ph with wait := 1 } }
    (d1.setFld WT_STATUS.STALL 1 n).raiseTrk n 4 0
  else d

/-! ### Enabling (03 R71, R72) and reading (03 R91) -/

/-- EN of tracker n is set with the values held: SEEK, or refused with CFG_ERR. The accepted write also clears DIR and REL, and resumes
nothing that an axis of the OFF tracker suspended; clearing EN keeps both (DESIGN CHOICE, log 70: the spec gives them no value there). -/
def Dev.wtEnable (d : Dev) (n : Nat) : Dev :=
  if d.wtCfgOk n then
    let d1 := ((((d.setFld WT_CFG.EN 1 n).setFld WT_STATUS.CFG_ERR 0 n).setFld WT_STATUS.STATE 1 n).setFld WT_STATUS.DIR 0 n)
    ((d1.setFld WT_STATUS.STALL 0 n).setFld WT_STATUS.REL 0 n).setTrkr n
      { ps := 1, held := (d.trkr n).held, snap := (d.trkr n).snap }
  else d.setFld WT_STATUS.CFG_ERR 1 n

/-- EN of tracker n is cleared: OFF, the value held; no effect while an ANGLE axis names it. -/
def Dev.wtDisable (d : Dev) (n : Nat) : Dev :=
  if (d.wtAxes n).isEmpty then
    let d1 := ((d.setFld WT_CFG.EN 0 n).setFld WT_STATUS.STATE 0 n).setFld WT_STATUS.STALL 0 n
    d1.setTrkr n { held := d.wtValue n, snap := (d.trkr n).snap }
  else d

/-- SPEED of tracker n, unsigned 16.16 rev/s, that of the latest accepted tooth (03 R91). -/
def Dev.wtSpeed (d : Dev) (n : Nat) : Nat :=
  let s := (d.trkr n).snap
  let ratio (num den : Nat) : Nat := if den = 0 then 0 else min ((2 * num + den) / (2 * den)) 0xFFFFFFFF
  if d.flag WT_STATUS.STALL n then 0
  else
    match d.wtState n with
    | 3 => ratio (2 ^ 32 * 1000000000) (d.wtN n * s.p)
    | 5 => ratio (s.ang * 1000000000 * 256) s.p
    | _ => 0

/-- The 64 bytes of READ_STATE class 2 (09 R315, 03 R91). -/
def Dev.wtBytes (d : Dev) (n : Nat) : Nat :=
  let s := (d.trkr n).snap
  pack [(0, 3, d.wtState n), (3, 1, (d.wtDown n).toNat), (4, 1, d.fld WT_STATUS.STALL n), byt 8 8 s.v, byt 16 8 (s.t / 65536),
    byt 24 2 (s.t % 65536), byt 28 4 (ofS 32 s.g), byt 32 8 s.p, byt 40 8 (ofS 64 s.dp), byt 48 4 (d.wtSpeed n)]

end Sys2Proof.Machine
end

