-- ==== Sys2Proof/Machine/Quay.lean ====
section
/-! DEFINITION. Quays: placing edges, the edge audit, SUSPECT, substitution, the vernier, and the scan visit (04 R114, R139 to
R149, 13 R451 to R456). -/

namespace Sys2Proof.Machine

open Sys2Proof

/-- ROLE of physical quay p: 0 ACTIVE, 1 SPARE, 2 MIRRORING, 3 RETIRED. -/
def Dev.role (d : Dev) (p : Nat) : Nat := d.fld QY_STATUS.ROLE p

/-- The spare physical quays, lowest number first. -/
def Dev.spareQuays (d : Dev) : List Nat := (upto 34).filter (fun p => d.role p == 1)

/-! ### Substitution (04 R146 to R149, 13 R452) -/

/-- A substitution of a logical quay onto a spare starts (04 R147 step 1). -/
def Dev.subStart (d : Dev) (q new : Nat) (cmd : Option Cmd) : Dev :=
  let d1 := (d.setFld QY_STATUS.ROLE 2 new).setFld QY_STATUS.LOGICAL q new
  { d1 with qy := { d1.qy with subst := some { q := q, old := d.physOf q, new := new, phase := 1, at_ := d.ecNs, cmd := cmd } } }

/-- An automatic substitution of physical quay p starts, waits for the running one, or finds no spare (13 R451, R452, R456). -/
def Dev.autoSub (d : Dev) (p : Nat) : Dev :=
  if d.role p ≠ 0 then d
  else
    match d.qy.subst with
    | some _ => if d.qy.auto.contains p then d else { d with qy := { d.qy with auto := d.qy.auto ++ [p] } }
    | none =>
      match d.spareQuays with
      | [] => d.setFault SYS_FAULT.QUAY_EXHAUSTED true
      | s :: _ => d.subStart (d.fld QY_STATUS.LOGICAL p) s none

/-- The lowest-numbered physical quay that waits is substituted next (13 R468). -/
def Dev.autoNext (d : Dev) : Dev :=
  match (upto 34).find? (fun p => d.qy.auto.contains p) with
  | some p => ({ d with qy := { d.qy with auto := d.qy.auto.filter (· ≠ p) } } : Dev).autoSub p
  | none => d

/-- QUAY_SUBST, source 0x7DD, rises (13 R467), and a command completes (09 R316). -/
def Dev.subReport (d : Dev) (x : Subst) (status : Nat) : Dev :=
  let d1 := d.raiseSys 0x7DD [byt 16 1 x.q, byt 17 1 x.old, byt 18 1 x.new, byt 19 1 status, (160, 1, x.cmd.isNone.toNat),
    byt 21 1 x.failed]
  match x.cmd with
  | some c => d1.finish c status [byt 22 1 x.old]
  | none => d1

/-- A substitution fails: the spare returns to SPARE and the old quay stays (04 R148). -/
def Dev.subFail (d : Dev) (x : Subst) (status : Nat) : Dev :=
  let d1 := if d.role x.new = 2 then (d.setFld QY_STATUS.ROLE 1 x.new).setFld QY_STATUS.LOGICAL 0 x.new else d
  ({ d1 with qy := { d1.qy with subst := none } } : Dev).subReport x status

/-- The next spare after s, round the spares. -/
def Dev.spareAfter (d : Dev) (s : Nat) : Option Nat :=
  match d.spareQuays.filter (fun p => s < p) with
  | p :: _ => some p
  | [] => d.spareQuays.head?

/-- A substitution fails MISMATCH: of a command, the spare returns to SPARE (04 R148); an automatic one retires a spare that has given
MISMATCH twice, and goes on with the next (13 R452). -/
def Dev.subMismatch (d : Dev) (x : Subst) : Dev :=
  let n := (d.physQ x.new).mismatches + 1
  let d1 := (d.subFail x 0x0D).setPhysQ x.new { d.physQ x.new with mismatches := n }
  match x.cmd with
  | some _ => d1.autoNext
  | none =>
    let d2 := if n ≥ 2 then d1.setFld QY_STATUS.ROLE 3 x.new else d1
    match d2.spareAfter x.new with
    | some s => d2.subStart x.q s none
    | none => (d2.setFault SYS_FAULT.QUAY_EXHAUSTED true).autoNext

/-- The items of a channel whose state cannot be trusted fail QUAY_FAULT, and the channel is IDLE (04 R149). -/
def Dev.quayFault (d : Dev) (c : Nat) : Dev :=
  let ch := d.chan c
  if ch.cur.isNone && ch.queued.isNone then d
  else
    let d1 := d.endItem c (some 6)
    let d2 := match ch.queued with | some i => d1.failItem c i 6 true | none => d1
    ch.waits.foldl Dev.disarmDone
      (d2.setChan c { d2.chan c with queued := none, cstate := 0, tails := [], owed := none, waits := [] })

/-- MIRROR_COPY_DONE (04 R147 steps 1 and 2): the channels, by index, whose copy read a parity error. -/
def mirrorCopyDoneEff (parity : List Nat) (d : Dev) : Dev :=
  match d.qy.subst with
  | some x =>
    if x.phase = 1 then
      let bad := (upto 16).filter (fun k => parity.contains k || (d.chan (16 * x.q + k)).frozen)
      let hit := bad.filter (fun k => (d.chan (16 * x.q + k)).cur.isSome || (d.chan (16 * x.q + k)).queued.isSome)
      let d1 := bad.foldl (fun e k => e.quayFault (16 * x.q + k)) d
      { d1 with qy := { d1.qy with subst := some { x with phase := 2, failed := hit.length } } }
    else d
  | none => d

/-- MIRROR_COMPARE_DONE (04 R147 steps 3 and 4). -/
def mirrorCompareDoneEff (differ : Bool) (d : Dev) : Dev :=
  match d.qy.subst with
  | some x =>
    if x.phase = 2 then
      if differ then d.subMismatch x else { d with qy := { d.qy with subst := some { x with phase := 3 } } }
    else d
  | none => d

/-- Channel c has an edge on its OUT_PIN predicted within 64 ns of now that is not committed (04 R147 step 4). -/
def Dev.predictedNear (d : Dev) (c : Nat) : Bool :=
  let ch := d.chan c
  let near (t : Int) : Bool := decide ((d.t8 : Int) ≤ t + 512) && decide (t ≤ d.t8 + 512)
  let later (el : Nat) : Int := d.t8 + ((el : Int) - d.el8)
  ch.tails.any (fun x => near (later x.el)) ||
    match ch.cur with
    | some i =>
      i.outEn && ((d.unbegun c i).any (fun p => match d.plan ch i p true with | some (.at_ t) => near t | _ => false) ||
        (ch.started && !ch.endSet && (match Dev.timedEnd ch i with | some x => near (later x.1) | none => false)))
    | none => false

/-- A switch now is quiet (04 R147 step 4): no edge placed, committed or predicted on an output pin within 64 ns, and no train's slot. -/
def Dev.quiet (d : Dev) (q : Nat) : Bool :=
  let near (t : Nat) : Bool := decide (d.t8 ≤ t + 512) && decide (t ≤ d.t8 + 512)
  let placed := (upto 128).any (fun n => d.fld TIO_PIN.OUT_SRC n == 1 && d.fld TIO_PIN.OUT_CH n / 16 == q &&
    (match (d.pin n).placed with | some t => near t | none => false))
  !placed && !(d.quay q).edges.any (fun e => (e.lvl.isSome || e.toggle) && near e.t) && (d.trainSlots q).isEmpty &&
    !(upto 16).any (fun k => d.predictedNear (16 * q + k))

/-- QUAY_SWITCH (04 R147 steps 5 to 7, 13 R455), within 10 µs of the acceptance (04 R148). -/
def quaySwitchEff (d : Dev) : Dev :=
  match d.qy.subst with
  | some x =>
    if x.phase = 3 ∧ d.ecNs ≤ x.at_ + 10000 ∧ d.quiet x.q then
      let heirs := if d.flag QY_STATUS.SUSPECT x.old then (d.physQ x.old).run else []
      let d1 := ((d.setFld QY_STATUS.ROLE 3 x.old).setFld QY_STATUS.SUSPECT 0 x.old).setFld QY_STATUS.LOGICAL 0 x.old
      let d2 := (d1.setFld QY_STATUS.ROLE 0 x.new).setFld QY_STATUS.LOGICAL x.q x.new
      let d3 := d2.setPhysQ x.new { d2.physQ x.new with inherited := heirs }
      (({ d3 with qy := { d3.qy with subst := none } } : Dev).subReport x 0).autoNext
    else d
  | none => d

/-- NO_QUIET_TIMEOUT (04 R148, 13 R452). -/
def noQuietTimeoutEff (d : Dev) : Dev :=
  match d.qy.subst with
  | some x =>
    if x.at_ + 10000 ≤ d.ecNs then
      let d1 := d.subFail x 0x0E
      let d2 := if x.cmd.isNone then { d1 with qy := { d1.qy with retry := d1.qy.retry ++ [(x.old, d1.ecNs + 100000)] } } else d1
      d2.autoNext
    else d
  | none => d

/-- AUTO_SUB_RETRY (13 R452): 100 µs after the failure. -/
def autoSubRetryEff (d : Dev) : Dev :=
  match d.qy.retry with
  | (p, due) :: t => if due ≤ d.ecNs then ({ d with qy := { d.qy with retry := t } } : Dev).autoSub p else d
  | [] => d

/-- An automatic substitution that waits starts in the next ECLK cycle, where none runs (13 R451, R468). -/
def Dev.autoTick (d : Dev) : Dev := if d.qy.subst.isNone then d.autoNext else d

/-! ### SUSPECT (04 R141, 13 R451, R453, R454, R456) -/

/-- Physical quay p sets SUSPECT for a reason: 1 AUDIT, 2 PARITY, 3 VERNIER; with AUTO_SUB a substitution is to start. -/
def Dev.suspect (d : Dev) (p reason : Nat) : Dev :=
  if d.flag QY_STATUS.SUSPECT p ∨ d.role p = 3 then d
  else
    let d1 := (d.setFld QY_STATUS.SUSPECT 1 p).raiseSys 0x7DC [byt 16 1 p, byt 17 1 (d.fld QY_STATUS.LOGICAL p), byt 18 1 reason,
      byt 19 1 (d.fld QY_AUDIT.LAST_PIN p), byt 20 1 (d.fld QY_AUDIT.CONSEC p)]
    let d2 := if d.spareQuays = [] then d1.setFault SYS_FAULT.QUAY_EXHAUSTED true else d1
    if d.flag QY_CFG.AUTO_SUB p ∧ d.spareQuays ≠ [] ∧ d.role p = 0 ∧ d.qy.auto.contains p = false then
      { d2 with qy := { d2.qy with auto := d2.qy.auto ++ [p] } }
    else d2

/-- A spare fails calibration: RETIRED; a substitution that runs on it starts again with the next (13 R454, R468). With none left an
automatic one sets QUAY_EXHAUSTED (13 R452, R456). -/
def Dev.spareBad (d : Dev) (p : Nat) : Dev :=
  let d1 := (d.setFld QY_STATUS.ROLE 3 p).setFld QY_STATUS.LOGICAL 0 p
  match d1.qy.subst with
  | some x =>
    if x.new = p then
      match d1.spareAfter p with
      | some s => d1.subStart x.q s x.cmd
      | none => (if x.cmd.isNone then (d1.subFail x 0x0F).setFault SYS_FAULT.QUAY_EXHAUSTED true else d1.subFail x 0x0F).autoNext
    else d1
  | none => d1

/-- A calibration of physical quay p is out of range or has not completed (13 R454). -/
def Dev.vernierBad (d : Dev) (p : Nat) : Dev :=
  match d.role p with
  | 0 => d.suspect p 3
  | 3 => d
  | _ => d.spareBad p

/-- VERNIER_CAL (04 R114, 13 R454). -/
def vernierCalEff (p : Nat) (result : CalResult) (d : Dev) : Dev :=
  if p < 34 then
    let d1 := (d.setFld QY_DIAG.VCAL_OK 1 p).setPhysQ p { d.physQ p with calAt := some d.ecNs }
    match result with
    | .good => d1
    | .bad => d1.vernierBad p
  else d

/-! ### The edge audit (04 R139 to R141, 13 R455) -/

/-- An audit of channel c on a pin faults: the error field, the GEN and placed time that the record carries (1/8 ns). -/
def Dev.auditFault (d : Dev) (pin c gen t err : Nat) : Dev :=
  let p := d.physOf (c / 16)
  let x := d.physQ p
  let counted := !x.inherited.contains pin
  let d1 := ((d.count QY_AUDIT.AUDIT_CNT p).setFld QY_AUDIT.LAST_PIN pin p)
  let d2 := if counted then
      (d1.count QY_AUDIT.CONSEC p).setPhysQ p { x with run := if x.run.contains pin then x.run else pin :: x.run }
    else d1
  let d3 := d2.raiseRecs (3 * c + 2)
    [d2.recAt 0x07 (3 * c + 2) gen (t / 8) [byt 16 2 err, (144, 7, pin), byt 19 1 p]] true
  let d4 := d3.setChan c { d3.chan c with auditErr := true }
  let d5 := match (d4.chan c).cur with
    | some i => if i.stopOnFault then d4.cutOff c i 5 else d4
    | none => d4
  if counted ∧ d5.fld QY_AUDIT.CONSEC p ≥ max 1 (d5.fld QY_CFG.AUDIT_LIMIT p) ∧ (d5.physQ p).run.length ≥ 2 then d5.suspect p 1
  else d5

/-- An audit of channel c on a pin passes: the run of faults ends, and an inherited pin counts again. -/
def Dev.auditClean (d : Dev) (pin c : Nat) : Dev :=
  let p := d.physOf (c / 16)
  let x := d.physQ p
  (d.setFld QY_AUDIT.CONSEC 0 p).setPhysQ p { x with run := [], inherited := x.inherited.filter (· ≠ pin) }

/-- LAST_CAUSE and the FAULT record of pin engine n (07 R250, R253). -/
def Dev.pnFault (d : Dev) (n cause gen slot sc lane data : Nat) : Dev :=
  (d.setFld PN_ERR.LAST_CAUSE cause n).raise 0x0B (0x640 + 4 * n + 3) gen
    [byt 16 1 cause, (136, 5, slot), byt 18 1 sc, (152, 3, lane), byt 20 4 data] true

/-- An EDGE_AUDIT of pin engine n, for an edge that it wrote under PGEN `gen` (07 R251, R253). -/
def Dev.pnAudit (d : Dev) (n lane gen err : Nat) : Dev :=
  (d.count PN_ERR.AUDIT_CNT n).pnFault n 2 gen (d.fld PN_STATUS.PC n) (d.fld PN_STATUS.SC n) lane (err % 65536)

/-- An audit on a pin faults, for its driver. -/
def Dev.driverFault (d : Dev) (pin : Nat) (by_ : Driver) (t err : Nat) : Dev :=
  match by_ with
  | .channel c gen => d.auditFault pin c gen t err
  | .engine n lane gen => d.pnAudit n lane gen err

/-- An expected change of level meets its transition at time t: the error is judged against 1 ns (04 R139). -/
def Dev.auditJudge (d : Dev) (pin : Nat) (x : Expect) (t : Nat) : Dev :=
  let err : Int := (t : Int) - x.t
  if err.natAbs > 8 then d.driverFault pin x.by_ x.t (ofS 16 (max (-64) (min err 64)))
  else match x.by_ with
    | .channel c _ => d.auditClean pin c
    | .engine _ _ _ => d

/-- A change of level has been placed on a pin: it meets a transition of the last 8 ns, or waits for one. -/
def Dev.auditExpect (d : Dev) (pin : Nat) (x : Expect) : Dev :=
  let p := d.pin pin
  match p.early with
  | some (t, l) =>
    if l = x.lvl ∧ x.t ≤ t + 64 ∧ t ≤ x.t + 64 then (d.setPin pin { p with early := none }).auditJudge pin x t
    else d.setPin pin { p with early := none, expect := p.expect ++ [x] }
  | none => d.setPin pin { p with expect := p.expect ++ [x] }

/-- Time t lies within 8 ns of an edge of channel c that is placed or committed (04 R139). -/
def Dev.edgeNear (d : Dev) (pin c t : Nat) : Bool :=
  let near (x : Nat) : Bool := x ≤ t + 64 && t ≤ x + 64
  (match (d.pin pin).placed with | some x => near x | none => false) ||
    (d.quay (c / 16)).edges.any (fun e => e.ch == c && near e.t)

/-- The ball of a pin has changed its level at time t (04 R139): it meets an expected change, may precede one, or is unexpected on
a pin that a channel drives; on a pin that pin engines drive it may precede the touch of a WAITX (07 R251). -/
def Dev.auditBall (d : Dev) (pin t : Nat) (lvl : Bool) : Dev :=
  let p := d.pin pin
  match p.expect.find? (fun x => x.lvl == lvl && x.t ≤ t + 64 && t ≤ x.t + 64) with
  | some x => (d.setPin pin { p with expect := p.expect.erase x }).auditJudge pin x t
  | none =>
    match d.fld TIO_PIN.OUT_SRC pin, p.chLvl with
    | 1, some _ =>
      let c := d.fld TIO_PIN.OUT_CH pin
      if d.edgeNear pin c t then d.setPin pin { p with early := some (t, lvl) }
      else d.auditFault pin c (match (d.chan c).cur with | some i => i.gen | none => (d.chan c).shown.gen) t 0x8000
    | 2, _ => d.setPin pin { p with early := some (t, lvl) }
    | _, _ => d

/-- AUDIT_NO_TRANSITION (04 R139): 8 ns have passed since the oldest placed change of level. -/
def auditNoTransitionEff (pin : Nat) (d : Dev) : Dev :=
  let p := d.pin pin
  match p.expect with
  | x :: t => if x.t + 64 ≤ d.t8 then (d.setPin pin { p with expect := t }).driverFault pin x.by_ x.t 0x7FFF else d
  | [] => d

/-! ### Placing an edge (04 R112 to R114) -/

/-- The pin takes the level of an edge, and a change of level is audited. -/
def Dev.driveEdge (d : Dev) (e : Edge) : Dev :=
  let n := e.item.outPin
  if e.item.outEn && (e.lvl.isSome || e.toggle) && d.pinOut n e.ch then
    let p := d.pin n
    let old := p.chLvl.getD e.item.idle
    let lvl := if e.toggle then !old else e.lvl.getD old
    let d1 := d.setPin n { p with chLvl := some lvl, placed := some e.t }
    if lvl ≠ old then d1.auditExpect n { by_ := .channel e.ch e.item.gen, t := e.t, lvl := lvl } else d1
  else d

/-- What a placed edge is to its item (04 R123 to R136): PROG of the latest item, the fire source, with DONE where the item completes by it
(R142), and the end of the item. A gate's level at the end of its slot changes at its visit only. -/
def Dev.edgeDone (d : Dev) (e : Edge) : Dev :=
  let c := e.ch
  let ch := d.chan c
  let live := match ch.cur with | some i => i.gen == e.item.gen | none => false
  let step : Dev := if ch.shown.gen = e.item.gen then d.setChan c { ch with prog := (ch.prog + 1) % 2 ^ 29 } else d
  let finish (x : Dev) : Dev := if live then x.endItem c none else x
  let cnt := match ch.cur with | some i => if live then i.cnt else e.item.cnt | none => e.item.cnt
  let final := cnt ≠ 0 && (if live then decide (cnt ≤ ch.k) && decide (ch.k ≤ e.k + 1) else decide (cnt ≤ e.k + 1))
  match e.role with
  | .first =>
    match e.item.mode with
    | 1 | 9 => finish (step.fire e false live)
    | 2 => step.fire e false false
    | 3 => if e.k = 0 then d.fire e false false else d
    | 8 => (if live then step.setChan c { step.chan c with placed := true, gateOpen := true } else step).fire e false false
    | _ => (if live then d.setChan c { ch with placed := true } else d).fire e false false
  | .last =>
    match e.item.mode with
    | 3 => if final then finish (step.fire e true live) else if e.fin then step.fire e true true else step
    | 8 => finish ((if ch.gateOpen then step.setChan c { step.chan c with gateOpen := false } else d).fire e true live)
    | 2 => finish (step.fire e true live)
    | _ => finish (d.fire e true live)
  | .tick =>
    let d1 := step.divideTick c e.t
    let d2 := if final || e.fin || e.item.tickEv then d1.fire e (final || e.fin) ((final && live) || e.fin) else d1
    if final then finish d2 else d2
  | .tail => d
  | .level isOpen => d.fire e (!isOpen) false
  | .closing done =>
    let d1 := if e.item.mode = 2 then step else d
    if done then finish (d1.fire e true live) else d1.fire e true false

/-- An edge is placed at its time. -/
def Dev.placeEdge (d : Dev) (p : Nat) (e : Edge) : Dev :=
  let d1 := d.driveEdge e
  let d2 := d1.setChan e.ch { d1.chan e.ch with last := e.t / 8, lastSub := e.t % 8, late := e.late }
  let d3 := if e.late then d2.count QY_LATE.LATE_CNT p else d2
  (d3.edgeDone e).settle e.ch

/-- The time of an edge lies in this ECLK cycle or before it (04 R114). -/
def Dev.edgeDue (d : Dev) (e : Edge) : Bool := decide (e.t < d.t8 + 16)

/-- EDGE_PLACE: the edge generator of physical quay p places its committed edge i, not before its time (04 R114). -/
def edgePlaceEff (p i : Nat) (d : Dev) : Dev :=
  if p < 34 ∧ d.role p = 0 then
    let q := d.fld QY_STATUS.LOGICAL p
    match (d.quay q).edges[i]? with
    | some e => if d.edgeDue e then (d.setQuay q { d.quay q with edges := (d.quay q).edges.eraseIdx i }).placeEdge p e else d
    | none => d
  else d

/-! ### The rows -/

/-- MIRROR_COPY_DONE -/
def execMirrorCopyDone (parity : List Nat) (s : State) : Host.Outcome State Fault Refusal := s.act (mirrorCopyDoneEff parity)
/-- MIRROR_COMPARE_DONE -/
def execMirrorCompareDone (differ : Bool) (s : State) : Host.Outcome State Fault Refusal := s.act (mirrorCompareDoneEff differ)
/-- QUAY_SWITCH -/
def execQuaySwitch (s : State) : Host.Outcome State Fault Refusal := s.act quaySwitchEff
/-- NO_QUIET_TIMEOUT -/
def execNoQuietTimeout (s : State) : Host.Outcome State Fault Refusal := s.act noQuietTimeoutEff
/-- AUTO_SUB_RETRY -/
def execAutoSubRetry (s : State) : Host.Outcome State Fault Refusal := s.act autoSubRetryEff
/-- VERNIER_CAL -/
def execVernierCal (p : Nat) (result : CalResult) (s : State) : Host.Outcome State Fault Refusal := s.act (vernierCalEff p result)
/-- AUDIT_NO_TRANSITION -/
def execAuditNoTransition (pin : Nat) (s : State) : Host.Outcome State Fault Refusal := s.act (auditNoTransitionEff pin)
/-- MEASURE_TIMEOUT -/
def execMeasureTimeout (c : Nat) (s : State) : Host.Outcome State Fault Refusal := s.act (measureTimeoutEff c)
/-- WT_STALL -/
def execWtStall (n : Nat) (s : State) : Host.Outcome State Fault Refusal := s.act (wtStallEff n)

end Sys2Proof.Machine
end

