-- ==== Sys2Proof/Machine/Pins.lean ====
section
/-! DEFINITION. The TIO crossbar and the input filters (07 R222 to R226, R571): what a transition of a ball does, its delivery
to every consumer, and writes of the crossbar. Times are in 1/8 ns. -/

namespace Sys2Proof.Machine

open Sys2Proof

/-! ### Consumers -/

/-- EDGE of an axis selects a transition (02 AX_CFG: 0 and 3 rising, 1 falling, 2 both). -/
def edgeSel (sel : Nat) (lvl : Bool) : Bool := if sel = 2 then true else if sel = 1 then !lvl else lvl

/-- An event counts on COUNT axis n (02 R58). -/
def Dev.axCount (d : Dev) (n : Nat) : Dev :=
  let a := d.axis n
  d.setAxis n { a with v := (a.v + max 1 (d.fld AX_PARA.PARA n % 65536)) % 2 ^ 64 }

/-- The axes that a transition of a pin advances (02 R52 to R58). -/
def Dev.pinAxes (d : Dev) (pin : Nat) (e : InEdge) : Dev :=
  (upto 16).foldl (fun x n =>
    if n ≠ 0 ∧ x.axOn n ∧ edgeSel (x.fld AX_CFG.EDGE n) e.lvl then
      if x.axType n = 3 ∧ x.fld AX_CFG.SRC n = pin then
        x.axPulse n e.t (x.flag AX_CFG.DIR_EN n && x.pinLvl (x.fld AX_CFG.DIR_PIN n) == x.flag AX_CFG.DIR_POL n)
      else if (x.axType n = 6 ∨ x.axType n = 0) ∧ x.flag AX_CFG.SRC_IS_PIN n ∧ x.fld AX_CFG.SRC n % 128 = pin then x.axCount n
      else x
    else x) d

/-- Channel c takes inputs from a pin: its current, queued or latest ended item does. -/
def Dev.chanTakes (d : Dev) (c pin : Nat) : Bool :=
  let ch := d.chan c
  let on (i : ChItem) : Bool := i.inEn && i.inPin == pin
  (match ch.cur with | some i => on i | none => false) || (match ch.queued with | some i => on i | none => false) ||
    (match ch.ended with | some x => on x.item | none => false)

/-- A transition waits for the scan slots of the channels that take it (04 R109, R130). -/
def Dev.pinChans (d : Dev) (pin : Nat) (e : InEdge) : Dev :=
  ((d.qy.chans.map (fun x => x.1)).filter (fun c => d.chanTakes c pin)).foldl (fun x c =>
    x.setChan c { x.chan c with inputs := (x.chan c).inputs ++ [e] }) d

/-- The lanes of the pin engines see a transition (07 R236, R241). -/
def Dev.pinLanes (d : Dev) (pin : Nat) (e : InEdge) : Dev :=
  (upto 32).foldl (fun x n =>
    (upto 8).foldl (fun y k =>
      if y.lanePin n k = some pin then
        let g := y.pne n
        let i := 2 * k + (!e.lvl).toNat
        let w := y.pnWord n
        let hit := y.pnState n == 2 && pnOp w == 2 && cut w 0 3 == k && cut w 3 2 == 2 + (!e.lvl).toNat
        y.setPne n { g with
          caps := set {} g.caps i { t := e.t, n := ((get {} g.caps i).n + 1) % 65536 }, edge := g.edge || hit }
      else y) x) d

/-- An accepted transition reaches every consumer (07 R222, R225). -/
def Dev.deliverPin (d : Dev) (pin : Nat) (e : InEdge) : Dev :=
  let d1 := (d.setPin pin { d.pin pin with filt := e.lvl }).pinChans pin e
  let d2 := (upto 8).foldl (fun x n => x.wtPin n pin e) d1
  (d2.pinAxes pin e).pinLanes pin e

/-! ### The filter (07 R225, R226) -/

/-- The filter time of a pin, 1/8 ns. -/
def Dev.filtLen (d : Dev) (pin : Nat) : Nat := d.fld TIO_PIN.FILT pin * (if d.flag TIO_PIN.FUNIT pin then 8000 else 64)

/-- The axes as a capture `tap` × 125 ps into this ECLK cycle samples them (02 R63, R64): at the last TCLK boundary at or before it. -/
def Dev.sampleAxes (d0 : Dev) (tap : Nat) : List AxisCap :=
  let d := if tap < 8 then d0 else d0.tclk
  ((upto 16).filter (fun n => n ≠ 0 && d.axOn n)).map (fun n =>
    { n := n, v := d.axValue n, q := d.axQuality n, rev := d.axReverse n })

/-- A level meets the filter of a pin, `tap` × 125 ps into this cycle: a transition whose window has not ended is discarded with
the one that ends it (07 R225). -/
def Dev.filterIn (d : Dev) (pin : Nat) (lvl : Bool) (tap : Nat) : Dev :=
  let p := d.pin pin
  let e : InEdge := { t := d.t8 + tap, el := d.el8 + tap, lvl := lvl, axs := d.sampleAxes tap }
  match p.window.getLast? with
  | some w =>
    if w.lvl = lvl then d
    else if w.due.isSome ∨ w.el + d.filtLen pin ≤ e.el then d.setPin pin { p with window := p.window ++ [e] }
    else (d.setPin pin { p with window := p.window.dropLast }).count TIO_STAT.GLITCH_CNT pin
  | none => if p.filt = lvl then d else d.setPin pin { p with window := [e] }

/-- PIN_TRANSITION (07 R225, 04 R139): the audit samples the ball before IN_INV and the filter. -/
def pinTransitionEff (pin : Nat) (level : Bool) (tap : Nat) (d : Dev) : Dev :=
  if pin < 128 ∧ (d.pin pin).ball ≠ level then
    let d1 := (d.setPin pin { d.pin pin with ball := level }).auditBall pin (d.t8 + tap) level
    if d1.flag TIO_PIN.IN_DIS pin then d1 else d1.filterIn pin (level != d1.flag TIO_PIN.IN_INV pin) tap
  else d

/-- FILTER_ACCEPT: the oldest transition in the filter of a pin is delivered D_F after it occurred (07 R225). -/
def filterAcceptEff (pin : Nat) (d : Dev) : Dev :=
  let p := d.pin pin
  match p.window with
  | w :: t => if w.due.getD (w.el + d.filtLen pin + 128) ≤ d.el8 then (d.setPin pin { p with window := t }).deliverPin pin w else d
  | [] => d

/-! ### The crossbar (07 R222 to R224, R571) -/

/-- The channel that OUT_CH names has an item or an edge for the pin (07 R224). -/
def Dev.pinBusy (d : Dev) (pin : Nat) : Bool :=
  let c := d.fld TIO_PIN.OUT_CH pin
  let ch := d.chan c
  let on (i : ChItem) : Bool := i.outEn && i.outPin == pin
  (match ch.cur with | some i => on i | none => false) || (match ch.queued with | some i => on i | none => false) ||
    (d.quay (c / 16)).edges.any (fun e => e.ch == c && on e.item) || ch.tails.any (fun t => on t.item) ||
    (match ch.owed with | some i => on i | none => false)

/-- The pin's output enable is on (DRIVEN of TIO_STAT). -/
def Dev.pinDriven (d : Dev) (pin : Nat) : Bool :=
  match d.fld TIO_PIN.OUT_SRC pin with
  | 1 => (d.pin pin).chLvl.isSome
  | 2 => d.peEnabled pin
  | _ => false

/-- IN_DIS takes a value (07 R223): setting it is a falling transition of a high level, at once; clearing it presents the ball's
level to the filter. -/
def Dev.writeInDis (d : Dev) (pin : Nat) (old : Bool) : Dev :=
  let now := d.flag TIO_PIN.IN_DIS pin
  if now && !old then
    let p := d.pin pin
    let d1 := d.setPin pin { p with window := [] }
    if p.filt then d1.deliverPin pin { t := d.t8, el := d.el8, lvl := false, axs := d.sampleAxes 0 } else d1
  else if now then d
  else d.filterIn pin ((d.pin pin).ball != d.flag TIO_PIN.IN_INV pin) 0

/-- The filter of a pin is about to change: what it has accepted is delivered as it was judged (07 R226). -/
def Dev.settleFilter (d : Dev) (pin : Nat) : Dev :=
  let p := d.pin pin
  let fix (w : InEdge) : InEdge := { w with due := some (w.due.getD (w.el + d.filtLen pin + 128)) }
  let last := p.window.getLast?.map (fun w => if w.el + d.filtLen pin ≤ d.el8 then fix w else w)
  d.setPin pin { p with window := p.window.dropLast.map fix ++ last.toList }

/-- TIO_PINn takes a value (07 R224): a change of OUT_SRC or OUT_CH is refused while the channel uses the pin. -/
def Dev.writePin (d : Dev) (pin v : Nat) : Dev :=
  let moved := cut v 0 2 ≠ d.fld TIO_PIN.OUT_SRC pin ∨ cut v 2 9 ≠ d.fld TIO_PIN.OUT_CH pin
  let d1 :=
    if moved then
      if d.pinBusy pin then d.setEvent TIO_STAT.REFUSED 1 pin
      else
        let x := (d.setFld TIO_PIN.OUT_SRC (cut v 0 2) pin).setFld TIO_PIN.OUT_CH (cut v 2 9) pin
        x.setPin pin { x.pin pin with chLvl := none }
    else d
  let d2 := (((d1.settleFilter pin).setFld TIO_PIN.IN_INV (cut v 12 1) pin).setFld TIO_PIN.FILT (cut v 13 8) pin).setFld TIO_PIN.FUNIT (cut v 21 1) pin
  (d2.setFld TIO_PIN.IN_DIS (cut v 11 1) pin).writeInDis pin (d.flag TIO_PIN.IN_DIS pin)

/-! ### Axis stall (02 R55) -/

/-- AXIS_STALL: no pulse for STALL_MULT × P_k on a DISTANCE or LINE axis. -/
def axisStallEff (n : Nat) (d : Dev) : Dev :=
  let a := d.axis n
  if 0 < n ∧ n < 16 ∧ d.axOn n ∧ (d.axType n = 3 ∨ d.axType n = 4) ∧ a.pulses ≥ 2 ∧
      a.tk + max 2 (d.fld AX_PARB.PARB n % 16) * a.pk ≤ d.t8 then
    d.setAxis n { a with stalled := true }
  else d

/-! ### The rows -/

/-- PIN_TRANSITION -/
def execPinTransition (pin : Nat) (level : Bool) (tap : BitVec 4) (s : State) : Host.Outcome State Fault Refusal :=
  s.act (pinTransitionEff pin level tap.toNat)
/-- FILTER_ACCEPT -/
def execFilterAccept (pin : Nat) (s : State) : Host.Outcome State Fault Refusal := s.act (filterAcceptEff pin)
/-- AXIS_STALL -/
def execAxisStall (n : Nat) (s : State) : Host.Outcome State Fault Refusal := s.act (axisStallEff n)

end Sys2Proof.Machine
end

