-- ==== Sys2Proof/Machine/PinEngine.lean ====
section
/-! DEFINITION. The pin engines (07 R227 to R257): lanes, issue, waits, FIFOs, swaps and faults. A row of an instruction acts where
the engine is RUNNING, its next tick has come, and the slot at PC holds that instruction. -/

namespace Sys2Proof.Machine

open Sys2Proof

/-! ### Lanes (07 R227 to R232) -/

/-- Lane k is the lowest of the lanes in `mask` that engine n maps to its pin. -/
def Dev.laneFirst (d : Dev) (n mask k : Nat) : Bool :=
  !(upto k).any (fun j => bit mask j && d.lanePin n j == d.lanePin n k)

/-- Lane k of engine n reaches its pin: it is enabled and the pin's source is the pin engines (07 R228). -/
def Dev.laneOut (d : Dev) (n k : Nat) : Bool :=
  match d.lanePin n k with
  | some pin => d.fld TIO_PIN.OUT_SRC pin == 2
  | none => false

/-- Pin engine n's lane k sets the level of its pin, which the pin takes at time t, 1/8 ns (07 R229, R251): of the engines that write the pin in
one ECLK cycle the lowest decides, and only its change of level is audited. -/
def Dev.pinWrite (d : Dev) (n k pin t : Nat) (lvl : Bool) : Dev :=
  let p := d.pin pin
  let now := d.tb.eclk
  let put (old : Bool) (l : List Expect) : Dev :=
    let d1 := d.setPin pin { p with peLvl := lvl, peBy := some (now, n, old, t), expect := l }
    if lvl ≠ old ∧ d1.peEnabled pin then d1.auditExpect pin { by_ := .engine n k (d.fld PN_STATUS.PGEN n), t := t, lvl := lvl } else d1
  match p.peBy with
  | some (c, m, old, u) =>
    if c ≠ now then put p.peLvl p.expect
    else if m < n then d
    else put old (p.expect.filter (fun x => !(x.t == u && match x.by_ with | .engine y _ _ => y == m | _ => false)))
  | none => put p.peLvl p.expect

/-- A write of one lane: it has no effect where it does not reach a pin (07 R227, R228). -/
def Dev.writeLane (d : Dev) (n mask k t : Nat) (lvl : Bool) : Dev :=
  match d.lanePin n k with
  | none => d
  | some pin =>
    if d.laneOut n k then
      let x := d.pne n
      let d1 := d.setPne n { x with lvl := BitVec.ofNat 8 (put x.lvl.toNat k 1 lvl.toNat) }
      if d1.laneFirst n mask k then d1.pinWrite n k pin t lvl else d1
    else d

/-- The lanes in `mask` take the levels in `lvls`. -/
def Dev.writeLanes (d : Dev) (n mask lvls t : Nat) : Dev :=
  (upto 8).foldl (fun e k => if bit mask k then e.writeLane n mask k t (bit lvls k) else e) d

/-- LANE_CNT counts the lanes that a write names and whose pin has another source (07 R228). -/
def Dev.laneMiss (d : Dev) (n named : Nat) : Dev :=
  (upto 8).foldl (fun e k => if bit named k && (d.lanePin n k).isSome && !d.laneOut n k then e.count PN_ERR.LANE_CNT n else e) d

/-- Own lane writes (mask, levels) with touch k of the running program after them (07 R232): enables, then levels. -/
def Dev.laneAndTouch (d : Dev) (n k t mask lvls : Nat) : Dev :=
  let x := d.pne n
  let e := if k = 0 then 0 else blkTouch x.prog k
  let st := cut e 0 8
  let cl := cut e 8 8
  let outs := pack ((upto 8).map (fun j => (j, 1, (d.laneOut n j).toNat)))
  let on := cut e 16 8 &&& outs
  let off := cut e 24 8 &&& outs
  let base (j : Nat) : Bool := if bit mask j then bit lvls j else x.lvl.getLsbD j
  let lvl (j : Nat) : Bool :=
    if bit st j && bit cl j then !base j else if bit st j then true else if bit cl j then false else base j
  let all := mask ||| st ||| cl
  let d0 := (d.setPne n { x with oe := (x.oe ||| BitVec.ofNat 8 on) &&& ~~~(BitVec.ofNat 8 off) }).laneMiss n (all ||| cut e 16 8 ||| cut e 24 8)
  d0.writeLanes n all (pack ((upto 8).map (fun j => (j, 1, (lvl j).toNat)))) t

/-- The filtered level of lane k, 0 where it is disabled (07 R227). -/
def Dev.laneLvl (d : Dev) (n k : Nat) : Bool :=
  match d.lanePin n k with
  | some pin => d.pinLvl pin
  | none => false

/-- The filtered levels of the eight lanes. -/
def Dev.laneBits (d : Dev) (n : Nat) : Nat := pack ((upto 8).map (fun j => (j, 1, (d.laneLvl n j).toNat)))

/-! ### FIFOs and request lines (07 R242) -/

/-- TXREQ of engine n. -/
def Dev.txReq (d : Dev) (n : Nat) : Bool := (d.pne n).tx.length ≤ min 7 (d.fld PN_FIFO.TX_WM n)

/-- RXREQ of engine n. -/
def Dev.rxReq (d : Dev) (n : Nat) : Bool := max 1 (min 8 (d.fld PN_FIFO.RX_WM n)) ≤ (d.pne n).rx.length

/-- A source of engine n rises with a PN_EVENT record (07 R250, 08 R276). -/
def Dev.pnEvent (d : Dev) (n k : Nat) : Dev := d.raise 0x0A (0x640 + 4 * n + k) (d.fld PN_STATUS.PGEN n) [byt 16 1 k]

/-- The request lines that have risen since `old` raise their sources. -/
def Dev.reqRises (d old : Dev) (n : Nat) : Dev :=
  let d1 := if d.txReq n && !old.txReq n then d.pnEvent n 1 else d
  if d.rxReq n && !old.rxReq n then d1.pnEvent n 2 else d1

/-- The RX FIFO takes words. -/
def Dev.pnPush (d : Dev) (n : Nat) (ws : List (BitVec 32)) : Dev :=
  (d.setPne n { d.pne n with rx := (d.pne n).rx ++ ws }).reqRises d n

/-- FLUSH_TX and FLUSH_RX (07 R257). -/
def Dev.pnFlush (d : Dev) (n : Nat) (tx rx : Bool) : Dev :=
  let x := d.pne n
  (d.setPne n { x with tx := if tx then [] else x.tx, rx := if rx then [] else x.rx }).reqRises d n

/-! ### Registers of the engine -/

/-- SC of engine n. -/
def Dev.pnSC (d : Dev) (n : Nat) : Nat := d.fld PN_STATUS.SC n

/-- Register code of PUSH and PULL: 0 WA, 1 WB, 2 SR, 3 CNT. -/
def PinEngine.reg (x : PinEngine) (k : Nat) : BitVec 32 :=
  match k with
  | 0 => x.wa
  | 1 => x.wb
  | 2 => x.sr
  | _ => x.cnt.zeroExtend 32

/-- That register written. -/
def PinEngine.setReg (x : PinEngine) (k : Nat) (v : BitVec 32) : PinEngine :=
  match k with
  | 0 => { x with wa := v }
  | 1 => { x with wb := v }
  | 2 => { x with sr := v }
  | _ => { x with cnt := v.truncate 16 }

/-- PC goes to a slot, and the next issue is `ticks` ticks away. -/
def Dev.pnGo (d : Dev) (n pc ticks : Nat) : Dev :=
  (d.setFld PN_STATUS.PC (pc % 32) n).setPne n { d.pne n with slack := ticks }

/-- PC falls through. -/
def Dev.pnFall (d : Dev) (n ticks : Nat) : Dev := d.pnGo n (d.fld PN_STATUS.PC n + 1) ticks

/-- SWAP_PROGRAM completes at its swap (07 R249, 09 R316). -/
def Dev.swapReport (d : Dev) (c : Option Cmd) (old new bitsLost : Nat) (wait : Bool) : Dev :=
  match c with
  | some c => d.finishAt c 0 new d.ns [byt 22 2 old, byt 24 2 new, byt 26 1 bitsLost, (216, 1, wait.toNat)]
  | none => d

/-- The shadow program becomes active (07 R246), forced or at a swap point. -/
def Dev.swapNow (d : Dev) (n : Nat) (forced : Bool) : Dev :=
  match (d.pne n).shadow with
  | none => d
  | some sh =>
    let old := d.fld PN_STATUS.PGEN n
    let sc := d.pnSC n
    let lost := forced && sc ≠ 0
    let wait := d.pnState n == 2
    let d1 := if lost then
        ((d.count PN_ERR.ABANDON_CNT n).pnFault n 1 old (d.fld PN_STATUS.PC n) sc 0 (d.pne n).sr.toNat).setFld PN_STATUS.SC 0 n
      else d
    let x := d1.pne n
    let y := if blkClear sh.prog then { x with wa := 0, wb := 0, sr := 0, cnt := 0 } else x
    let new := nextGen old
    let d2 := ((((d1.setFld PN_STATUS.STATE 1 n).setFld PN_STATUS.SWAP_PEND 0 n).setFld PN_STATUS.PC (blkStart sh.prog) n).setFld
      PN_STATUS.PGEN new n).setPne n
        { y with prog := sh.prog, shadow := none, acc := 0, slack := 0, caps := [], edge := false, tmo := false, bound := none, wxDone := false }
    d2.swapReport sh.cmd old new (if lost then sc else 0) wait

/-- A STOPPED or FAULT engine takes a swap that pends at once (07 R245). -/
def Dev.swapIfStill (d : Dev) (n : Nat) : Dev :=
  if d.pnState n = 0 ∨ d.pnState n = 3 then d.swapNow n false else d

/-- The issue of an instruction with opcode `op`: its effect, or a parity fault (07 R252). -/
def Dev.pnIssue (d : Dev) (n op : Nat) (parity : Bool) (f : Nat → Dev → Dev) : Dev :=
  let w := d.pnWord n
  if n < 32 ∧ d.pnState n = 1 ∧ (d.pne n).slack = 0 ∧ pnOp w = op then
    if parity then
      ((d.setFld PN_STATUS.STATE 3 n).pnFault n 3 (d.fld PN_STATUS.PGEN n) (d.fld PN_STATUS.PC n) (d.pnSC n) 0 0).swapIfStill n
    else f w d
  else d

/-- TOUCH of an instruction. -/
def pnTouch (w : Nat) : Nat := cut w 9 3

/-- The touch of an instruction that issues now, with its own lane writes; the level reaches the pin T_PN later (07 R231). -/
def Dev.pnTouchNow (d : Dev) (n w : Nat) (mask lvls : Nat := 0) : Dev := d.laneAndTouch n (pnTouch w) (d.t8 + 64) mask lvls

/-- Engine n stays at the slot, waiting. -/
def Dev.pnWait (d : Dev) (n : Nat) : Dev :=
  (d.setFld PN_STATUS.STATE 2 n).setPne n { d.pne n with edge := false, tmo := false, bound := none, wxDone := false }

/-- A wait ends: a reference edge, then the next slot a tick later (07 R230). -/
def Dev.pnResume (d : Dev) (n : Nat) : Dev :=
  ((d.setFld PN_STATUS.STATE 1 n).setPne n { d.pne n with acc := 0, edge := false, tmo := false, bound := none, wxDone := false }).pnFall n 1

/-! ### Instructions that do not wait (07 R233 to R239) -/

/-- PN_DLY. -/
def pnDlyEff (n : Nat) (parity : Bool) (d : Dev) : Dev :=
  d.pnIssue n 0x0 parity (fun w e => (e.pnTouchNow n w).pnFall n (cut w 0 9 + 1))

/-- The conditions of JMP (07 R234). -/
def Dev.pnCond (d : Dev) (n c : Nat) : Bool :=
  let x := d.pne n
  match c with
  | 0x0 => true
  | 0x1 => x.wa == 0
  | 0x2 => x.wa != 0
  | 0x3 => x.cnt == 0
  | 0x4 => x.cnt != 0
  | 0x5 => d.pnSC n == 0
  | 0x6 => d.pnSC n != 0
  | 0x7 => x.sr.getLsbD 0
  | 0x8 => !x.sr.getLsbD 0
  | 0x9 => d.laneLvl n (blkJLane x.prog)
  | 0xA => !d.laneLvl n (blkJLane x.prog)
  | 0xB => d.flagOn (blkJFlag x.prog)
  | 0xC => !d.flagOn (blkJFlag x.prog)
  | 0xD => x.tx.isEmpty
  | 0xE => x.rx.length ≥ 8
  | _ => x.wxLate

/-- PN_JMP. -/
def pnJmpEff (n : Nat) (parity : Bool) (d : Dev) : Dev :=
  d.pnIssue n 0x1 parity (fun w e =>
    let e1 := e.pnTouchNow n w
    if e.pnCond n (cut w 5 4) then e1.pnGo n (cut w 0 5) 1 else e1.pnFall n 1)

/-- PN_OUT (07 R239). -/
def pnOutEff (n : Nat) (parity : Bool) (d : Dev) : Dev :=
  d.pnIssue n 0x8 parity (fun w e =>
    if e.pnSC n = 0 then (e.pnTouchNow n w).pnFall n 1
    else
      let x := e.pne n
      let msb := bit w 3
      let lvl := if msb then x.sr.getLsbD 31 else x.sr.getLsbD 0
      let k := cut w 0 3
      let e1 := (e.setPne n { x with sr := if msb then x.sr <<< 1 else x.sr >>> 1 }).setFld PN_STATUS.SC (e.pnSC n - 1) n
      (e1.pnTouchNow n w (2 ^ k) (lvl.toNat * 2 ^ k)).pnFall n 1)

/-- PN_IN (07 R239). -/
def pnInEff (n : Nat) (parity : Bool) (d : Dev) : Dev :=
  d.pnIssue n 0x9 parity (fun w e =>
    let x := e.pne n
    let b := BitVec.ofNat 32 (e.laneLvl n (cut w 0 3)).toNat
    let sr := if bit w 3 then (x.sr <<< 1) ||| b else (x.sr >>> 1) ||| (b <<< 31)
    (((e.setPne n { x with sr := sr }).setFld PN_STATUS.SC (min 32 (e.pnSC n + 1)) n).pnTouchNow n w).pnFall n 1)

/-- PN_LDI. -/
def pnLdiEff (n : Nat) (parity : Bool) (d : Dev) : Dev :=
  d.pnIssue n 0xA parity (fun w e =>
    let k := match cut w 7 2 with | 0 => 0 | 1 => 1 | 2 => 3 | _ => 2
    ((e.setPne n ((e.pne n).setReg k (BitVec.ofNat 32 (cut w 0 7)))).pnTouchNow n w).pnFall n 1)

/-- A source of MOV (07 R235). -/
def Dev.movSrc (d : Dev) (n s : Nat) : BitVec 32 :=
  let x := d.pne n
  match s with
  | 0 | 1 | 2 | 3 => x.reg s
  | 4 => BitVec.ofNat 32 (d.laneBits n)
  | 5 => blkConst x.prog 0
  | 6 => blkConst x.prog 1
  | _ => 0

/-- The operation of MOV on its source (07 R235). -/
def movOp (wa s : BitVec 32) (op : Nat) : BitVec 32 :=
  match op with
  | 0 => s
  | 1 => ~~~s
  | 2 => s >>> 4
  | 3 => s + 1
  | 4 => s - 1
  | 5 => wa + s
  | 6 => wa ^^^ s
  | _ => wa &&& s

/-- PN_MOV. -/
def pnMovEff (n : Nat) (parity : Bool) (d : Dev) : Dev :=
  d.pnIssue n 0xB parity (fun w e =>
    let v := movOp (e.pne n).wa (e.movSrc n (cut w 3 3)) (cut w 0 3)
    let e1 := match cut w 6 3 with
      | 0 | 1 | 2 | 3 => (e.setPne n ((e.pne n).setReg (cut w 6 3) v)).pnTouchNow n w
      | 4 => e.pnTouchNow n w 0xFF (v.toNat % 256)
      | _ => e.pnTouchNow n w
    e1.pnFall n 1)

/-- PN_DJNZ. -/
def pnDjnzEff (n : Nat) (parity : Bool) (d : Dev) : Dev :=
  d.pnIssue n 0xC parity (fun w e =>
    let k := if bit w 5 then 1 else 3
    let x := (e.pne n).setReg k ((e.pne n).reg k - 1)
    let e1 := (e.setPne n x).pnTouchNow n w
    if x.reg k = 0 then e1.pnFall n 1 else e1.pnGo n (cut w 0 5) 1)

/-- PN_SIG. -/
def pnSigEff (n : Nat) (parity : Bool) (d : Dev) : Dev :=
  d.pnIssue n 0xD parity (fun w e =>
    let e1 := match cut w 0 2 with
      | 0 => e.pnEvent n 0
      | 2 => e.setSf (cut w 4 5) true none
      | 3 => e.setSf (cut w 4 5) false none
      | _ => e
    (e1.pnTouchNow n w).pnFall n 1)

/-- PN_END. -/
def pnEndEff (n : Nat) (parity : Bool) (d : Dev) : Dev :=
  d.pnIssue n 0xF parity (fun w e =>
    let e1 := (e.pnTouchNow n w).setFld PN_STATUS.STATE 0 n
    (if bit w 0 then e1.pnEvent n 0 else e1).swapIfStill n)

/-! ### PUSH, PULL and CAPT (07 R239 to R241) -/

/-- The three words of CAPT. -/
def Dev.captWords (d : Dev) (n w : Nat) : List (BitVec 32) :=
  let k := cut w 0 3
  let f := cut w 4 1
  let c := get {} (d.pne n).caps (2 * k + f)
  if c.n = 0 ∧ c.t = 0 then [0, 0, 0]
  else [BitVec.ofNat 32 (c.t / 8), BitVec.ofNat 32 (c.t / 8 / 2 ^ 32),
    BitVec.ofNat 32 (pack [(0, 3, c.t % 8), (3, 1, f), (4, 3, k), (16, 16, c.n)])]

/-- A PUSH, PULL or CAPT that can complete does, a CAPT with the words of its issue (R241); otherwise none. -/
def Dev.pnMove (d : Dev) (n w : Nat) (capt : List (BitVec 32)) : Option Dev :=
  let x := d.pne n
  match pnOp w with
  | 0x6 =>
    if x.rx.length < 8 then
      let d1 := d.pnPush n [x.reg (cut w 1 2)]
      some (if cut w 1 2 = 2 then d1.setFld PN_STATUS.SC 0 n else d1)
    else none
  | 0x7 =>
    match x.tx with
    | v :: t =>
      let d1 := (d.setPne n ({ x with tx := t }.setReg (cut w 1 2) v)).reqRises d n
      some (if cut w 1 2 = 2 then d1.setFld PN_STATUS.SC (blkShift x.prog) n else d1)
    | [] => none
  | _ => if x.rx.length ≤ 5 then some (d.pnPush n capt) else none

/-- The non-blocking form where the FIFO does not serve it (07 R240, R241). -/
def Dev.pnMiss (d : Dev) (n w : Nat) : Dev :=
  if pnOp w = 0x7 then
    let d1 := d.count PN_CNT.STALE_CNT n
    if cut w 1 2 = 2 then d1.setFld PN_STATUS.SC (blkShift (d.pne n).prog) n else d1
  else
    let d1 := d.count PN_CNT.DROP_CNT n
    if pnOp w = 0x6 ∧ cut w 1 2 = 2 then d1.setFld PN_STATUS.SC 0 n else d1

/-- NB of PUSH, PULL or CAPT. -/
def pnNb (w : Nat) : Bool := if pnOp w = 0xE then bit w 3 else bit w 0

/-- The issue of PUSH, PULL or CAPT: it completes, carries on (NB), or waits. -/
def Dev.pnFifo (d : Dev) (n w : Nat) : Dev :=
  match d.pnMove n w (d.captWords n w) with
  | some e => (e.pnTouchNow n w).pnFall n 1
  | none =>
    if pnNb w then ((d.pnMiss n w).pnTouchNow n w).pnFall n 1
    else (d.setPne n { d.pne n with capt := d.captWords n w }).pnWait n

/-- PN_PUSH. -/
def pnPushEff (n : Nat) (parity : Bool) (d : Dev) : Dev := d.pnIssue n 0x6 parity (fun w e => e.pnFifo n w)

/-- PN_PULL. -/
def pnPullEff (n : Nat) (parity : Bool) (d : Dev) : Dev := d.pnIssue n 0x7 parity (fun w e => e.pnFifo n w)

/-- PN_CAPT. -/
def pnCaptEff (n : Nat) (parity : Bool) (d : Dev) : Dev := d.pnIssue n 0xE parity (fun w e => e.pnFifo n w)

/-- PN_BLOCK_RELEASE (07 R230, R240): a blocked PUSH, PULL or CAPT completes, with its touch. -/
def pnBlockReleaseEff (n : Nat) (d : Dev) : Dev :=
  let w := d.pnWord n
  if n < 32 ∧ d.pnState n = 2 ∧ (pnOp w = 0x6 ∨ pnOp w = 0x7 ∨ pnOp w = 0xE) then
    match d.pnMove n w (d.pne n).capt with
    | some e => (e.pnTouchNow n w).pnResume n
    | none => d
  else d

/-! ### Waits (07 R236 to R238) -/

/-- PN_WAITP. -/
def pnWaitpEff (n : Nat) (parity : Bool) (d : Dev) : Dev := d.pnIssue n 0x2 parity (fun _ e => e.pnWait n)

/-- PN_WAITF. -/
def pnWaitfEff (n : Nat) (parity : Bool) (d : Dev) : Dev := d.pnIssue n 0x3 parity (fun _ e => e.pnWait n)

/-- PN_WAITE. -/
def pnWaiteEff (n : Nat) (parity : Bool) (d : Dev) : Dev := d.pnIssue n 0x4 parity (fun _ e => e.pnWait n)

/-- PN_WAITX. -/
def pnWaitxEff (n : Nat) (parity : Bool) (d : Dev) : Dev := d.pnIssue n 0x5 parity (fun _ e => e.pnWait n)

/-- The condition of the wait at PC holds. -/
def Dev.pnMet (d : Dev) (n w : Nat) : Bool :=
  let x := d.pne n
  match pnOp w with
  | 0x2 =>
    match cut w 3 2 with
    | 0 => !d.laneLvl n (cut w 0 3)
    | 1 => d.laneLvl n (cut w 0 3)
    | _ => x.edge
  | 0x3 => d.flagOn (cut w 0 5) == bit w 5
  | 0x4 => x.latch.getLsbD (cut w 0 2)
  | 0x5 => x.wxDone
  | _ => false

/-- PN_WAIT_SATISFIED (07 R236 to R238): a latch or flag that the wait clears, the touch (WAITX has placed its own), and the
reference edge. -/
def pnWaitSatisfiedEff (n : Nat) (d : Dev) : Dev :=
  let w := d.pnWord n
  if n < 32 ∧ d.pnState n = 2 ∧ d.pnMet n w then
    let x := d.pne n
    let d1 := match pnOp w with
      | 0x3 => if bit w 6 then d.setSf (cut w 0 5) false none else d
      | 0x4 => d.setPne n { x with latch := BitVec.ofNat 4 (put x.latch.toNat (cut w 0 2) 1 0) }
      | _ => d
    (if pnOp w = 0x5 then d1 else d1.pnTouchNow n w).pnResume n
  else d

/-- PN_WAIT_TIMEOUT (07 R236): CNT has reached 0 in a wait with TMO; no touch, unless the condition holds in the same cycle (R255). -/
def pnWaitTimeoutEff (n : Nat) (d : Dev) : Dev :=
  let w := d.pnWord n
  if n < 32 ∧ d.pnState n = 2 ∧ (pnOp w = 0x2 ∨ pnOp w = 0x3 ∨ pnOp w = 0x4) ∧ bit w 8 ∧ (d.pne n).tmo then
    if d.pnMet n w then pnWaitSatisfiedEff n d else d.pnResume n
  else d

/-- The event of a SOFT channel has been placed: bound engines' touches take effect at its time (07 R238). -/
def Dev.waitxPlaced (d : Dev) (e : Edge) : Dev :=
  if e.item.mode = 9 then
    (upto 32).foldl (fun x n =>
      let g := x.pne n
      let w := x.pnWord n
      if x.pnState n = 2 ∧ pnOp w = 5 ∧ cut w 0 9 = e.ch ∧ g.bound = some e.item.gen ∧ g.wxDone = false then
        (x.setPne n { g with wxDone := true, wxLate := e.late }).laneAndTouch n (pnTouch w) e.t 0 0
      else x) d
  else d

/-- EDGE_PLACE with the touches bound to the event. -/
def edgePlaceAllEff (p i : Nat) (d : Dev) : Dev :=
  if p < 34 ∧ d.role p = 0 then
    match (d.quay (d.fld QY_STATUS.LOGICAL p)).edges[i]? with
    | some e => if d.edgeDue e then (edgePlaceEff p i d).waitxPlaced e else d
    | none => d
  else d

/-- A source that a pin engine watches has risen (07 R237). -/
def Dev.pnLatch (d : Dev) (s : Nat) : Dev :=
  (d.pn.map (fun e => e.1)).foldl (fun e n =>
    (upto 4).foldl (fun y k =>
      let x := y.pne n
      if blkEvsel x.prog k = some s then y.setPne n { x with latch := BitVec.ofNat 4 (put x.latch.toNat k 1 1) } else y) e) d

/-! ### Ticks (07 R230) -/

/-- One ECLK cycle of engine n. -/
def Dev.pnTick (d : Dev) (n : Nat) : Dev :=
  let x := d.pne n
  let st := d.pnState n
  if st = 1 ∨ st = 2 then
    let r := blkRate x.prog
    let sum := x.acc.toNat + r
    let x1 := { x with acc := BitVec.ofNat 32 sum }
    if r = 0 ∨ sum ≥ 2 ^ 32 then
      let w := d.pnWord n
      if st = 1 then d.setPne n { x1 with slack := x1.slack - 1 }
      else if (pnOp w = 0x2 ∨ pnOp w = 0x3 ∨ pnOp w = 0x4) ∧ bit w 8 ∧ x1.tmo = false then
        d.setPne n { x1 with cnt := x1.cnt - 1, tmo := x1.cnt == 1 }
      else d.setPne n x1
    else d.setPne n x1
  else d

/-! ### Swaps (07 R243 to R249) -/

/-- An instruction with a nonzero bit marked 0, or that R244 names as FORMAT. -/
def slotBad (w : Nat) : Bool :=
  let o := cut w 0 9
  match pnOp w with
  | 0x2 => cut o 5 3 ≠ 0
  | 0x3 => cut o 7 1 ≠ 0 || (bit o 6 && !bit o 5)
  | 0x4 => cut o 2 6 ≠ 0
  | 0x6 | 0x7 => cut o 3 6 ≠ 0
  | 0x8 | 0x9 => cut o 4 5 ≠ 0
  | 0xB => cut o 6 3 == 5 || cut o 6 3 == 6
  | 0xC => cut o 6 3 ≠ 0
  | 0xD => cut o 2 2 ≠ 0 || cut o 0 2 == 1
  | 0xE => cut o 5 4 ≠ 0
  | 0xF => cut o 1 8 ≠ 0
  | _ => false

/-- A program block fails FORMAT (07 R243, R244). -/
def blockBad (p : BitVec 1024) : Bool :=
  (upto 32).any (fun k => slotBad (blkSlot p k)) ||
  (upto 7).any (fun k => cut (blkTouch p (k + 1)) 16 8 &&& cut (blkTouch p (k + 1)) 24 8 ≠ 0) ||
  bits p 773 3 ≠ 0 || blkShift p == 0 || blkShift p > 32 || bits p 793 7 ≠ 0 ||
  (upto 4).any (fun k => bits p (896 + 16 * k + 12) 3 ≠ 0) || bits p 960 64 ≠ 0

/-- The quays of the channels that a block's WAITX instructions name (07 R244). -/
def blockQuays (p : BitVec 1024) : List Nat :=
  ((upto 32).filter (fun k => pnOp (blkSlot p k) == 5)).map (fun k => cut (blkSlot p k) 0 9 / 16)

/-- SWAP_DEADLINE of engine n from now, ns of ECLK time (07 R247). -/
def Dev.swapDue (d : Dev) (n : Nat) : Nat :=
  d.ecNs + max 1 (d.fld PN_SWAP.DEADLINE n) * (if d.flag PN_SWAP.DL_UNIT n then 1000000 else 1000)

/-- A block goes to the shadow slots (07 R244, R245, R248, 01 R16): an earlier swap that pends is superseded, and a STOPPED or
FAULT engine swaps at once. -/
def Dev.shadowLoad (d : Dev) (n : Nat) (p : BitVec 1024) (c : Option Cmd) : Dev :=
  let d1 := match (d.pne n).shadow with
    | some sh => match sh.cmd with | some o => d.finish o 0x15 | none => d
    | none => d
  let due := if d1.operate then some (d1.swapDue n) else none
  let d2 := (d1.setPne n { d1.pne n with shadow := some { prog := p, cmd := c, due := due } }).setFld PN_STATUS.SWAP_PEND 1 n
  d2.swapIfStill n

/-- PN_SWAP (07 R245): a swap point of a running engine in OPERATE. -/
def pnSwapEff (n : Nat) (d : Dev) : Dev :=
  let x := d.pne n
  match x.shadow with
  | some _ =>
    if n < 32 ∧ (d.pnState n = 0 ∨ d.pnState n = 3 ∨
        (d.pnState n = 1 ∧ d.operate ∧ x.slack = 0 ∧ d.pnSC n = 0 ∧ blkBarred x.prog (d.fld PN_STATUS.PC n) = false)) then
      d.swapNow n false
    else d
  | none => d

/-- SWAP_DEADLINE_EXPIRE (07 R247): the swap is forced, but not over a WAITX whose event has committed, and after a wait whose condition
holds in the same cycle (R255). -/
def swapDeadlineExpireEff (n : Nat) (d : Dev) : Dev :=
  let x := d.pne n
  match x.shadow with
  | some sh =>
    match sh.due with
    | some t => if n < 32 ∧ d.operate ∧ t ≤ d.ecNs ∧ (x.bound.isNone ∨ x.wxDone) then (pnWaitSatisfiedEff n d).swapNow n true else d
    | none => d
  | none => d

/-- At the entry into OPERATE the deadlines of swaps that pend start (01 R17). -/
def Dev.swapsStart (d : Dev) : Dev :=
  (upto 32).foldl (fun e n =>
    match (e.pne n).shadow with
    | some sh => e.setPne n { e.pne n with shadow := some { sh with due := some (e.swapDue n) } }
    | none => e) d

/-! ### The rows -/

/-- EDGE_PLACE -/
def execEdgePlace (p i : Nat) (s : State) : Host.Outcome State Fault Refusal := s.act (edgePlaceAllEff p i)
/-- PN_DLY -/
def execPnDly (n : Nat) (parity : Bool) (s : State) : Host.Outcome State Fault Refusal := s.act (pnDlyEff n parity)
/-- PN_JMP -/
def execPnJmp (n : Nat) (parity : Bool) (s : State) : Host.Outcome State Fault Refusal := s.act (pnJmpEff n parity)
/-- PN_WAITP -/
def execPnWaitp (x : PnIssue) (s : State) : Host.Outcome State Fault Refusal := s.act (pnWaitpEff x.n x.parity)
/-- PN_WAITF -/
def execPnWaitf (x : PnIssue) (s : State) : Host.Outcome State Fault Refusal := s.act (pnWaitfEff x.n x.parity)
/-- PN_WAITE -/
def execPnWaite (x : PnIssue) (s : State) : Host.Outcome State Fault Refusal := s.act (pnWaiteEff x.n x.parity)
/-- PN_WAITX -/
def execPnWaitx (x : PnIssue) (s : State) : Host.Outcome State Fault Refusal := s.act (pnWaitxEff x.n x.parity)
/-- PN_PUSH -/
def execPnPush (x : PnIssue) (s : State) : Host.Outcome State Fault Refusal := s.act (pnPushEff x.n x.parity)
/-- PN_PULL -/
def execPnPull (x : PnIssue) (s : State) : Host.Outcome State Fault Refusal := s.act (pnPullEff x.n x.parity)
/-- PN_OUT -/
def execPnOut (n : Nat) (parity : Bool) (s : State) : Host.Outcome State Fault Refusal := s.act (pnOutEff n parity)
/-- PN_IN -/
def execPnIn (n : Nat) (parity : Bool) (s : State) : Host.Outcome State Fault Refusal := s.act (pnInEff n parity)
/-- PN_LDI -/
def execPnLdi (x : PnIssue) (s : State) : Host.Outcome State Fault Refusal := s.act (pnLdiEff x.n x.parity)
/-- PN_MOV -/
def execPnMov (n : Nat) (parity : Bool) (s : State) : Host.Outcome State Fault Refusal := s.act (pnMovEff n parity)
/-- PN_DJNZ -/
def execPnDjnz (x : PnIssue) (s : State) : Host.Outcome State Fault Refusal := s.act (pnDjnzEff x.n x.parity)
/-- PN_SIG -/
def execPnSig (x : PnIssue) (s : State) : Host.Outcome State Fault Refusal := s.act (pnSigEff x.n x.parity)
/-- PN_CAPT -/
def execPnCapt (x : PnIssue) (s : State) : Host.Outcome State Fault Refusal := s.act (pnCaptEff x.n x.parity)
/-- PN_END -/
def execPnEnd (x : PnIssue) (s : State) : Host.Outcome State Fault Refusal := s.act (pnEndEff x.n x.parity)
/-- PN_WAIT_SATISFIED -/
def execPnWaitSatisfied (n : Nat) (s : State) : Host.Outcome State Fault Refusal := s.act (pnWaitSatisfiedEff n)
/-- PN_WAIT_TIMEOUT -/
def execPnWaitTimeout (n : Nat) (s : State) : Host.Outcome State Fault Refusal := s.act (pnWaitTimeoutEff n)
/-- PN_BLOCK_RELEASE -/
def execPnBlockRelease (n : Nat) (s : State) : Host.Outcome State Fault Refusal := s.act (pnBlockReleaseEff n)
/-- PN_SWAP -/
def execPnSwap (n : Nat) (s : State) : Host.Outcome State Fault Refusal := s.act (pnSwapEff n)
/-- SWAP_DEADLINE_EXPIRE -/
def execSwapDeadlineExpire (n : Nat) (s : State) : Host.Outcome State Fault Refusal := s.act (swapDeadlineExpireEff n)

end Sys2Proof.Machine
end

