-- ==== Sys2Proof/Machine/Time.lean ====
section
/-! DEFINITION. The timebase (02 R34 to R49, 13 R447 to R449), changes of an axis (02 R59 to R62), reference clocks (01 R13, R14,
13 R450) and the modes (01 R20 to R22), with the meanings of their rows. -/

namespace Sys2Proof.Machine

open Sys2Proof

/-! ### Counting (02 R34) -/

/-- SLEW_COMPLETE (02 R34): the TCLK period in which the remaining correction reaches zero. -/
def slewCompleteEff (d : Dev) : Dev := if d.rem ≠ 0 ∧ d.rem.natAbs ≤ d.slewWord then d.tclk else d

/-! ### Discipline (02 R37 to R42) -/

/-- The three accumulators take a rate word and a remaining correction. -/
def Dev.setRates (d : Dev) (rate rem : Int) : Dev :=
  let put (a : Accum) : Accum := { a with rate := BitVec.ofInt 48 rate, rem := rem }
  { d with tb := { d.tb with a0 := put d.tb.a0, a1 := put d.tb.a1, a2 := put d.tb.a2 } }

/-- An accepted request (02 R47, R48): the timeout runs from now, and AX0 is LOCKED with the UNC given. -/
def Dev.locked (d : Dev) (unc : Nat) : Dev :=
  let d1 : Dev := { d with tb := { d.tb with ref := d.tb.elapsed, uncBase := unc, uncAt := d.tb.elapsed } }
  d1.setAx0State 1

/-- A DISCIPLINE request from the selected source (02 R38 to R40): its status, and the part after it. -/
def Dev.discipline (d : Dev) (rateMode : Bool) (rate corr : Int) (corrMode unc seq : Nat) : Nat × Dev :=
  let newRate := if rateMode then d.rate + rate else rate
  let c := corr * 2 ^ 32
  let newRem := match corrMode with | 1 => c | 2 => d.rem + c | _ => d.rem
  if d.fld AX0_STATUS.STATE = 3 then (0x13, d)
  else if seq ≠ d.fld AX0_STATUS.STEP_COUNT then (0x08, d)
  else if newRate.natAbs > 140737488355 ∨ (newRate - d.rate).natAbs * 1000000 > d.fld AX0_SLEW.RSTEP_PPM * 2 ^ 48 ∨
      newRem.natAbs > 2 ^ 79 ∨ corrMode = 3 then (0x01, d)
  else (0, (d.setRates newRate newRem).locked unc)

/-- AX0_DSRC accepts DISCIPLINE commands of the driver. -/
def Dev.dsrcDriver (d : Dev) : Bool := d.fld AX0_DSRC.SRC == 0

/-- AX0_DSRC accepts the requests of logical engine n. -/
def Dev.dsrcEngine (d : Dev) (n : Nat) : Bool := d.fld AX0_DSRC.SRC == 1 && d.fld AX0_DSRC.ENGINE == n

/-- AX0_DSRC accepts the servo of the upstream causeway port. -/
def Dev.dsrcCauseway (d : Dev) : Bool := d.fld AX0_DSRC.SRC == 2

/-! ### Stepping (02 R43 to R46) -/

/-- AX0 after a step, 2^-48 ns: of a relative one, from AX0 as it is when the step's record is composed (02 R45; DEDUCED, log 22). -/
def Dev.stepValue (d : Dev) (r : StepReq) : Nat :=
  if r.rel then ofS 80 (((d.ax0 >>> 32 : Nat) : Int) + toS 80 r.value) * 2 ^ 32
  else r.value % 2 ^ 80 * 2 ^ 32

/-- The accumulators that a STEP_TIME reloads for a watch: those under repair, or every working one after 13 R449. -/
def stepWatch (all : Bool) (now : Nat) (a : Accum) (working : Bool) : Accum :=
  if working ∧ (a.watching ∨ all) then { a with watching := true, watchAt := now } else a

/-- Accumulator i works (13 R448). -/
def Dev.accWorks (d : Dev) (i : Nat) : Bool := d.fld AX0_REPAIR.RETIRED ≠ i + 1

/-! ### What a step does not touch (02 R32, R33, R46): the AX0 times that are kept as marks of the past move with AX0, so that axes run on
and what has begun keeps its elapsed time -/

/-- A channel when AX0 steps by so many 1/8 ns and 2^-16 ns. -/
def Chan.stepped (ch : Chan) (s8 s16 : Int) : Chan :=
  { ch with
    since := ch.since + s8, startT := ch.startT + s8, closeT := ch.closeT.map (· + s8), lastEdge := ch.lastEdge.map (· + s8)
    inputs := ch.inputs.map (fun e => { e with off := e.off + s8 })
    ended := ch.ended.map (fun x => { x with from_ := x.from_ + s8, until_ := x.until_ + s8 })
    load := ch.load.map (fun x => (x.1 + s16, x.2)) }

/-- A logical quay's committed edges are placed when they would have been (04 R112). -/
def Quay.stepped (q : Quay) (s8 : Int) : Quay := { q with edges := q.edges.map (fun e => { e with t := (e.t + s8).toNat }) }

/-- A pin's waiting transitions and audits. -/
def Pin.stepped (p : Pin) (s8 : Int) : Pin :=
  { p with
    window := p.window.map (fun e => { e with off := e.off + s8 })
    expect := p.expect.map (fun x => { x with t := (x.t + s8).toNat })
    early := p.early.map (fun x => ((x.1 + s8).toNat, x.2))
    placed := p.placed.map (fun t => (t + s8).toNat) }

/-- A tracker. -/
def Tracker.stepped (t : Tracker) (s8 s16 : Int) : Tracker :=
  { t with
    tk := t.tk + s16, lastEdge := t.lastEdge.map (· + s8), lastTooth := t.lastTooth.map (· + s8)
    inbox := t.inbox.map (fun x => (x.1, { x.2 with off := x.2.off + s8 }))
    ph := { t.ph with t := t.ph.t.map (· + s8), at_ := t.ph.at_ + s8 } }

/-- A counting axis; a REMOTE axis keeps its publisher's times and only does not fall, but where it copies a time or runs in reverse. -/
def Axis.stepped (a : Axis) (ax0 elNs : Nat) (s8 : Int) : Axis :=
  let r := a.remote
  let holds := r.seen && !r.rev && (r.typ == 2 || r.typ == 3 || r.typ == 4)
  { a with tk := a.tk + s8, remote := if holds then { r with held := max r.held (r.now ax0 elNs) } else r }

/-- AX0 steps to a value, 2^-48 ns. -/
def Dev.rebase (d : Dev) (v : Nat) : Dev :=
  let s8 : Int := (v >>> 45 : Nat) - (d.t8 : Int)
  let s16 : Int := (v >>> 32 : Nat) - (d.t16 : Int)
  { d with
    qy := { d.qy with chans := mapTbl {} (fun c => c.stepped s8 s16) d.qy.chans, quays := mapTbl {} (fun q => q.stepped s8) d.qy.quays }
    pins := mapTbl {} (fun p => p.stepped s8) d.pins
    trk := mapTbl {} (fun t => t.stepped s8 s16) d.trk
    axes := mapTbl {} (fun a => a.stepped d.ax0 d.elNs s8) d.axes }

/-- Steps 2 to 8 of 02 R45, and the COMPLETION (09 R316). -/
def Dev.stepApply (d : Dev) (r : StepReq) : Dev :=
  let old := r.old
  let v := r.new
  let now := d.ecNs
  let load (i : Nat) (a : Accum) : Accum := stepWatch d.tb.lost now { a with val := BitVec.ofNat 112 v, rem := 0 } (d.accWorks i)
  let d0 := d.rebase v
  let d1 : Dev := { d0 with tb := { d.tb with a0 := load 0 d.tb.a0, a1 := load 1 d.tb.a1, a2 := load 2 d.tb.a2, lost := false } }
  let d2 := if d.tb.lost then d1.setFld AX0_REPAIR.REPAIRING 1 else d1
  let d3 := ((d2.setFld AX0_STATUS.STEP_COUNT ((d.fld AX0_STATUS.STEP_COUNT + 1) % 256)).locked r.unc).setFault SYS_FAULT.AX0_INVALID false
  let d4 := d3.setFld SYS_MODE.STEPPED 1
  let stepRec := d4.recAt 0x09 r.cmd.ring 0 d4.ns [byt 16 2 d4.frac16, byt 18 1 (d4.fld AX0_STATUS.STEP_COUNT),
    (152, 1, r.force.toNat), (153, 1, r.rel.toNat), byt 20 8 (old / 2 ^ 48), byt 28 2 (old / 2 ^ 32 % 65536), byt 30 1 r.cmd.fn]
  let d5 := d4.generate (d4.fld CQ_CFG.CQ_HQ r.cmd.ring) { recs := [stepRec] }
  d5.finish r.cmd 0 [byt 22 1 (d5.fld AX0_STATUS.STEP_COUNT), byt 23 1 (d5.fld AX0_STATUS.STATE)]

/-! ### Voting (02 R35, 13 R447 to R449) -/

/-- VOTE_FAULT, source 0x7D9, rises (13 R467). -/
def Dev.raiseVote (d : Dev) (event acc attempts xor : Nat) : Dev :=
  d.raiseSys 0x7D9 [byt 16 1 event, byt 17 1 acc, byt 18 1 attempts, byt 20 8 xor]

/-- Accumulator i. -/
def Dev.accum (d : Dev) (i : Nat) : Accum := match i with | 0 => d.tb.a0 | 1 => d.tb.a1 | _ => d.tb.a2

/-- The part with accumulator i replaced. -/
def Dev.setAccum (d : Dev) (i : Nat) (a : Accum) : Dev :=
  match i with
  | 0 => { d with tb := { d.tb with a0 := a } }
  | 1 => { d with tb := { d.tb with a1 := a } }
  | _ => { d with tb := { d.tb with a2 := a } }

/-- Some accumulator is under repair. -/
def Dev.anyWatch (d : Dev) : Bool := d.tb.a0.watching || d.tb.a1.watching || d.tb.a2.watching

/-- Every working accumulator takes one value, and AX0 is INVALID (13 R449). -/
def Dev.invalidate (d : Dev) (v : BitVec 112) : Dev :=
  let put (a : Accum) : Accum := { a with val := v, watching := false }
  let d1 : Dev := { d with tb := { d.tb with a0 := put d.tb.a0, a1 := put d.tb.a1, a2 := put d.tb.a2, lost := true } }
  let d2 := ((d1.setFld AX0_REPAIR.REPAIRING 0).setAx0State 3).setFault SYS_FAULT.AX0_INVALID true
  (d2.raiseVote 4 0xFF (d2.fld AX0_REPAIR.ATTEMPTS) 0).enterSteady 3

/-- NO_MAJORITY (13 R448, R449): the accumulators hold these values in one TCLK period. -/
def noMajorityEff (v0 v1 v2 : BitVec 112) (d : Dev) : Dev :=
  match d.fld AX0_REPAIR.RETIRED with
  | 0 =>
    if v0 = v1 ∨ v0 = v2 ∨ v1 = v2 then d else d.invalidate ((v0 &&& v1) ||| (v0 &&& v2) ||| (v1 &&& v2))
  | 1 => if v1 = v2 then d else d.invalidate v1
  | 2 => if v0 = v2 then d else d.invalidate v0
  | _ => if v0 = v1 then d else d.invalidate v0

/-- VOTE_DISAGREE: accumulator i is found to hold v (02 R35, 13 R447, R448). -/
def voteDisagreeEff (i : Nat) (v : BitVec 112) (d : Dev) : Dev :=
  let m := BitVec.ofNat 112 d.ax0
  if i < 3 ∧ d.accWorks i ∧ v ≠ m then
    if d.fld AX0_REPAIR.RETIRED ≠ 0 then
      let other := (upto 3).find? (fun j => d.accWorks j && j != i)
      d.invalidate (match other with | some j => if j < i then (d.accum j).val else v | none => v)
    else
      let a := d.accum i
      let ok := d.accum (if i = 0 then 1 else 0)
      let d1 := d.setEvent AX0_STATUS.VOTE_FAULT (2 ^ i)
      let x := (v ^^^ m).toNat >>> 48
      if a.attempts ≥ 3 then
        let d2 := (d1.setAccum i { a with val := m, watching := false }).setFld AX0_REPAIR.RETIRED (i + 1)
        let d3 := d2.setFlag AX0_REPAIR.REPAIRING d2.anyWatch
        (((d3.raiseVote 1 i 3 x).raiseVote 3 i 3 x).setFault SYS_FAULT.TB_DEGRADED true).enterSteady 3
      else
        let n := a.attempts + 1
        let d2 := d1.setAccum i { val := m, rate := ok.rate, rem := ok.rem, watching := true, watchAt := d.ecNs, attempts := n }
        let d3 := ((d2.setFld AX0_REPAIR.REPAIRING 1).setFld AX0_REPAIR.ACC i).setFld AX0_REPAIR.ATTEMPTS n
        (d3.raiseVote 1 i n x).enterSteady 3
  else d

/-- REPAIR_WATCH_END (13 R447 step 3): 2^24 TCLK periods have passed. -/
def repairWatchEndEff (i : Nat) (d : Dev) : Dev :=
  let a := d.accum i
  if i < 3 ∧ a.watching ∧ a.watchAt + 2 ^ 24 ≤ d.ecNs then
    let d1 := d.setAccum i { a with watching := false }
    let d2 := (d1.setFlag AX0_REPAIR.REPAIRING d1.anyWatch).raiseVote 2 i a.attempts 0
    if d2.anyWatch ∨ d2.tb.lost ∨ d2.fld AX0_REPAIR.RETIRED ≠ 0 then d2 else d2.endCause 3
  else d

/-- AX0 has been LOCKED for TIMEOUT_MS without a request (02 R47). -/
def Dev.holdoverDue (d : Dev) : Bool :=
  d.fld AX0_STATUS.STATE == 1 && decide (d.tb.ref + max 1 (d.fld AX0_HOLD.TIMEOUT_MS) * 1000000 * 2 ^ 48 ≤ d.tb.elapsed)

/-- HOLDOVER_TIMEOUT (02 R47, R48). -/
def holdoverTimeoutEff (d : Dev) : Dev :=
  if d.holdoverDue then ({ d with tb := { d.tb with uncAt := d.tb.elapsed } } : Dev).setAx0State 2 else d

/-- AX0_HOLD takes a value, judged at once (02 R47). -/
def Dev.writeHoldover (d : Dev) (v : Nat) : Dev :=
  holdoverTimeoutEff ((d.setFld AX0_HOLD.TIMEOUT_MS (cut v 0 16)).setFld AX0_HOLD.DRIFT_PPB (cut v 16 16))

/-! ### Changing an axis (02 R59 to R62) -/

/-- The fields of AX_CFGn but EN take the bits of a value; TYPE 0 is stored as 6 and 7 leaves it. -/
def Dev.putAxCfg (d : Dev) (n v : Nat) : Dev :=
  let ty := cut v 0 3
  let d1 := if ty = 7 then d else d.setFld AX_CFG.TYPE (if ty = 0 then 6 else ty) n
  ((((((d1.setFld AX_CFG.SRC (cut v 4 12) n).setFld AX_CFG.SRC_IS_PIN (cut v 16 1) n).setFld AX_CFG.EDGE (cut v 17 2) n).setFld
    AX_CFG.DMODE (cut v 19 1) n).setFld AX_CFG.INTERP (cut v 20 1) n).setFld AX_CFG.DIR_EN (cut v 21 1) n).setFld
    AX_CFG.DIR_POL (cut v 22 1) n |>.setFld AX_CFG.DIR_PIN (cut v 23 7) n

/-- An axis starts from the value 0 with no history (02 R61); the publisher of a REMOTE axis is awaited from now (12 R429). -/
def Dev.axStart (d : Dev) (n : Nat) : Dev :=
  d.setAxis n {
    bFrac := (d.axis n).bFrac, cFrac := (d.axis n).cFrac, sched := (d.axis n).sched,
    remote := if d.axType n = 5 then { at_ := d.elNs } else {} }

/-- A write of AX_CFGn (02 R62). -/
def Dev.writeAxCfg (d : Dev) (n v : Nat) : Dev :=
  if n = 0 ∨ d.axOn n then d
  else if bit v 3 then (d.setFld AX_CFG.EN 1 n).axStart n
  else d.putAxCfg n v

/-- A write of AX_PARAn, AX_PARBn or AX_PARCn (02 R61, R62). -/
def Dev.writeAxPar (d : Dev) (n k v : Nat) : Dev :=
  if n = 0 ∨ d.axOn n then d
  else match k with
    | 0 => d.setFld AX_PARA.PARA v n
    | 1 => (d.setFld AX_PARB.PARB v n).setAxis n { d.axis n with bFrac := 0 }
    | _ => (d.setFld AX_PARC.PARC v n).setAxis n { d.axis n with cFrac := 0 }

/-- The status that keeps a SET_AXIS out (02 R59, R60); 0 for none. -/
def Dev.setAxisCheck (d : Dev) (n cfg : Nat) (cont : Bool) : Nat :=
  let ty := cut cfg 0 3
  if ty = 0 ∨ ty = 7 then 0x01
  else if d.armedOn n ∧ (ty ≠ d.axType n ∨ cut cfg 4 12 ≠ d.fld AX_CFG.SRC n ∨ bit cfg 3 = false ∨ (d.axType n = 1 ∧ cont = false)) then 0x05
  else 0

/-- A scheduled configuration takes effect at this TCLK boundary (02 R61), and SET_AXIS completes (09 R316). -/
def Dev.axisApply (d : Dev) (n : Nat) (r : AxisReq) : Dev :=
  let ty := cut r.cfg 0 3
  let fresh := !d.axOn n || ty ≠ d.axType n || cut r.cfg 4 12 ≠ d.fld AX_CFG.SRC n
  let keep := r.cont && d.axOn n && d.axType n == 1 && ty == 1
  let v := d.axDerived n
  let d1 := ((d.putAxCfg n r.cfg).setFlag AX_CFG.EN (bit r.cfg 3) n).setFld AX_PARA.PARA r.para n
  let d2 :=
    if keep then
      ((d1.setFld AX_PARB.PARB (ofS 64 (v / 65536)) n).setFld AX_PARC.PARC d.ns n).setAxis n
        { d1.axis n with bFrac := (v % 65536).toNat, cFrac := d.frac16 }
    else
      ((d1.setFld AX_PARB.PARB r.parb n).setFld AX_PARC.PARC r.parc n).setAxis n { d1.axis n with bFrac := 0, cFrac := 0 }
  let d3 := if fresh then d2.axStart n else d2
  d3.finish r.cmd 0 [byt 22 8 d.ns]

/-- SET_AXIS_APPLY (02 R61): the first scheduled configuration whose AT has come. -/
def setAxisApplyEff (n : Nat) (d : Dev) : Dev :=
  let a := d.axis n
  match a.sched.find? (fun r => r.at_ ≤ d.ns) with
  | some r => if 0 < n ∧ n < 16 then (d.setAxis n { a with sched := a.sched.erase r }).axisApply n r else d
  | none => d

/-! ### Reference clocks (01 R13, R14, 13 R450) -/

/-- The PLL loses lock (13 R450). -/
def Dev.pllLoss (d : Dev) : Dev :=
  if d.flag CK_STAT.LOCKED then
    (((d.setFld CK_STAT.LOCKED 0).setFld CK_STAT.PLL_HOLD 1).count CK_STAT.LOCK_LOSS).enterSteady 4
  else d

/-- ACTIVE takes another source for a reason (01 R13, 13 R465, R467). -/
def Dev.clockTo (d : Dev) (new reason : Nat) : Dev :=
  let old := d.fld CK_REFSEL.ACTIVE
  if old = new then d
  else
    let d1 := ((d.setFld CK_REFSEL.ACTIVE new).setEvent CK_REFSEL.SWITCHED 1).raiseSys 0x7D8 [byt 16 1 old, byt 17 1 new, byt 18 1 reason]
    let d2 := d1.setFault SYS_FAULT.FREQ_HOLD (new == 2)
    if new = 2 then d2.enterSteady 5 else d2.endCause 5

/-- The first permitted source that is usable, in the order recovered, REFCLK_IN, frequency hold (01 R13). -/
def Dev.clockNext (d : Dev) : Option Nat :=
  if d.flag CK_STAT.REC_OK then some 1
  else if d.flag CK_STAT.IN_OK ∧ (d.fld CK_REFSEL.SRC = 0 ∨ d.flag CK_REFSEL.FALLBACK_EN) then some 0
  else if d.flag CK_REFSEL.FREQ_HOLD_EN then some 2
  else none

/-- A source has failed for a reason (01 R13). -/
def Dev.clockFail (d : Dev) (src : RefSource) (reason : Nat) : Dev :=
  let code := match src with | .refclkIn => 0 | .recovered => 1
  let d1 := match src with | .refclkIn => d.setFld CK_STAT.IN_OK 0 | .recovered => d.setFld CK_STAT.REC_OK 0
  if d1.fld CK_REFSEL.ACTIVE = code then
    match d1.clockNext with
    | some n => d1.clockTo n reason
    | none => d1.pllLoss
  else d1

/-- REFCLK_FAIL (01 R13, R14): no edge, or `freq`. -/
def refclkFailEff (src : RefSource) (freq : Bool) (d : Dev) : Dev := d.clockFail src (if freq then 2 else 1)

/-- REFCLK_RESTORE (01 R14): the clock goes back to SRC, and leaves frequency hold for any permitted source. -/
def refclkRestoreEff (src : RefSource) (d : Dev) : Dev :=
  let code := match src with | .refclkIn => 0 | .recovered => 1
  let d1 := match src with | .refclkIn => d.setFld CK_STAT.IN_OK 1 | .recovered => d.setFld CK_STAT.REC_OK 1
  let pref := d1.fld CK_REFSEL.SRC
  if code = pref then d1.clockTo code 3
  else if d1.fld CK_REFSEL.ACTIVE = 2 ∧ (code = 1 ∨ d1.flag CK_REFSEL.FALLBACK_EN) then d1.clockTo code 3
  else d1

/-- PLL_RELOCK (13 R450). -/
def pllRelockEff (d : Dev) : Dev :=
  if d.flag CK_STAT.LOCKED then d else ((d.setFld CK_STAT.LOCKED 1).setFld CK_STAT.PLL_HOLD 0).endCause 4

/-! ### Modes (01 R20 to R23) -/

/-- ENTER_OPERATE (01 R20 to R22). -/
def enterOperateEff (d : Dev) : Dev :=
  if d.canOperate then
    let d1 := ((d.setFld SYS_MODE.MODE 2).setFld SYS_MODE.PENDING_GO 0).setFld SYS_MODE.GO_REQ 0
    let reset (a : Accum) : Accum := { a with attempts := 0 }
    let d2 : Dev := { d1 with tb := { d1.tb with a0 := reset d1.tb.a0, a1 := reset d1.tb.a1, a2 := reset d1.tb.a2 } }
    ((d2.setFld AX0_REPAIR.ATTEMPTS 0).raiseMode 1).swapsStart
  else d

/-- SELF_TEST_DONE (01 R20, 15 R506): every vernier has been calibrated. -/
def selfTestDoneEff (d : Dev) : Dev :=
  if d.steady ∧ d.sys.tested = false then
    let d1 := (upto 34).foldl (fun e p => (e.setFld QY_DIAG.VCAL_OK 1 p).setPhysQ p { e.physQ p with calAt := some e.ecNs }) d
    { d1 with sys := { d1.sys with tested := true } }
  else d

/-- GO is written (01 R20, R23). -/
def Dev.writeGo (d : Dev) : Dev := if d.steady then d.setFld SYS_MODE.PENDING_GO 1 else d

/-- HOLD is written (01 R21, R22). -/
def Dev.writeModeHold (d : Dev) : Dev := ((d.setFld SYS_MODE.PENDING_GO 0).setFld SYS_MODE.GO_REQ 1).enterSteady 2

/-! ### The rows -/

/-- SET_AXIS_APPLY -/
def execSetAxisApply (n : Nat) (s : State) : Host.Outcome State Fault Refusal := s.act (setAxisApplyEff n)
/-- VOTE_DISAGREE -/
def execVoteDisagree (i : Nat) (v : BitVec 112) (s : State) : Host.Outcome State Fault Refusal := s.actTime (voteDisagreeEff i v)
/-- NO_MAJORITY -/
def execNoMajority (v0 v1 v2 : BitVec 112) (s : State) : Host.Outcome State Fault Refusal := s.actTime (noMajorityEff v0 v1 v2)
/-- REPAIR_WATCH_END -/
def execRepairWatchEnd (i : Nat) (s : State) : Host.Outcome State Fault Refusal := s.actTime (repairWatchEndEff i)
/-- HOLDOVER_TIMEOUT -/
def execHoldoverTimeout (s : State) : Host.Outcome State Fault Refusal := s.actTime holdoverTimeoutEff
/-- SLEW_COMPLETE -/
def execSlewComplete (s : State) : Host.Outcome State Fault Refusal := s.actTime slewCompleteEff
/-- REFCLK_FAIL -/
def execRefclkFail (src : RefSource) (freq : Bool) (s : State) : Host.Outcome State Fault Refusal := s.act (refclkFailEff src freq)
/-- REFCLK_RESTORE -/
def execRefclkRestore (src : RefSource) (s : State) : Host.Outcome State Fault Refusal := s.act (refclkRestoreEff src)
/-- PLL_LOCK_LOSS -/
def execPllLockLoss (s : State) : Host.Outcome State Fault Refusal := s.act Dev.pllLoss
/-- PLL_RELOCK -/
def execPllRelock (s : State) : Host.Outcome State Fault Refusal := s.act pllRelockEff
/-- ENTER_OPERATE -/
def execEnterOperate (s : State) : Host.Outcome State Fault Refusal := s.actTime enterOperateEff
/-- SELF_TEST_DONE -/
def execSelfTestDone (s : State) : Host.Outcome State Fault Refusal := s.act selfTestDoneEff

end Sys2Proof.Machine
end

