-- ==== Sys2Proof/Machine/Operands.lean ====
section
/-! DEFINITION. Operand forms: the fields of the microword (05 R155) and of the nano-word (05 R162), the encodings that are
ILLEGAL (R156, R162, R164, R169, R179), and which registers a word writes. -/

namespace Sys2Proof.Machine

open Sys2Proof

/-! ### The microword (05 R155) -/

/-- NANO -/
def uNano (w : BitVec 48) : Nat := bits w 38 10
/-- NEXT -/
def uNext (w : BitVec 48) : Nat := bits w 25 13
/-- COND -/
def uCond (w : BitVec 48) : Nat := bits w 19 6
/-- SEQ: 0 GOTO, 1 BRANCH, 2 WAIT, 3 CALL or RETURN -/
def uSeq (w : BitVec 48) : Nat := bits w 17 2
/-- ATOM -/
def uAtom (w : BitVec 48) : Bool := w.getLsbD 16
/-- IMM -/
def uImm (w : BitVec 48) : BitVec 16 := w.extractLsb' 0 16

/-! ### The nano-word (05 R162) -/

/-- ALU -/
def nAlu (x : BitVec 192) : Nat := bits x 0 5
/-- RA -/
def nRa (x : BitVec 192) : Nat := bits x 5 5
/-- RB -/
def nRb (x : BitVec 192) : Nat := bits x 10 5
/-- BSEL -/
def nBsel (x : BitVec 192) : Nat := bits x 15 2
/-- RD -/
def nRd (x : BitVec 192) : Nat := bits x 17 5
/-- RD_WE -/
def nRdWe (x : BitVec 192) : Bool := x.getLsbD 22
/-- FL_WE -/
def nFlWe (x : BitVec 192) : Nat := bits x 23 2
/-- WB_SEL -/
def nWb (x : BitVec 192) : Nat := bits x 25 3
/-- AX_OP -/
def nAxOp (x : BitVec 192) : Nat := bits x 32 3
/-- ARA -/
def nAra (x : BitVec 192) : Nat := bits x 35 2
/-- ARB -/
def nArb (x : BitVec 192) : Nat := bits x 37 2
/-- ARD -/
def nArd (x : BitVec 192) : Nat := bits x 39 2
/-- QP_OP -/
def nQp (x : BitVec 192) : Nat := bits x 48 4
/-- QP_WORD -/
def nQpWord (x : BitVec 192) : Nat := bits x 52 4
/-- QP_CR -/
def nQpCr (x : BitVec 192) : Nat := bits x 56 5
/-- QP_AR -/
def nQpAr (x : BitVec 192) : Nat := bits x 61 2
/-- BP_OP -/
def nBp (x : BitVec 192) : Nat := bits x 64 3
/-- BP_AR -/
def nBpAr (x : BitVec 192) : Nat := bits x 67 5
/-- BP_DR -/
def nBpDr (x : BitVec 192) : Nat := bits x 72 5
/-- BP_AX -/
def nBpAx (x : BitVec 192) : Nat := bits x 77 2
/-- BP_INC -/
def nBpInc (x : BitVec 192) : Bool := x.getLsbD 79
/-- SP_OP -/
def nSp (x : BitVec 192) : Nat := bits x 80 3
/-- SP_R -/
def nSpR (x : BitVec 192) : Nat := bits x 83 5
/-- SP_W -/
def nSpW (x : BitVec 192) : Nat := bits x 88 5
/-- AP_OP -/
def nAp (x : BitVec 192) : Nat := bits x 96 3
/-- AP_AX -/
def nApAx (x : BitVec 192) : Nat := bits x 99 4
/-- AP_AR -/
def nApAr (x : BitVec 192) : Nat := bits x 103 2
/-- AP_W -/
def nApW (x : BitVec 192) : Nat := bits x 105 5
/-- CTL_OP -/
def nCtl (x : BitVec 192) : Nat := bits x 112 3
/-- LF -/
def nLf (x : BitVec 192) : Nat := bits x 115 3
/-- RET -/
def nRet (x : BitVec 192) : Bool := x.getLsbD 118
/-- EXIT -/
def nExit (x : BitVec 192) : Bool := x.getLsbD 119
/-- HB -/
def nHb (x : BitVec 192) : Bool := x.getLsbD 120

/-! ### What a word drives -/

/-- The word accesses a channel: QP_OP 5 to 10. -/
def nChannel (x : BitVec 192) : Bool := 5 ≤ nQp x && nQp x ≤ 10

/-- The word drives the berth port. -/
def nBerth (x : BitVec 192) : Bool := nBp x ≠ 0

/-- The snapshot words of TRKREAD that go to an axis register (R179). -/
def trkToAr (k : Nat) : Bool := k == 1 || k == 2 || k == 5 || k == 6

/-- The snapshot words of AX0READ that go to an axis register (R179). -/
def ax0ToAr (k : Nat) : Bool := k == 0 || k == 4 || k == 5

/-- The axis registers that a word writes, one entry for each write (R164). -/
def nArWrites (x : BitVec 192) : List Nat :=
  (if 1 ≤ nAxOp x ∧ nAxOp x ≤ 6 then [nArd x] else []) ++
  (if nQp x = 4 ∨ nQp x = 6 then [nQpAr x] else []) ++
  (if nBp x = 3 then [nBpAx x] else []) ++
  (if nAp x = 1 ∨ (nAp x = 2 ∧ trkToAr (nApW x)) ∨ (nAp x = 3 ∧ ax0ToAr (nApW x)) then [nApAr x] else [])

/-- Two writes of a word meet in one register or axis register (R164); writes to R0 never conflict. -/
def nConflict (x : BitVec 192) : Bool :=
  !decide (nArWrites x).Nodup || (nRdWe x && nBp x ≠ 0 && nBpInc x && nRd x == nBpAr x && nRd x ≠ 0)

/-- A word index of a 64-bit quay-port operation is odd, or a slip word is above 11 (R169). -/
def nQpBad (x : BitVec 192) : Bool :=
  match nQp x with
  | 1 | 3 => decide (nQpWord x > 11)
  | 2 | 4 => decide (nQpWord x > 11) || nQpWord x % 2 == 1
  | 6 => nQpWord x % 2 == 1
  | 0 | 5 | 7 | 8 | 9 | 10 => false
  | _ => true

/-- A snapshot word that R179 does not have, or an event-window word above 23. -/
def nIndexBad (x : BitVec 192) : Bool :=
  (nSp x == 3 && decide (nSpW x > 23)) || (nAp x == 2 && decide (nApW x > 7)) || (nAp x == 3 && decide (nApW x > 5))

/-- The nano-word is ILLEGAL when it is issued (R156, R162, R164, R165, R169, R173, R175, R178, R179). -/
def nIllegal (x : BitVec 192) : Bool :=
  bits x 28 4 ≠ 0 || bits x 41 7 ≠ 0 || bits x 63 1 ≠ 0 || bits x 93 3 ≠ 0 || bits x 110 2 ≠ 0 || bits x 121 71 ≠ 0 ||
    decide (nAlu x ≥ 0x15) || nFlWe x == 3 || nQpBad x || decide (nBp x ≥ 5) || nSp x == 7 || nAp x == 7 || nIndexBad x ||
    (nExit x && !nRet x) || nConflict x

end Sys2Proof.Machine
end

