-- ==== Sys2Proof/Machine/Flags.lean ====
section
/-! DEFINITION. Flag computations: the ALU of a microengine (05 R165), its axis register operations (R166), and the conditions
(R160). -/

namespace Sys2Proof.Machine

open Sys2Proof

/-- The flags Z, N, C, V. -/
structure NZCV where
  z : Bool
  n : Bool
  c : Bool
  v : Bool
deriving DecidableEq, Repr

/-- A + B + carry on `w` bits with its flags: the carry out, and the signed overflow. -/
def addFlags {w : Nat} (a b : BitVec w) (cin : Bool) : BitVec w × NZCV :=
  let sum := a.toNat + b.toNat + cin.toNat
  let r := BitVec.ofNat w sum
  (r, { z := r == 0, n := r.msb, c := decide (sum ≥ 2 ^ w), v := a.msb == b.msb && r.msb != a.msb })

/-- A − B − (1 − C): C is 1 when there is no borrow. -/
def subFlags {w : Nat} (a b : BitVec w) (cin : Bool) : BitVec w × NZCV := addFlags a (~~~b) cin

/-- A result that sets Z and N, with C given and V cleared. -/
def logicFlags (r : BitVec 32) (c : Bool) : BitVec 32 × NZCV := (r, { z := r == 0, n := r.msb, c := c, v := false })

/-- The number of leading zeros of a word. -/
def clz32 (a : BitVec 32) : Nat := match (upto 32).find? (fun k => a.getLsbD (31 - k)) with | some k => k | none => 32

/-- The ALU (R165): the result and the flags on A, B and the flags before. BTST gives no result (none). -/
def alu (op : Nat) (a b : BitVec 32) (f : NZCV) : Option (BitVec 32) × NZCV :=
  let k := b.toNat % 32
  let logic (r : BitVec 32) (c : Bool := false) : Option (BitVec 32) × NZCV := (some (logicFlags r c).1, (logicFlags r c).2)
  match op with
  | 0x00 => (some (addFlags a b false).1, (addFlags a b false).2)
  | 0x01 => (some (addFlags a b f.c).1, (addFlags a b f.c).2)
  | 0x02 => (some (subFlags a b true).1, (subFlags a b true).2)
  | 0x03 => (some (subFlags a b f.c).1, (subFlags a b f.c).2)
  | 0x04 => logic (a &&& b)
  | 0x05 => logic (a ||| b)
  | 0x06 => logic (a ^^^ b)
  | 0x07 => logic (a &&& ~~~b)
  | 0x08 => logic (a <<< k) (k ≠ 0 && a.getLsbD (32 - k))
  | 0x09 => logic (a >>> k) (k ≠ 0 && a.getLsbD (k - 1))
  | 0x0A => logic (a.sshiftRight k) (k ≠ 0 && a.getLsbD (k - 1))
  | 0x0B => logic (a.rotateLeft k)
  | 0x0C => logic (a * b)
  | 0x0D => logic (BitVec.ofNat 32 (a.toNat * b.toNat / 2 ^ 32))
  | 0x0E => logic (if a.ult b then a else b)
  | 0x0F => logic (if a.ult b then b else a)
  | 0x10 => logic b
  | 0x11 => logic (a ||| (1 <<< k : BitVec 32))
  | 0x12 => logic (a &&& ~~~(1 <<< k : BitVec 32))
  | 0x13 => (none, { f with z := !a.getLsbD k })
  | _ => logic (BitVec.ofNat 32 (clz32 a))

/-- AX_OP 1 to 6 (R166): the value written to AR[ARD], from AR[ARA], AR[ARB], AR[ARD], R[RA] and R[RB]. -/
def axOp (op : Nat) (a b old : BitVec 64) (ra rb : BitVec 32) : Option (BitVec 64) :=
  match op with
  | 1 => some (a + b)
  | 2 => some (a - b)
  | 3 => some (a + rb.signExtend 64)
  | 4 => some (BitVec.ofNat 64 (put old.toNat 0 32 ra.toNat))
  | 5 => some (BitVec.ofNat 64 (put old.toNat 32 32 ra.toNat))
  | 6 => some (ra.signExtend 64)
  | _ => none

/-- The flags of a word (R164 to R166): FL_WE 1 takes the ALU's, 2 those of CMP, if the word has it. -/
def wordFlags (flWe axop : Nat) (old aluF : NZCV) (a b : BitVec 64) : NZCV :=
  match flWe with
  | 1 => aluF
  | 2 => if axop = 7 then (subFlags a b true).2 else old
  | _ => old

/-- COND 0x01 to 0x0E on the arithmetic flags (R160). -/
def condFlags (k : Nat) (f : NZCV) : Bool :=
  match k with
  | 0x01 => f.z
  | 0x02 => !f.z
  | 0x03 => f.n
  | 0x04 => !f.n
  | 0x05 => f.c
  | 0x06 => !f.c
  | 0x07 => f.v
  | 0x08 => !f.v
  | 0x09 => f.n != f.v
  | 0x0A => f.n == f.v
  | 0x0B => f.z || f.n != f.v
  | 0x0C => !f.z && f.n == f.v
  | 0x0D => !f.c || f.z
  | 0x0E => f.c && !f.z
  | _ => true

end Sys2Proof.Machine
end

