-- ==== Sys2Proof/Machine/MeBase.lean ====
section
/-! DEFINITION. Microengines as other blocks see them (05 R151, R188, 06 R190 to R210): engines, frames, the sources of an engine,
lost dispatches, and microcode images (06 R215 to R217). -/

namespace Sys2Proof.Machine

open Sys2Proof

/-! ### Engines and frames (05 R151, R188) -/

/-- Physical engine p. -/
def Dev.eng (d : Dev) (p : Nat) : Engine := get {} d.me p

/-- The part with physical engine p replaced. -/
def Dev.setEng (d : Dev) (p : Nat) (x : Engine) : Dev := { d with me := set {} d.me p x }

/-- What runs on logical engine n. -/
def Dev.ops (d : Dev) (n : Nat) : MeOps := get {} d.mo n

/-- The part with what runs on logical engine n replaced. -/
def Dev.setOps (d : Dev) (n : Nat) (x : MeOps) : Dev := { d with mo := set {} d.mo n x }

/-- The physical engine that serves logical engine n. -/
def Dev.meServ (d : Dev) (n : Nat) : Nat := (d.ops n).serv.getD n

/-- The home of logical engine n (06 R214). -/
def Dev.meHome (d : Dev) (n : Nat) : Nat := (d.ops n).home.getD n

/-- The logical engine of physical engine p. -/
def Dev.meLogical (d : Dev) (p : Nat) : Nat := d.fld ME_STATUS.LOGICAL p

/-- Physical engine p serves its logical engine. -/
def Dev.meServes (d : Dev) (p : Nat) : Bool :=
  decide (p < 26) && (d.fld ME_STATUS.ROLE p == 0 || d.fld ME_STATUS.ROLE p == 2) && d.meServ (d.meLogical p) == p

/-- R[r]: R0 reads 0 (05 R163). -/
def Engine.reg (e : Engine) (r : Nat) : BitVec 32 := if r = 0 then 0 else get 0 e.gpr r

/-- The engine with R[r] written: a write to R0 is discarded (05 R163). -/
def Engine.setReg (e : Engine) (r : Nat) (v : BitVec 32) : Engine := if r = 0 then e else { e with gpr := set 0 e.gpr r v }

/-- AR[k]. -/
def Engine.areg (e : Engine) (k : Nat) : BitVec 64 := get 0 e.ar k

/-- The engine with AR[k] written, if there is a value. -/
def Engine.setAreg (e : Engine) (k : Nat) (v : Option (BitVec 64)) : Engine :=
  match v with
  | some v => { e with ar := set 0 e.ar k v }
  | none => e

/-- The running frame. -/
def Engine.top (e : Engine) : MeFrame := e.frames.getLast?.getD {}

/-- The PC: of the running frame, or of the word at which a fault stopped the engine (05 R187). -/
def Engine.pc (e : Engine) : Nat := if e.frames.isEmpty then e.stop else e.top.pc

/-- The engine with its running frame replaced. -/
def Engine.setTop (e : Engine) (f : MeFrame) : Engine := { e with frames := e.frames.dropLast ++ [f] }

/-- The entries of the return stack in use (05 R159). -/
def Engine.stackUse (e : Engine) : Nat := (e.frames.map (fun f => f.stack.length)).sum

/-- The arithmetic flags of a frame. -/
def MeFrame.nzcv (f : MeFrame) : NZCV := { z := f.z, n := f.n, c := f.c, v := f.v }

/-- The boundary before the next word is sampled and begins a new run (05 R182). -/
def Engine.fresh (e : Engine) : Engine := { e with run := 0, runQp := 0, runBp := 0, sampled := true }

/-! ### Sources of an engine (06 R190, R194, R195) -/

/-- The pending sources that target logical engine n. -/
def Dev.meSources (d : Dev) (n : Nat) : List Nat :=
  ((d.sl.srcs.map (fun e => e.1) ++ d.sl.items.map (fun i => i.src)).eraseDups).filter
    (fun s => d.pend s && d.kind s == 1 && d.tgt s == n)

/-- The shift that splits the priority on physical engine p (06 R190). -/
def Dev.prigrp (d : Dev) (p : Nat) : Nat := min 8 (d.fld ME_DCFG.PRIGRP p)

/-- The group of a source on physical engine p. -/
def Dev.meGroup (d : Dev) (p s : Nat) : Nat := d.fld SL_TGT.PRIO s >>> d.prigrp p

/-- `a` goes before `b` on physical engine p: group, sub-priority, lower number (06 R195, R220). -/
def Dev.meBefore (d : Dev) (p a b : Nat) : Bool :=
  let ga := d.meGroup p a
  let gb := d.meGroup p b
  let sa := d.fld SL_TGT.PRIO a % 2 ^ d.prigrp p
  let sb := d.fld SL_TGT.PRIO b % 2 ^ d.prigrp p
  decide (ga > gb) || (ga == gb && (decide (sa > sb) || (sa == sb && decide (a < b))))

/-- Source s is active on physical engine p (06 R203). -/
def Dev.meActive (d : Dev) (p s : Nat) : Bool := (d.eng p).active.any (fun a => a.src == s)

/-- The sources that are eligible for physical engine p (06 R194). -/
def Dev.meEligible (d : Dev) (p : Nat) : List Nat :=
  if d.held then []
  else (d.meSources (d.meLogical p)).filter (fun s =>
    !d.meActive p s && (d.hasItem s || d.grpReady (d.grpOf s) || (d.grp (d.grpOf s)).elig.contains s))

/-- The first of the eligible sources. -/
def Dev.meFirst (d : Dev) (p : Nat) : Option Nat :=
  (d.meEligible p).foldl (fun best s =>
    match best with
    | some b => if d.meBefore p s b then some s else some b
    | none => some s) none

/-- The source that a sampled boundary of physical engine p dispatches, a free frame apart (06 R195). -/
def Dev.meWinner (d : Dev) (p : Nat) : Option Nat :=
  match d.meFirst p with
  | none => none
  | some s =>
    let e := d.eng p
    if e.frames.isEmpty || e.top.src.isNone || decide (d.meGroup p s > e.top.grp) then some s else none

/-! ### Losing dispatches (06 R210) -/

/-- The engine fault source of logical engine n takes an item, as an edge of its line or as one more record of an edge (06 R209, R210). -/
def Dev.raiseEngine (d : Dev) (n : Nat) (r : Record) (edge bare : Bool) : Dev :=
  { d with sl := { d.sl with rises := d.sl.rises ++
      [{ src := 0x7C0 + n, recs := [r], item := true, edge := edge, bare := bare, at_ := d.tb.eclk }] } }

/-- The engine fault source of logical engine n rises, once for a fault (05 R187, 06 R209). -/
def Dev.raiseFault (d : Dev) (n p cause : Nat) : Dev :=
  d.raiseEngine n (d.recAt 0x0F (0x7C0 + n) 0 d.ns [byt 22 1 p, byt 23 1 cause]) true true

/-- The ENGINE_LOST record of one dispatch: its frame, PC, source with GEN (none for the base level). A fault has raised the source
already. -/
def Dev.meLost (d : Dev) (n p reason cause frame pc : Nat) (src : Option (Nat × Nat)) (exited : Bool) : Dev :=
  d.raiseEngine n (d.recAt 0x0F (0x7C0 + n) (src.getD (0, 0)).2 d.ns
    [byt 16 2 (src.getD (0, 0)).1, (144, 3, frame), (150, 1, exited.toNat), (151, 1, src.isNone.toNat), byt 19 1 reason,
     byt 20 2 pc, byt 22 1 p, byt 23 1 cause]) (cause == 0) false

/-- Every frame of physical engine p, and every source that is active after its frame exited, is abandoned (06 R210). -/
def Dev.meAbandon (d : Dev) (p reason cause : Nat) : Dev :=
  let n := d.meLogical p
  let e := d.eng p
  let d1 := e.frames.zipIdx.foldl (fun x fi => x.meLost n p reason cause fi.2 fi.1.pc fi.1.src false) d
  let d2 := e.active.foldl (fun x a =>
    match a.exited with
    | some pc => x.meLost n p reason cause a.frame pc (some (a.src, a.gen)) true
    | none => x) d1
  (d2.setEng p { e.fresh with frames := [], active := [], qpWait := none, bpWait := none }).setFld ME_STATUS.WAITING 0 p

/-- The handler frames above the base level are abandoned (06 R219 step 2): the part, and how many. -/
def Dev.meAbandonHandlers (d : Dev) (p reason : Nat) : Dev × Nat :=
  let n := d.meLogical p
  let e := d.eng p
  let gone := e.frames.zipIdx.filter (fun fi => fi.1.src.isSome)
  let d1 := gone.foldl (fun x fi => x.meLost n p reason 0 fi.2 fi.1.pc fi.1.src false) d
  let lost := gone.map (fun fi => fi.1.src)
  (d1.setEng p { e.fresh with
    frames := e.frames.filter (fun f => f.src.isNone), qpWait := none, bpWait := none,
    active := e.active.filter (fun a => a.exited.isSome || !lost.contains (some (a.src, a.gen))) }
    |>.setFld ME_STATUS.WAITING 0 p, gone.length)

/-! ### Images (06 R215 to R218) -/

/-- The number in `n` bytes of a byte string at an offset. -/
def field (bs : List Byte) (off n : Nat) : Nat := ofBytes ((bs.drop off).take n)

/-- `n` numbers of `len` bytes each. -/
def words (len : Nat) : Nat → List Byte → List Nat
  | 0, _ => []
  | n + 1, l => ofBytes (l.take len) :: words len n (l.drop len)

/-- MICRO_WORDS. -/
def imgMicro (bs : List Byte) : Nat := field bs 8 2

/-- NANO_WORDS. -/
def imgNano (bs : List Byte) : Nat := field bs 10 2

/-- KEY_SLOT. -/
def imgKey (bs : List Byte) : Nat := field bs 0x10 1

/-- VECTORS. -/
def imgVectors (bs : List Byte) : List Nat := words 2 64 (bs.drop 0x18)

/-- The header of an image of `len` bytes fails FORMAT. -/
def headerBad (bs : List Byte) (len : Nat) : Bool :=
  let m := imgMicro bs
  let k := imgNano bs
  field bs 0 4 ≠ 0x494D4B5A || field bs 4 2 ≠ 1 || field bs 6 2 ≠ 0 || m == 0 || decide (m > 8192) || k == 0 || decide (k > 1024) ||
    decide (field bs 0xC 2 ≥ 8192) || decide (field bs 0xE 2 ≥ 8192) || decide (imgKey bs > 7) || field bs 0x11 3 ≠ 0 ||
    (imgVectors bs).any (fun v => decide (v ≥ 8192) && v ≠ 0xFFFF) || field bs 0x98 104 ≠ 0 ||
    len ≠ 256 + 8 * m + 24 * k + 64

/-- Bytes [7:6] of a microword entry are not 0. -/
def microBytesBad (bs : List Byte) : Bool := (words 8 (imgMicro bs) (bs.drop 0x100)).any (fun v => decide (v ≥ 2 ^ 48))

/-- The signature of an image verifies under a key. -/
def signatureOk (key : Nat) (bs : List Byte) : Bool :=
  ecdsaVerify (BitVec.ofNat 512 key) (sha256 (bs.take (bs.length - 64)))
    (BitVec.ofNat 512 (ofBytes (bs.drop (bs.length - 64))))

/-- A warm copy of the stores of physical engine t no longer matches (R211). -/
def Dev.warmLost (d : Dev) (t : Nat) : Dev :=
  (upto 2).foldl (fun e k => if e.meServ (e.fld ME_RELIEF.WARM_FOR k) == t then e.setFld ME_RELIEF.WARM 0 k else e) d

/-- The stores of physical engine p take the bytes of an image that have arrived, the header among them: the words that are whole, and
with the last byte the words beyond the image read as unloaded (R217). -/
def Dev.writeImage (d : Dev) (p : Nat) (bs : List Byte) : Dev :=
  let m := imgMicro bs
  let k := imgNano bs
  let old := d.eng p
  let whole := decide (0x100 + 8 * m + 24 * k + 64 ≤ bs.length)
  let i := min m ((bs.length - 0x100) / 8)
  let j := min k ((bs.length - 0x100 - 8 * m) / 24)
  let e : Engine := { old with
    micro := (words 8 i (bs.drop 0x100)).map (BitVec.ofNat 48) ++ (if whole then [] else old.micro.drop i)
    nano := (words 24 j (bs.drop (0x100 + 8 * m))).map (BitVec.ofNat 192) ++ (if whole then [] else old.nano.drop j)
    base_ := field bs 0xC 2, recover_ := field bs 0xE 2, vectors := imgVectors bs
    digest := if whole then sha256 bs else old.digest }
  (((d.setEng p e).setFld ME_IMAGE.KEY_SLOT (imgKey bs) p).setFld ME_IVER.IMAGE_VERSION (field bs 0x14 4) p).warmLost p

/-! ### Command bodies in berths (09 R314, 11 R373) -/

/-- The berths that `n` bytes at a berth address touch. -/
def berthsOf (a n : Nat) : List Nat := (upto 33).filter (fun b => decide (a < 65536 * (b + 1)) && decide (65536 * b < a + n))

/-- What a command of function f meets at a berth address (09 R314, 11 R373, R382, R387): a berth that it may not name. -/
def Dev.bodyDenied (d : Dev) (f a n : Nat) : Bool :=
  (berthsOf a n).any (fun b => !d.fbit HM_FBERTH.BERTH f b || d.access b 2 f true == .denied)

/-- A berth that is not served to the command. -/
def Dev.bodyLost (d : Dev) (f a n : Nat) : Bool :=
  d.bodyDenied f a n || (berthsOf a n).any (fun b => d.staging b || d.access b 2 f (d.fbit HM_FBERTH.BERTH f b) == .lent)

/-- `n` bytes at a berth address for function f, as a command body: none where a berth is not served to it. -/
def Dev.bodyRead (d : Dev) (f a n : Nat) : Option (List Byte) × Dev :=
  if d.bodyLost f a n then (none, d)
  else
    let d1 := ((berthsOf a n).foldl Dev.startReturn d).afterRead a n
    if d.wordBad a n then (none, d1)
    else
      (some ((upto n).map (fun k =>
        if d.dr.zeroing && decide (a + k < 0x100000) then 0 else d.portByte (d.onP1 ((a + k) / 65536) 2 f) (a + k))), d1)

/-! ### Loading (06 R216 to R218) -/

/-- A load ends: LSTATE and the COMPLETION. -/
def Dev.loadEnd (d : Dev) (n : Nat) (l : MeLoad) (lstate status : Nat) : Dev :=
  ((d.setOps n { d.ops n with load := none }).setFld ME_IMAGE.LSTATE lstate l.target).finish l.cmd status
    [byt 22 1 lstate, byt 23 1 l.target]

/-- Bytes of the image arrive: the header is checked once it is whole, from then on the stores take them (R217), and the rest of FORMAT
and then KEY are judged with the last byte (R216). -/
def Dev.loadFeed (d : Dev) (n : Nat) (l : MeLoad) (bs : List Byte) : Dev :=
  let l1 := { l with bytes := l.bytes ++ bs }
  let all := l1.bytes
  if all.length ≥ min 256 l.len ∧ headerBad all l.len then d.loadEnd n l1 3 0x10
  else if all.length < 256 then d.setOps n { d.ops n with load := some l1 }
  else
    let d1 := d.writeImage l.target all
    if all.length < l.len then d1.setOps n { d1.ops n with load := some l1 }
    else if microBytesBad all then d1.loadEnd n l1 3 0x10
    else if d1.fbit HM_EKEY.KEYS n (imgKey all) = false then d1.loadEnd n l1 3 0x11
    else d1.setOps n { d1.ops n with load := some { l1 with slot := imgKey all } }

/-- The loader starts: LSTATE LOADING; an image in a berth is read at once. -/
def Dev.loadBegin (d : Dev) (n : Nat) (l : MeLoad) : Dev :=
  let l1 := { l with halting := false }
  let d1 := (d.setFld ME_IMAGE.LSTATE 1 l.target).setFld ME_IMAGE.ACT 0 l.target
  let d2 := d1.setOps n { d1.ops n with load := some l1, loaded := true }
  if l.space = 1 then
    let a := l.addr % 2 ^ 21
    match d2.bodyRead l.cmd.fn a l.len with
    | (some bs, e) => e.loadFeed n l1 bs
    | (none, e) => e.loadEnd n l1 3 0x14
  else if l.len = 0 then d2.loadFeed n l1 []
  else d2

end Sys2Proof.Machine
end

