-- ==== Sys2Proof/Machine/Micro.lean ====
section
/-! DEFINITION. Microengines that run (05 R153 to R188, 06 R192 to R214): reliefs, faults, the four ports, the commitment of a word
and dispatch, with the meanings of their rows. -/

namespace Sys2Proof.Machine

open Sys2Proof

/-! ### Relief (06 R211 to R214) -/

/-- Physical engine r is a relief engine that nothing engages. -/
def Dev.reliefFree (d : Dev) (r : Nat) : Bool :=
  d.fld ME_STATUS.ROLE r == 1 && !d.mo.any (fun e => match e.2.relief with | some x => x.new == r | none => false)

/-- Relief engine r holds a warm copy of logical engine n's stores. -/
def Dev.isWarm (d : Dev) (r n : Nat) : Bool :=
  decide (24 ≤ r) && d.flag ME_RELIEF.WARM (r - 24) && d.flag ME_RELIEF.WARM_EN (r - 24) && d.fld ME_RELIEF.WARM_FOR (r - 24) == n

/-- The relief engine for logical engine n: a warm one, else the lowest-numbered. -/
def Dev.reliefPick (d : Dev) (n : Nat) : Option Nat :=
  match (upto 26).find? (fun r => d.reliefFree r && d.isWarm r n) with
  | some r => some r
  | none => (upto 26).find? d.reliefFree

/-- COPYING of relief engine r. -/
def Dev.setCopying (d : Dev) (r : Nat) (b : Bool) : Dev := if 24 ≤ r then d.setFlag ME_RELIEF.COPYING b (r - 24) else d

/-- Relief engine r has lost its warmth by its use for another purpose (06 R211). -/
def Dev.coldRelief (d : Dev) (r : Nat) : Dev :=
  if 24 ≤ r then (d.setFld ME_RELIEF.WARM 0 (r - 24)).setFld ME_RELIEF.COPYING 0 (r - 24) else d

/-- RELIEF, source 0x7DE, rises (13 R467). -/
def Dev.raiseRelief (d : Dev) (n : Nat) (r : MeRelief) (kind cause : Nat) : Dev :=
  d.raiseSys 0x7DE [byt 16 1 n, byt 17 1 r.old, byt 18 1 (if kind = 4 then r.old else r.new), byt 19 1 kind, (160, 1, r.warm.toNat),
    byt 21 1 cause]

/-- ME_DCFG, ME_WDOG, the image's registers and the logical number go from one physical engine to another (06 R212, R221); an activation in
progress goes on holding dispatch (R219). -/
def Dev.moveRegs (d : Dev) (old new n : Nat) : Dev :=
  let cp (e : Dev) (f : Fld) : Dev := e.setFld f (d.fld f old) new
  let d1 := [ME_DCFG.PRIGRP, ME_DCFG.AUTO_COMPLETE, ME_DCFG.SW_RESTART, ME_DCFG.AUTO_RELIEF, ME_WDOG.WD_US, ME_IMAGE.LSTATE,
    ME_IMAGE.KEY_SLOT, ME_IMAGE.ACT, ME_IVER.IMAGE_VERSION].foldl cp d
  ((((d1.setFld ME_STATUS.LOGICAL n new).setFld ME_STATUS.ROLE (if new < 24 then 0 else 2) new).setFld ME_STATUS.FAULT 0 new).setFlag
    ME_DSTAT.HELD (d.ops n).act.isSome new).setFld ME_IMAGE.ACT 0 old

/-- The stores of one engine in another, with nothing running. -/
def Engine.storesOnly (e : Engine) : Engine :=
  { micro := e.micro, nano := e.nano, base_ := e.base_, recover_ := e.recover_, vectors := e.vectors,
    digest := e.digest }

/-- The stores of physical engine `src` are copied to `dst`, whose ME_IMAGE and ME_IVER report them (06 R211 to R213, R221). -/
def Dev.copyStores (d : Dev) (src dst : Nat) : Dev :=
  [ME_IMAGE.LSTATE, ME_IMAGE.KEY_SLOT, ME_IVER.IMAGE_VERSION].foldl (fun e f => e.setFld f (d.fld f src) dst)
    (d.setEng dst (d.eng src).storesOnly)

/-- An unplanned relief has its stores: the frames are abandoned and the image starts at RECOVER_ENTRY (06 R213 steps 2 and 3); the
failed engine is RETIRED (06 R209, R214). -/
def Dev.meRecover (d : Dev) (n : Nat) : Dev :=
  match (d.ops n).relief with
  | none => d
  | some r =>
    let cause := r.cause.getD 0
    let d1 := d.meAbandon r.old 2 cause
    let st := (d1.eng r.old).storesOnly
    let d2 := (d1.copyStores r.old r.new).setEng r.new { st with frames := [{ pc := st.recover_ }], beat := d1.ecNs }
    let d3 := (d2.moveRegs r.old r.new n).setFld ME_STATUS.RUNNING 1 r.new
    let d4 := (((d3.setFld ME_STATUS.RUNNING 0 r.old).setFld ME_STATUS.ROLE 3 r.old).setFld ME_STATUS.FAULT 1 r.old).coldRelief r.new
    let o := d4.ops n
    let d5 := d4.setOps n { o with serv := some r.new, home := if d.meHome n = r.old then some r.new else o.home, relief := none }
    d5.raiseRelief n r 3 cause

/-- An unplanned relief of logical engine n starts, from a copy unless the relief engine is warm (06 R213 step 1). -/
def Dev.unplanned (d : Dev) (n old new cause : Nat) : Dev :=
  let warm := d.isWarm new n
  let d1 := d.setOps n { d.ops n with relief := some { old := old, new := new, cmd := none, cause := some cause, copied := warm, warm := warm } }
  if warm then d1.meRecover n else d1.setCopying new true

/-- A planned relief or return of logical engine n fails STATE. -/
def Dev.reliefFail (d : Dev) (n : Nat) : Dev :=
  match (d.ops n).relief with
  | some r =>
    match r.cmd with
    | some c => ((d.setOps n { d.ops n with relief := none }).setCopying r.new false).finish c 0x13
    | none => d
  | none => d

/-! ### Faults (05 R186, R187, 06 R208, R209) -/

/-- Hardware class of a fault cause (06 R208). -/
def hwCause (c : Nat) : Bool := decide (c ≤ 3) || decide (c ≥ 0x10)

/-- Physical engine p stops. -/
def Dev.meStop (d : Dev) (p : Nat) : Dev :=
  ((d.setFld ME_STATUS.RUNNING 0 p).setFld ME_STATUS.WAITING 0 p).setFld ME_DSTAT.HELD 1 p

/-- ME_FAULT of physical engine p records a cause at the running frame, and PC goes on naming its word (05 R187). -/
def Dev.recordFault (d : Dev) (p cause : Nat) : Dev :=
  let e := d.eng p
  ((((d.setEng p { e with stop := e.top.pc }).setFld ME_FAULT.FPC e.top.pc p).setFld ME_FAULT.FRAME (e.frames.length - 1) p).setFld ME_FAULT.CAUSE cause p).setFld
    ME_FAULT.VALID 1 p

/-- A LOAD_IMAGE with HALT whose engine has stopped goes on (06 R218); one whose target has been retired fails. -/
def Dev.haltResolve (d : Dev) (n : Nat) : Dev :=
  match (d.ops n).load with
  | some l =>
    if l.halting then
      if (d.ops n).relief.isSome ∨ d.meHome n ≠ l.target then (d.setOps n { d.ops n with load := none }).finish l.cmd 0x13
      else if d.flag ME_STATUS.RUNNING l.target then d
      else d.loadBegin n l
    else d
  | none => d

/-- The fault of physical engine p, which serves its logical engine (06 R209): its source rises once; a hardware fault that finds no relief
engine free sets ENGINE_EXHAUSTED (13 R465). -/
def Dev.meFault (d : Dev) (p cause : Nat) : Dev :=
  let n := d.meLogical p
  let d1 := ((d.recordFault p cause).raiseFault n p cause).reliefFail n
  let stay (x : Dev) : Dev := ((x.meAbandon p 1 cause).meStop p).setFld ME_STATUS.FAULT 1 p
  let d2 :=
    if hwCause cause then
      match d1.reliefPick n with
      | none => (stay d1).setFault SYS_FAULT.ENGINE_EXHAUSTED true
      | some r =>
        if d1.flag ME_DCFG.AUTO_RELIEF p then ((d1.meStop p).setFld ME_STATUS.FAULT 1 p).unplanned n p r cause else stay d1
    else if d1.flag ME_DCFG.SW_RESTART p then
      let x := d1.meAbandon p 1 cause
      let e := x.eng p
      x.setEng p { e with gpr := [], ar := [], lf := 0, timer := 0, watch := none, frames := [{ pc := e.recover_ }] }
    else stay d1
  d2.haltResolve n

/-! ### Conditions (05 R157, R160) -/

/-- COND k on physical engine p. -/
def Dev.meCond (d : Dev) (p k : Nat) : Bool :=
  let e := d.eng p
  let f := e.top
  match k with
  | 0x0F => f.loop == 0
  | 0x10 => f.loop != 0
  | 0x11 => e.timer == 0
  | 0x12 => match e.watch with | some (n, v) => decide (v ≤ d.axValue n) | none => false
  | 0x13 => f.qe
  | 0x14 => f.be
  | 0x15 => f.se
  | 0x16 => f.ae
  | 0x17 => !(d.meSources (d.meLogical p)).isEmpty
  | _ =>
    if k < 0x17 then condFlags k f.nzcv
    else if k < 0x20 then e.lf.getLsbD (k - 0x18)
    else d.flagOn (k - 0x20)

/-! ### Addresses and protection of the ports (05 R169, R171, R173, R174) -/

/-- The channel of a quay-port access. -/
def Engine.channel (e : Engine) (w : BitVec 48) (x : BitVec 192) : Nat := ((e.reg (nQpCr x)).toNat + (uImm w).toNat) % 512

/-- The berth address. -/
def Engine.berthAddr (e : Engine) (w : BitVec 48) (x : BitVec 192) : Nat := ((e.reg (nBpAr x)).toNat + (uImm w).toNat) % 2 ^ 21

/-- The width of a berth access in bytes. -/
def nBerthLen (x : BitVec 192) : Nat := if nBp x ≤ 2 then 4 else 8

/-- Berth b is granted to logical engine n. -/
def Dev.engBerth (d : Dev) (n b : Nat) : Bool := d.fbit HM_ENG.BERTH n b

/-- The channel access of a word is not granted (R171). -/
def Dev.quayDenied (d : Dev) (p : Nat) (w : BitVec 48) (x : BitVec 192) : Bool :=
  let e := d.eng p
  let n := d.meLogical p
  nChannel x && (!d.fbit HM_ENG.QUAY n (e.channel w x / 16) ||
    (nQp x == 8 && d.ringDenied (ChItem.ofBytes e.top.slip.toNat 0) (d.engBerth n)))

/-- What the berth access of a word meets. -/
def Dev.berthMeets (d : Dev) (p : Nat) (w : BitVec 48) (x : BitVec 192) : Access :=
  let n := d.meLogical p
  let b := (d.eng p).berthAddr w x / 65536
  if nBerth x then d.access b 0 n (d.engBerth n b) else .served

/-- The access reads, or partly replaces, an uncorrectable word (R174, 11 R372). -/
def Dev.berthUncorrectable (d : Dev) (p : Nat) (w : BitVec 48) (x : BitVec 192) : Bool :=
  let a := (d.eng p).berthAddr w x
  match nBp x with
  | 1 | 3 => d.wordBad a (nBerthLen x)
  | 2 | 4 => d.writeBad a (nBerthLen x)
  | _ => false

/-! ### Sequencing (05 R156, R158, R159) -/

/-- Where a word goes on, its frame's stack after it, and whether it ends the frame. -/
structure MeSeq where
  pc : Nat
  stack : List Nat
  exit : Bool := false
deriving DecidableEq, Repr

/-- The next address under SEQ, or a fault cause; the address after a CALL at 0x1FFF is free. -/
def Dev.meNext (d : Dev) (e : Engine) (w : BitVec 48) (x : BitVec 192) (cond : Bool) : Except Nat MeSeq :=
  let f := e.top
  let fall : Except Nat MeSeq := if f.pc = 0x1FFF then .error 5 else .ok { pc := f.pc + 1, stack := f.stack }
  let jump : Except Nat MeSeq := .ok { pc := uNext w, stack := f.stack }
  match uSeq w with
  | 0 | 2 => jump
  | 1 => if cond then jump else fall
  | _ =>
    if !cond then fall
    else if nRet x then
      if nExit x then .ok { pc := f.pc, stack := [], exit := true }
      else match f.stack with
        | [] => .error 6
        | a :: t => .ok { pc := a, stack := t }
    else if e.stackUse ≥ 32 then .error 6
    else
      let back := if f.pc = 0x1FFF then Config.freeValue d.freeCtr % 8192 else f.pc + 1
      .ok { pc := uNext w, stack := back :: f.stack }

/-- The fault of a word that its condition lets act, before any port acts; 0 for none (R186). -/
def Dev.meCause (d : Dev) (p : Nat) (w : BitVec 48) (x : BitVec 192) (cond : Bool) : Nat :=
  let e := d.eng p
  if nBerth x ∧ e.berthAddr w x % nBerthLen x ≠ 0 then 7
  else if d.quayDenied p w x ∨ d.berthMeets p w x = .denied then 9
  else if d.berthMeets p w x = .lent then 8
  else match d.meNext e w x cond with
    | .error c => c
    | .ok _ => if d.berthMeets p w x = .served ∧ d.berthUncorrectable p w x then 8 else 0

/-! ### The quay port (05 R168 to R172) -/

/-- What the quay port returns. -/
structure QpResult where
  qpd : Option (BitVec 32) := none
  ar : Option (BitVec 64) := none
  slip : Option (BitVec 384) := none
  qe : Option Bool := none
deriving DecidableEq, Repr

/-- QPD of ARM, UPDATE and DISARM (R170). -/
def Dev.qpStatus (d : Dev) (c gen st : Nat) : QpResult :=
  { qpd := some (BitVec.ofNat 32 (pack [(0, 16, gen), (16, 8, st), (24, 3, (d.chan c).cstate)])), qe := some (st ≠ 0) }

/-- The slip operations of a word (05 R168, R169). -/
def Engine.slipPort (e : Engine) (x : BitVec 192) : QpResult :=
  let k := nQpWord x
  let s := e.top.slip.toNat
  match nQp x with
  | 1 => { slip := some (BitVec.ofNat 384 (put s (32 * k) 32 (e.reg (nRa x)).toNat)), qe := some false }
  | 2 => { slip := some (BitVec.ofNat 384 (put s (32 * k) 64 (e.areg (nQpAr x)).toNat)), qe := some false }
  | 3 => { qpd := some (BitVec.ofNat 32 (cut s (32 * k) 32)), qe := some false }
  | 4 => { ar := some (BitVec.ofNat 64 (cut s (32 * k) 64)), qe := some false }
  | _ => {}

/-- The channel access of a word at its scan slot (05 R169, R170), before the slot evaluates the channel. Where no item is concerned, the GEN
that it returns is free. -/
def Dev.chanPort (d : Dev) (e : Engine) (w : BitVec 48) (x : BitVec 192) : Dev × QpResult :=
  let c := e.channel w x
  let k := nQpWord x
  let s := e.top.slip.toNat
  let free := Config.freeValue d.freeCtr
  match nQp x with
  | 5 => (d, { qpd := some (BitVec.ofNat 32 (cut (d.chBytes c) (32 * k) 32)), qe := some false })
  | 6 => (d, { ar := some (BitVec.ofNat 64 (cut (d.chBytes c) (32 * k) 64)), qe := some false })
  | 7 => (d, { slip := some (BitVec.ofNat 384 (d.chBytes c)), qpd := some (BitVec.ofNat 32 (d.chStatus c)), qe := some false })
  | 8 =>
    let (st, d1) := d.arm c (ChItem.ofBytes s 0)
    (d1, d1.qpStatus c (if st = 0 then (d1.chan c).gen else free) st)
  | 9 =>
    let (st, d1) := d.update c (ChItem.ofBytes s 0) 0x7F
    (d1, d1.qpStatus c (match (d.chan c).cur with | some i => i.gen | none => free) st)
  | 10 =>
    let (d1, gen, _, _) := d.disarmAny c (bit k 0)
    (d1, d1.qpStatus c gen 0)
  | _ => (d, {})

/-! ### The berth port (05 R173, R174) -/

/-- What the berth port returns. -/
structure BpResult where
  bpd : Option (BitVec 32) := none
  ar : Option (BitVec 64) := none
  be : Option Bool := none
deriving DecidableEq, Repr

/-- The berth port of a word whose access is served. -/
def Dev.berthPort (d : Dev) (n : Nat) (e : Engine) (w : BitVec 48) (x : BitVec 192) : Dev × BpResult :=
  let a := e.berthAddr w x
  let p1 := d.onP1 (a / 65536) 0 n
  let rd (len : Nat) : Nat := ofBytes (d.portRead p1 a len)
  let wr (bs : List Byte) : Dev × BpResult := ((d.portWrite p1 a bs).2, { be := some (d.portWrite p1 a bs).1 })
  match nBp x with
  | 1 => (d.afterRead a 4, { bpd := some (BitVec.ofNat 32 (rd 4)), be := some false })
  | 2 => wr (bytesOf (e.reg (nBpDr x)).toNat 4)
  | 3 => (d.afterRead a 8, { ar := some (BitVec.ofNat 64 (rd 8)), be := some false })
  | 4 => wr (bytesOf (e.areg (nBpAx x)).toNat 8)
  | _ => (d, {})

/-! ### The sluice port (05 R175 to R177, 06 R203, R204) -/

/-- What the sluice port returns, and the source that it completes. -/
structure SpResult where
  spd : Option (BitVec 32) := none
  se : Option Bool := none
  done : Option Nat := none
deriving DecidableEq, Repr

/-- A soft source rises (08 R277). -/
def Dev.raiseSoft (d : Dev) (k : Nat) : Dev := d.raise 0x10 (0x700 + k) 0 []

/-- Word k of the event window of a frame (R176). -/
def MeFrame.evWord (f : MeFrame) (k : Nat) : BitVec 32 := BitVec.ofNat 32 (bits (f.ev.getD (k / 8) 0) (32 * (k % 8)) 32)

/-- The sluice port of a word. -/
def Dev.sluicePort (d : Dev) (p : Nat) (e : Engine) (w : BitVec 48) (x : BitVec 192) : Dev × SpResult :=
  let base := (e.reg (nSpR x)).toNat + (uImm w).toNat
  let n := d.meLogical p
  let k := nSpW x
  match nSp x with
  | 1 => (d.raiseSoft (base % 128), {})
  | 2 =>
    let s := base % 4096
    if e.active.any (fun a => a.src == s) then (d, { se := some false, done := some s })
    else (d.count ME_DCNT.SPURIOUS_COMPLETE p, { se := some true })
  | 3 => (d, { spd := some (e.top.evWord k) })
  | 4 => (d.setSf k true (some (0, n)), {})
  | 5 => (d.setSf k false none, {})
  | 6 => (d.setSf k true (some (0, n)), { spd := some (BitVec.ofNat 32 (d.flagOn k).toNat) })
  | _ => (d, {})

/-! ### The axis unit port (05 R178 to R181) -/

/-- The words of a tracker snapshot (R179). -/
def Dev.trkSnapshot (d : Dev) (t : Nat) : Snapshot :=
  let s := (d.trkr t).snap
  [BitVec.ofNat 64 (pack [(0, 3, d.wtState t), (3, 1, (d.wtDown t).toNat), (4, 1, d.fld WT_STATUS.STALL t)]), BitVec.ofNat 64 s.v,
    BitVec.ofNat 64 (s.t / 65536), BitVec.ofNat 64 (s.t % 65536), BitVec.ofNat 64 (ofS 32 s.g), BitVec.ofNat 64 s.p,
    BitVec.ofInt 64 s.dp, BitVec.ofNat 64 (d.wtSpeed t)]

/-- The words of the AX0 snapshot (R179, 02 R49); the remaining correction is rounded down to 2^-16 ns (DESIGN CHOICE, log 69). -/
def Dev.ax0Snapshot (d : Dev) : Snapshot :=
  [BitVec.ofNat 64 d.ns, BitVec.ofNat 64 d.frac16,
    BitVec.ofNat 64 (pack [(0, 2, d.fld AX0_STATUS.STATE), (8, 8, d.fld AX0_STATUS.STEP_COUNT)]), BitVec.ofNat 64 d.unc,
    BitVec.ofInt 64 (d.rem / 2 ^ 32), BitVec.ofInt 64 d.rate]

/-- One word of a snapshot, to an axis register or to APD. -/
def snapWord (s : Snapshot) (k : Nat) (toAr : Bool) : ApResult :=
  let v := s.getD k 0
  if toAr then { ar := some v } else { apd := some (v.setWidth 32) }

/-- AXREAD, TRKREAD and AX0READ of a word when it issues; the other operations return nothing here. -/
def Dev.axisPort (d : Dev) (e : Engine) (x : BitVec 192) : ApResult :=
  let k := nApW x
  let a := nApAx x
  match nAp x with
  | 1 =>
    let q := d.axQuality a
    {
      ar := some (BitVec.ofNat 64 (d.axValue a)), ae := some (q == 3)
      apd := some (BitVec.ofNat 32 (pack [(0, 2, q), (2, 1, (d.axType a == 3 && a ≠ 0 && d.axReverse a).toNat)])) }
  | 2 =>
    if k = 0 then { snapWord (d.trkSnapshot (a % 8)) 0 false with trk := some (d.trkSnapshot (a % 8)) }
    else snapWord e.trkSnap k (trkToAr k)
  | 3 =>
    if k = 0 then { snapWord d.ax0Snapshot 0 true with ax0 := some d.ax0Snapshot } else snapWord e.ax0Snap k (ax0ToAr k)
  | _ => {}

/-- DISCIPLINE of microcode (R181, 02 R37): its status, and the part after it. -/
def Dev.meDiscipline (d : Dev) (p : Nat) (e : Engine) (x : BitVec 192) : Nat × Dev :=
  if d.dsrcEngine (d.meLogical p) then
    d.discipline (bit (nApW x) 0) (toS 48 (e.areg 0).toNat) (toS 48 (e.areg 1).toNat) (cut (nApW x) 1 2) (e.reg (nRa x)).toNat
      ((e.reg (nRb x)).toNat % 256)
  else (7, d)

/-- WATCH and UNWATCH (R180). -/
def Engine.watchOp (e : Engine) (x : BitVec 192) : Engine :=
  match nAp x with
  | 4 => { e with watch := some (nApAx x, (e.areg (nApAr x)).toNat) }
  | 5 => { e with watch := none }
  | _ => e

/-! ### Committing a word (05 R164) -/

/-- Operand B. -/
def Engine.opB (e : Engine) (w : BitVec 48) (x : BitVec 192) : BitVec 32 :=
  match nBsel x with
  | 0 => e.reg (nRb x)
  | 1 => (uImm w).setWidth 32
  | 2 => (uImm w).signExtend 32
  | _ => (uImm w).setWidth 32 <<< 16

/-- CTL_OP (R162): LOOP of the frame. -/
def ctlLoop (e : Engine) (w : BitVec 48) (x : BitVec 192) (l : BitVec 16) : BitVec 16 :=
  match nCtl x with
  | 1 => uImm w
  | 2 => (e.reg (nRa x)).setWidth 16
  | 3 => if l = 0 then 0 else l - 1
  | _ => l

/-- CTL_OP (R162): TIMER and the local flags. -/
def Engine.ctl (old e : Engine) (w : BitVec 48) (x : BitVec 192) : Engine :=
  match nCtl x with
  | 4 => { e with timer := (uImm w).setWidth 32 }
  | 5 => { e with timer := old.reg (nRa x) }
  | 6 => { e with lf := BitVec.ofNat 8 (put e.lf.toNat (nLf x) 1 1) }
  | 7 => { e with lf := BitVec.ofNat 8 (put e.lf.toNat (nLf x) 1 0) }
  | _ => e

/-- The frame's source is completed or stays active, and the frame ends (06 R199, R205). -/
def Engine.exit (e : Engine) (auto : Bool) : Engine :=
  let f := e.top
  let active := match f.src with
    | none => e.active
    | some (s, _) =>
      if auto then e.active.filter (fun a => a.src != s)
      else e.active.map (fun a => if a.src == s then { a with exited := some f.pc } else a)
  { e.fresh with frames := e.frames.dropLast, active := active }

/-- The watchdog stops counting once no frame is open (06 R207). -/
def Engine.idle (e : Engine) (t : Nat) : Engine := if e.frames.isEmpty then { e with beatHeld := t - e.beat } else e

/-- A frame opens: the watchdog of an idle engine goes on from what it had counted (06 R207). -/
def Engine.busy (e : Engine) (t : Nat) : Engine := if e.frames.isEmpty then { e with beat := t - e.beatHeld } else e

/-- The run after a committed word: the engine, and whether ATOM_OVERRUN counts (05 R182). -/
def Engine.afterWord (e : Engine) (w : BitVec 48) (x : BitVec 192) : Engine × Bool :=
  if !uAtom w then (e.fresh, false)
  else if e.run ≥ 16 then (e.fresh, true)
  else ({ e with run := e.run + 1, runQp := e.runQp + (nChannel x).toNat, runBp := e.runBp + (nBerth x).toNat, sampled := false }, false)

/-- The writes of a word to its engine: registers, axis registers, flags, frame (R164). -/
def Engine.commit (e : Engine) (w : BitVec 48) (x : BitVec 192) (q : QpResult) (b : BpResult) (s : SpResult) (a : ApResult)
    (free : BitVec 32) (go : MeSeq) : Engine :=
  let f := e.top
  let (res, aluF) := alu (nAlu x) (e.reg (nRa x)) (e.opB w x) f.nzcv
  let fl := wordFlags (nFlWe x) (nAxOp x) f.nzcv aluF (e.areg (nAra x)) (e.areg (nArb x))
  let wb : Option (BitVec 32) := match nWb x with
    | 0 => res
    | 1 => some ((e.areg (nAra x)).setWidth 32)
    | 2 => some ((e.areg (nAra x) >>> 32).setWidth 32)
    | 3 => q.qpd
    | 4 => b.bpd
    | 5 => s.spd
    | 6 => a.apd
    | _ => some (f.loop.setWidth 32)
  let e1 := if nRdWe x then e.setReg (nRd x) (wb.getD free) else e
  let e2 := if nBerth x && nBpInc x then e1.setReg (nBpAr x) (e.reg (nBpAr x) + BitVec.ofNat 32 (nBerthLen x)) else e1
  let e3 := e2.setAreg (nArd x) (axOp (nAxOp x) (e.areg (nAra x)) (e.areg (nArb x)) (e.areg (nArd x)) (e.reg (nRa x)) (e.reg (nRb x)))
  let e4 := ((e3.setAreg (nQpAr x) q.ar).setAreg (nBpAx x) b.ar).setAreg (nApAr x) a.ar
  let e5 := e.ctl e4 w x
  let e6 := { e5 with
    trkSnap := a.trk.getD e.trkSnap, ax0Snap := a.ax0.getD e.ax0Snap
    watch := (e.watchOp x).watch
    active := match s.done with | some k => e.active.filter (fun y => y.src != k) | none => e.active
    qpWait := none, bpWait := none }
  e6.setTop { f with
    pc := go.pc, stack := go.stack, z := fl.z, n := fl.n, c := fl.c, v := fl.v
    qe := q.qe.getD f.qe, be := b.be.getD f.be, se := s.se.getD f.se, ae := a.ae.getD f.ae
    loop := ctlLoop e w x f.loop, slip := q.slip.getD f.slip }

/-- A word commits: its ports act (its quay port has answered `q`), its writes are made, and it goes on (R156, R164). -/
def Dev.meCommit (d : Dev) (p : Nat) (w : BitVec 48) (x : BitVec 192) (go : MeSeq) (ap : ApResult) (q : QpResult) : Dev :=
  let e := d.eng p
  let n := d.meLogical p
  let (d2, b) := d.berthPort n e w x
  let (d3, s) := d2.sluicePort p e w x
  let (d4, a) := if nAp x = 6 then
      let (st, y) := d3.meDiscipline p e x
      (y, { ap with apd := some (BitVec.ofNat 32 st), ae := some (st ≠ 0) })
    else (d3, ap)
  let e1 := e.commit w x q b s a (BitVec.ofNat 32 (Config.freeValue (d.freeCtr + 1))) go
  let e2 := if nHb x then { e1 with beat := d.ecNs } else e1
  let (e3, over_) := e2.afterWord w x
  let d5 := if over_ then d4.count ME_CNT.ATOM_OVERRUN p else d4
  let e4 := if go.exit then ((e3.setTop { e3.top with pc := e.top.pc }).exit (d.flag ME_DCFG.AUTO_COMPLETE p)).idle d.ecNs else e3
  ((d5.setEng p e4).setFld ME_STATUS.WAITING 0 p).nextFree.nextFree

/-- A word that may go on (R186): not one that faults, and not one whose berth is lent, which the engine `hold` waits for (R185). -/
def Dev.meGuard (d : Dev) (p : Nat) (w : BitVec 48) (x : BitVec 192) (cond : Bool) (hold : Engine) (k : Dev) : Dev :=
  let e := d.eng p
  let c := d.meCause p w x cond
  if c ≠ 0 then
    let d1 := if c = 8 ∧ d.berthMeets p w x = .served then d.afterRead (e.berthAddr w x) (nBerthLen x) else d
    d1.meFault p c
  else if d.berthMeets p w x = .stall then (d.setEng p hold).startReturn (e.berthAddr w x / 65536)
  else k

/-- A word acts: it waits for a lent berth with the COND of its start (R157), for its scan slot, or commits. -/
def Dev.meAct (d : Dev) (p : Nat) (w : BitVec 48) (x : BitVec 192) (cond : Bool) (ap : ApResult) : Dev :=
  let e := d.eng p
  d.meGuard p w x cond { e with bpWait := some (cond, ap) }
    (if nChannel x then (d.setEng p { e with qpWait := some (cond, ap), bpWait := none }).setFld ME_STATUS.WAITING 0 p
    else match d.meNext e w x cond with
      | .ok go => d.meCommit p w x go ap (e.slipPort x)
      | .error _ => d)

/-- A correction of one of its stores counts in ECC_CORR of physical engine p (R154). -/
def Dev.meCorrected (d : Dev) (p : Nat) (r : StoreRead) : Dev := if r = .corrected then d.count ME_CNT.ECC_CORR p else d

/-- The word at PC with its nano-word goes to `k`, unless its fetch or decode faults (R154, R163, R186). -/
def Dev.meFetch (d : Dev) (p : Nat) (chk : StoreCheck) (k : BitVec 48 → BitVec 192 → Dev → Dev) : Dev :=
  let e := d.eng p
  if chk.micro = .bad then d.meFault p 1
  else
    let d1 := d.meCorrected p chk.micro
    match e.micro[e.top.pc]? with
    | none => d1.meFault p 4
    | some w =>
      if chk.nano = .bad then d1.meFault p 2
      else
        let d2 := d1.meCorrected p chk.nano
        match e.nano[uNano w]? with
        | none => d2.meFault p 4
        | some x => if chk.parity then d2.meFault p 3 else if nIllegal x then d2.meFault p 4 else k w x d2

/-- The limits of an atomic run (05 R183): the word would break one. -/
def Engine.runBroken (e : Engine) (x : BitVec 192) : Bool :=
  !e.sampled && ((nChannel x && (e.runQp ≠ 0 || e.runBp ≠ 0 || nBerth x)) || (nBerth x && (e.runQp ≠ 0 || decide (e.runBp ≥ 8))))

/-- A word issues (R156, R161, R183), or is tried again after a wait for its berth. -/
def Dev.meIssue (d : Dev) (p : Nat) (w : BitVec 48) (x : BitVec 192) : Dev :=
  match (d.eng p).bpWait with
  | some (cond, ap) => d.meAct p w x cond ap
  | none =>
  let broken := (d.eng p).runBroken x
  let d1 := if broken then (d.setEng p (d.eng p).fresh).count ME_CNT.ATOM_OVERRUN p else d
  if broken ∧ (d1.meWinner p).isSome then d1
  else
    let cond := d1.meCond p (uCond w)
    if uSeq w = 2 ∧ cond = false then (d1.setEng p (d1.eng p).fresh).setFld ME_STATUS.WAITING 1 p
    else d1.meAct p w x cond (d1.axisPort (d1.eng p) x)

/-- Physical engine p can issue a word. -/
def Dev.meCanIssue (d : Dev) (p : Nat) : Bool :=
  d.meServes p && d.flag ME_STATUS.RUNNING p && !d.flag ME_STATUS.FAULT p && !(d.eng p).frames.isEmpty && (d.eng p).qpWait.isNone

/-! ### The rows of an engine that runs -/

/-- ME_WORD (05 R156). -/
def meWordEff (p : Nat) (chk : StoreCheck) (d : Dev) : Dev :=
  if d.meCanIssue p && !d.flag ME_STATUS.WAITING p then d.meFetch p chk (fun w x y => y.meIssue p w x) else d

/-- ME_WAIT_SATISFIED (05 R156): COND of the waiting word is true. -/
def meWaitSatisfiedEff (p : Nat) (chk : StoreCheck) (d : Dev) : Dev :=
  if d.meCanIssue p && d.flag ME_STATUS.WAITING p then
    match (d.eng p).micro[(d.eng p).top.pc]? with
    | some w =>
      if d.meCond p (uCond w) then
        d.meFetch p chk (fun w x y => (y.setFld ME_STATUS.WAITING 0 p).meAct p w x true (y.axisPort (y.eng p) x))
      else d
    | none => d
  else d

/-- The word of engine p that waits for a scan slot, with its nano-word. -/
def Dev.qpWord (d : Dev) (p : Nat) : Option (BitVec 48 × BitVec 192) :=
  let e := d.eng p
  if e.qpWait.isSome && d.meServes p && d.flag ME_STATUS.RUNNING p then
    (e.micro[e.top.pc]?).bind (fun w => (e.nano[uNano w]?).map (fun x => (w, x)))
  else none

/-- The engines that wait for the scan slot of channel c. -/
def Dev.qpWaits (d : Dev) (c : Nat) : List Nat :=
  (upto 26).filter (fun p => match d.qpWord p with | some (w, x) => (d.eng p).channel w x == c | none => false)

/-- The channel access of engine p's word at the slot: the part, and what the word still has to commit. -/
def Dev.qpAccess (d : Dev) (p : Nat) : Dev × Option (MeSeq × QpResult) :=
  match d.qpWord p, (d.eng p).qpWait with
  | some (w, x), some (cond, _) =>
    match d.meNext (d.eng p) w x cond with
    | .ok go => if d.meCause p w x cond = 0 ∧ d.berthMeets p w x ≠ .stall then
        let (d1, q) := d.chanPort (d.eng p) w x
        (d1, some (go, q))
      else (d.meGuard p w x cond (d.eng p) d, none)
    | .error _ => (d.meGuard p w x cond (d.eng p) d, none)
  | _, _ => (d, none)

/-- The word of engine p commits at the end of the slot (05 R170): ARM, UPDATE and DISARM return CSTATE after it. -/
def Dev.qpCommit (d : Dev) (p : Nat) (go : MeSeq) (q : QpResult) : Dev :=
  match d.qpWord p, (d.eng p).qpWait with
  | some (w, x), some (_, ap) =>
    let after (v : BitVec 32) : BitVec 32 := BitVec.ofNat 32 (put v.toNat 24 3 (d.chan ((d.eng p).channel w x)).cstate)
    d.meCommit p w x go ap (if 8 ≤ nQp x then { q with qpd := q.qpd.map after } else q)
  | _, _ => d

/-- A source is taken for dispatch: its oldest item, or its latest occurrence (06 R197 E1, 08 R264, R266). -/
def Dev.meTake (d : Dev) (s : Nat) : List Record × Dev :=
  match d.sl.items.find? (fun i => i.src == s) with
  | some i =>
    let d1 : Dev := { d with sl := { d.sl with items := d.sl.items.erase i } }
    (i.recs, if d1.hasItem s || (d1.src s).count ≠ 0 then d1 else d1.setPend s false)
  | none =>
    let g := d.grpOf s
    let d1 := d.taken s
    (d.deliverable s, if (d.grp g).running then d1 else d1.reload g)

/-- GEN of a delivery's first record. -/
def recsGen (l : List Record) : Nat := bits (l.headD 0) 32 16

/-- ME_DISPATCH (06 R195 to R197). -/
def meDispatchEff (p : Nat) (d : Dev) : Dev :=
  let e := d.eng p
  if d.meServes p && d.flag ME_STATUS.RUNNING p && !d.flag ME_STATUS.FAULT p && !d.flag ME_DSTAT.HELD p &&
      (e.sampled || e.frames.isEmpty || d.flag ME_STATUS.WAITING p) && e.qpWait.isNone then
    match d.meWinner p with
    | none => d
    | some s =>
      if e.frames.length ≥ 8 then
        if e.full.contains s then d
        else (d.count ME_DCNT.DEPTH_FULL p).setEng p { e with full := e.full.filter d.pend ++ [s] }
      else
        let n := d.meLogical p
        let (recs, d1) := d.meTake s
        let gen := recsGen recs
        let v := e.vectors.getD (d.grpOf s) 0xFFFF
        if v = 0xFFFF then d1.meLost n p 4 0 e.frames.length 0 (some (s, gen)) false
        else
          let f : MeFrame := { pc := v, ev := recs.take 3, src := some (s, gen), grp := d.meGroup p s }
          let e1 := { (e.busy d.ecNs).fresh with
            frames := e.frames ++ [f], full := e.full.filter (· ≠ s), bpWait := none,
            active := e.active ++ [{ src := s, gen := gen, frame := e.frames.length }] }
          (d1.setEng p e1).setFld ME_STATUS.WAITING 0 p
  else d

/-- ME_TIMER_EXPIRE (05 R188): TIMER counts its last cycle. -/
def meTimerExpireEff (p : Nat) (d : Dev) : Dev :=
  if p < 26 ∧ (d.eng p).timer = 1 then d.setEng p { d.eng p with timer := 0 } else d

/-- HEARTBEAT_EXPIRE (06 R207): WD_US have passed since the latest heartbeat, takeover or activation. -/
def heartbeatExpireEff (p : Nat) (d : Dev) : Dev :=
  if d.meServes p ∧ d.flag ME_STATUS.RUNNING p ∧ (d.eng p).frames ≠ [] ∧ d.fld ME_WDOG.WD_US p ≠ 0 ∧
      (d.ops (d.meLogical p)).act = none ∧ (d.eng p).beat + 1000 * d.fld ME_WDOG.WD_US p ≤ d.ecNs then
    d.meFault p 0x10
  else d

/-- One ECLK cycle of TIMER. -/
def Dev.meTick (d : Dev) (p : Nat) : Dev :=
  let e := d.eng p
  if e.timer = 0 then d else d.setEng p { e with timer := e.timer - 1 }

/-! ### The rows -/

/-- ME_DISPATCH -/
def execMeDispatch (p : Nat) (s : State) : Host.Outcome State Fault Refusal := s.act (meDispatchEff p)
/-- ME_WORD -/
def execMeWord (p : Nat) (chk : StoreCheck) (s : State) : Host.Outcome State Fault Refusal := s.actAll (meWordEff p chk)
/-- ME_WAIT_SATISFIED -/
def execMeWaitSatisfied (p : Nat) (chk : StoreCheck) (s : State) : Host.Outcome State Fault Refusal :=
  s.actAll (meWaitSatisfiedEff p chk)
/-- ME_TIMER_EXPIRE -/
def execMeTimerExpire (p : Nat) (s : State) : Host.Outcome State Fault Refusal := s.act (meTimerExpireEff p)
/-- HEARTBEAT_EXPIRE -/
def execHeartbeatExpire (p : Nat) (s : State) : Host.Outcome State Fault Refusal := s.act (heartbeatExpireEff p)
end Sys2Proof.Machine
end

