-- ==== Sys2Proof/Machine/MeImage.lean ====
section
/-! DEFINITION. Loading and activating microcode (06 R216 to R219), planned reliefs, returns and warm copies (R211, R212), with
the meanings of their rows. -/

namespace Sys2Proof.Machine

open Sys2Proof

/-! ### Commands (06 R212, R216, R219) -/

/-- A load, relief or activation of logical engine n is in progress. -/
def Dev.meBusy (d : Dev) (n : Nat) : Bool := (d.ops n).load.isSome || (d.ops n).relief.isSome || (d.ops n).act.isSome

/-- LOAD_IMAGE (R216, R217, 09 R317). -/
def Dev.loadCmd (d : Dev) (c : Cmd) : Dev :=
  let n := c.target
  let t := d.meHome n
  let l : MeLoad := { cmd := c, target := t, space := bits c.w 160 1, addr := bits c.w 64 64, len := bits c.w 128 32 }
  if l.len > 90432 then d.finish c 0x01
  else if (d.flag ME_STATUS.RUNNING t ∧ c.opt = false) ∨ d.meBusy n then d.finish c 0x05
  else if d.flag ME_STATUS.RUNNING t then d.setOps n { d.ops n with load := some { l with halting := true } }
  else d.loadBegin n l

/-- ACTIVATE_IMAGE (R219): accepted, the serving engine holds dispatch. -/
def Dev.activateCmd (d : Dev) (c : Cmd) : Dev :=
  let n := c.target
  let t := d.meHome n
  let us := bits c.w 64 16
  if (d.ops n).relief.isSome ∨ (d.ops n).act.isSome then d.finish c 0x05
  else if d.flag ME_STATUS.RUNNING t ∨ d.fld ME_IMAGE.LSTATE t ≠ 2 then d.finish c 0x13
  else
    let due := d.ecNs + 1000 * (if us = 0 then 100 else us)
    (d.setOps n { d.ops n with act := some { cmd := c, keep := c.opt, due := due } }).setFld ME_DSTAT.HELD 1 (d.meServ n)

/-- RELIEVE_ENGINE with action RELIEVE (R212 step 1). -/
def Dev.relieveCmd (d : Dev) (c : Cmd) : Dev :=
  let n := c.target
  let k := bits c.w 64 8
  if k ≠ 24 ∧ k ≠ 25 ∧ k ≠ 0xFF then d.finish c 0x01
  else if d.meBusy n then d.finish c 0x05
  else
    match if k = 0xFF then d.reliefPick n else if d.reliefFree k then some k else none with
    | none => d.finish c 0x0F
    | some r =>
      let warm := d.isWarm r n
      let d1 := d.setOps n { d.ops n with relief := some { old := d.meServ n, new := r, cmd := some c, copied := warm, warm := warm } }
      if warm then d1 else d1.setCopying r true

/-- RELIEVE_ENGINE with action RETURN (R212): the home's stores must still hold the image. -/
def Dev.returnCmd (d : Dev) (c : Cmd) : Dev :=
  let n := c.target
  let t := d.meHome n
  if d.meBusy n then d.finish c 0x05
  else if d.meServ n = t ∨ (d.ops n).loaded then d.finish c 0x13
  else d.setOps n { d.ops n with relief := some { old := d.meServ n, new := t, cmd := some c, ret := true, copied := true } }

/-! ### Warm copies (06 R211) -/

/-- A relief engine that is idle again copies the stores that it keeps warm. -/
def Dev.rewarm (d : Dev) (r : Nat) : Dev :=
  if 24 ≤ r ∧ d.flag ME_RELIEF.WARM_EN (r - 24) ∧ d.fld ME_RELIEF.WARM_FOR (r - 24) < 24 then (d.coldRelief r).setCopying r true
  else d.coldRelief r

/-- ME_RELIEF of relief engine 24 + k takes a value (06 R211, R221). -/
def Dev.writeMeRelief (d : Dev) (k v : Nat) : Dev :=
  let d1 := ((d.setFld ME_RELIEF.WARM_EN (cut v 0 1) k).setFld ME_RELIEF.WARM_FOR (cut v 1 5) k)
  if d1.reliefFree (24 + k) then d1.rewarm (24 + k) else d1.setFld ME_RELIEF.WARM 0 k

/-- WARM_COPY_DONE. -/
def warmCopyDoneEff (p : Nat) (d : Dev) : Dev :=
  let k := p - 24
  let n := d.fld ME_RELIEF.WARM_FOR k
  if 24 ≤ p ∧ p < 26 ∧ d.reliefFree p ∧ d.flag ME_RELIEF.WARM_EN k ∧ d.flag ME_RELIEF.COPYING k ∧ n < 24 then
    ((d.copyStores (d.meServ n) p).setFld ME_RELIEF.WARM 1 k).setFld ME_RELIEF.COPYING 0 k
  else d

/-! ### Reliefs (06 R212, R213) -/

/-- RELIEF_COPY_DONE. -/
def reliefCopyDoneEff (n : Nat) (uncorrectable : Bool) (d : Dev) : Dev :=
  match (d.ops n).relief with
  | none => d
  | some r =>
    if r.copied then d
    else
      match r.cause with
      | some _ =>
        if uncorrectable then
          let d1 := ((d.setOps n { d.ops n with relief := none }).setCopying r.new false).setFld ME_FAULT.CAUSE 0x11 r.old
          ((d1.meAbandon r.old 1 0x11).raiseRelief n r 4 0x11).haltResolve n
        else d.meRecover n
      | none =>
        if uncorrectable then d.reliefFail n
        else ((d.copyStores r.old r.new).setOps n { d.ops n with relief := some { r with copied := true } }).setCopying r.new false

/-- A sampled boundary of physical engine p, or an engine that does not run. -/
def Dev.meBoundary (d : Dev) (p : Nat) : Bool :=
  let e := d.eng p
  !d.flag ME_STATUS.RUNNING p || e.frames.isEmpty || ((e.sampled || d.flag ME_STATUS.WAITING p) && e.qpWait.isNone)

/-- A takeover moves logical engine n (R212 steps 2 to 4). -/
def Dev.takeover (d : Dev) (n : Nat) (r : MeRelief) (c : Cmd) : Dev :=
  let e := d.eng r.old
  let runs := d.flag ME_IMAGE.ACT r.old
  let d1 := (d.setEng r.new { e with beat := d.ecNs }).setEng r.old e.storesOnly
  let d2 := ((d1.moveRegs r.old r.new n).setFlag ME_STATUS.RUNNING runs r.new).setFld ME_STATUS.WAITING (d.fld ME_STATUS.WAITING r.old) r.new
  let d3 := (d2.setFld ME_STATUS.RUNNING 0 r.old).setFld ME_STATUS.WAITING 0 r.old
  let d4 := if r.old = d.meHome n then d3
    else ((d3.setFld ME_STATUS.ROLE 1 r.old).setFld ME_STATUS.LOGICAL 0 r.old).rewarm r.old
  let d5 := (d4.coldRelief r.new).setOps n { d4.ops n with serv := some r.new, relief := none, loaded := (d.ops n).loaded && !r.ret && decide (r.old ≠ d.meHome n) }
  (d5.raiseRelief n r (if r.ret then 2 else 1) 0).finish c 0 [byt 22 1 r.new, (184, 1, r.warm.toNat)]

/-- RELIEF_TAKEOVER: a parity error in the state moved makes it an unplanned relief with cause TRANSFER (R213). -/
def reliefTakeoverEff (n : Nat) (parity : Bool) (d : Dev) : Dev :=
  match (d.ops n).relief with
  | none => d
  | some r =>
    match r.cmd with
    | none => d
    | some c =>
      if r.copied ∧ d.meBoundary r.old then
        if parity then
          let d1 := ((d.recordFault r.old 0x12).raiseFault n r.old 0x12).setOps n { d.ops n with relief := some { r with cmd := none, cause := some 0x12 } }
          (d1.meRecover n).finish c 0x13
        else d.takeover n r c
      else d

/-! ### Loading and activation (06 R217 to R219) -/

/-- HALT_STOP. -/
def haltStopEff (n : Nat) (d : Dev) : Dev :=
  match (d.ops n).load with
  | some l =>
    if l.halting ∧ d.flag ME_STATUS.RUNNING l.target ∧ d.meBoundary l.target then
      ((d.meAbandon l.target 5 0).meStop l.target).loadBegin n l
    else d
  | none => d

/-- LOAD_VERIFY_DONE. -/
def loadVerifyDoneEff (n : Nat) (d : Dev) : Dev :=
  match (d.ops n).load with
  | some l =>
    if l.halting = false ∧ l.len ≤ l.bytes.length then
      if signatureOk (d.fld HM_KEY.KEY l.slot) l.bytes then d.loadEnd n l 2 0 else d.loadEnd n l 3 0x12
    else d
  | none => d

/-- ACTIVATE_DRAIN_TIMEOUT. -/
def activateDrainTimeoutEff (n : Nat) (d : Dev) : Dev :=
  match (d.ops n).act with
  | some a =>
    if a.due ≤ d.ecNs then
      let (d1, k) := d.meAbandonHandlers (d.meServ n) 3
      d1.setOps n { d1.ops n with act := some { a with lost := a.lost + k } }
    else d
  | none => d

/-- Physical engine t starts its image at BASE_ENTRY for logical engine n (R219 step 5). -/
def Dev.meStart (d : Dev) (n t : Nat) (e : Engine) : Dev :=
  let d1 := (d.setEng t { e with frames := [{ pc := e.base_ }], beat := d.ecNs }).setFld ME_STATUS.RUNNING 1 t
  let d2 := ((d1.setFld ME_STATUS.WAITING 0 t).setFld ME_STATUS.FAULT 0 t).setFld ME_STATUS.ROLE 0 t
  ((((d2.setFld ME_STATUS.LOGICAL n t).setFld ME_DSTAT.HELD 0 t).setFld ME_IMAGE.ACT 1 t).setFld ME_FAULT.VALID 0 t).setOps n
    { d2.ops n with serv := some t, act := none, loaded := false }

/-- The base level of physical engine p is at a sampled boundary, or the engine is idle or stopped (R219 step 3). -/
def Dev.atBase (d : Dev) (p : Nat) : Bool := d.meBoundary p && (d.eng p).frames.all (fun f => f.src.isNone)

/-- ACTIVATE_SWITCH (R219 steps 3 to 6); an unplanned relief in progress ends first. -/
def activateSwitchEff (n : Nat) (d : Dev) : Dev :=
  match (d.ops n).act with
  | none => d
  | some a =>
    let s := d.meServ n
    let t := d.meHome n
    if d.atBase s ∧ (d.ops n).relief = none then
      let e := d.eng s
      let st := (d.eng t).storesOnly
      let e1 := if a.keep then { st with gpr := e.gpr, ar := e.ar, lf := e.lf, active := e.active } else { st with active := e.active }
      let d1 := if s = t then d
        else
          let cp (x : Dev) (f : Fld) : Dev := x.setFld f (d.fld f s) t
          let x := [ME_DCFG.PRIGRP, ME_DCFG.AUTO_COMPLETE, ME_DCFG.SW_RESTART, ME_DCFG.AUTO_RELIEF, ME_WDOG.WD_US].foldl cp d
          let y := ((x.setEng s e.storesOnly).setFld ME_STATUS.RUNNING 0 s).setFld ME_STATUS.WAITING 0 s
          ((((y.setFld ME_IMAGE.ACT 0 s).setFld ME_DSTAT.HELD 0 s).setFld ME_STATUS.FAULT 0 s).setFld ME_STATUS.ROLE 1 s).setFld
            ME_STATUS.LOGICAL 0 s
      let d2 := if s = t then d1 else d1.rewarm s
      let d3 := (d2.meStart n t e1).warmStale n
      d3.finish a.cmd 0 [byt 22 4 (d3.fld ME_IVER.IMAGE_VERSION t), byt 26 1 a.lost, byt 27 1 t]
    else d

/-! ### The rows -/

/-- WARM_COPY_DONE -/
def execWarmCopyDone (p : Nat) (s : State) : Host.Outcome State Fault Refusal := s.act (warmCopyDoneEff p)
/-- RELIEF_COPY_DONE -/
def execReliefCopyDone (n : Nat) (uncorrectable : Bool) (s : State) : Host.Outcome State Fault Refusal :=
  s.act (reliefCopyDoneEff n uncorrectable)
/-- RELIEF_TAKEOVER -/
def execReliefTakeover (n : Nat) (parity : Bool) (s : State) : Host.Outcome State Fault Refusal := s.act (reliefTakeoverEff n parity)
/-- HALT_STOP -/
def execHaltStop (n : Nat) (s : State) : Host.Outcome State Fault Refusal := s.act (haltStopEff n)
/-- LOAD_VERIFY_DONE -/
def execLoadVerifyDone (n : Nat) (s : State) : Host.Outcome State Fault Refusal := s.act (loadVerifyDoneEff n)
/-- ACTIVATE_DRAIN_TIMEOUT -/
def execActivateDrainTimeout (n : Nat) (s : State) : Host.Outcome State Fault Refusal := s.act (activateDrainTimeoutEff n)
/-- ACTIVATE_SWITCH -/
def execActivateSwitch (n : Nat) (s : State) : Host.Outcome State Fault Refusal := s.act (activateSwitchEff n)

end Sys2Proof.Machine
end

