-- ==== Sys2Proof/Machine/Lighter.lean ====
section
/-! DEFINITION. The lighter (10 R330 to R369): instructions, bursts, errors, the tail of a chain, pause and resume, and the meanings
of their rows. -/

namespace Sys2Proof.Machine

open Sys2Proof

/-! ### Channels (R330, R331) -/

/-- Lighter channel c. -/
def Dev.ltc (d : Dev) (c : Nat) : Lt := get {} d.lt.chans c

/-- The part with lighter channel c replaced. -/
def Dev.setLt (d : Dev) (c : Nat) (x : Lt) : Dev := { d with lt := { d.lt with chans := set {} d.lt.chans c x } }

/-- LSTATE as it is kept: WAITING for a request or for the link is seen in `ltSeen`. -/
def Dev.ltState (d : Dev) (c : Nat) : Nat := d.fld LT_STAT.LSTATE c

/-- PC. -/
def Dev.ltPc (d : Dev) (c : Nat) : Nat := d.fld LT_PC.PC c

/-- The part with LSTATE of channel c changed. -/
def Dev.setLs (d : Dev) (c st : Nat) : Dev := d.setFld LT_STAT.LSTATE st c

/-- PC[31:0] takes a value: a program lies within one window of 4 GiB (R336). -/
def Dev.setPcLow (d : Dev) (c v : Nat) : Dev := d.setFld LT_PC.PC (put (d.ltPc c) 0 32 v) c

/-- The channel goes on with the next instruction. -/
def Dev.ltNext (d : Dev) (c : Nat) : Dev := d.setPcLow c (d.ltPc c % 2 ^ 32 + 8)

/-- A[n]. -/
def Lt.a (x : Lt) (n : Nat) : Nat := (get 0 x.areg n).toNat

/-- The channel with A[n] written. -/
def Lt.setA (x : Lt) (n v : Nat) : Lt := { x with areg := set 0 x.areg n (BitVec.ofNat 64 v) }

/-! ### Addresses (R333 to R335, R344) -/

/-- What an address names. -/
inductive LtTarget
  | host (a : Nat)
  | berth (a : Nat)
  | tx (n : Nat)
  | rx (n : Nat)
  | unmapped
deriving DecidableEq, Repr

/-- The target of an address (R333, R334). -/
def ltTarget (a : Nat) : LtTarget :=
  let v := cut a 0 62
  match cut a 62 2 with
  | 0 => .host v
  | 1 =>
    if v < 0x200000 then .berth v
    else if v < 0x200200 ∧ v % 16 = 0 then .tx ((v - 0x200000) / 16)
    else if v < 0x200200 ∧ v % 16 = 4 then .rx ((v - 0x200000) / 16)
    else .unmapped
  | _ => .unmapped

/-- The address names host memory. -/
def ltHost (a : Nat) : Bool := cut a 62 2 == 0

/-- An address moved by n bytes, wrapping within 2^k bytes where k is not 0 (R333, R344). -/
def ltAdd (a k n : Nat) : Nat :=
  let v := cut a 0 62
  let r := if k = 0 then (v + n) % 2 ^ 62 else v / 2 ^ k * 2 ^ k + (v + n) % 2 ^ k
  put a 0 62 r

/-- The function that owns channel c. -/
def Dev.ltFn (d : Dev) (c : Nat) : Nat := (d.lighterOwner c).getD 8

/-- What an access of channel c to berth b meets (R335). -/
def Dev.ltAccess (d : Dev) (c b : Nat) : Access := d.access b 1 c (d.fbit HM_FBERTH.BERTH (d.ltFn c) b && decide (d.ltFn c < 8))

/-- Pin engine n is granted to the function of channel c. -/
def Dev.ltPinOk (d : Dev) (c n : Nat) : Bool := decide (d.ltFn c < 8) && d.fbit HM_FPIN.PIN (d.ltFn c) n

/-- Host memory of channel c's function can be reached (R362). -/
def Dev.ltLink (d : Dev) (c : Nat) : Bool :=
  d.linkUsable && decide (d.ltFn c < 8) && (d.func (d.ltFn c)).bme && !(d.func (d.ltFn c)).d3

/-! ### Fields of a descriptor (R338, R339) -/

/-- An access width in bytes. -/
def ltWidth (k : Nat) : Nat := 2 ^ k

/-- The descriptor is a MOVEI. -/
def mvI (w : BitVec 64) : Bool := bits w 60 4 == 2
def mvSA (w : BitVec 64) : Nat := bits w 58 2
def mvDA (w : BitVec 64) : Nat := bits w 56 2
def mvSW (w : BitVec 64) : Nat := ltWidth (bits w 53 3)
def mvDW (w : BitVec 64) : Nat := if mvI w then 4 else ltWidth (bits w 50 3)
def mvSI (w : BitVec 64) : Bool := w.getLsbD 49
def mvDI (w : BitVec 64) : Bool := if mvI w then w.getLsbD 55 else w.getLsbD 48
def mvSWrap (w : BitVec 64) : Nat := bits w 43 5
def mvDWrap (w : BitVec 64) : Nat := if mvI w then 0 else bits w 38 5
def mvPace (w : BitVec 64) : Bool := !mvI w && w.getLsbD 37
def mvCount (w : BitVec 64) : Nat := if mvI w then 4 else bits w 0 32
/-- The place of BAD. -/
def mvBadBit (w : BitVec 64) : Nat := if mvI w then 54 else 35
def mvBad (w : BitVec 64) : Bool := w.getLsbD (mvBadBit w)

/-- SWRAP or DWRAP has a value that is not reserved. -/
def wrapOk (k : Nat) : Bool := k == 0 || (decide (6 ≤ k) && decide (k ≤ 24))

/-- A MOVE's own fields fail (R343, R348): `a`, `b` are its addresses. -/
def Dev.mvBadFields (d : Dev) (c : Nat) (w : BitVec 64) (a b : Nat) : Bool :=
  bits w 36 1 ≠ 0 || bits w 32 3 ≠ 0 || decide (bits w 53 3 > 4) || decide (bits w 50 3 > 4) || !wrapOk (mvSWrap w) ||
    !wrapOk (mvDWrap w) || mvCount w == 0 || mvCount w % max (mvSW w) (mvDW w) ≠ 0 || a % mvSW w ≠ 0 || b % mvDW w ≠ 0 ||
    (mvPace w && (d.fld LT_CFG.REQ_KIND c == 0 || d.fld LT_CFG.REQ_KIND c == 3))

/-- The destination of the MOVE is paced (R348). -/
def Dev.mvPacedDst (d : Dev) (c : Nat) (w : BitVec 64) : Bool := mvPace w && d.fld LT_CFG.REQ_KIND c == 1

/-- The request line of channel c is high, or the MOVE is not paced (R348). -/
def Dev.mvRequest (d : Dev) (c : Nat) (w : BitVec 64) : Bool :=
  !mvPace w || (if d.fld LT_CFG.REQ_KIND c == 1 then d.txReq (d.fld LT_CFG.REQ_PN c) else d.rxReq (d.fld LT_CFG.REQ_PN c))

/-- BURST_MAX in bytes (R345). -/
def Dev.ltBurstMax (d : Dev) (c : Nat) : Nat := 256 / 2 ^ d.fld LT_CFG.BURST_MAX c

/-- The bytes that a burst writes at most: BURST_MAX, and where the destination is paced what TX_WM gives (R345, R348). -/
def Dev.mvOutMax (d : Dev) (c : Nat) (w : BitVec 64) : Nat :=
  if d.mvPacedDst c w then max (mvDW w) <| min (d.ltBurstMax c) ((8 - min 7 (d.fld PN_FIFO.TX_WM (d.fld LT_CFG.REQ_PN c))) * 4) else d.ltBurstMax c

/-- The bytes that a burst reads at most: BURST_MAX, and where the source is paced what RX_WM gives (R345, R348). -/
def Dev.mvInMax (d : Dev) (c : Nat) (w : BitVec 64) : Nat :=
  if mvPace w && d.fld LT_CFG.REQ_KIND c == 2 then min (d.ltBurstMax c) (max 1 (min 8 (d.fld PN_FIFO.RX_WM (d.fld LT_CFG.REQ_PN c))) * 4)
  else d.ltBurstMax c

/-! ### Records (R364, R365) -/

/-- The channel's event source rises (R364). -/
def Dev.ltEvent (d : Dev) (c code : Nat) (done : Bool) : Dev :=
  let x := d.ltc c
  let d1 := d.setLt c { x with sigs := (x.sigs + 1) % 2 ^ 32 }
  d1.raise 0x0C (0x6C0 + 2 * c) (d.fld LT_STAT.LGEN c)
    [byt 16 2 code, (144, 1, done.toNat), byt 19 1 (d.fld LT_STAT.PRIO c), byt 20 4 (d.ltPc c), byt 24 4 (x.sigs + 1)]

/-- One error item of the channel (R365). -/
def Dev.ltError (d : Dev) (c cause pc : Nat) (flags discarded addr : Nat) : Dev :=
  (d.count LT_CNT.ERR_CNT c).raise 0x0C (0x6C1 + 2 * c) (d.fld LT_STAT.LGEN c)
    [byt 16 1 cause, byt 17 1 flags, byt 18 2 (min discarded 0xFFFF), byt 20 4 pc, byt 24 6 addr] true

/-- A program error: STOPPED (R342). -/
def Dev.ltStop (d : Dev) (c cause : Nat) : Dev := (d.setLs c 6).ltError c cause (d.ltPc c) 0 0 0

/-- A fetch of an instruction at an address has failed: STOPPED (R342, R365). -/
def Dev.ltFetchStop (d : Dev) (c addr : Nat) : Dev :=
  (d.setLs c 6).ltError c 0x0B (d.ltPc c) (4 * (ltHost addr).toNat) 0 (addr % 2 ^ 48)

/-! ### Instruction lines (R336) -/

/-- The line of an address. -/
def ltLineOf (a : Nat) : Nat := a / 64 * 64

/-- The line after a line, in the program's window. -/
def ltLineNext (a : Nat) : Nat := put a 0 32 (a % 2 ^ 32 + 64)

/-- The held line of PC. -/
def Dev.ltHeldLine (d : Dev) (c : Nat) : Option LtLine := (d.ltc c).lines.find? (fun l => l.addr == ltLineOf (d.ltPc c))

/-- The instruction at PC, if its line is held. -/
def Dev.ltWord (d : Dev) (c : Nat) : Option (BitVec 64) :=
  (d.ltHeldLine c).map (fun l => l.data.extractLsb' (8 * (d.ltPc c % 64)) 64)

/-- The reads of lines that a running channel issues: the line that it enters, and the next one while it holds fewer than two. -/
def Dev.ltFetch (d : Dev) (c : Nat) : Dev :=
  let x := d.ltc c
  let l := ltLineOf (d.ltPc c)
  let has (y : Lt) (a : Nat) : Bool := y.lines.any (fun z => z.addr == a) || y.fetches.any (fun z => z.1 == a)
  if d.ltState c ≠ 1 then d
  else
    let x1 := if has x l then x else { x with lines := x.lines.filter (fun z => z.addr == ltLineNext l), fetches := [(l, x.pi)] }
    let x2 := if has x1 (ltLineNext l) || decide (x1.lines.length + x1.fetches.length ≥ 2) then x1
      else { x1 with fetches := x1.fetches ++ [(ltLineNext l, x1.pi)] }
    d.setLt c { x2 with usedHost := x2.usedHost || ltHost l }

/-- What a read of a program comes to. -/
inductive LtRead
  | got (v : Nat) (d : Dev)
  | stall (d : Dev)
  | failed (d : Dev)

/-- What a read of the program at an address returns: a berth's bytes, for which it waits where the berth is lent and the channel its home
owner (R335), or what the host has answered. -/
def Dev.ltProgram (d : Dev) (c a n : Nat) (host : Option Nat) : LtRead :=
  match ltTarget a with
  | .host _ => match host with | some v => .got v d | none => .failed d
  | .berth o =>
    let b := o / 65536
    match d.ltAccess c b with
    | .denied | .lent => .failed d
    | .stall => .stall (d.startReturn b)
    | .served =>
      let d1 := d.afterRead o n
      if d.wordBad o n then .failed d1 else .got (ofBytes (d1.portRead (d1.onP1 b 1 c) o n)) d1
  | _ => .failed d

/-- LT_FETCH_DONE (R336, R342): the oldest line read returns. -/
def ltFetchDoneEff (c : Nat) (line : Option (BitVec 512)) (d : Dev) : Dev :=
  match (d.ltc c).fetches with
  | [] => d
  | (a, pi) :: t =>
    if c ≥ 32 then d
    else
      match d.ltProgram c a 64 (line.map BitVec.toNat) with
      | .stall e => e
      | .got v e =>
        let x := e.ltc c
        e.setLt c { x with fetches := t, lines := (x.lines.filter (fun z => z.addr != a)) ++ [{ addr := a, data := BitVec.ofNat 512 v, pi := pi }] }
      | .failed e =>
        let e1 := e.setLt c { e.ltc c with fetches := t }
        if a = ltLineOf (d.ltPc c) ∧ d.ltState c = 1 then e1.ltFetchStop c a else e1

/-! ### A failed descriptor (R353) -/

/-- What a write-back comes to: it was issued, it waits for the link or for a berth's return, or it cannot be issued. -/
inductive LtBack
  | issued (d : Dev)
  | wait (d : Dev)
  | no (d : Dev)

/-- An instruction word is written back with BAD. -/
def Dev.ltWriteBack (d : Dev) (c pc : Nat) (w : BitVec 64) : LtBack :=
  let v := put w.toNat (mvBadBit w) 1 1
  let bs := bytesOf v 8
  match ltTarget pc with
  | .host a => if d.ltLink c then .issued (d.post (.write (d.ltFn c) a bs)) else .wait d
  | .berth a =>
    let b := a / 65536
    match d.ltAccess c b with
    | .served => let (hit, e) := d.portWrite (d.onP1 b 1 c) a bs; if hit then .no e else .issued e
    | .stall => .wait (d.startReturn b)
    | _ => .no d
  | _ => .no d

/-- BAD is set in the held copy of the word at an address. -/
def Lt.markBad (x : Lt) (pc : Nat) (w : BitVec 64) : Lt :=
  { x with lines := x.lines.map (fun l =>
      if l.addr = ltLineOf pc then { l with data := l.data ||| BitVec.ofNat 512 (2 ^ (8 * (pc % 64) + mvBadBit w)) } else l) }

/-- The advancing registers of a descriptor move by the bytes that it has not moved (R353 step 4). -/
def Lt.skip (x : Lt) (m : LtMove) : Lt :=
  let x1 := if !mvI m.word && mvSI m.word then x.setA (mvSA m.word) (ltAdd (x.a (mvSA m.word)) (mvSWrap m.word) m.rd) else x
  if mvDI m.word then x1.setA (mvDA m.word) (ltAdd (x1.a (mvDA m.word)) (mvDWrap m.word) m.wr) else x1

/-- Steps 3 to 5 of a failed descriptor, its word written back or not. -/
def Dev.ltFailEnd (d : Dev) (c : Nat) (m : LtMove) (f : LtFailing) (ok : Bool) : Dev :=
  let d1 := if ok then d else d.count LT_DIAG.WB_FAIL c
  let flags := ok.toNat + 2 * f.wr.toNat + 4 * (ltHost f.addr && f.cause ≠ 8).toNat
  let d2 := d1.ltError c f.cause m.pc flags 0 (if f.cause = 8 then 0 else f.addr % 2 ^ 48)
  let x := (d2.ltc c).markBad m.pc m.word
  let x1 := if f.cause = 8 then x else x.skip m
  (d2.setLt c { x1 with move := none, bursts := [], hold := [], mark := none, fail := none, rdHeld := none, wrHeld := none }).ltFetch c

/-- A descriptor fails: `wr` a write, `addr` its address. Its accesses end, and the rest follows its word's write-back. -/
def Dev.ltFail (d : Dev) (c : Nat) (m : LtMove) (cause addr : Nat) (wr : Bool) : Dev :=
  let f : LtFailing := { cause := cause, addr := addr, wr := wr }
  match d.ltWriteBack c m.pc m.word with
  | .issued e => e.ltFailEnd c m f true
  | .no e => e.ltFailEnd c m f false
  | .wait e => e.setLt c { e.ltc c with move := some m, bursts := [], mark := none, fail := some f, rdHeld := none, wrHeld := none }

/-! ### Writing (R345, R346, R350) -/

/-- What one write of the channel comes to: done, or held, or failed with a cause. -/
inductive LtWrite
  | done (d : Dev)
  | held (d : Dev)
  | failed (cause : Nat) (d : Dev)

/-- The channel writes bytes at an address. -/
def Dev.ltPut (d : Dev) (c a : Nat) (bs : List Byte) : LtWrite :=
  match ltTarget a with
  | .host v =>
    if d.ltLink c then
      let d1 := d.post (.write (d.ltFn c) v bs)
      .done (d1.setLt c { d1.ltc c with hostDirty := some (v + bs.length - 1), usedHost := true })
    else .held d
  | .berth o =>
    let b := o / 65536
    match d.ltAccess c b with
    | .denied => .failed 3 d
    | .lent => .failed 5 d
    | .stall => .held (d.startReturn b)
    | .served =>
      if d.writeBad o bs.length then .failed 5 (d.afterRead o bs.length)
      else
        match d.portWrite (d.onP1 b 1 c) o bs with
        | (true, e) => .failed 4 e
        | (false, e) => .done (e.setLt c { e.ltc c with berthDirty := ins b (o + bs.length - 1) (e.ltc c).berthDirty })
  | .tx n =>
    if !d.ltPinOk c n then .failed 3 d
    else if bs.length ≠ 4 then .failed 7 d
    else if (d.pne n).tx.length ≥ 8 then .held (d.setLt c { d.ltc c with wrHeld := some ((d.ltc c).wrHeld.getD d.ecNs) })
    else .done ((d.setPne n { d.pne n with tx := (d.pne n).tx ++ [BitVec.ofNat 32 (ofBytes bs)] }).reqRises d n)
  | .rx n => .failed (if d.ltPinOk c n then 2 else 3) d
  | .unmapped => .failed 2 d

/-- What a burst's read has returned and not passed on. -/
def LtBurst.bytes (b : LtBurst) : List Byte := match b.data with | some (.bytes bs) => bs | _ => []

/-- Bytes that a burst brings to the holding register from now on. -/
def LtBurst.coming (b : LtBurst) : Nat := if b.back then b.bytes.length else b.len

/-- The first burst of a channel with n bytes taken off the holding register and what follows it from the burst. -/
def Lt.take (x : Lt) (n : Nat) : Lt :=
  match x.bursts with
  | b :: t => { x with hold := x.hold.drop n, bursts := { b with out := b.out - n, data := some (.bytes (b.bytes.drop (n - x.hold.length))) } :: t }
  | [] => x

/-- The holding register filled from the first burst, as far as its 32 bytes go (R330). -/
def Lt.fill (x : Lt) : Lt :=
  match x.bursts with
  | b :: t =>
    let k := 32 - x.hold.length
    { x with hold := x.hold ++ b.bytes.take k, bursts := { b with data := some (.bytes (b.bytes.drop k)) } :: t }
  | [] => x

/-- The bytes of one write of a burst: one write to advancing host addresses, one access elsewhere (R345). -/
def ltChunk (w : BitVec 64) (dst out : Nat) : Nat := if ltHost dst && mvDI w then out else mvDW w

/-- The bursts whose data has returned are written on, as far as they can be; the MOVE is complete with its last byte. -/
def Dev.ltDrain (d : Dev) (c : Nat) : Nat → Dev
  | 0 => d
  | k + 1 =>
    let x := d.ltc c
    match x.move, x.bursts with
    | some m, b :: t =>
      if !b.back then d
      else if b.out = 0 then
        let y := { x with hold := x.hold ++ b.bytes, bursts := t, mark := none : Lt }
        if m.wr = 0 then (d.setLt c { y with move := none, hold := [], bursts := [] }).ltFetch c
        else (d.setLt c y).ltDrain c k
      else
        let dst := x.a (mvDA m.word)
        let n := ltChunk m.word dst b.out
        let d0 := d.setLt c { x with mark := some (x.mark.getD { hold := x.hold, dst := dst, wr := m.wr }) }
        match d0.ltPut c dst ((x.hold ++ b.bytes).take n) with
        | .done e =>
          let y := { (e.ltc c).take n with move := some { m with wr := m.wr - n }, wrHeld := none : Lt }
          let y1 := if mvDI m.word then y.setA (mvDA m.word) (ltAdd dst (mvDWrap m.word) n) else y
          Dev.ltDrain ((e.setLt c y1).setFld LT_BYTES.BYTES ((e.fld LT_BYTES.BYTES c + n) % 2 ^ 64) c) c k
        | .held e => e.setLt c (e.ltc c).fill
        | .failed cause e => e.ltFail c m cause dst true
    | _, _ => d

/-- Draining to the end of what can be written. -/
def Dev.ltFlush (d : Dev) (c : Nat) : Dev :=
  let x := d.ltc c
  d.ltDrain c ((x.bursts.map (fun b => b.out)).sum + x.bursts.length + 1)

/-! ### Bursts (R345 to R349) -/

/-- Bytes to the next boundary of a side: 256 bytes, and its wrap. -/
def ltRoom (a k : Nat) (moves : Bool) : Nat :=
  if moves then min (256 - a % 256) (if k = 0 then 256 else 2 ^ k - a % 2 ^ k) else 256

/-- Bytes that the bursts in flight have still to write. -/
def Lt.owed (x : Lt) : Nat := (x.bursts.map (fun b => b.out)).sum

/-- Bytes that the holding register carries past the bursts in flight: a residue, or what was read ahead. -/
def Lt.carried (x : Lt) : Nat := x.hold.length + (x.bursts.map LtBurst.coming).sum - x.owed

/-- The next burst of a MOVE: the bytes that it reads, in whole source accesses, and the bytes that it writes, in whole destination
accesses. Neither side crosses a boundary; what a source access brings beyond the destination's stays in the holding register, and for a
paced destination it reads ahead as far as the holding register allows (R345, R346, R349). -/
def Dev.ltPlan (d : Dev) (c : Nat) (m : LtMove) : Nat × Nat :=
  let x := d.ltc c
  let w := m.word
  let sw := mvSW w
  let dw := mvDW w
  let dst := if mvDI w then ltAdd (x.a (mvDA w)) (mvDWrap w) x.owed else x.a (mvDA w)
  let cap := min (min (d.mvOutMax c w) (ltRoom dst (mvDWrap w) (mvDI w))) (m.wr - x.owed) / dw * dw
  let want := if d.mvPacedDst c w then cap + 32 - x.carried else cap - x.carried
  let n := min (min (min want (d.mvInMax c w)) (ltRoom (x.a (mvSA w)) (mvSWrap w) (mvSI w))) m.rd
  let rd := if n ≥ sw then n / sw * sw else if x.carried ≥ cap then 0 else min sw m.rd
  (rd, min (x.carried + rd) cap / dw * dw)

/-- Bursts in flight over all channels: from their first read to their last write (R347). -/
def Dev.ltFlying (d : Dev) : Nat := (d.lt.chans.map (fun e => e.2.bursts.length)).sum

/-- Bursts that may be in flight (R347, 01 R16). -/
def Dev.ltMaxBursts (d : Dev) : Nat := if d.operate then 16 else 1

/-- The link serves an address of channel c, where that is in host memory. -/
def Dev.ltServes (d : Dev) (c a : Nat) : Bool := !ltHost a || d.ltLink c

/-- The channel has a burst that it may issue (R347, R348). -/
def Dev.ltReady (d : Dev) (c : Nat) : Bool :=
  let x := d.ltc c
  match x.move with
  | none => false
  | some m =>
    let most := if d.mvPacedDst c m.word then 1 else 4
    d.ltState c == 1 && x.fail.isNone && (m.rd ≠ 0 || decide (x.carried ≥ mvDW m.word)) && decide (x.bursts.length < most) &&
      decide (d.ltFlying < d.ltMaxBursts) && x.rdHeld.isNone && x.wrHeld.isNone && d.mvRequest c m.word &&
      (m.rd == 0 || d.ltServes c (x.a (mvSA m.word))) && d.ltServes c (x.a (mvDA m.word))

/-- The channel that arbitration chooses: the highest level with a ready channel, round robin within it (R347). -/
def Dev.ltWinner (d : Dev) : Option Nat :=
  let ready := (upto 32).filter d.ltReady
  let top := ready.foldl (fun p c => max p (d.fld LT_STAT.PRIO c)) 0
  let level := ready.filter (fun c => d.fld LT_STAT.PRIO c == top)
  let last := get 31 d.lt.last top
  ((upto 32).map (fun k => (last + 1 + k) % 32)).find? (fun c => level.contains c)

/-- Words taken off the RX FIFO of engine k, at most n, as bytes. -/
def Dev.ltTakeRx (d : Dev) (k n : Nat) : List Byte × Dev :=
  let q := (d.pne k).rx
  (((q.take n).map (fun v => bytesOf v.toNat 4)).flatten, (d.setPne k { d.pne k with rx := q.drop n }).reqRises d k)

/-- What a burst's reads at the source come to: what they return and the words of a port still to be read, or they wait for a berth, or
one of them fails with a cause at an address. -/
inductive LtGet
  | got (data : Option HostData) (need : Nat) (d : Dev)
  | stall (d : Dev)
  | failed (cause addr : Nat) (d : Dev)

/-- The reads of a burst at the source: fabric data at once, host data with LT_BURST_DATA. -/
def Dev.ltGet (d : Dev) (c a n : Nat) (w : BitVec 64) : LtGet :=
  match ltTarget a with
  | .host _ => .got none 0 (d.setLt c { d.ltc c with usedHost := true })
  | .berth o =>
    let b := o / 65536
    match d.ltAccess c b with
    | .denied => .failed 3 a d
    | .lent => .failed 5 a d
    | .stall => .stall (d.startReturn b)
    | .served =>
      let len := if mvSI w then n else mvSW w
      let bs := d.portRead (d.onP1 b 1 c) o len
      let all := if mvSI w then bs else (List.replicate (n / max 1 len) bs).flatten
      let d1 := d.afterRead o len
      if d.wordBad o len then .failed 5 a d1 else .got (some (.bytes all)) 0 d1
  | .rx k =>
    if !d.ltPinOk c k then .failed 3 a d
    else if mvSW w ≠ 4 then .failed 7 a d
    else if mvSI w ∧ n > 4 then .failed 2 (a + 4) (d.ltTakeRx k 1).2
    else
      let have_ := min (d.pne k).rx.length (n / 4)
      let (bs, e) := d.ltTakeRx k have_
      .got (some (.bytes bs)) (n / 4 - have_) e
  | .tx k => .failed (if d.ltPinOk c k then 2 else 3) a d
  | .unmapped => .failed 2 a d

/-- The burst of channel c that waits for words of an RX port. -/
def Lt.waiting (x : Lt) : Option LtBurst := x.bursts.find? (fun b => decide (b.need > 0))

/-- What channel c has begun goes on when it can: a write-back (R353), the reads of an RX port (R242), the writes of its first burst. -/
def Dev.ltCanGo (d : Dev) (c : Nat) : Bool :=
  let x := d.ltc c
  match x.move with
  | none => false
  | some m =>
    let open_ (a : Nat) : Bool := match ltTarget a with
      | .host _ => d.ltLink c
      | .berth o => d.ltAccess c (o / 65536) != .stall
      | .tx n => decide ((d.pne n).tx.length < 8)
      | _ => true
    (d.ltState c == 1 || d.ltState c == 4) &&
      (if x.fail.isSome then open_ m.pc
       else (match x.waiting with | some b => (match ltTarget b.src with | .rx k => !(d.pne k).rx.isEmpty | _ => false) | none => false) ||
        (match x.bursts with | b :: _ => b.back && (b.out == 0 || open_ (x.a (mvDA m.word))) | [] => false))

/-- A burst with words of its RX port read. -/
def LtBurst.read (b : LtBurst) (bs : List Byte) : LtBurst := { b with data := some (.bytes (b.bytes ++ bs)), need := b.need - bs.length / 4 }

/-- It goes on. -/
def Dev.ltGoOn (d : Dev) (c : Nat) : Dev :=
  let x := d.ltc c
  match x.move with
  | none => d
  | some m =>
    match x.fail with
    | some f => d.ltFail c m f.cause f.addr f.wr
    | none =>
      let d1 := match x.waiting with
        | some b =>
          match ltTarget b.src with
          | .rx k =>
            let (bs, e) := d.ltTakeRx k b.need
            let y := e.ltc c
            e.setLt c { y with
              bursts := y.bursts.map (fun (z : LtBurst) => if z.need > 0 then z.read bs else z), rdHeld := if bs.length = 4 * b.need then none else y.rdHeld }
          | _ => d
        | none => d
      d1.ltFlush c

/-- A burst starts, of `p.1` bytes read and `p.2` written (R345 to R349). One that reads nothing writes what was read before. -/
def Dev.ltStart (d : Dev) (c : Nat) (m : LtMove) (p : Nat × Nat) : Dev :=
  let x := d.ltc c
  let src := x.a (mvSA m.word)
  let add (e : Dev) (b : LtBurst) : Dev :=
    let y := { e.ltc c with bursts := (e.ltc c).bursts ++ [b], move := some { m with rd := m.rd - p.1 }
                            rdHeld := if b.need > 0 then some e.ecNs else none : Lt }
    e.setLt c (if mvSI m.word && !mvI m.word then y.setA (mvSA m.word) (ltAdd src (mvSWrap m.word) p.1) else y)
  if p.1 = 0 then (add d { src := src, len := 0, out := p.2, data := some (.bytes []), back := true }).ltFlush c
  else match d.ltGet c src p.1 m.word with
    | .failed cause a e => e.ltFail c m cause a false
    | .stall e => e
    | .got data need e => add e { src := src, len := p.1, out := p.2, data := data, need := need }

/-- LT_BURST_START (R345 to R349): what the channel has begun goes on, or, where arbitration chooses it, its next burst starts. -/
def ltBurstStartEff (c : Nat) (d : Dev) : Dev :=
  if c < 32 ∧ d.ltCanGo c then d.ltGoOn c
  else if d.ltWinner ≠ some c then d
  else
    let d0 : Dev := { d with lt := { d.lt with last := ins (d.fld LT_STAT.PRIO c) c d.lt.last } }
    match (d0.ltc c).move with
    | none => d0
    | some m => d0.ltStart c m (d0.ltPlan c m)

/-- The oldest burst whose data has not returned takes it. -/
def ltReturned (data : HostData) : List LtBurst → List LtBurst
  | [] => []
  | b :: t => if b.back then b :: ltReturned data t else { b with data := some (b.data.getD data), back := true } :: t

/-- LT_BURST_DATA (R346, R353): the oldest burst's data returns and is written on. -/
def ltBurstDataEff (c : Nat) (data : HostData) (d : Dev) : Dev :=
  let x := d.ltc c
  match x.bursts.find? (fun b => !b.back), x.move with
  | some b, some m =>
    if c ≥ 32 ∨ b.need > 0 then d
    else
      match b.data.getD data with
      | .bytes bs => if bs.length = b.len then (d.setLt c { x with bursts := ltReturned data x.bursts }).ltFlush c else d
      | .failed _ => d.ltFail c m 1 b.src false
  | _, _ => d

/-- FIFO_TIMEOUT (07 R242, R353). -/
def fifoTimeoutEff (c : Nat) (d : Dev) : Dev :=
  let x := d.ltc c
  match x.move with
  | some m =>
    let due (t : Option Nat) : Bool := match t with | some t => decide (t + 1000 ≤ d.ecNs) | none => false
    if c ≥ 32 then d
    else if due x.wrHeld then d.ltFail c m 6 (x.a (mvDA m.word)) true
    else if due x.rdHeld then d.ltFail c m 6 (match x.waiting with | some b => b.src | none => x.a (mvSA m.word)) false
    else d
  | none => d

/-! ### Instructions (R337 to R342) -/

/-- A row of an instruction: the running channel's word at PC has this opcode. A reserved opcode is a program error. -/
def Dev.ltIssue (d : Dev) (c op : Nat) (k : BitVec 64 → Dev → Dev) : Dev :=
  let x := d.ltc c
  if c < 32 ∧ d.ltState c = 1 ∧ x.move = none ∧ x.fence = false ∧ x.refetch = none then
    match d.ltWord c with
    | some w => if bits w 60 4 ≥ 9 then d.ltStop c 0x0A else if bits w 60 4 = op then (k w d).ltFetch c else d
    | none => d
  else d

/-- LT_LINK. -/
def ltLinkEff (c : Nat) (d : Dev) : Dev :=
  d.ltIssue c 0x8 (fun w e => if bits w 32 28 ≠ 0 ∨ bits w 0 3 ≠ 0 then e.ltStop c 0x0A else e.setPcLow c (bits w 0 32))

/-- LT_LOOP. -/
def ltLoopEff (c : Nat) (d : Dev) : Dev :=
  d.ltIssue c 0x3 (fun w e =>
    let x := e.ltc c
    if bits w 32 28 ≠ 0 ∨ x.loops.length ≥ 2 then e.ltStop c 0x0A
    else
      let n := bits w 0 32
      let e1 := e.ltNext c
      e1.setLt c { x with loops := { count := if n = 0 then none else some n, body := e1.ltPc c % 2 ^ 32 } :: x.loops })

/-- LT_ENDL. -/
def ltEndlEff (c : Nat) (d : Dev) : Dev :=
  d.ltIssue c 0x4 (fun w e =>
    let x := e.ltc c
    match x.loops with
    | [] => e.ltStop c 0x0A
    | l :: t =>
      if bits w 0 60 ≠ 0 then e.ltStop c 0x0A
      else match l.count with
        | none => e.setPcLow c l.body
        | some n =>
          if n ≤ 1 then (e.setLt c { x with loops := t }).ltNext c
          else (e.setLt c { x with loops := { l with count := some (n - 1) } :: t }).setPcLow c l.body)

/-- LT_SIGNAL. -/
def ltSignalEff (c : Nat) (d : Dev) : Dev :=
  d.ltIssue c 0x6 (fun w e =>
    if bits w 53 5 ≠ 0 ∨ bits w 16 31 ≠ 0 then e.ltStop c 0x0A
    else
      let e1 := if w.getLsbD 47 then e else e.ltEvent c (bits w 0 16) false
      let e2 := if w.getLsbD 59 then e1.setSf (bits w 48 5) (w.getLsbD 58) (some (1, c)) else e1
      e2.ltNext c)

/-- LT_MOVEI: a register form, or a descriptor of one 4-byte write. -/
def ltMoveiEff (c : Nat) (d : Dev) : Dev :=
  d.ltIssue c 0x2 (fun w e =>
    let x := e.ltc c
    let n := bits w 56 2
    let imm := bits w 0 32
    let pc := e.ltPc c
    if bits w 32 22 ≠ 0 ∨ bits w 58 2 = 3 then e.ltStop c 0x0A
    else
      let e1 := e.ltNext c
      match bits w 58 2 with
      | 0 => e1.setLt c (x.setA n (put (x.a n) 0 32 imm))
      | 1 => e1.setLt c (x.setA n (put (x.a n) 32 32 imm))
      | _ =>
        let m : LtMove := { word := w, pc := pc, rd := 0, wr := 4 }
        if mvBad w then (e1.count LT_CNT.SKIP_CNT c).setLt c (x.skip m)
        else if x.a n % 4 ≠ 0 then e1.ltFail c m 7 (x.a n) true
        else
          let e2 := e1.setLt c { x with move := some m, hold := bytesOf imm 4, bursts := [] }
          if e2.ltFlying < e2.ltMaxBursts then e2.ltStart c m (0, 4) else e2)

/-- LT_MOVE: the descriptor's own checks, then its bursts (R343, R354). -/
def ltMoveEff (c : Nat) (d : Dev) : Dev :=
  d.ltIssue c 0x1 (fun w e =>
    let x := e.ltc c
    let m : LtMove := { word := w, pc := e.ltPc c, rd := mvCount w, wr := mvCount w }
    let e1 := e.ltNext c
    if mvBad w then (e1.count LT_CNT.SKIP_CNT c).setLt c (x.skip m)
    else if e.mvBadFields c w (x.a (mvSA w)) (x.a (mvDA w)) then e1.ltFail c m 8 0 false
    else e1.setLt c { x with move := some m, hold := [], bursts := [] })

/-- LT_WAIT. -/
def ltWaitEff (c : Nat) (d : Dev) : Dev :=
  d.ltIssue c 0x5 (fun w e =>
    if bits w 58 2 = 3 ∨ bits w 32 14 ≠ 0 then e.ltStop c 0x0A
    else (e.setLt c { e.ltc c with wait := some e.ecNs }).setLs c 2)

/-- The condition of a WAIT (R340). -/
def Dev.ltWaitMet (d : Dev) (c : Nat) (w : BitVec 64) : Bool :=
  match bits w 58 2 with
  | 0 => d.flag LT_STAT.LATCH c
  | 1 => d.flagOn (bits w 47 5) == w.getLsbD 46
  | _ =>
    let n := bits w 52 4
    (n == 0 || d.axOn n) && decide ((d.ltc c).a (bits w 56 2) ≤ d.axValue n)

/-- LT_WAIT_SATISFIED. -/
def ltWaitSatisfiedEff (c : Nat) (d : Dev) : Dev :=
  let x := d.ltc c
  match x.wait, d.ltWord c with
  | some _, some w =>
    if c < 32 ∧ d.ltState c = 2 ∧ d.ltWaitMet c w then
      let n := bits w 56 2
      let d1 := match bits w 58 2 with
        | 0 => (d.setFld LT_STAT.LATCH 0 c).setLt c { x with wait := none }
        | 1 => d.setLt c { x with wait := none }
        | _ => d.setLt c ({ x with wait := none }.setA n ((x.a n + bits w 16 16) % 2 ^ 64))
      ((d1.setLs c 1).ltNext c).ltFetch c
    else d
  | _, _ => d

/-- LT_WAIT_TIMEOUT. -/
def ltWaitTimeoutEff (c : Nat) (d : Dev) : Dev :=
  let x := d.ltc c
  match x.wait, d.ltWord c with
  | some t, some w =>
    if c < 32 ∧ d.ltState c = 2 ∧ bits w 0 16 ≠ 0 ∧ t + 1000 * bits w 0 16 ≤ d.ecNs then
      (d.setLt c { x with wait := some d.ecNs }).ltError c 9 (d.ltPc c) 0 0 0
    else d
  | _, _ => d

/-- The berths to read back that are lent, the channel being their home owner: their return starts (R335). -/
def Dev.ltFenceReturns (d : Dev) (c : Nat) : Dev :=
  (d.ltc c).berthDirty.foldl (fun y z => if y.ltAccess c z.1 == .stall then y.startReturn z.1 else y) d

/-- LT_FENCE (R351): read-backs for host memory and for each berth written. -/
def ltFenceEff (c : Nat) (d : Dev) : Dev :=
  d.ltIssue c 0x7 (fun w e =>
    if bits w 0 60 ≠ 0 then e.ltStop c 0x0A
    else
      let x := e.ltc c
      if x.hostDirty = none ∧ x.berthDirty = [] then e.ltNext c
      else (e.setLt c { x with fence := true }).ltFenceReturns c)

/-- LT_FENCE_DONE: every read-back has completed; that of a berth which is lent waits for its return (R335). -/
def ltFenceDoneEff (c : Nat) (d : Dev) : Dev :=
  let x := d.ltc c
  if c < 32 ∧ x.fence ∧ (x.hostDirty = none ∨ d.ltLink c) then
    if x.berthDirty.any (fun z => d.ltAccess c z.1 == .stall) then d.ltFenceReturns c
    else
      let d1 := x.berthDirty.foldl (fun y z => y.afterRead (z.2 / 4 * 4) 4) d
      ((d1.setLt c { x with fence := false, hostDirty := none, berthDirty := [] }).ltNext c).ltFetch c
  else d

/-! ### The chain tail (R356 to R358) -/

/-- An END with TAIL that a read with this LT_PI has delivered. -/
def Dev.ltTail (d : Dev) (c pi : Nat) : Dev :=
  let x := d.ltc c
  if x.pi ≠ pi then d.setLt c { x with refetch := some x.pi }
  else if d.ltState c = 3 then d.setLt c { x with refetch := none }
  else ((d.setLt c { x with refetch := none, tailAt := d.ecNs }).setLs c 3).count LT_DIAG.PARK_CNT c

/-- PI_AT_READ of the read that delivered the word at an address of a line. -/
def LtLine.piOf (l : LtLine) (pc : Nat) : Nat := (get none l.words (pc % 64 / 8)).getD l.pi

/-- LT_END: a final END, or a tail park. -/
def ltEndEff (c : Nat) (d : Dev) : Dev :=
  d.ltIssue c 0x0 (fun w e =>
    if bits w 0 58 ≠ 0 then e.ltStop c 0x0A
    else if w.getLsbD 59 then e.ltTail c (match e.ltHeldLine c with | some l => l.piOf (e.ltPc c) | none => 0)
    else
      let e1 := if w.getLsbD 58 then e.ltEvent c 0 true else e
      e1.setLs c 0)

/-- A held line with one word replaced, read at an LT_PI. -/
def Lt.patch (x : Lt) (pc pi : Nat) (w : Nat) : Lt :=
  { x with lines := x.lines.map (fun l =>
      if l.addr = ltLineOf pc then { l with data := BitVec.ofNat 512 (put l.data.toNat (8 * (pc % 64)) 64 w), words := set none l.words (pc % 64 / 8) (some pi) } else l) }

/-- LT_TAIL_REFETCH: the word returns; a word that is no longer that END goes on. -/
def ltTailRefetchEff (c : Nat) (word : Option (BitVec 64)) (d : Dev) : Dev :=
  match (d.ltc c).refetch with
  | none => d
  | some pi =>
    if c ≥ 32 ∨ (d.ltState c ≠ 1 ∧ d.ltState c ≠ 3) then d
    else
      let pc := d.ltPc c
      match d.ltProgram c pc 8 (word.map BitVec.toNat) with
      | .stall e => e
      | .failed d1 => (d1.setLt c { d1.ltc c with refetch := none }).ltFetchStop c pc
      | .got v d1 =>
        let d2 := d1.setLt c ((d1.ltc c).patch pc pi v)
        if cut v 60 4 = 0 ∧ bit v 59 ∧ cut v 0 58 = 0 then d2.ltTail c pi
        else ((d2.setLt c { d2.ltc c with refetch := none }).setLs c 1).ltFetch c

/-- LT_TAIL_TIMER. -/
def ltTailTimerEff (c : Nat) (d : Dev) : Dev :=
  let x := d.ltc c
  let t := d.fld LT_CFG.TAIL_US c
  if c < 32 ∧ d.ltState c = 3 ∧ t ≠ 0 ∧ x.tailAt + 1000 * t ≤ d.ecNs then
    d.setLt c { x with tailAt := d.ecNs, refetch := if x.refetch.isNone then some x.pi else x.refetch }
  else d

/-- LT_PI of channel c has been read from the slab (R357). -/
def Dev.ltNewPi (d : Dev) (c v : Nat) : Dev :=
  let x := d.ltc c
  if x.pi = v then d
  else d.setLt c { x with pi := v, refetch := if d.ltState c = 3 ∧ x.refetch.isNone then some v else x.refetch }

/-! ### Start, pause and resume (R332, R359 to R361) -/

/-- START_LIGHTER. -/
def Dev.ltStartCmd (d : Dev) (k : Cmd) : Dev :=
  let c := k.target
  let addr := bits k.w 64 64
  let st := d.ltState c
  if addr % 8 ≠ 0 ∨ cut addr 62 2 ≥ 2 then d.finish k 0x01
  else if 1 ≤ st ∧ st ≤ 4 then d.finish k 0x05
  else
    let x := d.ltc c
    let d1 := if (st = 5 ∨ st = 6) ∧ (x.move.isSome ∨ x.hold ≠ []) then
        d.ltError c 0x0D (match x.move with | some m => m.pc | none => d.ltPc c) 0 x.hold.length 0
      else d
    let g := d.fld LT_STAT.LGEN c
    let d2 := ((d1.setLt c { pi := x.pi }).setFld LT_STAT.LATCH 0 c).setFld LT_BYTES.BYTES 0 c
    let d3 := ((d2.setFld LT_STAT.PRIO (bits k.w 128 2) c).setFld LT_STAT.LGEN (if g = 0xFFFF then 1 else g + 1) c).setFld LT_PC.PC addr c
    (((d3.setLs c 1).setFld LT_DIAG.PAUSE_CAUSE 0 c).ltFetch c).finish k 0

/-- The completion of PAUSE_LIGHTER of either form (R360). -/
def Dev.ltPauseDone (d : Dev) (k : Cmd) (status : Nat) : Dev := d.finish k status [byt 22 4 (d.ltPc k.target)]

/-- PAUSE_LIGHTER. -/
def Dev.ltPauseCmd (d : Dev) (k : Cmd) : Dev :=
  let c := k.target
  let x := d.ltc c
  match d.ltState c with
  | 1 | 2 | 3 => (((d.setLt c { x with pause := some k, wait := none, refetch := none }).setLs c 4).setFld LT_DIAG.PAUSE_CAUSE 1 c)
  | 4 => if x.pause.isSome then d.finish k 0x05 else d.setLt c { x with pause := some k }
  | 5 => d.ltPauseDone k 0
  | _ => d.finish k 0x13

/-- PAUSE_LIGHTER with RESUME. -/
def Dev.ltResumeCmd (d : Dev) (k : Cmd) : Dev :=
  let c := k.target
  if d.ltState c = 5 then (((d.setLs c 1).setFld LT_DIAG.PAUSE_CAUSE 0 c).ltFetch c).ltPauseDone k 0 else d.finish k 0x13

/-- Nothing of channel c is outstanding. -/
def Dev.ltQuiet (d : Dev) (c : Nat) : Bool :=
  let x := d.ltc c
  x.bursts.isEmpty && !x.fence && x.fail.isNone

/-- LT_PAUSE_DRAINED. -/
def ltPauseDrainedEff (c : Nat) (d : Dev) : Dev :=
  let x := d.ltc c
  if c < 32 ∧ d.ltState c = 4 ∧ d.ltQuiet c then
    let d1 := (d.setLt c { x with pause := none }).setLs c 5
    match x.pause with
    | some k => d1.ltPauseDone k 0
    | none => d1
  else d

/-- The channel reaches host memory: it has done so since START_LIGHTER, or its program, its MOVE or its FENCE does (R362). -/
def Dev.ltReachesHost (d : Dev) (c : Nat) : Bool :=
  let x := d.ltc c
  x.usedHost || ltHost (d.ltPc c) ||
    (match x.move with | some m => (!mvI m.word && ltHost (x.a (mvSA m.word))) || ltHost (x.a (mvDA m.word)) | none => false)

/-- The channel with its MOVE taken back to the start of the first burst whose writes have not all left (R362). -/
def Lt.rollBack (x : Lt) : Lt :=
  match x.move, x.bursts with
  | some m, b :: _ =>
    let k := x.mark.getD { hold := x.hold, dst := x.a (mvDA m.word), wr := m.wr }
    let y := { x with hold := k.hold, bursts := [], mark := none,
                      move := some { m with rd := m.rd + (x.bursts.map (fun z => z.len)).sum, wr := k.wr } : Lt }
    let y1 := if mvI m.word then y else y.setA (mvSA m.word) b.src
    if mvDI m.word then y1.setA (mvDA m.word) k.dst else y1
  | _, _ => x

/-- Bytes of the bursts in flight that cannot be read again: those of an RX port (R362). -/
def Lt.lost (x : Lt) : Nat :=
  match x.move with
  | some m => (match ltTarget (x.a (mvSA m.word)) with | .rx _ => (x.bursts.map (fun b => b.len - 4 * b.need)).sum | _ => 0)
  | none => 0

/-- A host reset pauses channel c: reads in flight are discarded, and the MOVE goes back to its first unfinished burst (R362). A write-back
that still waits cannot be issued any more (R353). -/
def Dev.ltHostReset (d : Dev) (c : Nat) : Dev :=
  let st := d.ltState c
  if 1 ≤ st ∧ st ≤ 4 ∧ d.ltReachesHost c then
    let d1 := match (d.ltc c).move, (d.ltc c).fail with | some m, some f => d.ltFailEnd c m f false | _, _ => d
    let x := d1.ltc c
    let pc := match x.move with | some m => m.pc | none => d1.ltPc c
    let x1 := { x.rollBack with fetches := [], refetch := none, wait := none, fence := false, rdHeld := none, wrHeld := none : Lt }
    (((d1.setLt c x1).setLs c 4).setFld LT_DIAG.PAUSE_CAUSE 2 c).ltError c 0x0C pc 0 x.lost 0
  else d

/-- A source that a channel's latch watches has risen (R340). -/
def Dev.ltLatch (d : Dev) (s : Nat) : Dev :=
  (upto 32).foldl (fun e c => if e.flag LT_CFG.EV_EN c && e.fld LT_CFG.EVSEL c == s then e.setFld LT_STAT.LATCH 1 c else e) d

/-! ### Reading the channel (R331, R366) -/

/-- A running channel waits for the host link or for its request (R331): its write-back, the first burst in flight, its next burst, its
FENCE, or the fetch of its next instruction. -/
def Dev.ltWaits (d : Dev) (c : Nat) : Bool :=
  let x := d.ltc c
  match x.move with
  | some m =>
    let src := x.a (mvSA m.word)
    let dst := x.a (mvDA m.word)
    if x.fail.isSome then !d.ltServes c m.pc
    else match x.bursts with
      | b :: _ => if b.back then b.out ≠ 0 && !d.ltServes c dst else b.data.isNone && !d.ltServes c b.src
      | [] => !d.mvRequest c m.word || !d.ltServes c dst || (m.rd ≠ 0 && !d.ltServes c src)
  | none =>
    if x.fence then x.hostDirty.isSome && !d.ltLink c
    else (x.refetch.isSome || (d.ltWord c).isNone) && !d.ltServes c (d.ltPc c)

/-- LSTATE as it is read: WAITING also for a request or for the link. -/
def Dev.ltSeen (d : Dev) (c : Nat) : Nat := if d.ltState c = 1 ∧ d.ltWaits c then 2 else d.ltState c

/-- HELD: bytes in the holding register. -/
def Dev.ltHeld (d : Dev) (c : Nat) : Nat := min 32 (d.ltc c).hold.length

/-- The 64 bytes of READ_STATE class 4 (R366). -/
def Dev.ltBytes (d : Dev) (c : Nat) : Nat :=
  let x := d.ltc c
  let loop (l : Option LtLoop) : Nat := match l with | some l => l.count.getD 0 | none => 0
  let frames := x.loops.reverse
  pack [(0, 3, d.ltSeen c), byt 1 1 (d.fld LT_STAT.PRIO c), byt 2 2 (d.fld LT_STAT.LGEN c), byt 4 4 x.pi, byt 8 8 (d.ltPc c),
    byt 16 8 (x.a 0), byt 24 8 (x.a 1), byt 32 8 (x.a 2), byt 40 8 (x.a 3), byt 48 4 (loop frames[0]?), byt 52 4 (loop frames[1]?),
    byt 56 4 (match x.move with | some m => m.wr | none => 0), byt 60 1 (d.ltHeld c), (488, 1, d.fld LT_STAT.LATCH c)]

/-- LT_CFG of channel c takes a value, in IDLE, PAUSED and STOPPED only (R369). -/
def Dev.writeLtCfg (d : Dev) (c v : Nat) : Dev :=
  if d.ltState c = 0 ∨ d.ltState c = 5 ∨ d.ltState c = 6 then
    (((((d.setFld LT_CFG.REQ_KIND (cut v 0 2) c).setFld LT_CFG.REQ_PN (cut v 2 5) c).setFld LT_CFG.EVSEL (cut v 7 12) c).setFld
      LT_CFG.EV_EN (cut v 19 1) c).setFld LT_CFG.BURST_MAX (cut v 20 2) c).setFld LT_CFG.TAIL_US (cut v 22 10) c
  else d

/-! ### The rows -/

/-- LT_END -/
def execLtEnd (c : Nat) (s : State) : Host.Outcome State Fault Refusal := s.actMem (ltEndEff c)
/-- LT_MOVE -/
def execLtMove (c : Nat) (s : State) : Host.Outcome State Fault Refusal := s.actMem (ltMoveEff c)
/-- LT_MOVEI -/
def execLtMovei (c : Nat) (s : State) : Host.Outcome State Fault Refusal := s.actMem (ltMoveiEff c)
/-- LT_LOOP -/
def execLtLoop (c : Nat) (s : State) : Host.Outcome State Fault Refusal := s.actMem (ltLoopEff c)
/-- LT_ENDL -/
def execLtEndl (c : Nat) (s : State) : Host.Outcome State Fault Refusal := s.actMem (ltEndlEff c)
/-- LT_WAIT -/
def execLtWait (c : Nat) (s : State) : Host.Outcome State Fault Refusal := s.actMem (ltWaitEff c)
/-- LT_SIGNAL -/
def execLtSignal (c : Nat) (s : State) : Host.Outcome State Fault Refusal := s.actMem (ltSignalEff c)
/-- LT_FENCE -/
def execLtFence (c : Nat) (s : State) : Host.Outcome State Fault Refusal := s.actMem (ltFenceEff c)
/-- LT_LINK -/
def execLtLink (c : Nat) (s : State) : Host.Outcome State Fault Refusal := s.actMem (ltLinkEff c)
/-- LT_FETCH_DONE -/
def execLtFetchDone (c : Nat) (line : Option (BitVec 512)) (s : State) : Host.Outcome State Fault Refusal :=
  s.actMem (ltFetchDoneEff c line)
/-- LT_WAIT_SATISFIED -/
def execLtWaitSatisfied (c : Nat) (s : State) : Host.Outcome State Fault Refusal := s.actMem (ltWaitSatisfiedEff c)
/-- LT_WAIT_TIMEOUT -/
def execLtWaitTimeout (c : Nat) (s : State) : Host.Outcome State Fault Refusal := s.act (ltWaitTimeoutEff c)
/-- LT_BURST_START -/
def execLtBurstStart (c : Nat) (s : State) : Host.Outcome State Fault Refusal := s.actMem (ltBurstStartEff c)
/-- LT_BURST_DATA -/
def execLtBurstData (c : Nat) (data : HostData) (s : State) : Host.Outcome State Fault Refusal := s.actMem (ltBurstDataEff c data)
/-- LT_FENCE_DONE -/
def execLtFenceDone (c : Nat) (s : State) : Host.Outcome State Fault Refusal := s.actMem (ltFenceDoneEff c)
/-- LT_TAIL_REFETCH -/
def execLtTailRefetch (c : Nat) (word : Option (BitVec 64)) (s : State) : Host.Outcome State Fault Refusal :=
  s.act (ltTailRefetchEff c word)
/-- LT_TAIL_TIMER -/
def execLtTailTimer (c : Nat) (s : State) : Host.Outcome State Fault Refusal := s.act (ltTailTimerEff c)
/-- LT_PAUSE_DRAINED -/
def execLtPauseDrained (c : Nat) (s : State) : Host.Outcome State Fault Refusal := s.act (ltPauseDrainedEff c)
/-- FIFO_TIMEOUT -/
def execFifoTimeout (c : Nat) (s : State) : Host.Outcome State Fault Refusal := s.actMem (fifoTimeoutEff c)

end Sys2Proof.Machine
end

