-- ==== Sys2Proof/Machine/RegImage.lean ====
section
/-! DEFINITION. The value of a register put together from its fields (17 R559, R570). -/

namespace Sys2Proof.Machine

open Sys2Proof

/-- The bits of a register that some of its fields give, from the fields that a test admits. -/
def Dev.imageOf (d : Dev) (row : RegRow) (i j : Nat) (ok : Acc → Bool) : Nat :=
  pack ((row.flds.filter (fun f => ok f.2)).map (fun f => (f.1.pos - 8 * row.base, f.1.len, d.fld f.1 i j)))

/-- The value of register instance (i, j) as its fields hold it. -/
def Dev.image (d : Dev) (row : RegRow) (i : Nat := 0) (j : Nat := 0) : Nat := d.imageOf row i j (fun _ => true)

/-- The bytes of the first `n` instances of a register. -/
def Dev.imageBytes (d : Dev) (row : RegRow) (n : Nat) : List Byte :=
  (upto n).flatMap (fun i => bytesOf (d.image row i) (row.width / 8))

end Sys2Proof.Machine
end

