-- ==== Sys2Proof/Machine/CwBase.lean ====
section
/-! DEFINITION. The causeway's ports and tree (12 R400 to R424): links, usable candidates, re-parenting, routes, REC frames and the
frames that the tree itself sends. -/

namespace Sys2Proof.Machine

open Sys2Proof

/-! ### Ports (12 R401, R410 to R412) -/

/-- A source of port p rises (12 R442, R443): event k, LSTATE or reason in byte 20, HOPS in byte 21. -/
def Dev.raisePort (d : Dev) (p k b20 b21 : Nat) : Dev :=
  d.raise 0x0D (0x780 + 8 * p + k) 0 [byt 16 1 k, byt 17 1 p, byt 18 2 (d.fld CW_PSTAT.NB_DID p), byt 20 1 b20, byt 21 1 b21]

/-- A source 0x7A0 + k rises: the DID concerned, bytes 20 and 21, and bytes 22 to 27. -/
def Dev.raiseCw (d : Dev) (k did b20 b21 b22 : Nat) : Dev :=
  d.raise 0x0D (0x7A0 + k) 0 [byt 16 1 (0x10 + k), byt 17 1 0xFF, byt 18 2 did, byt 20 1 b20, byt 21 1 b21, byt 22 6 b22]

/-- The causeway is in use. -/
def Dev.cwOn (d : Dev) : Bool := d.flag CW_ID.EN

/-- ROLE of the device. -/
def Dev.cwRole (d : Dev) : Nat := d.fld CW_TSTAT.ROLE

/-- The device is the master of its tree. -/
def Dev.cwMaster (d : Dev) : Bool := d.cwRole == 1 || d.cwRole == 2

/-- The upstream port, where there is one. -/
def Dev.upPort (d : Dev) : Option Nat := if d.fld CW_TSTAT.UPPORT < 4 then some (d.fld CW_TSTAT.UPPORT) else none

/-- The candidate ports in order (CW_PARENT). -/
def Dev.candidates (d : Dev) : List Nat :=
  ([d.fld CW_PARENT.ORD0, d.fld CW_PARENT.ORD1, d.fld CW_PARENT.ORD2, d.fld CW_PARENT.ORD3].filter (· < 4)).eraseDups

/-- LOSS_SYNCS periods, ns (12 R410, R419). -/
def Dev.lossNs (d : Dev) : Nat := max 2 (d.fld CW_TIMING.LOSS_SYNCS) * 125000

/-- Port p is a usable candidate but for the age of its SYNC (12 R410). -/
def Dev.goodPath (d : Dev) (p : Nat) : Bool :=
  let v := (d.cwp p).sync
  d.candidates.contains p && d.cwUp p && !d.cwRefused p && (d.cwp p).syncAt.isSome && !v.nopath && v.hops ≤ 9 && !v.path.contains d.did

/-- The latest time (ns) until which port p's SYNC counts. -/
def Dev.syncEnd (d : Dev) (p : Nat) : Nat := (d.cwp p).syncAt.getD 0 + d.lossNs

/-- Port p is a usable candidate (12 R410). -/
def Dev.cwUsable (d : Dev) (p : Nat) : Bool := d.goodPath p && decide (d.elNs ≤ d.syncEnd p)

/-- The usable candidates, best first: master 0 before master 1, then CW_PARENT's order (12 R411). -/
def Dev.ranked (d : Dev) : List Nat :=
  let u := d.candidates.filter d.cwUsable
  u.filter (fun p => (d.cwp p).sync.master == 0) ++ u.filter (fun p => (d.cwp p).sync.master != 0)

/-- Candidate a ranks before candidate b. -/
def Dev.ranksBefore (d : Dev) (a b : Nat) : Bool := decide (d.ranked.idxOf a < d.ranked.idxOf b)

/-- A bitmap of what the ROUTE frames of port p held within the last 30 ms (12 R413). -/
def Dev.routeBits (d : Dev) (p : Nat) : Nat :=
  ((d.cwp p).routes.filter (fun e => d.elNs < e.1 + 30000000)).foldl (fun a e => a ||| e.2) 0

/-- Port p is a downstream port: a neighbour that has port p as its upstream port sends ROUTE frames on it (12 R413). -/
def Dev.isDown (d : Dev) (p : Nat) : Bool := d.cwUp p && !d.cwRefused p && d.upPort ≠ some p && d.routeBits p ≠ 0

/-- ROLE of a port follows from the tree. -/
def Dev.portRole (d : Dev) (p : Nat) : Dev :=
  if d.cwRefused p then d
  else d.setFld CW_PSTAT.ROLE (if d.upPort = some p then 1 else if d.isDown p then 2 else 0) p

/-- ROLE of every port. -/
def Dev.portRoles (d : Dev) : Dev := (upto 4).foldl Dev.portRole d

/-! ### Frames that the tree sends -/

/-- The periodic send k is due: it has not been made, or a period (ns) ago (12 R406). -/
def Dev.cwDue (d : Dev) (k period : Nat) : Bool :=
  match get none d.cw.timers k with | some t => decide (t + period ≤ d.elNs) | none => true

/-- The periodic send k is made now. -/
def Dev.cwSent (d : Dev) (k : Nat) : Dev := { d with cw := { d.cw with timers := set none d.cw.timers k (some d.elNs) } }

/-- A frame to a DID leaves on the downstream port whose latest ROUTE holds it, else on the upstream port (12 R413). -/
def Dev.cwRoute (d : Dev) (did : Nat) : Option Nat :=
  match (upto 4).find? (fun p => d.isDown p && bit (d.cwp p).route did) with
  | some p => some p
  | none => d.upPort

/-- The body of a SYNC but for its transmit time (12 R409). -/
def Dev.syncBody (d : Dev) : Nat :=
  let role := d.cwRole
  let up := (d.cwp (d.fld CW_TSTAT.UPPORT)).sync
  let path := if role = 1 ∨ role = 2 then [d.did] else if role = 3 then up.path ++ [d.did] else []
  pack ([byt 10 6 (ofS 48 d.rate), byt 16 4 d.unc, (160, 10, d.fld CW_TSTAT.MASTER_DID),
    byt 22 1 (if role = 4 then 0x3F else d.fld CW_TSTAT.HOPS), (184, 1, if role = 4 then 1 else 0), (185, 1, d.steady.toNat)] ++
    (upto 11).map (fun i => byt (24 + 2 * i) 2 (path.getD i 0xFFFF)))

/-- A SYNC waits on every UP port but the upstream one (12 R406, R409). -/
def Dev.sendSyncs (d : Dev) : Dev :=
  ((upto 4).filter (fun p => d.upPort ≠ some p)).foldl (fun e p => e.cwSend p { typ := 1, from_ := e.did, body := e.syncBody }) d

/-- The ROUTE of a FOLLOWER waits on its upstream port (12 R413). -/
def Dev.sendRoute (d : Dev) : Dev :=
  match d.upPort with
  | some p =>
    d.cwSend p { typ := 8, from_ := d.did, body := ((upto 4).filter d.isDown).foldl (fun a q => a ||| d.routeBits q) (2 ^ d.did) }
  | none => d

/-- A SUBNAK for a SUBSCRIBE body raises SUBSCRIBE at its subscriber (12 R442), and a STEADY one puts its axes into holdover
(12 R429, R444). -/
def Dev.subnakHere (d : Dev) (reason refuser body : Nat) : Dev :=
  let src := cut body 0 10 * 4 + cut body 10 2
  let d1 := if reason = 4 then
      ((upto 16).filter (fun n => n ≠ 0 && d.axOn n && d.axType n == 5 && d.fld AX_CFG.SRC n == src)).foldl (fun e n =>
        let a := e.axis n
        let r := a.remote
        e.setAxis n { a with remote := { r with subnak := some e.elNs, holdover := r.holdover || (r.seen && r.at_ != e.elNs) } }) d
    else d
  d1.raiseCw 4 refuser reason (cut body 10 2) 0

/-- A refusal of a SUBSCRIBE goes to its subscriber (12 R426). -/
def Dev.sendSubnak (d : Dev) (reason body : Nat) : Dev :=
  let sub := cut body 16 10
  if sub = d.did then d.subnakHere reason d.did body
  else
    match d.cwRoute sub with
    | some p => d.cwSend p {
        typ := 7, from_ := d.did, dst := some sub, body := pack [byt 0 1 reason, byt 1 2 d.did, byt 4 4 body] }
    | none => d

/-- The SUBSCRIBE of REMOTE axis n goes toward its publisher (12 R426); with no way it is refused NO_ROUTE (R413). -/
def Dev.sendSubscribe (d : Dev) (n : Nat) : Dev :=
  if n ≠ 0 ∧ n < 16 ∧ d.axOn n ∧ d.axType n = 5 ∧ d.cwOn then
    let src := d.fld AX_CFG.SRC n
    let body := pack [(0, 10, src / 4), (10, 2, src % 4), (16, 10, d.did)]
    if src / 4 = d.did then d
    else
      match d.cwRoute (src / 4) with
      | some p => d.cwSend p { typ := 6, from_ := d.did, dst := some (src / 4), body := body }
      | none => d.sendSubnak 5 body
  else d

/-! ### REC frames (12 R432 to R436) -/

/-- A REC finds 512 frames waiting (12 R436); an itemised record goes to the log. -/
def Dev.recLost (d : Dev) (body : Nat) : Dev :=
  let r : Record := BitVec.ofNat 256 (cut body 64 256)
  let d1 := (d.count CW_FCNT.FWD_LOST).raiseCw 7 (bits r 48 10) 0 0 1
  if r.getLsbD 9 then d1.logRecord 5 r else d1

/-- A REC body goes to the upstream port, under its next link sequence; an ISOLATED device holds it (12 R433, R434). -/
def Dev.pushRec (d : Dev) (body : Nat) : Dev :=
  match d.upPort with
  | none => if d.cw.held.length ≥ 512 then d.recLost body else { d with cw := { d.cw with held := d.cw.held ++ [body] } }
  | some p =>
    let x := d.cwp p
    if x.recs.length ≥ 512 then d.recLost body
    else
      let b := put body 0 16 x.txSeq
      (d.setCwp p { x with recs := x.recs ++ [(x.txSeq, b)], txSeq := (x.txSeq + 1) % 65536 }).cwSend p
        { typ := 0x0C, from_ := d.did, body := b }

/-- A REC at the master raises remote source 0x800 + REMOTE_NUM (12 R433, 08 R278). -/
def Dev.recHere (d : Dev) (body : Nat) : Dev :=
  let src := 0x800 + cut body 32 11
  let r := cut body 64 256
  d.raiseRecs src [BitVec.ofNat 256 (put (put r 8 8 8) 16 12 src)] (bit r 9)

/-- The master takes a REC by its origin sequence (12 R435): one that it expects, or later; one that fills a gap; or a duplicate. -/
def Dev.recMaster (d : Dev) (body : Nat) : Dev :=
  let o := cut body (64 + 48) 10
  let s := cut body 16 16
  let exp := get s d.cw.expect o
  let ahead := (s + 65536 - exp) % 65536
  let miss := get [] d.cw.gaps o
  if ahead < 32768 then
    let fresh := (upto ahead).map (fun k => ((exp + k) % 65536, d.elNs))
    let d1 : Dev := { d with cw := { d.cw with
      expect := ins o ((s + 1) % 65536) d.cw.expect, gaps := set [] d.cw.gaps o (miss ++ fresh) } }
    d1.recHere body
  else if miss.any (fun e => e.1 == s) then
    ({ d with cw := { d.cw with gaps := set [] d.cw.gaps o (miss.filter (fun e => e.1 != s)) } } : Dev).recHere body
  else d.count CW_FCNT.DUP

/-- A record is forwarded for a CW_FWD entry (12 R432, R433). -/
def Dev.forward (d : Dev) (num : Nat) (r : Record) : Dev :=
  if d.cwOn && !d.cwMaster then
    let o := d.cw.origin
    ({ d with cw := { d.cw with origin := (o + 1) % 65536 } } : Dev).pushRec
      (pack [byt 2 2 o, (32, 11, num), byt 8 32 r.toNat])
  else d

/-! ### The tree (12 R408, R411, R419 to R423) -/

/-- ROLE, UPPORT, HOPS and MASTER_DID take values; MASTER rises when ROLE or MASTER_DID changes (12 R442). -/
def Dev.setTree (d : Dev) (role up hops master : Nat) : Dev :=
  let d1 := ((((d.setFld CW_TSTAT.ROLE role).setFld CW_TSTAT.UPPORT up).setFld CW_TSTAT.HOPS hops).setFld CW_TSTAT.MASTER_DID master).portRoles
  if d.fld CW_TSTAT.ROLE = role ∧ d.fld CW_TSTAT.MASTER_DID = master then d1 else d1.raiseCw 2 master 0 0 0

/-- The upstream port is about to change: its REC frames are held, the servo's interval ends, and the recovered clock counts as failed
(12 R402, R420, R434, R444). -/
def Dev.detach (d : Dev) : Dev :=
  let d1 := match d.upPort with
    | some p =>
      let x := d.cwp p
      (d.setCwp p { x with recs := [], recAt := [], tx := x.tx.filter (fun f => f.typ != 0x0C) }).clockFail .recovered 4
    | none => d
  let old := match d.upPort with | some p => (d.cwp p).recs.map (fun e => e.2) | none => []
  { d1 with cw := { d1.cw with held := old ++ d1.cw.held, offs := [], seen := 0, moved := some d1.tb.eclk } }

/-- Port p becomes the upstream port (12 R420): PARENT rises, ROUTE and the SUBSCRIBE frames go at once, and the REC frames move. -/
def Dev.attach (d : Dev) (p : Nat) : Dev :=
  let old := d.upPort
  let d1 := d.detach
  let v := (d1.cwp p).sync
  let d2 := d1.setTree 3 p (v.hops + 1) v.master
  let d3 := d2.raiseCw 0 (d2.fld CW_PSTAT.NB_DID p) (old.getD 0xFF) p 0
  let d4 := (upto 16).foldl (fun e n => e.sendSubscribe n) d3.sendRoute
  let held := d4.cw.held
  held.foldl Dev.pushRec { d4 with cw := { d4.cw with held := [] } }

/-- REFUSED rises with reason DEPTH on the candidates, where all that are known lie at HOPS 10 (12 R412). -/
def Dev.depthCheck (d : Dev) : Dev :=
  let c := d.candidates.filter (fun p => d.cwUp p && !d.cwRefused p && (d.cwp p).syncAt.isSome && !(d.cwp p).sync.nopath)
  if c.all (fun p => (d.cwp p).sync.hops == 10) then c.foldl (fun e p => e.raisePort p 3 2 0) d else d

/-- The device becomes ISOLATED (12 R409, R420). -/
def Dev.isolate (d : Dev) : Dev :=
  let d1 := d.detach.setTree 4 7 15 (d.fld CW_TSTAT.MASTER_DID)
  (d1.raiseCw 1 d1.did 0 0 0).sendSyncs.depthCheck

/-- The parent is lost (12 R420): the best usable candidate, or ISOLATED. -/
def Dev.loseParent (d : Dev) : Dev :=
  match d.ranked with
  | p :: _ => d.attach p
  | [] => d.isolate

/-- The time until which there was a usable candidate with master 0 is brought up to date (12 R422). -/
def Dev.noteZero (d : Dev) : Dev :=
  let t := ((upto 4).filter (fun p => d.goodPath p && (d.cwp p).sync.master == 0)).foldl (fun a p => max a (min d.elNs (d.syncEnd p))) d.cw.noZero
  { d with cw := { d.cw with noZero := t } }

/-- Since when each port has been usable, and usable with master 0 (12 R411). -/
def Dev.noteUsable (d : Dev) : Dev :=
  (upto 4).foldl (fun e p =>
    let x := e.cwp p
    let ok := e.cwUsable p
    let z := ok && x.sync.master == 0
    (e.setFlag CW_PSTAT.USABLE ok p).setCwp p { x with
      usableAt := if ok then some (x.usableAt.getD e.elNs) else none
      zeroAt := if z then some (x.zeroAt.getD e.elNs) else none }) d

/-- The tree follows what the ports show (12 R419 to R421): a parent that is no longer usable is lost, an ISOLATED device attaches. -/
def Dev.treeCheck (d : Dev) : Dev :=
  let d1 := d.noteUsable.portRoles
  match d1.cwRole with
  | 3 =>
    match d1.upPort with
    | some p =>
      if d1.cwUsable p then
        let v := (d1.cwp p).sync
        d1.setTree 3 p (v.hops + 1) v.master
      else d1.loseParent
    | none => d1.isolate
  | 4 => match d1.ranked with | p :: _ => d1.attach p | [] => d1
  | _ => d1

/-- Port p leaves UP, or stays down: what waited on it is gone (12 R401, R412). -/
def Dev.portDown (d : Dev) (p : Nat) : Dev :=
  let x := d.cwp p
  ((d.setCwp p { x with tx := [], dreqAt := none, syncAt := none, usableAt := none, zeroAt := none, routes := [], route := 0 }).setFld
    CW_PSTAT.ROLE 0 p).setFld CW_PSTAT.NB_HOPS 15 p

/-- LSTATE of port p takes a value, and LINK rises (12 R401, R442). -/
def Dev.setLstate (d : Dev) (p st : Nat) : Dev :=
  if d.fld CW_PSTAT.LSTATE p = st then d
  else
    let d0 := d.noteZero.setFld CW_PSTAT.LSTATE st p
    let d1 := (if st = 1 then d0.setCwp p { d0.cwp p with alignAt := d0.elNs } else d0).raisePort p 0 st 0
    if st = 2 then d1 else (d1.portDown p).treeCheck

/-- Port p becomes REFUSED with a reason (12 R412). -/
def Dev.refuse (d : Dev) (p reason : Nat) : Dev :=
  if d.cwRefused p then d
  else
    let d1 := d.noteZero.setFld CW_PSTAT.ROLE 3 p
    let x := d1.cwp p
    ((d1.setCwp p { x with tx := x.tx.filter (fun f => f.typ == 2 || f.typ == 3) }).raisePort p 3 reason 0).treeCheck

/-- CW_ID takes a value (12 R408): the role that EN and DID give. -/
def Dev.cwStart (d : Dev) : Dev :=
  if !d.cwOn then d.setTree 0 7 15 0
  else if d.did = 0 then d.setTree 1 7 0 0
  else if d.cwRole = 0 ∨ d.cwRole = 1 then d.isolate.treeCheck
  else d

/-- DID 1 becomes ACTING_MASTER (12 R422); records that it holds are its own to receive. -/
def Dev.actMaster (d : Dev) : Dev :=
  let d1 := d.detach.setTree 2 7 0 1
  let held := d1.cw.held
  held.foldl Dev.recMaster { d1 with cw := { d1.cw with held := [] } }

end Sys2Proof.Machine
end

