-- ==== Sys2Proof/Machine/Causeway.lean ====
section
/-! DEFINITION. The causeway (12): time transfer, axis publishing, forwarded records and the configuration tally, with the
meanings of its rows. -/

namespace Sys2Proof.Machine

open Sys2Proof

/-! ### Links and frames (12 R401, R404, R407) -/

/-- PORT_LINK_EVENT (12 R401). -/
def portLinkEventEff (p : Nat) (ev : LaneEvent) (d : Dev) : Dev :=
  if p < 4 ∧ d.flag CW_PCFG.EN p then
    match ev with
    | .locked => if d.fld CW_PSTAT.LSTATE p = 0 then d.setLstate p 1 else d
    | .lost => d.setLstate p 0
    | .errors => d.setLstate p 0
  else d

/-- PORT_UP_TIMER (12 R401): 1 µs in ALIGN with no error. -/
def portUpTimerEff (p : Nat) (d : Dev) : Dev :=
  if p < 4 ∧ d.fld CW_PSTAT.LSTATE p = 1 ∧ (d.cwp p).alignAt + 1000 ≤ d.elNs then d.setLstate p 2 else d

/-- The transmit priority of a frame type (12 R406). -/
def frameClass (typ : Nat) : Nat :=
  match typ with | 1 | 2 | 3 => 1 | 4 => 2 | 5 => 3 | 0x0C => 5 | _ => 4

/-- The most urgent frame that waits, the oldest of its class (12 R407). -/
def nextFrame (l : List Frame) : Option Frame :=
  (upto 6).findSome? (fun c => l.find? (fun f => frameClass f.typ == c))

/-- A time in 2^-16 ns as 64.16. -/
def time16 (b t : Nat) : Nat × Nat × Nat := (8 * b, 80, t)

/-- A frame as it leaves: SYNC and DRESP carry the time at which they do (12 R409, R414). -/
def Dev.stamped (d : Dev) (f : Frame) : Frame :=
  match f.typ with
  | 1 => { f with body := f.body ||| pack [byt 0 8 d.ns, byt 8 2 d.frac16] }
  | 3 => { f with body := f.body ||| pack [time16 12 d.t16] }
  | _ => f

/-- The body bytes of a frame type (12 R406). -/
def frameBytes (typ : Nat) : Nat :=
  match typ with | 1 => 48 | 2 => 2 | 3 => 24 | 4 => 56 | 5 => 32 | 6 => 4 | 7 => 8 | 8 => 128 | 9 => 20 | 0x0A => 136 | 0x0B => 2 | 0x0C => 40 | _ => 0

/-- How long a frame occupies the wire, 0.1 ns: symbol periods of 1.6 ns for SOF, header, body, CRC and EOF on two lanes (12 R400, R404, R407). -/
def frameTime (typ : Nat) : Nat := 16 * (2 + (12 + frameBytes typ) / 2)

/-- The port stands at a frame boundary: a frame is never interrupted (12 R407). -/
def CwPort.free (x : CwPort) (elNs : Nat) : Bool := decide (x.wireEnd ≤ 10 * elNs)

/-- FRAME_TX (12 R407): the frame leaves; the transmit times of a DREQ (R414) and of a REC (R434) are kept. -/
def frameTxEff (p : Nat) (d : Dev) : Dev :=
  let x := d.cwp p
  match nextFrame x.tx with
  | some f =>
    if p < 4 ∧ d.cwUp p ∧ x.free d.elNs then
      d.setCwp p { x with
        tx := x.tx.erase f, wire := some (d.stamped f), wireEnd := 10 * d.elNs + frameTime f.typ
        dreqAt := if f.typ = 2 then some d.t16 else x.dreqAt
        recAt := if f.typ = 0x0C then ins (cut f.body 0 16) d.elNs x.recAt else x.recAt }
    else d
  | none => d

/-- FRAME_DISCARD (12 R404). -/
def frameDiscardEff (p : Nat) (d : Dev) : Dev :=
  if p < 4 ∧ d.cwUp p then (d.count CW_PCNT.CRC_ERR p).raisePort p 2 0 0 else d

/-! ### Time transfer (12 R409 to R417) -/

/-- SYNC_SEND (12 R409). -/
def syncSendEff (d : Dev) : Dev := if d.cwOn ∧ d.cwDue 0 125000 then (d.sendSyncs).cwSent 0 else d

/-- DREQ_SEND (12 R414). -/
def dreqSendEff (p : Nat) (d : Dev) : Dev :=
  if p < 4 ∧ d.cwUp p ∧ d.cwDue (4 + p) 1000000 then
    let s := ((d.cwp p).dreqSeq + 1) % 65536
    ((d.setCwp p { d.cwp p with dreqSeq := s, dreqAt := none }).cwSend p { typ := 2, from_ := d.did, body := s }).cwSent (4 + p)
  else d

/-- RX_DREQ (12 R414): t2 is the receive time, 2^-16 ns. -/
def rxDreqEff (p : Nat) (seq : BitVec 16) (t2 : Nat) (d : Dev) : Dev :=
  if p < 4 then d.cwSend p { typ := 3, from_ := d.did, body := pack [byt 0 2 seq.toNat, time16 2 t2] } else d

/-- The mean of some values, toward zero. -/
def meanOf (l : List Int) : Int := if l.isEmpty then 0 else l.sum.tdiv l.length

/-- A path delay is taken or rejected (12 R414). -/
def Dev.delayIn (d : Dev) (p : Nat) (x : Int) : Dev :=
  let c := { d.cwp p with dreqAt := none }
  if c.delays.length ≥ 8 ∧ (x - meanOf c.delays).natAbs > 131072 then
    (d.setCwp p (if c.rejRun + 1 ≥ 8 then { c with delays := [], rejRun := 0 } else { c with rejRun := c.rejRun + 1 })).count CW_PDELAY.REJ p
  else
    let l := (x :: c.delays).take 8
    (d.setCwp p { c with delays := l, rejRun := 0 }).setFld CW_PDELAY.D (((meanOf l).toNat * 1000 + 32768) / 65536) p

/-- RX_DRESP (12 R414): t4 is the receive time, 2^-16 ns. -/
def rxDrespEff (p : Nat) (body : BitVec 192) (t4 : Nat) (d : Dev) : Dev :=
  let x := d.cwp p
  match x.dreqAt with
  | some t1 =>
    if p < 4 ∧ d.cwUp p ∧ bits body 0 16 = x.dreqSeq then
      d.delayIn p ((((t4 : Int) - t1) - ((bits body 96 80 : Int) - bits body 16 80)).tdiv 2)
    else d
  | none => d

/-- The entries of PATH that a SYNC uses (12 R409). -/
def syncPath (b : Nat) : List Nat := ((upto 11).map (fun i => cut b (192 + 16 * i) 16)).filter (· ≠ 0xFFFF)

/-- A SYNC as it was received (12 R409). -/
def syncOf (sender : Nat) (b : Nat) : SyncView :=
  {
    from_ := sender, time := cut b 0 64 * 65536 + cut b 64 16, rate := toS 48 (cut b 80 48), unc := cut b 128 32, master := cut b 160 10,
    hops := cut b 176 8, nopath := bit b 184, steady := bit b 185, path := syncPath b }

/-- The offset of a SYNC, 2^-16 ns (12 R415). -/
def Dev.syncOffset (d : Dev) (p tc : Nat) : Int :=
  let trim := toS 16 (d.fld CW_ASYM.TRIM p)
  ((d.cwp p).sync.time : Int) + meanOf (d.cwp p).delays + (trim * 65536).tdiv 2000 - tc

/-- An offset is accepted, or discarded as an outlier (12 R417). -/
def Dev.offsetIn (d : Dev) (o : Int) : Dev :=
  let out := d.flag CW_TSTAT.LOCKED && decide ((o - d.cw.prev).natAbs > 64 * 65536)
  { d with cw := { d.cw with seen := d.cw.seen + 1, offs := if out then d.cw.offs else d.cw.offs ++ [o] } }

/-- RX_SYNC (12 R409 to R412, R415, R420): tc is the receive time, 2^-16 ns. -/
def rxSyncEff (p : Nat) (sender : BitVec 10) (body : BitVec 384) (tc : Nat) (d : Dev) : Dev :=
  let v := syncOf sender.toNat body.toNat
  if p ≥ 4 || !d.cwUp p || d.cwRefused p then d
  else if v.from_ = d.did then d.refuse p 1
  else if d.did = 0 ∧ v.master = 0 ∧ v.nopath = false then d.refuse p 3
  else
    let hops := if v.nopath then 15 else v.hops
    let d0 := d.noteZero
    let was := (d.cwp p).sync.nopath
    let changed := d.fld CW_PSTAT.NB_DID p ≠ v.from_ ∨ d.fld CW_PSTAT.NB_HOPS p ≠ hops % 16 ∨ d.fld CW_PSTAT.NB_MASTER p ≠ v.master ∨ was ≠ v.nopath
    let d1 := d0.setCwp p { d0.cwp p with sync := v, syncAt := some d.elNs }
    let d2 := (((d1.setFld CW_PSTAT.NB_DID v.from_ p).setFld CW_PSTAT.NB_HOPS hops p).setFld CW_PSTAT.NB_MASTER v.master p).setFlag
      CW_PSTAT.NB_STEADY v.steady p
    let d3 := if changed then d2.raisePort p 1 0 (hops % 16) else d2
    let d4 := if d3.cwRole = 3 ∧ d3.upPort = some p ∧ d3.cwUsable p then d3.offsetIn (d3.syncOffset p tc) else d3
    let d5 := d4.treeCheck
    if d5.cwRole = 4 ∧ changed then d5.depthCheck else d5

/-- The mean offset of an interval is taken (12 R416, R417). -/
def Dev.servo (d : Dev) (om : Int) : Dev :=
  let c := d.cw
  let small := decide (om.natAbs < 131072)
  let good := if small then c.goodRun + 1 else 0
  let wide := decide (om.natAbs > 2 ^ 47)
  let d1 : Dev := { d with cw := { c with prev := om, badRun := 0, goodRun := min good 16 } }
  let d2 := d1.setFld CW_OFFSET.OFFSET (ofS 48 om)
  let d3 := if good ≥ 16 then d2.setFld CW_TSTAT.LOCKED 1 else d2
  let d4 := d3.setFlag CW_TSTAT.OFFSET_RANGE wide
  if wide && !d.flag CW_TSTAT.OFFSET_RANGE then d4.raiseCw 3 d4.did 0 0 (ofS 48 om) else d4

/-- The discipline request of an interval (12 R416); a rejected one leaves the integral. -/
def Dev.servoRequest (d : Dev) (om : Int) : Dev :=
  let v := (d.cwp (d.fld CW_TSTAT.UPPORT)).sync
  let integ := d.cw.integ + om / 65536
  let rate := v.rate + integ * 281475 / (2 ^ d.fld CW_SERVO.KI_SHIFT : Nat)
  let (st, d1) := d.discipline false rate om (if d.flag CW_TSTAT.OFFSET_RANGE then 0 else 1) (min (v.unc + 1) 0xFFFFFFFF)
    (d.fld AX0_STATUS.STEP_COUNT)
  if st = 0 then { d1 with cw := { d1.cw with integ := integ } } else d1

/-- SERVO_INTERVAL (12 R416, R417, R444). -/
def servoIntervalEff (d : Dev) : Dev :=
  if d.cwRole = 3 ∧ d.cwDue 2 1000000 then
    let c := d.cw
    let d0 : Dev := ({ d with cw := { c with offs := [], seen := 0 } } : Dev).cwSent 2
    if c.offs.isEmpty then
      if c.seen = 0 then { d0 with cw := { d0.cw with goodRun := 0 } }
      else
        let d1 : Dev := { d0 with cw := { d0.cw with goodRun := 0, badRun := c.badRun + 1 } }
        if c.badRun + 1 ≥ 4 then ({ d1 with cw := { d1.cw with badRun := 0 } } : Dev).setFld CW_TSTAT.LOCKED 0 else d1
    else
      let om := meanOf c.offs
      let d1 := d0.servo om
      if d.dsrcCauseway ∧ c.offs.length ≥ 6 ∧ c.moved ≠ some d.tb.eclk then d1.servoRequest om else d1
  else d

/-! ### The tree's rows (12 R411, R413, R419, R422, R423) -/

/-- PARENT_LOSS_TIMEOUT (12 R419). -/
def parentLossTimeoutEff (d : Dev) : Dev :=
  match d.upPort with
  | some p => if d.cwRole = 3 ∧ d.syncEnd p ≤ d.elNs then (d.noteZero.setFld CW_PSTAT.USABLE 0 p |>.setCwp p { d.cwp p with syncAt := none }).treeCheck else d
  | none => d

/-- DID 1 has had no usable candidate with master 0 for MASTER_LOSS_MS (12 R422). -/
def Dev.masterLost (d : Dev) : Bool :=
  d.cwOn && d.did == 1 && (d.cwRole == 3 || d.cwRole == 4) && !(d.ranked.any (fun p => (d.cwp p).sync.master == 0)) &&
    decide (d.noteZero.cw.noZero + max 1 (d.fld CW_TIMING.MASTER_LOSS_MS) * 1000000 ≤ d.elNs)

/-- MASTER_LOSS_TIMEOUT (12 R422). -/
def masterLossTimeoutEff (d : Dev) : Dev := if d.masterLost then d.actMaster else d

/-- Candidate p has served the period that lets the device change to it (12 R411, R423). -/
def Dev.candidateDue (d : Dev) (p : Nat) : Bool :=
  let x := d.cwp p
  let zeroDue := match x.zeroAt with | some t => decide (t + 100000000 ≤ d.elNs) | none => false
  let revert := d.fld CW_PARENT.REVERT_S
  let revertDue := match x.usableAt with | some t => revert ≠ 0 && decide (t + revert * 1000000000 ≤ d.elNs) | none => false
  d.cwUsable p &&
    match d.cwRole, d.upPort with
    | 2, _ => zeroDue
    | 3, some u => (d.ranksBefore p u) &&
        (if x.sync.master = (d.cwp u).sync.master then revertDue else x.sync.master == 0 && zeroDue)
    | _, _ => false

/-- CANDIDATE_TIMER (12 R411, R423). -/
def candidateTimerEff (p : Nat) (d : Dev) : Dev := if p < 4 ∧ d.candidateDue p then d.noteZero.attach p else d

/-- ROUTE_SEND (12 R413). -/
def routeSendEff (d : Dev) : Dev := if d.cwRole = 3 ∧ d.cwDue 1 10000000 then d.sendRoute.cwSent 1 else d

/-- RX_ROUTE (12 R412, R413). -/
def rxRouteEff (p : Nat) (sender : BitVec 10) (bitmap : BitVec 1024) (d : Dev) : Dev :=
  if p ≥ 4 || !d.cwUp p || d.cwRefused p then d
  else if sender.toNat = d.did then d.refuse p 1
  else if d.upPort = some p then d
  else if bit bitmap.toNat d.did then d.refuse p 1
  else
    let x := d.cwp p
    (d.setCwp p { x with
      route := bitmap.toNat
      routes := (x.routes.filter (fun e => d.elNs < e.1 + 30000000)) ++ [(d.elNs, bitmap.toNat)] }).portRoles

/-- ROUTE_EXPIRE (12 R413): the DID leaves the bitmaps that are 30 ms old. -/
def routeExpireEff (p : Nat) (did : BitVec 10) (d : Dev) : Dev :=
  if p < 4 then
    let x := d.cwp p
    let old := x.routes.map (fun e => if e.1 + 30000000 ≤ d.elNs then (e.1, put e.2 did.toNat 1 0) else e)
    let left := old.filter (fun e => e.2 ≠ 0)
    let seen := left.any (fun e => bit e.2 did.toNat)
    (d.setCwp p { x with routes := left, route := if seen then x.route else put x.route did.toNat 1 0 }).portRoles
  else d

/-! ### Publishing (12 R425 to R427) -/

/-- The SNAP body of axis n in a slot (12 R427); a COUNT axis has no rate that the spec states. -/
def Dev.snapBody (d : Dev) (k n : Nat) : Nat :=
  let ty := d.axType n
  let src := d.fld AX_CFG.SRC n
  let a := d.axis n
  let stall : Bool := match ty with
    | 2 => d.flag WT_STATUS.STALL src
    | 3 | 4 => a.stalled
    | _ => false
  let rate := match ty with
    | 1 => d.fld AX_PARA.PARA n
    | 2 =>
      let m := d.wtModel src
      let ph := (d.trkr src).ph
      if stall then 0
      else if d.fld WT_STATUS.STATE src = 5 then (if ph.intv = 0 then 0 else ph.angle * 2 ^ 35 / ph.intv)
      else if m.p = 0 ∨ m.n = 0 then 0 else 2 ^ 72 / (m.n * m.p)
    | 3 | 4 => if stall ∨ a.pk = 0 then 0 else d.axUnit n * 524288 / a.pk
    | _ => Config.freeValue d.freeCtr
  let time := if ty = 1 then d.fld AX_PARC.PARC n else d.ns
  let value := if ty = 1 then d.fld AX_PARB.PARB n else d.axValue n
  pack [byt 0 1 k, (8, 3, ty), (11, 2, d.axQuality n), (13, 1, (d.axReverse n).toNat), (14, 1, stall.toNat), byt 8 8 time, byt 16 8 value,
    byt 24 8 rate]

/-- SNAP_SEND (12 R425, R427): once in each microsecond of AX0. -/
def snapSendEff (k : Nat) (d : Dev) : Dev :=
  if k < 4 ∧ d.cwOn ∧ d.operate ∧ d.flag CW_PUB.EN k ∧ get none d.cw.timers (8 + k) ≠ some (d.ns / 1000) then
    let n := d.fld CW_PUB.AXIS k
    let d0 : Dev := { d with cw := { d.cw with timers := set none d.cw.timers (8 + k) (some (d.ns / 1000)) } }
    let d1 := d0.cwCast d.did k 4 { typ := 5, from_ := d.did, body := d.snapBody k n }
    if d.axType n = 6 then d1.nextFree else d1
  else d

/-- CW_PUBk takes a value (12 R425). -/
def Dev.writePub (d : Dev) (k v : Nat) : Dev :=
  let n := cut v 0 4
  let d1 := d.setFld CW_PUB.AXIS n k
  if bit v 4 then
    if n = 0 ∨ d.axOn n = false ∨ d.axType n = 5 then (d1.setFld CW_PUB.EN 0 k).setFld CW_PUB.REFUSED 1 k
    else (d1.setFld CW_PUB.EN 1 k).setFld CW_PUB.REFUSED 0 k
  else d1.setFld CW_PUB.EN 0 k

/-- SUBSCRIBE_SEND (12 R426). -/
def subscribeSendEff (n : Nat) (d : Dev) : Dev := if d.cwDue (16 + n) 10000000 then (d.sendSubscribe n).cwSent (16 + n) else d

/-- The publications that a port receives: those of the entries and of this device's REMOTE axes that are routed to it. -/
def Dev.pubsIn (d : Dev) (q : Nat) : List Nat :=
  let e := (d.cw.subs.filter (fun s => s.did ≠ d.did)).map (fun s => s.did * 4 + s.slot)
  let r := ((upto 16).filter (fun n => n ≠ 0 && d.axOn n && d.axType n == 5)).map (fun n => d.fld AX_CFG.SRC n)
  ((e ++ r).eraseDups).filter (fun s => d.cwRoute (s / 4) == some q)

/-- Why a SUBSCRIBE that arrives on port p is refused (12 R426); none where it is recorded. -/
def Dev.subRefusal (d : Dev) (p did slot : Nat) : Option Nat :=
  let has := d.cw.subs.any (fun s => s.did == did && s.slot == slot)
  let onPort : Bool := (d.subPorts did slot).contains p
  let out := (d.cw.subs.filter (fun s => s.ports.any (fun e => e.1 == p))).length
  let inFull : Bool := match d.cwRoute did with
    | some q => (d.did != did) && !(d.pubsIn q).contains (did * 4 + slot) && decide ((d.pubsIn q).length ≥ 16)
    | none => false
  if did = d.did ∧ d.flag CW_PUB.EN slot = false then some 1
  else if did = d.did ∧ d.steady = true then some 4
  else if did ≠ d.did ∧ d.cwRoute did = none then some 5
  else if (onPort = false ∧ out ≥ 16) ∨ inFull = true then some 2
  else if has = false ∧ d.cw.subs.length ≥ 64 then some 3
  else none

/-- Port p asks for a slot of a device now. -/
def Dev.addSub (d : Dev) (p did slot : Nat) : Dev :=
  let here (s : Sub) : Bool := s.did == did && s.slot == slot
  if d.cw.subs.any here then
    { d with cw := { d.cw with subs := d.cw.subs.map (fun s => if here s then { s with ports := ins p d.elNs s.ports } else s) } }
  else { d with cw := { d.cw with subs := d.cw.subs ++ [{ did := did, slot := slot, ports := [(p, d.elNs)] }] } }

/-- RX_SUBSCRIBE (12 R426). -/
def rxSubscribeEff (p : Nat) (body : BitVec 32) (d : Dev) : Dev :=
  let did := bits body 0 10
  let slot := bits body 10 2
  if p ≥ 4 || !d.cwUp p || d.cwRefused p then d
  else
    match d.subRefusal p did slot with
    | some r => d.sendSubnak r body.toNat
    | none =>
      let d1 := d.addSub p did slot
      if did = d.did then d1
      else
        match d.cwRoute did with
        | some q => d1.cwSend q { typ := 6, from_ := bits body 16 10, dst := some did, body := body.toNat }
        | none => d1

/-- RX_SUBNAK (12 R426). -/
def rxSubnakEff (p : Nat) (dst : BitVec 10) (body : BitVec 64) (d : Dev) : Dev :=
  if p ≥ 4 || !d.cwUp p || d.cwRefused p then d
  else if dst.toNat = d.did then d.subnakHere (bits body 0 8) (bits body 8 10) (bits body 32 32)
  else
    match d.cwRoute dst.toNat with
    | some q => d.cwSend q { typ := 7, from_ := bits body 8 10, dst := some dst.toNat, body := body.toNat }
    | none => d

/-- SUB_BIT_EXPIRE (12 R426): port p of entry i. -/
def subBitExpireEff (i p : Nat) (d : Dev) : Dev :=
  match d.cw.subs[i]? with
  | some s =>
    if s.ports.any (fun e => e.1 == p && decide (e.2 + 30000000 ≤ d.elNs)) then
      let s1 := { s with ports := del p s.ports }
      { d with cw := { d.cw with subs := if s1.ports.isEmpty then d.cw.subs.eraseIdx i else d.cw.subs.set i s1 } }
    else d
  | none => d

/-! ### REMOTE axes (12 R428 to R430) -/

/-- The REMOTE axes of a slot of a device. -/
def Dev.remoteAxes (d : Dev) (did slot : Nat) : List Nat :=
  (upto 16).filter (fun n => n ≠ 0 && d.axOn n && d.axType n == 5 && d.fld AX_CFG.SRC n == did * 4 + slot)

/-- The part with the REMOTE state of axis n replaced. -/
def Dev.setRemote (d : Dev) (n : Nat) (r : Remote) : Dev := d.setAxis n { d.axis n with remote := r }

/-- A SNAP lies beyond what the latest TOOTH covers: one has been missed. -/
def Remote.missed (r : Remote) (v : Nat) : Bool :=
  match r.typ with
  | 2 => decide (r.model.target v ≥ (r.model.l * r.model.micro : Nat))
  | 3 | 4 => decide (v ≥ r.base + r.u / 65536)
  | _ => false

/-- A REMOTE axis takes the fields of a SNAP (12 R427, R429, R430). -/
def Remote.snap (r : Remote) (b ax0 elNs : Nat) : Remote :=
  let gap := !r.seen || r.holdover || r.absent
  let old := r.now ax0 elNs
  let fine := r.slewFine elNs
  let r1 : Remote := { r with
    seen := true, typ := cut b 8 3, quality := cut b 11 2, rev := bit b 13, stall := bit b 14, t := cut b 64 64, v := cut b 128 64,
    rate := cut b 192 64, at_ := elNs, holdover := false, absent := false, slewAt := elNs }
  let r2 : Remote := { r1 with stale := r.stale || !r.seen || (gap && r1.missed r1.v) }
  let new := r2.value ax0
  if !r.seen || r.absent then { r2 with held := 0, slew := 0 }
  else if r.holdover then { r2 with held := old, slew := (new - old) * 2 ^ 43 }
  else { r2 with slew := fine, held := if fine = 0 ∧ r.held ≤ new then 0 else r.held }

/-- The axis value of REMOTE axis n has moved on from `old`: events that it has passed fire (02 R53, 03 R93). -/
def Dev.remoteMoved (d : Dev) (n old : Nat) : Dev :=
  let new := d.axValue n
  if old < new ∧ (d.axis n).remote.typ ≠ 6 then (d.jumpAxis n old new).1 else d

/-- A SNAP applies to axis n; a change of DIR suspends its events or lets them resume (12 R428, 03 R97, R100). -/
def Dev.snapIn (d : Dev) (n b : Nat) : Dev :=
  let r := (d.axis n).remote
  let old := d.axValue n
  let r1 := r.snap b d.ax0 d.elNs
  let d1 := d.setRemote n r1
  let d2 := if r1.rev && !r.rev then d1.reverseAxis n else if r.rev && !r1.rev then d1.forwardAxis n else d1
  if r1.rev then d2 else d2.remoteMoved n old

/-- RX_SNAP (12 R427, R428). -/
def rxSnapEff (p : Nat) (sender : BitVec 10) (body : BitVec 256) (d : Dev) : Dev :=
  let f := sender.toNat
  let k := bits body 0 8
  if p ≥ 4 || !d.cwUp p || d.cwRefused p || decide (k ≥ 4) then d
  else (d.remoteAxes f k).foldl (fun e n => e.snapIn n body.toNat) (d.cwCast f k p { typ := 5, from_ := f, body := body.toNat })

/-- A REMOTE axis takes a TOOTH (12 R427, R428): the global slot in 32 bits is the one nearest the latest known. -/
def Remote.tooth (r : Remote) (b : Nat) : Remote :=
  let n := cut b 16 16
  let tk := cut b 64 64 * 65536 + cut b 128 16
  if bit b 9 then
    { r with model := { r.model with tk := tk, p := cut b 256 64 }, base := cut b 192 64, u := cut b 384 64, stale := !r.seen }
  else
    let near : Int := if r.stale then ((r.v / 2 ^ 24 * n : Nat) : Int) else r.model.g
    let g := near + toS 32 (ofS 32 ((cut b 160 32 : Int) - near))
    { r with
      model := {
                 n := n, mt := cut b 32 5, zofs := cut b 192 24, g := g, m := 0, tk := tk, p := cut b 256 64, dp := toS 64 (cut b 320 64),
                 l := cut b 40 8, rev := bit b 8 }
      stale := !r.seen }

/-- A TOOTH of an axis in holdover: the axis does not step to the publisher's value, but slews to it (12 R430, 01 R18). -/
def Remote.toothHeld (r : Remote) (b ax0 elNs : Nat) : Remote :=
  let old := r.now ax0 elNs
  let r1 := r.tooth b
  { r1 with held := old, slew := (r1.value ax0 - old) * 2 ^ 43, slewAt := elNs }

/-- A TOOTH applies to axis n. -/
def Dev.toothIn (d : Dev) (n b : Nat) : Dev :=
  let r := (d.axis n).remote
  let old := d.axValue n
  let d1 := d.setRemote n (if r.holdover then r.toothHeld b d.ax0 d.elNs else r.tooth b)
  if r.holdover ∨ r.slewFine d.elNs ≠ 0 ∨ r.rev then d1 else d1.remoteMoved n old

/-- RX_TOOTH (12 R427, R428). -/
def rxToothEff (p : Nat) (sender : BitVec 10) (body : BitVec 448) (d : Dev) : Dev :=
  let f := sender.toNat
  let k := bits body 0 8
  if p ≥ 4 || !d.cwUp p || d.cwRefused p || decide (k ≥ 4) then d
  else (d.remoteAxes f k).foldl (fun e n => e.toothIn n body.toNat) (d.cwCast f k p { typ := 4, from_ := f, body := body.toNat })

/-- REMOTE_HOLDOVER (12 R429). -/
def remoteHoldoverEff (n : Nat) (d : Dev) : Dev :=
  let r := (d.axis n).remote
  if n ≠ 0 ∧ n < 16 ∧ d.axType n = 5 ∧ d.axOn n ∧ r.seen ∧ r.absent = false ∧ r.at_ + 4000 ≤ d.elNs then
    d.setRemote n { r with holdover := true }
  else d

/-- REMOTE_ABSENT (12 R429). -/
def remoteAbsentEff (n : Nat) (d : Dev) : Dev :=
  let r := (d.axis n).remote
  let quiet := match r.subnak with | some t => decide (t + 30000000 ≤ d.elNs) | none => true
  if n ≠ 0 ∧ n < 16 ∧ d.axType n = 5 ∧ d.axOn n ∧ r.absent = false ∧ quiet = true ∧
      r.at_ + max 1 (d.fld CW_TIMING.PUB_TIMEOUT_MS) * 1000000 ≤ d.elNs then
    let src := d.fld AX_CFG.SRC n
    (d.setRemote n { r with held := d.axValue n, slew := 0, absent := true }).raiseCw 4 (src / 4) 6 (src % 4) 0
  else d

/-! ### Forwarded records (12 R433 to R435) -/

/-- RX_REC (12 R433, R434): taken in order of its link sequence, and acknowledged. -/
def rxRecEff (p : Nat) (body : BitVec 320) (d : Dev) : Dev :=
  if p ≥ 4 || !d.cwUp p || d.cwRefused p || !d.cwOn then d
  else
    let x := d.cwp p
    let ok := bits body 0 16 == x.rxSeq
    let nx := if ok then (x.rxSeq + 1) % 65536 else x.rxSeq
    let d1 := (d.setCwp p { x with rxSeq := nx }).cwSend p { typ := 0x0B, from_ := d.did, body := (nx + 65535) % 65536 }
    if ok then (if d1.cwMaster then d1.recMaster body.toNat else d1.pushRec body.toNat) else d1

/-- RX_ACK (12 R434). -/
def rxAckEff (p : Nat) (seq : BitVec 16) (d : Dev) : Dev :=
  if p < 4 ∧ d.cwUp p then
    let x := d.cwp p
    let left := x.recs.filter (fun e => (seq.toNat + 65536 - e.1) % 65536 ≥ 32768)
    d.setCwp p { x with recs := left, recAt := x.recAt.filter (fun e => left.any (fun r => r.1 == e.1)) }
  else d

/-- A REC that was sent 10 µs ago is not acknowledged, and does not wait to be sent again (12 R434). -/
def CwPort.unacked (x : CwPort) (elNs : Nat) (e : Nat × Nat) : Bool :=
  x.recAt.any (fun t => t.1 == e.1 && decide (t.2 + 10000 ≤ elNs)) && !x.tx.any (fun f => f.typ == 0x0C && f.body == e.2)

/-- REC_RETRANSMIT (12 R434): the oldest such frame. -/
def recRetransmitEff (p : Nat) (d : Dev) : Dev :=
  match (d.cwp p).recs.find? (fun e => (d.cwp p).unacked d.elNs e) with
  | none => d
  | some e => if p < 4 ∧ d.cwUp p then (d.count CW_PCNT.RETX p).cwSend p { typ := 0x0C, from_ := d.did, body := e.2 } else d

/-- GAP_TIMEOUT (12 R435): the oldest gap of a DID. -/
def gapTimeoutEff (did : BitVec 10) (d : Dev) : Dev :=
  let o := did.toNat
  match get [] d.cw.gaps o with
  | [] => d
  | e :: t =>
    if d.cwMaster ∧ e.2 + 100000000 ≤ d.elNs then
      let gone := (e :: t).filter (fun x => x.2 == e.2)
      let d1 : Dev := { d with cw := { d.cw with gaps := set [] d.cw.gaps o ((e :: t).filter (fun x => x.2 != e.2)) } }
      (d1.count CW_FCNT.GAPS).raiseCw 8 o 0 0 gone.length
    else d

/-! ### Configuration tally (12 R437 to R441) -/

/-- The first eight bytes of the SHA-256 of some content (12 R437). -/
def digest8 (l : List Byte) : Nat := bits (sha256 l) 0 64

/-- The protection map as bytes (15 R518): the HM registers but HM_SEAL, HM_STATUS and HM_LOGKEY, and the SEAL fields of other
blocks, in the order of their addresses. -/
def Dev.mapBytes (d : Dev) : List Byte :=
  let hm := [(rowHM_FRIGHTS, 8), (rowHM_FQUAY, 8), (rowHM_FRES, 8), (rowHM_FENG, 8), (rowHM_FPIN, 8), (rowHM_FBERTH, 8), (rowHM_OWN, 20),
    (rowHM_ENG, 24), (rowHM_EKEY, 24), (rowHM_KEY, 8)].flatMap (fun r => d.imageBytes r.1 r.2)
  let others := [(rowSYS_FMASK, 1), (rowCK_REFSEL, 1), (rowAX0_DSRC, 1), (rowSL_STAGE, 1), (rowQY_CFG, 1), (rowME_DCFG, 26), (rowBH_SPARE, 1),
    (rowCW_ID, 1), (rowCW_PARENT, 1), (rowCW_TIMING, 1), (rowCW_PCFG, 4), (rowCW_ASYM, 4), (rowDR_CFG, 1)]
  hm ++ others.flatMap (fun r => (upto r.2).flatMap (fun i => bytesOf (d.imageOf r.1 i 0 (· == .sealed)) 4))

/-- The content of a class that the part digests (12 R437). -/
def Dev.classBytes (d : Dev) (c : Nat) : List Byte :=
  match c with
  | 0 => d.mapBytes
  | 1 => (upto 24).flatMap (fun n =>
      let p := d.meServ n
      bytesOf (if d.flag ME_IMAGE.ACT p then (d.eng p).digest.toNat else 0) 32)
  | 2 => (upto 32).flatMap (fun n => bytesOf (d.pne n).prog.toNat 128)
  | 3 => (upto 15).flatMap (fun n => bytesOf (d.image rowAX_CFG (n + 1)) 4 ++ bytesOf (d.image rowAX_PARA (n + 1)) 8) ++
      (upto 8).flatMap (fun n => [rowWT_CFG, rowWT_WHEEL, rowWT_ZERO, rowWT_WIN, rowWT_INTERP, rowWT_SYNC, rowWT_REV, rowWT_PH_CFG].flatMap
        (fun r => bytesOf (d.image r n) 4) ++ (upto 32).flatMap (fun i => bytesOf (d.image rowWT_PH_EDGE n i) 4))
  | 4 => d.imageBytes rowTIO_PIN 128
  | _ => []

/-- DIGEST_RECOMPUTE (12 R437); the PROTECTION digest stays that of the map as sealed (15 R523). -/
def digestRecomputeEff (c : Nat) (d : Dev) : Dev :=
  if c ≤ 4 ∧ ¬ (c = 0 ∧ d.sealed = true) then d.setFld CW_TLOCAL.DIGEST (digest8 (d.classBytes c)) c else d

/-- The RESULT of class c takes a value; a change raises TALLY_LOCAL (12 R439). -/
def Dev.setResult (d : Dev) (c r : Nat) : Dev :=
  if d.fld CW_TLOCAL.RESULT c = r then d else (d.setFld CW_TLOCAL.RESULT r c).raiseCw 6 d.did 0 0 (2 ^ c)

/-- Class c is compared with the expected values (12 R439). -/
def Dev.compareClass (d : Dev) (c : Nat) : Dev :=
  let le := d.fld CW_TLOCAL.EPOCH c
  let xe := d.fld CW_TEXP.EPOCH c
  let same := d.fld CW_TLOCAL.DIGEST c == d.fld CW_TEXP.DIGEST c
  let d1 := d.setResult c (if le = xe ∧ same = true then 1 else if le < xe then 2 else 3)
  { d1 with cw := { d1.cw with compared := put d1.cw.compared c 1 1 } }

/-- Classes with no TALLY in the round read NOT_COMPARED (12 R439). -/
def Dev.dropUncompared (d : Dev) : Dev :=
  (upto 16).foldl (fun e c => if bit e.cw.compared c then e else e.setResult c 0) d

/-- A round begins (12 R438, R440). -/
def Dev.roundBegin (d : Dev) (round : Nat) : Dev :=
  ({ d with cw := { d.cw with groups := [], devices := 0, roundAt := d.elNs, reported := false, compared := 0 } } : Dev).setFld CW_TROUND.ROUND round

/-- What a report of one class counts is added (12 R440). -/
def TallyGroup.add (a b : TallyGroup) : TallyGroup :=
  {
    stale := min (a.stale + b.stale) 0xFFFF, mism := min (a.mism + b.mism) 0xFFFF, lowStale := min a.lowStale b.lowStale,
    lowMism := min a.lowMism b.lowMism }

/-- Class c of the round counts more. -/
def Dev.addGroup (d : Dev) (c : Nat) (g : TallyGroup) : Dev :=
  { d with cw := { d.cw with groups := set {} d.cw.groups c ((get {} d.cw.groups c).add g) } }

/-- The device's own results are counted (12 R440). -/
def Dev.addOwn (d : Dev) : Dev :=
  let d1 := (upto 16).foldl (fun e c =>
    match e.fld CW_TLOCAL.RESULT c with
    | 2 => e.addGroup c { stale := 1, lowStale := e.did }
    | 3 => e.addGroup c { mism := 1, lowMism := e.did }
    | _ => e) d.dropUncompared
  { d1 with cw := { d1.cw with devices := min (d1.cw.devices + 1) 0xFFFF, reported := true } }

/-- A TALLY on every downstream port (12 R438). -/
def Dev.castTally (d : Dev) (body : Nat) : Dev :=
  ((upto 4).filter d.isDown).foldl (fun e p => e.cwSend p { typ := 9, from_ := e.did, body := body }) d

/-- RX_TALLY (12 R438, R439). -/
def rxTallyEff (p : Nat) (body : BitVec 160) (d : Dev) : Dev :=
  let c := bits body 0 8
  if p < 4 ∧ d.cwUp p ∧ d.cwRole = 3 ∧ d.upPort = some p ∧ c < 16 then
    let round := bits body 32 32
    let d1 := if d.fld CW_TROUND.ROUND = round ∧ d.cw.compared ≠ 0 then d else d.roundBegin round
    let d2 := ((d1.setFld CW_TEXP.EPOCH (bits body 64 32) c).setFld CW_TEXP.SET 1 c).setFld CW_TEXP.DIGEST (bits body 96 64) c
    (d2.compareClass c).castTally body.toNat
  else d

/-- The groups of a TREPORT body: 16 of 8 bytes from byte 8 on. -/
def groupOf (b c : Nat) : TallyGroup :=
  { stale := cut b (64 + 64 * c) 16, mism := cut b (80 + 64 * c) 16, lowStale := cut b (96 + 64 * c) 16, lowMism := cut b (112 + 64 * c) 16 }

/-- The TREPORT body of this device. -/
def Dev.reportBody (d : Dev) : Nat :=
  pack ([byt 0 4 (d.fld CW_TROUND.ROUND), byt 4 2 d.cw.devices] ++ (upto 16).flatMap (fun c =>
    let g := get {} d.cw.groups c
    [byt (8 + 8 * c) 2 g.stale, byt (10 + 8 * c) 2 g.mism, byt (12 + 8 * c) 2 g.lowStale, byt (14 + 8 * c) 2 g.lowMism]))

/-- RX_TREPORT (12 R440). -/
def rxTreportEff (p : Nat) (body : BitVec 1088) (d : Dev) : Dev :=
  let b := body.toNat
  if p < 4 ∧ d.cwUp p ∧ d.cwRefused p = false ∧ d.upPort ≠ some p ∧ cut b 0 32 = d.fld CW_TROUND.ROUND ∧ d.cw.reported = false then
    let d1 := (upto 16).foldl (fun e c => e.addGroup c (groupOf b c)) d
    { d1 with cw := { d1.cw with devices := min (d1.cw.devices + cut b 32 16) 0xFFFF } }
  else d

/-- TREPORT_WINDOW (12 R440). -/
def treportWindowEff (d : Dev) : Dev :=
  match d.upPort with
  | some p =>
    if d.cwRole = 3 ∧ d.cw.reported = false ∧ d.cw.roundAt + (10 - d.fld CW_TSTAT.HOPS) * 50000 ≤ d.elNs then
      let d1 := d.addOwn
      d1.cwSend p { typ := 0x0A, from_ := d1.did, body := d1.reportBody }
    else d
  | none => d

/-- The TALLY_SET values that were given before this ECLK cycle are in force (12 R441, R444). -/
def Dev.applySets (d : Dev) : Dev :=
  let now := d.cw.nextSet.filter (fun e => e.2.2.2 ≠ d.tb.eclk)
  let d1 := now.foldl (fun e x =>
    ((e.setFld CW_TEXP.EPOCH x.2.1 x.1).setFld CW_TEXP.SET 1 x.1).setFld CW_TEXP.DIGEST x.2.2.1 x.1) d
  { d1 with cw := { d1.cw with nextSet := d.cw.nextSet.filter (fun e => e.2.2.2 = d.tb.eclk) } }

/-- The TALLY body of class c (12 R438). -/
def Dev.tallyBody (d : Dev) (c : Nat) : Nat :=
  pack [byt 0 1 c, byt 4 4 (d.fld CW_TROUND.ROUND), byt 8 4 (d.fld CW_TEXP.EPOCH c), byt 12 8 (d.fld CW_TEXP.DIGEST c)]

/-- TALLY_ROUND_START (12 R438): the master compares its own state too. -/
def tallyRoundStartEff (d : Dev) : Dev :=
  if d.cwMaster ∧ d.cwDue 3 (1000000 * d.fld CW_TALLY.PERIOD_MS) then
    let d1 := (d.cwSent 3).applySets.roundBegin ((d.fld CW_TROUND.ROUND + 1) % 2 ^ 32)
    ((upto 16).filter (fun c => d1.flag CW_TEXP.SET c)).foldl (fun e c => (e.compareClass c).castTally (e.tallyBody c)) d1
  else d

/-- The result of class c at the master, as CW_TRESc holds it. -/
def Dev.resultOf (d : Dev) (c : Nat) : TallyGroup :=
  {
    stale := d.fld CW_TRES.STALE_CNT c, mism := d.fld CW_TRES.MISMATCH_CNT c, lowStale := d.fld CW_TRES.LOW_STALE c,
    lowMism := d.fld CW_TRES.LOW_MISMATCH c }

/-- TALLY_ROUND_CLOSE (12 R441). -/
def tallyRoundCloseEff (d : Dev) : Dev :=
  if d.cwMaster ∧ d.cw.reported = false ∧ d.cw.roundAt + 500000 ≤ d.elNs then
    let d1 := d.addOwn
    let differ := (upto 16).any (fun c => get {} d1.cw.groups c != d1.resultOf c)
    let d2 := (upto 16).foldl (fun e c =>
      let g := get {} e.cw.groups c
      (((e.setFld CW_TRES.STALE_CNT g.stale c).setFld CW_TRES.MISMATCH_CNT g.mism c).setFld CW_TRES.LOW_STALE g.lowStale c).setFld
        CW_TRES.LOW_MISMATCH g.lowMism c) d1
    let d3 := d2.setFld CW_TREPORT.REPORTING (min d2.cw.devices 2047)
    if differ then d3.raiseCw 5 d3.did 0 0 (d3.fld CW_TROUND.ROUND) else d3
  else d

/-! ### The rows -/

/-- PORT_LINK_EVENT -/
def execPortLinkEvent (p : Nat) (ev : LaneEvent) (s : State) : Host.Outcome State Fault Refusal := s.act (portLinkEventEff p ev)
/-- PORT_UP_TIMER -/
def execPortUpTimer (p : Nat) (s : State) : Host.Outcome State Fault Refusal := s.act (portUpTimerEff p)
/-- FRAME_TX -/
def execFrameTx (p : Nat) (s : State) : Host.Outcome State Fault Refusal := s.act (frameTxEff p)
/-- FRAME_DISCARD -/
def execFrameDiscard (p : Nat) (s : State) : Host.Outcome State Fault Refusal := s.act (frameDiscardEff p)
/-- SYNC_SEND -/
def execSyncSend (s : State) : Host.Outcome State Fault Refusal := s.act syncSendEff
/-- DREQ_SEND -/
def execDreqSend (p : Nat) (s : State) : Host.Outcome State Fault Refusal := s.act (dreqSendEff p)
/-- SNAP_SEND -/
def execSnapSend (k : Nat) (s : State) : Host.Outcome State Fault Refusal := s.act (snapSendEff k)
/-- SUBSCRIBE_SEND -/
def execSubscribeSend (n : Nat) (s : State) : Host.Outcome State Fault Refusal := s.act (subscribeSendEff n)
/-- ROUTE_SEND -/
def execRouteSend (s : State) : Host.Outcome State Fault Refusal := s.act routeSendEff
/-- RX_SYNC -/
def execRxSync (p : Nat) (frm : BitVec 10) (body : BitVec 384) (tc : Nat) (s : State) : Host.Outcome State Fault Refusal := s.act (rxSyncEff p frm body tc)
/-- RX_DREQ -/
def execRxDreq (p : Nat) (seq : BitVec 16) (t2 : Nat) (s : State) : Host.Outcome State Fault Refusal := s.act (rxDreqEff p seq t2)
/-- RX_DRESP -/
def execRxDresp (p : Nat) (body : BitVec 192) (t4 : Nat) (s : State) : Host.Outcome State Fault Refusal := s.act (rxDrespEff p body t4)
/-- RX_TOOTH -/
def execRxTooth (p : Nat) (frm : BitVec 10) (body : BitVec 448) (s : State) : Host.Outcome State Fault Refusal := s.act (rxToothEff p frm body)
/-- RX_SNAP -/
def execRxSnap (p : Nat) (frm : BitVec 10) (body : BitVec 256) (s : State) : Host.Outcome State Fault Refusal := s.act (rxSnapEff p frm body)
/-- RX_SUBSCRIBE -/
def execRxSubscribe (p : Nat) (body : BitVec 32) (s : State) : Host.Outcome State Fault Refusal := s.act (rxSubscribeEff p body)
/-- RX_SUBNAK -/
def execRxSubnak (p : Nat) (dst : BitVec 10) (body : BitVec 64) (s : State) : Host.Outcome State Fault Refusal := s.act (rxSubnakEff p dst body)
/-- RX_ROUTE -/
def execRxRoute (p : Nat) (frm : BitVec 10) (bitmap : BitVec 1024) (s : State) : Host.Outcome State Fault Refusal := s.act (rxRouteEff p frm bitmap)
/-- RX_TALLY -/
def execRxTally (p : Nat) (body : BitVec 160) (s : State) : Host.Outcome State Fault Refusal := s.act (rxTallyEff p body)
/-- RX_TREPORT -/
def execRxTreport (p : Nat) (body : BitVec 1088) (s : State) : Host.Outcome State Fault Refusal := s.act (rxTreportEff p body)
/-- RX_ACK -/
def execRxAck (p : Nat) (seq : BitVec 16) (s : State) : Host.Outcome State Fault Refusal := s.act (rxAckEff p seq)
/-- RX_REC -/
def execRxRec (p : Nat) (body : BitVec 320) (s : State) : Host.Outcome State Fault Refusal := s.act (rxRecEff p body)
/-- REC_RETRANSMIT -/
def execRecRetransmit (p : Nat) (s : State) : Host.Outcome State Fault Refusal := s.act (recRetransmitEff p)
/-- SERVO_INTERVAL -/
def execServoInterval (s : State) : Host.Outcome State Fault Refusal := s.actTime servoIntervalEff
/-- PARENT_LOSS_TIMEOUT -/
def execParentLossTimeout (s : State) : Host.Outcome State Fault Refusal := s.act parentLossTimeoutEff
/-- MASTER_LOSS_TIMEOUT -/
def execMasterLossTimeout (s : State) : Host.Outcome State Fault Refusal := s.act masterLossTimeoutEff
/-- CANDIDATE_TIMER -/
def execCandidateTimer (p : Nat) (s : State) : Host.Outcome State Fault Refusal := s.act (candidateTimerEff p)
/-- SUB_BIT_EXPIRE -/
def execSubBitExpire (i : Nat) (p : Nat) (s : State) : Host.Outcome State Fault Refusal := s.act (subBitExpireEff i p)
/-- ROUTE_EXPIRE -/
def execRouteExpire (p : Nat) (did : BitVec 10) (s : State) : Host.Outcome State Fault Refusal := s.act (routeExpireEff p did)
/-- GAP_TIMEOUT -/
def execGapTimeout (did : BitVec 10) (s : State) : Host.Outcome State Fault Refusal := s.act (gapTimeoutEff did)
/-- REMOTE_HOLDOVER -/
def execRemoteHoldover (n : Nat) (s : State) : Host.Outcome State Fault Refusal := s.act (remoteHoldoverEff n)
/-- REMOTE_ABSENT -/
def execRemoteAbsent (n : Nat) (s : State) : Host.Outcome State Fault Refusal := s.act (remoteAbsentEff n)
/-- TALLY_ROUND_START -/
def execTallyRoundStart (s : State) : Host.Outcome State Fault Refusal := s.act tallyRoundStartEff
/-- TREPORT_WINDOW -/
def execTreportWindow (s : State) : Host.Outcome State Fault Refusal := s.act treportWindowEff
/-- TALLY_ROUND_CLOSE -/
def execTallyRoundClose (s : State) : Host.Outcome State Fault Refusal := s.act tallyRoundCloseEff
/-- DIGEST_RECOMPUTE -/
def execDigestRecompute (c : Nat) (s : State) : Host.Outcome State Fault Refusal := s.act (digestRecomputeEff c)

end Sys2Proof.Machine
end

