-- ==== Sys2Proof/Machine/LogBase.lean ====
section
/-! DEFINITION. The harbour log's store, records, keel and clearing (14 R470 to R475, R480 to R493), and the scan of RESET (R495). -/

namespace Sys2Proof.Machine

open Sys2Proof

/-! ### The store (14 R470 to R472) -/

/-- The part with the log replaced. -/
def Dev.setLog (d : Dev) (l : Log) : Dev := { d with lg := l }

/-- The byte at a store address; an unwritten one is 0. -/
def Log.byte (l : Log) (a : Nat) : Byte := get 0 l.store a

/-- `n` bytes at a store address as a number. -/
def Log.num (l : Log) (a n : Nat) : Nat := ofBytes ((upto n).map (fun k => l.byte (a + k)))

/-- Bytes written to the store. -/
def Log.put (l : Log) (a : Nat) (bs : List Byte) : Log :=
  { l with store := (bs.zipIdx).foldl (fun s b => set 0 s (a + b.2) b.1) l.store }

/-- Units of the ring. -/
def ringUnits : Nat := 65344

/-- The store address of a unit. -/
def unitAddr (u : Nat) : Nat := 0x3000 + 64 * u

/-- HEAD. -/
def Dev.lgHead (d : Dev) : Nat := d.fld HL_PTR.HEAD

/-- TAIL. -/
def Dev.lgTail (d : Dev) : Nat := d.fld HL_PTR.TAIL

/-- FIRST_SEQ. -/
def Dev.lgFirst (d : Dev) : Nat := d.fld HL_SEQ.FIRST_SEQ

/-- LAST_SEQ. -/
def Dev.lgLast (d : Dev) : Nat := d.fld HL_SEQ.LAST_SEQ

/-- The records in the log. -/
def Dev.lgCount (d : Dev) : Nat := (d.lgLast + 1 + 2 ^ 32 - d.lgFirst) % 2 ^ 32

/-- The first good unit at or after one (14 R473): at most 240 are bad. -/
def goodFrom (bad : List Nat) (u : Nat) : Nat :=
  (((upto 241).map (fun k => (u + k) % ringUnits)).find? (fun x => !bad.contains x)).getD u

/-- `n` consecutive good units from one on. -/
def goodUnits (bad : List Nat) (u : Nat) : Nat → List Nat
  | 0 => []
  | n + 1 => goodFrom bad u :: goodUnits bad ((goodFrom bad u + 1) % ringUnits) n

/-- Units from HEAD to TAIL. -/
def Dev.lgSpan (d : Dev) : Nat :=
  let s := (d.lgTail + ringUnits - d.lgHead) % ringUnits
  if s = 0 ∧ d.lgCount ≠ 0 then ringUnits else s

/-- The free space: good units outside the span from HEAD to TAIL (14 R483). -/
def Dev.lgFree (d : Dev) : Nat :=
  let s := d.lgSpan
  let inside := (d.lg.bad.filter (fun u => (u + ringUnits - d.lgHead) % ringUnits < s)).length
  (ringUnits - d.lg.bad.length) - (s - inside)

/-- STATE is FAILED. -/
def Dev.lgFailed (d : Dev) : Bool := d.fld HL_STAT.STATE == 2

/-- STATE as it is read (14 R483, R489). -/
def Dev.lgState (d : Dev) : Nat :=
  if d.lgFailed then 2 else if d.flag HL_CFG.OVERWRITE = false ∧ d.lgFree ≤ 1024 then 1 else 0

/-- A number with a CRC-32 over its first `n` bytes put after them. -/
def withCrc (v n : Nat) : List Byte :=
  let bs := bytesOf v n
  bs ++ bytesOf (crc32 bs).toNat 4

/-- The header is updated in the copy with the older generation (14 R471). -/
def Dev.writeHeader (d : Dev) : Dev :=
  let l := d.lg
  let g := (l.hdrGen + 1) % 2 ^ 32
  let v := pack ([byt 0 4 d.lgFirst, byt 4 4 d.lgLast, byt 8 4 d.lgHead, byt 0xC 4 d.lgTail, byt 0x10 4 l.cseq, byt 0x14 1 l.authFails,
    byt 0x18 4 l.bad.length, byt 0x20 8 l.lockEnd, byt 0x7F8 4 g] ++ (l.bad.zipIdx).map (fun e => byt (0x400 + 4 * e.2) 4 e.1))
  d.setLog { l.put (if g % 2 = 1 then 0 else 0x800) (withCrc v 0x7FC) with hdrGen := g, sinceHdr := 0 }

/-! ### The keel (14 R490 to R492) -/

/-- One entry of a keel copy (14 R491). -/
def KeelEntry.bits (e : KeelEntry) : Nat :=
  pack [byt 0 1 e.kind, (8, 1, e.close.toNat), byt 4 4 e.seq, byt 8 8 e.at_, byt 16 4 e.unit, byt 32 32 e.body]

/-- The copy with the older KGEN is written, and LOGFAIL rises (14 R491 to R493). -/
def Dev.keelCopy (d : Dev) : Dev :=
  let l := d.lg
  let g := (l.keelGen + 1) % 2 ^ 32
  let v := pack ([byt 0 4 l.keel.length, byt 4 4 l.keelLost, byt 0xFF8 4 g] ++ (l.keel.zipIdx).map (fun e => byt (0x40 + 64 * e.2) 64 e.1.bits))
  let d1 := d.setLog { l.put (if g % 2 = 1 then 0x400000 else 0x401000) (withCrc v 0xFFC) with keelGen := g }
  let last := l.keel.getLast?
  let d2 := if l.keel.isEmpty ∧ l.keelLost = 0 then d1 else d1.setFld HL_STAT.LOGFAIL 1
  d2.raiseSys 0x7E1 [byt 16 1 ((last.map (fun e => e.kind)).getD 0), byt 17 1 l.keel.length, byt 18 4 ((last.map (fun e => e.seq)).getD 0),
    byt 22 3 ((last.map (fun e => e.unit)).getD 0), byt 25 1 d2.lgState]

/-- A keel write begins with the entries that wait; those beyond 62 only raise the count (14 R491). -/
def Dev.keelStart (d : Dev) : Dev :=
  let l := d.lg
  if l.keelBusy || l.keelNew.isEmpty then d
  else
    let all := l.keel ++ l.keelNew
    d.setLog { l with
      keel := all.take 62, keelLost := min (l.keelLost + (all.length - 62)) 0xFFFFFFFF, keelNew := [], keelBusy := true
      keelDone := d.elNs + 20480 }

/-- A keel entry is to be written (14 R490). -/
def Dev.keelAdd (d : Dev) (kind unit seq body : Nat) : Dev :=
  let l := d.lg
  (d.setLog { l with
    keelNew := l.keelNew ++ [{ kind := kind, close := l.closing, seq := seq, at_ := d.ns, unit := unit, body := body }]
    closeKeel := if l.closing ∧ kind = 4 then l.closeKeel + 1 else l.closeKeel }).keelStart

/-! ### Records (14 R473 to R475, R481) -/

/-- The header of a record (14 R473) but for the dropped triggers, which the next record that is written tells. -/
def Dev.recHead (d : Dev) (ltype units list src gen time span n : Nat) (gapped steady : Bool) : Nat :=
  pack [byt 0 1 ltype, (8, 1, gapped.toNat), (9, 1, d.lg.closing.toNat), (10, 1, steady.toNat), byt 2 1 units, byt 3 1 list, (32, 12, src),
    byt 6 2 gen, byt 8 8 time, byt 16 4 span, (160, 10, d.did), byt 24 4 n]

/-- A trigger is dropped (14 R479). -/
def Dev.dropSnap (d : Dev) : Dev :=
  (d.count HL_CNT.DROPPED).setLog { (d.count HL_CNT.DROPPED).lg with dropped := min (d.lg.dropped + 1) 0xFFFF }

/-- The entries of an ITEMS record. -/
def itemsOf (img : Nat) : List Nat := (upto (cut img 192 32)).map (fun k => cut img (256 + 256 * k) 256)

/-- A record cannot be kept in the ring (14 R481 to R483, R489, R490): a snapshot is dropped; entries or the record's header go to the
keel; LOG_MARK fails STATE, and a step or a clear follows the keel write. -/
def Dev.recToKeel (d : Dev) (r : LogRec) : Dev :=
  if r.cls = 3 then d.dropSnap
  else if r.ltype = 2 then (itemsOf r.img).foldl (fun e x => e.keelAdd 4 0 0 x) d
  else
    let d1 := d.keelAdd 3 0 0 (cut r.img 0 256)
    match r.act with
    | .mark c => d1.finish c 0x13
    | .nothing => d1
    | a => d1.setLog { d1.lg with keelActs := d1.lg.keelActs ++ [a] }

/-- Bytes in the write queue. -/
def Log.queued (l : Log) : Nat := 64 * (l.queue.map (fun r => r.units)).sum

/-- A record enters the write queue (14 R481). -/
def Dev.pushRecord (d : Dev) (r : LogRec) : Dev :=
  if d.lgFailed || decide (d.lg.queued + 64 * r.units > 32768) then d.recToKeel r
  else d.setLog { d.lg with queue := d.lg.queue ++ [r] }

/-- A record of one unit with some data (14 R475). -/
def Dev.pushSmall (d : Dev) (cls ltype : Nat) (data : List (Nat × Nat × Nat)) (act : LogAct := .nothing) : Dev :=
  d.pushRecord {
                 cls := cls, ltype := ltype, units := 1, act := act,
                 img := d.recHead ltype 1 0xFF 0 0 d.ns 0 0 false d.steady + pack data }

/-- FAILED is entered (14 R489): what waits goes to the keel or is dropped. -/
def Dev.lgFail (d : Dev) : Dev :=
  let q := d.lg.queue
  let d1 := (((d.setFld HL_STAT.STATE 2).setFld HL_STAT.LOGFAIL 1).keelAdd 2 0 0 0).setLog
    { (((d.setFld HL_STAT.STATE 2).setFld HL_STAT.LOGFAIL 1).keelAdd 2 0 0 0).lg with queue := [] }
  q.foldl Dev.recToKeel d1

/-- A unit is bad (14 R489). -/
def Dev.addBad (d : Dev) (u : Nat) : Dev :=
  if d.lg.bad.length ≥ 240 then d.lgFail
  else
    let d1 := (d.setLog { d.lg with bad := d.lg.bad ++ [u] }).setFld HL_STAT.BAD_UNITS (d.lg.bad.length + 1)
    d1.writeHeader.keelAdd 1 u ((d.lgLast + 1) % 2 ^ 32) 0

/-- The oldest record leaves the log (14 R483, R488): HEAD passes its units. -/
def Dev.releaseOne (d : Dev) : Dev :=
  let n := max 1 (d.lg.num (unitAddr (goodFrom d.lg.bad d.lgHead) + 2) 1)
  let us := goodUnits d.lg.bad d.lgHead n
  let next := goodFrom d.lg.bad ((us.getLastD d.lgHead + 1) % ringUnits)
  (d.setFld HL_PTR.HEAD next).setFld HL_SEQ.FIRST_SEQ ((d.lgFirst + 1) % 2 ^ 32)

/-- With OVERWRITE the oldest records make room for `n` units (14 R483). -/
def Dev.makeRoom (d : Dev) (n : Nat) : Nat → Dev
  | 0 => d
  | k + 1 => if n ≤ d.lgFree ∨ d.lgCount = 0 then d else (d.releaseOne.count HL_CNT.OVERWRITTEN).makeRoom n k

/-- `n` units turn bad under the record that is to be written (14 R489). -/
def Dev.badUnits (d : Dev) : Nat → Dev
  | 0 => d
  | n + 1 => if d.lgFailed then d else (d.addBad (goodFrom d.lg.bad d.lgTail)).badUnits n

/-- The record that is written next: the first of the lowest class (14 R481). -/
def Log.next (l : Log) : Option LogRec := [1, 2, 3].findSome? (fun c => l.queue.find? (fun r => r.cls == c))

/-- A record begins to be written: everything but its valid mark (14 R474, R481, R483, R489). It tells the triggers dropped since the
previous one (R473, R479). -/
def Dev.recStart (d : Dev) (bad : Nat) : Dev :=
  match d.lg.writing, d.lg.next with
  | none, some r0 =>
    let d1 := d.setLog { d.lg with queue := d.lg.queue.erase r0 }
    let r := { r0 with img := put r0.img 9 1 d.lg.closing.toNat }
    let d2 := if d1.lgFailed then d1 else d1.badUnits bad
    let need := r.units + (if r.ltype = 5 then 0 else 1)
    let d3 := if d2.flag HL_CFG.OVERWRITE then d2.makeRoom need 2000 else d2
    if d3.lgFailed || decide (d3.lgFree < need) || (r.cls == 3 && d3.lgState == 1) then d3.recToKeel r
    else
      let us := goodUnits d3.lg.bad d3.lgTail r.units
      let seq := (d3.lgLast + 1) % 2 ^ 32
      let w := { r with img := put r.img 176 16 (min d3.lg.dropped 0xFFFF) }
      let bs := bytesOf w.img (64 * r.units - 8)
      let l := (us.zipIdx).foldl (fun l u => l.put (unitAddr u.1) ((bs.drop (64 * u.2)).take 64)) d3.lg
      d3.setLog { l with writing := some { item := w, seq := seq, units := us, done := d.elNs + 320 * r.units }, dropped := 0 }
  | _, _ => d

/-! ### What a durable record brings about (02 R45, 14 R482, R488) -/

/-- The STEP record of the STEP_TIME in turn is composed (02 R44, R45, 14 R475). -/
def Dev.composeStep (d : Dev) : Dev :=
  match d.lg.steps with
  | [] => d
  | r0 :: t =>
    let v := d.stepValue r0
    let r := { r0 with old := d.ax0, new := v }
    (d.setLog { d.lg with steps := r :: t }).pushSmall 1 3
      [byt 32 8 (d.ax0 / 2 ^ 48), byt 40 2 (d.ax0 / 2 ^ 32 % 65536), byt 42 1 r.cmd.fn, (344, 1, r.force.toNat), (345, 1, r.rel.toNat),
       byt 44 8 (v / 2 ^ 48), byt 52 2 (v / 2 ^ 32 % 65536), byt 54 1 ((d.fld AX0_STATUS.STEP_COUNT + 1) % 256)] (.step r)

/-- A STEP_TIME is accepted; it waits for the ones before it (02 R44). -/
def Dev.stepAccept (d : Dev) (r : StepReq) : Dev :=
  let d1 := d.setLog { d.lg with steps := d.lg.steps ++ [r] }
  if d.lg.steps.isEmpty then d1.composeStep else d1

/-- Records up to CLEAR_TO leave the log. -/
def Dev.releaseTo (d : Dev) (upTo : Nat) : Nat → Dev
  | 0 => d
  | k + 1 => if d.lgCount = 0 ∨ (upTo + 2 ^ 32 - d.lgFirst) % 2 ^ 32 ≥ 2 ^ 31 then d else d.releaseOne.releaseTo upTo k

/-- Steps 2 to 5 of 14 R488; `seq` is that of the CLEARED record, where it has one. Losses that arrived during a keel write go into the
next one (R491). -/
def Dev.clearLog (d : Dev) (c : Cmd) (upTo : Nat) (seq : Option Nat) : Dev :=
  let d1 := d.releaseTo upTo d.lgCount
  let d2 := if d1.lgFailed then d1
    else ((d1.setLog { d1.lg with keel := [], keelLost := 0 }).keelCopy.keelCopy).setFld HL_STAT.LOGFAIL 0
  let d3 := (d2.setLog { d2.lg with authFails := 0, lockEnd := 0 }).writeHeader
  match seq with
  | some s => d3.finish c 0 [byt 22 4 s]
  | none => d3.nextFree.finish c 0 [byt 22 4 (Config.freeValue d3.freeCtr)]

/-- What follows when a record is durable, or its keel entry where the ring could not keep it. -/
def Dev.logAct (d : Dev) (a : LogAct) (seq : Option Nat) : Dev :=
  match a with
  | .nothing => d
  | .step r =>
    let d1 := d.stepApply r
    (d1.setLog { d1.lg with steps := d1.lg.steps.tail }).composeStep
  | .mark c => match seq with | some s => d.finish c 0 [byt 22 4 s] | none => d.finish c 0x13
  | .clear c upTo => d.clearLog c upTo seq

/-- The record being written gets its valid mark, and LOG_RECORD rises (14 R474, R493); the header follows after 64 records (R471). -/
def Dev.recMark (d : Dev) : Dev :=
  match d.lg.writing with
  | none => d
  | some w =>
    let r := w.item
    let n := 64 * r.units
    let bs := bytesOf r.img (n - 8) ++ bytesOf w.seq 4
    let mark := bytesOf w.seq 4 ++ bytesOf (crc32 bs).toNat 4
    let last := w.units.getLastD 0
    let d1 := d.setLog { d.lg.put (unitAddr last + 56) mark with
      writing := none, sinceHdr := d.lg.sinceHdr + 1, orderly := r.ltype == 8
      closeEntries := if d.lg.closing ∧ r.ltype = 2 then d.lg.closeEntries + cut r.img 192 32 else d.lg.closeEntries
      lastClose := if r.ltype = 8 then w.seq else d.lg.lastClose }
    let d2 := if d.lgCount = 0 then d1.setFld HL_PTR.HEAD (w.units.headD 0) else d1
    let d3 := (d2.setFld HL_SEQ.LAST_SEQ w.seq).setFld HL_PTR.TAIL (goodFrom d.lg.bad ((last + 1) % ringUnits))
    let d4 := if d3.lg.sinceHdr ≥ 64 then d3.writeHeader else d3
    d4.raiseSys 0x7E2 [byt 16 4 w.seq, byt 20 1 r.ltype, byt 21 1 (cut r.img 24 8), byt 22 2 (cut r.img 32 12), byt 24 3 (w.units.headD 0),
      byt 27 1 r.units]

/-- The record being written is durable. -/
def Dev.recDurable (d : Dev) : Dev :=
  match d.lg.writing with
  | none => d
  | some w => d.recMark.logAct w.item.act (some w.seq)

/-- LOG_RECORD_DURABLE (14 R474), once every word has been written and verified: 320 ns a unit (R472). -/
def logRecordDurableEff (d : Dev) : Dev :=
  if d.lg.writing.any (fun w => decide (w.done ≤ d.elNs)) then d.recDurable else d

/-- LOG_RECORD_START (14 R481): so many units turn out bad under it. -/
def logRecordStartEff (bad : Nat) (d : Dev) : Dev := d.recStart bad

/-- A keel write ends, 20.48 µs after it began (14 R491, R492). -/
def keelWriteDoneEff (d : Dev) : Dev :=
  if d.lg.keelBusy ∧ d.lg.keelDone ≤ d.elNs then
    let acts := d.lg.keelActs
    let d1 := (d.setLog { d.lg with keelBusy := false, keelActs := [] }).keelCopy.keelStart
    acts.foldl (fun e a => e.logAct a none) d1
  else d

/-! ### Packing entries (14 R480) -/

/-- The oldest entry and those generated within 1 µs of it, up to 30. -/
def Log.window (l : Log) : List (Nat × Record) := (l.pack.takeWhile (fun e => e.1 ≤ (l.pack.headD (0, 0)).1 + 1000)).take 30

/-- An ITEMS record of the oldest entries. -/
def Dev.packItems (d : Dev) : Dev :=
  let es := d.lg.window
  if es.isEmpty then d
  else
    let n := es.length
    let units := ceilDiv (40 + 32 * n) 64
    let d1 := d.setLog { d.lg with pack := d.lg.pack.drop n }
    d1.pushRecord {
      cls := 2, ltype := 2, units := units
      img := d1.recHead 2 units 0xFF 0 0 d1.ns 0 n false d1.steady + pack ((es.zipIdx).map (fun e => byt (32 + 32 * e.2) 32 e.1.2.toNat)) }

/-- The packing window ends: 1 µs after its first entry, or when it is full (14 R480). -/
def Dev.windowEnds (d : Dev) : Bool := decide ((d.lg.pack.headD (0, 0)).1 + 1000 ≤ d.elNs) || d.lg.window.length == 30

/-- ITEMS_PACK_CLOSE (14 R480); entries of RESET wait for the POWERUP record (R495). -/
def itemsPackCloseEff (d : Dev) : Dev := if d.sealed ∧ d.windowEnds = true then d.packItems else d

/-! ### Clearing (14 R485 to R487) -/

/-- The RESULT of a challenge, bytes 0 to 31 (14 R485). -/
def Dev.challengeBits (d : Dev) (c : Challenge) : Nat :=
  pack [byt 0 16 c.nonce, byt 16 4 c.cseq, byt 20 4 c.clearTo, byt 24 4 c.first, byt 28 2 d.did, byt 30 1 c.fn]

/-- The part may challenge: a log key is provisioned and no lockout runs (14 R485). -/
def Dev.canChallenge (d : Dev) : Bool := d.flag HM_STATUS.LOGKEY_SET && !d.flag HL_STAT.LOCKOUT

/-- A challenge for function f is drawn, in place of one that is outstanding (14 R485). -/
def Dev.challengeFor (d : Dev) (f : Nat) : Dev :=
  let s := (d.lg.cseq + 1) % 2 ^ 32
  let ch : Challenge := { fn := f, nonce := Config.freeValue d.freeCtr % 2 ^ 128, cseq := s, clearTo := d.lgLast, first := d.lgFirst, at_ := d.elNs }
  (d.nextFree.setLog { d.lg with cseq := s, challenge := some ch }).setFld HL_STAT.CHALLENGE 1

/-- CHAL_S, s. -/
def Dev.chalS (d : Dev) : Nat := max 1 (d.fld HL_CFG.CHAL_S)

/-- More than CHAL_S have passed since a challenge. -/
def Dev.challengeOld (d : Dev) (c : Challenge) : Bool := decide (c.at_ + d.chalS * 1000000000 < d.elNs)

/-- No challenge is outstanding. -/
def Dev.endChallenge (d : Dev) : Dev := (d.setLog { d.lg with challenge := none }).setFld HL_STAT.CHALLENGE 0

/-- An AUTH failure (14 R487). -/
def Dev.authFail (d : Dev) (c : Cmd) (cseq : Nat) : Dev :=
  let n := min (d.lg.authFails + 1) 255
  let d1 := d.setLog { d.lg with authFails := n }
  let d2 := if n ≥ 4 then
      (d1.setLog { d1.lg with lockEnd := (d1.ns + 60000000000) % 2 ^ 64, lockUntil := d1.elNs + 60000000000 }).setFld HL_STAT.LOCKOUT 1
    else d1
  ((d2.pushSmall 1 6 [byt 32 4 cseq, byt 36 1 c.fn, byt 37 1 n]).writeHeader).finish c 0x18

/-- LOG_CLEAR with OPT = 1 after its DENIED check (14 R486, R488): the challenge is used up. -/
def Dev.logRespond (d : Dev) (c : Cmd) : Dev :=
  let d1 := d.endChallenge
  match d.lg.challenge with
  | none => d1.finish c 0x13
  | some ch =>
    if ch.fn ≠ c.fn ∨ ch.cseq ≠ bits c.w 192 32 ∨ d.challengeOld ch = true then d1.finish c 0x13
    else
      let mac := hmacSha256 d.boot.logKey (bytesOf (d.challengeBits ch) 32)
      if bits mac 0 128 ≠ bits c.w 64 128 then d1.authFail c ch.cseq
      else
        let gone := (ch.clearTo + 1 + 2 ^ 32 - d.lgFirst) % 2 ^ 32
        d1.pushSmall 1 5 [byt 32 4 ch.clearTo, byt 36 4 d.lgFirst, byt 40 4 ch.cseq, byt 44 1 c.fn, (360, 1, (!d.lgFailed).toNat),
          byt 48 4 gone] (.clear c ch.clearTo)

/-- LOG_MARK (14 R482). -/
def Dev.logMark (d : Dev) (c : Cmd) : Dev :=
  d.pushSmall 1 4 [byt 32 16 (bits c.w 64 128), byt 48 1 c.fn, byt 49 1 c.ring, byt 50 4 c.tag] (.mark c)

/-- CHALLENGE_EXPIRE (14 R486). -/
def challengeExpireEff (d : Dev) : Dev :=
  match d.lg.challenge with
  | some c => if d.challengeOld c then d.endChallenge else d
  | none => d

/-- LOCKOUT_END (14 R487). -/
def lockoutEndEff (d : Dev) : Dev :=
  if d.flag HL_STAT.LOCKOUT ∧ d.lg.lockUntil ≤ d.elNs then d.setFld HL_STAT.LOCKOUT 0 else d

/-! ### RESET (14 R487, R492, R495) -/

/-- A keel entry as a copy holds it (14 R491). -/
def keelEntryAt (l : Log) (a : Nat) : KeelEntry :=
  {
    kind := l.num a 1, close := bit (l.num (a + 1) 1) 0, seq := l.num (a + 4) 4, at_ := l.num (a + 8) 8, unit := l.num (a + 16) 4,
    body := l.num (a + 32) 32 }

/-- What the log knows after its scan (14 R495): the header's fields from its newer copy, the last record that is whole (each one that
the part has marked valid is), the units of a record cut off, and the keel's newer copy. A store that holds no header yet gives an
empty log whose first record will be SEQ 1. -/
def Dev.logScan (d : Dev) (last tail : Nat) : Dev :=
  let l := d.lg
  let h := if l.hdrGen % 2 = 1 then 0 else 0x800
  let k := if l.keelGen % 2 = 1 then 0x400000 else 0x401000
  let some_ := decide (l.hdrGen ≠ 0)
  let n := if some_ then l.num (h + 0x18) 4 else 0
  let used := if l.keelGen = 0 then 0 else l.num k 4
  let lost := if l.keelGen = 0 then 0 else l.num (k + 4) 4
  let new : Log := {
    store := l.store, hdrGen := l.hdrGen, keelGen := l.keelGen, lastClose := l.lastClose, orderly := l.orderly
    torn := match l.writing with | some w => w.units.length | none => 0
    cseq := if some_ then l.num (h + 0x10) 4 else 0
    authFails := if some_ then l.num (h + 0x14) 1 else 0
    lockEnd := if some_ then l.num (h + 0x20) 8 else 0
    bad := (upto n).map (fun e => l.num (h + 0x400 + 4 * e) 4)
    keel := (upto used).map (fun e => keelEntryAt l (k + 0x40 + 64 * e))
    keelLost := lost }
  let first := if some_ then l.num h 4 else 1
  let d1 := ((((d.setLog new).setFld HL_SEQ.FIRST_SEQ first).setFld HL_SEQ.LAST_SEQ last).setFld HL_PTR.HEAD
    (if some_ then l.num (h + 8) 4 else 0)).setFld HL_PTR.TAIL tail
  ((d1.setFld HL_STAT.BAD_UNITS n).setFlag HL_STAT.LOGFAIL (used ≠ 0 || lost ≠ 0)).setFlag HL_STAT.LOCKOUT false

/-- The lockout is resumed at HM_SEAL (14 R487). -/
def Dev.resumeLock (d : Dev) : Dev :=
  let e := d.lg.lockEnd
  let left := if e = 0 then 0 else if d.fld AX0_STATUS.STATE = 3 then 60000000000 else min (e - d.ns) 60000000000
  if left = 0 then d else (d.setLog { d.lg with lockUntil := d.elNs + left }).setFld HL_STAT.LOCKOUT 1

/-- The POWERUP record at HM_SEAL (14 R475, R495). -/
def Dev.logPowerup (d : Dev) : Dev :=
  let l := d.lg
  d.pushSmall 2 7 [byt 32 8 d.boot.ax0, byt 40 4 d.boot.unc, byt 44 1 (d.fld SYS_RSTCAUSE.CAUSE), (360, 1, l.orderly.toNat),
    (361, 1, if d.fld AX0_STATUS.STATE = 3 then 1 else 0), byt 46 2 l.torn, byt 48 4 l.lastClose]

end Sys2Proof.Machine
end

