-- ==== Sys2Proof/Machine/Read.lean ====
section
/-! DEFINITION. Reading: the results of READ_STATE (09 R315), the register fields that are computed when they are read, and a register
at an offset (17 R559 to R562). -/

namespace Sys2Proof.Machine

open Sys2Proof

/-! ### READ_STATE (09 R315) -/

/-- The class 1 result of axis n (09 R315, 02 R49); the remaining correction is rounded down to 2^-16 ns (DESIGN CHOICE, log 69). -/
def Dev.axBytes (d : Dev) (n : Nat) : Nat :=
  if n = 0 then
    pack [byt 0 8 d.ns, byt 8 2 d.frac16, byt 10 1 (d.fld AX0_STATUS.STATE), byt 11 1 (d.fld AX0_STATUS.STEP_COUNT), byt 12 4 d.unc,
      byt 16 8 (ofS 64 (d.rem / 2 ^ 32)), byt 24 8 (ofS 64 d.rate)]
  else
    pack [byt 0 8 (d.axValue n), (64, 2, d.axQuality n), (66, 1, (d.axReverse n).toNat),
      byt 10 2 (if d.axType n = 1 then ofS 16 (d.axDerived n) else 0), byt 12 4 (d.axis n).backlog]

/-- The class 3 result of pin engine n. -/
def Dev.pnBytes (d : Dev) (n : Nat) : Nat :=
  let e := d.pne n
  pack [byt 0 4 (d.image rowPN_STATUS n), byt 4 4 e.wa.toNat, byt 8 4 e.wb.toNat, byt 12 4 e.sr.toNat, byt 16 2 e.cnt.toNat]

/-- The 64 bytes of a class and index; none where R315 names no such result. -/
def Dev.stateBytes (d : Dev) (cls i : Nat) : Option Nat :=
  match cls with
  | 0 => if i < 512 then some (d.chBytes i) else none
  | 1 => if i < 16 then some (d.axBytes i) else none
  | 2 => if i < 8 then some (d.wtBytes i) else none
  | 3 => if i < 32 then some (d.pnBytes i) else none
  | 4 => if i < 32 then some (d.ltBytes i) else none
  | 5 => if i < 32 then some (d.berthState i) else none
  | _ => none

/-! ### Fields computed when they are read -/

/-- SLOTS_USED of physical quay p (04 R113, R150): a mirroring quay holds the edges committed since it has copied the channels (R147). -/
def Dev.physSlots (d : Dev) (p : Nat) : Nat :=
  let q := d.fld QY_STATUS.LOGICAL p
  match d.role p with
  | 0 => d.slotsUsed q
  | 2 =>
    if d.mirrored q then
      ((d.quay q).edges.filter (fun e => e.mir && !e.own && e.item.mode != 3)).length +
        ((d.trainSlots q).filter (fun x => (d.quay q).edges.all (fun e => e.mir || e.ch != x.1 || e.item.gen != x.2))).length
    else 0
  | _ => 0

/-- The largest round trip or posted-write time of the last 1 ms (09 R327). -/
def recentMax (l : List (Nat × Nat)) (now old : Nat) : Nat :=
  match l.filter (fun e => now < e.1 + 1000000) with
  | [] => old
  | r => min (r.foldl (fun a e => max a e.2) 0) 0xFFFF

/-- The bytes of HL_WIN from BASE on (14 R484); the layout of the repair map in its part of the store is not stated. -/
def Dev.winWord (d : Dev) (k : Nat) : Nat :=
  let a := 256 * d.fld HL_WINBASE.BASE
  if 0x1000 ≤ a ∧ a < 0x3000 then Config.freeValue d.freeCtr else d.lg.num (a + 8 * k) 8

/-- The part with the computed fields of a register put in place, as a read sees it. -/
def Dev.seenAs (d : Dev) (row : RegRow) (i : Nat) : Dev :=
  match row.base with
  | 0x30 =>
    ((d.setFld SYS_REPAIR.SPARE_QUAYS d.spareQuays.length).setFld SYS_REPAIR.RELIEF_FREE
      (((upto 26).filter (fun p => d.fld ME_STATUS.ROLE p == 1)).length)).setFld SYS_REPAIR.SPARE_BERTHS (popcount (d.fld BH_SPARE.SPARE) 32)
  | 0x68 =>
    let t := Config.freeValue d.freeCtr % 1024
    (d.setFld SYS_TEMP.TEMP t).setFlag SYS_TEMP.HOT (decide (toS 10 t > 600))
  | 0x2008 =>
    if d.flag CK_STAT.IN_OK ∧ d.flag CK_STAT.REC_OK then d.setFld CK_STAT.REF_OFS (Config.freeValue d.freeCtr) else d
  | 0x4010 =>
    let f := d.func i
    (((d.setFlag HI_FSTAT.BME f.bme i).setFlag HI_FSTAT.D3 f.d3 i).setFlag HI_FSTAT.ASLEEP (d.asleep i) i).setFlag HI_FSTAT.WAKE_PEND f.wakePend i
  | 0x4200 => d.setFlag HI_LINK.L1 d.hi.l1
  | 0x4208 => d.setFld HI_LINK_RTT.RTT_MAX (recentMax d.hi.rtts d.ecNs (d.fld HI_LINK_RTT.RTT_MAX))
  | 0x4210 => d.setFld HI_LINK_WR.WR_MAX (recentMax d.hi.wrts d.ecNs (d.fld HI_LINK_WR.WR_MAX))
  | 0x5008 => d.setFld CQ_CFG.FUNC ((d.owner i).getD 0) i
  | 0x8218 => d.setFlag AX0_STATUS.SLEWING (d.rem != 0)
  | 0x8220 => d.setFld AX0_UNC.UNC d.unc
  | 0xA010 =>
    ((d.setFld SL_STAT.STAGED d.stagedTotal).setFld SL_STAT.ITEMS d.sl.items.length).setFlag SL_STAT.STAGE_FULL
      (decide (d.stagedTotal ≥ d.stageCap))
  | 0xA100 => if (d.grp i).running then d.setFld SL_GRP.RESIDUAL (ceilDiv ((d.grp i).until_ - d.ecNs) 256) i else d
  | 0xF008 => d.setFld HQ_CFG.FUNC ((d.owner (64 + i)).getD 0) i
  | 0xF020 =>
    ((d.setFlag HQ_STAT.FULL (d.hqFull i) i).setFld HQ_STAT.PHASE (if d.fld HQ_STAT.QSTATE i = 0 then 0 else d.hqPhase i) i).setFld HQ_STAT.STAGED (recCount (d.hq i).staged) i
  | 0x10008 => d.setFld QY_STATUS.SLOTS_USED (d.physSlots i) i
  | 0x20000 => d.setFld ME_STATUS.DEPTH (d.eng i).frames.length i
  | 0x20008 => d.setFld ME_PC.PC (d.eng i).pc i
  | 0x20108 =>
    let e := d.eng i
    (((d.setFld ME_DSTAT.CUR_SRC ((e.top.src.map (fun s => s.1)).getD 0) i).setFlag ME_DSTAT.BASE
      (!e.frames.isEmpty && e.top.src.isNone) i).setFld ME_DSTAT.CUR_FRAME (e.frames.length - 1) i).setFld ME_DSTAT.ACTIVE (min e.active.length 0xFF) i
  | 0x3C010 => (d.setFld PN_FIFO.TX_LVL (d.pne i).tx.length i).setFld PN_FIFO.RX_LVL (d.pne i).rx.length i
  | 0x3D200 => (d.setFlag TIO_STAT.LEVEL (d.pin i).filt i).setFlag TIO_STAT.DRIVEN (d.pinDriven i) i
  | 0x3E008 =>
    ((d.setFld LT_STAT.LSTATE (d.ltSeen i) i).setFld LT_STAT.FUNC ((d.owner (128 + i)).getD 0) i).setFld LT_STAT.HELD (d.ltHeld i) i
  | 0x40108 => d.setFlag CW_PSTAT.USABLE (d.cwUsable i) i
  | 0x40810 => if d.cwRole = 3 then d.setFld CW_TREPORT.REPORTING 0 else d
  | 0x40B00 =>
    if d.cwRole = 3 then
      (((d.setFld CW_TRES.STALE_CNT 0 i).setFld CW_TRES.MISMATCH_CNT 0 i).setFld CW_TRES.LOW_STALE 0 i).setFld CW_TRES.LOW_MISMATCH 0 i
    else d
  | 0x44008 => (d.setFld HL_STAT.STATE d.lgState).setFld HL_STAT.KEEL_USED d.lg.keel.length
  | 0x44400 => d.setFld HL_WIN.DATA (d.winWord i) i
  | _ => d

/-- How many free values a read of a register uses. -/
def RegRow.free (row : RegRow) : Nat := if row.base = 0x68 ∨ row.base = 0x2008 ∨ row.base = 0x44400 then 1 else 0

/-- The value of a register as a read sees it. -/
def Dev.regValue (d : Dev) (row : RegRow) (i j : Nat) : Nat := (d.seenAs row i).imageOf row i j (fun a => a != .wo)

/-! ### Offsets (17 R559 to R562) -/

/-- Where an offset lies in a register: the instance numbers and the byte within it. -/
def RegRow.locate (r : RegRow) (off : Nat) : Option (Nat × Nat × Nat) :=
  let k := off - r.base
  let i := if r.stride = 0 then 0 else k / r.stride
  let k1 := k - i * r.stride
  let j := if r.stride2 = 0 then 0 else k1 / r.stride2
  let k2 := k1 - j * r.stride2
  if r.base ≤ off ∧ i < r.count ∧ j < r.count2 ∧ k2 < r.width / 8 then some (i, j, k2) else none

/-- The register that an offset lies in. -/
def regAt (off : Nat) : Option (RegRow × Nat × Nat × Nat) :=
  (rowsAt off).findSome? (fun r => (r.locate off).map (fun x => (r, x.1, x.2.1, x.2.2)))

/-- A 32-bit word at a 4-aligned offset, 0 where no register is. -/
def Dev.word32 (d : Dev) (off : Nat) : Nat :=
  match regAt off with
  | some (r, i, j, k) => cut (d.regValue r i j) (8 * k) 32
  | none => 0

/-- `size` bytes, 4 or 8, at an offset (17 R560, R561). -/
def Dev.readBar (d : Dev) (off size : Nat) : Nat := d.word32 off + (if size = 8 then d.word32 (off + 4) * 2 ^ 32 else 0)

end Sys2Proof.Machine
end

