-- ==== Sys2Proof/Machine/Log.lean ====
section
/-! DEFINITION. The harbour log's snapshots (14 R476 to R479) and the meanings of its rows. -/

namespace Sys2Proof.Machine

open Sys2Proof

/-! ### Snapshot lists (14 R476, R498) -/

/-- KIND of entry e of list l. -/
def Dev.lsKind (d : Dev) (l e : Nat) : Nat := d.fld HL_LIST.KIND l e

/-- SEL of entry e of list l. -/
def Dev.lsSel (d : Dev) (l e : Nat) : Nat := d.fld HL_LIST.SEL l e

/-- The bytes that an entry of a kind adds; none for a reserved kind. -/
def entryBytes (kind : Nat) : Option Nat :=
  match kind with
  | 0 => some 0
  | 1 => some 32
  | 2 => some 4
  | 3 => some 8
  | 4 => some 64
  | 5 => some 16
  | 6 => some 32
  | 7 => some 8
  | 8 => some 32
  | _ => none

/-- The selector holds no bit outside those that its kind names. -/
def entrySelOk (kind sel : Nat) : Bool :=
  match kind with
  | 2 => sel < 2 ^ 20
  | 3 => sel < 2 ^ 20
  | 4 => sel < 2 ^ 9
  | 5 => sel < 2 ^ 4
  | 6 => sel < 2 ^ 3
  | 7 => sel < 2 ^ 21 && sel % 8 == 0
  | _ => sel == 0

/-- The entries of list l within LEN, as (KIND, selector). -/
def Dev.lsEntries (d : Dev) (l : Nat) : List (Nat × Nat) :=
  (upto (min (d.fld HL_LCFG.LEN l) 64)).map (fun e => (d.lsKind l e, d.lsSel l e))

/-- The entries that are sampled: those before an END. -/
def Dev.lsLive (d : Dev) (l : Nat) : List (Nat × Nat) := (d.lsEntries l).takeWhile (fun e => e.1 != 0)

/-- The data bytes of list l. -/
def Dev.lsBytes (d : Dev) (l : Nat) : Nat := ((d.lsLive l).map (fun e => (entryBytes e.1).getD 0)).sum

/-- BYTES of list l follows its entries; a sum that its ten bits cannot hold leaves it a free value. -/
def Dev.lsCount (d : Dev) (l : Nat) : Dev :=
  if d.lsBytes l < 1024 then d.setFld HL_LCFG.BYTES (d.lsBytes l) l
  else d.nextFree.setFld HL_LCFG.BYTES (Config.freeValue d.freeCtr) l

/-- HL_LCFG of list l takes a value (14 R498). -/
def Dev.writeLcfg (d : Dev) (l v : Nat) : Dev :=
  let d1 := d.setFld HL_LCFG.HOLD_US (cut v 32 16) l
  let d2 := if d.flag HL_LCFG.EN l then d1 else (d1.setFld HL_LCFG.LEN (cut v 0 7) l).lsCount l
  if bit v 7 then
    if (d2.lsEntries l).any (fun e => (entryBytes e.1).isNone || !entrySelOk e.1 e.2) || decide (d2.lsBytes l > 984) then
      d2.setFld HL_LCFG.ERR 1 l
    else (d2.setFld HL_LCFG.EN 1 l).setFld HL_LCFG.ERR 0 l
  else d2.setFld HL_LCFG.EN 0 l

/-- Entry e of list l takes a value, while EN is 0. -/
def Dev.writeList (d : Dev) (l e v : Nat) : Dev :=
  if d.flag HL_LCFG.EN l then d
  else ((d.setFld HL_LIST.SEL (cut v 0 28) l e).setFld HL_LIST.KIND (cut v 28 4) l e).lsCount l

/-! ### Triggers (14 R477 to R479) -/

/-- A trigger joins those that wait: of one ECLK cycle the lower source number first, behind the one being sampled (14 R477, R497). -/
def Log.insTrigger (l : Log) (t : Trigger) : List Trigger :=
  let (a, b) := l.sampler.span (fun x => !(x.eclk == t.eclk && t.src < x.src))
  a ++ t :: b

/-- A source triggers list l (14 R479). -/
def Dev.trigger (d : Dev) (l src : Nat) (ev : Record) : Dev :=
  let soon : Bool := match d.lg.lastSnap.find? (fun e => e.1 == l) with
    | some e => decide (d.elNs < e.2 + 1000 * d.fld HL_LCFG.HOLD_US l)
    | none => false
  if !d.flag HL_LCFG.EN l || soon || decide (d.lg.sampler.length ≥ 8) || d.lgState != 0 then d.dropSnap
  else d.setLog { d.lg with
    sampler := d.lg.insTrigger { list := l, src := src, ev := ev, at_ := d.ns, steady := d.steady, eclk := d.tb.eclk }
    lastSnap := ins l d.elNs d.lg.lastSnap }

/-- An occurrence of a source as the log sees it: its snapshot, and the entries of the system sources (14 R478, R480). -/
def Dev.logRise (d : Dev) (x : Rise) : Dev :=
  let ev0 := x.recs.headD 0
  let ev := if x.item then ev0 ||| BitVec.ofNat 256 (2 ^ 9) else ev0
  let own := x.src == 0x7E1 || x.src == 0x7E2
  let d1 :=
    if own || !x.edge then d
    else if x.src < 4096 && d.fbit HL_TRIG.TRIG (x.src / 32) (x.src % 32) then
      let g := d.fld SL_TGT.GROUP x.src
      d.trigger (d.fld (HL_GLIST.LIST.nth 4 (g % 8)) (g / 8)) x.src ev
    else if x.item && d.flag HL_CFG.FAULT_EN then d.trigger (d.fld HL_CFG.FLIST) x.src ev
    else d
  if (0x7C0 ≤ x.src ∧ x.src ≤ 0x7E4) ∧ ¬ own ∧ ¬ x.bare then x.recs.foldl (fun e r => e.logRecord 1 r) d1 else d1

/-! ### Sampling (14 R476, R477) -/

/-- A berth cannot be read by the sampler: it is lent, or serves no address. -/
def Dev.berthAway (d : Dev) (b : Nat) : Bool :=
  d.isSpare b || d.bstate b == 1 || d.bstate b == 2 || d.bstate b == 5 || d.bstate b == 6

/-- One entry's bytes, whether they could be read, and the part after the read. -/
def Dev.sampleEntry (d : Dev) (ev : Record) (kind sel : Nat) : Nat × Bool × Dev :=
  match kind with
  | 1 => (ev.toNat, true, d)
  | 2 =>
    match regAt sel with
    | some (r, _, _, k) => if k % 4 = 0 then (d.readBar sel 4, true, { d with freeCtr := d.freeCtr + r.free }) else (0, false, d)
    | none => (0, false, d)
  | 3 =>
    match regAt sel with
    | some (r, _, _, k) => if k % 8 = 0 then (d.readBar sel 8, true, { d with freeCtr := d.freeCtr + r.free }) else (0, false, d)
    | none => (0, false, d)
  | 4 => (d.chBytes sel, true, d)
  | 5 => (d.axBytes sel, true, d)
  | 6 => (d.wtBytes sel, true, d)
  | 7 =>
    if d.berthAway (sel / 65536) then (0, false, d)
    else if d.wordBad sel 8 then (0, false, d.afterRead sel 8)
    else (d.peekNat sel 8, true, d.afterRead sel 8)
  | 8 => (d.axBytes 0, true, d)
  | _ => (0, true, d)

/-- What the sampler has of trigger t. -/
def Dev.sampling (d : Dev) (t : Trigger) : Sampling := d.lg.sampling.getD { since := d.tb.eclk, last := t.eclk }

/-- The entries of trigger t that are not sampled yet. -/
def Dev.sampleLeft (d : Dev) (t : Trigger) : List (Nat × Nat) := (d.lsLive t.list).drop (d.sampling t).entry

/-- An entry is sampled. -/
def Dev.sampleNow (d : Dev) (t : Trigger) (e : Nat × Nat) : Dev :=
  let s := d.sampling t
  let n := (entryBytes e.1).getD 0
  let x := d.sampleEntry t.ev e.1 e.2
  x.2.2.setLog { x.2.2.lg with sampling := some {
    entry := s.entry + 1, off := s.off + n, data := s.data + (x.1 % 2 ^ (8 * n)) <<< (8 * s.off), ok := s.ok && x.2.1
    since := d.tb.eclk + 1, last := d.tb.eclk } }

/-- An entry that was reached in some cycle is sampled in this one: a CHAN entry in its channel's scan slot, at most S later, a BERTH entry
after 2 cycles more (14 R477). -/
def Dev.sampleDue (d : Dev) (since kind sel : Nat) : Bool :=
  match kind with
  | 4 =>
    let q := d.quay (sel / 16)
    (q.at_ == some d.tb.eclk && (q.next + 15) % 16 == sel % 16) || decide (since + d.scanS sel / 16 ≤ d.tb.eclk)
  | 7 => decide (since + 2 ≤ d.tb.eclk)
  | _ => true

/-- One cycle of the sampler: at most one entry of the oldest trigger, from the cycle after it on (14 R477). -/
def Dev.sampleCycle (d : Dev) : Dev :=
  match d.lg.sampler with
  | [] => d
  | t :: _ =>
    match d.sampleLeft t with
    | [] => d
    | e :: _ =>
      if d.tb.eclk ≤ t.eclk then d
      else if d.sampleDue (d.sampling t).since e.1 e.2 then d.sampleNow t e
      else d.setLog { d.lg with sampling := some (d.sampling t) }

/-- The SNAPSHOT record of the oldest trigger is composed, where the queue has room for it (14 R477, R481). -/
def Dev.compose (d : Dev) : Dev :=
  match d.lg.sampler with
  | [] => d
  | t :: rest =>
    let s := d.sampling t
    let d1 := d.setLog { d.lg with sampler := rest, sampling := none }
    if d1.lg.queued ≥ 16384 then d1.dropSnap
    else
      let units := max 1 (ceilDiv (40 + s.off) 64)
      let head := d1.recHead 1 units t.list t.src (bits t.ev 32 16) t.at_ (2 * (s.last - t.eclk)) 0 (!s.ok) t.steady
      d1.pushRecord { cls := 3, ltype := 1, units := units, img := head + s.data <<< 256 }

/-- The sampler finishes the snapshot that it is taking (14 R494). -/
def Dev.sampleHead (d : Dev) : Dev :=
  match d.lg.sampler with
  | [] => d
  | t :: _ => ((d.sampleLeft t).foldl (fun e x => e.sampleNow t x) d).compose

/-- SNAPSHOT_SAMPLED (14 R477): the sampler has finished a list. -/
def snapshotSampledEff (d : Dev) : Dev :=
  match d.lg.sampler with
  | [] => d
  | t :: _ => if (d.sampleLeft t).isEmpty then d.compose else d

/-! ### The rows -/

def execSnapshotSampled (s : State) : Host.Outcome State Fault Refusal := s.act snapshotSampledEff
def execItemsPackClose (s : State) : Host.Outcome State Fault Refusal := s.act itemsPackCloseEff
def execLogRecordStart (mismatches : Nat) (s : State) : Host.Outcome State Fault Refusal := s.act (logRecordStartEff mismatches)
def execLogRecordDurable (s : State) : Host.Outcome State Fault Refusal := s.actTime logRecordDurableEff
def execKeelWriteDone (s : State) : Host.Outcome State Fault Refusal := s.actTime keelWriteDoneEff
def execLockoutEnd (s : State) : Host.Outcome State Fault Refusal := s.act lockoutEndEff
def execChallengeExpire (s : State) : Host.Outcome State Fault Refusal := s.act challengeExpireEff

end Sys2Proof.Machine
end

