-- ==== Sys2Proof/Machine/SourceRise.lean ====
section
/-! DEFINITION. SOURCE_RISE (08 R261): what a rise of a source brings about, in its watchers, the harbour log and the sluice. -/

namespace Sys2Proof.Machine

open Sys2Proof

/-- COUNT axes that count the source (02 R58). -/
def Dev.riseAxes (d : Dev) (s : Nat) : Dev :=
  (upto 16).foldl (fun e n =>
    if n ≠ 0 ∧ e.axOn n ∧ (e.axType n = 6 ∨ e.axType n = 0) ∧ ¬ e.flag AX_CFG.SRC_IS_PIN n ∧ e.fld AX_CFG.SRC n = s then e.axCount n
    else e) d

/-- CW_FWD entries that watch the source (12 R432): each forwards the record that a host queue would receive. -/
def Dev.riseForward (d : Dev) (x : Rise) : Dev :=
  let r := x.recs.headD 0
  let r1 := if x.item then markItem r else r
  (upto 64).foldl (fun e i =>
    if e.flag CW_FWD.EN i ∧ e.fld CW_FWD.SRC i = x.src then e.forward (e.fld CW_FWD.REMOTE_NUM i) r1 else e) d

/-- One rise: its watchers, the log, and its delivery (08 R261, R264, R266). Watchers see an edge of the line; what brings a record is
forwarded and delivered (06 R209, R210). -/
def Dev.takeRise (d : Dev) (x : Rise) : Dev :=
  let d1 := if x.edge then ((d.riseAxes x.src).pnLatch x.src).ltLatch x.src else d
  let d2 := if x.bare then d1 else d1.riseForward x
  let d3 := d2.logRise x
  if x.bare then d3 else if x.item then d3.latchItem x.src x.recs else d3.latch x.src x.recs x.at_

/-- The rise that is taken next: of those of the oldest one's ECLK cycle the most urgent (08 R268), each source's in their order. -/
def Dev.nextRise (d : Dev) (x : Rise) : Rise :=
  ((d.sl.rises.takeWhile (fun y => y.comp.isNone && y.at_ == x.at_)).foldl (fun b y =>
    if y.src ≠ b.src ∧ d.moreUrgent y.src b.src then y else b) x)

/-- SOURCE_RISE (08 R261): the oldest rise that the sluice has not taken, or the COMPLETION that waits behind it (08 R282). -/
def sourceRiseEff (d : Dev) : Dev :=
  match d.sl.rises with
  | [] => d
  | h :: _ =>
    let x := d.nextRise h
    let d1 : Dev := { d with sl := { d.sl with rises := d.sl.rises.erase x } }
    (match x.comp with
      | some (c, status, gen) => d1.completed c status gen (x.recs.headD 0)
      | none => d1.takeRise x).fences

/-- Up to `n` rises are taken. -/
def Dev.takeRises (d : Dev) : Nat → Dev
  | 0 => d
  | n + 1 => if d.sl.rises.isEmpty then d else (sourceRiseEff d).takeRises n

def execSourceRise (s : State) : Host.Outcome State Fault Refusal := s.act sourceRiseEff

end Sys2Proof.Machine
end

