-- ==== Sys2Proof/Machine/Close.lean ====
section
/-! DEFINITION. The close of the harbour log (14 R494): what the blocks hand over when service ends (04 R144, 07 R254, 09 R325, 10 R363,
13 R459), and the CLOSE record. -/

namespace Sys2Proof.Machine

open Sys2Proof

/-! ### Entries (14 R480) -/

/-- CHANNEL entries of a channel's current and queued items (04 R144). -/
def Dev.closeChan (d : Dev) (c : Nat) : Dev :=
  let ch := d.chan c
  let one (e : Dev) (i : ChItem) (queued : Bool) : Dev :=
    e.logItem 1 [byt 0 2 c, byt 2 2 i.gen, byt 4 4 (if queued then 0 else ch.prog), byt 8 1 ch.cstate, (72, 1, queued.toNat), byt 10 8 i.cmp]
  let d1 := match ch.cur with | some i => one d i false | none => d
  match ch.queued with | some i => one d1 i true | none => d1

/-- The PIN entry of an engine that holds a partial word (07 R254). -/
def Dev.closePin (d : Dev) (n : Nat) : Dev :=
  if d.fld PN_STATUS.SC n = 0 then d
  else d.logItem 2 [byt 0 1 n, byt 2 2 (d.fld PN_STATUS.PGEN n), byt 4 1 (d.fld PN_STATUS.SC n), byt 8 4 (d.pne n).sr.toNat]

/-- The LIGHTER entry of a channel that is not IDLE, and its item with cause ABANDONED (10 R355, R363), which goes to the log as what waits
for a queue does at a close (DESIGN CHOICE, log 69). -/
def Dev.closeLt (d : Dev) (c : Nat) : Dev :=
  if d.ltState c = 0 then d
  else
    let x := d.ltc c
    let d1 := d.logItem 3 [byt 0 1 c, byt 2 2 (d.fld LT_STAT.LGEN c), byt 4 8 (d.ltPc c),
      byt 12 4 (match x.move with | some m => m.wr | none => 0), byt 16 1 (d.ltHeld c)]
    let e := ({ d1 with sl := { d1.sl with rises := [] } } : Dev).ltError c 0x0D (match x.move with | some m => m.pc | none => d1.ltPc c) 0 x.hold.length 0
    (e.sl.rises.flatMap (fun r => r.recs)).foldl (fun y r => y.logRecord 4 (markItem r)) (d1.count LT_CNT.ERR_CNT c)

/-- GEN of the item of a running channel command. -/
def Dev.cmdGen (d : Dev) (c : Cmd) : Nat :=
  if c.op = 2 then (((d.chan c.target).waits.find? (fun w => w.cmd.uid == c.uid)).map (fun w => w.gen)).getD 0 else 0

/-- A COMMAND entry (09 R325). -/
def Dev.closeCmd (d : Dev) (ring op rgen tag status stage progress : Nat) : Dev :=
  d.logItem 4 [byt 0 1 ring, byt 1 1 op, byt 2 2 rgen, byt 4 4 tag, byt 8 1 status, byt 9 1 stage, byt 10 8 progress]

/-- COMMAND entries of a ring's fetched and running commands. -/
def Dev.closeRing (d : Dev) (m : Nat) : Dev :=
  let r := d.ring m
  let d1 := r.running.foldl (fun e c => e.closeCmd m c.op c.rgen c.tag 0xFF 1 (e.cmdGen c)) d
  r.fetched.foldl (fun e f => e.closeCmd m (bits f.w 0 8) f.rgen (bits f.w 32 32) 0xFF 0 0) d1

/-- The COMMAND entry of a command that has finished, from its COMPLETION: GEN is the channel item's or the engine's for some commands,
and the ring's RGEN for the others (09 R316). -/
def Dev.closeDone (d : Dev) (r : Record) : Dev :=
  let op := bits r 168 8
  let m := bits r 16 6
  let chan : Bool := op == 1 || op == 2 || op == 3
  let gen := bits r 32 16
  d.closeCmd m op (if chan || op == 0x0F then d.fld CQ_STAT.RGEN m else gen) (bits r 128 32) (bits r 160 8) 2 (if chan then gen else 0)

/-- The entries of a host queue's records that have not been written: COMPLETIONs as commands, itemised records as they are, and the
number of the others (13 R459). -/
def Dev.closeQueue (d : Dev) (q : Nat) : Dev :=
  let us := (d.hq q).gen ++ (d.hq q).held ++ (d.hq q).staged
  let done := (us.filter (fun u => u.ring.isSome)).flatMap (fun u => u.recs)
  let items := (us.filter (fun u => u.item)).flatMap (fun u => u.recs)
  let n := recCount (us.filter (fun u => u.ring.isNone && !u.item))
  let d1 := done.foldl Dev.closeDone d
  let d2 := items.foldl (fun e r => e.logRecord 4 r) d1
  if n = 0 then d2 else d2.logItem 6 [byt 0 1 q, byt 4 4 n]

/-- ENGINE_LOST records of an engine's frames and active sources, reason HALT (06 R210, 13 R459). -/
def Dev.closeEngine (d : Dev) (p : Nat) : Dev :=
  let e := ({ d with sl := { d.sl with rises := [] } } : Dev).meAbandon p 5 0
  (e.sl.rises.flatMap (fun x => x.recs)).foldl (fun x r => x.logRecord 7 (markItem r)) d

/-- Itemised records among REC frames that are not acknowledged or wait for a port (12 R436, 13 R459). -/
def Dev.closeRecs (d : Dev) : Dev :=
  let bodies := d.cw.ports.flatMap (fun e => e.2.recs.map (fun x => x.2)) ++ d.cw.held
  (bodies.filter (fun b => bit b (64 + 9))).foldl (fun e b => e.logRecord 5 (BitVec.ofNat 256 (cut b 64 256))) d

/-- The COMPLETION of an ENTER_VIGIL that the link has not acknowledged (09 R317). -/
def Dev.closeVigil (d : Dev) : Dev :=
  if d.hi.vigilReq.isNone then d
  else d.hi.posted.foldl (fun e p => match p with
    | .record _ _ _ _ _ u => (u.recs.filter (fun r => bits r 0 8 == 1 && bits r 168 8 == 0x14)).foldl Dev.closeDone e
    | _ => e) d

/-- Step 2: the blocks hand over their entries. -/
def Dev.closeEntriesOf (d : Dev) : Dev :=
  let d1 := (d.qy.chans.map (fun e => e.1)).foldl Dev.closeChan d
  let d2 := (d.pn.map (fun e => e.1)).foldl Dev.closePin d1
  let d3 := (upto 32).foldl Dev.closeLt d2
  let d4 := (upto 26).foldl Dev.closeEngine d3
  let d5 := (upto 64).foldl Dev.closeRing d4
  let d7 := (upto 64).foldl Dev.closeQueue d5
  let d8 := (d7.sl.items.flatMap (fun i => i.recs)).foldl (fun e r => e.logRecord 4 r) d7
  d8.closeRecs.closeVigil

/-! ### Writing out (14 R494 steps 3 to 5) -/

/-- The write queue is written out. -/
def Dev.logWriteOut (d : Dev) : Nat → Dev
  | 0 => d
  | n + 1 => if d.lg.queue.isEmpty && d.lg.writing.isNone then d else ((d.recStart 0).recMark).logWriteOut n

/-- Entries are packed and written. -/
def Dev.logPackOut (d : Dev) : Nat → Dev
  | 0 => d
  | n + 1 => if d.lg.pack.isEmpty then d else ((d.packItems).logWriteOut 600).logPackOut n

/-- Keel writes end. -/
def Dev.keelOut (d : Dev) : Dev :=
  let one (e : Dev) : Dev := if e.lg.keelBusy then (e.setLog { e.lg with keelBusy := false, keelActs := [] }).keelCopy.keelStart else e
  one (one d)

/-- Steps 1 to 3 of a close: how many triggers were discarded, and the part. Commands whose record is not durable yet have become
COMMAND entries, so nothing follows their records (14 R497). -/
def Dev.closeStart (d : Dev) : Nat × Dev :=
  let d0 := d.takeRises (d.sl.rises.length + 1024)
  let d1 := d0.recDurable
  let d2 := d1.setLog { d1.lg with
    closing := true, closeEntries := 0, closeKeel := 0, keelActs := [], queue := d1.lg.queue.map (fun r => { r with act := .nothing }) }
  let d3 := d2.sampleHead
  let n := d3.lg.sampler.length
  let d4 := (d3.setLog { d3.lg with sampler := [] }).closeEntriesOf
  (n, ((d4.logWriteOut 600).logPackOut (d4.lg.pack.length + 1)).keelOut)

/-- Steps 4 and 5: the CLOSE record with what began the close, and the header. -/
def Dev.closeEnd (d : Dev) (trigger discarded : Nat) : Dev :=
  let d1 := d.pushSmall 2 8 [byt 32 8 d.ns, byt 40 4 d.lg.closeEntries, byt 44 4 d.lg.closeKeel, byt 48 1 trigger, byt 49 2 (min discarded 0xFFFF)]
  let d2 := ((d1.logWriteOut 600).keelOut).writeHeader
  d2.setLog { d2.lg with closing := false }

end Sys2Proof.Machine
end

