-- ==== Sys2Proof/Machine/Power.lean ====
section
/-! DEFINITION. The vigil, power, core resets and the repair map (13 R457, R458, 15 R499 to R505, R524 to R532, 17 R563). -/

namespace Sys2Proof.Machine

open Sys2Proof

/-! ### The vigil (15 R524 to R529) -/

/-- The vigil with its counter's value now, 2^-48 ns of TAI: that of its latest edge and the time since. -/
def Vigil.now (v : Vigil) : Nat := (v.cnt * 2 ^ 16 + v.phase * 2 ^ 33) % 2 ^ 112

/-- The vigil after `n` units of 2^-15 ns (fewer than a period): at an edge of the crystal the counter adds the increment. -/
def Vigil.pass (v : Vigil) (n : Nat) : Vigil :=
  if v.stopped then v
  else if v.phase + n < 1000000000 then { v with phase := v.phase + n, el := v.el + n }
  else { v with phase := v.phase + n - 1000000000, el := v.el + n, cnt := (v.cnt + v.inc) % 2 ^ 96 }

/-- AX0 is copied to the vigil (15 R528, R529 step 3, R505), to 125 ps; before the boot ROM has loaded AX0 there is nothing to copy. -/
def Dev.copyToVigil (d : Dev) : Dev :=
  if d.boot.loaded then
    let cnt := (d.t8 * 2 ^ 29 + 2 ^ 96 - d.vg.phase * 2 ^ 17) % 2 ^ 96
    let ok : Bool := !d.flag VG_STAT.XFAIL && d.fld AX0_STATUS.STATE != 3
    ({ d.setFld VG_OFF.UNC_OFF (min (d.unc + 100) 0xFFFFFFFF) with vg := { d.vg with cnt := cnt, offAt := cnt } } : Dev).setFlag VG_STAT.VALID ok
  else d

/-- TEMP as the vigil's sensor has sampled it, 0.25 °C. -/
def Dev.vgTemp (d : Dev) : Int := toS 10 (d.fld VG_STAT.TEMP)

/-- K2 × (T − T0)², in sixteenths of ppb (15 R525). -/
def Dev.vgCurve (d : Dev) : Int :=
  let t := d.vgTemp - toS 10 (d.fld VG_COMP.T0)
  toS 12 (d.fld VG_COMP.K2) * t * t

/-- A sample of the vigil's temperature is due: TS_PERIOD has passed since the latest (15 R525). -/
def Dev.sampleTime (d : Dev) : Bool :=
  match d.vg.sampled with
  | some t => decide (t + max 1 (d.fld VG_CTRL.TS_PERIOD) * 1000000000 * 2 ^ 15 ≤ d.vg.el)
  | none => true

/-- TEMP_SAMPLE (15 R524, R525): INC from c, in units of 2^-32 ns; a 10^-9 of 30 517.578 125 ns is 131 072 of them. -/
def tempSampleEff (temp : BitVec 10) (d : Dev) : Dev :=
  if d.sampleTime then
    let d1 := d.setFld VG_STAT.TEMP temp.toNat
    let c16 : Int := 16 * toS 24 (d1.fld VG_CAL.CAL) + d1.vgCurve
    { d1 with vg := { d1.vg with inc := (131072000000000 - 8192 * c16).toNat, sampled := some d.vg.el } }
  else d

/-- The host has written a register in this cycle. -/
def Dev.wroteNow (d : Dev) (off : Nat) : Bool := d.cycle.wr.any (fun w => w.2.1 == off)

/-- VIGIL_CAL_DONE (15 R526): an error in ppb measured over 2^20 edges of the vigil while AX0 was LOCKED and the temperature moved by
`dtemp`, 0.25 °C; a measurement that is discarded starts again. A write of VG_CAL in the same cycle stands (17 R565). Where
K2 × (T − T0)² is no whole number of ppb the spec does not say how CAL rounds, and where CAL cannot hold the result what it holds. -/
def vigilCalDoneEff (err : Int) (dtemp : Nat) (d0 : Dev) : Dev :=
  if d0.flag VG_CTRL.AUTO_CAL ∧ d0.fld AX0_STATUS.STATE = 1 ∧ 2 ^ 20 ≤ d0.tb.calEdges then
    let d : Dev := { d0 with tb := { d0.tb with calEdges := 0 } }
    if 4 < dtemp ∨ d.wroteNow 0x3018 = true then d
    else
      let c := d.vgCurve
      let low : Int := err + (-c) / 16
      let v : Int := if c % 16 = 0 then low else low + Config.freeValue d.freeCtr % 2
      let d1 := if c % 16 = 0 then d else d.nextFree
      if -8388608 ≤ v ∧ v < 8388608 then d1.setFld VG_CAL.CAL (ofS 24 v)
      else d1.nextFree.setFld VG_CAL.CAL (Config.freeValue d1.freeCtr)
  else d0

/-- The core has no supply or is isolated: a vigil whose crystal has stopped sees no edge for 1 ms and clears VALID (15 R528). -/
def Dev.dark (d : Dev) : Dev := if d.vg.stopped then d.setFld VG_STAT.VALID 0 else d

/-- CRYSTAL_STOP (15 R528). -/
def crystalStopEff (d : Dev) : Dev :=
  let d1 : Dev := { d with vg := { d.vg with stopped := true } }
  if d.sys.powered then d1.setFld VG_STAT.XFAIL 1 else d1.setFld VG_STAT.VALID 0

/-- VIGIL_SUPPLY_FAIL (15 R528). -/
def vigilSupplyFailEff (d : Dev) : Dev := d.setFld VG_STAT.VALID 0

/-- SUPPLY_SWITCHOVER (15 R500). -/
def supplySwitchoverEff (onVbak : Bool) (d : Dev) : Dev := d.setFlag VG_STAT.ON_VBAK onVbak

/-! ### The repair map (13 R457, R458) -/

/-- An entry of the map: a field of instance i takes a value where that is not its value for a part with no repairs. -/
def mapEntry (f : Fld) (i v : Nat) : List (Nat × Nat) := if v = f.rst i then [] else [(f.key i 0, v)]

/-- What the map records: retired quays, engines, the accumulator and banks, what serves in their place, spare rows, and the SYS_FAULT
bits that the map holds. A substitution, relief or relocation that has not ended is not in it. -/
def Dev.repairMap (d : Dev) : Tbl Nat :=
  let quays := (upto 34).flatMap (fun p =>
    if d.role p = 3 ∨ d.role p = 0 then mapEntry QY_STATUS.ROLE p (d.role p) ++ mapEntry QY_STATUS.LOGICAL p (d.fld QY_STATUS.LOGICAL p) else [])
  let dead := (upto 26).flatMap (fun p => if d.fld ME_STATUS.ROLE p = 3 then mapEntry ME_STATUS.ROLE p 3 else [])
  let homes := d.mo.flatMap (fun e => match e.2.home with
    | some r => if d.fld ME_STATUS.ROLE r = 3 then [] else mapEntry ME_STATUS.ROLE r 2 ++ mapEntry ME_STATUS.LOGICAL r e.1
    | none => [])
  let banks := (upto 32).flatMap (fun b =>
    mapEntry BH_STAT.BANK b (d.fld BH_STAT.BANK b) ++ mapEntry BH_STAT.SPARE_ROWS b (d.fld BH_STAT.SPARE_ROWS b) ++
      (if d.bstate b = 6 then mapEntry BH_STAT.BSTATE b 6 else []))
  let faults := [SYS_FAULT.TB_DEGRADED, SYS_FAULT.QUAY_EXHAUSTED, SYS_FAULT.ENGINE_EXHAUSTED, SYS_FAULT.BERTH_EXHAUSTED].flatMap
    (fun f => mapEntry f 0 (d.fld f))
  quays ++ dead ++ homes ++ mapEntry AX0_REPAIR.RETIRED 0 (d.fld AX0_REPAIR.RETIRED) ++ banks ++ faults

/-- REPAIR_MAP_UPDATE (13 R457). -/
def repairMapUpdateEff (d : Dev) : Dev := if d.sys.powered then { d with sys := { d.sys with map := d.repairMap } } else d

/-- The map is applied (13 R458); bits of SYS_FAULT that it sets raise MODE (13 R466). -/
def Dev.applyMap (d : Dev) : Dev :=
  let m := d.sys.map
  let fault (f : Fld) : Bool := get 0 m (f.key 0 0) == 1
  let keys := [SYS_FAULT.TB_DEGRADED, SYS_FAULT.QUAY_EXHAUSTED, SYS_FAULT.ENGINE_EXHAUSTED, SYS_FAULT.BERTH_EXHAUSTED]
  let regs := (m.filter (fun e => !(keys.map (fun f => f.key 0 0)).contains e.1)).foldl (fun r e => ins e.1 e.2 r) d.regs
  let d1 : Dev := { d with regs := regs }
  let d2 := [24, 25].foldl (fun e r =>
    if e.fld ME_STATUS.ROLE r = 2 then
      let n := e.fld ME_STATUS.LOGICAL r
      e.setOps n { e.ops n with serv := some r, home := some r }
    else e) d1
  (keys.foldl (fun e f => if fault f then e.setFault f true else e) d2).setFlag SYS_REPAIR.MAP_VALID (!m.isEmpty)

/-! ### Core resets (15 R504, 17 R563) -/

/-- The register fields that a core reset leaves: the vigil's (VG), those found in the store (HL_STAT, HL_SEQ, HL_PTR), the level of
PERST#, and the banks' latched voltages. -/
def keepsReset (k : Nat) : Bool :=
  (0x18000 ≤ k && k < 0x20000) || (0x220040 ≤ k && k < 0x220100) || k == HI_LINK.PERST.key 0 0 || k == SYS_IOCFG.VA.key 0 0 ||
    k == SYS_IOCFG.VB.key 0 0

/-- The register fields of AX0, which a boot retry leaves. -/
def keepsRetry (k : Nat) : Bool := (0x410C0 ≤ k && k < 0x410E0) || (0x41140 ≤ k && k < 0x41160) || k == SYS_FAULT.AX0_INVALID.key 0 0

/-- What the store keeps of the log; a record that was being written is torn until the scan finds it. -/
def Log.kept (l : Log) : Log :=
  {
    store := l.store, writing := l.writing, hdrGen := l.hdrGen, keelGen := l.keelGen, lastClose := l.lastClose, orderly := l.orderly }

/-- A core reset: every block takes its reset values but the vigil, the store, the fuses and, where the reset is a boot retry, AX0. The
core's clock counts on in the model; the levels at the TIO balls are the outside world's. -/
def Dev.coreReset (d : Dev) (retry : Bool) : Dev :=
  let d1 : Dev := {
    regs := d.regs.filter (fun e => keepsReset e.1 || (retry && keepsRetry e.1))
    mem := d.mem
    tb := if retry then d.tb else { eclk := d.tb.eclk, elapsed := d.tb.elapsed }
    pins := (d.pins.map (fun e => (e.1, ({ ball := e.2.ball, filt := e.2.ball } : Pin)))).filter (fun e => e.2 != {})
    sys := {
             supplies := d.sys.supplies, want := d.sys.want, cold := d.sys.cold, powered := d.sys.powered, resetLow := d.sys.resetLow
             keyHigh := d.sys.keyHigh, map := d.sys.map }
    lg := d.lg.kept
    fuse := d.fuse
    boot := { loaded := retry && d.boot.loaded, ax0 := d.boot.ax0, unc := d.boot.unc, keyOn := d.boot.keyOn }
    vg := d.vg
    tap := d.tap
    freeCtr := d.freeCtr }
  (d1.setFld HL_STAT.CHALLENGE 0).setFld HL_STAT.LOCKOUT 0

/-- The copy to the vigil, with the close around it where a record can be open (14 R494, 15 R505, R529, R530). A key-off in the cycle of
the SEAL operation wins: no record is opened (R533). -/
def Dev.closeAndCopy (d : Dev) (trigger : Nat) : Dev :=
  if d.sealed ∧ ¬ (trigger = 1 ∧ d.boot.sealAt = some d.tb.eclk) then
    let x := d.closeStart
    (x.2.copyToVigil).closeEnd trigger x.1
  else d.copyToVigil

/-- The core is powered and enters RESET (15 R502, R531 step 2, 01 R21). -/
def Dev.corePowered (d : Dev) : Dev :=
  let cold := d.sys.cold
  let d1 := d.coreReset false
  ({ d1 with
     sys := { d1.sys with powered := true, cold := false }, boot := { d1.boot with keyOn := !cold }, tap := {} } : Dev).setFld
    SYS_RSTCAUSE.CAUSE (if cold then 0 else 1)

/-- KEY_ON high or VWAKE# low has been debounced (15 R531, 01 R24): a KEY_ON that is already high is no new request. -/
def keyOnEff (vwake : Bool) (d : Dev) : Dev :=
  let d1 : Dev := if vwake then d else { d with sys := { d.sys with keyHigh := true } }
  if d.sys.powered then d1
  else if !vwake && d.sys.keyHigh then d
  else
    let d2 : Dev := { d1 with sys := { d1.sys with want := true } }
    if d2.sys.supplies then d2.corePowered else d2

/-- CORE_POWER_GOOD (15 R502, 16 R539). -/
def corePowerGoodEff (va vb : Bool) (d : Dev) : Dev :=
  if d.sys.powered then d
  else
    let d1 := ({ d with sys := { d.sys with supplies := true } } : Dev).setFlag SYS_IOCFG.VA va |>.setFlag SYS_IOCFG.VB vb
    if d1.sys.want then d1.corePowered else d1

/-- KEY_OFF (15 R529, R530, 01 R24): KEY_ON low, or the ENTER_VIGIL that has completed. The latter leaves the supplies on where KEY_ON is
high (15 R503). -/
def keyOffEff (d : Dev) : Dev :=
  let cmd := d.hi.vigilReq.isSome
  if d.sys.powered then
    let d1 := (d.closeAndCopy (if cmd then 2 else 1)).coreReset false
    let high := cmd && d1.sys.keyHigh
    ({ d1 with sys := { d1.sys with powered := false, want := false, keyHigh := high, supplies := high } } : Dev).dark
  else { d with sys := { d.sys with keyHigh := false, want := false } }

/-- RESET# is low for 1 µs (15 R505). -/
def resetPinEff (d : Dev) : Dev :=
  if d.sys.resetLow then d
  else
    let d0 : Dev := { d with sys := { d.sys with resetLow := true } }
    if d.sys.powered then ((d0.closeAndCopy 3).coreReset false).setFld SYS_RSTCAUSE.CAUSE 2 |> fun e =>
      { e with boot := { e.boot with keyOn := false } }
    else d0

/-- RESET# goes high (15 R505). -/
def resetReleaseEff (d : Dev) : Dev := { d with sys := { d.sys with resetLow := false } }

/-- The authorised full reset (01 R25, 15 R505). -/
def Dev.fullReset (d : Dev) : Dev :=
  let e := ((d.closeAndCopy 4).coreReset false).setFld SYS_RSTCAUSE.CAUSE 3
  { e with boot := { e.boot with keyOn := false } }

/-- POWER_LOSS (15 R503, 14 R496): no close; the core starts again when its supplies return. -/
def powerLossEff (d : Dev) : Dev :=
  if d.sys.powered then
    let e := d.coreReset false
    ({ e with sys := { e.sys with powered := false, supplies := false } } : Dev).dark
  else d

/-- COLD_POWER_UP (15 R504, R532): the vigil and the core; the store, the repair map, the keel and the fuses survive. -/
def coldPowerUpEff (d : Dev) : Dev :=
  let e := d.coreReset false
  let regs := e.regs.filter (fun x => 0x220040 ≤ x.1 && x.1 < 0x220100)
  ({ e with
     regs := regs, vg := {}, tap := {}, boot := {}
     sys := { map := e.sys.map, resetLow := e.sys.resetLow } } : Dev).setFld SYS_FAULT.AX0_INVALID 1 |>.setFld AX0_STATUS.STATE 3

/-! ### The rows -/

def execTempSample (temp : BitVec 10) (s : State) : Host.Outcome State Fault Refusal := s.act (tempSampleEff temp)
def execVigilCalDone (err : Int) (dtemp : Nat) (s : State) : Host.Outcome State Fault Refusal := s.actTime (vigilCalDoneEff err dtemp)
def execCrystalStop (s : State) : Host.Outcome State Fault Refusal := s.act crystalStopEff
def execVigilSupplyFail (s : State) : Host.Outcome State Fault Refusal := s.act vigilSupplyFailEff
def execSupplySwitchover (onVbak : Bool) (s : State) : Host.Outcome State Fault Refusal := s.act (supplySwitchoverEff onVbak)
def execRepairMapUpdate (s : State) : Host.Outcome State Fault Refusal := s.act repairMapUpdateEff
def execKeyOn (vwake : Bool) (s : State) : Host.Outcome State Fault Refusal := s.actTime (keyOnEff vwake)
def execCorePowerGood (va vb : Bool) (s : State) : Host.Outcome State Fault Refusal := s.actTime (corePowerGoodEff va vb)
def execKeyOff (s : State) : Host.Outcome State Fault Refusal := s.actTime keyOffEff
def execResetPin (s : State) : Host.Outcome State Fault Refusal := s.actTime resetPinEff
def execResetRelease (s : State) : Host.Outcome State Fault Refusal := s.act resetReleaseEff
def execPowerLoss (s : State) : Host.Outcome State Fault Refusal := s.actTime powerLossEff
def execColdPowerUp (s : State) : Host.Outcome State Fault Refusal := s.actTime coldPowerUpEff

end Sys2Proof.Machine
end

