-- ==== Sys2Proof/Machine/HostRing.lean ====
section
/-! DEFINITION. Command rings and host queues as they are enabled, drained and reset (08 R284, 09 R300, R323, R324). -/

namespace Sys2Proof.Machine

open Sys2Proof

/-! ### Rings (09 R323, R324) -/

/-- A fetched entry as a command. -/
def Dev.cmdOf (d : Dev) (m : Nat) (f : Fetched) : Cmd := { ring := m, fn := (d.ringOwner m).getD 0, w := f.w, rgen := f.rgen, uid := d.hi.uid }

/-- A ring drains: what it has fetched and not accepted fails ABORTED, in ring order; what runs, runs on. -/
def Dev.ringDrain (d : Dev) (m : Nat) : Dev :=
  let st := d.fld CQ_STAT.RSTATE m
  if st = 1 ∨ st = 3 then
    let r := d.ring m
    let d1 := (d.setRing m { r with fetched := [], prefetch := [], wrong := 0 }).setFld CQ_STAT.RSTATE 2 m
    let d2 := r.fetched.foldl (fun e f =>
      (e.count CQ_ERR.ABORT_CNT m).report (e.cmdOf m f) 0x17 f.rgen e.ns []) d1
    d2.ringDrained m
  else d

/-- EN of CQ_CFG takes a value (09 R323, R324). -/
def Dev.ringEnable (d : Dev) (m : Nat) (en : Bool) : Dev :=
  let st := d.fld CQ_STAT.RSTATE m
  if en then
    if d.fld HQ_STAT.QSTATE (d.fld CQ_CFG.CQ_HQ m) ≠ 1 then d.setFld CQ_CFG.EN 0 m
    else if st = 0 then
      let g := d.fld CQ_STAT.RGEN m
      ((((d.setFld CQ_CFG.EN 1 m).setFld CQ_STAT.RSTATE 1 m).setFld CQ_CI.CI 0 m).setFld CQ_STAT.RGEN (if g = 0xFFFF then 1 else g + 1) m).setRing m {}
        |>.ringMode m
    else if st = 2 then (d.setFld CQ_CFG.EN 1 m).setFld CQ_STAT.REEN_PEND 1 m
    else d.setFld CQ_CFG.EN 1 m
  else if st = 2 then (d.setFld CQ_CFG.EN 0 m).setFld CQ_STAT.REEN_PEND 0 m
  else (d.setFld CQ_CFG.EN 0 m).ringDrain m

/-- A ring ends with its function's host side (09 R300, R323): EN is cleared and it drains. -/
def Dev.ringReset (d : Dev) (m : Nat) : Dev :=
  ((d.setFld CQ_CFG.EN 0 m).setFld CQ_STAT.REEN_PEND 0 m).ringDrain m

/-- CQ_CFG of ring m takes a value from its owner f (09 R309, R322, R329). -/
def Dev.writeCqCfg (d : Dev) (m f v : Nat) : Dev :=
  let size := cut v 0 5
  let d1 := if d.fld CQ_STAT.RSTATE m = 0 ∧ 4 ≤ size ∧ size ≤ 16 then d.setFld CQ_CFG.SIZE size m else d
  let others := ((upto 64).filter (fun k => k ≠ m && d.ringOwner k == some f && d.flag CQ_CFG.PREFETCH k)).length
  let d2 := if bit v 6 ∧ others ≥ 8 then d1 else d1.setFld CQ_CFG.PREFETCH (cut v 6 1) m
  let d3 := if d2.queueOwner (cut v 8 6) = some f then d2.setFld CQ_CFG.CQ_HQ (cut v 8 6) m else d2
  d3.ringEnable m (bit v 5)

/-! ### Queues (08 R284) -/

/-- What waits for queue q outside staging is lost as it is discarded: a COMPLETION goes to the log (09 R322). -/
def Dev.discardUnit (d : Dev) (q : Nat) (u : RecUnit) : Dev :=
  match u.ring with
  | some m => (((u.recs.foldl Dev.closeDone d).count CQ_ERR.LOGGED_CNT m).loseDone q).ringServed u
  | none => d.lose q u 4

/-- DISCARD: what is staged for the queue, or would be, is lost, and the queue is DISABLED. -/
def Dev.hqDiscard (d : Dev) (q : Nat) : Dev :=
  let st := d.fld HQ_STAT.QSTATE q
  if st = 0 ∨ st = 3 then
    let h := d.hq q
    let d1 := ((d.setHq q { h with staged := [], held := [], gen := [] }).setFld HQ_STAT.QSTATE 0 q).setFld HQ_CFG.EN 0 q
    (h.held ++ h.gen).foldl (fun e u => e.discardUnit q u) (h.staged.foldl (fun e u => e.lose q u 4) d1)
  else d

/-- EN of HQ_CFG takes a value. -/
def Dev.queueEnable (d : Dev) (q : Nat) (en : Bool) : Dev :=
  let st := d.fld HQ_STAT.QSTATE q
  if en then
    if st = 0 ∨ st = 3 then d.hqEnable q
    else if st = 2 then (d.setFld HQ_CFG.EN 1 q).setFld HQ_STAT.REEN_PEND 1 q
    else d
  else if st = 1 then ((d.setFld HQ_CFG.EN 0 q).setFld HQ_STAT.QSTATE 2 q).hqDrained q
  else (d.setFld HQ_CFG.EN 0 q).setFld HQ_STAT.REEN_PEND 0 q

/-- HQ_CFG of queue q takes a value (08 R284, R295); DISCARD acts before EN. -/
def Dev.writeHqCfg (d : Dev) (q v : Nat) : Dev :=
  let st := d.fld HQ_STAT.QSTATE q
  let size := cut v 0 5
  let d1 := if (st = 0 ∨ st = 3) ∧ 4 ≤ size ∧ size ≤ 16 then d.setFld HQ_CFG.SIZE size q else d
  let d2 := (d1.setFld HQ_CFG.VECTOR (cut v 5 6) q).setFld HQ_CFG.STG_MAX (cut v 20 4) q
  let d3 := if bit v 12 then d2.hqDiscard q else d2
  d3.queueEnable q (bit v 11)

/-! ### The write engine and staging (08 R280, R285 to R287) -/

/-- The staging berth of the k-th staged record is lent or returning (11 R387): records fill the staging berths in ascending order (DESIGN
CHOICE, log 69). -/
def Dev.stageLent (d : Dev) (k : Nat) : Option Nat := (d.stageBerths[k / 2048]?).filter (fun b => d.bstate b == 1 || d.bstate b == 2)

/-- The unit of queue q that goes to staging next, if one does. -/
def Dev.toStage (d : Dev) (q : Nat) : Bool :=
  d.hqBlocked q && (match (d.hq q).held ++ (d.hq q).gen with | u :: _ => (d.stageRefuses q u.recs.length).isNone | [] => false)

/-- HQ_RECORD_ISSUE (08 R280): a record that would be staged to a lent berth waits for the berth's return (08 R285, 11 R387). -/
def hqRecordIssueEff (q : Nat) (d : Dev) : Dev :=
  if q < 64 ∧ d.writesOver = false then
    match if d.toStage q then d.stageLent d.stagedTotal else none with
    | some b => d.startReturn b
    | none => (d.issueRec q).fences
  else d

/-- STAGING_DRAIN (08 R286): queue q is served when its turn has come, a LOSS_COUNT that is due first (08 R282, 13 R464). -/
def stagingDrainEff (q : Nat) (d : Dev) : Dev :=
  if d.nextDrain = some q ∧ d.writesOver = false then
    match (d.hq q).staged with
    | [] => d
    | u :: t =>
      match d.stageLent 0 with
      | some b => d.startReturn b
      | none => if d.lossDue q then d.writeLoss q else (d.drainUnit q u t).fences
  else d

/-! ### Functions (09 R300, R328) -/

/-- Every ring of function f is DISABLED, and none of its queues ACTIVE or DRAINING. -/
def Dev.slabIdle (d : Dev) (f : Nat) : Bool :=
  (upto 64).all (fun k =>
    (d.ringOwner k != some f || d.fld CQ_STAT.RSTATE k == 0) &&
    (d.queueOwner k != some f || d.fld HQ_STAT.QSTATE k == 0 || d.fld HQ_STAT.QSTATE k == 3))

/-- HI_POLL of function f takes a value. -/
def Dev.writePoll (d : Dev) (f v : Nat) : Dev :=
  let d1 := if 8 ≤ cut v 0 16 ∧ cut v 0 16 ≤ 62500 then d.setFld HI_POLL.POLL (cut v 0 16) f else d
  d1.setFld HI_POLL.OUTSTANDING (cut v 16 4) f

end Sys2Proof.Machine
end

