-- ==== Sys2Proof/Machine/Bar.lean ====
section
/-! DEFINITION. BAR0 (09 R297, 15 R509, R514, R523, 17 R560 to R565): which registers a function may read and write, what a write does, and
the meanings of the rows that write or read a register. -/

namespace Sys2Proof.Machine

open Sys2Proof

/-! ### Who may access what (09 R297, R329, 08 R295, 14 R484) -/

/-- The host can reach BAR0: the core is powered and the boot ROM has enabled the endpoint (15 R506). -/
def Dev.barUp (d : Dev) : Bool := d.sys.powered && d.boot.loaded

/-- An offset in a window that function f owns: its function registers, a ring or a queue granted to it. -/
def Dev.ownWindow (d : Dev) (f off : Nat) : Bool :=
  if 0x4000 ≤ off ∧ off < 0x4200 then (off - 0x4000) / 0x40 == f
  else if 0x5000 ≤ off ∧ off < 0x6000 then d.ringOwner ((off - 0x5000) / 0x40) == some f
  else if 0xF000 ≤ off ∧ off < 0x10000 then d.queueOwner ((off - 0xF000) / 0x40) == some f
  else false

/-- Function f may read a register at an offset. -/
def Dev.mayRead (d : Dev) (f off : Nat) : Bool :=
  if !d.sealed then f == 0 && off < 0x1000
  else f == 0 || d.ownWindow f off || (0x44400 ≤ off && off < 0x44500 && d.flag HM_FRIGHTS.LOG_READ f)

/-- Function f may write a register at an offset: only F0, but for the windows that have owners; before HM_SEAL only SYS_PUSH, SYS_PUSHLEN
and SYS_RESET; SYS_PUSH and SYS_PUSHLEN only then (15 R534); the boot code with F0's rights. -/
def Dev.mayWrite (d : Dev) (f off : Nat) (boot : Bool) : Bool :=
  let windows := (0x4000 ≤ off && off < 0x4200) || (0x5000 ≤ off && off < 0x6000) || (0xF000 ≤ off && off < 0x10000)
  let push := 0x48 ≤ off && off < 0x58
  let right := if windows then d.ownWindow f off else f == 0
  right && (boot || (if d.sealed then !push else push || (0x18 ≤ off && off < 0x20)))

/-! ### A register takes a value -/

/-- A field takes the bits of a write that lie in a mask, by its access code (00 R6). -/
def Dev.writeField (d : Dev) (row : RegRow) (i j v mask : Nat) (boot : Bool) (x : Fld × Acc) : Dev :=
  let f := x.1
  let lo := f.pos - 8 * row.base
  let m := cut mask lo f.len
  let b := cut v lo f.len
  let old := d.fld f i j
  if m = 0 then d
  else match x.2 with
    | .rw => d.setFld f (old - (old &&& m) + (b &&& m)) i j
    | .sealed => if boot && !d.sealed then d.setFld f (old - (old &&& m) + (b &&& m)) i j else d
    | .w1c => d.setFld f (old - d.w1cCleared f (b &&& m) i) i j
    | _ => d

/-- Every field of a register takes its bits. -/
def Dev.writeFields (d : Dev) (row : RegRow) (i j v mask : Nat) (boot : Bool) : Dev :=
  row.flds.foldl (fun e x => e.writeField row i j v mask boot x) d

/-- A field that takes only values in a range. -/
def Dev.writeRanged (d : Dev) (f : Fld) (v lo hi : Nat) (i : Nat := 0) : Dev := if lo ≤ v ∧ v ≤ hi then d.setFld f v i else d

/-- GO of SYS_PUSHLEN (15 R509): the push that the boot ROM waits for is fetched. -/
def Dev.pushGo (d : Dev) : Dev :=
  let wait := d.fld SYS_BOOT.STAGE = 3 ∨ (d.fld SYS_BOOT.STAGE = 0xF ∧ d.fld SYS_BOOT.BOOTSEL ≠ 2)
  if d.barUp ∧ ¬ d.sealed ∧ wait ∧ (d.func 0).bme then (d.setFld SYS_BOOT.STAGE 4).setFld SYS_BOOT.SOURCE 2 else d

/-- SYS_RESET (01 R25): the two keys one after the other, with the right. -/
def Dev.writeReset (d : Dev) (first : Bool) (v : Nat) : Dev :=
  if d.flag HM_FRIGHTS.FULL_RESET 0 then
    if v = 0x5A17 then { d with hi := { d.hi with key1 := true } }
    else if v = 0xA5E8 ∧ first then d.fullReset
    else d
  else d

/-- PN_FIFO of engine n: the thresholds, then the flushes (07 R257). -/
def Dev.writePnFifo (d : Dev) (n v : Nat) : Dev :=
  let d1 := ((d.setFld PN_FIFO.TX_WM (cut v 0 4) n).setFld PN_FIFO.RX_WM (cut v 4 4) n).reqRises d n
  if bit v 16 ∨ bit v 17 then d1.pnFlush n (bit v 16) (bit v 17) else d1

/-- A tracker register (03 R71). -/
def Dev.writeWt (d : Dev) (row : RegRow) (i j v mask : Nat) (boot : Bool) : Dev :=
  let en := d.flag WT_CFG.EN i
  if row.base = 0x9000 then
    if en then (if bit v 0 then d else d.wtDisable i)
    else if bit v 0 then d.wtEnable i
    else d.writeFields row i j v mask boot
  else if en && row.base != 0x9040 then d
  else d.writeFields row i j v mask boot

/-- A register takes the bits of a write that lie in a mask. `first` says that the write before was the first key of SYS_RESET. A write of
SRC that names a usable source does not itself switch ACTIVE; the next failure or return of a source does (01 R12 is silent: DESIGN CHOICE,
log 69). -/
def Dev.writeReg (d : Dev) (row : RegRow) (i j val mask : Nat) (boot first : Bool) : Dev :=
  let img := d.image row i j
  let v := img - (img &&& mask) + (val &&& mask)
  let plain := d.writeFields row i j val mask boot
  match row.base with
  | 0x10 =>
    let d1 := plain
    let d2 := if bit val 5 then d1.writeModeHold else d1
    if bit val 4 && !bit val 5 then d2.writeGo else d2
  | 0x18 => d.writeReset first v
  | 0x20 => d.setFault SYS_FAULT.SW (bit v 6)
  | 0x50 => if bit val 31 then plain.pushGo else plain
  | 0x2000 => if cut v 0 2 ≥ 2 then plain.setFld CK_REFSEL.SRC (d.fld CK_REFSEL.SRC) else plain
  | 0x3000 => if cut v 0 16 < 500 then plain.setFld VG_CTRL.VDRIFT_PPB (d.fld VG_CTRL.VDRIFT_PPB) else plain
  | 0x4000 => if d.slabIdle i then plain else d
  | 0x4008 => d.writePoll i v
  | 0x5000 => if d.fld CQ_STAT.RSTATE i = 0 then plain else d
  | 0x5008 => match d.ringOwner i with | some f => d.writeCqCfg i f v | none => d
  | 0x8000 => d.writeAxCfg i v
  | 0x8008 => d.writeAxPar i 0 v
  | 0x8010 => d.writeAxPar i 1 v
  | 0x8018 => d.writeAxPar i 2 v
  | 0x8208 => (d.writeRanged AX0_SLEW.SLEW_PPM (cut v 0 9) 1 500).writeRanged AX0_SLEW.RSTEP_PPM (cut v 16 9) 1 500
  | 0x8210 => d.writeHoldover v
  | 0xA000 => d.writeHold (bit v 0)
  | 0xA100 => d.writeHoldoff i (cut v 0 16)
  | 0xA800 => d.writePend i (val &&& mask)
  | 0xB000 => d.writeTgt i v
  | 0xF000 => if d.fld HQ_STAT.QSTATE i = 0 ∨ d.fld HQ_STAT.QSTATE i = 3 then plain else d
  | 0xF008 => d.writeHqCfg i v
  | 0x20100 =>
    if (d.eng i).frames.any (fun f => f.src.isSome) then plain.setFld ME_DCFG.PRIGRP (d.fld ME_DCFG.PRIGRP i) i else plain
  | 0x38120 => d.writeMeRelief i v
  | 0x3C008 => if d.pnState i = 0 ∨ d.pnState i = 3 then plain else d
  | 0x3C010 => d.writePnFifo i v
  | 0x3D000 => d.writePin i v
  | 0x3E000 => d.writeLtCfg i v
  | 0x3F000 => d.writeOwner i v
  | 0x3F008 => if cut v 6 2 = 3 then d else plain
  | 0x3F400 => if boot && !d.sealed then d.writeSpare v else d
  | 0x45010 => d.writeReloc v
  | 0x40000 => if boot && !d.sealed then plain.cwStart else d
  | 0x40008 => plain.portRoles
  | 0x40100 => if plain.flag CW_PCFG.EN i then plain else plain.setLstate i 0
  | 0x40200 => d.writePub i v
  | 0x40800 => d.writeRanged CW_TALLY.PERIOD_MS (cut v 0 10) 1 1000
  | 0x40900 => if i ≥ 5 then plain.setFld CW_TLOCAL.DIGEST (cut v 64 64) i else plain
  | 0x44040 => d.writeLcfg i v
  | 0x44100 => if i = 63 then plain.setFld HL_TRIG.TRIG (put (put (plain.fld HL_TRIG.TRIG 63) 1 1 0) 2 1 0) 63 else plain
  | 0x44800 => d.writeList i j v
  | b => if 0x9000 ≤ b ∧ b < 0xA000 then d.writeWt row i j v mask boot else plain

/-! ### Accesses (17 R560 to R562) -/

/-- An access of `size` bytes at an offset is one that BAR0 serves. -/
def served (off size : Nat) : Bool := (size == 4 || size == 8) && off % size == 0 && off < 0x100000

/-- A 4-byte part of a write at `at_`, the bits of the register that it covers with those of an 8-byte write's other half. -/
def Dev.writePart (d : Dev) (off size val : Nat) (boot first : Bool) : Dev :=
  match regAt off with
  | none => d
  | some (r, i, j, k) =>
    let n := min size (r.width / 8 - k)
    d.writeReg r i j ((val % 2 ^ (8 * n)) <<< (8 * k)) ((2 ^ (8 * n) - 1) <<< (8 * k)) boot first

/-- A write of 4 or 8 bytes: one register, or two of 32 bits, the lower first. -/
def Dev.writeBar (d : Dev) (off size val : Nat) (boot first : Bool) : Dev :=
  let wide : Bool := match regAt off with | some (r, _, _, _) => r.width > 32 | none => false
  if size = 8 ∧ wide = false then (d.writePart off 4 (val % 2 ^ 32) boot first).writePart (off + 4) 4 (val / 2 ^ 32) boot false
  else d.writePart off size val boot first

/-! ### BAR2 (09 R297, R298) -/

/-- An offset of an access names BAR2 (log 64): 0x10_0000 and the offset in its 4 KiB. -/
def inBar2 (off size : Nat) : Bool := (size == 4 || size == 8) && off % size == 0 && 0x100000 ≤ off && off < 0x101000

/-- A 4-byte word of BAR2 of function f: the MSI-X table, with the mask bit in each entry's last word, and the PBA. -/
def Dev.bar2Word (d : Dev) (f off : Nat) : Nat :=
  let x := d.func f
  let v := off / 16
  if off < 0x400 then
    if off % 16 = 12 then (!x.unmasked.contains v).toNat else cut (get 0 x.msix v).toNat (8 * (off % 16)) 32
  else if off = 0x800 ∨ off = 0x804 then pack (((upto 32).map (fun k => (k, 1, (x.pba.contains (k + 8 * (off - 0x800))).toNat))))
  else 0

/-- A 4-byte write to BAR2 of function f: a vector that is unmasked sends its pending message (08 R283). -/
def Dev.bar2Write (d : Dev) (f off v : Nat) : Dev :=
  let x := d.func f
  let k := off / 16
  if off < 0x400 then
    if off % 16 = 12 then
      let rest := x.unmasked.filter (· ≠ k)
      if bit v 0 then d.setFunc f { x with unmasked := rest } else (d.setFunc f { x with unmasked := k :: rest }).msixFlush f
    else d.setFunc f { x with msix := set 0 x.msix k (BitVec.ofNat 96 (put (get 0 x.msix k).toNat (8 * (off % 16)) 32 v)) }
  else d

/-- RC fields that a read covers whole return to their reset values (00 R6, 17 R560). -/
def Dev.clearRc (d : Dev) (off size : Nat) : Dev :=
  match regAt off with
  | none => d
  | some (r, i, j, k) =>
    r.flds.foldl (fun e x =>
      let lo := x.1.pos - 8 * r.base
      if x.2 = .rc ∧ 8 * k ≤ lo ∧ lo + x.1.len ≤ 8 * (k + size) then e.readClears x.1 i j else e) d

/-- The part as a read of its RC fields at an offset sees it in this cycle: before what the cycle has counted (17 R565). -/
def Dev.beforeCounts (d : Dev) (off : Nat) : Dev :=
  match regAt off with
  | none => d
  | some (r, i, j, _) =>
    r.flds.foldl (fun e x => match d.cycle.rc.find? (fun k => k.1 == x.1.key i j) with
      | some k => if x.2 = .rc then e.setFld x.1 k.2.1 i j else e
      | none => e) d

/-- A word as function f reads it: one that another function has written in this cycle as it was before (17 R565); zero where no register
lies (R562). -/
def Dev.wordFor (d : Dev) (f off : Nat) : Nat :=
  match regAt off, d.cycle.wr.find? (fun w => w.1 != f && w.2.1 == off) with
  | none, _ => 0
  | some _, some w => w.2.2
  | some _, none => (d.beforeCounts off).word32 off

/-- The host's write of this cycle is remembered with the words before it (17 R565). -/
def Dev.noteBar (d : Dev) (f off size : Nat) : Dev :=
  let c := d.cycle
  { d with cyc := { c with wr := c.wr ++ (f, off, d.word32 off) :: (if size = 8 then [(f, off + 4, d.word32 (off + 4))] else []) } }

/-- A write of the host (09 R297). Every write but the first key of SYS_RESET clears that register's sequence (01 R25). -/
def Dev.hostWrite (d : Dev) (a : BarAcc) : Dev :=
  if d.barUp && a.fn < 8 && d.fnOn a.fn then
    let first := d.hi.key1
    let d1 : Dev := { d with hi := { d.hi with key1 := false } }
    if served a.off a.size && d.mayWrite a.fn a.off false then (d1.noteBar a.fn a.off a.size).writeBar a.off a.size a.val.toNat false first
    else if inBar2 a.off a.size then
      let o := a.off - 0x100000
      let d2 := d1.bar2Write a.fn o (a.val.toNat % 2 ^ 32)
      if a.size = 8 then d2.bar2Write a.fn (o + 4) (a.val.toNat / 2 ^ 32) else d2
    else d1
  else d

/-- One read of 4 or 8 bytes: its value, and the part after it. -/
def Dev.hostRead8 (d : Dev) (fn off size : Nat) : Nat × Dev :=
  if served off size && d.mayRead fn off then
    let free := match regAt off with | some (r, _, _, _) => r.free | none => 0
    let d1 := d.clearRc off size
    let wide : Bool := match regAt off with | some (r, _, _, _) => r.width > 32 | none => false
    let d2 := if size = 8 ∧ wide = false then d1.clearRc (off + 4) 4 else d1
    (d.wordFor fn off + (if size = 8 then d.wordFor fn (off + 4) * 2 ^ 32 else 0), { d2 with freeCtr := d2.freeCtr + free })
  else if inBar2 off size then
    let o := off - 0x100000
    (d.bar2Word fn o + (if size = 8 then d.bar2Word fn (o + 4) * 2 ^ 32 else 0), d)
  else (0, d)

/-- Consecutive 8-byte reads. -/
def Dev.hostReads (d : Dev) (fn off : Nat) : Nat → Nat × Dev
  | 0 => (0, d)
  | n + 1 =>
    let x := d.hostRead8 fn off 8
    let y := x.2.hostReads fn (off + 8) n
    (x.1 + y.1 * 2 ^ 64, y.2)

/-- RC_READ (00 R6, 09 R297, 17 R560): a read of any register; `lastRead` is what it returns. -/
def rcReadEff (fn off size : Nat) (d : Dev) : Dev :=
  let x : Nat × Dev :=
    if !(d.barUp && fn < 8 && d.fnOn fn) then (0, d)
    else if size = 4 ∨ size = 8 then d.hostRead8 fn off size
    else if size % 8 = 0 ∧ size ≤ 64 ∧ off % 8 = 0 ∧ off % 64 + size ≤ 64 then d.hostReads fn off (size / 8)
    else (0, d)
  { x.2 with hi := { x.2.hi with lastRead := x.1 } }

/-! ### The rows -/

/-- A write that a row of its own names acts on the registers that the row names. -/
def Dev.hostWriteAt (d : Dev) (a : BarAcc) (bases : List Nat) : Dev :=
  match regAt a.off with
  | some (r, _, _, _) => if bases.contains r.base then d.hostWrite a else d
  | none => d

def sysModeGoEff (a : BarAcc) (d : Dev) : Dev := d.hostWriteAt a [0x10]
def sysModeHoldEff (a : BarAcc) (d : Dev) : Dev := d.hostWriteAt a [0x10]
def sysResetWriteEff (a : BarAcc) (d : Dev) : Dev := d.hostWriteAt a [0x18]
def pushGoEff (a : BarAcc) (d : Dev) : Dev := d.hostWriteAt a [0x50]
def axCfgWriteEff (a : BarAcc) (d : Dev) : Dev := d.hostWriteAt a [0x8000, 0x8008, 0x8010, 0x8018]
def ax0HoldWriteEff (a : BarAcc) (d : Dev) : Dev := d.hostWriteAt a [0x8210]
def wtCfgWriteEff (a : BarAcc) (d : Dev) : Dev :=
  d.hostWriteAt a [0x9000, 0x9008, 0x9010, 0x9018, 0x9020, 0x9028, 0x9030, 0x9038, 0x9040, 0x9100]
def tioPinWriteEff (a : BarAcc) (d : Dev) : Dev := d.hostWriteAt a [0x3D000]
def flushTxEff (a : BarAcc) (d : Dev) : Dev := d.hostWriteAt a [0x3C010]
def flushRxEff (a : BarAcc) (d : Dev) : Dev := d.hostWriteAt a [0x3C010]
def slTgtWriteEff (a : BarAcc) (d : Dev) : Dev := d.hostWriteAt a [0xB000]
def slPendClearEff (a : BarAcc) (d : Dev) : Dev := d.hostWriteAt a [0xA800]
def sluiceHoldWriteEff (a : BarAcc) (d : Dev) : Dev := d.hostWriteAt a [0xA000]
def holdoffWriteEff (a : BarAcc) (d : Dev) : Dev := d.hostWriteAt a [0xA100]
def hqEnWriteEff (a : BarAcc) (d : Dev) : Dev := d.hostWriteAt a [0xF008]
def hqDiscardEff (a : BarAcc) (d : Dev) : Dev := d.hostWriteAt a [0xF008]
def cqEnWriteEff (a : BarAcc) (d : Dev) : Dev := d.hostWriteAt a [0x5008]
def hiSlabWriteEff (a : BarAcc) (d : Dev) : Dev := d.hostWriteAt a [0x4000]
def bhOwnerWriteEff (a : BarAcc) (d : Dev) : Dev := d.hostWriteAt a [0x3F000]
def relocWriteEff (a : BarAcc) (d : Dev) : Dev := d.hostWriteAt a [0x45010]
def cwPubWriteEff (a : BarAcc) (d : Dev) : Dev := d.hostWriteAt a [0x40200]
def hlLcfgWriteEff (a : BarAcc) (d : Dev) : Dev := d.hostWriteAt a [0x44040]

def execSysModeGo (a : BarAcc) (s : State) : Host.Outcome State Fault Refusal := s.act (sysModeGoEff a)
def execSysModeHold (a : BarAcc) (s : State) : Host.Outcome State Fault Refusal := s.act (sysModeHoldEff a)
def execSysResetWrite (a : BarAcc) (s : State) : Host.Outcome State Fault Refusal := s.actTime (sysResetWriteEff a)
def execPushGo (a : BarAcc) (s : State) : Host.Outcome State Fault Refusal := s.act (pushGoEff a)
def execAxCfgWrite (a : BarAcc) (s : State) : Host.Outcome State Fault Refusal := s.act (axCfgWriteEff a)
def execAx0HoldWrite (a : BarAcc) (s : State) : Host.Outcome State Fault Refusal := s.actTime (ax0HoldWriteEff a)
def execWtCfgWrite (a : BarAcc) (s : State) : Host.Outcome State Fault Refusal := s.act (wtCfgWriteEff a)
def execTioPinWrite (a : BarAcc) (s : State) : Host.Outcome State Fault Refusal := s.act (tioPinWriteEff a)
def execFlushTx (a : BarAcc) (s : State) : Host.Outcome State Fault Refusal := s.act (flushTxEff a)
def execFlushRx (a : BarAcc) (s : State) : Host.Outcome State Fault Refusal := s.act (flushRxEff a)
def execSlTgtWrite (a : BarAcc) (s : State) : Host.Outcome State Fault Refusal := s.act (slTgtWriteEff a)
def execSlPendClear (a : BarAcc) (s : State) : Host.Outcome State Fault Refusal := s.act (slPendClearEff a)
def execSluiceHoldWrite (a : BarAcc) (s : State) : Host.Outcome State Fault Refusal := s.act (sluiceHoldWriteEff a)
def execHoldoffWrite (a : BarAcc) (s : State) : Host.Outcome State Fault Refusal := s.act (holdoffWriteEff a)
def execHqEnWrite (a : BarAcc) (s : State) : Host.Outcome State Fault Refusal := s.act (hqEnWriteEff a)
def execHqDiscard (a : BarAcc) (s : State) : Host.Outcome State Fault Refusal := s.act (hqDiscardEff a)
def execCqEnWrite (a : BarAcc) (s : State) : Host.Outcome State Fault Refusal := s.act (cqEnWriteEff a)
def execHiSlabWrite (a : BarAcc) (s : State) : Host.Outcome State Fault Refusal := s.act (hiSlabWriteEff a)
def execBhOwnerWrite (a : BarAcc) (s : State) : Host.Outcome State Fault Refusal := s.act (bhOwnerWriteEff a)
def execRelocWrite (a : BarAcc) (s : State) : Host.Outcome State Fault Refusal := s.act (relocWriteEff a)
def execCwPubWrite (a : BarAcc) (s : State) : Host.Outcome State Fault Refusal := s.act (cwPubWriteEff a)
def execHlLcfgWrite (a : BarAcc) (s : State) : Host.Outcome State Fault Refusal := s.act (hlLcfgWriteEff a)
def execRcRead (fn off size : Nat) (s : State) : Host.Outcome State Fault Refusal := s.act (rcReadEff fn off size)
def execRegWrite (a : BarAcc) (s : State) : Host.Outcome State Fault Refusal := s.actTime (fun d => d.hostWrite a)

end Sys2Proof.Machine
end

