-- ==== Sys2Proof/Machine/Boot.lean ====
section
/-! DEFINITION. The boot ROM and the boot code (15 R506 to R517, R522, R523), and the load of AX0 from the vigil (15 R531, R532). -/

namespace Sys2Proof.Machine

open Sys2Proof

/-! ### Entry into RESET (15 R506 steps 1 to 7) -/

/-- AX0 is loaded from the vigil (15 R531, R532): the value at the edge and the time since, or zero after a cold power-up that leaves
VALID 0; no rate and no correction; FREE with UNC_ON, or INVALID where VALID is 0. -/
def Dev.loadAx0 (d : Dev) : Dev :=
  let v := if d.flag VG_STAT.VALID = false ∧ d.fld SYS_RSTCAUSE.CAUSE = 0 then 0 else d.vg.now
  let a : Accum := { val := BitVec.ofNat 112 v }
  let off := (d.vg.cnt + 2 ^ 96 - d.vg.offAt) % 2 ^ 96
  let drift := ceilDiv (d.fld VG_CTRL.VDRIFT_PPB * off) (1000000000 * 2 ^ 32)
  let unc := min (d.fld VG_OFF.UNC_OFF + drift + 100) 0xFFFFFFFF
  let ok := d.flag VG_STAT.VALID
  let tb : Timebase := {
    d.tb with a0 := a, a1 := a, a2 := a, ref := d.tb.elapsed, uncBase := unc, uncAt := d.tb.elapsed, lost := false }
  let d1 := ({ d with tb := tb, boot := { d.boot with ax0 := v >>> 48, unc := if ok then unc else 0xFFFFFFFF } } : Dev).setFld VG_OFF.T_OFF
    (min (off / (1000000000 * 2 ^ 32)) 0xFFFFFFFF)
  (d1.setFld AX0_STATUS.STATE (if ok then 0 else 3)).setFault SYS_FAULT.AX0_INVALID (!ok)

/-- Steps 4 to 7 of R506: banks zeroed, the ring scanned, the repair map applied, the endpoint enabled. -/
def Dev.romPrepare (d : Dev) : Dev :=
  let d1 := ({ d with mem := [], dr := {} } : Dev).logScan d.lgLast d.lgTail
  let d2 := d1.applyMap
  { d2 with boot := { d2.boot with loaded := true } }

/-- The sources that BOOTSEL allows, in order (15 R507): 0 QSPI copy A, 1 QSPI copy B, 2 PCIe push. -/
def bootSources (sel : Nat) : List Nat :=
  match sel with
  | 0 => [0, 1, 2]
  | 1 => [2]
  | 2 => [0, 1]
  | _ => [1, 0, 2]

/-- The boot ROM goes to the next source, or has none left (15 R507, R517). -/
def Dev.nextSource (d : Dev) : Dev :=
  match d.boot.sources with
  | [] => d.setFld SYS_BOOT.STAGE 0xF
  | s :: t => (({ d with boot := { d.boot with sources := t } } : Dev).setFld SYS_BOOT.STAGE (s + 1)).setFld SYS_BOOT.SOURCE s

/-- REFCLK_IN's PLL has locked (15 R506 step 1, 01 R13). -/
def Dev.romLocked (d : Dev) : Dev := (d.setFld CK_STAT.LOCKED 1).setFld CK_STAT.IN_OK 1

/-- BOOT_ROM_START (15 R506 steps 1 to 7, R507): BOOTSEL[1:0] is whatever the pins give. -/
def bootRomStartEff (d : Dev) : Dev :=
  if d.sys.powered ∧ d.sys.resetLow = false ∧ d.boot.loaded = false then
    let d1 := d.romLocked.loadAx0.romPrepare
    let sel := Config.freeValue d1.freeCtr % 4
    let d2 := d1.nextFree.setFld SYS_BOOT.BOOTSEL sel
    ({ d2 with boot := { d2.boot with sources := bootSources sel } } : Dev).nextSource
  else d

/-! ### Failure (15 R517) -/

/-- A failed check or operation: LAST_ERR, ERR_OP, a reset of the core but AX0, and the next source. -/
def Dev.bootFail (d : Dev) (code op : Nat) : Dev :=
  let e := d.coreReset true
  let keep (x : Dev) (f : Fld) : Dev := x.setFld f (d.fld f)
  let e1 := [SYS_BOOT.SOURCE, SYS_BOOT.BOOTSEL, SYS_RSTCAUSE.ATTEMPTS].foldl keep e.romLocked
  let e2 := ((e1.setFld SYS_BOOT.LAST_ERR code).setFld SYS_BOOT.ERR_OP op).setFld SYS_RSTCAUSE.CAUSE 4
  let e3 := e2.romPrepare
  ({ e3 with boot := { e3.boot with sources := d.boot.sources } } : Dev).nextSource

/-! ### The image (15 R510 to R512) -/

/-- LENGTH. -/
def bootLen (b : List Byte) : Nat := field b 8 4

/-- CODE_OFF. -/
def bootOff (b : List Byte) : Nat := field b 0x10 4

/-- CODE_LEN. -/
def bootCodeLen (b : List Byte) : Nat := field b 0x14 4

/-- LENGTH is one that an image may have. -/
def bootLenOk (b : List Byte) : Bool := decide (0x180 ≤ bootLen b) && decide (bootLen b ≤ 0x100000) && bootLen b % 16 == 0

/-- The header passes FORMAT. -/
def bootHeaderOk (b : List Byte) : Bool :=
  field b 0 4 == 0x42544B5A && field b 4 2 == 1 && field b 6 2 == 0 && bootLenOk b && bootOff b % 16 == 0 && decide (0x100 ≤ bootOff b) &&
    decide (0 < bootCodeLen b) && bootCodeLen b % 16 == 0 && field b 0x18 8 == 0 && field b 0x60 160 == 0 &&
    decide (bootOff b + bootCodeLen b ≤ bootLen b - 64)

/-- The KEY_HASH slots that a key matches; one of zeros is empty (15 R511). -/
def Dev.keySlots (d : Dev) (key : List Byte) : List Nat :=
  (upto 4).filter (fun s => get 0 d.fuse.hash s ≠ 0 && get 0 d.fuse.hash s == sha256 key)

/-- Those that are not revoked. -/
def Dev.liveSlots (d : Dev) (key : List Byte) : List Nat := (d.keySlots key).filter (fun s => !d.fuse.revoke.getLsbD s)

/-- The error of an image (15 R512), in the order of the checks; 0 where every check passes. -/
def Dev.imageError (d : Dev) (b : List Byte) : Nat :=
  let push : Bool := d.fld SYS_BOOT.STAGE == 4
  let key := (b.drop 0x20).take 64
  if decide (b.length < 64) || (push && (b.length ≠ d.fld SYS_PUSHLEN.LEN || b.length ≠ bootLen b)) || (bootLenOk b && b.length ≠ bootLen b)
  then 0x02
  else if bootHeaderOk b = false then 0x03
  else if (d.keySlots key).isEmpty then 0x04
  else if (d.liveSlots key).isEmpty then 0x05
  else if field b 0xC 4 < d.fuse.svn then 0x06
  else if ecdsaVerify (BitVec.ofNat 512 (ofBytes key)) (sha256 (b.take (b.length - 64)))
    (BitVec.ofNat 512 (ofBytes (b.drop (b.length - 64)))) = false then 0x07
  else 0

/-! ### The boot code (15 R513, R515) -/

/-- One operation: OP, FLAGS, bytes 2 and 3, ARG, VAL. -/
structure BootOp where
  op : Nat
  flags : Nat
  pad : Nat
  arg : Nat
  val : Nat
deriving DecidableEq, Repr

/-- The operation of an index. -/
def bootOpAt (b : List Byte) (i : Nat) : BootOp :=
  let a := bootOff b + 16 * i
  { op := field b a 1, flags := field b (a + 1) 1, pad := field b (a + 2) 2, arg := field b (a + 4) 4, val := field b (a + 8) 8 }

/-- `n` bytes at an image offset lie in PAYLOAD. -/
def inPayload (b : List Byte) (a n : Nat) : Bool := decide (0x100 ≤ a) && decide (a + n ≤ bootLen b - 64)

/-- An operation fails OP_FORMAT (15 R513, R515). -/
def bootOpBad (b : List Byte) (o : BootOp) : Bool :=
  let flags : Nat := if o.op = 8 then o.flags / 2 else o.flags
  o.pad ≠ 0 || flags ≠ 0 ||
  match o.op with
  | 1 => decide (o.val ≥ 2 ^ 32)
  | 2 | 3 | 4 => false
  | 5 => o.arg ≠ 0 || decide (o.val ≥ 2 ^ 16)
  | 6 => decide (o.val ≥ 8) || !inPayload b o.arg 64
  | 7 => o.val ≠ 0 || !inPayload b o.arg 32
  | 8 => decide (o.val ≥ 2 ^ 37) || !inPayload b o.arg (cut o.val 0 32)
  | 9 => decide (o.val ≥ 32) || !inPayload b o.arg 128
  | 0xA => o.arg ≠ 0 || !((cut o.val 0 8 == 1 && o.val / 1024 == 0) || (cut o.val 0 8 == 2 && cut o.val 8 8 == 0 && o.val / 2 ^ 23 == 0))
  | 0xF => o.arg ≠ 0 || o.val ≠ 0
  | _ => true

/-- The operation that the boot code has reached. -/
def Dev.bootOp (d : Dev) : BootOp := bootOpAt d.boot.image d.boot.op

/-- The boot code runs, and has reached an operation of a kind. -/
def Dev.bootAt (d : Dev) (op : Nat) : Bool :=
  d.fld SYS_BOOT.STAGE == 6 && d.bootOp.op == op && d.boot.poll.isNone && d.boot.delay.isNone

/-- The operation that is reached next is one, and is well formed (15 R515). -/
def Dev.bootReach (d : Dev) : Dev :=
  if d.fld SYS_BOOT.STAGE = 6 then
    if 16 * d.boot.op ≥ bootCodeLen d.boot.image then d.bootFail 0x0D d.boot.op
    else if bootOpBad d.boot.image d.bootOp then d.bootFail 0x08 d.boot.op
    else d
  else d

/-- The boot code goes on with the next operation. -/
def Dev.bootNext (d : Dev) : Dev :=
  if d.fld SYS_BOOT.STAGE = 6 then
    ({ d with boot := { d.boot with op := d.boot.op + 1, poll := none, delay := none } } : Dev).bootReach
  else d

/-- The running operation fails. -/
def Dev.bootError (d : Dev) (code : Nat) : Dev := d.bootFail code d.boot.op

/-- BOOT_FETCH_DONE (15 R508, R509, R512): an image that passes every check is run. -/
def bootFetchDoneEff (f : BootFetch) (d : Dev) : Dev :=
  let st := d.fld SYS_BOOT.STAGE
  if d.sys.powered ∧ (st = 1 ∨ st = 2 ∨ st = 4) then
    let d1 := d.count SYS_RSTCAUSE.ATTEMPTS
    match f with
    | .noSfdp => d1.bootFail (if st = 4 then 0x02 else 0x01) 0
    | .failed => d1.bootFail 0x02 0
    | .image b =>
      let e := d1.imageError b
      if e ≠ 0 then d1.bootFail e 0
      else
        ({ d1 with
           boot := { d1.boot with image := b, slots := d1.liveSlots ((b.drop 0x20).take 64), op := 0 } } : Dev).setFld SYS_BOOT.STAGE 6
          |>.bootReach
  else d

/-- A write of the boot code (15 R514): OP_WRITE where the offset holds no register. -/
def Dev.bootWrite (d : Dev) (off size val : Nat) : Dev :=
  match regAt off with
  | none => d.bootError 0x09
  | some _ =>
    if served off size then
      let first := d.hi.key1
      let d1 : Dev := { d with hi := { d.hi with key1 := false } }
      (if d1.mayWrite 0 off true then d1.writeBar off size val true first else d1).bootNext
    else d.bootError 0x09

/-- A 32-bit read of the boot code. -/
def Dev.bootRead (d : Dev) (off : Nat) : Nat × Dev :=
  match regAt off with
  | none => (0, d)
  | some (r, _, _, _) =>
    if served off 4 then (d.readBar off 4, { d.clearRc off 4 with freeCtr := d.freeCtr + r.free }) else (0, d)

/-- BOOT_WR32. -/
def bootWr32Eff (d : Dev) : Dev := if d.bootAt 1 then d.bootWrite d.bootOp.arg 4 d.bootOp.val else d

/-- BOOT_WR64. -/
def bootWr64Eff (d : Dev) : Dev := if d.bootAt 2 then d.bootWrite d.bootOp.arg 8 d.bootOp.val else d

/-- BOOT_RMW32. -/
def bootRmw32Eff (d : Dev) : Dev :=
  if d.bootAt 3 then
    let o := d.bootOp
    let mask := cut o.val 32 32
    let x := d.bootRead o.arg
    x.2.bootWrite o.arg 4 (x.1 - (x.1 &&& mask) + (cut o.val 0 32 &&& mask))
  else d

/-- BOOT_POLL32: one look at the register; the first one starts the 10 ms. -/
def bootPoll32Eff (d : Dev) : Dev :=
  let o := d.bootOp
  if d.fld SYS_BOOT.STAGE = 6 ∧ o.op = 4 then
    let x := d.bootRead o.arg
    if x.1 &&& cut o.val 32 32 = cut o.val 0 32 then x.2.bootNext
    else { x.2 with boot := { x.2.boot with poll := some (d.boot.poll.getD (d.ecNs + 10000000)) } }
  else d

/-- BOOT_POLL_TIMEOUT. -/
def bootPollTimeoutEff (d : Dev) : Dev :=
  match d.boot.poll with
  | some t => if d.fld SYS_BOOT.STAGE = 6 ∧ t ≤ d.ecNs then d.bootError 0x0A else d
  | none => d

/-- BOOT_DELAY. -/
def bootDelayEff (d : Dev) : Dev :=
  if d.bootAt 5 then { d with boot := { d.boot with delay := some (d.ecNs + 1000 * d.bootOp.val) } } else d

/-- BOOT_DELAY_END. -/
def bootDelayEndEff (d : Dev) : Dev :=
  match d.boot.delay with
  | some t => if d.fld SYS_BOOT.STAGE = 6 ∧ t ≤ d.ecNs then d.bootNext else d
  | none => d

/-- HMKEY: a signing key slot takes 64 bytes. -/
def hmkeyEff (d : Dev) : Dev :=
  if d.bootAt 6 then
    let k := d.bootOp.val
    ((d.setFld HM_KEY.KEY (field d.boot.image d.bootOp.arg 64) k).setBit HM_STATUS.KEYS_SET 0 k true).bootNext
  else d

/-- LOGKEY (15 R522). -/
def logkeyEff (d : Dev) : Dev :=
  if d.bootAt 7 then
    (({ d with boot := { d.boot with logKey := BitVec.ofNat 256 (field d.boot.image d.bootOp.arg 32) } } : Dev).setFld HM_STATUS.LOGKEY_SET
      1).bootNext
  else d

/-- BOOT_ME_IMAGE (15 R514, 06 R216, R217). -/
def bootMeImageEff (d : Dev) : Dev :=
  if d.bootAt 8 then
    let o := d.bootOp
    let n := cut o.val 32 5
    let len := cut o.val 0 32
    let bs := (d.boot.image.drop o.arg).take len
    if decide (n ≥ 24) || decide (len > 90432) || headerBad bs len || !d.fbit HM_EKEY.KEYS n (imgKey bs) || microBytesBad bs ||
        !signatureOk (d.fld HM_KEY.KEY (imgKey bs)) bs then d.bootError 0x0B
    else
      let d1 := (d.writeImage (d.meHome n) bs).setFld ME_IMAGE.LSTATE 2 (d.meHome n)
      let acts := if o.flags % 2 = 1 then d.boot.acts.filter (· ≠ n) ++ [n] else d.boot.acts
      ({ d1 with boot := { d1.boot with acts := acts } } : Dev).bootNext
  else d

/-- PN_PROG (15 R514, 07 R244). -/
def pnProgEff (d : Dev) : Dev :=
  if d.bootAt 9 then
    let p := BitVec.ofNat 1024 (field d.boot.image d.bootOp.arg 128)
    if blockBad p then d.bootError 0x0C
    else ({ d with boot := { d.boot with progs := ins d.bootOp.val p d.boot.progs } } : Dev).bootNext
  else d

/-- FUSE (15 R513, R515, R516). -/
def fuseEff (d : Dev) : Dev :=
  if d.bootAt 0xA then
    let v := d.bootOp.val
    let s := cut v 8 2
    let n := cut v 16 7
    if cut v 0 8 = 1 then
      if d.boot.slots.contains s then d.bootError 0x0E
      else ({ d with fuse := { d.fuse with revoke := d.fuse.revoke ||| BitVec.ofNat 4 (2 ^ s) } } : Dev).bootNext
    else if min 64 n > field d.boot.image 0xC 4 then d.bootError 0x0E
    else ({ d with fuse := { d.fuse with svn := max d.fuse.svn (min 64 n) } } : Dev).bootNext
  else d

/-- SEAL (15 R506 step 11, R514, R523, 01 R22, 11 R394, 14 R487, R495): the map is sealed, the part enters STEADY, and what the boot code
has loaded starts. -/
def sealEff (d : Dev) : Dev :=
  if d.bootAt 0xF then
    let d1 := (d.setFld CW_TLOCAL.DIGEST (digest8 d.mapBytes) 0).setFld HM_SEAL.SEAL 1
    let d2 := ((d1.setFld SYS_BOOT.STAGE 7).setFld SYS_MODE.MODE 1).setFld SYS_MODE.CAUSE d.boot.keyOn.toNat
    let d3 := ({ d2 with dr := { d2.dr with zeroing := true } } : Dev).raiseMode 0
    let d4 := d3.resumeLock.logPowerup
    let d5 := d.boot.acts.foldl (fun e n => (e.meStart n (e.meHome n) (e.eng (e.meHome n)).storesOnly).warmStale n) d4
    let d6 := d.boot.progs.foldl (fun e x => e.shadowLoad x.1 x.2 none) d5
    { d6 with boot := { d6.boot with image := [], acts := [], progs := [], sealAt := some d.tb.eclk } }
  else d

/-! ### The rows -/

def execBootRomStart (s : State) : Host.Outcome State Fault Refusal := s.actAll bootRomStartEff
def execBootFetchDone (f : BootFetch) (s : State) : Host.Outcome State Fault Refusal := s.actMem (bootFetchDoneEff f)
def execBootWr32 (s : State) : Host.Outcome State Fault Refusal := s.actAll bootWr32Eff
def execBootWr64 (s : State) : Host.Outcome State Fault Refusal := s.actAll bootWr64Eff
def execBootRmw32 (s : State) : Host.Outcome State Fault Refusal := s.actAll bootRmw32Eff
def execBootPoll32 (s : State) : Host.Outcome State Fault Refusal := s.actMem bootPoll32Eff
def execBootPollTimeout (s : State) : Host.Outcome State Fault Refusal := s.actMem bootPollTimeoutEff
def execBootDelay (s : State) : Host.Outcome State Fault Refusal := s.act bootDelayEff
def execBootDelayEnd (s : State) : Host.Outcome State Fault Refusal := s.actMem bootDelayEndEff
def execHmkey (s : State) : Host.Outcome State Fault Refusal := s.actMem hmkeyEff
def execLogkey (s : State) : Host.Outcome State Fault Refusal := s.actMem logkeyEff
def execBootMeImage (s : State) : Host.Outcome State Fault Refusal := s.actMem bootMeImageEff
def execPnProg (s : State) : Host.Outcome State Fault Refusal := s.actMem pnProgEff
/-- The one row that blows fuses (15 R516); AX0 stays. -/
def execFuse (s : State) : Host.Outcome State Fault Refusal := .next { s with dev := { fuseEff s.dev with tb := s.dev.tb } }
def execSeal (s : State) : Host.Outcome State Fault Refusal := s.act sealEff

end Sys2Proof.Machine
end

