-- ==== Sys2Proof/Machine/Rings.lean ====
section
/-! DEFINITION. Commands: their checks and effects (09 R307, R311 to R319, 15 R519), the acceptance of entries, the reads of bodies in
host memory, and the meanings of the command rows. -/

namespace Sys2Proof.Machine

open Sys2Proof

/-! ### Checks (09 R312 to R314, 15 R519) -/

/-- Class of READ_STATE. -/
def Cmd.cls (c : Cmd) : Nat := c.target / 4096

/-- Index of READ_STATE. -/
def Cmd.idx (c : Cmd) : Nat := c.target % 4096

/-- FORCE. -/
def Cmd.force (c : Cmd) : Bool := c.w.getLsbD 8

/-- BARRIER of an entry. -/
def barrierOf (w : Entry) : Bool := w.getLsbD 9

/-- The body's address in bytes 8 to 15. -/
def Cmd.addr (c : Cmd) : Nat := bits c.w 64 64

/-- The channel item of ARM and UPDATE. -/
def Cmd.item (c : Cmd) : ChItem := ChItem.ofBytes (bits c.w 64 384) 0

/-- The bits of the body that an opcode uses: (first bit, width). -/
def bodyFields (op : Nat) (opt : Bool) : List (Nat × Nat) :=
  match op with
  | 0x01 => [(64, 384)]
  | 0x03 => [(64, 400)]
  | 0x04 => [(64, 64), (128, 1)]
  | 0x05 => [(64, 32), (128, 256)]
  | 0x06 => [(64, 3), (72, 8), (128, 48), (192, 48), (256, 32)]
  | 0x07 => [(64, 80), (160, 32)]
  | 0x08 => [(64, 64), (128, 32), (160, 1)]
  | 0x09 => [(64, 16)]
  | 0x0A => [(64, 8)]
  | 0x0B => [(64, 8)]
  | 0x0C => [(64, 64), (128, 2)]
  | 0x0E => [(64, 16)]
  | 0x0F => [(64, 64), (128, 1)]
  | 0x10 => [(64, 128)]
  | 0x11 => if opt then [(64, 128), (192, 32)] else [(64, 64), (128, 1)]
  | 0x12 => [(64, 32), (128, 64)]
  | _ => []

/-- The opcodes for which OPT has a meaning. -/
def hasOpt (op : Nat) : Bool := [0x02, 0x05, 0x07, 0x08, 0x09, 0x0B, 0x0D, 0x0E, 0x11].contains op

/-- The address and the length of a body or a result in a berth, where SPACE = 1. -/
def Cmd.berthBody (c : Cmd) : Option (Nat × Nat) :=
  let a := c.addr % 2 ^ 21
  if (c.op = 0x04 ∨ (c.op = 0x11 ∧ c.opt = false)) ∧ bits c.w 128 1 = 1 then some (a, 64)
  else if c.op = 0x08 ∧ bits c.w 160 1 = 1 then some (a, bits c.w 128 32)
  else if c.op = 0x0F ∧ bits c.w 128 1 = 1 then some (a, 128)
  else none

/-- A reserved bit of an entry is not 0: FLAGS[6:4], an OPT without a meaning, a bit of the body that the opcode does not use, or a bit
above a berth address. -/
def Cmd.reservedBad (c : Cmd) : Bool :=
  let used := (bodyFields c.op c.opt).foldl (fun a x => a ||| ((2 ^ x.2 - 1) <<< x.1)) (2 ^ 64 - 1)
  bits c.w 12 3 ≠ 0 || (c.opt && !hasOpt c.op) || c.w.toNat &&& used ≠ c.w.toNat || (c.berthBody.isSome && decide (c.addr ≥ 2 ^ 21))

/-- The map grants what a command names to its function (15 R519), and TARGET lies in the range of the opcode. -/
def Dev.grants (d : Dev) (c : Cmd) : Bool :=
  let f := c.fn
  let t := c.target
  let quay (q : Nat) : Bool := d.fbit HM_FQUAY.QUAY f q
  let axis (n : Nat) : Bool := d.fbit HM_FRES.AXES f n
  let body : Bool := match c.berthBody with | some x => !d.bodyDenied f x.1 x.2 | none => true
  body && match c.op with
  | 0x01 => decide (t < 512) && quay (t / 16) && (c.item.axis :: c.item.xaxes).all (fun n => n == 0 || axis n) &&
      !d.ringDenied c.item (fun b => d.fbit HM_FBERTH.BERTH f b)
  | 0x02 | 0x03 => decide (t < 512) && quay (t / 16)
  | 0x04 =>
    match c.cls with
    | 0 => decide (c.idx < 512) && quay (c.idx / 16)
    | 1 => decide (c.idx < 16) && axis c.idx
    | 2 => decide (c.idx < 8) && d.fbit HM_FRES.TRK f c.idx
    | 3 => decide (c.idx < 32) && d.fbit HM_FPIN.PIN f c.idx
    | 4 => decide (c.idx < 32) && d.lighterOwner c.idx == some f
    | 5 => decide (c.idx < 32) && d.fbit HM_FBERTH.BERTH f c.idx
    | _ => false
  | 0x05 => decide (0 < t) && decide (t < 16) && axis t
  | 0x06 => t == 0 && axis 0
  | 0x07 => t == 0 && axis 0 && (!c.force || d.flag HM_FRIGHTS.STEP_FORCE f)
  | 0x08 | 0x09 | 0x0B => decide (t < 24) && d.fbit HM_FENG.ENG f t
  | 0x0A => decide (t < 32) && quay t
  | 0x0C | 0x0D => decide (t < 32) && d.lighterOwner t == some f
  | 0x0E => decide (t < 32) && d.fbit HM_FBERTH.BERTH f t
  | 0x0F => decide (t < 32) && d.fbit HM_FPIN.PIN f t
  | 0x11 => t == 0 && d.flag HM_FRIGHTS.LOG_CLEAR f
  | 0x12 => decide (t < 16) && d.flag HM_FRIGHTS.TALLY f
  | 0x14 => t == 0 && d.flag HM_FRIGHTS.KEY_OFF f
  | _ => t == 0

/-- The status that the general checks give (09 R312), 0 where they pass: OPCODE, FORCE misuse, DENIED, reserved bits. -/
def Dev.cmdCheck (d : Dev) (c : Cmd) : Nat :=
  if c.op > 0x14 then 0x16
  else if c.force && c.op != 0x07 then 0x01
  else if !d.grants c then 0x09
  else if c.reservedBad then 0x01
  else 0

/-- GEN of a COMPLETION (09 R316): of the channel's item, or the ring's RGEN at the fetch. -/
def Dev.endGen (d : Dev) (c : Cmd) : Nat :=
  if 0x01 ≤ c.op ∧ c.op ≤ 0x03 then (d.chan c.target).shown.gen
  else if c.op = 0x04 ∧ c.cls = 0 then (d.chan c.idx).shown.gen
  else c.rgen

/-- A command ends with the GEN that R316 gives it. -/
def Dev.endCmd (d : Dev) (c : Cmd) (status : Nat) (b : List (Nat × Nat × Nat) := []) : Dev := d.finishAt c status (d.endGen c) d.ns b

/-! ### Results in memory (09 R314, R315) -/

/-- A 64-byte result is written to host memory of the function, or to a berth: the status, and the part. -/
def Dev.writeResult (d : Dev) (c : Cmd) (v : Nat) : Nat × Dev :=
  let bs := bytesOf v 64
  match c.berthBody with
  | none => (0, d.post (.write c.fn c.addr bs))
  | some x =>
    if d.bodyLost c.fn x.1 64 then (0x14, d)
    else (0, ((d.startReturn (x.1 / 65536)).portWrite (d.onP1 (x.1 / 65536) 2 c.fn) x.1 bs).2)

/-- A command with a result stalls while the berth's zeroing runs (11 R394). -/
def Dev.resultStalls (d : Dev) (c : Cmd) : Bool :=
  match c.berthBody with
  | some x => (c.op == 0x04 || c.op == 0x11) && d.dr.zeroing && decide (x.1 < 0x100000) && d.grants c
  | none => false

/-! ### The opcodes (09 R313 to R317) -/

/-- ARM (04 R117 to R119). -/
def Dev.armCmd (d : Dev) (c : Cmd) : Dev :=
  let x := d.arm c.target c.item
  let ch := x.2.chan c.target
  let queued : Bool := match ch.queued with | some i => i.gen == ch.gen | none => false
  if x.1 = 0 then x.2.finishAt c 0 ch.gen d.ns [byt 22 2 ch.gen, byt 24 1 ch.cstate, (200, 1, queued.toNat)] else d.endCmd c x.1

/-- UPDATE (04 R120). -/
def Dev.updateCmd (d : Dev) (c : Cmd) : Dev :=
  let x := d.update c.target c.item (bits c.w 448 16)
  let ch := x.2.chan c.target
  if x.1 = 0 then x.2.finishAt c 0 ch.shown.gen d.ns [byt 22 2 ch.shown.gen, byt 24 1 ch.cstate] else d.endCmd c x.1

/-- DISARM (04 R121): it completes when the channel is IDLE. -/
def Dev.disarmCmd (d : Dev) (c : Cmd) : Dev :=
  let x := d.disarmAny c.target c.opt
  let w : Disarm := { cmd := c, gen := x.2.1, fails := x.2.2.1, trunc := x.2.2.2 }
  let ch := x.1.chan c.target
  if ch.cstate = 0 then x.1.disarmDone w else x.1.setChan c.target { ch with waits := ch.waits ++ [w] }

/-- READ_STATE (09 R315). -/
def Dev.readStateCmd (d : Dev) (c : Cmd) : Dev :=
  match d.stateBytes c.cls c.idx with
  | none => d.endCmd c 0x09
  | some v =>
    if c.addr % 64 ≠ 0 then d.endCmd c 0x01
    else
      let x := d.writeResult c v
      x.2.endCmd c x.1 [byt 22 1 c.cls]

/-- SET_AXIS (02 R59, R60, 09 R317). -/
def Dev.setAxisCmd (d : Dev) (c : Cmd) : Dev :=
  let n := c.target
  let cfg := bits c.w 64 32
  match d.setAxisCheck n cfg c.opt with
  | 0 =>
    let r : AxisReq := {
      cmd := c, cfg := cfg, para := bits c.w 128 64, parb := bits c.w 192 64, parc := bits c.w 256 64, cont := c.opt, at_ := bits c.w 320 64 }
    d.setAxis n { d.axis n with sched := (d.axis n).sched ++ [r] }
  | s => d.finish c s

/-- DISCIPLINE (02 R37 to R42). -/
def Dev.disciplineCmd (d : Dev) (c : Cmd) : Dev :=
  if d.dsrcDriver then
    let x := d.discipline (bits c.w 64 1 == 1) (toS 48 (bits c.w 128 48)) (toS 48 (bits c.w 192 48)) (bits c.w 65 2) (bits c.w 256 32)
      (bits c.w 72 8)
    x.2.finish c x.1 [byt 22 1 (x.2.fld AX0_STATUS.STEP_COUNT)]
  else d.finish c 0x07

/-- A channel is armed on AX0 or on a TIME_DERIVED axis (02 R44). -/
def Dev.armedOnTime (d : Dev) : Bool := d.armedOn 0 || (upto 16).any (fun n => decide (0 < n) && d.axType n == 1 && d.armedOn n)

/-- STEP_TIME (02 R43 to R45, 09 R317). -/
def Dev.stepTimeCmd (d : Dev) (c : Cmd) : Dev :=
  if c.force = false ∧ d.steady = false then d.finish c 0x0A
  else if c.force = false ∧ (d.flag SYS_MODE.STEPPED ∨ d.lg.steps ≠ []) then d.finish c 0x0B
  else if c.force = false ∧ d.armedOnTime then d.finish c 0x0C
  else
    let v := bits c.w 64 64 * 65536 + bits c.w 128 16
    d.stepAccept { cmd := c, value := v, rel := c.opt, unc := bits c.w 160 32, force := c.force, old := 0 }

/-- SUBSTITUTE_QUAY (04 R147, R148). -/
def Dev.substituteCmd (d : Dev) (c : Cmd) : Dev :=
  let k := bits c.w 64 8
  if k ≠ 32 ∧ k ≠ 33 then d.finish c 0x01
  else if d.role k ≠ 1 then d.finish c 0x0F
  else if d.qy.subst.isSome then d.finish c 0x05
  else d.subStart c.target k (some c)

/-- The program block of SWAP_PROGRAM has been read, or not (07 R244). -/
def Dev.swapGot (d : Dev) (c : Cmd) (data : Option (List Byte)) : Dev :=
  match data with
  | none => d.finish c 0x14
  | some bs =>
    if bs.length < 128 then d.finish c 0x14
    else
      let p := BitVec.ofNat 1024 (ofBytes (bs.take 128))
      if (blockQuays p).any (fun q => !d.fbit HM_FQUAY.QUAY c.fn q) then (d.deny c.fn).finish c 0x09
      else if blockBad p then d.finish c 0x10
      else d.shadowLoad c.target p (some c)

/-- SWAP_PROGRAM (07 R244): a block in a berth is read at once. -/
def Dev.swapCmd (d : Dev) (c : Cmd) : Dev :=
  match c.berthBody with
  | some x => let y := d.bodyRead c.fn x.1 128; y.2.swapGot c y.1
  | none => d

/-- LOG_CLEAR with OPT = 0 (14 R485). -/
def Dev.challengeCmd (d : Dev) (c : Cmd) : Dev :=
  if !d.canChallenge then d.finish c 0x13
  else if c.addr % 64 ≠ 0 then d.finish c 0x01
  else
    let d1 := d.challengeFor c.fn
    match d1.lg.challenge with
    | none => d
    | some ch =>
      let x := d1.writeResult c (d1.challengeBits ch)
      if x.1 = 0 then x.2.finish c 0 [byt 22 4 ch.cseq] else d.finish c x.1

/-- TALLY_SET (12 R441, 09 R317). -/
def Dev.tallyCmd (d : Dev) (c : Cmd) : Dev :=
  if !d.cwMaster then d.finish c 0x13
  else
    let e := bits c.w 64 32
    let v := (e, bits c.w 128 64, d.tb.eclk)
    ({ d with cw := { d.cw with nextSet := ins c.target v d.cw.nextSet } } : Dev).finish c 0 [byt 22 4 e]

/-- ENTER_VIGIL (09 R317, 01 R24): its COMPLETION is the last record before the key-off. -/
def Dev.vigilCmd (d : Dev) (c : Cmd) : Dev :=
  let d1 := d.finish c 0
  { d1 with hi := { d1.hi with vigilReq := some c } }

/-- ARM, UPDATE and DISARM wait for the channel's scan slot (04 R109). -/
def Dev.awaitSlot (d : Dev) (c : Cmd) : Dev := d.setChan c.target { d.chan c.target with cmds := (d.chan c.target).cmds ++ [c] }

/-- The effect of a command that has passed the general checks. -/
def Dev.runCmd (d : Dev) (c : Cmd) : Dev :=
  match c.op with
  | 0x01 => d.awaitSlot c
  | 0x02 => d.awaitSlot c
  | 0x03 => d.awaitSlot c
  | 0x04 => d.readStateCmd c
  | 0x05 => d.setAxisCmd c
  | 0x06 => d.disciplineCmd c
  | 0x07 => d.stepTimeCmd c
  | 0x08 => d.loadCmd c
  | 0x09 => d.activateCmd c
  | 0x0A => d.substituteCmd c
  | 0x0B => if c.opt then d.returnCmd c else d.relieveCmd c
  | 0x0C => d.ltStartCmd c
  | 0x0D => if c.opt then d.ltResumeCmd c else d.ltPauseCmd c
  | 0x0E => d.handoverCmd c
  | 0x0F => d.swapCmd c
  | 0x10 => d.logMark c
  | 0x11 => if c.opt then d.logRespond c else d.challengeCmd c
  | 0x12 => d.tallyCmd c
  | 0x13 => d.fencePoll c.ring
  | 0x14 => d.vigilCmd c
  | _ => d.finish c 0

/-! ### Acceptance (09 R318, R319) -/

/-- The class of an opcode as R318 tells targets apart. -/
def opClass (op : Nat) : Nat := if 0x01 ≤ op ∧ op ≤ 0x03 then 0x01 else if op = 0x09 ∨ op = 0x0B then 0x08 else op

/-- The ring can accept an entry now: it is ACTIVE and the link is up (09 R325); a BARRIER waits for every earlier entry, and everything waits
for a FENCE and for a short command that has not taken effect; an entry waits for a long command on its target and while four run.
Nothing follows ENTER_VIGIL (09 R317). -/
def Dev.accepts (d : Dev) (m : Nat) (w : Entry) : Bool :=
  let run := (d.ring m).running
  let op := bits w 0 8
  d.fld CQ_STAT.RSTATE m == 1 && d.linkUsable && (d.ringOwner m).isSome && d.hi.vigilReq.isNone && (!barrierOf w || run.isEmpty) &&
    run.all (fun c => longOp c.op && c.op != 0x13 && (opClass c.op != opClass op || c.target != bits w 16 16)) &&
    (!longOp op || decide (run.length < 4))

/-- A command fails a general check: a denial is counted, and a LOG_CLEAR response that is not DENIED uses up the challenge (14 R486). -/
def Dev.failCheck (d : Dev) (c : Cmd) (status : Nat) : Dev :=
  let d1 := if status = 0x09 then d.deny c.fn else if c.op = 0x11 ∧ c.opt ∧ c.force = false then d.endChallenge else d
  d1.endCmd c status

/-- An entry is accepted: its checks and its effect; a torn one fails FORMAT (09 R310, R312). -/
def Dev.acceptEntry (d : Dev) (m : Nat) (f : Fetched) : Dev :=
  let w : Entry := if f.torn then BitVec.ofNat 512 (put f.w.toNat 0 8 0xFF) else f.w
  let c := d.cmdOf m { f with w := w }
  let d1 : Dev := { d with hi := { d.hi with uid := d.hi.uid + 1, lastFn := c.fn, lastRing := ins c.fn m d.hi.lastRing } }
  let d2 := (d1.setRing m { d1.ring m with running := (d1.ring m).running ++ [c] }).setLong m
  if f.torn then d2.finish c 0x10
  else
    match d2.cmdCheck c with
    | 0 => d2.runCmd c
    | s => d2.failCheck c s

/-- Ring m has fetched an entry that it can accept now. -/
def Dev.canAccept (d : Dev) (m : Nat) : Bool :=
  match (d.ring m).fetched with
  | [] => false
  | f :: _ => m < 64 && d.accepts m f.w && !d.resultStalls (d.cmdOf m f)

/-- How far ring m stands behind the one served last: functions round robin, and rings round robin within a function (09 R320). -/
def Dev.turnOf (d : Dev) (m : Nat) : Nat :=
  let f := (d.ringOwner m).getD 0
  64 * ((f + 7 - d.hi.lastFn) % 8) + (m + 63 - get 63 d.hi.lastRing f) % 64

/-- The ring that is served next (09 R320). -/
def Dev.turn (d : Dev) : Option Nat :=
  ((d.hi.rings.map (fun e => e.1)).filter d.canAccept).foldl (fun b m =>
    match b with
    | some k => if d.turnOf m < d.turnOf k then some m else b
    | none => some m) none

/-- ENTRY_ACCEPT: the next fetched entry of ring m, when its turn has come. -/
def entryAcceptEff (m : Nat) (d : Dev) : Dev :=
  let r := d.ring m
  match r.fetched with
  | [] => d
  | f :: t => if d.turn = some m then (d.setRing m { r with fetched := t }).acceptEntry m f else d

/-- An entry of an opcode and OPT reaches ring m (its other bytes as `w` gives them): it is accepted at once, or waits behind what the
ring holds or for its turn (09 R318, R320). -/
def Dev.entry (d : Dev) (m : Nat) (w : Entry) (op : Nat) (opt : Option Bool) : Dev :=
  let v := put w.toNat 0 8 op
  let w1 : Entry := BitVec.ofNat 512 (match opt with | some b => put v 11 1 b.toNat | none => v)
  let f : Fetched := { w := w1, rgen := d.fld CQ_STAT.RGEN m, torn := false }
  let r := d.ring m
  if m < 64 ∧ d.fld CQ_STAT.RSTATE m = 1 ∧ (d.ringOwner m).isSome then
    let d1 := d.setRing m { r with fetched := r.fetched ++ [f] }
    if r.fetched.isEmpty ∧ d1.turn = some m then d.acceptEntry m f else d1
  else d

/-- BODY_READ_DONE (06 R216, 07 R244, 09 R317): a read of a body in host memory ends, for the command of ring m with that tag. -/
def bodyReadDoneEff (m : Nat) (tag : BitVec 32) (data : Option (List (BitVec 8))) (d : Dev) : Dev :=
  match (d.ring m).running.find? (fun c => (c.op == 0x08 || c.op == 0x0F) && c.tag == tag.toNat && c.berthBody.isNone) with
  | none => d
  | some c =>
    if c.op = 0x0F then
      let waits : Bool := match (d.pne c.target).shadow with | some sh => sh.cmd != some c | none => true
      if waits then d.swapGot c data else d
    else
      match (d.ops c.target).load with
      | none => d
      | some l =>
        if l.cmd = c ∧ l.halting = false ∧ l.bytes.length < l.len then
          match data with
          | none => d.loadEnd c.target l 3 0x14
          | some bs => if bs.isEmpty then d.loadEnd c.target l 3 0x14 else d.loadFeed c.target l (bs.take (l.len - l.bytes.length))
        else d

/-! ### The rows -/

def nopEff (m : Nat) (w : Entry) (d : Dev) : Dev := d.entry m w 0x00 none
def armEff (m : Nat) (w : Entry) (d : Dev) : Dev := d.entry m w 0x01 none
def disarmEff (m : Nat) (w : Entry) (d : Dev) : Dev := d.entry m w 0x02 none
def updateEff (m : Nat) (w : Entry) (d : Dev) : Dev := d.entry m w 0x03 none
def readStateEff (m : Nat) (w : Entry) (d : Dev) : Dev := d.entry m w 0x04 none
def setAxisEff (m : Nat) (w : Entry) (d : Dev) : Dev := d.entry m w 0x05 none
def disciplineEff (m : Nat) (w : Entry) (d : Dev) : Dev := d.entry m w 0x06 none
def stepTimeEff (m : Nat) (w : Entry) (d : Dev) : Dev := d.entry m w 0x07 none
def loadImageEff (m : Nat) (w : Entry) (d : Dev) : Dev := d.entry m w 0x08 none
def activateImageEff (m : Nat) (w : Entry) (d : Dev) : Dev := d.entry m w 0x09 none
def substituteQuayEff (m : Nat) (w : Entry) (d : Dev) : Dev := d.entry m w 0x0A none
def relieveEngineEff (m : Nat) (w : Entry) (d : Dev) : Dev := d.entry m w 0x0B (some false)
def relieveReturnEff (m : Nat) (w : Entry) (d : Dev) : Dev := d.entry m w 0x0B (some true)
def startLighterEff (m : Nat) (w : Entry) (d : Dev) : Dev := d.entry m w 0x0C none
def pauseLighterEff (m : Nat) (w : Entry) (d : Dev) : Dev := d.entry m w 0x0D (some false)
def resumeLighterEff (m : Nat) (w : Entry) (d : Dev) : Dev := d.entry m w 0x0D (some true)
def berthHandoverEff (m : Nat) (w : Entry) (d : Dev) : Dev := d.entry m w 0x0E none
def swapProgramEff (m : Nat) (w : Entry) (d : Dev) : Dev := d.entry m w 0x0F none
def logMarkEff (m : Nat) (w : Entry) (d : Dev) : Dev := d.entry m w 0x10 none
def logClearChallengeEff (m : Nat) (w : Entry) (d : Dev) : Dev := d.entry m w 0x11 (some false)
def logClearRespondEff (m : Nat) (w : Entry) (d : Dev) : Dev := d.entry m w 0x11 (some true)
def tallySetEff (m : Nat) (w : Entry) (d : Dev) : Dev := d.entry m w 0x12 none
def fenceEff (m : Nat) (w : Entry) (d : Dev) : Dev := d.entry m w 0x13 none
def enterVigilEff (m : Nat) (w : Entry) (d : Dev) : Dev := d.entry m w 0x14 none

def execNop (ring : Nat) (w : BitVec 512) (s : State) : Host.Outcome State Fault Refusal := s.act (nopEff ring w)
def execArm (ring : Nat) (w : BitVec 512) (s : State) : Host.Outcome State Fault Refusal := s.act (armEff ring w)
def execDisarm (ring : Nat) (w : BitVec 512) (s : State) : Host.Outcome State Fault Refusal := s.act (disarmEff ring w)
def execUpdate (ring : Nat) (w : BitVec 512) (s : State) : Host.Outcome State Fault Refusal := s.act (updateEff ring w)
def execReadState (ring : Nat) (w : BitVec 512) (s : State) : Host.Outcome State Fault Refusal := s.actMem (readStateEff ring w)
def execSetAxis (ring : Nat) (w : BitVec 512) (s : State) : Host.Outcome State Fault Refusal := s.act (setAxisEff ring w)
def execDiscipline (ring : Nat) (w : BitVec 512) (s : State) : Host.Outcome State Fault Refusal := s.actTime (disciplineEff ring w)
def execStepTime (ring : Nat) (w : BitVec 512) (s : State) : Host.Outcome State Fault Refusal := s.actTime (stepTimeEff ring w)
def execLoadImage (ring : Nat) (w : BitVec 512) (s : State) : Host.Outcome State Fault Refusal := s.act (loadImageEff ring w)
def execActivateImage (ring : Nat) (w : BitVec 512) (s : State) : Host.Outcome State Fault Refusal := s.act (activateImageEff ring w)
def execSubstituteQuay (ring : Nat) (w : BitVec 512) (s : State) : Host.Outcome State Fault Refusal := s.act (substituteQuayEff ring w)
def execRelieveEngine (ring : Nat) (w : BitVec 512) (s : State) : Host.Outcome State Fault Refusal := s.act (relieveEngineEff ring w)
def execRelieveReturn (ring : Nat) (w : BitVec 512) (s : State) : Host.Outcome State Fault Refusal := s.act (relieveReturnEff ring w)
def execStartLighter (ring : Nat) (w : BitVec 512) (s : State) : Host.Outcome State Fault Refusal := s.act (startLighterEff ring w)
def execPauseLighter (ring : Nat) (w : BitVec 512) (s : State) : Host.Outcome State Fault Refusal := s.act (pauseLighterEff ring w)
def execResumeLighter (ring : Nat) (w : BitVec 512) (s : State) : Host.Outcome State Fault Refusal := s.act (resumeLighterEff ring w)
def execBerthHandover (ring : Nat) (w : BitVec 512) (s : State) : Host.Outcome State Fault Refusal := s.act (berthHandoverEff ring w)
def execSwapProgram (ring : Nat) (w : BitVec 512) (s : State) : Host.Outcome State Fault Refusal := s.act (swapProgramEff ring w)
def execLogMark (ring : Nat) (w : BitVec 512) (s : State) : Host.Outcome State Fault Refusal := s.act (logMarkEff ring w)
def execLogClearChallenge (ring : Nat) (w : BitVec 512) (s : State) : Host.Outcome State Fault Refusal := s.actMem (logClearChallengeEff ring w)
def execLogClearRespond (ring : Nat) (w : BitVec 512) (s : State) : Host.Outcome State Fault Refusal := s.act (logClearRespondEff ring w)
def execTallySet (ring : Nat) (w : BitVec 512) (s : State) : Host.Outcome State Fault Refusal := s.act (tallySetEff ring w)
def execFence (ring : Nat) (w : BitVec 512) (s : State) : Host.Outcome State Fault Refusal := s.act (fenceEff ring w)
def execEnterVigil (ring : Nat) (w : BitVec 512) (s : State) : Host.Outcome State Fault Refusal := s.act (enterVigilEff ring w)
def execEntryAccept (ring : Nat) (s : State) : Host.Outcome State Fault Refusal := s.actAll (entryAcceptEff ring)
def execBodyReadDone (ring : Nat) (tag : BitVec 32) (data : Option (List (BitVec 8))) (s : State) : Host.Outcome State Fault Refusal :=
  s.act (bodyReadDoneEff ring tag data)
def execHqRecordIssue (q : Nat) (s : State) : Host.Outcome State Fault Refusal := s.act (hqRecordIssueEff q)
def execStagingDrain (q : Nat) (s : State) : Host.Outcome State Fault Refusal := s.act (stagingDrainEff q)
def execDllAck (count : Nat) (s : State) : Host.Outcome State Fault Refusal := s.act (dllAckEff count)
def execHoldoffExpire (g : Nat) (s : State) : Host.Outcome State Fault Refusal := s.act (holdoffExpireEff g)
def execScrubTick (finds : List ScrubFind) (s : State) : Host.Outcome State Fault Refusal := s.act (scrubTickEff finds)
def execLoanStart (b : Nat) (fail : List MarchFail) (s : State) : Host.Outcome State Fault Refusal := s.act (loanStartEff b fail)
def execLoanReturnDone (badRows : Nat) (s : State) : Host.Outcome State Fault Refusal := s.actMem (loanReturnDoneEff badRows)
def execRowRepairDone (b : Nat) (s : State) : Host.Outcome State Fault Refusal := s.act (rowRepairDoneEff b)
def execRelocDone (s : State) : Host.Outcome State Fault Refusal := s.actMem relocDoneEff
def execSelfTestPassDone (s : State) : Host.Outcome State Fault Refusal := s.act selfTestPassDoneEff
def execBerthZeroDone (s : State) : Host.Outcome State Fault Refusal := s.actMem berthZeroDoneEff

end Sys2Proof.Machine
end

