-- ==== Sys2Proof/Machine/Link.lean ====
section
/-! DEFINITION. The link to the host: doorbell polls, index lines, entry fetches, probes (09 R301 to R310, R327), link and function resets
(09 R300, 13 R462, R463), power states and wake (08 R291, R292), MSI-X (08 R283) and NumVFs (09 R296). -/

namespace Sys2Proof.Machine

open Sys2Proof

/-! ### Reads under way -/

/-- The address of function f's slab. -/
def Dev.slab (d : Dev) (f : Nat) : Nat := d.fld HI_SLAB.BASE f * 4096

/-- A read is issued on the link, which leaves L1 for it (08 R285); the polls, index lines and entry fetches are told from the probes of
RTT (09 R327). -/
def Dev.issueRead (d : Dev) (k : ReadKind) (f addr len : Nat) : Dev :=
  let own : Bool := match k with | .poll | .index _ | .entries _ _ _ => true | _ => false
  { d with hi := { d.hi with
    reads := d.hi.reads ++ [{ kind := k, fn := f, addr := addr, len := len, at_ := d.ecNs }], l1 := false
    ownRead := if own then some d.ecNs else d.hi.ownRead
    probed := if k == .rttProbe then some d.ecNs else d.hi.probed } }

/-- A read has returned: its round trip is noted (09 R327). -/
def Dev.endRead (d : Dev) (r : Read) : Dev :=
  let t := min (d.ecNs - r.at_) 0xFFFF
  let keep := d.hi.rtts.filter (fun e => decide (d.ecNs < e.1 + 1000000))
  ({ d with
     hi := { d.hi with reads := d.hi.reads.erase r, rtts := keep ++ [(d.ecNs, t)] } } : Dev).setFld HI_LINK_RTT.RTT_LAST t

/-- Function f may master the bus now: it exists, is in D0 with Bus Master Enable, and the link is up (09 R302). -/
def Dev.mastering (d : Dev) (f : Nat) : Bool :=
  decide (f < 8) && d.fnOn f && (d.func f).bme && !(d.func f).d3 && d.linkUsable && d.barUp

/-- The polls of function f in flight. -/
def Dev.pollsOut (d : Dev) (f : Nat) : Nat := (d.hi.reads.filter (fun r => r.kind == .poll && r.fn == f)).length

/-- OUTSTANDING of function f. -/
def Dev.pollsMax (d : Dev) (f : Nat) : Nat := max 1 (min 8 (d.fld HI_POLL.OUTSTANDING f))

/-- The slab of function f has something that runs (09 R302). -/
def Dev.slabUsed (d : Dev) (f : Nat) : Bool :=
  (upto 64).any (fun k => (d.ringOwner k == some f && d.fld CQ_STAT.RSTATE k == 1) || (d.queueOwner k == some f && d.fld HQ_STAT.QSTATE k == 1)) ||
    (upto 32).any (fun c => d.lighterOwner c == some f && 1 ≤ d.ltState c && decide (d.ltState c ≤ 4))

/-- POLL_ISSUE (09 R302). -/
def pollIssueEff (f : Nat) (d : Dev) : Dev :=
  if d.mastering f ∧ d.slabUsed f ∧ d.pollsOut f < d.pollsMax f then d.issueRead .poll f (d.slab f) 8 else d

/-! ### Entries (09 R305, R309, R310) -/

/-- Entries of ring m that PI covers and that have not been fetched. -/
def Dev.ringLevel (d : Dev) (m : Nat) : Nat := ((d.ring m).pi + 2 ^ 32 - d.fld CQ_CI.CI m) % 2 ^ 32

/-- Entries that ring m holds at most. -/
def Dev.ringSize (d : Dev) (m : Nat) : Nat := 2 ^ d.fld CQ_CFG.SIZE m

/-- PHASE of the entry at CI in its pass (09 R307). -/
def Dev.ringPhase (d : Dev) (m : Nat) : Nat := (d.fld CQ_CI.CI m / d.ringSize m + 1) % 2

/-- A read of entries of ring m is under way. -/
def Dev.fetching (d : Dev) (m : Nat) : Bool := d.hi.reads.any (fun r => match r.kind with | .entries k _ _ => k == m | _ => false)

/-- A batch of at most 16 entries that does not wrap is read, where there is something to read (09 R309). -/
def Dev.ringFetch (d : Dev) (m : Nat) : Dev :=
  let ci := d.fld CQ_CI.CI m
  let slot := ci % d.ringSize m
  let n := min (min 16 (d.ringLevel m)) (d.ringSize m - slot)
  match d.ringOwner m with
  | none => d
  | some f =>
    if d.fld CQ_STAT.RSTATE m = 1 ∧ d.mastering f ∧ n ≠ 0 ∧ (d.ring m).wrong = 0 ∧ d.fetching m = false then
      d.issueRead (.entries m ci n) f (d.fld CQ_BASE.BASE m * 4096 + 64 * slot) (64 * n)
    else d

/-- The entry at CI is taken: CI moves on. -/
def Dev.takeEntry (d : Dev) (m : Nat) (w : Entry) (torn : Bool) : Dev :=
  let r := d.ring m
  (d.setRing m { r with fetched := r.fetched ++ [{ w := w, rgen := d.fld CQ_STAT.RGEN m, torn := torn }], wrong := 0 }).setFld CQ_CI.CI
    ((d.fld CQ_CI.CI m + 1) % 2 ^ 32) m

/-- CI is written back to the slab (09 R305). -/
def Dev.writeCi (d : Dev) (m : Nat) : Dev :=
  match d.ringOwner m with
  | some f => d.post (.write f (d.slab f + 0x800 + 4 * m) (bytesOf (d.fld CQ_CI.CI m) 4))
  | none => d

/-- Entries from CI on are taken while PI covers them and their PHASE is right; the part, and those beyond PI. -/
def Dev.takeEntries (d : Dev) (m : Nat) : List Entry → Dev × List Entry
  | [] => (d, [])
  | w :: t =>
    if d.ringLevel m = 0 then (d, w :: t)
    else if (w.getLsbD 15).toNat = d.ringPhase m then (d.takeEntry m w false).takeEntries m t
    else (d.setRing m { d.ring m with wrong := 1 }, [])

/-- A fetch of ring m has returned entries from CI on: they are taken, CI is written back, and the next batch is read. The ones beyond PI
wait for the index line that is still being read. -/
def Dev.fetched (d : Dev) (m : Nat) (l : List Entry) (waits : Bool) : Dev :=
  let x := d.takeEntries m l
  let d1 := if x.1.fld CQ_CI.CI m = d.fld CQ_CI.CI m then x.1 else x.1.writeCi m
  (d1.setRing m { d1.ring m with prefetch := if waits then x.2 else [] }).ringFetch m

/-- The read of the index line with ring m's PI is under way. -/
def Dev.piComing (d : Dev) (m : Nat) : Bool :=
  d.hi.reads.any (fun r => r.kind == .index (m / 16) && d.ringOwner m == some r.fn)

/-- ENTRY_FETCH_DONE (09 R309). -/
def entryFetchDoneEff (m first : Nat) (entries : List (BitVec 512)) (d : Dev) : Dev :=
  match d.hi.reads.find? (fun r => match r.kind with | .entries k a _ => k == m && a == first | _ => false) with
  | none => d
  | some r =>
    let d1 := d.endRead r
    let st := d1.fld CQ_STAT.RSTATE m
    let pre := (d1.ring m).prefetch
    let l := entries.take (r.len / 64)
    if (st = 1 ∨ st = 3) ∧ (d1.ring m).wrong = 0 then
      if first = d1.fld CQ_CI.CI m then d1.fetched m l (d1.piComing m)
      else if pre ≠ [] ∧ first = (d1.fld CQ_CI.CI m + pre.length) % 2 ^ 32 then d1.fetched m (pre ++ l) (d1.piComing m)
      else d1.ringFetch m
    else d1.ringFetch m

/-- PHASE_REREAD (09 R310): the entry at CI is read again; after 16 such reads it is taken as it is. -/
def phaseRereadEff (m : Nat) (w : BitVec 512) (d : Dev) : Dev :=
  let r := d.ring m
  let st := d.fld CQ_STAT.RSTATE m
  if m < 64 ∧ r.wrong ≠ 0 ∧ (st = 1 ∨ st = 3) then
    let d1 := d.count CQ_ERR.PHASE_CNT m
    if (w.getLsbD 15).toNat = d.ringPhase m then ((d1.takeEntry m w false).writeCi m).ringFetch m
    else if r.wrong ≥ 16 then ((d1.takeEntry m w true).writeCi m).ringFetch m
    else d1.setRing m { r with wrong := r.wrong + 1 }
  else d

/-! ### Polls and index lines (09 R301, R303, R306, 08 R281) -/

/-- Line `l` of the slab, at 0x100 + 64 × l, holds a field of function f (09 R301). -/
def Dev.lineUsed (d : Dev) (f l : Nat) : Bool :=
  (upto 16).any (fun k =>
    if l < 4 then d.ringOwner (16 * l + k) == some f
    else if l < 8 then d.queueOwner (16 * (l - 4) + k) == some f
    else d.lighterOwner (16 * (l - 8) + k) == some f)

/-- The reads of a summary change (09 R303, R309). The 4 entries at CI are read in two parts where they wrap the ring (DEDUCED). -/
def Dev.summaryChange (d : Dev) (f : Nat) : Dev :=
  let d1 := ((upto 10).filter (d.lineUsed f)).foldl (fun e l => e.issueRead (.index l) f (d.slab f + 0x100 + 64 * l) 64) d
  ((upto 64).filter (fun m => d.ringOwner m == some f && d.flag CQ_CFG.PREFETCH m && d.fld CQ_STAT.RSTATE m == 1)).foldl (fun e m =>
    let ci := d.fld CQ_CI.CI m
    let slot := ci % d.ringSize m
    let n := min 4 (d.ringSize m - slot)
    let base := d.fld CQ_BASE.BASE m * 4096
    let e1 := e.issueRead (.entries m ci n) f (base + 64 * slot) (64 * n)
    if n = 4 then e1 else e1.issueRead (.entries m ((ci + n) % 2 ^ 32) (4 - n)) f base (64 * (4 - n))) d1

/-- POLL_RESPONSE (09 R303): the oldest read of SUMMARY returns; that of a probe is no poll. -/
def pollResponseEff (f : Nat) (summary : BitVec 64) (d : Dev) : Dev :=
  match d.hi.reads.find? (fun r => r.fn == f && (r.kind == .poll || r.kind == .rttProbe)) with
  | none => d
  | some r =>
    let d1 := d.endRead r
    if r.kind = .poll then
      let old := d.fld HI_SUM.SUMMARY f
      let d2 := d1.setFld HI_SUM.SUMMARY summary.toNat f
      if old ≠ summary.toNat ∧ d2.mastering f then d2.summaryChange f else d2
    else d1

/-- CQ_PI of ring m as read (09 R306): an index that goes backward or beyond the ring is ignored. -/
def Dev.newPi (d : Dev) (m v : Nat) : Dev :=
  let st := d.fld CQ_STAT.RSTATE m
  let n := (v + 2 ^ 32 - d.fld CQ_CI.CI m) % 2 ^ 32
  if st = 1 ∨ st = 3 then
    let d1 := if d.ringLevel m ≤ n ∧ n ≤ d.ringSize m then d.setRing m { d.ring m with pi := v } else d
    if (d1.ring m).prefetch.isEmpty then d1.ringFetch m else d1.fetched m (d1.ring m).prefetch false
  else d

/-- HQ_CI of queue q as read (08 R281, R283). -/
def Dev.newCi (d : Dev) (q v : Nat) : Dev :=
  let st := d.fld HQ_STAT.QSTATE q
  let n := (d.fld HQ_PI.PI q + 2 ^ 32 - v) % 2 ^ 32
  if (st = 1 ∨ st = 2) ∧ n < d.hqLevel q then
    let d1 := d.setFld HQ_CI.CI v q
    if n = 0 then d1 else d1.notifyQueue q
  else d

/-- INDEX_LINE_DONE (09 R303): the fields of the line that function f owns. -/
def indexLineDoneEff (f line : Nat) (data : BitVec 512) (d : Dev) : Dev :=
  match d.hi.reads.find? (fun r => r.fn == f && r.kind == .index line) with
  | none => d
  | some r =>
    (upto 16).foldl (fun e k =>
      let v := bits data (32 * k) 32
      let n := 16 * (line % 4) + k
      if line < 4 then (if e.ringOwner n = some f then e.newPi n v else e)
      else if line < 8 then (if e.queueOwner n = some f then e.newCi n v else e)
      else if e.lighterOwner n = some f then e.ltNewPi n v else e) (d.endRead r)

/-! ### Probes (09 R327) -/

/-- RTT_PROBE: no poll, index line or entry fetch in the last 1 ms, and no probe in the last 100 µs. -/
def rttProbeEff (d : Dev) : Dev :=
  let past (t : Option Nat) (n : Nat) : Bool := match t with | some x => decide (x + n ≤ d.ecNs) | none => true
  if d.mastering 0 ∧ past d.hi.ownRead 1000000 ∧ past d.hi.probed 100000 then d.issueRead .rttProbe 0 (d.slab 0) 8 else d

/-- WR_PROBE: a zero-length read behind the latest record write that is known. -/
def wrProbeEff (d : Dev) : Dev :=
  let f := (d.hi.posted.filterMap (fun p => match p with | .record q _ _ _ _ _ => d.queueOwner q | _ => none)).getLast?.getD 0
  if d.mastering f then d.issueRead .wrProbe f 0 0 else d

/-- WR_PROBE_DONE. -/
def wrProbeDoneEff (d : Dev) : Dev :=
  match d.hi.reads.find? (fun r => r.kind == .wrProbe) with
  | none => d
  | some r =>
    let t := min (d.ecNs - r.at_) 0xFFFF
    let keep := d.hi.wrts.filter (fun e => decide (d.ecNs < e.1 + 1000000))
    ({ d with
       hi := { d.hi with reads := d.hi.reads.erase r, wrts := keep ++ [(d.ecNs, t)] } } : Dev).setFld HI_LINK_WR.WR_MAX
      (recentMax (keep ++ [(d.ecNs, t)]) d.ecNs 0)

/-! ### The link (09 R300, R325, 13 R462, R463, 08 R288 to R292) -/

/-- HOST_LINK, source 0x7E4 (13 R467). -/
def Dev.raiseLink (d : Dev) (event : Nat) : Dev :=
  d.raiseSys 0x7E4 [byt 16 1 event, byt 17 1 (cut (d.image rowHI_LINK 0) 0 8), byt 20 2 d.stagedTotal]

/-- The functions that exist. -/
def Dev.fnList (d : Dev) : List Nat := (upto 8).filter d.fnOn

/-- Functions that were awake before and sleep now signal wake where something is unread (08 R291). -/
def Dev.fallAsleep (d old : Dev) : Dev :=
  (d.fnList.filter (fun f => !old.asleep f && d.asleep f)).foldl Dev.sleepCheck d

/-- Functions that are awake again have been answered (HI_FSTAT WAKE_PEND), send what is pending, and their rings resume. -/
def Dev.awaken (d : Dev) : Dev :=
  (d.fnList.filter (fun f => !d.asleep f)).foldl (fun e f => (e.setFunc f { e.func f with wakePend := false }).msixFlush f) d

/-- The data link layer goes down: what it has not acknowledged is staged again, and reads get no answer. -/
def Dev.linkLost (d : Dev) : Dev :=
  if d.flag HI_LINK.UP then
    let d1 := ((d.setFld HI_LINK.UP 0).count HI_LINK.DOWN_CNT).restageAll
    let d2 : Dev := { d1 with hi := { d1.hi with reads := [], l1 := false, l23 := false } }
    ((upto 64).foldl (fun e m => e.setRing m { e.ring m with prefetch := [] }) d2).raiseLink 1
  else d

/-- Function f loses its host side (09 R300, 13 R463): its configuration but PME's, its slab and poll interval, its rings and queues, and
the lighter channels that use host memory. -/
def Dev.fnReset (d : Dev) (f : Nat) : Dev :=
  let x := d.func f
  let mine (l : List Nat) (own : Nat → Option Nat) : List Nat := l.filter (fun k => own k == some f)
  let d1 := ((d.clearFld HI_SLAB.BASE f).clearFld HI_POLL.POLL f).clearFld HI_POLL.OUTSTANDING f
  let d2 := (mine (upto 64) d.ringOwner).foldl Dev.ringReset d1
  let d3 := (mine (upto 64) d.queueOwner).foldl (fun e q => (e.setFld HQ_CFG.EN 0 q).hqHold q) d2
  let d4 := (mine (upto 32) d.lighterOwner).foldl Dev.ltHostReset d3
  let d5 : Dev := { d4 with hi := { d4.hi with
    reads := d4.hi.reads.filter (fun r => r.fn ≠ f), posted := d4.hi.posted.filter (fun p => match p with | .write g _ _ => g != f | _ => true) } }
  d5.setFunc f { pmeEn := x.pmeEn, pmeStat := x.pmeStat, wakePend := x.wakePend, pmeAt := x.pmeAt }

/-- Functions beyond NumVFs n cease to exist (09 R296). -/
def Dev.setVFs (d : Dev) (n : Nat) : Dev :=
  let d1 := (d.fnList.filter (fun f => decide (n < f))).foldl Dev.fnReset d
  { d1 with hi := { d1.hi with numVFs := n } }

/-- PERST#, hot reset and link disable: the link and every function; a push that is being fetched is abandoned (15 R509). -/
def Dev.hostReset (d : Dev) : Dev :=
  let d1 := d.fnList.foldl Dev.fnReset d.linkLost
  let d2 := (d1.fnList.filter (fun f => f ≠ 0)).foldl (fun e f => e.setFunc f {}) d1
  let d3 : Dev := { d2 with hi := { d2.hi with numVFs := 0 } }
  if d3.fld SYS_BOOT.STAGE = 4 then d3.setFld SYS_BOOT.STAGE 3 else d3

/-- PERST -/
def perstEff (d : Dev) : Dev :=
  if d.flag HI_LINK.PERST then d
  else if d.barUp then
    let d1 := (d.hostReset.setFld HI_LINK.PERST 1).raiseLink 3
    d1.fallAsleep d
  else d.setFld HI_LINK.PERST 1

/-- PERST_RELEASE (08 R292): WAKE# is released. -/
def perstReleaseEff (d : Dev) : Dev :=
  if d.flag HI_LINK.PERST then
    let d0 := d.setFld HI_LINK.PERST 0
    let d1 : Dev := { d0 with hi := { d0.hi with wakeLow := false } }
    if d1.barUp then (d1.raiseLink 4).awaken else d1
  else d

/-- HOT_RESET -/
def hotResetEff (d : Dev) : Dev := if d.barUp then d.hostReset.fallAsleep d else d

/-- FLR: that of F0 clears NumVFs with its configuration space. -/
def flrEff (f : Nat) (d : Dev) : Dev :=
  if d.barUp ∧ f < 8 ∧ d.fnOn f then
    let d1 := if f = 0 then d.setVFs 0 else d
    d1.fnReset f
  else d

/-- LINK_DOWN -/
def linkDownEff (d : Dev) : Dev := if d.barUp then d.linkLost.fallAsleep d else d

/-- LINK_UP -/
def linkUpEff (speed : BitVec 2) (width : BitVec 3) (d : Dev) : Dev :=
  if d.barUp ∧ d.flag HI_LINK.PERST = false ∧ d.flag HI_LINK.UP = false then
    ((((d.setFld HI_LINK.UP 1).setFld HI_LINK.SPEED speed.toNat).setFld HI_LINK.WIDTH width.toNat).raiseLink 2).awaken
  else d

/-- BME_CHANGE (08 R285, 09 R323). -/
def bmeChangeEff (f : Nat) (on : Bool) (d : Dev) : Dev :=
  if d.barUp ∧ f < 8 ∧ d.fnOn f then
    let d1 := d.setFunc f { d.func f with bme := on }
    let d2 := ((upto 64).filter (fun m => d.ringOwner m == some f)).foldl (fun e m => (e.ringMode m).ringFetch m) d1
    if on then d2.msixFlush f else d2
  else d

/-- Function f enters or leaves D3hot. -/
def Dev.setD3 (d : Dev) (f : Nat) (on : Bool) : Dev :=
  let d1 := d.setFunc f { d.func f with d3 := on }
  ((upto 64).filter (fun m => d.ringOwner m == some f)).foldl (fun e m => (e.ringMode m).ringFetch m) d1

/-- POWER_STATE_CHANGE (08 R290, R291, 09 R299). -/
def powerStateChangeEff (ch : PowerChange) (d : Dev) : Dev :=
  if d.barUp then
    match ch with
    | .d3 f => if f < 8 ∧ d.fnOn f then (d.setD3 f true).fallAsleep d else d
    | .d0 f => if f < 8 ∧ d.fnOn f then (d.setD3 f false).awaken else d
    | .linkL1 => if d.flag HI_LINK.UP then { d with hi := { d.hi with l1 := true } } else d
    | .linkL23 => if d.flag HI_LINK.UP then ({ d with hi := { d.hi with l1 := false, l23 := true } } : Dev).fallAsleep d else d
    | .linkL0 => ({ d with hi := { d.hi with l1 := false, l23 := false } } : Dev).awaken
  else d

/-! ### Messages, wake and virtual functions -/

/-- MSIX_UNMASK (08 R283). -/
def msixUnmaskEff (f : Nat) (what : MsixOp) (d : Dev) : Dev :=
  if d.barUp ∧ f < 8 ∧ d.fnOn f then
    let x := d.func f
    let y : Func := match what with
      | .vector v => if v < 64 ∧ x.unmasked.contains v = false then { x with unmasked := v :: x.unmasked } else x
      | .functionMask => { x with fmask := false }
      | .enable => { x with msixEn := true }
    (d.setFunc f y).msixFlush f
  else d

/-- MSIX_MASK (08 R283). -/
def msixMaskEff (f : Nat) (what : MsixOp) (d : Dev) : Dev :=
  if d.barUp ∧ f < 8 ∧ d.fnOn f then
    let x := d.func f
    d.setFunc f (match what with
      | .vector v => { x with unmasked := x.unmasked.filter (· ≠ v) }
      | .functionMask => { x with fmask := true }
      | .enable => { x with msixEn := false })
  else d

/-- A cause of wake remains for function f (08 R291, R292). -/
def Dev.wakeCause (d : Dev) (f : Nat) : Bool :=
  d.asleep f && ((upto 64).any (fun q => d.queueOwner q == some f && (d.hqLevel q != 0 || d.hqWaiting q)) ||
    !(d.func f).pba.isEmpty)

/-- PME_RESEND (08 R292): 100 ms after the latest message. -/
def pmeResendEff (f : Nat) (d : Dev) : Dev :=
  if d.barUp ∧ f < 8 ∧ d.fnOn f ∧ (d.func f).pmeStat ∧ d.linkUsable ∧ d.wakeCause f ∧ (d.func f).pmeAt + 100000000 ≤ d.ecNs then
    (d.setFunc f { d.func f with pmeAt := d.ecNs }).post (.pme f)
  else d

/-- PME_CONTROL_WRITE (08 R292): a cleared PME_Status has been answered. -/
def pmeControlWriteEff (f : Nat) (en clear : Bool) (d : Dev) : Dev :=
  if d.barUp ∧ f < 8 ∧ d.fnOn f then
    let x := d.func f
    d.setFunc f { x with pmeEn := en, pmeStat := x.pmeStat && !clear, wakePend := x.wakePend && !clear }
  else d

/-- NUMVFS_WRITE (09 R296): TotalVFs is 7. -/
def numvfsWriteEff (n : Nat) (d : Dev) : Dev := if d.barUp ∧ n ≤ 7 then d.setVFs n else d

/-! ### The rows -/

def execPollIssue (f : Nat) (s : State) : Host.Outcome State Fault Refusal := s.act (pollIssueEff f)
def execPollResponse (f : Nat) (summary : BitVec 64) (s : State) : Host.Outcome State Fault Refusal := s.act (pollResponseEff f summary)
def execIndexLineDone (f line : Nat) (data : BitVec 512) (s : State) : Host.Outcome State Fault Refusal := s.act (indexLineDoneEff f line data)
def execEntryFetchDone (ring first : Nat) (entries : List (BitVec 512)) (s : State) : Host.Outcome State Fault Refusal :=
  s.act (entryFetchDoneEff ring first entries)
def execPhaseReread (ring : Nat) (w : BitVec 512) (s : State) : Host.Outcome State Fault Refusal := s.act (phaseRereadEff ring w)
def execRttProbe (s : State) : Host.Outcome State Fault Refusal := s.act rttProbeEff
def execWrProbe (s : State) : Host.Outcome State Fault Refusal := s.act wrProbeEff
def execWrProbeDone (s : State) : Host.Outcome State Fault Refusal := s.act wrProbeDoneEff
def execPerst (s : State) : Host.Outcome State Fault Refusal := s.act perstEff
def execPerstRelease (s : State) : Host.Outcome State Fault Refusal := s.act perstReleaseEff
def execHotReset (s : State) : Host.Outcome State Fault Refusal := s.act hotResetEff
def execFlr (f : Nat) (s : State) : Host.Outcome State Fault Refusal := s.act (flrEff f)
def execLinkDown (s : State) : Host.Outcome State Fault Refusal := s.act linkDownEff
def execLinkUp (speed : BitVec 2) (width : BitVec 3) (s : State) : Host.Outcome State Fault Refusal := s.act (linkUpEff speed width)
def execBmeChange (f : Nat) (on : Bool) (s : State) : Host.Outcome State Fault Refusal := s.act (bmeChangeEff f on)
def execPowerStateChange (ch : PowerChange) (s : State) : Host.Outcome State Fault Refusal := s.act (powerStateChangeEff ch)
def execMsixUnmask (f : Nat) (what : MsixOp) (s : State) : Host.Outcome State Fault Refusal := s.act (msixUnmaskEff f what)
def execMsixMask (f : Nat) (what : MsixOp) (s : State) : Host.Outcome State Fault Refusal := s.act (msixMaskEff f what)
def execPmeResend (f : Nat) (s : State) : Host.Outcome State Fault Refusal := s.act (pmeResendEff f)
def execPmeControlWrite (f : Nat) (en clear : Bool) (s : State) : Host.Outcome State Fault Refusal := s.act (pmeControlWriteEff f en clear)
def execNumvfsWrite (n : Nat) (s : State) : Host.Outcome State Fault Refusal := s.act (numvfsWriteEff n)

end Sys2Proof.Machine
end

