-- ==== Sys2Proof/Machine/Jtag.lean ====
section
/-! DEFINITION. The test access port (15 R504, 16 R557). -/

namespace Sys2Proof.Machine

open Sys2Proof

/-- IDCODE: version 1, part number 0x8512, the manufacturer of 17, and bit 0. -/
def tapIdcode : BitVec 32 := 0x18512B5B

/-- The levels at the TIO balls, in the order of their numbers: bank A's from bit 0, then bank B's. -/
def Dev.ballBits (d : Dev) : BitVec 128 :=
  BitVec.ofNat 128 (pack ((d.pins.filter (fun e => decide (e.1 < 128))).map (fun e => (e.1, 1, e.2.ball.toNat))))

/-- The port takes control of the balls: only while RESET# is low. -/
def Dev.tapDrives (d : Dev) : Bool :=
  d.sys.resetLow && (d.tap.op == .extest || d.tap.op == .clamp || d.tap.op == .highz || d.tap.op == .intest)

/-- An instruction that needs RESET# low; at any other time it acts as BYPASS. -/
def Dev.tapTest (d : Dev) (f : Tap → Tap) : Dev :=
  if d.sys.powered then
    if d.sys.resetLow then { d with tap := f d.tap } else { d with tap := { d.tap with op := .bypass, dr := 0 } }
  else d

/-- An instruction that acts at all times. -/
def Dev.tapAny (d : Dev) (f : Tap → Tap) : Dev := if d.sys.powered then { d with tap := f d.tap } else d

def jtagTrstEff (d : Dev) : Dev := d.tapAny (fun _ => {})
def extestEff (lvl oe : BitVec 128) (d : Dev) : Dev :=
  let b := d.ballBits
  d.tapTest (fun t => { t with op := .extest, lvl := lvl, oe := oe, seen := b })
def clampEff (d : Dev) : Dev := d.tapTest (fun t => { t with op := .clamp, dr := 0 })
def highzEff (d : Dev) : Dev := d.tapTest (fun t => { t with op := .highz, dr := 0 })
/-- INTEST: the core is in reset and drives nothing. -/
def intestEff (lvl : BitVec 128) (d : Dev) : Dev := d.tapTest (fun t => { t with op := .intest, lvl := lvl, seen := 0 })
def bypassEff (d : Dev) : Dev := d.tapAny (fun t => { t with op := .bypass, dr := 0 })
def idcodeEff (d : Dev) : Dev := d.tapAny (fun t => { t with op := .idcode, dr := tapIdcode })
def sampleEff (d : Dev) : Dev :=
  let b := d.ballBits
  d.tapAny (fun t => { t with op := .sample, seen := b })
def preloadEff (lvl oe : BitVec 128) (d : Dev) : Dev := d.tapAny (fun t => { t with op := .preload, lvl := lvl, oe := oe })

def execJtagTrst (s : State) : Host.Outcome State Fault Refusal := s.act jtagTrstEff
def execExtest (lvl oe : BitVec 128) (s : State) : Host.Outcome State Fault Refusal := s.act (extestEff lvl oe)
def execClamp (s : State) : Host.Outcome State Fault Refusal := s.act clampEff
def execHighz (s : State) : Host.Outcome State Fault Refusal := s.act highzEff
def execIntest (lvl : BitVec 128) (s : State) : Host.Outcome State Fault Refusal := s.act (intestEff lvl)
def execBypass (s : State) : Host.Outcome State Fault Refusal := s.act bypassEff
def execIdcode (s : State) : Host.Outcome State Fault Refusal := s.act idcodeEff
def execSample (s : State) : Host.Outcome State Fault Refusal := s.act sampleEff
def execPreload (lvl oe : BitVec 128) (s : State) : Host.Outcome State Fault Refusal := s.act (preloadEff lvl oe)

end Sys2Proof.Machine
end

