-- ==== Sys2Proof/Machine/Scan.lean ====
section
/-! DEFINITION. The scan slot of a channel (04 R109, R110, R145, 05 R170, 13 R453), with the meanings of SCAN_VISIT and of the quay-port
accesses that wait for a slot. -/

namespace Sys2Proof.Machine

open Sys2Proof

/-- A ring command acts on its channel at the slot (04 R109). -/
def Dev.ringWrite (d : Dev) (c : Cmd) : Dev :=
  match c.op with
  | 0x01 => d.armCmd c
  | 0x02 => d.disarmCmd c
  | _ => d.updateCmd c

/-- The ring commands that wait for the slot of channel c act, in the order of their acceptance. -/
def Dev.ringWrites (d : Dev) (c : Nat) : Dev := (d.chan c).cmds.foldl Dev.ringWrite (d.setChan c { d.chan c with cmds := [] })

/-- The scan engine of the quay has come to channel c: the indices in turn, one a cycle of ECLK in OPERATE, one in two in STEADY (04
R109). -/
def Dev.slotDue (d : Dev) (c : Nat) : Bool :=
  let x := d.quay (c / 16)
  decide (c < 512) && x.next == c % 16 &&
    (match x.at_ with | some k => decide (k + (if x.half then 2 else 1) ≤ d.tb.eclk) | none => true)

/-- The scan engine goes on to the next index. -/
def Dev.slotTaken (d : Dev) (c : Nat) : Dev :=
  d.setQuay (c / 16) { d.quay (c / 16) with next := (c + 1) % 16, at_ := some d.tb.eclk }

/-- The channel accesses of the engines that wait for the slot of channel c, lowest engine first. -/
def Dev.qpAccesses (d : Dev) (c : Nat) : Dev × List (Nat × MeSeq × QpResult) :=
  (d.qpWaits c).foldl (fun acc p =>
    match acc.1.qpAccess p with
    | (x, some (go, q)) => (x, acc.2 ++ [(p, go, q)])
    | (x, none) => (x, acc.2)) (d, [])

/-- The scan slot of channel c: quay-port accesses, then ring commands (04 R145), then what the slot evaluates; the words that accessed the
channel commit with what it leaves (05 R170). -/
def Dev.slot (d : Dev) (c : Nat) : Dev :=
  let (d1, done) := (d.slotTaken c).qpAccesses c
  done.foldl (fun e y => e.qpCommit y.1 y.2.1 y.2.2) ((d1.ringWrites c).visit c)

/-- SCAN_VISIT of channel c; a parity error of its word freezes it (13 R453). -/
def scanVisitEff (c : Nat) (parity : Bool) (d : Dev) : Dev :=
  if d.slotDue c then
    let d1 := if parity then
        let x := d.setChan c { d.chan c with frozen := (d.chan c).cur.isSome }
        x.suspect (x.physOf (c / 16)) 2
      else d
    d1.slot c
  else d

/-- The scan slot that the word of engine p waits for, if its access is one of these operations (05 R167, R169, R170). -/
def qpSlotEff (ops : List Nat) (p : Nat) (d : Dev) : Dev :=
  match d.qpWord p with
  | some (w, x) =>
    let c := (d.eng p).channel w x
    if nQp x ∈ ops ∧ d.slotDue c then d.slot c else d
  | none => d

/-! ### The rows -/

/-- SCAN_VISIT -/
def execScanVisit (c : Nat) (parity : Bool) (s : State) : Host.Outcome State Fault Refusal := s.actAll (scanVisitEff c parity)
/-- QP_READ -/
def execQpRead (p : Nat) (s : State) : Host.Outcome State Fault Refusal := s.actAll (qpSlotEff [5, 6] p)
/-- QP_LOADSLIP -/
def execQpLoadslip (p : Nat) (s : State) : Host.Outcome State Fault Refusal := s.actAll (qpSlotEff [7] p)
/-- QP_ARM -/
def execQpArm (p : Nat) (s : State) : Host.Outcome State Fault Refusal := s.actAll (qpSlotEff [8] p)
/-- QP_UPDATE -/
def execQpUpdate (p : Nat) (s : State) : Host.Outcome State Fault Refusal := s.actAll (qpSlotEff [9] p)
/-- QP_DISARM -/
def execQpDisarm (p : Nat) (s : State) : Host.Outcome State Fault Refusal := s.actAll (qpSlotEff [10] p)

end Sys2Proof.Machine
end

