-- ==== Sys2Proof/Machine/Dispatch.lean ====
section
/-! DEFINITION. The dispatch: one arm per constructor of Instr, each a direct call of its meaning. -/

namespace Sys2Proof.Machine

open Sys2Proof

/-- The effect of a command on everything but the queue. -/
def exec (i : Instr) (s : State) : Host.Outcome State Fault Refusal :=
  match i with
  | .nop ring w => Sys2Proof.Machine.execNop ring w s
  | .arm ring w => Sys2Proof.Machine.execArm ring w s
  | .disarm ring w => Sys2Proof.Machine.execDisarm ring w s
  | .update ring w => Sys2Proof.Machine.execUpdate ring w s
  | .readState ring w => Sys2Proof.Machine.execReadState ring w s
  | .setAxis ring w => Sys2Proof.Machine.execSetAxis ring w s
  | .setAxisApply n => Sys2Proof.Machine.execSetAxisApply n s
  | .discipline ring w => Sys2Proof.Machine.execDiscipline ring w s
  | .stepTime ring w => Sys2Proof.Machine.execStepTime ring w s
  | .loadImage ring w => Sys2Proof.Machine.execLoadImage ring w s
  | .loadVerifyDone n => Sys2Proof.Machine.execLoadVerifyDone n s
  | .activateImage ring w => Sys2Proof.Machine.execActivateImage ring w s
  | .activateDrainTimeout n => Sys2Proof.Machine.execActivateDrainTimeout n s
  | .activateSwitch n => Sys2Proof.Machine.execActivateSwitch n s
  | .substituteQuay ring w => Sys2Proof.Machine.execSubstituteQuay ring w s
  | .mirrorCopyDone parity => Sys2Proof.Machine.execMirrorCopyDone parity s
  | .mirrorCompareDone differ => Sys2Proof.Machine.execMirrorCompareDone differ s
  | .quaySwitch => Sys2Proof.Machine.execQuaySwitch s
  | .noQuietTimeout => Sys2Proof.Machine.execNoQuietTimeout s
  | .autoSubRetry => Sys2Proof.Machine.execAutoSubRetry s
  | .relieveEngine ring w => Sys2Proof.Machine.execRelieveEngine ring w s
  | .relieveReturn ring w => Sys2Proof.Machine.execRelieveReturn ring w s
  | .reliefCopyDone n uncorrectable => Sys2Proof.Machine.execReliefCopyDone n uncorrectable s
  | .reliefTakeover n parity => Sys2Proof.Machine.execReliefTakeover n parity s
  | .warmCopyDone p => Sys2Proof.Machine.execWarmCopyDone p s
  | .startLighter ring w => Sys2Proof.Machine.execStartLighter ring w s
  | .pauseLighter ring w => Sys2Proof.Machine.execPauseLighter ring w s
  | .resumeLighter ring w => Sys2Proof.Machine.execResumeLighter ring w s
  | .ltPauseDrained c => Sys2Proof.Machine.execLtPauseDrained c s
  | .berthHandover ring w => Sys2Proof.Machine.execBerthHandover ring w s
  | .swapProgram ring w => Sys2Proof.Machine.execSwapProgram ring w s
  | .logMark ring w => Sys2Proof.Machine.execLogMark ring w s
  | .logClearChallenge ring w => Sys2Proof.Machine.execLogClearChallenge ring w s
  | .logClearRespond ring w => Sys2Proof.Machine.execLogClearRespond ring w s
  | .tallySet ring w => Sys2Proof.Machine.execTallySet ring w s
  | .fence ring w => Sys2Proof.Machine.execFence ring w s
  | .enterVigil ring w => Sys2Proof.Machine.execEnterVigil ring w s
  | .sysModeGo a => Sys2Proof.Machine.execSysModeGo a s
  | .sysModeHold a => Sys2Proof.Machine.execSysModeHold a s
  | .sysResetWrite a => Sys2Proof.Machine.execSysResetWrite a s
  | .pushGo a => Sys2Proof.Machine.execPushGo a s
  | .axCfgWrite a => Sys2Proof.Machine.execAxCfgWrite a s
  | .ax0HoldWrite a => Sys2Proof.Machine.execAx0HoldWrite a s
  | .wtCfgWrite a => Sys2Proof.Machine.execWtCfgWrite a s
  | .tioPinWrite a => Sys2Proof.Machine.execTioPinWrite a s
  | .flushTx a => Sys2Proof.Machine.execFlushTx a s
  | .flushRx a => Sys2Proof.Machine.execFlushRx a s
  | .slTgtWrite a => Sys2Proof.Machine.execSlTgtWrite a s
  | .slPendClear a => Sys2Proof.Machine.execSlPendClear a s
  | .sluiceHoldWrite a => Sys2Proof.Machine.execSluiceHoldWrite a s
  | .holdoffWrite a => Sys2Proof.Machine.execHoldoffWrite a s
  | .hqEnWrite a => Sys2Proof.Machine.execHqEnWrite a s
  | .hqDiscard a => Sys2Proof.Machine.execHqDiscard a s
  | .cqEnWrite a => Sys2Proof.Machine.execCqEnWrite a s
  | .hiSlabWrite a => Sys2Proof.Machine.execHiSlabWrite a s
  | .bhOwnerWrite a => Sys2Proof.Machine.execBhOwnerWrite a s
  | .relocWrite a => Sys2Proof.Machine.execRelocWrite a s
  | .cwPubWrite a => Sys2Proof.Machine.execCwPubWrite a s
  | .hlLcfgWrite a => Sys2Proof.Machine.execHlLcfgWrite a s
  | .rcRead fn off size => Sys2Proof.Machine.execRcRead fn off size s
  | .regWrite a => Sys2Proof.Machine.execRegWrite a s
  | .pollIssue f => Sys2Proof.Machine.execPollIssue f s
  | .pollResponse f summary => Sys2Proof.Machine.execPollResponse f summary s
  | .indexLineDone f line data => Sys2Proof.Machine.execIndexLineDone f line data s
  | .entryFetchDone ring first entries => Sys2Proof.Machine.execEntryFetchDone ring first entries s
  | .phaseReread ring w => Sys2Proof.Machine.execPhaseReread ring w s
  | .entryAccept ring => Sys2Proof.Machine.execEntryAccept ring s
  | .rttProbe => Sys2Proof.Machine.execRttProbe s
  | .wrProbe => Sys2Proof.Machine.execWrProbe s
  | .perst => Sys2Proof.Machine.execPerst s
  | .hotReset => Sys2Proof.Machine.execHotReset s
  | .flr f => Sys2Proof.Machine.execFlr f s
  | .linkDown => Sys2Proof.Machine.execLinkDown s
  | .linkUp speed width => Sys2Proof.Machine.execLinkUp speed width s
  | .bmeChange f on => Sys2Proof.Machine.execBmeChange f on s
  | .powerStateChange ch => Sys2Proof.Machine.execPowerStateChange ch s
  | .msixUnmask f what => Sys2Proof.Machine.execMsixUnmask f what s
  | .pmeResend f => Sys2Proof.Machine.execPmeResend f s
  | .sourceRise => Sys2Proof.Machine.execSourceRise s
  | .holdoffExpire g => Sys2Proof.Machine.execHoldoffExpire g s
  | .hqRecordIssue q => Sys2Proof.Machine.execHqRecordIssue q s
  | .stagingDrain q => Sys2Proof.Machine.execStagingDrain q s
  | .meDispatch p => Sys2Proof.Machine.execMeDispatch p s
  | .meWord p chk => Sys2Proof.Machine.execMeWord p chk s
  | .meWaitSatisfied p chk => Sys2Proof.Machine.execMeWaitSatisfied p chk s
  | .meTimerExpire p => Sys2Proof.Machine.execMeTimerExpire p s
  | .heartbeatExpire p => Sys2Proof.Machine.execHeartbeatExpire p s
  | .haltStop n => Sys2Proof.Machine.execHaltStop n s
  | .qpRead p => Sys2Proof.Machine.execQpRead p s
  | .qpLoadslip p => Sys2Proof.Machine.execQpLoadslip p s
  | .qpArm p => Sys2Proof.Machine.execQpArm p s
  | .qpUpdate p => Sys2Proof.Machine.execQpUpdate p s
  | .qpDisarm p => Sys2Proof.Machine.execQpDisarm p s
  | .scanVisit c parity => Sys2Proof.Machine.execScanVisit c parity s
  | .edgePlace p k => Sys2Proof.Machine.execEdgePlace p k s
  | .auditNoTransition pin => Sys2Proof.Machine.execAuditNoTransition pin s
  | .vernierCal p result => Sys2Proof.Machine.execVernierCal p result s
  | .measureTimeout c => Sys2Proof.Machine.execMeasureTimeout c s
  | .pinTransition pin level tap => Sys2Proof.Machine.execPinTransition pin level tap s
  | .filterAccept pin => Sys2Proof.Machine.execFilterAccept pin s
  | .wtStall n => Sys2Proof.Machine.execWtStall n s
  | .axisStall n => Sys2Proof.Machine.execAxisStall n s
  | .voteDisagree k v => Sys2Proof.Machine.execVoteDisagree k v s
  | .noMajority v0 v1 v2 => Sys2Proof.Machine.execNoMajority v0 v1 v2 s
  | .repairWatchEnd k => Sys2Proof.Machine.execRepairWatchEnd k s
  | .holdoverTimeout => Sys2Proof.Machine.execHoldoverTimeout s
  | .slewComplete => Sys2Proof.Machine.execSlewComplete s
  | .refclkFail src freq => Sys2Proof.Machine.execRefclkFail src freq s
  | .refclkRestore src => Sys2Proof.Machine.execRefclkRestore src s
  | .pllLockLoss => Sys2Proof.Machine.execPllLockLoss s
  | .pllRelock => Sys2Proof.Machine.execPllRelock s
  | .enterOperate => Sys2Proof.Machine.execEnterOperate s
  | .selfTestDone => Sys2Proof.Machine.execSelfTestDone s
  | .pnDly n parity => Sys2Proof.Machine.execPnDly n parity s
  | .pnJmp n parity => Sys2Proof.Machine.execPnJmp n parity s
  | .pnWaitp x => Sys2Proof.Machine.execPnWaitp x s
  | .pnWaitf x => Sys2Proof.Machine.execPnWaitf x s
  | .pnWaite x => Sys2Proof.Machine.execPnWaite x s
  | .pnWaitx x => Sys2Proof.Machine.execPnWaitx x s
  | .pnPush x => Sys2Proof.Machine.execPnPush x s
  | .pnPull x => Sys2Proof.Machine.execPnPull x s
  | .pnOut n parity => Sys2Proof.Machine.execPnOut n parity s
  | .pnIn n parity => Sys2Proof.Machine.execPnIn n parity s
  | .pnLdi x => Sys2Proof.Machine.execPnLdi x s
  | .pnMov n parity => Sys2Proof.Machine.execPnMov n parity s
  | .pnDjnz x => Sys2Proof.Machine.execPnDjnz x s
  | .pnSig x => Sys2Proof.Machine.execPnSig x s
  | .pnCapt x => Sys2Proof.Machine.execPnCapt x s
  | .pnEnd x => Sys2Proof.Machine.execPnEnd x s
  | .pnWaitSatisfied n => Sys2Proof.Machine.execPnWaitSatisfied n s
  | .pnWaitTimeout n => Sys2Proof.Machine.execPnWaitTimeout n s
  | .pnBlockRelease n => Sys2Proof.Machine.execPnBlockRelease n s
  | .pnSwap n => Sys2Proof.Machine.execPnSwap n s
  | .swapDeadlineExpire n => Sys2Proof.Machine.execSwapDeadlineExpire n s
  | .ltEnd c => Sys2Proof.Machine.execLtEnd c s
  | .ltMove c => Sys2Proof.Machine.execLtMove c s
  | .ltMovei c => Sys2Proof.Machine.execLtMovei c s
  | .ltLoop c => Sys2Proof.Machine.execLtLoop c s
  | .ltEndl c => Sys2Proof.Machine.execLtEndl c s
  | .ltWait c => Sys2Proof.Machine.execLtWait c s
  | .ltSignal c => Sys2Proof.Machine.execLtSignal c s
  | .ltFence c => Sys2Proof.Machine.execLtFence c s
  | .ltLink c => Sys2Proof.Machine.execLtLink c s
  | .ltFetchDone c line => Sys2Proof.Machine.execLtFetchDone c line s
  | .ltWaitSatisfied c => Sys2Proof.Machine.execLtWaitSatisfied c s
  | .ltWaitTimeout c => Sys2Proof.Machine.execLtWaitTimeout c s
  | .ltBurstStart c => Sys2Proof.Machine.execLtBurstStart c s
  | .ltBurstData c data => Sys2Proof.Machine.execLtBurstData c data s
  | .ltFenceDone c => Sys2Proof.Machine.execLtFenceDone c s
  | .ltTailRefetch c word => Sys2Proof.Machine.execLtTailRefetch c word s
  | .ltTailTimer c => Sys2Proof.Machine.execLtTailTimer c s
  | .scrubTick finds => Sys2Proof.Machine.execScrubTick finds s
  | .loanStart b fail => Sys2Proof.Machine.execLoanStart b fail s
  | .loanReturnDone badRows => Sys2Proof.Machine.execLoanReturnDone badRows s
  | .rowRepairDone b => Sys2Proof.Machine.execRowRepairDone b s
  | .relocDone => Sys2Proof.Machine.execRelocDone s
  | .selfTestPassDone => Sys2Proof.Machine.execSelfTestPassDone s
  | .berthZeroDone => Sys2Proof.Machine.execBerthZeroDone s
  | .repairMapUpdate => Sys2Proof.Machine.execRepairMapUpdate s
  | .portLinkEvent p ev => Sys2Proof.Machine.execPortLinkEvent p ev s
  | .portUpTimer p => Sys2Proof.Machine.execPortUpTimer p s
  | .frameTx p => Sys2Proof.Machine.execFrameTx p s
  | .frameDiscard p => Sys2Proof.Machine.execFrameDiscard p s
  | .syncSend => Sys2Proof.Machine.execSyncSend s
  | .dreqSend p => Sys2Proof.Machine.execDreqSend p s
  | .snapSend k => Sys2Proof.Machine.execSnapSend k s
  | .subscribeSend n => Sys2Proof.Machine.execSubscribeSend n s
  | .routeSend => Sys2Proof.Machine.execRouteSend s
  | .rxSync p frm body tc => Sys2Proof.Machine.execRxSync p frm body tc s
  | .rxDreq p seq t2 => Sys2Proof.Machine.execRxDreq p seq t2 s
  | .rxDresp p body t4 => Sys2Proof.Machine.execRxDresp p body t4 s
  | .rxTooth p frm body => Sys2Proof.Machine.execRxTooth p frm body s
  | .rxSnap p frm body => Sys2Proof.Machine.execRxSnap p frm body s
  | .rxSubscribe p body => Sys2Proof.Machine.execRxSubscribe p body s
  | .rxSubnak p dst body => Sys2Proof.Machine.execRxSubnak p dst body s
  | .rxRoute p frm bitmap => Sys2Proof.Machine.execRxRoute p frm bitmap s
  | .rxTally p body => Sys2Proof.Machine.execRxTally p body s
  | .rxTreport p body => Sys2Proof.Machine.execRxTreport p body s
  | .rxAck p seq => Sys2Proof.Machine.execRxAck p seq s
  | .rxRec p body => Sys2Proof.Machine.execRxRec p body s
  | .recRetransmit p => Sys2Proof.Machine.execRecRetransmit p s
  | .servoInterval => Sys2Proof.Machine.execServoInterval s
  | .parentLossTimeout => Sys2Proof.Machine.execParentLossTimeout s
  | .masterLossTimeout => Sys2Proof.Machine.execMasterLossTimeout s
  | .candidateTimer p => Sys2Proof.Machine.execCandidateTimer p s
  | .subBitExpire k p => Sys2Proof.Machine.execSubBitExpire k p s
  | .routeExpire p did => Sys2Proof.Machine.execRouteExpire p did s
  | .gapTimeout did => Sys2Proof.Machine.execGapTimeout did s
  | .remoteHoldover n => Sys2Proof.Machine.execRemoteHoldover n s
  | .remoteAbsent n => Sys2Proof.Machine.execRemoteAbsent n s
  | .tallyRoundStart => Sys2Proof.Machine.execTallyRoundStart s
  | .treportWindow => Sys2Proof.Machine.execTreportWindow s
  | .tallyRoundClose => Sys2Proof.Machine.execTallyRoundClose s
  | .digestRecompute c => Sys2Proof.Machine.execDigestRecompute c s
  | .snapshotSampled => Sys2Proof.Machine.execSnapshotSampled s
  | .itemsPackClose => Sys2Proof.Machine.execItemsPackClose s
  | .logRecordStart mismatches => Sys2Proof.Machine.execLogRecordStart mismatches s
  | .logRecordDurable => Sys2Proof.Machine.execLogRecordDurable s
  | .keelWriteDone => Sys2Proof.Machine.execKeelWriteDone s
  | .lockoutEnd => Sys2Proof.Machine.execLockoutEnd s
  | .challengeExpire => Sys2Proof.Machine.execChallengeExpire s
  | .bootRomStart => Sys2Proof.Machine.execBootRomStart s
  | .bootFetchDone fetch => Sys2Proof.Machine.execBootFetchDone fetch s
  | .bootWr32 => Sys2Proof.Machine.execBootWr32 s
  | .bootWr64 => Sys2Proof.Machine.execBootWr64 s
  | .bootRmw32 => Sys2Proof.Machine.execBootRmw32 s
  | .bootPoll32 => Sys2Proof.Machine.execBootPoll32 s
  | .bootPollTimeout => Sys2Proof.Machine.execBootPollTimeout s
  | .bootDelay => Sys2Proof.Machine.execBootDelay s
  | .bootDelayEnd => Sys2Proof.Machine.execBootDelayEnd s
  | .hmkey => Sys2Proof.Machine.execHmkey s
  | .logkey => Sys2Proof.Machine.execLogkey s
  | .bootMeImage => Sys2Proof.Machine.execBootMeImage s
  | .pnProg => Sys2Proof.Machine.execPnProg s
  | .fuse => Sys2Proof.Machine.execFuse s
  | .seal => Sys2Proof.Machine.execSeal s
  | .keyOn vwake => Sys2Proof.Machine.execKeyOn vwake s
  | .keyOff => Sys2Proof.Machine.execKeyOff s
  | .resetPin => Sys2Proof.Machine.execResetPin s
  | .corePowerGood va vb => Sys2Proof.Machine.execCorePowerGood va vb s
  | .powerLoss => Sys2Proof.Machine.execPowerLoss s
  | .coldPowerUp => Sys2Proof.Machine.execColdPowerUp s
  | .vigilSupplyFail => Sys2Proof.Machine.execVigilSupplyFail s
  | .crystalStop => Sys2Proof.Machine.execCrystalStop s
  | .tempSample temp => Sys2Proof.Machine.execTempSample temp s
  | .vigilCalDone err dtemp => Sys2Proof.Machine.execVigilCalDone err dtemp s
  | .jtagTrst => Sys2Proof.Machine.execJtagTrst s
  | .extest lvl oe => Sys2Proof.Machine.execExtest lvl oe s
  | .clamp => Sys2Proof.Machine.execClamp s
  | .highz => Sys2Proof.Machine.execHighz s
  | .intest lvl => Sys2Proof.Machine.execIntest lvl s
  | .bypass => Sys2Proof.Machine.execBypass s
  | .idcode => Sys2Proof.Machine.execIdcode s
  | .sample => Sys2Proof.Machine.execSample s
  | .preload lvl oe => Sys2Proof.Machine.execPreload lvl oe s
  | .perstRelease => Sys2Proof.Machine.execPerstRelease s
  | .resetRelease => Sys2Proof.Machine.execResetRelease s
  | .dllAck count => Sys2Proof.Machine.execDllAck count s
  | .bodyReadDone ring tag data => Sys2Proof.Machine.execBodyReadDone ring tag data s
  | .fifoTimeout c => Sys2Proof.Machine.execFifoTimeout c s
  | .wrProbeDone => Sys2Proof.Machine.execWrProbeDone s
  | .pmeControlWrite f en clear => Sys2Proof.Machine.execPmeControlWrite f en clear s
  | .msixMask f what => Sys2Proof.Machine.execMsixMask f what s
  | .numvfsWrite n => Sys2Proof.Machine.execNumvfsWrite n s
  | .supplySwitchover onVbak => Sys2Proof.Machine.execSupplySwitchover onVbak s

end Sys2Proof.Machine
end

