-- ==== Sys2Proof/Machine/Tick.lean ====
section
/-! DEFINITION. One period of ECLK, 2 ns, in which nothing is commanded (01 R11): the clocks that run by themselves. -/

namespace Sys2Proof.Machine

open Sys2Proof

/-- A vernier whose latest calibration is 2 ms old has not completed the one that came due (13 R454). -/
def Dev.vernierTick (d : Dev) (p : Nat) : Dev :=
  match (d.physQ p).calAt with
  | some t => if d.flag QY_DIAG.VCAL_OK p ∧ t + 2000000 ≤ d.ecNs then (d.setFld QY_DIAG.VCAL_OK 0 p).vernierBad p else d
  | none => d

/-- The vigil's crystal has had an edge in the period (15 R524). -/
def Dev.vgEdge (d : Dev) : Bool := !d.vg.stopped && decide (d.vg.phase < 65536)

/-- The core's part of the period: the trackers take what came in it (03 R106) and the log's sampler an entry (14 R477), then two periods of TCLK where AX0 runs (01 R11, 02 R34),
TIMERs (05 R188), the ticks of pin engines (07 R230), verniers, automatic substitutions (13 R451), FENCEs, and rings that have resumed (09 R323). -/
def Dev.coreTick (d : Dev) : Dev :=
  let d0 := if d.boot.loaded then ((upto 8).foldl Dev.wtCycle d).sampleCycle else d
  let d1 : Dev := { d0 with tb := { d0.tb with
    eclk := d0.tb.eclk + 1
    calEdges := if d0.flag VG_CTRL.AUTO_CAL ∧ d0.fld AX0_STATUS.STATE = 1 then d0.tb.calEdges + d0.vgEdge.toNat else 0 } }
  if d1.boot.loaded then
    let d2 := d1.tclk.tclk
    let d3 := (d2.me.map (fun e => e.1)).foldl Dev.meTick d2
    let d4 := (d3.pn.map (fun e => e.1)).foldl Dev.pnTick d3
    let d5 := ((d4.qy.phys.map (fun e => e.1)).foldl Dev.vernierTick d4).autoTick.fences
    (d5.hi.rings.map (fun e => e.1)).foldl Dev.ringFetch d5
  else d1

/-- One period: the vigil, and the core while it is powered. -/
def tickEff (d : Dev) : Dev :=
  let d1 : Dev := { d with vg := d.vg.pass 65536 }
  if d1.sys.powered then d1.coreTick else d1

end Sys2Proof.Machine
end

