-- ==== Sys2Proof/Safety.lean ====
section
/-! DEFINITION. The terms in which the statements speak: what a command completes with, the parts of the state, which of them each command may
change, the canonical form of stored bytes, and a command that a ring takes. -/

namespace Sys2Proof.Machine

open Sys2Proof

/-- The command answers a next state: the queue as it was, and a part of which `post` holds. -/
def Completes (i : Instr) (s : State) (post : Dev → Prop) : Prop := ∃ t, exec i s = .next t ∧ t.pending = s.pending ∧ post t.dev

/-! ### The parts of the state -/

/-- The blocks of BAR0 (17 R559). -/
inductive Blk
  /-- identity, mode, faults, boot, I/O banks -/
  | sys
  /-- harbourmaster -/
  | hm
  /-- clock unit -/
  | ck
  /-- vigil -/
  | vg
  /-- host interface and command rings -/
  | hi
  /-- axis unit -/
  | ax
  /-- wheel trackers -/
  | wt
  /-- sluice and host event queues -/
  | sl
  /-- quays -/
  | qy
  /-- microengines -/
  | me
  /-- pin engines -/
  | pn
  /-- TIO crossbar -/
  | tio
  /-- lighter -/
  | lt
  /-- berths -/
  | bh
  /-- causeway -/
  | cw
  /-- harbour log -/
  | hl
  /-- dredger -/
  | dr
  /-- the reserved range -/
  | none
deriving DecidableEq, Repr

/-- The block of the register whose field has a number (`Fld.key`). -/
def blkOf (k : Nat) : Blk :=
  let o := k % 2 ^ 32 / 8
  if o < 0x1000 then .sys else if o < 0x2000 then .hm else if o < 0x3000 then .ck else if o < 0x4000 then .vg else if o < 0x8000 then .hi
  else if o < 0x9000 then .ax else if o < 0xA000 then .wt else if o < 0x10000 then .sl else if o < 0x20000 then .qy
  else if o < 0x3C000 then .me else if o < 0x3D000 then .pn else if o < 0x3E000 then .tio else if o < 0x3F000 then .lt
  else if o < 0x40000 then .bh else if o < 0x44000 then .cw else if o < 0x45000 then .hl else if o < 0x46000 then .dr else .none

/-- The block of a field. -/
def Fld.blk (f : Fld) : Blk := blkOf f.pos

/-- The fields of `Dev`, by name; the register fields by the block of BAR0 in which they lie. -/
inductive Part
  /-- the register fields of a block (17) -/
  | regs (b : Blk)
  /-- berth memory (11 R370) -/
  | mem
  /-- AX0 (02 R34) -/
  | tb
  /-- AX1 to AX15 (02) -/
  | axes
  /-- the wheel trackers (03) -/
  | trk
  /-- channels and quays (04) -/
  | qy
  /-- the TIO pins (07) -/
  | pins
  /-- the dredger (11) -/
  | dr
  /-- modes, power and the repair map (01, 13, 15) -/
  | sys
  /-- the causeway (12) -/
  | cw
  /-- the sluice and the host event queues (08) -/
  | sl
  /-- the host interface (09) -/
  | hi
  /-- the harbour log (14) -/
  | lg
  /-- the shared flags (05 R177) -/
  | sf
  /-- the pin engines (07) -/
  | pn
  /-- the physical microengines (05, 06) -/
  | me
  /-- the logical microengines (06) -/
  | mo
  /-- the lighter (10) -/
  | lt
  /-- the fuses (15 R511) -/
  | fuse
  /-- the boot ROM and boot code (15) -/
  | boot
  /-- the vigil (15 R524) -/
  | vg
  /-- the test access port (16 R557) -/
  | tap
  /-- the model's own counter of free values -/
  | ctr
deriving DecidableEq, Repr

/-- A part holds in `e` what it holds in `d`; of a block of registers, every field of every register reads the same. -/
def Part.same (d e : Dev) : Part → Prop
  | .regs b => ∀ k, blkOf k = b → ∀ r, get r e.regs k = get r d.regs k
  | .mem => e.mem = d.mem
  | .tb => e.tb = d.tb
  | .axes => e.axes = d.axes
  | .trk => e.trk = d.trk
  | .qy => e.qy = d.qy
  | .pins => e.pins = d.pins
  | .dr => e.dr = d.dr
  | .sys => e.sys = d.sys
  | .cw => e.cw = d.cw
  | .sl => e.sl = d.sl
  | .hi => e.hi = d.hi
  | .lg => e.lg = d.lg
  | .sf => e.sf = d.sf
  | .pn => e.pn = d.pn
  | .me => e.me = d.me
  | .mo => e.mo = d.mo
  | .lt => e.lt = d.lt
  | .fuse => e.fuse = d.fuse
  | .boot => e.boot = d.boot
  | .vg => e.vg = d.vg
  | .tap => e.tap = d.tap
  | .ctr => e.freeCtr = d.freeCtr

/-- `e` is `d` but for the parts in `S`. -/
def Only (S : List Part) (d e : Dev) : Prop := ∀ p, p ∉ S → p.same d e

/-- Every block of registers. -/
def anyRegs : List Part :=
  [.sys, .hm, .ck, .vg, .hi, .ax, .wt, .sl, .qy, .me, .pn, .tio, .lt, .bh, .cw, .hl, .dr, .none].map .regs

/-- The parts of the state that a command may change. Berth memory (11), AX0 (02 R36) and the fuses (15 R511) stand in few of the rows. -/
def partsOf : Instr → List Part
  | .nop _ _ | .fence _ _ | .enterVigil _ _ =>
    [.regs .hm, .regs .hi, .regs .sl, .sl, .hi, .lg]
  | .arm _ _ | .disarm _ _ | .update _ _ =>
    [.regs .hm, .regs .hi, .regs .sl, .qy, .sl, .hi, .lg]
  | .readState _ _ =>
    [.regs .hm, .regs .hi, .regs .sl, .regs .bh, .mem, .dr, .sl, .hi, .lg]
  | .setAxis _ _ =>
    [.regs .hm, .regs .hi, .regs .sl, .axes, .sl, .hi, .lg]
  | .setAxisApply _ =>
    [.regs .hi, .regs .ax, .regs .sl, .axes, .sl, .hi, .lg]
  | .discipline _ _ =>
    [.regs .hm, .regs .hi, .regs .ax, .regs .sl, .tb, .sl, .hi, .lg]
  | .stepTime _ _ | .logMark _ _ | .logClearRespond _ _ =>
    [.regs .hm, .regs .hi, .regs .sl, .regs .hl, .sl, .hi, .lg]
  | .loadImage _ _ =>
    [.regs .sys, .regs .hm, .regs .hi, .regs .sl, .regs .me, .regs .bh, .regs .dr, .dr, .sl, .hi, .lg, .me, .mo]
  | .loadVerifyDone _ =>
    [.regs .hi, .regs .sl, .regs .me, .sl, .hi, .lg, .mo]
  | .activateImage _ _ | .relieveEngine _ _ =>
    [.regs .hm, .regs .hi, .regs .sl, .regs .me, .sl, .hi, .lg, .mo]
  | .activateDrainTimeout _ =>
    [.regs .me, .sl, .me, .mo]
  | .activateSwitch _ | .reliefTakeover _ _ =>
    [.regs .hi, .regs .sl, .regs .me, .sl, .hi, .lg, .me, .mo]
  | .substituteQuay _ _ =>
    [.regs .hm, .regs .hi, .regs .sl, .regs .qy, .qy, .sl, .hi, .lg]
  | .mirrorCopyDone _ =>
    [.regs .hi, .regs .sl, .regs .qy, .qy, .sl, .hi, .lg]
  | .mirrorCompareDone _ | .quaySwitch | .noQuietTimeout | .vernierCal _ _ =>
    [.regs .sys, .regs .hi, .regs .sl, .regs .qy, .qy, .sl, .hi, .lg]
  | .autoSubRetry =>
    [.regs .sys, .regs .qy, .qy, .sl]
  | .relieveReturn _ _ =>
    [.regs .hm, .regs .hi, .regs .sl, .sl, .hi, .lg, .mo]
  | .reliefCopyDone _ _ | .heartbeatExpire _ | .haltStop _ =>
    [.regs .sys, .regs .hi, .regs .sl, .regs .me, .regs .bh, .regs .dr, .dr, .sl, .hi, .lg, .me, .mo]
  | .warmCopyDone _ =>
    [.regs .me, .me]
  | .startLighter _ _ | .pauseLighter _ _ | .resumeLighter _ _ =>
    [.regs .hm, .regs .hi, .regs .sl, .regs .lt, .sl, .hi, .lg, .lt]
  | .ltPauseDrained _ | .flr _ | .numvfsWrite _ =>
    [.regs .hi, .regs .sl, .regs .lt, .sl, .hi, .lg, .lt]
  | .berthHandover _ _ =>
    [.regs .hm, .regs .hi, .regs .sl, .regs .bh, .dr, .sl, .hi, .lg]
  | .swapProgram _ _ =>
    [.regs .sys, .regs .hm, .regs .hi, .regs .sl, .regs .pn, .regs .bh, .regs .dr, .dr, .sl, .hi, .lg, .pn]
  | .logClearChallenge _ _ =>
    [.regs .hm, .regs .hi, .regs .sl, .regs .bh, .regs .hl, .mem, .dr, .sl, .hi, .lg, .ctr]
  | .tallySet _ _ =>
    [.regs .hm, .regs .hi, .regs .sl, .cw, .sl, .hi, .lg]
  | .sysModeGo _ | .sysModeHold _ | .pushGo _ | .axCfgWrite _ | .wtCfgWrite _ | .tioPinWrite _ | .flushTx _ | .flushRx _
  | .slTgtWrite _ | .slPendClear _ | .sluiceHoldWrite _ | .holdoffWrite _ | .hqEnWrite _ | .hqDiscard _ | .cqEnWrite _
  | .hiSlabWrite _ | .bhOwnerWrite _ | .relocWrite _ | .cwPubWrite _ | .hlLcfgWrite _ =>
    anyRegs ++ [.axes, .trk, .qy, .pins, .dr, .sys, .cw, .sl, .hi, .lg, .sf, .pn, .me, .mo, .lt, .boot, .vg, .ctr]
  | .sysResetWrite _ | .ax0HoldWrite _ | .regWrite _ | .keyOff | .resetPin =>
    anyRegs ++ [.tb, .axes, .trk, .qy, .pins, .dr, .sys, .cw, .sl, .hi, .lg, .sf, .pn, .me, .mo, .lt, .boot, .vg, .ctr]
  | .rcRead _ _ _ =>
    anyRegs ++ [.hi, .ctr]
  | .pollIssue _ | .rttProbe | .wrProbe | .msixUnmask _ _ | .pmeResend _ | .dllAck _ | .pmeControlWrite _ _ _
  | .msixMask _ _ =>
    [.hi]
  | .pollResponse _ _ | .entryFetchDone _ _ _ | .phaseReread _ _ | .bmeChange _ _ | .powerStateChange _ | .wrProbeDone =>
    [.regs .hi, .hi]
  | .indexLineDone _ _ _ =>
    [.regs .hi, .regs .sl, .hi, .lt]
  | .entryAccept _ =>
    [.regs .sys, .regs .hm, .regs .hi, .regs .ax, .regs .sl, .regs .qy, .regs .me, .regs .pn, .regs .lt, .regs .bh, .regs .hl, .regs .dr,
      .mem, .tb, .axes, .qy, .dr, .cw, .sl, .hi, .lg, .pn, .me, .mo, .lt, .ctr]
  | .perst | .hotReset =>
    [.regs .sys, .regs .hi, .regs .sl, .regs .lt, .sl, .hi, .lg, .lt]
  | .linkDown =>
    [.regs .hi, .regs .sl, .sl, .hi]
  | .linkUp _ _ | .perstRelease =>
    [.regs .hi, .sl, .hi]
  | .sourceRise =>
    [.regs .hi, .regs .sl, .regs .lt, .regs .cw, .regs .hl, .axes, .cw, .sl, .hi, .lg, .pn]
  | .holdoffExpire _ =>
    [.regs .sl, .sl, .hi, .lg]
  | .hqRecordIssue _ | .stagingDrain _ =>
    [.regs .hi, .regs .sl, .regs .bh, .dr, .sl, .hi, .lg]
  | .meDispatch _ =>
    [.regs .sl, .regs .me, .sl, .me]
  | .meWord _ _ | .meWaitSatisfied _ _ =>
    [.regs .sys, .regs .hi, .regs .ax, .regs .sl, .regs .me, .regs .bh, .regs .dr, .mem, .tb, .dr, .sl, .hi, .lg, .sf, .me, .mo, .ctr]
  | .meTimerExpire _ =>
    [.me]
  | .qpRead _ | .qpLoadslip _ | .qpArm _ | .qpUpdate _ | .qpDisarm _ | .scanVisit _ _ =>
    [.regs .sys, .regs .hi, .regs .ax, .regs .sl, .regs .qy, .regs .me, .regs .bh, .regs .dr, .mem, .tb, .axes, .qy, .pins, .dr, .cw, .sl,
      .hi, .lg, .sf, .pn, .me, .mo, .ctr]
  | .edgePlace _ _ =>
    [.regs .sys, .regs .hi, .regs .sl, .regs .qy, .regs .pn, .axes, .qy, .pins, .cw, .sl, .hi, .lg, .pn]
  | .auditNoTransition _ | .pnDly _ _ | .pnJmp _ _ | .pnPush _ | .pnPull _ | .pnOut _ _ | .pnIn _ _ | .pnLdi _
  | .pnMov _ _ | .pnDjnz _ | .pnCapt _ | .pnEnd _ | .pnBlockRelease _ =>
    [.regs .sys, .regs .hi, .regs .sl, .regs .qy, .regs .pn, .qy, .pins, .sl, .hi, .lg, .pn]
  | .measureTimeout _ =>
    [.qy, .sl]
  | .pinTransition _ _ _ =>
    [.regs .sys, .regs .hi, .regs .sl, .regs .qy, .regs .pn, .regs .tio, .qy, .pins, .sl, .hi, .lg, .pn]
  | .filterAccept _ =>
    [.axes, .trk, .qy, .pins, .cw, .pn]
  | .wtStall _ =>
    [.regs .wt, .trk, .sl]
  | .axisStall _ | .remoteHoldover _ =>
    [.axes]
  | .voteDisagree _ _ | .noMajority _ _ _ =>
    [.regs .sys, .regs .ax, .tb, .sys, .cw, .sl]
  | .repairWatchEnd _ =>
    [.regs .ax, .tb, .sys, .sl]
  | .holdoverTimeout =>
    [.regs .ax, .tb, .sl]
  | .slewComplete =>
    [.tb]
  | .refclkFail _ _ | .refclkRestore _ | .pllLockLoss =>
    [.regs .sys, .regs .ck, .sys, .cw, .sl]
  | .pllRelock =>
    [.regs .ck, .sys]
  | .enterOperate =>
    [.regs .sys, .regs .ax, .tb, .sl, .pn]
  | .selfTestDone =>
    [.regs .qy, .qy, .sys]
  | .pnWaitp _ | .pnWaitf _ | .pnWaite _ | .pnWaitx _ | .pnSwap _ =>
    [.regs .hi, .regs .sl, .regs .pn, .sl, .hi, .lg, .pn]
  | .pnSig _ | .pnWaitSatisfied _ | .pnWaitTimeout _ | .swapDeadlineExpire _ =>
    [.regs .sys, .regs .hi, .regs .sl, .regs .qy, .regs .pn, .regs .bh, .qy, .pins, .dr, .sl, .hi, .lg, .sf, .pn]
  | .ltEnd _ | .ltLoop _ | .ltEndl _ | .ltWait _ | .ltLink _ | .ltWaitTimeout _ =>
    [.regs .lt, .sl, .lt]
  | .ltMove _ | .fifoTimeout _ =>
    [.regs .lt, .regs .bh, .mem, .dr, .sl, .hi, .lt]
  | .ltMovei _ | .ltBurstStart _ | .ltBurstData _ _ =>
    [.regs .sys, .regs .lt, .regs .bh, .regs .dr, .mem, .dr, .sl, .hi, .pn, .lt]
  | .ltSignal _ =>
    [.regs .lt, .regs .bh, .dr, .sl, .sf, .lt]
  | .ltFence _ =>
    [.regs .lt, .regs .bh, .dr, .sl, .lt]
  | .ltFetchDone _ _ | .ltFenceDone _ | .ltTailRefetch _ _ =>
    [.regs .sys, .regs .lt, .regs .bh, .regs .dr, .dr, .sl, .lt]
  | .ltWaitSatisfied _ =>
    [.regs .lt, .lt]
  | .ltTailTimer _ =>
    [.lt]
  | .scrubTick _ =>
    [.regs .sys, .regs .me, .regs .bh, .regs .dr, .dr, .sl]
  | .loanStart _ _ =>
    [.regs .sys, .regs .bh, .regs .dr, .dr, .sys, .cw, .sl]
  | .loanReturnDone _ =>
    [.regs .sys, .regs .hi, .regs .sl, .regs .bh, .regs .dr, .dr, .sl, .hi, .lg]
  | .rowRepairDone _ =>
    [.regs .bh, .dr, .sl]
  | .relocDone =>
    [.regs .sys, .regs .bh, .regs .dr, .dr, .sys, .sl]
  | .selfTestPassDone =>
    [.dr, .sys]
  | .berthZeroDone =>
    [.mem, .dr]
  | .repairMapUpdate | .resetRelease =>
    [.sys]
  | .portLinkEvent _ _ | .portUpTimer _ | .rxSync _ _ _ _ | .rxRoute _ _ _ | .parentLossTimeout | .candidateTimer _ =>
    [.regs .sys, .regs .ck, .regs .cw, .axes, .sys, .cw, .sl, .lg]
  | .frameTx _ | .syncSend | .dreqSend _ | .routeSend | .rxDreq _ _ _ | .rxTreport _ _ | .rxAck _ _ | .subBitExpire _ _ =>
    [.cw]
  | .frameDiscard _ =>
    [.regs .cw, .sl]
  | .snapSend _ =>
    [.cw, .ctr]
  | .subscribeSend _ | .rxSubscribe _ _ | .rxSubnak _ _ _ =>
    [.axes, .cw, .sl]
  | .rxDresp _ _ _ | .recRetransmit _ | .routeExpire _ _ =>
    [.regs .cw, .cw]
  | .rxTooth _ _ _ =>
    [.axes, .qy, .cw]
  | .rxSnap _ _ _ =>
    [.regs .hi, .regs .sl, .regs .qy, .axes, .qy, .pins, .cw, .sl, .hi, .lg, .pn]
  | .rxTally _ _ | .gapTimeout _ | .tallyRoundStart | .treportWindow | .tallyRoundClose =>
    [.regs .cw, .cw, .sl]
  | .rxRec _ _ =>
    [.regs .cw, .cw, .sl, .lg]
  | .servoInterval =>
    [.regs .ax, .regs .cw, .tb, .cw, .sl]
  | .masterLossTimeout =>
    [.regs .sys, .regs .ck, .regs .cw, .sys, .cw, .sl]
  | .remoteAbsent _ =>
    [.axes, .sl]
  | .digestRecompute _ =>
    [.regs .cw]
  | .snapshotSampled | .itemsPackClose | .logRecordStart _ =>
    [.regs .hi, .regs .sl, .regs .hl, .sl, .hi, .lg]
  | .logRecordDurable | .keelWriteDone =>
    [.regs .sys, .regs .hi, .regs .ax, .regs .sl, .regs .hl, .tb, .axes, .trk, .qy, .pins, .sl, .hi, .lg, .ctr]
  | .lockoutEnd =>
    [.regs .hl]
  | .challengeExpire =>
    [.regs .hl, .lg]
  | .bootRomStart =>
    anyRegs ++ [.mem, .tb, .dr, .sl, .lg, .mo, .boot, .ctr]
  | .bootFetchDone _ | .bootPollTimeout | .bootDelayEnd | .hmkey | .logkey | .bootMeImage | .pnProg =>
    anyRegs ++ [.mem, .axes, .trk, .qy, .pins, .dr, .sys, .cw, .sl, .hi, .lg, .sf, .pn, .me, .mo, .lt, .boot]
  | .bootWr32 | .bootWr64 | .bootRmw32 =>
    anyRegs ++ [.mem, .tb, .axes, .trk, .qy, .pins, .dr, .sys, .cw, .sl, .hi, .lg, .sf, .pn, .me, .mo, .lt, .boot, .vg, .ctr]
  | .bootPoll32 =>
    anyRegs ++ [.mem, .axes, .trk, .qy, .pins, .dr, .sys, .cw, .sl, .hi, .lg, .sf, .pn, .me, .mo, .lt, .boot, .ctr]
  | .bootDelay =>
    [.boot]
  | .fuse =>
    anyRegs ++ [.mem, .axes, .trk, .qy, .pins, .dr, .sys, .cw, .sl, .hi, .lg, .sf, .pn, .me, .mo, .lt, .fuse, .boot]
  | .seal =>
    [.regs .sys, .regs .hm, .regs .hi, .regs .sl, .regs .me, .regs .pn, .regs .cw, .regs .hl, .dr, .sl, .hi, .lg, .pn, .me, .mo, .boot]
  | .keyOn _ | .corePowerGood _ _ =>
    anyRegs ++ [.tb, .axes, .trk, .qy, .pins, .dr, .sys, .cw, .sl, .hi, .lg, .sf, .pn, .me, .mo, .lt, .boot, .tap]
  | .powerLoss =>
    anyRegs ++ [.tb, .axes, .trk, .qy, .pins, .dr, .sys, .cw, .sl, .hi, .lg, .sf, .pn, .me, .mo, .lt, .boot]
  | .coldPowerUp =>
    anyRegs ++ [.tb, .axes, .trk, .qy, .pins, .dr, .sys, .cw, .sl, .hi, .lg, .sf, .pn, .me, .mo, .lt, .boot, .vg, .tap]
  | .vigilSupplyFail | .supplySwitchover _ =>
    [.regs .vg]
  | .crystalStop | .tempSample _ =>
    [.regs .vg, .vg]
  | .vigilCalDone _ _ =>
    [.regs .vg, .tb, .ctr]
  | .jtagTrst | .extest _ _ | .clamp | .highz | .intest _ | .bypass | .idcode | .sample | .preload _ _ =>
    [.tap]
  | .bodyReadDone _ _ _ =>
    [.regs .hm, .regs .hi, .regs .sl, .regs .me, .regs .pn, .sl, .hi, .lg, .pn, .me, .mo]

/-! ### Stored bytes -/

/-- The canonical form of a store of bytes: addresses strictly rising, and no entry that an unlisted address reads as (0). -/
def Memory.wf (l : List Host.Cell) : Bool := decide (l.Pairwise (fun a b => a.1 < b.1)) && l.all (fun c => c.2 != 0)

/-- The byte at `q` once bytes have been stored at `a`. -/
def Dev.stored (d : Dev) (a : Nat) (bs : List Byte) (q : Nat) : Byte := if a ≤ q ∧ q < a + bs.length then bs.getD (q - a) 0 else d.peek q

/-! ### A command that a ring takes (09 R307, R312, R318) -/

/-- The entry that a command row brings: the opcode, and OPT where the row gives it, over the bytes of `w`. -/
def entryOf (op : Nat) (opt : Option Bool) (w : Entry) : Entry :=
  BitVec.ofNat 512 (match opt with | some b => put (put w.toNat 0 8 op) 11 1 b.toNat | none => put w.toNat 0 8 op)

/-- The command that the entry becomes in ring m. -/
def Dev.cmdFor (d : Dev) (m op : Nat) (opt : Option Bool) (w : Entry) : Cmd :=
  d.cmdOf m { w := entryOf op opt w, rgen := d.fld CQ_STAT.RGEN m, torn := false }

/-- The part once ring m has accepted a command, which counts as running (09 R313, R318). -/
def Dev.begun (d : Dev) (m : Nat) (c : Cmd) : Dev :=
  let d1 : Dev := { d with hi := { d.hi with uid := d.hi.uid + 1, lastFn := c.fn, lastRing := ins c.fn m d.hi.lastRing } }
  (d1.setRing m { d1.ring m with running := (d1.ring m).running ++ [c] }).setLong m

/-- The part with the entry fetched and not yet accepted in ring m. -/
def Dev.fetchedIn (d : Dev) (m op : Nat) (opt : Option Bool) (w : Entry) : Dev :=
  let f : Fetched := { w := entryOf op opt w, rgen := d.fld CQ_STAT.RGEN m, torn := false }
  d.setRing m { d.ring m with fetched := [f] }

/-- Ring m takes the entry at once and the general checks pass (09 R312, R318, R320): nothing waits before it, the ring is ACTIVE, its function
is there, with the entry fetched the turn is this ring's, and the checks of the map and the reserved bits give no status. -/
def Dev.takes (d : Dev) (m op : Nat) (opt : Option Bool) (w : Entry) : Bool :=
  decide (m < 64) && d.fld CQ_STAT.RSTATE m == 1 && (d.ringOwner m).isSome && (d.ring m).fetched.isEmpty &&
    (d.fetchedIn m op opt w).turn == some m && (d.begun m (d.cmdFor m op opt w)).cmdCheck (d.cmdFor m op opt w) == 0

/-- The COMPLETION of a command in ring m becomes a record of the ring's queue at once (08 R282, 09 R307, R322): QUIET does not suppress it,
the queue is ACTIVE or HELD, and no FAIL record waits before it. -/
def Dev.reports (d : Dev) (m : Nat) (w : Entry) : Bool :=
  !w.getLsbD 10 && (d.fld HQ_STAT.QSTATE (d.fld CQ_CFG.CQ_HQ m) == 1 || d.fld HQ_STAT.QSTATE (d.fld CQ_CFG.CQ_HQ m) == 3) && !d.failWaits

/-- The read of the entries of ring m from index `a` on (09 R309). -/
def Read.ofEntry (m a : Nat) (r : Read) : Bool :=
  match r.kind with
  | .entries k b _ => k == m && b == a
  | _ => false

/-- The repair map names only what it records (13 R457): no field of identity, boot or the clocks, and of AX0 not STATE; the faults that it
holds apart. -/
abbrev Dev.mapSound (d : Dev) : Prop :=
  ∀ e ∈ d.sys.map,
    e.1 ∈ [SYS_FAULT.TB_DEGRADED, SYS_FAULT.QUAY_EXHAUSTED, SYS_FAULT.ENGINE_EXHAUSTED, SYS_FAULT.BERTH_EXHAUSTED].map (fun f => f.key 0 0) ∨
      (blkOf e.1 ≠ .sys ∧ blkOf e.1 ≠ .ck ∧ e.1 ≠ AX0_STATUS.STATE.key 0 0)

/-- Queue q has one more record waiting for the write engine than before: the COMPLETION of `c` (09 R316). -/
abbrev Dev.completedIn (d e : Dev) (c : Cmd) (status gen : Nat) (b : List (Nat × Nat × Nat)) : Prop :=
  (e.hq (d.fld CQ_CFG.CQ_HQ c.ring)).gen =
    (d.hq (d.fld CQ_CFG.CQ_HQ c.ring)).gen ++ [{ recs := [d.completionRec c status gen d.ns b], ring := some c.ring }]

/-! ### A write of a register (09 R297, 17 R560) -/

/-- The part serves a write of BAR0: the core is up, the function is there, the access is aligned, and the function may write there. -/
def Dev.admits (d : Dev) (a : BarAcc) : Bool :=
  d.barUp && decide (a.fn < 8) && d.fnOn a.fn && served a.off a.size && d.mayWrite a.fn a.off false

/-- The part after a write that it serves: the sequence of SYS_RESET is over (01 R25), and the registers take the bytes. -/
def Dev.written (d : Dev) (a : BarAcc) : Dev :=
  (({ d with hi := { d.hi with key1 := false } } : Dev).noteBar a.fn a.off a.size).writeBar a.off a.size a.val.toNat false d.hi.key1

/-- F0 is let at every register that only it may write once the map is sealed (09 R297, 15 R523). -/
abbrev Dev.open0 (d : Dev) : Prop := d.sys.powered = true ∧ d.boot.loaded = true ∧ d.fld HM_SEAL.SEAL = 1

end Sys2Proof.Machine
end

