-- ==== Sys2Proof/Certificates/Slice0/Obligations.lean ====
section
/-! DEFINITION. The statements about the ZK8512-A1 model. Each says, for every state and operands that meet its hypotheses, what the
commands it names do: `Completes i s post` is that the command answers a next state, that the queue is left, and that `post` holds of
the part. What a command leaves alone beside that is EveryCommandKeepsToItsParts. -/

open Sys2Proof Sys2Proof.Machine

/-- A step runs the command at the front of the queue (the queue is the model's, assumption 1): it is `exec` of that command on the state with the
queue's rest. -/
def Obligations.StepRunsTheCommandInFront : Prop :=
  ∀ (c : Instr) (rest : List Instr) (s : State), s.pending = c :: rest → step s = exec c { s with pending := rest }

/-- A step on an empty queue is one period of ECLK, 2 ns (01 R11, 02 R34; that the step stands for one period is the model's choice, assumption 2):
the vigil passes it; a powered core counts it, and AX0 where it is loaded; a part without power changes in nothing else; berth memory and the
fuses stay. -/
def Obligations.EmptyQueueIsOnePeriod : Prop :=
  ∀ s : State, s.pending = [] → ∃ t, step s = .next t ∧ t.pending = [] ∧ t.dev.vg = s.dev.vg.pass 65536 ∧
    t.dev.mem = s.dev.mem ∧ t.dev.fuse = s.dev.fuse ∧ (s.dev.sys.powered = true → t.dev.tb.eclk = s.dev.tb.eclk + 1) ∧
    (s.dev.sys.powered = true → s.dev.boot.loaded = true →
      t.dev.tb.a0 = s.dev.tclk.tclk.tb.a0 ∧ t.dev.tb.a1 = s.dev.tclk.tclk.tb.a1 ∧ t.dev.tb.a2 = s.dev.tclk.tclk.tb.a2 ∧
        t.dev.tb.elapsed = s.dev.tclk.tclk.tb.elapsed) ∧
    (s.dev.sys.powered = false → t.dev = { s.dev with vg := s.dev.vg.pass 65536 })

/-- No command faults or is refused, and the meaning of a command leaves the queue to the step. The model's readings: assumption 14. -/
def Obligations.EveryCommandAnswersANextState : Prop :=
  ∀ (i : Instr) (s : State), ∃ t, exec i s = .next t ∧ t.pending = s.pending

/-- The frame of every command: what `partsOf` does not list for it stays as it was: each block of registers (17 R559), berth memory byte for byte,
the fuses, and the hidden state of each unit. The model's readings: assumption 4. -/
def Obligations.EveryCommandKeepsToItsParts : Prop :=
  ∀ (i : Instr) (s t : State), exec i s = .next t → Only (partsOf i) s.dev t.dev

/-- The state from which all others come (15 R504, R532; the blank fuses and the empty store are the model's choice, assumptions 11 and 12). -/
def Obligations.ResetIsAColdPowerUpWithNoPower : Prop :=
  ((State.reset.pending = [] ∧ State.reset.dev.sys.powered = false ∧ State.reset.dev.mem = [] ∧ State.reset.dev.lg.store = [] ∧
    State.reset.dev.fuse = {} ∧ Memory.wf State.reset.dev.mem = true ∧ State.reset.dev.mapSound ∧ State.reset.dev.fuse.svn ≤ 64)) ∧
  ((State.reset.dev.fld SYS_MODE.MODE = 0 ∧ State.reset.dev.fld HM_SEAL.SEAL = 0 ∧ State.reset.dev.fld AX0_STATUS.STATE = 3 ∧
    State.reset.dev.fld SYS_FAULT.AX0_INVALID = 1 ∧ State.reset.dev.fld VG_STAT.VALID = 0)) ∧
  ((∀ (f : Fld) (i j : Nat), f.key i j ≠ SYS_FAULT.AX0_INVALID.key 0 0 → f.key i j ≠ AX0_STATUS.STATE.key 0 0 →
    State.reset.dev.fld f i j = f.rst i))

/-- At all times of a powered part, BYPASS, IDCODE, SAMPLE and PRELOAD act, and TRST# resets the port; only the port changes (16 R557, 15 R504, 17
R567). The model's readings: assumption 13. -/
def Obligations.JtagPortAlwaysActs : Prop :=
  (∀ (s : State), s.dev.sys.powered = true → Completes .bypass s (fun t => t = { s.dev with tap := { s.dev.tap with op := .bypass, dr := 0 } })) ∧
  (∀ (s : State), s.dev.sys.powered = true → Completes .idcode s (fun t =>
    t = { s.dev with tap := { s.dev.tap with op := .idcode, dr := 0x18512B5B } })) ∧
  (∀ (s : State), s.dev.sys.powered = true → Completes .sample s (fun t =>
    t = { s.dev with tap := { s.dev.tap with op := .sample, seen := s.dev.ballBits } })) ∧
  (∀ (s : State) (x y : BitVec 128), s.dev.sys.powered = true → Completes (.preload x y) s (fun t =>
    t = { s.dev with tap := { s.dev.tap with op := .preload, lvl := x, oe := y } })) ∧
  (∀ (s : State), s.dev.sys.powered = true → Completes .jtagTrst s (fun t => t = { s.dev with tap := {} }))

/-- EXTEST, CLAMP, HIGHZ and INTEST take effect only while RESET# is low, and act as BYPASS otherwise; only the port changes (16 R557). The model's
readings: assumption 13. -/
def Obligations.JtagTestsNeedReset : Prop :=
  (∀ (s : State) (x y : BitVec 128), s.dev.sys.powered = true → s.dev.sys.resetLow = true → Completes (.extest x y) s (fun t =>
    t = { s.dev with tap := { s.dev.tap with op := .extest, lvl := x, oe := y, seen := s.dev.ballBits } })) ∧
  (∀ (s : State), s.dev.sys.powered = true → s.dev.sys.resetLow = true → Completes .clamp s (fun t =>
    t = { s.dev with tap := { s.dev.tap with op := .clamp, dr := 0 } })) ∧
  (∀ (s : State), s.dev.sys.powered = true → s.dev.sys.resetLow = true → Completes .highz s (fun t =>
    t = { s.dev with tap := { s.dev.tap with op := .highz, dr := 0 } })) ∧
  (∀ (s : State) (x : BitVec 128), s.dev.sys.powered = true → s.dev.sys.resetLow = true → Completes (.intest x) s (fun t =>
    t = { s.dev with tap := { s.dev.tap with op := .intest, lvl := x, seen := 0 } })) ∧
  (∀ (s : State) (x y : BitVec 128), s.dev.sys.powered = true → s.dev.sys.resetLow = false → Completes (.extest x y) s (fun t =>
    t = { s.dev with tap := { s.dev.tap with op := .bypass, dr := 0 } })) ∧
  (∀ (s : State), s.dev.sys.powered = true → s.dev.sys.resetLow = false → Completes .clamp s (fun t =>
    t = { s.dev with tap := { s.dev.tap with op := .bypass, dr := 0 } })) ∧
  (∀ (s : State), s.dev.sys.powered = true → s.dev.sys.resetLow = false → Completes .highz s (fun t =>
    t = { s.dev with tap := { s.dev.tap with op := .bypass, dr := 0 } })) ∧
  (∀ (s : State) (x : BitVec 128), s.dev.sys.powered = true → s.dev.sys.resetLow = false → Completes (.intest x) s (fun t =>
    t = { s.dev with tap := { s.dev.tap with op := .bypass, dr := 0 } }))

/-- The reference clocks and the PLL (01 R13, R14; 13 R450). The model's readings: assumption 24. -/
def Obligations.ReferenceClockRowsAct : Prop :=
  (∀ (s : State) (b : Bool), s.dev.fld CK_REFSEL.ACTIVE = 0 → s.dev.fld CK_STAT.REC_OK = 1 → Completes (.refclkFail .refclkIn b) s (fun t =>
    t.fld CK_REFSEL.ACTIVE = 1 ∧ t.fld CK_REFSEL.SWITCHED = 1 ∧ t.fld CK_STAT.IN_OK = 0 ∧ t.fld CK_STAT.LOCKED = s.dev.fld CK_STAT.LOCKED)) ∧
  (∀ (s : State) (b : Bool), s.dev.fld CK_REFSEL.ACTIVE = 0 → s.dev.fld CK_STAT.REC_OK = 0 → s.dev.fld CK_REFSEL.FREQ_HOLD_EN = 0 →
    s.dev.fld CK_STAT.LOCKED = 1 → s.dev.fld SYS_MODE.MODE = 2 → Completes (.refclkFail .refclkIn b) s (fun t => t.fld CK_REFSEL.ACTIVE = 0 ∧
    t.fld CK_REFSEL.SWITCHED = s.dev.fld CK_REFSEL.SWITCHED ∧ t.fld CK_STAT.LOCKED = 0 ∧ t.fld SYS_MODE.MODE = 1 ∧ t.fld SYS_MODE.CAUSE = 4)) ∧
  (∀ (s : State) (b : Bool), s.dev.fld CK_REFSEL.ACTIVE = 1 → s.dev.fld CK_STAT.IN_OK = 1 → (s.dev.fld CK_REFSEL.SRC = 0 ∨
    s.dev.fld CK_REFSEL.FALLBACK_EN = 1) → Completes (.refclkFail .recovered b) s (fun t => t.fld CK_REFSEL.ACTIVE = 0 ∧
    t.fld CK_REFSEL.SWITCHED = 1 ∧ t.fld CK_STAT.REC_OK = 0 ∧ t.fld CK_STAT.LOCKED = s.dev.fld CK_STAT.LOCKED)) ∧
  (∀ (s : State), s.dev.fld CK_REFSEL.SRC = 1 → s.dev.fld CK_REFSEL.ACTIVE ≠ 1 → Completes (.refclkRestore .recovered) s (fun t =>
    t.fld CK_REFSEL.ACTIVE = 1 ∧ t.fld CK_REFSEL.SWITCHED = 1 ∧ t.fld CK_STAT.REC_OK = 1)) ∧
  (∀ (s : State), s.dev.fld CK_REFSEL.SRC = 0 → s.dev.fld CK_REFSEL.ACTIVE ≠ 0 → Completes (.refclkRestore .refclkIn) s (fun t =>
    t.fld CK_REFSEL.ACTIVE = 0 ∧ t.fld CK_REFSEL.SWITCHED = 1 ∧ t.fld CK_STAT.IN_OK = 1)) ∧
  (∀ (s : State), s.dev.fld CK_STAT.LOCKED = 1 → s.dev.fld SYS_MODE.MODE = 2 → Completes .pllLockLoss s (fun t => t.fld CK_STAT.LOCKED = 0 ∧
    t.fld CK_STAT.PLL_HOLD = 1 ∧ t.fld CK_STAT.LOCK_LOSS = min (s.dev.fld CK_STAT.LOCK_LOSS + 1) 255 ∧ t.fld SYS_MODE.MODE = 1 ∧
    t.fld SYS_MODE.CAUSE = 4 ∧ t.fld SYS_MODE.STEPPED = 0 ∧ t.fld SYS_MODE.ARMED = 0 ∧ t.sys.causes = [4])) ∧
  (∀ (s : State), s.dev.fld CK_STAT.LOCKED = 0 → Completes .pllRelock s (fun t => t.fld CK_STAT.LOCKED = 1 ∧ t.fld CK_STAT.PLL_HOLD = 0 ∧
    t.sys.causes = s.dev.sys.causes.filter (· ≠ 4)))

/-- The voter's rows (02 R35; 13 R447 to R449) with three working accumulators. The model's readings: assumption 23. -/
def Obligations.VotingRepairsAndInvalidates : Prop :=
  (∀ (s : State) (i : Nat) (v : BitVec 112), i < 3 → s.dev.fld AX0_REPAIR.RETIRED = 0 → v ≠ BitVec.ofNat 112 s.dev.ax0 →
    (s.dev.accum i).attempts < 3 → s.dev.fld SYS_MODE.MODE = 2 → Completes (.voteDisagree i v) s (fun t =>
    t.accum i = { val := BitVec.ofNat 112 s.dev.ax0, rate := (s.dev.accum (if i = 0 then 1 else 0)).rate, rem := (s.dev.accum (if i = 0 then 1 else 0)).rem, watching := true, watchAt := 2 * s.dev.tb.eclk, attempts := (s.dev.accum i).attempts + 1 }
    ∧ (∀ j, j < 3 → j ≠ i → t.accum j = s.dev.accum j) ∧ bit (t.fld AX0_STATUS.VOTE_FAULT) i = true ∧ t.fld AX0_REPAIR.REPAIRING = 1 ∧
    t.fld AX0_REPAIR.ACC = i ∧ t.fld AX0_REPAIR.ATTEMPTS = (s.dev.accum i).attempts + 1 ∧ t.fld SYS_MODE.MODE = 1 ∧ t.fld SYS_MODE.CAUSE = 3)) ∧
  (∀ (s : State) (i : Nat) (v : BitVec 112), i < 3 → s.dev.fld AX0_REPAIR.RETIRED = 0 → v ≠ BitVec.ofNat 112 s.dev.ax0 →
    3 ≤ (s.dev.accum i).attempts → Completes (.voteDisagree i v) s (fun t => t.fld AX0_REPAIR.RETIRED = i + 1 ∧ t.fld SYS_FAULT.TB_DEGRADED = 1 ∧
    (t.accum i).watching = false ∧ ∀ j, j < 3 → j ≠ i → t.accum j = s.dev.accum j)) ∧
  (∀ (s : State) (x y z : BitVec 112), s.dev.fld AX0_REPAIR.RETIRED = 0 → x ≠ y → x ≠ z → y ≠ z → Completes (.noMajority x y z) s (fun t =>
    t.tb.a0.val = (x &&& y) ||| (x &&& z) ||| (y &&& z) ∧ t.tb.a1.val = (x &&& y) ||| (x &&& z) ||| (y &&& z) ∧ t.tb.a2.val = (x &&& y)
    ||| (x &&& z) ||| (y &&& z) ∧ t.fld AX0_STATUS.STATE = 3 ∧ t.fld SYS_FAULT.AX0_INVALID = 1)) ∧
  (∀ (s : State) (i : Nat), i < 3 → (s.dev.accum i).watching = true → (s.dev.accum i).watchAt + 2 ^ 24 ≤ 2 * s.dev.tb.eclk → (∀ j, j < 3 → j ≠ i →
    (s.dev.accum j).watching = false) → s.dev.tb.lost = false → s.dev.fld AX0_REPAIR.RETIRED = 0 → Completes (.repairWatchEnd i) s (fun t =>
    t.accum i = { s.dev.accum i with watching := false } ∧ t.fld AX0_REPAIR.REPAIRING = 0 ∧ t.sys.causes = s.dev.sys.causes.filter (· ≠ 3)))

/-- The entry into OPERATE (01 R20 to R22), the end of the self-test, and the timeout of LOCKED (02 R47). The model's readings: assumption 20. -/
def Obligations.ModesStartAndEnd : Prop :=
  (∀ (s : State), s.dev.fld SYS_MODE.MODE = 1 → s.dev.fld HM_SEAL.SEAL = 1 → s.dev.sys.tested = true → s.dev.fld CK_STAT.LOCKED = 1 →
    s.dev.fld CK_REFSEL.ACTIVE ≠ 2 → s.dev.fld AX0_REPAIR.RETIRED = 0 → s.dev.tb.a0.val = s.dev.tb.a1.val → s.dev.tb.a1.val = s.dev.tb.a2.val →
    s.dev.tb.a0.watching = false ∧ s.dev.tb.a1.watching = false ∧ s.dev.tb.a2.watching = false → s.dev.sys.causes = [] →
    (s.dev.fld SYS_MODE.PENDING_GO = 1 ∨ (s.dev.fld SYS_MODE.GO_REQ = 0 ∧ s.dev.fld SYS_MODE.AUTO_RESUME = 1)) →
    Completes .enterOperate s (fun t => t.fld SYS_MODE.MODE = 2 ∧ t.fld SYS_MODE.PENDING_GO = 0 ∧ t.fld SYS_MODE.GO_REQ = 0)) ∧
  (∀ (s : State), (s.dev.fld SYS_MODE.MODE ≠ 1 ∨ s.dev.fld HM_SEAL.SEAL ≠ 1 ∨ s.dev.sys.tested = false ∨ s.dev.fld CK_STAT.LOCKED ≠ 1 ∨
    s.dev.fld CK_REFSEL.ACTIVE = 2 ∨ s.dev.fld AX0_REPAIR.RETIRED ≠ 0 ∨ s.dev.tb.a0.val ≠ s.dev.tb.a1.val ∨ s.dev.tb.a1.val ≠ s.dev.tb.a2.val ∨
    s.dev.tb.a0.watching = true ∨ s.dev.tb.a1.watching = true ∨ s.dev.tb.a2.watching = true ∨ s.dev.sys.causes ≠ [] ∨
    (s.dev.fld SYS_MODE.PENDING_GO ≠ 1 ∧ (s.dev.fld SYS_MODE.GO_REQ = 1 ∨ s.dev.fld SYS_MODE.AUTO_RESUME ≠ 1))) →
    Completes .enterOperate s (fun t => t = s.dev)) ∧
  (∀ (s : State), s.dev.fld SYS_MODE.MODE = 1 → s.dev.sys.tested = false → Completes .selfTestDone s (fun t => t.sys.tested = true ∧ ∀ p, p < 34 →
    t.fld QY_DIAG.VCAL_OK p = 1)) ∧
  (∀ (s : State), s.dev.fld AX0_STATUS.STATE = 1 → s.dev.tb.ref + max 1 (s.dev.fld AX0_HOLD.TIMEOUT_MS) * 1000000 * 2 ^ 48 ≤ s.dev.tb.elapsed →
    Completes .holdoverTimeout s (fun t => t.fld AX0_STATUS.STATE = 2 ∧ t.tb = { s.dev.tb with uncAt := s.dev.tb.elapsed }))

/-- The vigil's rows (15 R500, R524, R525, R528) and its counter at a crystal edge. The model's readings: assumptions 4, 28. -/
def Obligations.VigilRowsAct : Prop :=
  (∀ (s : State), Completes .vigilSupplyFail s (fun t => t = s.dev.setFld VG_STAT.VALID 0)) ∧
  (∀ (s : State) (b : Bool), Completes (.supplySwitchover b) s (fun t => t = s.dev.setFld VG_STAT.ON_VBAK b.toNat)) ∧
  (∀ (s : State), s.dev.sys.powered = true → Completes .crystalStop s (fun t =>
    t = { s.dev.setFld VG_STAT.XFAIL 1 with vg := { s.dev.vg with stopped := true } })) ∧
  (∀ (s : State), s.dev.sys.powered = false → Completes .crystalStop s (fun t =>
    t = { s.dev.setFld VG_STAT.VALID 0 with vg := { s.dev.vg with stopped := true } })) ∧
  (∀ (s : State) (x : BitVec 10), s.dev.sampleTime = true → Completes (.tempSample x) s (fun t => t.fld VG_STAT.TEMP = x.toNat ∧
    t.vg = { s.dev.vg with sampled := some s.dev.vg.el, inc := (131072000000000 - 131072 * toS 24 (s.dev.fld VG_CAL.CAL) - 8192 * (toS 12 (s.dev.fld VG_COMP.K2) * (x.toInt - toS 10 (s.dev.fld VG_COMP.T0)) ^ 2)).toNat })) ∧
  (∀ (v : Vigil) (n : Nat), v.stopped = false → v.phase < 1000000000 → v.phase + n < 2000000000 →
    (v.pass n).cnt = (if v.phase + n < 1000000000 then v.cnt else (v.cnt + v.inc) % 2 ^ 96) ∧ (v.pass n).phase = (v.phase + n) % 1000000000 ∧
      (v.pass n).inc = v.inc)

/-- Power and reset (01 R22, R24; 15 R502 to R505, R529 to R532; 14 R496; 16 R539). The model's readings: assumptions 10, 29. -/
def Obligations.PowerRowsStartAndStopTheCore : Prop :=
  (∀ (s : State), s.dev.sys.powered = false → s.dev.sys.keyHigh = false → s.dev.sys.supplies = false → Completes (.keyOn false) s (fun t =>
    t = { s.dev with sys := { s.dev.sys with keyHigh := true, want := true } })) ∧
  (∀ (s : State), s.dev.sys.powered = false → s.dev.sys.keyHigh = false → s.dev.sys.supplies = true → Completes (.keyOn false) s (fun t =>
    t.sys.powered = true ∧ t.fld SYS_MODE.MODE = 0 ∧ t.fld HM_SEAL.SEAL = 0 ∧ t.fld SYS_RSTCAUSE.CAUSE = (if s.dev.sys.cold then 0 else 1) ∧
    t.vg = s.dev.vg ∧ t.fuse = s.dev.fuse)) ∧
  (∀ (s : State), s.dev.sys.powered = false → s.dev.sys.supplies = true → Completes (.keyOn true) s (fun t => t.sys.powered = true ∧
    t.fld SYS_MODE.MODE = 0 ∧ t.sys.keyHigh = s.dev.sys.keyHigh)) ∧
  (∀ (s : State) (a b : Bool), s.dev.sys.powered = false → s.dev.sys.want = true → Completes (.corePowerGood a b) s (fun t => t.sys.powered = true ∧
    t.fld SYS_IOCFG.VA = a.toNat ∧ t.fld SYS_IOCFG.VB = b.toNat ∧ t.fld SYS_MODE.MODE = 0 ∧ t.fld SYS_RSTCAUSE.CAUSE = (if s.dev.sys.cold then
    0 else 1) ∧ t.vg = s.dev.vg)) ∧
  (∀ (s : State), s.dev.sys.powered = true → s.dev.sys.resetLow = false → Completes .resetPin s (fun t => t.sys.resetLow = true ∧
    t.sys.powered = true ∧ t.fld SYS_MODE.MODE = 0 ∧ t.fld HM_SEAL.SEAL = 0 ∧ t.fld SYS_RSTCAUSE.CAUSE = 2 ∧ t.mem = s.dev.mem ∧
    t.fuse = s.dev.fuse)) ∧
  (∀ (s : State), Completes .resetRelease s (fun t => t = { s.dev with sys := { s.dev.sys with resetLow := false } })) ∧
  (∀ (s : State), s.dev.sys.powered = true → Completes .powerLoss s (fun t => t.sys.powered = false ∧ t.sys.supplies = false ∧
    t.fld SYS_MODE.MODE = 0 ∧ t.vg = s.dev.vg ∧ (s.dev.vg.stopped = false → t.fld VG_STAT.VALID = s.dev.fld VG_STAT.VALID) ∧
    t.sys.map = s.dev.sys.map ∧ t.lg.store = s.dev.lg.store)) ∧
  (∀ (s : State), Completes .coldPowerUp s (fun t => t.fld AX0_STATUS.STATE = 3 ∧ t.fld SYS_FAULT.AX0_INVALID = 1 ∧ t.vg = {} ∧
    t.sys.powered = false ∧ t.fld SYS_MODE.MODE = 0 ∧ t.sys.map = s.dev.sys.map ∧ t.fuse = s.dev.fuse ∧ t.lg.store = s.dev.lg.store ∧
    t.fld HL_SEQ.LAST_SEQ = s.dev.fld HL_SEQ.LAST_SEQ))

/-- Key-off (15 R528 to R530) before a record can be open, and AUTO_CAL (15 R526). The model's readings: assumptions 29, 30. -/
def Obligations.KeyOffKeepsTheTime : Prop :=
  (∀ (s : State), s.dev.sys.powered = true → s.dev.boot.loaded = true → s.dev.vg.phase < 1000000000 → s.dev.fld HM_SEAL.SEAL = 0 →
    s.dev.hi.vigilReq = none → Completes .keyOff s (fun t => t.sys.powered = false ∧ t.sys.supplies = false ∧ t.sys.keyHigh = false ∧
    (t.vg.cnt + t.vg.phase * 2 ^ 17) % 2 ^ 96 = s.dev.ax0 / 2 ^ 45 * 2 ^ 29 % 2 ^ 96 ∧ t.vg.offAt = t.vg.cnt ∧
    t.fld VG_OFF.UNC_OFF = min (s.dev.unc + 100) 0xFFFFFFFF ∧ (t.fld VG_STAT.VALID = 1 ↔ s.dev.fld VG_STAT.XFAIL ≠ 1 ∧ s.dev.vg.stopped = false ∧
    s.dev.fld AX0_STATUS.STATE ≠ 3) ∧ t.fuse = s.dev.fuse)) ∧
  (∀ (s : State), s.dev.sys.powered = true → Completes .keyOff s (fun t => t.sys.powered = false ∧ t.fld SYS_MODE.MODE = 0 ∧ t.fld HM_SEAL.SEAL = 0 ∧
    t.tb.a0 = {} ∧ t.fuse = s.dev.fuse ∧ t.mem = s.dev.mem)) ∧
  (∀ (s : State), s.dev.sys.powered = false → Completes .keyOff s (fun t =>
    t = { s.dev with sys := { s.dev.sys with keyHigh := false, want := false } })) ∧
  (∀ (s : State) (e : Int) (n : Nat), s.dev.fld VG_CTRL.AUTO_CAL = 1 → s.dev.fld AX0_STATUS.STATE = 1 → 2 ^ 20 ≤ s.dev.tb.calEdges → 4 < n →
    Completes (.vigilCalDone e n) s (fun t => t = { s.dev with tb := { s.dev.tb with calEdges := 0 } })) ∧
  (∀ (s : State) (e : Int) (n : Nat), s.dev.fld VG_CTRL.AUTO_CAL = 1 → s.dev.fld AX0_STATUS.STATE = 1 → 2 ^ 20 ≤ s.dev.tb.calEdges →
    s.dev.wroteNow 0x3018 = false → n ≤ 4 → s.dev.vgCurve % 16 = 0 → -8388608 ≤ e - s.dev.vgCurve / 16 → e - s.dev.vgCurve / 16 < 8388608 →
    Completes (.vigilCalDone e n) s (fun t =>
    t = { s.dev.setFld VG_CAL.CAL (ofS 24 (e - s.dev.vgCurve / 16)) with tb := { s.dev.tb with calEdges := 0 } })) ∧
  (∀ (s : State) (e : Int) (n : Nat), (s.dev.fld VG_CTRL.AUTO_CAL = 0 ∨ s.dev.fld AX0_STATUS.STATE ≠ 1 ∨ s.dev.tb.calEdges < 2 ^ 20) →
    Completes (.vigilCalDone e n) s (fun t => t = s.dev))

/-- REPAIR_MAP_UPDATE (13 R457). The model's readings: assumption 31. -/
def Obligations.RepairMapRecordsRetirements : Prop :=
  ∀ (s : State), s.dev.sys.powered = true → Completes .repairMapUpdate s (fun t => t = { s.dev with sys := { s.dev.sys with map := t.sys.map } } ∧
    (∀ p, p < 34 → s.dev.fld QY_STATUS.ROLE p = 3 → (QY_STATUS.ROLE.key p 0, 3) ∈ t.sys.map) ∧ (∀ p, p < 26 → s.dev.fld ME_STATUS.ROLE p = 3 →
    (ME_STATUS.ROLE.key p 0, 3) ∈ t.sys.map) ∧ (s.dev.fld AX0_REPAIR.RETIRED ≠ 0 → (AX0_REPAIR.RETIRED.key 0 0, s.dev.fld AX0_REPAIR.RETIRED)
    ∈ t.sys.map) ∧ ∀ f ∈ [SYS_FAULT.TB_DEGRADED, SYS_FAULT.QUAY_EXHAUSTED, SYS_FAULT.ENGINE_EXHAUSTED, SYS_FAULT.BERTH_EXHAUSTED],
    s.dev.fld f = 1 → (f.key 0 0, 1) ∈ t.sys.map)

/-- The axis and tracker rows (02 R55, R61; 03 R94; 12 R429). The model's readings: assumptions 25, 26. -/
def Obligations.AxisRowsAct : Prop :=
  (∀ (s : State) (n : Nat) (r : AxisReq), 0 < n → n < 16 → (s.dev.axis n).sched.find? (fun x => x.at_ ≤ s.dev.ns) = some r → (r.cont = false ∨
    s.dev.fld AX_CFG.EN n = 0 ∨ s.dev.fld AX_CFG.TYPE n ≠ 1 ∨ cut r.cfg 0 3 ≠ 1) → cut r.cfg 0 3 ≠ 0 → cut r.cfg 0 3 ≠ 7 → r.parb < 2 ^ 64 ∧
    r.parc < 2 ^ 64 → Completes (.setAxisApply n) s (fun t => t.fld AX_CFG.TYPE n = cut r.cfg 0 3 ∧ t.fld AX_CFG.EN n = cut r.cfg 3 1 ∧
    t.fld AX_CFG.SRC n = cut r.cfg 4 12 ∧ t.fld AX_PARA.PARA n = r.para % 2 ^ 48 ∧ t.fld AX_PARB.PARB n = r.parb ∧ t.fld AX_PARC.PARC n = r.parc ∧
    (t.axis n).sched = (s.dev.axis n).sched.erase r)) ∧
  (∀ (s : State) (n : Nat) (r : AxisReq), 0 < n → n < 16 → (s.dev.axis n).sched.find? (fun x => x.at_ ≤ s.dev.ns) = some r → r.cont = true →
    s.dev.fld AX_CFG.EN n = 1 → s.dev.fld AX_CFG.TYPE n = 1 → cut r.cfg 0 3 = 1 → Completes (.setAxisApply n) s (fun t =>
    t.fld AX_CFG.TYPE n = 1 ∧ t.fld AX_CFG.EN n = cut r.cfg 3 1 ∧ t.fld AX_CFG.SRC n = cut r.cfg 4 12 ∧ t.fld AX_PARA.PARA n = r.para % 2 ^ 48 ∧
    t.fld AX_PARB.PARB n = ofS 64 (s.dev.axDerived n / 65536) ∧ t.fld AX_PARC.PARC n = s.dev.ns % 2 ^ 64 ∧
    (t.axis n).sched = (s.dev.axis n).sched.erase r)) ∧
  (∀ (s : State) (n : Nat), 0 < n → n < 16 → s.dev.fld AX_CFG.EN n = 1 → (s.dev.fld AX_CFG.TYPE n = 3 ∨ s.dev.fld AX_CFG.TYPE n = 4) →
    2 ≤ (s.dev.axis n).pulses → (s.dev.axis n).tk + max 2 (s.dev.fld AX_PARB.PARB n % 16) * (s.dev.axis n).pk ≤ s.dev.t8 →
    Completes (.axisStall n) s (fun t => t = s.dev.setAxis n { s.dev.axis n with stalled := true })) ∧
  (∀ (s : State) (n : Nat), n < 8 → s.dev.wtStallDue n = true → s.dev.fld WT_STATUS.STALL n = 0 → s.dev.fld WT_STATUS.STATE n = 3 →
    Completes (.wtStall n) s (fun t => t.fld WT_STATUS.STALL n = 1 ∧
    t.trkr n = { s.dev.trkr n with wait := 1, ph := { (s.dev.trkr n).ph with stall := 0 } } ∧ ∃ r, t.sl.rises = s.dev.sl.rises ++ [r] ∧
    r.src = 0x604 + 8 * n)) ∧
  (∀ (s : State) (n : Nat), n < 8 → s.dev.wtStallDue n = true → s.dev.fld WT_STATUS.STALL n = 0 → s.dev.fld WT_STATUS.STATE n = 5 →
    Completes (.wtStall n) s (fun t => t.fld WT_STATUS.STALL n = 1 ∧ t.trkr n = { s.dev.trkr n with ph := { (s.dev.trkr n).ph with wait := 1 } } ∧
    ∃ r, t.sl.rises = s.dev.sl.rises ++ [r] ∧ r.src = 0x604 + 8 * n)) ∧
  (∀ (s : State) (n : Nat), n ≠ 0 → n < 16 → s.dev.fld AX_CFG.TYPE n = 5 → s.dev.fld AX_CFG.EN n = 1 → (s.dev.axis n).remote.seen = true →
    (s.dev.axis n).remote.absent = false → (s.dev.axis n).remote.at_ + 4000 ≤ s.dev.elNs → Completes (.remoteHoldover n) s (fun t =>
    t = s.dev.setRemote n { (s.dev.axis n).remote with holdover := true })) ∧
  (∀ (s : State) (n : Nat), n ≠ 0 → n < 16 → s.dev.fld AX_CFG.TYPE n = 5 → s.dev.fld AX_CFG.EN n = 1 → (s.dev.axis n).remote.absent = false →
    (s.dev.axis n).remote.subnak = none → (s.dev.axis n).remote.at_ + max 1 (s.dev.fld CW_TIMING.PUB_TIMEOUT_MS) * 1000000 ≤ s.dev.elNs →
    Completes (.remoteAbsent n) s (fun t =>
    t.axis n = { s.dev.axis n with remote := { (s.dev.axis n).remote with held := s.dev.axValue n, slew := 0, absent := true } } ∧ ∃ r,
    t.sl.rises = s.dev.sl.rises ++ [r]))

/-- The rows of the pins and of the scan (04 R109, R112, R132, R139; 07 R225; 13 R453). The model's readings: assumptions 35, 40. -/
def Obligations.PinRowsAct : Prop :=
  (∀ (s : State) (pin : Nat) (lv : Bool) (b : BitVec 4), pin < 128 → (s.dev.pin pin).ball ≠ lv → (s.dev.pin pin).expect = [] →
    (s.dev.pin pin).window = [] → (s.dev.pin pin).filt ≠ (lv != s.dev.flag TIO_PIN.IN_INV pin) → s.dev.fld TIO_PIN.OUT_SRC pin ≠ 1 →
    s.dev.fld TIO_PIN.IN_DIS pin = 0 → Completes (.pinTransition pin lv b) s (fun t => (t.pin pin).ball = lv ∧
    (t.pin pin).filt = (s.dev.pin pin).filt ∧
    (t.pin pin).window = [{ t := s.dev.t8 + b.toNat, el := s.dev.el8 + b.toNat, lvl := lv != s.dev.flag TIO_PIN.IN_INV pin, axs := s.dev.sampleAxes b.toNat }]
    ∧ ∀ q, q ≠ pin → t.pin q = s.dev.pin q)) ∧
  (∀ (s : State) (pin : Nat) (w : InEdge) (r : List InEdge), (s.dev.pin pin).window = w :: r → w.due.getD (w.el + s.dev.filtLen pin + 128)
    ≤ s.dev.el8 → Completes (.filterAccept pin) s (fun t =>
    t = { ((s.dev.setPin pin { s.dev.pin pin with window := r }).deliverPin pin w) with tb := s.dev.tb, mem := s.dev.mem, fuse := s.dev.fuse })) ∧
  (∀ (s : State) (pin : Nat) (x : Expect) (r : List Expect), (s.dev.pin pin).expect = x :: r → x.t + 64 ≤ s.dev.t8 →
    Completes (.auditNoTransition pin) s (fun t =>
    t = { ((s.dev.setPin pin { s.dev.pin pin with expect := r }).driverFault pin x.by_ x.t 0x7FFF) with tb := s.dev.tb, mem := s.dev.mem, fuse := s.dev.fuse })) ∧
  (∀ (s : State) (p i : Nat) (e : Edge), p < 34 → s.dev.fld QY_STATUS.ROLE p = 0 → (s.dev.quay (s.dev.fld QY_STATUS.LOGICAL p)).edges[i]? = some e →
    e.t < s.dev.t8 + 16 → (s.dev.pin e.item.outPin).early = none → e.role = .tail → Completes (.edgePlace p i) s (fun t =>
    (t.chan e.ch).last = e.t / 8 ∧ (t.chan e.ch).lastSub = e.t % 8 ∧ (t.chan e.ch).late = e.late ∧
    (t.quay (s.dev.fld QY_STATUS.LOGICAL p)).edges = (s.dev.quay (s.dev.fld QY_STATUS.LOGICAL p)).edges.eraseIdx i ∧ ∀ l, e.lvl = some l →
    e.toggle = false → e.item.outEn = true → s.dev.pinOut e.item.outPin e.ch = true → (t.pin e.item.outPin).chLvl = some l)) ∧
  (∀ (s : State) (p k : Nat) (e : Edge) (i : ChItem), p < 34 → s.dev.fld QY_STATUS.ROLE p = 0 →
    (s.dev.quay (s.dev.fld QY_STATUS.LOGICAL p)).edges[k]? = some e → e.t < s.dev.t8 + 16 → (s.dev.pin e.item.outPin).early = none →
    e.role = .first → e.item.mode = 1 → (s.dev.chan e.ch).cur = some i → i.gen = e.item.gen → (s.dev.chan e.ch).queued = none →
    (s.dev.chan e.ch).waits = [] → Completes (.edgePlace p k) s (fun t => (t.chan e.ch).cur = none ∧ (t.chan e.ch).last = e.t / 8 ∧
    (t.chan e.ch).lastSub = e.t % 8 ∧ ∃ r, t.sl.rises = s.dev.sl.rises ++ [r] ∧ r.src = 3 * e.ch)) ∧
  (∀ (s : State) (c : Nat) (i : ChItem), s.dev.slotDue c = true → (s.dev.chan c).cmds = [] → s.dev.qpWaits c = [] → (s.dev.chan c).inputs = [] →
    (s.dev.chan c).frozen = false → (s.dev.chan c).owed = none → (s.dev.chan c).tails = [] → (s.dev.chan c).cur = some i → i.mode = 1 →
    i.axis = 0 → i.gated = false → (s.dev.chan c).cstate = 1 → (s.dev.chan c).started = false → (s.dev.chan c).jump = none →
    (s.dev.chan c).lastEdge = none → s.dev.fld SYS_MODE.MODE = 2 → (s.dev.quay (c / 16)).half = false → (s.dev.quay (c / 16)).round = false →
    s.dev.t8 + 768 + 8 * i.adv ≤ 8 * i.cmp + i.sub → 8 * i.cmp + i.sub < s.dev.t8 + 1024 + 8 * i.adv → s.dev.slotsUsed (c / 16) < 8 →
    Completes (.scanVisit c false) s (fun t => (∃ e, (t.quay (c / 16)).edges = (s.dev.quay (c / 16)).edges ++ [e] ∧ e.ch = c ∧ e.item = i ∧
    e.role = .first ∧ e.t = 8 * i.cmp + i.sub - 8 * i.adv ∧ e.late = false) ∧ (t.chan c).started = true ∧ (t.chan c).cstate = 2)) ∧
  (∀ (s : State) (c : Nat), s.dev.slotDue c = true → (s.dev.chan c).cmds = [] → s.dev.qpWaits c = [] → (s.dev.chan c).cur = none →
    (s.dev.chan c).queued = none → (s.dev.chan c).ended = none → (s.dev.chan c).owed = none → (s.dev.chan c).tails = [] →
    Completes (.scanVisit c false) s (fun t => (t.chan c).inputs = [] ∧ (t.chan c).cur = none ∧ (t.quay (c / 16)).next = (c + 1) % 16 ∧
    (t.quay (c / 16)).at_ = some s.dev.tb.eclk)) ∧
  (∀ (s : State) (c : Nat) (i : ChItem), s.dev.slotDue c = true → (s.dev.chan c).cmds = [] → s.dev.qpWaits c = [] → (s.dev.chan c).cur = some i →
    s.dev.fld QY_STATUS.SUSPECT (s.dev.physOf (c / 16)) = 0 → s.dev.fld QY_STATUS.ROLE (s.dev.physOf (c / 16)) = 0 → (s.dev.chan c).inputs = [] →
    Completes (.scanVisit c true) s (fun t => (t.chan c).frozen = true ∧ t.fld QY_STATUS.SUSPECT (s.dev.physOf (c / 16)) = 1)) ∧
  (∀ (s : State) (c : Nat) (i : ChItem), (s.dev.chan c).cur = some i → i.mode = 6 → i.tcap ≠ 0 → (s.dev.chan c).mOut = false →
    (s.dev.chan c).mFrom + 8 * i.tcap ≤ s.dev.el8 → (s.dev.chan c).frozen = false → (s.dev.chan c).inputs = [] → Completes (.measureTimeout c)
    s (fun t => (t.chan c).mOut = true ∧ (t.chan c).mSel = none ∧ ∃ r, t.sl.rises = s.dev.sl.rises ++ [r] ∧ r.src = 3 * c + 1))

/-- Substitution (04 R147, R148; 13 R452) and the vernier (04 R114). The model's readings: assumption 34. -/
def Obligations.SubstitutionMovesAQuay : Prop :=
  (∀ (s : State) (x : Subst), s.dev.qy.subst = some x → x.phase = 1 → (upto 16).all (fun k => !(s.dev.chan (16 * x.q + k)).frozen) = true →
    Completes (.mirrorCopyDone []) s (fun t => t = { s.dev with qy := { s.dev.qy with subst := some { x with phase := 2, failed := 0 } } })) ∧
  (∀ (s : State) (x : Subst), s.dev.qy.subst = some x → x.phase = 2 → Completes (.mirrorCompareDone false) s (fun t =>
    t = { s.dev with qy := { s.dev.qy with subst := some { x with phase := 3 } } })) ∧
  (∀ (s : State) (x : Subst) (c : Cmd), s.dev.qy.subst = some x → x.phase = 2 → x.cmd = some c → x.new < 34 → s.dev.fld QY_STATUS.ROLE x.new = 2 →
    s.dev.qy.auto = [] → Completes (.mirrorCompareDone true) s (fun t => t.qy.subst = none ∧ t.fld QY_STATUS.ROLE x.new = 1 ∧
    t.fld QY_STATUS.LOGICAL x.new = 0 ∧ (t.physQ x.new).mismatches = (s.dev.physQ x.new).mismatches + 1)) ∧
  (∀ (s : State) (x : Subst), s.dev.qy.subst = some x → x.phase = 3 → x.old < 34 → x.new < 34 → x.q < 32 → x.old ≠ x.new →
    2 * s.dev.tb.eclk ≤ x.at_ + 10000 → s.dev.quiet x.q = true → s.dev.qy.auto = [] → Completes .quaySwitch s (fun t =>
    t.fld QY_STATUS.ROLE x.old = 3 ∧ t.fld QY_STATUS.SUSPECT x.old = 0 ∧ t.fld QY_STATUS.ROLE x.new = 0 ∧ t.fld QY_STATUS.LOGICAL x.new = x.q ∧
    t.qy.subst = none ∧ (∀ p, p ≠ x.old → p ≠ x.new → t.fld QY_STATUS.ROLE p = s.dev.fld QY_STATUS.ROLE p) ∧ t.qy.chans = s.dev.qy.chans ∧
    t.qy.quays = s.dev.qy.quays)) ∧
  (∀ (s : State) (x : Subst), s.dev.qy.subst = some x → x.at_ + 10000 ≤ 2 * s.dev.tb.eclk → x.cmd = none → x.new < 34 →
    s.dev.fld QY_STATUS.ROLE x.new = 2 → s.dev.qy.auto = [] → Completes .noQuietTimeout s (fun t => t.qy.subst = none ∧
    t.qy.retry = s.dev.qy.retry ++ [(x.old, 2 * s.dev.tb.eclk + 100000)] ∧ t.fld QY_STATUS.ROLE x.new = 1 ∧ t.fld QY_STATUS.LOGICAL x.new = 0 ∧
    ∀ p, p ≠ x.new → t.fld QY_STATUS.ROLE p = s.dev.fld QY_STATUS.ROLE p)) ∧
  (∀ (s : State) (p due n : Nat) (r : List (Nat × Nat)) (l : List Nat), s.dev.qy.retry = (p, due) :: r → due ≤ 2 * s.dev.tb.eclk → p < 34 →
    s.dev.fld QY_STATUS.ROLE p = 0 → s.dev.qy.subst = none → s.dev.spareQuays = n :: l → Completes .autoSubRetry s (fun t => t.qy.retry = r ∧
    t.qy.subst = some { q := s.dev.fld QY_STATUS.LOGICAL p, old := s.dev.physOf (s.dev.fld QY_STATUS.LOGICAL p), new := n, phase := 1, at_ := 2 * s.dev.tb.eclk, cmd := none }
    ∧ t.fld QY_STATUS.ROLE n = 2 ∧ t.fld QY_STATUS.LOGICAL n = s.dev.fld QY_STATUS.LOGICAL p % 32)) ∧
  (∀ (s : State) (p : Nat), p < 34 → Completes (.vernierCal p .good) s (fun t =>
    t = (s.dev.setFld QY_DIAG.VCAL_OK 1 p).setPhysQ p { s.dev.physQ p with calAt := some (2 * s.dev.tb.eclk) })) ∧
  (∀ (s : State) (p : Nat), p < 34 → s.dev.fld QY_STATUS.ROLE p = 0 → s.dev.fld QY_STATUS.SUSPECT p = 0 → Completes (.vernierCal p .bad) s (fun t =>
    t.fld QY_STATUS.SUSPECT p = 1 ∧ t.fld QY_STATUS.ROLE p = 0))

/-- ARM, UPDATE and DISARM (04 R109, R118 to R121): their acceptance, from the state of the part once the ring has accepted the command, and their
effect in the SCAN_VISIT of the channel, for an item that follows no gate. The model's readings: assumptions 36, 49. -/
def Obligations.ChannelCommandsAct : Prop :=
  (∀ (s : State) (m : Nat) (w : Entry), s.dev.takes m 0x01 none w = true →
    let c := s.dev.cmdFor m 0x01 none w
    Completes (.arm m w) s (fun t => (t.chan c.target) = { (s.dev.chan c.target) with cmds := (s.dev.chan c.target).cmds ++ [c] } ∧ (∀ k,
    k ≠ c.target → t.chan k = s.dev.chan k) ∧ (t.ring m).running = (s.dev.ring m).running ++ [c] ∧ t.regs = (s.dev.begun m c).regs)) ∧
  (∀ (s : State) (m : Nat) (w : Entry), s.dev.takes m 0x02 none w = true →
    let c := s.dev.cmdFor m 0x02 none w
    Completes (.disarm m w) s (fun t => (t.chan c.target) = { (s.dev.chan c.target) with cmds := (s.dev.chan c.target).cmds ++ [c] } ∧ (∀ k,
    k ≠ c.target → t.chan k = s.dev.chan k) ∧ (t.ring m).running = (s.dev.ring m).running ++ [c] ∧ t.regs = (s.dev.begun m c).regs)) ∧
  (∀ (s : State) (m : Nat) (w : Entry), s.dev.takes m 0x03 none w = true →
    let c := s.dev.cmdFor m 0x03 none w
    Completes (.update m w) s (fun t => (t.chan c.target) = { (s.dev.chan c.target) with cmds := (s.dev.chan c.target).cmds ++ [c] } ∧ (∀ k,
    k ≠ c.target → t.chan k = s.dev.chan k) ∧ (t.ring m).running = (s.dev.ring m).running ++ [c] ∧ t.regs = (s.dev.begun m c).regs)) ∧
  (∀ (s : State) (c : Nat) (x : Cmd), x.op = 1 → x.target = c → s.dev.slotDue c = true → s.dev.qpWaits c = [] → (s.dev.chan c).cmds = [x] →
    (s.dev.chan c).inputs = [] → (s.dev.chan c).tails = [] → (s.dev.chan c).owed = none → (s.dev.chan c).frozen = false →
    s.dev.armCheck c x.item = 0 → x.item.gated = false → (s.dev.chan c).cur = none → (s.dev.chan c).queued = none → (s.dev.chan c).cstate ≠ 4 →
    Completes (.scanVisit c false) s (fun t => (t.chan c).cur = some { x.item with gen := nextGen (s.dev.chan c).gen } ∧
    (t.chan c).gen = nextGen (s.dev.chan c).gen ∧ (t.chan c).queued = none ∧ (t.chan c).cmds = [] ∧ t.fld SYS_MODE.ARMED = 1)) ∧
  (∀ (s : State) (c : Nat) (x : Cmd) (i : ChItem), x.op = 1 → x.target = c → s.dev.slotDue c = true → s.dev.qpWaits c = [] →
    (s.dev.chan c).cmds = [x] → (s.dev.chan c).inputs = [] → (s.dev.chan c).tails = [] → (s.dev.chan c).owed = none →
    (s.dev.chan c).frozen = false → s.dev.armCheck c x.item = 0 → (s.dev.chan c).cur = some i → i.mode = 1 → (s.dev.chan c).started = true →
    (s.dev.chan c).cstate = 2 → (s.dev.chan c).queued = none → Completes (.scanVisit c false) s (fun t => (t.chan c).cur = some i ∧
    (t.chan c).queued = some { x.item with gen := nextGen (s.dev.chan c).gen } ∧ (t.chan c).gen = nextGen (s.dev.chan c).gen ∧
    t.fld SYS_MODE.ARMED = 1)) ∧
  (∀ (s : State) (c : Nat) (x : Cmd) (i : ChItem), x.op = 3 → x.target = c → s.dev.slotDue c = true → s.dev.qpWaits c = [] →
    (s.dev.chan c).cmds = [x] → (s.dev.chan c).inputs = [] → (s.dev.chan c).tails = [] → (s.dev.chan c).owed = none →
    (s.dev.chan c).frozen = false → (s.dev.chan c).cur = some i → i.mode = 1 → i.gated = false → bits x.w 448 16 ≠ 0 → bits x.w 448 16 < 128 →
    s.dev.rangeBad (i.updated x.item (bits x.w 448 16)) = false → Completes (.scanVisit c false) s (fun t =>
    (t.chan c).cur = some (i.updated x.item (bits x.w 448 16)) ∧ (t.chan c).shown = i.updated x.item (bits x.w 448 16) ∧
    (t.chan c).gen = (s.dev.chan c).gen ∧ (i.updated x.item (bits x.w 448 16)).gen = i.gen)) ∧
  (∀ (s : State) (c : Nat) (x : Cmd) (i : ChItem), x.op = 2 → x.target = c → s.dev.slotDue c = true → s.dev.qpWaits c = [] →
    (s.dev.chan c).cmds = [x] → (s.dev.chan c).inputs = [] → (s.dev.chan c).tails = [] → (s.dev.chan c).owed = none →
    (s.dev.chan c).frozen = false → (s.dev.chan c).cur = some i → i.mode = 1 → (s.dev.chan c).started = false → (s.dev.chan c).queued = none →
    s.dev.hasEdges c = false → Completes (.scanVisit c false) s (fun t => (t.chan c).cur = none ∧ (t.chan c).cstate = 0 ∧
    (t.chan c).gen = (s.dev.chan c).gen))

/-- NOP, TALLY_SET, SET_AXIS and ENTER_VIGIL (09 R307, R316, R317; 12 R441; 02 R59). The model's readings: assumptions 48, 49, 52. -/
def Obligations.CommandsReportWhatTheyDid : Prop :=
  (∀ (s : State) (m : Nat) (w : Entry), s.dev.takes m 0x00 none w = true →
    let c := s.dev.cmdFor m 0x00 none w
    s.dev.reports m w = true → Completes (.nop m w) s (fun t => s.dev.completedIn t c 0 c.rgen ([]) ∧
    (t.ring m).running = (s.dev.ring m).running.filter (fun x => x.uid ≠ s.dev.hi.uid) ∧ t.qy = s.dev.qy ∧ t.axes = s.dev.axes)) ∧
  (∀ (s : State) (m : Nat) (w : Entry), s.dev.takes m 0x00 none w = true →
    w.getLsbD 10 = true → Completes (.nop m w) s (fun t => t.sl = s.dev.sl ∧ (t.ring m).running = (s.dev.ring m).running.filter (fun x =>
    x.uid ≠ s.dev.hi.uid))) ∧
  (∀ (s : State) (m : Nat) (w : Entry), s.dev.takes m 0x12 none w = true →
    let c := s.dev.cmdFor m 0x12 none w
    s.dev.cwMaster = true → s.dev.reports m w = true → Completes (.tallySet m w) s (fun t =>
    t.cw = { s.dev.cw with nextSet := ins c.target (bits c.w 64 32, bits c.w 128 64, s.dev.tb.eclk) s.dev.cw.nextSet } ∧
    s.dev.completedIn t c 0 c.rgen ([byt 22 4 (bits c.w 64 32)]))) ∧
  (∀ (s : State) (m : Nat) (w : Entry), s.dev.takes m 0x12 none w = true →
    let c := s.dev.cmdFor m 0x12 none w
    s.dev.cwMaster = false → s.dev.reports m w = true → Completes (.tallySet m w) s (fun t => t.cw = s.dev.cw ∧
    s.dev.completedIn t c 0x13 c.rgen ([]))) ∧
  (∀ (s : State) (m : Nat) (w : Entry), s.dev.takes m 0x05 none w = true →
    let c := s.dev.cmdFor m 0x05 none w
    let b := s.dev.begun m c
    b.setAxisCheck c.target (bits c.w 64 32) c.opt = 0 → Completes (.setAxis m w) s (fun t =>
    t.axis c.target = { s.dev.axis c.target with sched := (s.dev.axis c.target).sched ++ [{ cmd := c, cfg := bits c.w 64 32, para := bits c.w 128 64, parb := bits c.w 192 64, parc := bits c.w 256 64, cont := c.opt, at_ := bits c.w 320 64 }] }
    ∧ (t.ring m).running = (s.dev.ring m).running ++ [c])) ∧
  (∀ (s : State) (m : Nat) (w : Entry), s.dev.takes m 0x14 none w = true →
    let c := s.dev.cmdFor m 0x14 none w
    s.dev.reports m w = true → Completes (.enterVigil m w) s (fun t => t.hi.vigilReq = some c ∧ s.dev.completedIn t c 0 c.rgen ([])))

/-- DISCIPLINE (02 R37 to R42, R47, R48) and STEP_TIME (02 R43, R44). The model's readings: assumption 22. -/
def Obligations.TimeCommandsSetAx0 : Prop :=
  (∀ (s : State) (m : Nat) (w : Entry), s.dev.takes m 0x06 none w = true →
    let c := s.dev.cmdFor m 0x06 none w
    let r := (if bits c.w 64 1 = 1 then s.dev.rate else 0) + toS 48 (bits c.w 128 48)
    let k := toS 48 (bits c.w 192 48) * 2 ^ 32
    let q := if bits c.w 65 2 = 1 then k else if bits c.w 65 2 = 2 then s.dev.rem + k else s.dev.rem
    s.dev.dsrcDriver = true → s.dev.fld AX0_STATUS.STATE ≠ 3 → bits c.w 72 8 = s.dev.fld AX0_STATUS.STEP_COUNT → bits c.w 65 2 ≠ 3 →
    r.natAbs ≤ 140737488355 → (r - s.dev.rate).natAbs * 1000000 ≤ s.dev.fld AX0_SLEW.RSTEP_PPM * 2 ^ 48 → q.natAbs ≤ 2 ^ 79 →
    Completes (.discipline m w) s (fun t =>
    t.tb = { s.dev.tb with a0 := { s.dev.tb.a0 with rate := BitVec.ofInt 48 r, rem := q }, a1 := { s.dev.tb.a1 with rate := BitVec.ofInt 48 r, rem := q }, a2 := { s.dev.tb.a2 with rate := BitVec.ofInt 48 r, rem := q }, ref := s.dev.tb.elapsed, uncBase := bits c.w 256 32, uncAt := s.dev.tb.elapsed }
    ∧ t.fld AX0_STATUS.STATE = 1)) ∧
  (∀ (s : State) (m : Nat) (w : Entry), s.dev.takes m 0x07 none w = true →
    let c := s.dev.cmdFor m 0x07 none w
    w.getLsbD 8 = false → s.dev.fld SYS_MODE.MODE = 1 → s.dev.fld SYS_MODE.STEPPED = 0 → s.dev.lg.steps = [] → s.dev.armedOnTime = false →
    Completes (.stepTime m w) s (fun t =>
    t.lg.steps = [{ cmd := c, value := bits c.w 64 64 * 65536 + bits c.w 128 16, rel := c.opt, unc := bits c.w 160 32, force := false, old := s.dev.ax0, new := if c.opt then ofS 80 ((s.dev.ax0 / 2 ^ 32 : Nat) + toS 80 (bits c.w 64 64 * 65536 + bits c.w 128 16)) * 2 ^ 32 else (bits c.w 64 64 * 65536 + bits c.w 128 16) * 2 ^ 32 }]
    ∧ t.tb = s.dev.tb ∧ (t.ring m).running = (s.dev.ring m).running ++ [c])) ∧
  (∀ (s : State) (m : Nat) (w : Entry), s.dev.takes m 0x07 none w = true →
    let c := s.dev.cmdFor m 0x07 none w
    w.getLsbD 8 = false → s.dev.fld SYS_MODE.MODE = 1 → s.dev.fld SYS_MODE.STEPPED = 1 → s.dev.reports m w = true → Completes (.stepTime m w)
    s (fun t => t.tb = s.dev.tb ∧ t.lg.steps = s.dev.lg.steps ∧ s.dev.completedIn t c 0x0B c.rgen ([])))

/-- The commands that start long work on engines and quays (04 R147; 06 R212, R214, R216, R219). The model's readings: assumptions 34, 42, 49. -/
def Obligations.EngineAndQuayCommandsStart : Prop :=
  (∀ (s : State) (m : Nat) (w : Entry), s.dev.takes m 0x08 none w = true →
    let c := s.dev.cmdFor m 0x08 none w
    (s.dev.ops c.target).load = none → (s.dev.ops c.target).relief = none → (s.dev.ops c.target).act = none → 0 < bits c.w 128 32 →
    bits c.w 128 32 ≤ 90432 → bits c.w 160 1 = 0 → s.dev.fld ME_STATUS.RUNNING (s.dev.meHome c.target) = 0 → Completes (.loadImage m w)
    s (fun t => t.fld ME_IMAGE.LSTATE (s.dev.meHome c.target) = 1 ∧ t.fld ME_IMAGE.ACT (s.dev.meHome c.target) = 0 ∧
    (t.ops c.target).load = some { cmd := c, target := (s.dev.meHome c.target), space := 0, addr := bits c.w 64 64, len := bits c.w 128 32 } ∧
    (t.ops c.target).loaded = true ∧ (t.ring m).running = (s.dev.ring m).running ++ [c])) ∧
  (∀ (s : State) (m : Nat) (w : Entry), s.dev.takes m 0x09 none w = true →
    let c := s.dev.cmdFor m 0x09 none w
    (s.dev.ops c.target).relief = none → (s.dev.ops c.target).act = none → s.dev.fld ME_STATUS.RUNNING (s.dev.meHome c.target) = 0 →
    s.dev.fld ME_IMAGE.LSTATE (s.dev.meHome c.target) = 2 → Completes (.activateImage m w) s (fun t =>
    (t.ops c.target).act = some { cmd := c, keep := c.opt, due := 2 * s.dev.tb.eclk + 1000 * (if bits c.w 64 16 = 0 then 100 else bits c.w 64 16) }
    ∧ t.fld ME_DSTAT.HELD (s.dev.meServ c.target) = 1 ∧ (t.ring m).running = (s.dev.ring m).running ++ [c])) ∧
  (∀ (s : State) (m : Nat) (w : Entry) (r : Nat), s.dev.takes m 0x0B (some false) w = true →
    let c := s.dev.cmdFor m 0x0B (some false) w
    (s.dev.ops c.target).load = none → (s.dev.ops c.target).relief = none → (s.dev.ops c.target).act = none → bits c.w 64 8 = r → r = 24 ∨ r = 25 →
    s.dev.reliefFree r = true → s.dev.isWarm r c.target = false → Completes (.relieveEngine m w) s (fun t =>
    (t.ops c.target).relief = some { old := s.dev.meServ c.target, new := r, cmd := some c } ∧ t.fld ME_RELIEF.COPYING (r - 24) = 1 ∧
    (t.ring m).running = (s.dev.ring m).running ++ [c])) ∧
  (∀ (s : State) (m : Nat) (w : Entry), s.dev.takes m 0x0B (some true) w = true →
    let c := s.dev.cmdFor m 0x0B (some true) w
    (s.dev.ops c.target).load = none → (s.dev.ops c.target).relief = none → (s.dev.ops c.target).act = none →
    s.dev.meServ c.target ≠ (s.dev.meHome c.target) → (s.dev.ops c.target).loaded = false → Completes (.relieveReturn m w) s (fun t =>
    (t.ops c.target).relief = some { old := s.dev.meServ c.target, new := (s.dev.meHome c.target), cmd := some c, ret := true, copied := true } ∧
    (t.ring m).running = (s.dev.ring m).running ++ [c])) ∧
  (∀ (s : State) (m : Nat) (w : Entry) (k : Nat), s.dev.takes m 0x0A none w = true →
    let c := s.dev.cmdFor m 0x0A none w
    bits c.w 64 8 = k → k = 32 ∨ k = 33 → s.dev.fld QY_STATUS.ROLE k = 1 → s.dev.qy.subst = none → Completes (.substituteQuay m w) s (fun t =>
    t.qy = { s.dev.qy with subst := some { q := c.target, old := s.dev.physOf c.target, new := k, phase := 1, at_ := 2 * s.dev.tb.eclk, cmd := some c } }
    ∧ t.fld QY_STATUS.ROLE k = 2 ∧ t.fld QY_STATUS.LOGICAL k = c.target ∧ (t.ring m).running = (s.dev.ring m).running ++ [c]))

/-- Commands of the lighter (10 R338, R359), berths (11 R373) and pin engines (07 R244), and BODY_READ_DONE. The model's readings: assumptions 39, 43,
45. -/
def Obligations.LighterBerthAndSwapCommandsAct : Prop :=
  (∀ (s : State) (m : Nat) (w : Entry) (a : Nat), s.dev.takes m 0x0C none w = true →
    let c := s.dev.cmdFor m 0x0C none w
    bits c.w 64 64 = a → a % 8 = 0 → cut a 62 2 < 2 → s.dev.fld LT_STAT.LSTATE c.target = 0 → Completes (.startLighter m w) s (fun t =>
    t.fld LT_STAT.LSTATE c.target = 1 ∧ t.fld LT_PC.PC c.target = a ∧ t.fld LT_STAT.PRIO c.target = bits c.w 128 2 ∧
    t.fld LT_STAT.LGEN c.target = (if s.dev.fld LT_STAT.LGEN c.target = 0xFFFF then 1 else (s.dev.fld LT_STAT.LGEN c.target + 1) % 65536) ∧
    t.fld LT_STAT.LATCH c.target = 0 ∧ t.fld LT_BYTES.BYTES c.target = 0 ∧
    (t.ltc c.target).fetches = [(ltLineOf a, (s.dev.ltc c.target).pi), (ltLineNext (ltLineOf a), (s.dev.ltc c.target).pi)])) ∧
  (∀ (s : State) (m : Nat) (w : Entry), s.dev.takes m 0x0D (some false) w = true →
    let c := s.dev.cmdFor m 0x0D (some false) w
    s.dev.fld LT_STAT.LSTATE c.target = 1 → Completes (.pauseLighter m w) s (fun t => t.fld LT_STAT.LSTATE c.target = 4 ∧
    t.fld LT_DIAG.PAUSE_CAUSE c.target = 1 ∧ (t.ltc c.target) = { (s.dev.ltc c.target) with pause := some c, wait := none, refetch := none } ∧
    (t.ring m).running = (s.dev.ring m).running ++ [c])) ∧
  (∀ (s : State) (m : Nat) (w : Entry), s.dev.takes m 0x0D (some true) w = true →
    let c := s.dev.cmdFor m 0x0D (some true) w
    s.dev.fld LT_STAT.LSTATE c.target = 5 → s.dev.reports m w = true → Completes (.resumeLighter m w) s (fun t => t.fld LT_STAT.LSTATE c.target = 1 ∧
    t.fld LT_DIAG.PAUSE_CAUSE c.target = 0 ∧ s.dev.completedIn t c 0 c.rgen ([byt 22 4 (s.dev.fld LT_PC.PC c.target)]))) ∧
  (∀ (s : State) (m : Nat) (w : Entry), s.dev.takes m 0x0E none w = true →
    let c := s.dev.cmdFor m 0x0E none w
    let b := s.dev.begun m c
    b.handoverCheck c = 0 → s.dev.fld BH_STAT.BSTATE c.target ≠ 1 → s.dev.fld BH_STAT.BSTATE c.target ≠ 2 → c.opt = false →
    Completes (.berthHandover m w) s (fun t => t.fld BH_OWNER.CUR_KIND c.target = bits c.w 64 2 ∧
    t.fld BH_OWNER.CUR_INDEX c.target = bits c.w 72 8 % 2 ^ BH_OWNER.CUR_INDEX.len ∧
    t.fld BH_OWNER.HOME_KIND c.target = s.dev.fld BH_OWNER.HOME_KIND c.target ∧ t.mem = s.dev.mem)) ∧
  (∀ (s : State) (m : Nat) (w : Entry), s.dev.takes m 0x0F none w = true →
    let c := s.dev.cmdFor m 0x0F none w
    bits c.w 128 1 = 0 → Completes (.swapProgram m w) s (fun t => t.pn = s.dev.pn ∧ (t.ring m).running = (s.dev.ring m).running ++ [c])) ∧
  (∀ (s : State) (m : Nat) (g : BitVec 32) (c : Cmd) (p : List (BitVec 8)), (s.dev.ring m).running.find? (fun x => (x.op == 0x08 || x.op == 0x0F)
    && x.tag == g.toNat && x.berthBody.isNone) = some c → c.op = 0x0F → p.length = 128 →
    (blockQuays (BitVec.ofNat 1024 (ofBytes p))).all (fun q => s.dev.fbit HM_FQUAY.QUAY c.fn q) = true → blockBad (BitVec.ofNat 1024 (ofBytes p))
    = false → (s.dev.pne c.target).shadow = none → s.dev.fld PN_STATUS.STATE c.target = 1 → Completes (.bodyReadDone m g (some p)) s (fun t =>
    t.pne c.target = { s.dev.pne c.target with shadow := some { prog := BitVec.ofNat 1024 (ofBytes p), cmd := some c, due := if s.dev.fld SYS_MODE.MODE = 2 then some (s.dev.swapDue c.target) else none } }
    ∧ t.fld PN_STATUS.SWAP_PEND c.target = 1))

/-- LOG_MARK, LOG_CLEAR (14 R482, R485, R486), FENCE (09 R319), READ_STATE (09 R315) and ENTRY_ACCEPT (09 R318). The nonce is a free value (assumption
4). Further readings of the model: assumptions 4, 51, 61. -/
def Obligations.LogAndStateCommandsAct : Prop :=
  (∀ (s : State) (m : Nat) (w : Entry), s.dev.takes m 0x10 none w = true →
    let c := s.dev.cmdFor m 0x10 none w
    s.dev.fld HL_STAT.STATE ≠ 2 → s.dev.lg.queued + 64 ≤ 32768 → Completes (.logMark m w) s (fun t =>
    t.lg = { s.dev.lg with dropped := 0, queue := s.dev.lg.queue ++ [{ cls := 1, ltype := 4, units := 1, act := .mark c, img := s.dev.recHead 4 1 0xFF 0 0 s.dev.ns 0 0 false s.dev.steady + pack [byt 32 16 (bits c.w 64 128), byt 48 1 c.fn, byt 49 1 c.ring, byt 50 4 c.tag] }] }
    ∧ (t.ring m).running = (s.dev.ring m).running ++ [c])) ∧
  (∀ (s : State) (m : Nat) (w : Entry), s.dev.takes m 0x11 (some false) w = true →
    let c := s.dev.cmdFor m 0x11 (some false) w
    s.dev.fld HM_STATUS.LOGKEY_SET = 1 → s.dev.fld HL_STAT.LOCKOUT = 0 → bits c.w 64 64 % 64 = 0 → bits c.w 128 1 = 0 →
    Completes (.logClearChallenge m w) s (fun t =>
    t.lg.challenge = some { fn := c.fn, nonce := Config.freeValue s.dev.freeCtr % 2 ^ 128, cseq := (s.dev.lg.cseq + 1) % 2 ^ 32, clearTo := s.dev.fld HL_SEQ.LAST_SEQ, first := s.dev.fld HL_SEQ.FIRST_SEQ, at_ := s.dev.elNs }
    ∧ t.lg.cseq = (s.dev.lg.cseq + 1) % 2 ^ 32 ∧ t.fld HL_STAT.CHALLENGE = 1)) ∧
  (∀ (s : State) (m : Nat) (w : Entry) (h : Challenge), s.dev.takes m 0x11 (some true) w = true →
    let c := s.dev.cmdFor m 0x11 (some true) w
    s.dev.lg.challenge = some h → h.fn = c.fn → h.cseq = bits c.w 192 32 → s.dev.challengeOld h = false → Completes (.logClearRespond m w) s (fun t =>
    t.lg.challenge = none ∧ t.fld HL_STAT.CHALLENGE = 0 ∧ if bits (hmacSha256 s.dev.boot.logKey (bytesOf (s.dev.challengeBits h) 32))
    0 128 = bits c.w 64 128 then t.lg.authFails = s.dev.lg.authFails ∧ (t.ring m).running = (s.dev.ring m).running ++ [c] else
    t.lg.authFails = min (s.dev.lg.authFails + 1) 255)) ∧
  (∀ (s : State) (m : Nat) (w : Entry), s.dev.takes m 0x11 (some true) w = true →
    let c := s.dev.cmdFor m 0x11 (some true) w
    s.dev.lg.challenge = none → s.dev.reports m w = true → Completes (.logClearRespond m w) s (fun t => t.lg.challenge = none ∧
    s.dev.completedIn t c 0x13 c.rgen ([]))) ∧
  (∀ (s : State) (m : Nat) (w : Entry), s.dev.takes m 0x13 none w = true →
    let c := s.dev.cmdFor m 0x13 none w
    (s.dev.ring m).running = [] → s.dev.sl.rises = [] → (upto 64).all (fun q => s.dev.queueOwner q != some c.fn || !s.dev.hqWaiting q) = true →
    s.dev.reports m w = true → Completes (.fence m w) s (fun t => s.dev.completedIn t c 0 c.rgen ([byt 22 2 (s.dev.ring m).fenced]) ∧
    (t.ring m).fenced = 0 ∧ (t.ring m).running = [])) ∧
  (∀ (s : State) (m : Nat) (w : Entry) (v : Nat), s.dev.takes m 0x04 none w = true →
    let c := s.dev.cmdFor m 0x04 none w
    let b := s.dev.begun m c
    b.stateBytes c.cls c.idx = some v → bits c.w 64 64 % 64 = 0 → bits c.w 128 1 = 0 → Completes (.readState m w) s (fun t =>
    .write c.fn (bits c.w 64 64) (bytesOf v 64) ∈ t.hi.posted ∧ t.mem = s.dev.mem)) ∧
  (∀ (s : State) (m : Nat) (f : Fetched) (r : List Fetched), (s.dev.ring m).fetched = f :: r → s.dev.turn = some m → Completes (.entryAccept m)
    s (fun t => t = { ((s.dev.setRing m { s.dev.ring m with fetched := r }).acceptEntry m f) with fuse := s.dev.fuse }))

/-- The rows that write BAR0 (00 R6, 09 R297, 17 R560). The model's readings: assumption 54. -/
def Obligations.BarWritesReachTheirRegister : Prop :=
  (∀ (s : State) (a : BarAcc) (r : RegRow) (i j k : Nat), regAt a.off = some (r, i, j, k) → s.dev.admits a = true →
    Completes (.regWrite a) s (fun t => t = { s.dev.written a with mem := s.dev.mem, fuse := s.dev.fuse }) ∧
    (r.base = 0x10 → Completes (.sysModeGo a) s (fun t => t = { s.dev.written a with tb := s.dev.tb, mem := s.dev.mem, fuse := s.dev.fuse }) ∧
      Completes (.sysModeHold a) s (fun t => t = { s.dev.written a with tb := s.dev.tb, mem := s.dev.mem, fuse := s.dev.fuse })) ∧
    (r.base = 0x18 → Completes (.sysResetWrite a) s (fun t => t = { s.dev.written a with mem := s.dev.mem, fuse := s.dev.fuse })) ∧
    (r.base = 0x50 → Completes (.pushGo a) s (fun t => t = { s.dev.written a with tb := s.dev.tb, mem := s.dev.mem, fuse := s.dev.fuse })) ∧
    (r.base = 0x8210 → Completes (.ax0HoldWrite a) s (fun t => t = { s.dev.written a with mem := s.dev.mem, fuse := s.dev.fuse })) ∧
    (r.base = 0x3D000 → Completes (.tioPinWrite a) s (fun t => t = { s.dev.written a with tb := s.dev.tb, mem := s.dev.mem, fuse := s.dev.fuse })) ∧
    (r.base = 0x3C010 → Completes (.flushTx a) s (fun t => t = { s.dev.written a with tb := s.dev.tb, mem := s.dev.mem, fuse := s.dev.fuse }) ∧
      Completes (.flushRx a) s (fun t => t = { s.dev.written a with tb := s.dev.tb, mem := s.dev.mem, fuse := s.dev.fuse })) ∧
    (r.base = 0xB000 → Completes (.slTgtWrite a) s (fun t => t = { s.dev.written a with tb := s.dev.tb, mem := s.dev.mem, fuse := s.dev.fuse })) ∧
    (r.base = 0xA800 → Completes (.slPendClear a) s (fun t => t = { s.dev.written a with tb := s.dev.tb, mem := s.dev.mem, fuse := s.dev.fuse })) ∧
    (r.base = 0xA000 → Completes (.sluiceHoldWrite a) s (fun t => t = { s.dev.written a with tb := s.dev.tb, mem := s.dev.mem, fuse := s.dev.fuse })) ∧
    (r.base = 0xA100 → Completes (.holdoffWrite a) s (fun t => t = { s.dev.written a with tb := s.dev.tb, mem := s.dev.mem, fuse := s.dev.fuse })) ∧
    (r.base = 0xF008 → Completes (.hqEnWrite a) s (fun t => t = { s.dev.written a with tb := s.dev.tb, mem := s.dev.mem, fuse := s.dev.fuse }) ∧
      Completes (.hqDiscard a) s (fun t => t = { s.dev.written a with tb := s.dev.tb, mem := s.dev.mem, fuse := s.dev.fuse })) ∧
    (r.base = 0x5008 → Completes (.cqEnWrite a) s (fun t => t = { s.dev.written a with tb := s.dev.tb, mem := s.dev.mem, fuse := s.dev.fuse })) ∧
    (r.base = 0x4000 → Completes (.hiSlabWrite a) s (fun t => t = { s.dev.written a with tb := s.dev.tb, mem := s.dev.mem, fuse := s.dev.fuse })) ∧
    (r.base = 0x3F000 → Completes (.bhOwnerWrite a) s (fun t => t = { s.dev.written a with tb := s.dev.tb, mem := s.dev.mem, fuse := s.dev.fuse })) ∧
    (r.base = 0x45010 → Completes (.relocWrite a) s (fun t => t = { s.dev.written a with tb := s.dev.tb, mem := s.dev.mem, fuse := s.dev.fuse })) ∧
    (r.base = 0x40200 → Completes (.cwPubWrite a) s (fun t => t = { s.dev.written a with tb := s.dev.tb, mem := s.dev.mem, fuse := s.dev.fuse })) ∧
    (r.base = 0x44040 → Completes (.hlLcfgWrite a) s (fun t => t = { s.dev.written a with tb := s.dev.tb, mem := s.dev.mem, fuse := s.dev.fuse })) ∧
    (0x8000 ≤ r.base → r.base ≤ 0x8018 → Completes (.axCfgWrite a) s (fun t => t = { s.dev.written a with tb := s.dev.tb, mem := s.dev.mem, fuse := s.dev.fuse })) ∧
    (r.base = 0x9000 ∨ r.base = 0x9008 ∨ r.base = 0x9010 ∨ r.base = 0x9018 ∨ r.base = 0x9020 ∨ r.base = 0x9028 ∨ r.base = 0x9030 ∨ r.base = 0x9038 ∨
      r.base = 0x9040 ∨ r.base = 0x9100 →
      Completes (.wtCfgWrite a) s (fun t => t = { s.dev.written a with tb := s.dev.tb, mem := s.dev.mem, fuse := s.dev.fuse }))) ∧
  (∀ (s : State) (a : BarAcc), s.dev.admits a = false → a.off < 0x100000 → Completes (.regWrite a) s (fun t => t.regs = s.dev.regs ∧
    t.tb = s.dev.tb ∧ t.mem = s.dev.mem ∧ t.hi = { s.dev.hi with key1 := t.hi.key1 }))

/-- SYS_MODE, SYS_RESET, SYS_PUSHLEN and AX0_HOLD (01 R19 to R22, R25; 02 R47; 15 R509). The model's readings: assumptions 20, 54. -/
def Obligations.ModeAndPowerWritesAct : Prop :=
  (∀ (s : State), s.dev.open0 → s.dev.fld SYS_MODE.MODE = 1 → Completes (.sysModeGo { fn := 0, off := 0x10, size := 4, val := 0x10 }) s (fun t =>
    t.fld SYS_MODE.PENDING_GO = 1 ∧ t.fld SYS_MODE.MODE = 1 ∧ t.fld SYS_MODE.GO_REQ = s.dev.fld SYS_MODE.GO_REQ)) ∧
  (∀ (s : State), s.dev.open0 → s.dev.fld SYS_MODE.MODE = 2 → Completes (.sysModeHold { fn := 0, off := 0x10, size := 4, val := 0x20 }) s (fun t =>
    t.fld SYS_MODE.PENDING_GO = 0 ∧ t.fld SYS_MODE.MODE = 1 ∧ t.fld SYS_MODE.CAUSE = 2 ∧ t.fld SYS_MODE.GO_REQ = 1 ∧ t.fld SYS_MODE.ARMED = 0)) ∧
  (∀ (s : State), s.dev.open0 → s.dev.fld HM_FRIGHTS.FULL_RESET = 1 → Completes (.sysResetWrite { fn := 0, off := 0x18, size := 4, val := 0x5A17 })
    s (fun t => t = { s.dev with hi := { s.dev.hi with key1 := true }, cyc := t.cyc })) ∧
  (∀ (s : State), s.dev.open0 → s.dev.fld HM_FRIGHTS.FULL_RESET = 1 → s.dev.hi.key1 = false →
    Completes (.sysResetWrite { fn := 0, off := 0x18, size := 4, val := 0xA5E8 }) s (fun t => t = { s.dev with cyc := t.cyc })) ∧
  (∀ (s : State), s.dev.open0 → s.dev.fld HM_FRIGHTS.FULL_RESET = 1 → s.dev.hi.key1 = true →
    Completes (.sysResetWrite { fn := 0, off := 0x18, size := 4, val := 0xA5E8 }) s (fun t => t.fld SYS_MODE.MODE = 0 ∧ t.fld HM_SEAL.SEAL = 0 ∧
    t.fld SYS_RSTCAUSE.CAUSE = 3 ∧ t.sys.powered = true ∧ t.boot.loaded = false ∧ t.mem = s.dev.mem ∧ t.fuse = s.dev.fuse)) ∧
  (∀ (s : State), s.dev.barUp = true → s.dev.fld HM_SEAL.SEAL = 0 → s.dev.fld SYS_BOOT.STAGE = 3 → (s.dev.func 0).bme = true →
    Completes (.pushGo { fn := 0, off := 0x50, size := 4, val := 0x80001000 }) s (fun t => t.fld SYS_BOOT.STAGE = 4 ∧ t.fld SYS_BOOT.SOURCE = 2 ∧
    t.fld SYS_PUSHLEN.LEN = 0x1000)) ∧
  (∀ (s : State) (v : BitVec 32), s.dev.open0 → s.dev.fld AX0_STATUS.STATE ≠ 1 →
    Completes (.ax0HoldWrite { fn := 0, off := 0x8210, size := 4, val := v.setWidth 64 }) s (fun t =>
    t.fld AX0_HOLD.TIMEOUT_MS = v.toNat % 65536 ∧ t.fld AX0_HOLD.DRIFT_PPB = v.toNat / 65536 ∧
    t.fld AX0_STATUS.STATE = s.dev.fld AX0_STATUS.STATE ∧ t.tb = s.dev.tb))

/-- Writes with effects of their own (02 R61, R62; 03 R71; 07 R224, R257; 08 R261, R266, R269, R284; 09 R323, R329; 11 R377, R391; 12 R425; 14 R476).
The model's readings: assumption 54. -/
def Obligations.UnitWritesAct : Prop :=
  (∀ (s : State), s.dev.open0 → s.dev.fld AX_CFG.EN 15 = 0 → s.dev.fld AX_CFG.TYPE 15 = 3 →
    Completes (.axCfgWrite { fn := 0, off := 0x81E0, size := 4, val := 0x0B }) s (fun t => t.fld AX_CFG.EN 15 = 1 ∧ t.fld AX_CFG.TYPE 15 = 3 ∧
    (t.axis 15).v = 0 ∧ (t.axis 15).pulses = 0 ∧ (t.axis 15).sched = (s.dev.axis 15).sched)) ∧
  (∀ (s : State), s.dev.open0 → s.dev.fld WT_CFG.EN 7 = 0 → s.dev.wtCfgOk 7 = true →
    Completes (.wtCfgWrite { fn := 0, off := 0x9E00, size := 4, val := 1 }) s (fun t => t.fld WT_CFG.EN 7 = 1 ∧ t.fld WT_STATUS.STATE 7 = 1 ∧
    t.fld WT_STATUS.CFG_ERR 7 = 0 ∧ (t.trkr 7).ps = 1 ∧ (t.trkr 7).held = (s.dev.trkr 7).held)) ∧
  (∀ (s : State), s.dev.open0 → s.dev.pinBusy 127 = false → s.dev.fld TIO_PIN.IN_DIS 127 = 0 → s.dev.fld TIO_PIN.OUT_SRC 127 ≠ 1 →
    Completes (.tioPinWrite { fn := 0, off := 0x3D1FC, size := 4, val := 0x2A7FD }) s (fun t => t.fld TIO_PIN.OUT_SRC 127 = 1 ∧
    t.fld TIO_PIN.OUT_CH 127 = 511 ∧ t.fld TIO_PIN.FILT 127 = 21 ∧ t.fld TIO_PIN.FUNIT 127 = 0 ∧ t.fld TIO_PIN.IN_INV 127 = 0 ∧
    (t.pin 127).chLvl = none ∧ (t.pin 127).ball = (s.dev.pin 127).ball)) ∧
  (∀ (s : State), s.dev.open0 → Completes (.flushTx { fn := 0, off := 0x3CF90, size := 4, val := 0x10000 }) s (fun t => (t.pne 31).tx = [] ∧
    (t.pne 31).rx = (s.dev.pne 31).rx)) ∧
  (∀ (s : State), s.dev.open0 → Completes (.flushRx { fn := 0, off := 0x3CF90, size := 4, val := 0x20000 }) s (fun t => (t.pne 31).rx = [] ∧
    (t.pne 31).tx = (s.dev.pne 31).tx)) ∧
  (∀ (s : State), s.dev.open0 → s.dev.fld SL_TGT.KIND 4095 = 2 → s.dev.fld SL_TGT.GROUP 4095 = 63 →
    Completes (.slTgtWrite { fn := 0, off := 0xEFFC, size := 4, val := 0x3F075D }) s (fun t => t.fld SL_TGT.KIND 4095 = 1 ∧
    t.fld SL_TGT.TARGET 4095 = 23 ∧ t.fld SL_TGT.PRIO 4095 = 7 ∧ t.fld SL_TGT.GROUP 4095 = 63 ∧ t.sl = s.dev.sl)) ∧
  (∀ (s : State), s.dev.open0 → s.dev.hasItem 4095 = false → s.dev.pend 4095 = true → s.dev.cycle.w1c = [] →
    Completes (.slPendClear { fn := 0, off := 0xA9FC, size := 4, val := 0x80000000 }) s (fun t => t.pend 4095 = false ∧ t.src 4095 = {} ∧
    t.pend 4094 = s.dev.pend 4094)) ∧
  (∀ (s : State), s.dev.open0 → Completes (.sluiceHoldWrite { fn := 0, off := 0xA000, size := 4, val := 1 }) s (fun t => t.fld SL_CTRL.HOLD = 1 ∧
    t.sl = s.dev.sl)) ∧
  (∀ (s : State), s.dev.open0 → (s.dev.grp 63).running = false → Completes (.holdoffWrite { fn := 0, off := 0xA1FC, size := 4, val := 777 })
    s (fun t => t.fld SL_GRP.HOLDOFF 63 = 777 ∧ t.sl = s.dev.sl)) ∧
  (∀ (s : State), s.dev.open0 → s.dev.queueOwner 0 = some 0 → s.dev.fld HQ_STAT.QSTATE 0 = 0 →
    Completes (.hqEnWrite { fn := 0, off := 0xF008, size := 4, val := 0x804 }) s (fun t => t.fld HQ_STAT.QSTATE 0 = 1 ∧ t.fld HQ_CFG.EN 0 = 1 ∧
    t.fld HQ_CFG.SIZE 0 = 4 ∧ t.fld HQ_PI.PI 0 = 0 ∧ t.fld HQ_CI.CI 0 = 0)) ∧
  (∀ (s : State), s.dev.open0 → s.dev.queueOwner 0 = some 0 → s.dev.fld HQ_STAT.QSTATE 0 = 3 →
    Completes (.hqDiscard { fn := 0, off := 0xF008, size := 4, val := 0x1004 }) s (fun t => t.fld HQ_STAT.QSTATE 0 = 0 ∧ t.fld HQ_CFG.EN 0 = 0 ∧
    (t.hq 0).staged = [])) ∧
  (∀ (s : State), s.dev.open0 → s.dev.ringOwner 0 = some 0 → s.dev.queueOwner 0 = some 0 → s.dev.fld CQ_STAT.RSTATE 0 = 0 →
    s.dev.fld HQ_STAT.QSTATE 0 = 1 → (s.dev.func 0).bme = true → (s.dev.func 0).d3 = false → s.dev.ringHeld 0 = false →
    Completes (.cqEnWrite { fn := 0, off := 0x5008, size := 4, val := 0x24 }) s (fun t => t.fld CQ_STAT.RSTATE 0 = 1 ∧ t.fld CQ_CFG.EN 0 = 1 ∧
    t.fld CQ_CI.CI 0 = 0 ∧ t.fld CQ_STAT.RGEN 0 = (if s.dev.fld CQ_STAT.RGEN 0 = 0xFFFF then 1 else (s.dev.fld CQ_STAT.RGEN 0 + 1) % 65536) ∧
    t.ring 0 = {})) ∧
  (∀ (s : State) (v : BitVec 64), s.dev.open0 → s.dev.slabIdle 0 = true → v.toNat % 4096 = 0 →
    Completes (.hiSlabWrite { fn := 0, off := 0x4000, size := 8, val := v }) s (fun t => t.fld HI_SLAB.BASE 0 = v.toNat / 4096 ∧ t.sl = s.dev.sl)) ∧
  (∀ (s : State), s.dev.open0 → s.dev.ownerAllowed 5 0 23 = true → s.dev.staging 5 = false → s.dev.fld BH_STAT.BSTATE 5 = 0 →
    Completes (.bhOwnerWrite { fn := 0, off := 0x3F0A0, size := 4, val := 0x5C5C }) s (fun t => t.fld BH_OWNER.CUR_KIND 5 = 0 ∧
    t.fld BH_OWNER.CUR_INDEX 5 = 23 ∧ t.fld BH_OWNER.HOME_KIND 5 = 0 ∧ t.fld BH_OWNER.HOME_INDEX 5 = 23 ∧ t.mem = s.dev.mem ∧
    t.dr.loan = s.dev.dr.loan)) ∧
  (∀ (s : State) (sp : Nat), s.dev.open0 → s.dev.fld BH_STAT.BSTATE 5 = 0 → s.dev.dr.reloc = none → s.dev.dr.loan = none →
    s.dev.spareFor 5 = some sp → Completes (.relocWrite { fn := 0, off := 0x45010, size := 4, val := 0x25 }) s (fun t =>
    t.fld BH_STAT.BSTATE 5 = 4 ∧ t.dr.reloc = some (5, sp) ∧ t.fld DR_STAT.RELOCATING = 1 ∧ t.fld DR_STAT.RELOC_SRC = 5 ∧ t.mem = s.dev.mem)) ∧
  (∀ (s : State), s.dev.open0 → s.dev.fld BH_STAT.BSTATE 5 = 0 → s.dev.dr.reloc = none → s.dev.spareFor 5 = none →
    Completes (.relocWrite { fn := 0, off := 0x45010, size := 4, val := 0x25 }) s (fun t => t.fld SYS_FAULT.BERTH_EXHAUSTED = 1 ∧
    t.dr = s.dev.dr ∧ t.fld BH_STAT.BSTATE 5 = 0)) ∧
  (∀ (s : State), s.dev.open0 → s.dev.fld AX_CFG.EN 15 = 1 → s.dev.fld AX_CFG.TYPE 15 = 3 →
    Completes (.cwPubWrite { fn := 0, off := 0x40218, size := 4, val := 0x1F }) s (fun t => t.fld CW_PUB.AXIS 3 = 15 ∧ t.fld CW_PUB.EN 3 = 1 ∧
    t.fld CW_PUB.REFUSED 3 = 0 ∧ t.cw = s.dev.cw)) ∧
  (∀ (s : State), s.dev.open0 → s.dev.fld HL_LCFG.EN 7 = 0 → Completes (.hlLcfgWrite { fn := 0, off := 0x44078, size := 8, val := 0x012300000000 })
    s (fun t => t.fld HL_LCFG.HOLD_US 7 = 0x123 ∧ t.fld HL_LCFG.LEN 7 = 0 ∧ t.fld HL_LCFG.EN 7 = 0 ∧ t.lg = s.dev.lg))

/-- Offsets that no table names (17 R562). -/
def Obligations.UnnamedOffsetsAreInert : Prop :=
  (∀ off, (0x46000 ≤ off ∧ off < 0x100000) ∨ (0x18800 ≤ off ∧ off < 0x20000) ∨ (0x3A000 ≤ off ∧ off < 0x3C000) → regAt off = none) ∧
  (∀ (s : State) (f off size : Nat), regAt off = none → off < 0x100000 → (size = 4 ∨ size = 8 ∧ regAt (off + 4) = none) →
    Completes (.rcRead f off size) s (fun t => t = { s.dev with hi := { s.dev.hi with lastRead := 0 } })) ∧
  (∀ (s : State) (a : BarAcc), s.dev.barUp = true → a.fn < 8 ∧ s.dev.fnOn a.fn = true → a.off < 0x100000 → regAt a.off = none → (a.size = 8 →
    regAt (a.off + 4) = none) → Completes (.regWrite a) s (fun t => t = { s.dev with hi := { s.dev.hi with key1 := false }, cyc := t.cyc }))

/-- RC_READ (00 R6, 09 R297, 17 R560). The model's readings: assumption 54. -/
def Obligations.ReadsReturnTheRegister : Prop :=
  (∀ (s : State) (f off size : Nat), s.dev.barUp = true → f < 8 ∧ s.dev.fnOn f = true → size = 4 ∨ size = 8 → served off size = true →
    s.dev.mayRead f off = true → s.dev.cycle.rc = [] → s.dev.cycle.wr = [] → Completes (.rcRead f off size) s (fun t =>
    t.hi = { s.dev.hi with lastRead := s.dev.readBar off size } ∧ t.sl = s.dev.sl ∧ t.qy = s.dev.qy)) ∧
  (∀ (s : State) (f off : Nat) (w : Nat × Nat × Nat), s.dev.barUp = true → f < 8 ∧ s.dev.fnOn f = true → served off 4 = true →
    s.dev.mayRead f off = true → regAt off ≠ none → s.dev.cycle.wr.find? (fun x => x.1 != f && x.2.1 == off) = some w →
    Completes (.rcRead f off 4) s (fun t => t.hi = { s.dev.hi with lastRead := w.2.2 })) ∧
  (∀ (s : State), s.dev.open0 → s.dev.cycle.rc = [] → s.dev.cycle.wr = [] → Completes (.rcRead 0 0x9E40 4) s (fun t =>
    t.fld WT_STATUS.LOSS_CNT 7 = 0 ∧ t.fld WT_STATUS.REJ_CNT 7 = 0 ∧ t.fld WT_STATUS.PH_MIS_CNT 7 = 0 ∧
    t.fld WT_STATUS.STATE 7 = s.dev.fld WT_STATUS.STATE 7 ∧ t.hi.lastRead = s.dev.word32 0x9E40)) ∧
  (∀ (s : State) (f off size : Nat), s.dev.barUp = true → f < 8 ∧ s.dev.fnOn f = true → size = 4 ∨ size = 8 → off < 0x100000 →
    (served off size = false ∨ s.dev.mayRead f off = false) → Completes (.rcRead f off size) s (fun t =>
    t = { s.dev with hi := { s.dev.hi with lastRead := 0 } }))

/-- Writes of the axis registers by F0 (02 R62). The model's readings: assumption 26. -/
def Obligations.AxisRegistersTakeEffectWhileDisabled : Prop :=
  (∀ (s : State) (n : Nat) (v : BitVec 32), s.dev.open0 → 0 < n ∧ n < 16 → s.dev.fld AX_CFG.EN n = 0 → v.getLsbD 3 = false → v.toNat % 8 ≠ 0 ∧
    v.toNat % 8 ≠ 7 → Completes (.axCfgWrite { fn := 0, off := 0x8000 + 0x20 * n, size := 4, val := v.setWidth 64 }) s (fun t =>
    t.fld AX_CFG.TYPE n = bits v 0 3 ∧ t.fld AX_CFG.SRC n = bits v 4 12 ∧ t.fld AX_CFG.SRC_IS_PIN n = bits v 16 1 ∧
    t.fld AX_CFG.EDGE n = bits v 17 2 ∧ t.fld AX_CFG.DMODE n = bits v 19 1 ∧ t.fld AX_CFG.INTERP n = bits v 20 1 ∧
    t.fld AX_CFG.DIR_EN n = bits v 21 1 ∧ t.fld AX_CFG.DIR_POL n = bits v 22 1 ∧ t.fld AX_CFG.DIR_PIN n = bits v 23 7 ∧ t.fld AX_CFG.EN n = 0)) ∧
  (∀ (s : State) (n : Nat) (v : BitVec 64), s.dev.open0 → 0 < n ∧ n < 16 → s.dev.fld AX_CFG.EN n = 0 →
    Completes (.axCfgWrite { fn := 0, off := 0x8008 + 0x20 * n, size := 8, val := v }) s (fun t => t.fld AX_PARA.PARA n = v.toNat % 2 ^ 48)) ∧
  (∀ (s : State) (n : Nat) (v : BitVec 64), s.dev.open0 → 0 < n ∧ n < 16 → s.dev.fld AX_CFG.EN n = 0 →
    Completes (.axCfgWrite { fn := 0, off := 0x8010 + 0x20 * n, size := 8, val := v }) s (fun t => t.fld AX_PARB.PARB n = v.toNat)) ∧
  (∀ (s : State) (n : Nat) (v : BitVec 64), s.dev.open0 → 0 < n ∧ n < 16 → s.dev.fld AX_CFG.EN n = 0 →
    Completes (.axCfgWrite { fn := 0, off := 0x8018 + 0x20 * n, size := 8, val := v }) s (fun t => t.fld AX_PARC.PARC n = v.toNat)) ∧
  (∀ (s : State) (n : Nat) (v : BitVec 32), s.dev.open0 → 0 < n ∧ n < 16 → s.dev.fld AX_CFG.EN n = 0 → v.getLsbD 3 = true →
    Completes (.axCfgWrite { fn := 0, off := 0x8000 + 0x20 * n, size := 4, val := v.setWidth 64 }) s (fun t =>
    t.regs = (s.dev.setFld AX_CFG.EN 1 n).regs)) ∧
  (∀ (s : State) (n : Nat) (a : BarAcc), s.dev.open0 → 0 < n ∧ n < 16 → s.dev.fld AX_CFG.EN n = 1 → 0x8000 + 0x20 * n ≤ a.off ∧
    a.off < 0x8020 + 0x20 * n → Completes (.regWrite a) s (fun t => t.regs = s.dev.regs ∧ t.axes = s.dev.axes)) ∧
  (∀ (s : State) (n : Nat) (a : BarAcc), s.dev.open0 → 0 < n ∧ n < 16 → a.fn ≠ 0 → 0x8000 + 0x20 * n ≤ a.off ∧ a.off < 0x8020 + 0x20 * n →
    Completes (.regWrite a) s (fun t => t.regs = s.dev.regs ∧ t.axes = s.dev.axes))

/-- The wrap of an advancing address (10 R344). -/
def Obligations.AddressesWrap : Prop :=
  ∀ a k d : Nat, a < 2 ^ 64 → 0 < k → k ≤ 62 →
    ltAdd a k d = (a &&& (2 ^ 64 - 2 ^ k)) ||| ((a + d) &&& (2 ^ k - 1))

/-- Doorbells, fetches and probes (09 R301 to R310, R327; 08 R281). The model's readings: assumption 50. -/
def Obligations.ReadsOfTheHostReturn : Prop :=
  (∀ (s : State) (f : Nat), s.dev.mastering f = true → s.dev.slabUsed f = true → s.dev.pollsOut f < s.dev.pollsMax f → Completes (.pollIssue f)
    s (fun t =>
    t = { s.dev with hi := { s.dev.hi with reads := s.dev.hi.reads ++ [{ kind := .poll, fn := f, addr := s.dev.fld HI_SLAB.BASE f * 4096, len := 8, at_ := s.dev.ecNs }], l1 := false, ownRead := some s.dev.ecNs } })) ∧
  (∀ (s : State) (f : Nat) (v : BitVec 64) (r : Read), s.dev.hi.reads.find? (fun x => x.fn == f && (x.kind == .poll || x.kind == .rttProbe))
    = some r → r.kind = .poll → s.dev.mastering f = true → s.dev.fld HI_SUM.SUMMARY f ≠ v.toNat → Completes (.pollResponse f v) s (fun t =>
    t.fld HI_SUM.SUMMARY f = v.toNat ∧ ∀ l, l < 10 → s.dev.lineUsed f l = true → ∃ x ∈ t.hi.reads, x.kind = .index l ∧ x.fn = f ∧
    x.addr = s.dev.fld HI_SLAB.BASE f * 4096 + 0x100 + 64 * l ∧ x.len = 64)) ∧
  (∀ (s : State) (f m : Nat) (v : BitVec 512) (r : Read), s.dev.hi.reads.find? (fun x => x.fn == f && x.kind == .index (m / 16)) = some r → m < 64 →
    s.dev.ringOwner m = some f → s.dev.fld CQ_STAT.RSTATE m = 1 → s.dev.ringLevel m ≤ (bits v (32 * (m % 16)) 32 + 2 ^ 32 - s.dev.fld CQ_CI.CI m)
    % 2 ^ 32 → (bits v (32 * (m % 16)) 32 + 2 ^ 32 - s.dev.fld CQ_CI.CI m) % 2 ^ 32 ≤ s.dev.ringSize m → (s.dev.ring m).prefetch = [] →
    Completes (.indexLineDone f (m / 16) v) s (fun t => (t.ring m).pi = bits v (32 * (m % 16)) 32)) ∧
  (∀ (s : State) (f q : Nat) (v : BitVec 512) (r : Read), s.dev.hi.reads.find? (fun x => x.fn == f && x.kind == .index (4 + q / 16)) = some r →
    q < 64 → s.dev.queueOwner q = some f → s.dev.fld HQ_STAT.QSTATE q = 1 → (s.dev.fld HQ_PI.PI q + 2 ^ 32 - bits v (32 * (q % 16)) 32)
    % 2 ^ 32 < s.dev.hqLevel q → Completes (.indexLineDone f (4 + q / 16) v) s (fun t => t.fld HQ_CI.CI q = bits v (32 * (q % 16)) 32 ∧
    t.fld HQ_PI.PI q = s.dev.fld HQ_PI.PI q)) ∧
  (∀ (s : State) (m f : Nat) (w : Entry) (r : Read), s.dev.hi.reads.find? (Read.ofEntry m (s.dev.fld CQ_CI.CI m)) = some r → r.len = 64 → m < 64 →
    s.dev.ringOwner m = some f → s.dev.fld CQ_STAT.RSTATE m = 1 → (s.dev.ring m).wrong = 0 → s.dev.ringLevel m = 1 →
    (w.getLsbD 15).toNat = s.dev.ringPhase m → Completes (.entryFetchDone m (s.dev.fld CQ_CI.CI m) [w]) s (fun t =>
    (t.ring m).fetched = (s.dev.ring m).fetched ++ [{ w := w, rgen := s.dev.fld CQ_STAT.RGEN m, torn := false }] ∧
    t.fld CQ_CI.CI m = (s.dev.fld CQ_CI.CI m + 1) % 2 ^ 32 ∧ .write f (s.dev.slab f + 0x800 + 4 * m) (bytesOf ((s.dev.fld CQ_CI.CI m + 1)
    % 2 ^ 32) 4) ∈ t.hi.posted)) ∧
  (∀ (s : State) (m : Nat) (w : Entry), m < 64 → (s.dev.ring m).wrong ≠ 0 → s.dev.fld CQ_STAT.RSTATE m = 1 →
    (w.getLsbD 15).toNat ≠ s.dev.ringPhase m → (s.dev.ring m).wrong < 16 → Completes (.phaseReread m w) s (fun t =>
    t.ring m = { s.dev.ring m with wrong := (s.dev.ring m).wrong + 1 } ∧ t.fld CQ_CI.CI m = s.dev.fld CQ_CI.CI m ∧
    t.fld CQ_ERR.PHASE_CNT m = min (s.dev.fld CQ_ERR.PHASE_CNT m + 1) (2 ^ CQ_ERR.PHASE_CNT.len - 1))) ∧
  (∀ (s : State) (m : Nat) (w : Entry), m < 64 → (s.dev.ring m).wrong ≠ 0 → s.dev.fld CQ_STAT.RSTATE m = 1 →
    (w.getLsbD 15).toNat ≠ s.dev.ringPhase m → 16 ≤ (s.dev.ring m).wrong → Completes (.phaseReread m w) s (fun t =>
    (t.ring m).fetched = (s.dev.ring m).fetched ++ [{ w := w, rgen := s.dev.fld CQ_STAT.RGEN m, torn := true }] ∧ (t.ring m).wrong = 0 ∧
    t.fld CQ_CI.CI m = (s.dev.fld CQ_CI.CI m + 1) % 2 ^ 32)) ∧
  (∀ (s : State), s.dev.mastering 0 = true → s.dev.hi.ownRead.all (fun x => decide (x + 1000000 ≤ s.dev.ecNs)) = true → s.dev.hi.probed.all (fun x =>
    decide (x + 100000 ≤ s.dev.ecNs)) = true → Completes .rttProbe s (fun t =>
    t = { s.dev with hi := { s.dev.hi with reads := s.dev.hi.reads ++ [{ kind := .rttProbe, fn := 0, addr := s.dev.fld HI_SLAB.BASE * 4096, len := 8, at_ := s.dev.ecNs }], l1 := false, probed := some s.dev.ecNs } })) ∧
  (∀ (s : State), s.dev.mastering 0 = true → s.dev.hi.posted = [] → Completes .wrProbe s (fun t =>
    t = { s.dev with hi := { s.dev.hi with reads := s.dev.hi.reads ++ [{ kind := .wrProbe, fn := 0, addr := 0, len := 0, at_ := s.dev.ecNs }], l1 := false } })) ∧
  (∀ (s : State) (r : Read), s.dev.hi.reads.find? (fun x => x.kind == .wrProbe) = some r → Completes .wrProbeDone s (fun t =>
    t.hi.reads = s.dev.hi.reads.erase r ∧ t.hi.wrts = s.dev.hi.wrts.filter (fun e => decide (s.dev.ecNs < e.1 + 1000000))
    ++ [(s.dev.ecNs, min (s.dev.ecNs - r.at_) 0xFFFF)]))

/-- The link and the functions (08 R283, R285, R288 to R292; 09 R296, R299, R300, R323; 13 R462, R463). The model's readings: assumptions 9, 53. -/
def Obligations.LinkAndFunctionsComeAndGo : Prop :=
  (∀ (s : State) (q f : Nat), s.dev.barUp = true → s.dev.fld HI_LINK.UP = 1 → s.dev.fld HI_LINK.PERST = 0 → q < 64 → f < 8 ∧ s.dev.fnOn f = true →
    s.dev.queueOwner q = some f → (s.dev.fld HQ_STAT.QSTATE q = 1 ∨ s.dev.fld HQ_STAT.QSTATE q = 2) → Completes .perst s (fun t =>
    t.fld HI_LINK.PERST = 1 ∧ t.fld HI_LINK.UP = 0 ∧ t.fld HQ_STAT.QSTATE q = 3 ∧ t.hi.numVFs = 0 ∧ t.sl.grps = s.dev.sl.grps ∧
    t.sl.items = s.dev.sl.items)) ∧
  (∀ (s : State) (q f : Nat), s.dev.barUp = true → s.dev.fld HI_LINK.UP = 1 → q < 64 → f < 8 ∧ s.dev.fnOn f = true → s.dev.queueOwner q = some f →
    (s.dev.fld HQ_STAT.QSTATE q = 1 ∨ s.dev.fld HQ_STAT.QSTATE q = 2) → Completes .hotReset s (fun t =>
    t.fld HI_LINK.PERST = s.dev.fld HI_LINK.PERST ∧ t.fld HI_LINK.UP = 0 ∧ t.fld HQ_STAT.QSTATE q = 3 ∧ t.hi.numVFs = 0 ∧
    t.sl.grps = s.dev.sl.grps ∧ t.sl.items = s.dev.sl.items)) ∧
  (∀ (s : State), s.dev.fld HI_LINK.PERST = 1 → Completes .perstRelease s (fun t => t.fld HI_LINK.PERST = 0 ∧ t.hi.wakeLow = false)) ∧
  (∀ (s : State) (f : Nat), s.dev.barUp = true → f < 8 ∧ s.dev.fnOn f = true → f ≠ 0 → Completes (.flr f) s (fun t => t.fld HI_SLAB.BASE f = 0 ∧
    t.func f = { pmeEn := (s.dev.func f).pmeEn, pmeStat := (s.dev.func f).pmeStat, wakePend := (s.dev.func f).wakePend, pmeAt := (s.dev.func f).pmeAt }
    ∧ t.hi.numVFs = s.dev.hi.numVFs)) ∧
  (∀ (s : State) (q : Nat), s.dev.barUp = true → s.dev.fld HI_LINK.UP = 1 → q < 64 → Completes .linkDown s (fun t => t.fld HI_LINK.UP = 0 ∧
    t.hi.posted = s.dev.hi.posted.filter Posted.replayed ∧ t.hi.reads = [] ∧
    (t.hq q).staged = joinUnits (s.dev.hi.posted.filterMap (Posted.unstaged q) ++ (s.dev.hq q).staged) ∧
    t.fld HI_LINK.DOWN_CNT = min (s.dev.fld HI_LINK.DOWN_CNT + 1) (2 ^ HI_LINK.DOWN_CNT.len - 1))) ∧
  (∀ (s : State) (x : BitVec 2) (y : BitVec 3), s.dev.barUp = true → s.dev.fld HI_LINK.PERST = 0 → s.dev.fld HI_LINK.UP = 0 → Completes (.linkUp x y)
    s (fun t => t.fld HI_LINK.UP = 1 ∧ t.fld HI_LINK.SPEED = x.toNat ∧ t.fld HI_LINK.WIDTH = y.toNat)) ∧
  (∀ (s : State) (f m : Nat), s.dev.barUp = true → f < 8 ∧ s.dev.fnOn f = true → m < 64 → s.dev.ringOwner m = some f →
    s.dev.fld CQ_STAT.RSTATE m = 1 → Completes (.bmeChange f false) s (fun t => (t.func f).bme = false ∧ t.fld CQ_STAT.RSTATE m = 3)) ∧
  (∀ (s : State), s.dev.barUp = true → s.dev.fld HI_LINK.UP = 1 → Completes (.powerStateChange .linkL1) s (fun t =>
    t = { s.dev with hi := { s.dev.hi with l1 := true } })) ∧
  (∀ (s : State) (f m : Nat), s.dev.barUp = true → f < 8 ∧ s.dev.fnOn f = true → m < 64 → s.dev.ringOwner m = some f →
    s.dev.fld CQ_STAT.RSTATE m = 1 → Completes (.powerStateChange (.d3 f)) s (fun t => (t.func f).d3 = true ∧ t.fld CQ_STAT.RSTATE m = 3)) ∧
  (∀ (s : State) (f v : Nat), s.dev.barUp = true → f < 8 ∧ s.dev.fnOn f = true → v < 64 → (s.dev.func f).msixEn = true →
    (s.dev.func f).fmask = false → (s.dev.func f).bme = true → (s.dev.func f).d3 = false → s.dev.linkUsable = true → v ∉ (s.dev.func f).unmasked →
    (s.dev.func f).pba = [v] → Completes (.msixUnmask f (.vector v)) s (fun t =>
    t.func f = { s.dev.func f with unmasked := v :: (s.dev.func f).unmasked, pba := [] } ∧
    t.hi.posted = s.dev.hi.posted ++ [.msix f v ((get 0 (s.dev.func f).msix v).toNat % 2 ^ 64) ((get 0 (s.dev.func f).msix v).toNat / 2 ^ 64)] ∧
    t.regs = s.dev.regs ∧ t.sl = s.dev.sl)) ∧
  (∀ (s : State) (f v : Nat), s.dev.barUp = true → f < 8 ∧ s.dev.fnOn f = true → Completes (.msixMask f (.vector v)) s (fun t =>
    t = s.dev.setFunc f { s.dev.func f with unmasked := (s.dev.func f).unmasked.filter (· ≠ v) })) ∧
  (∀ (s : State) (f : Nat), s.dev.barUp = true → f < 8 ∧ s.dev.fnOn f = true → (s.dev.func f).pmeStat = true → s.dev.linkUsable = true →
    s.dev.wakeCause f = true → (s.dev.func f).pmeAt + 100000000 ≤ s.dev.ecNs → Completes (.pmeResend f) s (fun t =>
    t = (s.dev.setFunc f { s.dev.func f with pmeAt := s.dev.ecNs }).post (.pme f))) ∧
  (∀ (s : State) (f : Nat) (x y : Bool), s.dev.barUp = true → f < 8 ∧ s.dev.fnOn f = true → Completes (.pmeControlWrite f x y) s (fun t =>
    t = s.dev.setFunc f { s.dev.func f with pmeEn := x, pmeStat := (s.dev.func f).pmeStat && !y, wakePend := (s.dev.func f).wakePend && !y })) ∧
  (∀ (s : State) (n : Nat), s.dev.barUp = true → n ≤ 7 → s.dev.hi.numVFs ≤ n → Completes (.numvfsWrite n) s (fun t =>
    t = { s.dev with hi := { s.dev.hi with numVFs := n } })) ∧
  (∀ (s : State) (n : Nat), s.dev.barUp = true → n ≤ 7 → Completes (.numvfsWrite n) s (fun t => t.hi.numVFs = n ∧ ∀ f, n < f → t.fnOn f = false)) ∧
  (∀ (s : State) (n : Nat), Completes (.dllAck n) s (fun t => t = { s.dev with hi := { s.dev.hi with posted := s.dev.hi.posted.drop n } }))

/-- The sluice and the host event queues (08 R261, R264, R266, R279, R280, R282, R285, R286). The model's readings: assumptions 18, 46, 48. -/
def Obligations.SluiceDelivers : Prop :=
  (∀ (s : State) (h x : Rise), s.dev.sl.rises.head? = some h → s.dev.nextRise h = x → x.comp = none ∧ x.item = false ∧ x.bare = false →
    s.dev.kind x.src = 0 → Completes .sourceRise s (fun t => t.pend x.src = true ∧
    t.src x.src = { count := (s.dev.src x.src).count + 1, recs := x.recs })) ∧
  (∀ (s : State) (h x : Rise) (q : Nat), s.dev.sl.rises.head? = some h → s.dev.nextRise h = x → x.comp = none ∧ x.item = false ∧ x.bare = false →
    s.dev.kind x.src = 2 ∧ s.dev.tgt x.src = q → s.dev.held = false → s.dev.grpReady (s.dev.grpOf x.src) = true → (s.dev.src x.src).count = 0 →
    (s.dev.fld HQ_STAT.QSTATE q = 1 ∨ s.dev.fld HQ_STAT.QSTATE q = 3) → Completes .sourceRise s (fun t => t.pend x.src = false ∧
    t.src x.src = {} ∧ ∃ l, (t.hq q).gen = (s.dev.hq q).gen ++ { recs := x.recs } :: l)) ∧
  (∀ (s : State) (h x : Rise), s.dev.sl.rises.head? = some h → s.dev.nextRise h = x → x.comp = none ∧ x.item = true ∧ x.bare = false →
    s.dev.kind x.src = 1 → s.dev.sl.items.length < 1024 → Completes .sourceRise s (fun t => t.pend x.src = true ∧
    t.sl.items = s.dev.sl.items ++ [{ src := x.src, recs := x.recs.map markItem }])) ∧
  (∀ (s : State) (h x : Rise) (c : Cmd) (k g q : Nat), s.dev.sl.rises.head? = some h → s.dev.nextRise h = x → x.comp = some (c, k, g) →
    s.dev.fld CQ_CFG.CQ_HQ c.ring = q → (s.dev.fld HQ_STAT.QSTATE q = 1 ∨ s.dev.fld HQ_STAT.QSTATE q = 3) → Completes .sourceRise s (fun t => ∃ l,
    (t.hq q).gen = (s.dev.hq q).gen ++ { recs := [x.recs.headD 0], ring := some c.ring } :: l)) ∧
  (∀ (s : State) (g : Nat), (s.dev.grp g).running = true → (s.dev.grp g).until_ ≤ s.dev.ecNs → s.dev.pendingOf g 2 = [] →
    Completes (.holdoffExpire g) s (fun t => t = s.dev.setGrp g { s.dev.grp g with running := false, elig := s.dev.pendingOf g 1 })) ∧
  (∀ (s : State) (g p q : Nat), (s.dev.grp g).running = true → (s.dev.grp g).until_ ≤ s.dev.ecNs → s.dev.held = false → s.dev.pendingOf g 2 = [p] →
    s.dev.tgt p = q → (s.dev.fld HQ_STAT.QSTATE q = 1 ∨ s.dev.fld HQ_STAT.QSTATE q = 3) → s.dev.fld SL_GRP.HOLDOFF g ≠ 0 →
    Completes (.holdoffExpire g) s (fun t => t.pend p = false ∧ t.src p = {} ∧
    (t.hq q).gen = (s.dev.hq q).gen ++ [{ recs := s.dev.deliverable p }] ∧ (t.grp g).running = true ∧
    (t.grp g).until_ = s.dev.ecNs + 256 * s.dev.fld SL_GRP.HOLDOFF g ∧ (t.grp g).elig = (s.dev.pendingOf g 1).filter (· ≠ p))) ∧
  (∀ (s : State) (q : Nat) (u : RecUnit) (v : Record) (l : List RecUnit), q < 64 → s.dev.writesOver = false → (s.dev.hq q).held = [] →
    (s.dev.hq q).gen = u :: l → u.recs = [v] → s.dev.hqBlocked q = false → s.dev.hqLevel q < 2 ^ s.dev.fld HQ_CFG.SIZE q → (s.dev.hq q).lost = 0 →
    (s.dev.hq q).staged = [] → s.dev.fld HQ_STAT.QSTATE q = 1 → Completes (.hqRecordIssue q) s (fun t =>
    t.fld HQ_PI.PI q = (s.dev.fld HQ_PI.PI q + 1) % 2 ^ 32 ∧ .record q (s.dev.fld HQ_PI.PI q % 2 ^ s.dev.fld HQ_CFG.SIZE q)
    ((s.dev.queueOwner q).getD 0) (s.dev.fld HQ_BASE.BASE q * 4096 + 32 * (s.dev.fld HQ_PI.PI q % 2 ^ s.dev.fld HQ_CFG.SIZE q))
    (s.dev.hq q).epoch { u with recs := [BitVec.ofNat 256 (put v.toNat 255 1 (s.dev.hqPhase q))], more := false } ∈ t.hi.posted)) ∧
  (∀ (s : State) (q : Nat) (u : RecUnit) (l : List RecUnit), q < 64 → s.dev.writesOver = false → (s.dev.hq q).held = [] → (s.dev.hq q).gen = u :: l →
    s.dev.hqBlocked q = true → s.dev.stageRefuses q u.recs.length = none → s.dev.stageLent s.dev.stagedTotal = none → Completes (.hqRecordIssue q)
    s (fun t => (t.hq q).staged = (s.dev.hq q).staged ++ [{ u with recs := u.recs.map markStaged }] ∧ t.fld HQ_PI.PI q = s.dev.fld HQ_PI.PI q)) ∧
  (∀ (s : State) (q : Nat) (u : RecUnit) (v : Record) (l : List RecUnit), s.dev.nextDrain = some q → s.dev.writesOver = false →
    s.dev.stageLent 0 = none → (s.dev.hq q).staged = u :: l → u.recs = [v] → s.dev.hqLevel q < 2 ^ s.dev.fld HQ_CFG.SIZE q →
    (s.dev.hq q).lost = 0 → s.dev.fld HQ_STAT.QSTATE q = 1 → Completes (.stagingDrain q) s (fun t => t.fld HQ_PI.PI q = (s.dev.fld HQ_PI.PI q + 1)
    % 2 ^ 32 ∧ .record q (s.dev.fld HQ_PI.PI q % 2 ^ s.dev.fld HQ_CFG.SIZE q) ((s.dev.queueOwner q).getD 0)
    (s.dev.fld HQ_BASE.BASE q * 4096 + 32 * (s.dev.fld HQ_PI.PI q % 2 ^ s.dev.fld HQ_CFG.SIZE q))
    (s.dev.hq q).epoch { u with recs := [BitVec.ofNat 256 (put v.toNat 255 1 (s.dev.hqPhase q))], more := false } ∈ t.hi.posted ∧ t.sl.rr = q ∧
    (t.hq q).staged = l))

/-- Issuing a microword (05 R156, R161, R163 to R166, R182, R186; 06 R208, R209). The model's readings: assumption 41. -/
def Obligations.MicrowordsAct : Prop :=
  (∀ (s : State) (p : Nat) (w : BitVec 48) (x : BitVec 192) (v : BitVec 32) (g : NZCV), s.dev.meCanIssue p = true →
    s.dev.flag ME_STATUS.WAITING p = false → (s.dev.eng p).bpWait = none → (s.dev.eng p).micro[(s.dev.eng p).top.pc]? = some w →
    (s.dev.eng p).nano[uNano w]? = some x → nIllegal x = false → nQp x = 0 ∧ nBp x = 0 ∧ nSp x = 0 ∧ nAp x = 0 ∧ nAxOp x = 0 ∧ nCtl x = 0 ∧
    nHb x = false → uSeq w = 0 ∧ uAtom w = false ∧ nWb x = 0 → alu (nAlu x) ((s.dev.eng p).reg (nRa x)) ((s.dev.eng p).opB w x)
    (s.dev.eng p).top.nzcv = (some v, g) →
    let f := if nFlWe x = 1 then g else (s.dev.eng p).top.nzcv
    Completes (.meWord p {}) s (fun t => (t.eng p).gpr = (if nRdWe x then (s.dev.eng p).setReg (nRd x) v else (s.dev.eng p)).gpr ∧
    (t.eng p).ar = (s.dev.eng p).ar ∧ (t.eng p).top = { (s.dev.eng p).top with pc := uNext w, z := f.z, n := f.n, c := f.c, v := f.v } ∧
    t.mem = s.dev.mem)) ∧
  (∀ (s : State) (p : Nat) (w : BitVec 48) (x : BitVec 192) (go : MeSeq), s.dev.meCanIssue p = true → s.dev.flag ME_STATUS.WAITING p = false →
    (s.dev.eng p).bpWait = none → (s.dev.eng p).micro[(s.dev.eng p).top.pc]? = some w → (s.dev.eng p).nano[uNano w]? = some x →
    nIllegal x = false → (s.dev.eng p).runBroken x = false → ¬ (uSeq w = 2 ∧ (s.dev.meCond p (uCond w)) = false) → nChannel x = false →
    s.dev.meCause p w x (s.dev.meCond p (uCond w)) = 0 → s.dev.berthMeets p w x = .served → (s.dev.meNext (s.dev.eng p)
    w x (s.dev.meCond p (uCond w))) = .ok go → Completes (.meWord p {}) s (fun t =>
    t = { (s.dev.meCommit p w x go (s.dev.axisPort (s.dev.eng p) x) ((s.dev.eng p).slipPort x)) with fuse := s.dev.fuse })) ∧
  (∀ (s : State) (p : Nat) (w : BitVec 48) (x : BitVec 192), s.dev.meCanIssue p = true → s.dev.flag ME_STATUS.WAITING p = false →
    (s.dev.eng p).bpWait = none → (s.dev.eng p).micro[(s.dev.eng p).top.pc]? = some w → (s.dev.eng p).nano[uNano w]? = some x →
    nIllegal x = false → (s.dev.eng p).runBroken x = false → ¬ (uSeq w = 2 ∧ (s.dev.meCond p (uCond w)) = false) → nChannel x = true →
    s.dev.meCause p w x (s.dev.meCond p (uCond w)) = 0 → s.dev.berthMeets p w x = .served → Completes (.meWord p {}) s (fun t =>
    t.eng p = { (s.dev.eng p) with qpWait := some ((s.dev.meCond p (uCond w)), s.dev.axisPort (s.dev.eng p) x) } ∧ t.mem = s.dev.mem ∧
    t.qy = s.dev.qy)) ∧
  (∀ (s : State) (p : Nat) (w : BitVec 48) (x : BitVec 192), s.dev.meCanIssue p = true → s.dev.flag ME_STATUS.WAITING p = false →
    (s.dev.eng p).bpWait = none → (s.dev.eng p).micro[(s.dev.eng p).top.pc]? = some w → (s.dev.eng p).nano[uNano w]? = some x →
    nIllegal x = false → (s.dev.eng p).runBroken x = false → uSeq w = 2 → (s.dev.meCond p (uCond w)) = false → Completes (.meWord p {})
    s (fun t => t.fld ME_STATUS.WAITING p = 1 ∧ t.eng p = (s.dev.eng p).fresh ∧ t.mem = s.dev.mem)) ∧
  (∀ (s : State) (p : Nat), s.dev.meCanIssue p = true → s.dev.flag ME_STATUS.WAITING p = false → s.dev.flag ME_DCFG.AUTO_RELIEF p = false →
    s.dev.ops (s.dev.meLogical p) = {} → Completes (.meWord p { micro := .bad }) s (fun t => t.fld ME_FAULT.CAUSE p = 1 ∧
    t.fld ME_FAULT.VALID p = 1 ∧ t.fld ME_FAULT.FPC p = (s.dev.eng p).top.pc % 2 ^ ME_FAULT.FPC.len ∧ t.fld ME_STATUS.RUNNING p = 0 ∧
    t.fld ME_STATUS.FAULT p = 1 ∧ (t.eng p).frames = [] ∧ (t.eng p).active = [] ∧ (t.eng p).pc = (s.dev.eng p).top.pc ∧
    (t.eng p).gpr = (s.dev.eng p).gpr)) ∧
  (∀ (s : State) (p : Nat) (w : BitVec 48) (x : BitVec 192) (go : MeSeq), s.dev.meCanIssue p = true → s.dev.flag ME_STATUS.WAITING p = true →
    (s.dev.eng p).micro[(s.dev.eng p).top.pc]? = some w → (s.dev.meCond p (uCond w)) = true → (s.dev.eng p).nano[uNano w]? = some x →
    nIllegal x = false →
    let y := s.dev.setFld ME_STATUS.WAITING 0 p
    y.meCause p w x true = 0 → y.berthMeets p w x = .served → nChannel x = false → y.meNext (s.dev.eng p) w x true = .ok go →
    Completes (.meWaitSatisfied p {}) s (fun t =>
    t = { (y.meCommit p w x go (y.axisPort (s.dev.eng p) x) ((s.dev.eng p).slipPort x)) with fuse := s.dev.fuse }))

/-- The quay port in its scan slot (04 R109, R118 to R121; 05 R167 to R172). The model's readings: assumptions 36, 41. -/
def Obligations.ChannelWordsActInTheirScanSlot : Prop :=
  (∀ (s : State) (p k : Nat) (w : BitVec 48) (x : BitVec 192) (b : Bool) (a : ApResult) (go : MeSeq), (s.dev.eng p).qpWait = some (b, a) →
    s.dev.qpWord p = some (w, x) → s.dev.meCause p w x b = 0 → s.dev.berthMeets p w x = .served → s.dev.meNext (s.dev.eng p) w x b = .ok go →
    nBp x = 0 ∧ nSp x = 0 ∧ nAp x = 0 → (s.dev.eng p).channel w x = k → s.dev.slotDue k = true → s.dev.qpWaits k = [p] →
    (s.dev.chan k).cmds = [] → nQp x = 5 → nRdWe x = true ∧ nWb x = 3 ∧ nRd x ≠ 0 → Completes (.qpRead p) s (fun t => (t.eng p).reg (nRd x)
    = BitVec.ofNat 32 (cut (s.dev.chBytes k) (32 * nQpWord x) 32) ∧ (t.eng p).qpWait = none)) ∧
  (∀ (s : State) (p k : Nat) (w : BitVec 48) (x : BitVec 192) (b : Bool) (a : ApResult) (go : MeSeq), (s.dev.eng p).qpWait = some (b, a) →
    s.dev.qpWord p = some (w, x) → s.dev.meCause p w x b = 0 → s.dev.berthMeets p w x = .served → s.dev.meNext (s.dev.eng p) w x b = .ok go →
    nBp x = 0 ∧ nSp x = 0 ∧ nAp x = 0 → (s.dev.eng p).channel w x = k → s.dev.slotDue k = true → s.dev.qpWaits k = [p] →
    (s.dev.chan k).cmds = [] → nQp x = 6 → nAxOp x = 0 → Completes (.qpRead p) s (fun t => (t.eng p).areg (nQpAr x)
    = BitVec.ofNat 64 (cut (s.dev.chBytes k) (32 * nQpWord x) 64) ∧ (t.eng p).qpWait = none)) ∧
  (∀ (s : State) (p k : Nat) (w : BitVec 48) (x : BitVec 192) (b : Bool) (a : ApResult) (go : MeSeq), (s.dev.eng p).qpWait = some (b, a) →
    s.dev.qpWord p = some (w, x) → s.dev.meCause p w x b = 0 → s.dev.berthMeets p w x = .served → s.dev.meNext (s.dev.eng p) w x b = .ok go →
    nBp x = 0 ∧ nSp x = 0 ∧ nAp x = 0 → (s.dev.eng p).channel w x = k → s.dev.slotDue k = true → s.dev.qpWaits k = [p] →
    (s.dev.chan k).cmds = [] → nQp x = 7 → go.exit = false → Completes (.qpLoadslip p) s (fun t =>
    (t.eng p).top.slip = BitVec.ofNat 384 (s.dev.chBytes k) ∧ (t.eng p).top.qe = false ∧ (t.eng p).qpWait = none)) ∧
  (∀ (s : State) (p k : Nat) (w : BitVec 48) (x : BitVec 192) (b : Bool) (a : ApResult) (go : MeSeq), (s.dev.eng p).qpWait = some (b, a) →
    s.dev.qpWord p = some (w, x) → s.dev.meCause p w x b = 0 → s.dev.berthMeets p w x = .served → s.dev.meNext (s.dev.eng p) w x b = .ok go →
    nBp x = 0 ∧ nSp x = 0 ∧ nAp x = 0 → (s.dev.eng p).channel w x = k → s.dev.slotDue k = true → s.dev.qpWaits k = [p] →
    (s.dev.chan k).cmds = [] → nQp x = 8 → go.exit = false → Completes (.qpArm p) s (fun t =>
    (t.eng p).top.qe = decide (s.dev.armCheck k (ChItem.ofBytes (s.dev.eng p).top.slip.toNat 0) ≠ 0) ∧ (t.eng p).qpWait = none)) ∧
  (∀ (s : State) (p k : Nat) (w : BitVec 48) (x : BitVec 192) (b : Bool) (a : ApResult) (go : MeSeq), (s.dev.eng p).qpWait = some (b, a) →
    s.dev.qpWord p = some (w, x) → s.dev.meCause p w x b = 0 → s.dev.berthMeets p w x = .served → s.dev.meNext (s.dev.eng p) w x b = .ok go →
    nBp x = 0 ∧ nSp x = 0 ∧ nAp x = 0 → (s.dev.eng p).channel w x = k → s.dev.slotDue k = true → s.dev.qpWaits k = [p] →
    (s.dev.chan k).cmds = [] → nQp x = 8 → nRdWe x = true ∧ nWb x = 3 ∧ nRd x ≠ 0 → (s.dev.chan k).inputs = [] → (s.dev.chan k).tails = [] →
    (s.dev.chan k).owed = none → (s.dev.chan k).frozen = false → s.dev.armCheck k (ChItem.ofBytes (s.dev.eng p).top.slip.toNat 0) = 0 →
    (ChItem.ofBytes (s.dev.eng p).top.slip.toNat 0).gated = false → (s.dev.chan k).cur = none → (s.dev.chan k).queued = none →
    (s.dev.chan k).cstate ≠ 4 → Completes (.qpArm p) s (fun t =>
    (t.chan k).cur = some { (ChItem.ofBytes (s.dev.eng p).top.slip.toNat 0) with gen := nextGen (s.dev.chan k).gen } ∧
    (t.chan k).gen = nextGen (s.dev.chan k).gen ∧ (t.eng p).reg (nRd x)
    = BitVec.ofNat 32 (pack [(0, 16, nextGen (s.dev.chan k).gen), (16, 8, 0), (24, 3, (t.chan k).cstate)]))) ∧
  (∀ (s : State) (p k : Nat) (w : BitVec 48) (x : BitVec 192) (b : Bool) (a : ApResult) (go : MeSeq) (i : ChItem), (s.dev.eng p).qpWait = some (b, a)
    → s.dev.qpWord p = some (w, x) → s.dev.meCause p w x b = 0 → s.dev.berthMeets p w x = .served → s.dev.meNext (s.dev.eng p) w x b = .ok go →
    nBp x = 0 ∧ nSp x = 0 ∧ nAp x = 0 → (s.dev.eng p).channel w x = k → s.dev.slotDue k = true → s.dev.qpWaits k = [p] →
    (s.dev.chan k).cmds = [] → nQp x = 9 → go.exit = false → (s.dev.chan k).cur = some i → Completes (.qpUpdate p) s (fun t =>
    (t.eng p).top.qe = s.dev.rangeBad (i.updated (ChItem.ofBytes (s.dev.eng p).top.slip.toNat 0) 0x7F) ∧ (t.eng p).qpWait = none)) ∧
  (∀ (s : State) (p k : Nat) (w : BitVec 48) (x : BitVec 192) (b : Bool) (a : ApResult) (go : MeSeq) (i : ChItem), (s.dev.eng p).qpWait = some (b, a)
    → s.dev.qpWord p = some (w, x) → s.dev.meCause p w x b = 0 → s.dev.berthMeets p w x = .served → s.dev.meNext (s.dev.eng p) w x b = .ok go →
    nBp x = 0 ∧ nSp x = 0 ∧ nAp x = 0 → (s.dev.eng p).channel w x = k → s.dev.slotDue k = true → s.dev.qpWaits k = [p] →
    (s.dev.chan k).cmds = [] → nQp x = 9 → nRdWe x = true ∧ nWb x = 3 ∧ nRd x ≠ 0 → (s.dev.chan k).inputs = [] → (s.dev.chan k).tails = [] →
    (s.dev.chan k).owed = none → (s.dev.chan k).frozen = false → (s.dev.chan k).cur = some i → i.mode = 1 → i.gated = false → i.gen < 65536 →
    s.dev.rangeBad (i.updated (ChItem.ofBytes (s.dev.eng p).top.slip.toNat 0) 0x7F) = false → Completes (.qpUpdate p) s (fun t =>
    (t.chan k).cur = some (i.updated (ChItem.ofBytes (s.dev.eng p).top.slip.toNat 0) 0x7F) ∧ (t.chan k).gen = (s.dev.chan k).gen ∧
    (t.eng p).reg (nRd x) = BitVec.ofNat 32 (pack [(0, 16, i.gen), (16, 8, 0), (24, 3, (t.chan k).cstate)]))) ∧
  (∀ (s : State) (p k : Nat) (w : BitVec 48) (x : BitVec 192) (b : Bool) (a : ApResult) (go : MeSeq), (s.dev.eng p).qpWait = some (b, a) →
    s.dev.qpWord p = some (w, x) → s.dev.meCause p w x b = 0 → s.dev.berthMeets p w x = .served → s.dev.meNext (s.dev.eng p) w x b = .ok go →
    nBp x = 0 ∧ nSp x = 0 ∧ nAp x = 0 → (s.dev.eng p).channel w x = k → s.dev.slotDue k = true → s.dev.qpWaits k = [p] →
    (s.dev.chan k).cmds = [] → nQp x = 10 → go.exit = false → Completes (.qpDisarm p) s (fun t => (t.eng p).top.qe = false ∧
    (t.eng p).qpWait = none)) ∧
  (∀ (s : State) (p k : Nat) (w : BitVec 48) (x : BitVec 192) (b : Bool) (a : ApResult) (go : MeSeq) (i : ChItem), (s.dev.eng p).qpWait = some (b, a)
    → s.dev.qpWord p = some (w, x) → s.dev.meCause p w x b = 0 → s.dev.berthMeets p w x = .served → s.dev.meNext (s.dev.eng p) w x b = .ok go →
    nBp x = 0 ∧ nSp x = 0 ∧ nAp x = 0 → (s.dev.eng p).channel w x = k → s.dev.slotDue k = true → s.dev.qpWaits k = [p] →
    (s.dev.chan k).cmds = [] → nQp x = 10 → nRdWe x = true ∧ nWb x = 3 ∧ nRd x ≠ 0 → (s.dev.chan k).inputs = [] → (s.dev.chan k).tails = [] →
    (s.dev.chan k).owed = none → (s.dev.chan k).frozen = false → (s.dev.chan k).cur = some i → i.mode = 1 → i.gen < 65536 →
    (s.dev.chan k).started = false → (s.dev.chan k).queued = none → s.dev.hasEdges k = false → Completes (.qpDisarm p) s (fun t =>
    (t.chan k).cur = none ∧ (t.chan k).cstate = 0 ∧ (t.chan k).gen = (s.dev.chan k).gen ∧ (t.eng p).reg (nRd x)
    = BitVec.ofNat 32 (pack [(0, 16, i.gen), (16, 8, 0), (24, 3, (t.chan k).cstate)])))

/-- Dispatch, faults and reliefs (06 R195 to R219; 05 R188). The model's readings: assumption 42. -/
def Obligations.EnginesDispatchFailAndAreRelieved : Prop :=
  (∀ (s : State) (p q v : Nat), s.dev.meServes p = true → s.dev.flag ME_STATUS.RUNNING p = true → s.dev.flag ME_STATUS.FAULT p = false →
    s.dev.flag ME_DSTAT.HELD p = false → (s.dev.eng p).sampled = true → (s.dev.eng p).qpWait = none → s.dev.meWinner p = some q →
    (s.dev.eng p).frames.length < 8 → (s.dev.eng p).vectors.getD (s.dev.grpOf q) 0xFFFF = v → v ≠ 0xFFFF → Completes (.meDispatch p) s (fun t =>
    (t.eng p).frames = (s.dev.eng p).frames ++ [{ pc := v, ev := (s.dev.meTake q).1.take 3, src := some (q, recsGen (s.dev.meTake q).1), grp := s.dev.meGroup p q }]
    ∧ (t.eng p).active = (s.dev.eng p).active ++ [{ src := q, gen := recsGen (s.dev.meTake q).1, frame := (s.dev.eng p).frames.length }] ∧
    t.fld ME_STATUS.WAITING p = 0 ∧ (s.dev.hasItem q = false → t.pend q = false))) ∧
  (∀ (s : State) (p q v : Nat), s.dev.meServes p = true → s.dev.flag ME_STATUS.RUNNING p = true → s.dev.flag ME_STATUS.FAULT p = false →
    s.dev.flag ME_DSTAT.HELD p = false → (s.dev.eng p).sampled = true → (s.dev.eng p).qpWait = none → s.dev.meWinner p = some q →
    (s.dev.eng p).frames.length < 8 → (s.dev.eng p).vectors.getD (s.dev.grpOf q) 0xFFFF = v → v = 0xFFFF → Completes (.meDispatch p) s (fun t =>
    t.eng p = (s.dev.eng p) ∧ ∃ r, t.sl.rises = s.dev.sl.rises ++ [r] ∧ r.src = 0x7C0 + s.dev.meLogical p)) ∧
  (∀ (s : State) (p : Nat), p < 26 → (s.dev.eng p).timer = 1 → Completes (.meTimerExpire p) s (fun t =>
    t = s.dev.setEng p { (s.dev.eng p) with timer := 0 })) ∧
  (∀ (s : State) (p : Nat), s.dev.meServes p = true → s.dev.flag ME_STATUS.RUNNING p = true → (s.dev.eng p).frames ≠ [] →
    s.dev.fld ME_WDOG.WD_US p ≠ 0 → s.dev.ops (s.dev.meLogical p) = {} → (s.dev.eng p).beat + 1000 * s.dev.fld ME_WDOG.WD_US p ≤ 2 * s.dev.tb.eclk
    → s.dev.flag ME_DCFG.AUTO_RELIEF p = false → Completes (.heartbeatExpire p) s (fun t => t.fld ME_FAULT.CAUSE p = 0x10 ∧
    t.fld ME_FAULT.VALID p = 1 ∧ t.fld ME_STATUS.RUNNING p = 0 ∧ t.fld ME_STATUS.FAULT p = 1 ∧ (t.eng p).frames = [])) ∧
  (∀ (s : State) (n : Nat) (r : MeRelief), (s.dev.ops n).relief = some r → r.copied = false → r.cause = none → 24 ≤ r.new →
    Completes (.reliefCopyDone n false) s (fun t => t.eng r.new = (s.dev.eng r.old).storesOnly ∧
    (t.ops n).relief = some { r with copied := true } ∧ (t.ops n).serv = (s.dev.ops n).serv ∧ t.fld ME_RELIEF.COPYING (r.new - 24) = 0)) ∧
  (∀ (s : State) (n : Nat) (r : MeRelief) (k : Nat), (s.dev.ops n).relief = some r → r.copied = false → r.cause = some k → r.old ≠ r.new →
    Completes (.reliefCopyDone n false) s (fun t => (t.eng r.new).frames = [{ pc := (s.dev.eng r.old).recover_ }] ∧
    (t.eng r.new).micro = (s.dev.eng r.old).micro ∧ (t.eng r.old).frames = [] ∧ t.fld ME_STATUS.RUNNING r.new = 1 ∧
    t.fld ME_STATUS.RUNNING r.old = 0 ∧ t.fld ME_STATUS.ROLE r.old = 3 ∧ (t.ops n).serv = some r.new ∧ (t.ops n).relief = none ∧
    (t.ops n).home = (if s.dev.meHome n = r.old then some r.new else (s.dev.ops n).home))) ∧
  (∀ (s : State) (n : Nat) (r : MeRelief) (c : Cmd), (s.dev.ops n).relief = some r → r.cmd = some c → r.copied = true →
    s.dev.meBoundary r.old = true → r.old ≠ r.new → Completes (.reliefTakeover n false) s (fun t =>
    t.eng r.new = { s.dev.eng r.old with beat := 2 * s.dev.tb.eclk } ∧ t.eng r.old = (s.dev.eng r.old).storesOnly ∧
    t.fld ME_STATUS.RUNNING r.new = (s.dev.flag ME_IMAGE.ACT r.old).toNat ∧ t.fld ME_STATUS.RUNNING r.old = 0 ∧ (t.ops n).serv = some r.new ∧
    (t.ops n).relief = none)) ∧
  (∀ (s : State) (p : Nat), 24 ≤ p ∧ p < 26 → s.dev.reliefFree p = true → s.dev.flag ME_RELIEF.WARM_EN (p - 24) = true →
    s.dev.flag ME_RELIEF.COPYING (p - 24) = true → s.dev.fld ME_RELIEF.WARM_FOR (p - 24) < 24 → Completes (.warmCopyDone p) s (fun t =>
    t.eng p = (s.dev.eng (s.dev.meServ (s.dev.fld ME_RELIEF.WARM_FOR (p - 24)))).storesOnly ∧ t.fld ME_RELIEF.WARM (p - 24) = 1 ∧
    t.fld ME_RELIEF.COPYING (p - 24) = 0)) ∧
  (∀ (s : State) (n : Nat) (l : MeLoad), (s.dev.ops n).load = some l → l.halting = true → s.dev.flag ME_STATUS.RUNNING l.target = true →
    s.dev.meBoundary l.target = true → l.space = 0 ∧ l.len ≠ 0 → Completes (.haltStop n) s (fun t => t.fld ME_STATUS.RUNNING l.target = 0 ∧
    (t.eng l.target).frames = [] ∧ t.fld ME_IMAGE.LSTATE l.target = 1 ∧ t.fld ME_IMAGE.ACT l.target = 0 ∧
    (t.ops n).load = some { l with halting := false })) ∧
  (∀ (s : State) (n : Nat) (l : MeLoad), (s.dev.ops n).load = some l → l.halting = false → l.len ≤ l.bytes.length → Completes (.loadVerifyDone n)
    s (fun t => (t.ops n).load = none ∧ t.fld ME_IMAGE.LSTATE l.target = if signatureOk (s.dev.fld HM_KEY.KEY l.slot) l.bytes then 2 else 3)) ∧
  (∀ (s : State) (n : Nat) (a : MeAct), (s.dev.ops n).act = some a → a.due ≤ 2 * s.dev.tb.eclk →
    let q := s.dev.meServ n
    Completes (.activateDrainTimeout n) s (fun t => (t.eng q).frames = (s.dev.eng q).frames.filter (fun f => f.src.isNone) ∧
    (t.ops n).act = some { a with lost := a.lost + ((s.dev.eng q).frames.filter (fun f => f.src.isSome)).length } ∧ t.fld ME_STATUS.WAITING q = 0)) ∧
  (∀ (s : State) (n : Nat) (a : MeAct), n < 24 → (s.dev.ops n).act = some a → (s.dev.ops n).relief = none → s.dev.atBase (s.dev.meServ n) = true →
    let q := s.dev.meServ n
    let h := s.dev.meHome n
    Completes (.activateSwitch n) s (fun t => (t.eng h).frames = [{ pc := (s.dev.eng h).base_ }] ∧ (t.eng h).gpr = (if a.keep then
    (s.dev.eng q).gpr else []) ∧ t.fld ME_STATUS.RUNNING h = 1 ∧ t.fld ME_IMAGE.ACT h = 1 ∧ t.fld ME_STATUS.LOGICAL h = n ∧
    t.fld ME_DSTAT.HELD h = 0 ∧ (t.ops n).serv = some h ∧ (t.ops n).act = none ∧ (q ≠ h → t.eng q = (s.dev.eng q).storesOnly)))

/-- The instructions of the pin engines, with any touch (07 R230 to R241, R252). The model's readings: assumption 39. -/
def Obligations.PinInstructionsAct : Prop :=
  (∀ (s : State) (n : Nat), n < 32 → s.dev.pnState n = 1 → (s.dev.pne n).slack = 0 →
    let w := s.dev.pnWord n
    pnOp w = 0 → Completes (.pnDly n false) s (fun t => t.fld PN_STATUS.PC n = (s.dev.fld PN_STATUS.PC n + 1) % 32 ∧ (t.pne n).slack = cut w 0 9 + 1 ∧
    (t.pne n).sr = (s.dev.pne n).sr)) ∧
  (∀ (s : State) (n : Nat) (i : Instr), n < 32 → s.dev.pnState n = 1 → (s.dev.pne n).slack = 0 → (s.dev.pne n).shadow = none →
    let w := s.dev.pnWord n
    (pnOp w, i)
    ∈ ([(0, .pnDly n true), (1, .pnJmp n true), (2, .pnWaitp ⟨n, true⟩), (3, .pnWaitf ⟨n, true⟩), (4, .pnWaite ⟨n, true⟩), (5, .pnWaitx ⟨n, true⟩), (6, .pnPush ⟨n, true⟩), (7, .pnPull ⟨n, true⟩), (8, .pnOut n true), (9, .pnIn n true), (10, .pnLdi ⟨n, true⟩), (11, .pnMov n true), (12, .pnDjnz ⟨n, true⟩), (13, .pnSig ⟨n, true⟩), (14, .pnCapt ⟨n, true⟩), (15, .pnEnd ⟨n, true⟩)]
    : List (Nat × Instr)) → Completes i s (fun t => t.fld PN_STATUS.STATE n = 3 ∧ t.fld PN_STATUS.PC n = s.dev.fld PN_STATUS.PC n ∧
    t.fld PN_ERR.LAST_CAUSE n = 3 ∧ t.pn = s.dev.pn)) ∧
  (∀ (s : State) (n : Nat), n < 32 → s.dev.pnState n = 1 → (s.dev.pne n).slack = 0 →
    let w := s.dev.pnWord n
    pnOp w = 0x1 → Completes (.pnJmp n false) s (fun t => t.fld PN_STATUS.PC n = (if s.dev.pnCond n (cut w 5 4) then cut w 0 5 else
    (s.dev.fld PN_STATUS.PC n + 1) % 32) ∧ (t.pne n).slack = 1)) ∧
  (∀ (s : State) (n : Nat), n < 32 → s.dev.pnState n = 1 → (s.dev.pne n).slack = 0 →
    let w := s.dev.pnWord n
    pnOp w = 0x2 → Completes (.pnWaitp ⟨n, false⟩) s (fun t => t.fld PN_STATUS.STATE n = 2 ∧ t.fld PN_STATUS.PC n = s.dev.fld PN_STATUS.PC n ∧
    t.pne n = { (s.dev.pne n) with edge := false, tmo := false, bound := none, wxDone := false })) ∧
  (∀ (s : State) (n : Nat), n < 32 → s.dev.pnState n = 1 → (s.dev.pne n).slack = 0 →
    let w := s.dev.pnWord n
    pnOp w = 0x3 → Completes (.pnWaitf ⟨n, false⟩) s (fun t => t.fld PN_STATUS.STATE n = 2 ∧ t.fld PN_STATUS.PC n = s.dev.fld PN_STATUS.PC n ∧
    t.pne n = { (s.dev.pne n) with edge := false, tmo := false, bound := none, wxDone := false })) ∧
  (∀ (s : State) (n : Nat), n < 32 → s.dev.pnState n = 1 → (s.dev.pne n).slack = 0 →
    let w := s.dev.pnWord n
    pnOp w = 0x4 → Completes (.pnWaite ⟨n, false⟩) s (fun t => t.fld PN_STATUS.STATE n = 2 ∧ t.fld PN_STATUS.PC n = s.dev.fld PN_STATUS.PC n ∧
    t.pne n = { (s.dev.pne n) with edge := false, tmo := false, bound := none, wxDone := false })) ∧
  (∀ (s : State) (n : Nat), n < 32 → s.dev.pnState n = 1 → (s.dev.pne n).slack = 0 →
    let w := s.dev.pnWord n
    pnOp w = 0x5 → Completes (.pnWaitx ⟨n, false⟩) s (fun t => t.fld PN_STATUS.STATE n = 2 ∧ t.fld PN_STATUS.PC n = s.dev.fld PN_STATUS.PC n ∧
    t.pne n = { (s.dev.pne n) with edge := false, tmo := false, bound := none, wxDone := false })) ∧
  (∀ (s : State) (n : Nat), n < 32 → s.dev.pnState n = 1 → (s.dev.pne n).slack = 0 →
    let w := s.dev.pnWord n
    pnOp w = 0x6 → (s.dev.pne n).rx.length < 8 → Completes (.pnPush ⟨n, false⟩) s (fun t =>
    (t.pne n).rx = (s.dev.pne n).rx ++ [(s.dev.pne n).reg (cut w 1 2)] ∧ t.fld PN_STATUS.SC n = (if cut w 1 2 = 2 then 0 else
    s.dev.fld PN_STATUS.SC n) ∧ t.fld PN_STATUS.PC n = (s.dev.fld PN_STATUS.PC n + 1) % 32 ∧ (t.pne n).slack = 1)) ∧
  (∀ (s : State) (n : Nat), n < 32 → s.dev.pnState n = 1 → (s.dev.pne n).slack = 0 →
    let w := s.dev.pnWord n
    pnOp w = 0x6 → 8 ≤ (s.dev.pne n).rx.length → bit w 0 = true → Completes (.pnPush ⟨n, false⟩) s (fun t => (t.pne n).rx = (s.dev.pne n).rx ∧
    t.fld PN_CNT.DROP_CNT n = min (s.dev.fld PN_CNT.DROP_CNT n + 1) (2 ^ PN_CNT.DROP_CNT.len - 1) ∧
    t.fld PN_STATUS.PC n = (s.dev.fld PN_STATUS.PC n + 1) % 32 ∧ (t.pne n).slack = 1)) ∧
  (∀ (s : State) (n : Nat), n < 32 → s.dev.pnState n = 1 → (s.dev.pne n).slack = 0 →
    let w := s.dev.pnWord n
    pnOp w = 0x6 → 8 ≤ (s.dev.pne n).rx.length → bit w 0 = false → Completes (.pnPush ⟨n, false⟩) s (fun t => (t.pne n).rx = (s.dev.pne n).rx ∧
    t.fld PN_STATUS.STATE n = 2 ∧ t.fld PN_STATUS.PC n = s.dev.fld PN_STATUS.PC n)) ∧
  (∀ (s : State) (n : Nat) (v : BitVec 32) (l : List (BitVec 32)), n < 32 → s.dev.pnState n = 1 → (s.dev.pne n).slack = 0 →
    let w := s.dev.pnWord n
    pnOp w = 7 → (s.dev.pne n).tx = v :: l → Completes (.pnPull ⟨n, false⟩) s (fun t => (t.pne n).tx = l ∧ (t.pne n).reg (cut w 1 2)
    = ((s.dev.pne n).setReg (cut w 1 2) v).reg (cut w 1 2) ∧ t.fld PN_STATUS.SC n = (if cut w 1 2 = 2 then blkShift (s.dev.pne n).prog % 64 else
    s.dev.fld PN_STATUS.SC n) ∧ t.fld PN_STATUS.PC n = (s.dev.fld PN_STATUS.PC n + 1) % 32 ∧ (t.pne n).slack = 1)) ∧
  (∀ (s : State) (n : Nat), n < 32 → s.dev.pnState n = 1 → (s.dev.pne n).slack = 0 →
    let w := s.dev.pnWord n
    pnOp w = 0x7 → (s.dev.pne n).tx = [] → bit w 0 = false → Completes (.pnPull ⟨n, false⟩) s (fun t => t.fld PN_STATUS.STATE n = 2 ∧
    t.fld PN_STATUS.PC n = s.dev.fld PN_STATUS.PC n)) ∧
  (∀ (s : State) (n : Nat), n < 32 → s.dev.pnState n = 1 → (s.dev.pne n).slack = 0 →
    let w := s.dev.pnWord n
    pnOp w = 0x8 → s.dev.fld PN_STATUS.SC n ≠ 0 → s.dev.fld PN_STATUS.SC n ≤ 32 → Completes (.pnOut n false) s (fun t =>
    (t.pne n).sr = (if bit w 3 then (s.dev.pne n).sr <<< 1 else (s.dev.pne n).sr >>> 1) ∧ t.fld PN_STATUS.SC n = s.dev.fld PN_STATUS.SC n - 1 ∧
    t.fld PN_STATUS.PC n = (s.dev.fld PN_STATUS.PC n + 1) % 32 ∧ (t.pne n).slack = 1)) ∧
  (∀ (s : State) (n pin : Nat), n < 32 → s.dev.pnState n = 1 → (s.dev.pne n).slack = 0 →
    let w := s.dev.pnWord n
    pnOp w = 8 → pnTouch w = 0 → s.dev.fld PN_STATUS.SC n ≠ 0 → s.dev.lanePin n (cut w 0 3) = some pin → s.dev.fld TIO_PIN.OUT_SRC pin = 2 →
    Completes (.pnOut n false) s (fun t => (t.pne n).lvl.getLsbD (cut w 0 3) = (if bit w 3 then (s.dev.pne n).sr.getLsbD 31 else
    (s.dev.pne n).sr.getLsbD 0))) ∧
  (∀ (s : State) (n : Nat), n < 32 → s.dev.pnState n = 1 → (s.dev.pne n).slack = 0 →
    let w := s.dev.pnWord n
    pnOp w = 0x8 → s.dev.fld PN_STATUS.SC n = 0 → Completes (.pnOut n false) s (fun t => (t.pne n).sr = (s.dev.pne n).sr ∧ t.fld PN_STATUS.SC n = 0 ∧
    t.fld PN_STATUS.PC n = (s.dev.fld PN_STATUS.PC n + 1) % 32 ∧ (t.pne n).slack = 1)) ∧
  (∀ (s : State) (n : Nat), n < 32 → s.dev.pnState n = 1 → (s.dev.pne n).slack = 0 →
    let w := s.dev.pnWord n
    pnOp w = 0x9 →
    let b := BitVec.ofNat 32 (s.dev.laneLvl n (cut w 0 3)).toNat
    Completes (.pnIn n false) s (fun t => (t.pne n).sr = (if bit w 3 then (s.dev.pne n).sr <<< 1 ||| b else (s.dev.pne n).sr >>> 1 ||| b <<< 31) ∧
    t.fld PN_STATUS.SC n = min 32 (s.dev.fld PN_STATUS.SC n + 1) ∧ t.fld PN_STATUS.PC n = (s.dev.fld PN_STATUS.PC n + 1) % 32 ∧
    (t.pne n).slack = 1)) ∧
  (∀ (s : State) (n : Nat), n < 32 → s.dev.pnState n = 1 → (s.dev.pne n).slack = 0 →
    let w := s.dev.pnWord n
    pnOp w = 0xA →
    let k := [0, 1, 3, 2].getD (cut w 7 2) 0
    Completes (.pnLdi ⟨n, false⟩) s (fun t => (t.pne n).reg k = BitVec.ofNat 32 (cut w 0 7) ∧ t.fld PN_STATUS.PC n = (s.dev.fld PN_STATUS.PC n + 1)
    % 32 ∧ (t.pne n).slack = 1)) ∧
  (∀ (s : State) (n : Nat), n < 32 → s.dev.pnState n = 1 → (s.dev.pne n).slack = 0 →
    let w := s.dev.pnWord n
    pnOp w = 0xB → cut w 6 3 < 4 →
    let v := movOp (s.dev.pne n).wa (s.dev.movSrc n (cut w 3 3)) (cut w 0 3)
    Completes (.pnMov n false) s (fun t => (t.pne n).reg (cut w 6 3) = ((s.dev.pne n).setReg (cut w 6 3) v).reg (cut w 6 3) ∧
    t.fld PN_STATUS.PC n = (s.dev.fld PN_STATUS.PC n + 1) % 32 ∧ (t.pne n).slack = 1)) ∧
  (∀ (s : State) (n : Nat), n < 32 → s.dev.pnState n = 1 → (s.dev.pne n).slack = 0 →
    let w := s.dev.pnWord n
    pnOp w = 0xB → 4 ≤ cut w 6 3 → Completes (.pnMov n false) s (fun t => (t.pne n).wa = (s.dev.pne n).wa ∧ (t.pne n).wb = (s.dev.pne n).wb ∧
    (t.pne n).sr = (s.dev.pne n).sr ∧ (t.pne n).cnt = (s.dev.pne n).cnt ∧ t.fld PN_STATUS.PC n = (s.dev.fld PN_STATUS.PC n + 1) % 32 ∧
    (t.pne n).slack = 1)) ∧
  (∀ (s : State) (n : Nat), n < 32 → s.dev.pnState n = 1 → (s.dev.pne n).slack = 0 →
    let w := s.dev.pnWord n
    pnOp w = 0xC →
    let k := if bit w 5 then 1 else 3
    let x := (s.dev.pne n).setReg k ((s.dev.pne n).reg k - 1)
    Completes (.pnDjnz ⟨n, false⟩) s (fun t => (t.pne n).reg k = x.reg k ∧ t.fld PN_STATUS.PC n = (if x.reg k = 0 then (s.dev.fld PN_STATUS.PC n + 1)
    % 32 else cut w 0 5) ∧ (t.pne n).slack = 1)) ∧
  (∀ (s : State) (n : Nat), n < 32 → s.dev.pnState n = 1 → (s.dev.pne n).slack = 0 →
    let w := s.dev.pnWord n
    pnOp w = 0xD → 2 ≤ cut w 0 2 → Completes (.pnSig ⟨n, false⟩) s (fun t => t.flagOn (cut w 4 5) = !bit w 0 ∧
    t.fld PN_STATUS.PC n = (s.dev.fld PN_STATUS.PC n + 1) % 32 ∧ (t.pne n).slack = 1)) ∧
  (∀ (s : State) (n : Nat), n < 32 → s.dev.pnState n = 1 → (s.dev.pne n).slack = 0 →
    let w := s.dev.pnWord n
    pnOp w = 0xD → cut w 0 2 = 0 → Completes (.pnSig ⟨n, false⟩) s (fun t => t.sf = s.dev.sf ∧ ∃ r ∈ t.sl.rises, r.src = 0x640 + 4 * n ∧
    t.fld PN_STATUS.PC n = (s.dev.fld PN_STATUS.PC n + 1) % 32 ∧ (t.pne n).slack = 1)) ∧
  (∀ (s : State) (n : Nat), n < 32 → s.dev.pnState n = 1 → (s.dev.pne n).slack = 0 →
    let w := s.dev.pnWord n
    pnOp w = 0xE → (s.dev.pne n).rx.length ≤ 5 → Completes (.pnCapt ⟨n, false⟩) s (fun t => (t.pne n).rx = (s.dev.pne n).rx ++ s.dev.captWords n w ∧
    t.fld PN_STATUS.PC n = (s.dev.fld PN_STATUS.PC n + 1) % 32 ∧ (t.pne n).slack = 1)) ∧
  (∀ (s : State) (n : Nat), n < 32 → s.dev.pnState n = 1 → (s.dev.pne n).slack = 0 →
    let w := s.dev.pnWord n
    pnOp w = 0xE → 5 < (s.dev.pne n).rx.length → bit w 3 = false → Completes (.pnCapt ⟨n, false⟩) s (fun t => t.fld PN_STATUS.STATE n = 2 ∧
    t.fld PN_STATUS.PC n = s.dev.fld PN_STATUS.PC n ∧ (t.pne n).rx = (s.dev.pne n).rx ∧ (t.pne n).capt = s.dev.captWords n w)) ∧
  (∀ (s : State) (n : Nat), n < 32 → s.dev.pnState n = 1 → (s.dev.pne n).slack = 0 →
    let w := s.dev.pnWord n
    pnOp w = 0xF → (s.dev.pne n).shadow = none → Completes (.pnEnd ⟨n, false⟩) s (fun t => t.fld PN_STATUS.STATE n = 0 ∧
    t.fld PN_STATUS.PC n = s.dev.fld PN_STATUS.PC n ∧ (bit w 0 = true → ∃ r ∈ t.sl.rises, r.src = 0x640 + 4 * n)))

/-- Waits, swaps and touches (07 R230, R232, R236 to R240, R245 to R247, R257). The model's readings: assumption 39. -/
def Obligations.PinWaitsEndAndProgramsSwap : Prop :=
  (∀ (s : State) (n : Nat), n < 32 → s.dev.pnState n = 2 →
    let w := s.dev.pnWord n
    s.dev.pnMet n w = true → Completes (.pnWaitSatisfied n) s (fun t => t.fld PN_STATUS.STATE n = 1 ∧
    t.fld PN_STATUS.PC n = (s.dev.fld PN_STATUS.PC n + 1) % 32 ∧ (t.pne n).slack = 1 ∧ (t.pne n).acc = 0 ∧ (pnOp w = 3 → bit w 6 = true →
    t.flagOn (cut w 0 5) = false) ∧ (pnOp w = 4 → (t.pne n).latch.getLsbD (cut w 0 2) = false))) ∧
  (∀ (s : State) (n : Nat), n < 32 → s.dev.pnState n = 2 →
    let w := s.dev.pnWord n
    (pnOp w = 2 ∨ pnOp w = 3 ∨ pnOp w = 4) → bit w 8 = true → (s.dev.pne n).tmo = true → s.dev.pnMet n w = true → Completes (.pnWaitTimeout n)
    s (fun t => t.fld PN_STATUS.STATE n = 1 ∧ t.fld PN_STATUS.PC n = (s.dev.fld PN_STATUS.PC n + 1) % 32 ∧ (t.pne n).slack = 1 ∧
    (t.pne n).acc = 0)) ∧
  (∀ (s : State) (n : Nat), n < 32 → s.dev.pnState n = 2 →
    let w := s.dev.pnWord n
    (pnOp w = 2 ∨ pnOp w = 3 ∨ pnOp w = 4) → bit w 8 = true → (s.dev.pne n).tmo = true → s.dev.pnMet n w = false → Completes (.pnWaitTimeout n)
    s (fun t => t.fld PN_STATUS.STATE n = 1 ∧ t.fld PN_STATUS.PC n = (s.dev.fld PN_STATUS.PC n + 1) % 32 ∧ (t.pne n).slack = 1 ∧
    (t.pne n).acc = 0 ∧ (t.pne n).oe = (s.dev.pne n).oe ∧ (t.pne n).lvl = (s.dev.pne n).lvl)) ∧
  (∀ (s : State) (n : Nat), n < 32 → s.dev.pnState n = 2 →
    let w := s.dev.pnWord n
    pnOp w = 6 → (s.dev.pne n).rx.length < 8 → Completes (.pnBlockRelease n) s (fun t => t.fld PN_STATUS.STATE n = 1 ∧
    t.fld PN_STATUS.PC n = (s.dev.fld PN_STATUS.PC n + 1) % 32 ∧ (t.pne n).slack = 1 ∧ (t.pne n).acc = 0 ∧
    (t.pne n).rx = (s.dev.pne n).rx ++ [(s.dev.pne n).reg (cut w 1 2)])) ∧
  (∀ (s : State) (n : Nat) (v : BitVec 32) (l : List (BitVec 32)), n < 32 → s.dev.pnState n = 2 →
    let w := s.dev.pnWord n
    pnOp w = 7 → (s.dev.pne n).tx = v :: l → Completes (.pnBlockRelease n) s (fun t => t.fld PN_STATUS.STATE n = 1 ∧
    t.fld PN_STATUS.PC n = (s.dev.fld PN_STATUS.PC n + 1) % 32 ∧ (t.pne n).slack = 1 ∧ (t.pne n).acc = 0 ∧ (t.pne n).tx = l ∧
    (t.pne n).reg (cut w 1 2) = ((s.dev.pne n).setReg (cut w 1 2) v).reg (cut w 1 2))) ∧
  (∀ (s : State) (n : Nat), n < 32 → s.dev.pnState n = 2 →
    let w := s.dev.pnWord n
    pnOp w = 14 → (s.dev.pne n).rx.length ≤ 5 → Completes (.pnBlockRelease n) s (fun t => t.fld PN_STATUS.STATE n = 1 ∧
    t.fld PN_STATUS.PC n = (s.dev.fld PN_STATUS.PC n + 1) % 32 ∧ (t.pne n).slack = 1 ∧ (t.pne n).acc = 0 ∧
    (t.pne n).rx = (s.dev.pne n).rx ++ (s.dev.pne n).capt)) ∧
  (∀ (s : State) (n : Nat) (x : Shadow), n < 32 → (s.dev.pne n).shadow = some x → (s.dev.pnState n = 0 ∨ s.dev.pnState n = 3 ∨ (s.dev.pnState n = 1 ∧
    s.dev.operate = true ∧ (s.dev.pne n).slack = 0 ∧ s.dev.fld PN_STATUS.SC n = 0 ∧ blkBarred (s.dev.pne n).prog (s.dev.fld PN_STATUS.PC n)
    = false)) → Completes (.pnSwap n) s (fun t => (t.pne n).prog = x.prog ∧ (t.pne n).shadow = none ∧ (t.pne n).slack = 0 ∧
    t.fld PN_STATUS.STATE n = 1 ∧ t.fld PN_STATUS.SWAP_PEND n = 0 ∧ t.fld PN_STATUS.PC n = blkStart x.prog ∧
    t.fld PN_STATUS.PGEN n = nextGen (s.dev.fld PN_STATUS.PGEN n) ∧ t.fld PN_STATUS.SC n = s.dev.fld PN_STATUS.SC n)) ∧
  (∀ (s : State) (n k : Nat) (x : Shadow), n < 32 → (s.dev.pne n).shadow = some x → x.due = some k → s.dev.operate = true → k ≤ 2 * s.dev.tb.eclk →
    (s.dev.pne n).bound = none → Completes (.swapDeadlineExpire n) s (fun t => (t.pne n).prog = x.prog ∧ (t.pne n).shadow = none ∧
    (t.pne n).slack = 0 ∧ t.fld PN_STATUS.STATE n = 1 ∧ t.fld PN_STATUS.SWAP_PEND n = 0 ∧ t.fld PN_STATUS.PC n = blkStart x.prog ∧
    t.fld PN_STATUS.PGEN n = nextGen (s.dev.fld PN_STATUS.PGEN n) ∧ t.fld PN_STATUS.SC n = 0 ∧
    t.fld PN_ERR.ABANDON_CNT n = (if s.dev.fld PN_STATUS.SC n = 0 then s.dev.fld PN_ERR.ABANDON_CNT n else
    min (s.dev.fld PN_ERR.ABANDON_CNT n + 1) (2 ^ PN_ERR.ABANDON_CNT.len - 1)))) ∧
  ((∀ (d : Dev) (n k t j : Nat), 1 ≤ k → j < 8 →
    let x := blkTouch (d.pne n).prog k
    ((d.laneAndTouch n k t 0 0).pne n).oe.getLsbD j =
      (if d.laneOut n j then ((d.pne n).oe.getLsbD j || bit x (16 + j)) && !bit x (24 + j) else (d.pne n).oe.getLsbD j))) ∧
  (∀ (d : Dev) (n t m : Nat), (d.laneAndTouch n 0 t 0 0).pne m = d.pne m)

/-- The instructions of the lighter (10 R336 to R343, R351, R354, R356, R364). The model's readings: assumption 43. -/
def Obligations.LighterInstructionsAct : Prop :=
  (∀ (s : State) (c : Nat) (w : BitVec 64), c < 32 → s.dev.ltState c = 1 → (s.dev.ltc c).move = none → (s.dev.ltc c).fence = false →
    (s.dev.ltc c).refetch = none → s.dev.ltWord c = some w → bits w 60 4 = 0 → bits w 0 58 = 0 → w.getLsbD 59 = false → Completes (.ltEnd c)
    s (fun t => t.fld LT_STAT.LSTATE c = 0 ∧ t.fld LT_PC.PC c = s.dev.fld LT_PC.PC c ∧ (w.getLsbD 58 = true → ∃ y ∈ t.sl.rises,
    y.src = 0x6C0 + 2 * c))) ∧
  (∀ (s : State) (c : Nat) (w : BitVec 64) (l : LtLine), c < 32 → s.dev.ltState c = 1 → (s.dev.ltc c).move = none → (s.dev.ltc c).fence = false →
    (s.dev.ltc c).refetch = none → s.dev.ltWord c = some w → bits w 60 4 = 0 → bits w 0 58 = 0 → w.getLsbD 59 = true →
    s.dev.ltHeldLine c = some l → l.piOf (s.dev.ltPc c) = (s.dev.ltc c).pi → Completes (.ltEnd c) s (fun t => t.fld LT_STAT.LSTATE c = 3 ∧
    t.fld LT_PC.PC c = s.dev.fld LT_PC.PC c ∧ (t.ltc c).refetch = none ∧ (t.ltc c).tailAt = 2 * s.dev.tb.eclk ∧
    t.fld LT_DIAG.PARK_CNT c = min (s.dev.fld LT_DIAG.PARK_CNT c + 1) (2 ^ LT_DIAG.PARK_CNT.len - 1))) ∧
  (∀ (s : State) (c : Nat) (w : BitVec 64), c < 32 → s.dev.ltState c = 1 → (s.dev.ltc c).move = none → (s.dev.ltc c).fence = false →
    (s.dev.ltc c).refetch = none → s.dev.ltWord c = some w → bits w 60 4 = 8 → bits w 32 28 = 0 ∧ bits w 0 3 = 0 → Completes (.ltLink c)
    s (fun t => t.fld LT_STAT.LSTATE c = 1 ∧ t.fld LT_PC.PC c = put (s.dev.fld LT_PC.PC c) 0 32 (bits w 0 32) % 2 ^ LT_PC.PC.len)) ∧
  (∀ (s : State) (c : Nat) (w : BitVec 64) (i : Instr), c < 32 → s.dev.ltState c = 1 → (s.dev.ltc c).move = none → (s.dev.ltc c).fence = false →
    (s.dev.ltc c).refetch = none → s.dev.ltWord c = some w → (bits w 60 4, i, true)
    ∈ ([(0, .ltEnd c, bits w 0 58 != 0), (2, .ltMovei c, bits w 32 22 != 0 || bits w 58 2 == 3), (3, .ltLoop c, bits w 32 28 != 0), (4, .ltEndl c, bits w 0 60 != 0), (5, .ltWait c, bits w 58 2 == 3 || bits w 32 14 != 0), (6, .ltSignal c, bits w 53 5 != 0 || bits w 16 31 != 0), (7, .ltFence c, bits w 0 60 != 0), (8, .ltLink c, bits w 32 28 != 0 || bits w 0 3 != 0)]
    : List (Nat × Instr × Bool)) → Completes i s (fun t => t.fld LT_STAT.LSTATE c = 6 ∧ t.fld LT_PC.PC c = s.dev.fld LT_PC.PC c ∧
    ∃ y ∈ t.sl.rises, y.src = 0x6C1 + 2 * c ∧ t.fld LT_CNT.ERR_CNT c = min (s.dev.fld LT_CNT.ERR_CNT c + 1) (2 ^ LT_CNT.ERR_CNT.len - 1) ∧
    t.mem = s.dev.mem)) ∧
  (∀ (s : State) (c : Nat) (w : BitVec 64), c < 32 → s.dev.ltState c = 1 → (s.dev.ltc c).move = none → (s.dev.ltc c).fence = false →
    (s.dev.ltc c).refetch = none → s.dev.ltWord c = some w → bits w 60 4 = 3 → bits w 32 28 = 0 → (s.dev.ltc c).loops.length < 2 →
    Completes (.ltLoop c) s (fun t => t.fld LT_PC.PC c = put (s.dev.fld LT_PC.PC c) 0 32 (s.dev.fld LT_PC.PC c % 2 ^ 32 + 8) % 2 ^ LT_PC.PC.len ∧
    (t.ltc c).loops = { count := if bits w 0 32 = 0 then none else some (bits w 0 32), body := t.fld LT_PC.PC c % 2 ^ 32 } :: (s.dev.ltc c).loops)) ∧
  (∀ (s : State) (c : Nat) (w : BitVec 64) (l : LtLoop) (r : List LtLoop), c < 32 → s.dev.ltState c = 1 → (s.dev.ltc c).move = none →
    (s.dev.ltc c).fence = false → (s.dev.ltc c).refetch = none → s.dev.ltWord c = some w → bits w 60 4 = 4 → bits w 0 60 = 0 →
    (s.dev.ltc c).loops = l :: r → l.count = none → Completes (.ltEndl c) s (fun t => t.fld LT_PC.PC c = put (s.dev.fld LT_PC.PC c) 0 32 (l.body)
    % 2 ^ LT_PC.PC.len ∧ (t.ltc c).loops = l :: r)) ∧
  (∀ (s : State) (c : Nat) (w : BitVec 64) (n : Nat) (l : LtLoop) (r : List LtLoop), c < 32 → s.dev.ltState c = 1 → (s.dev.ltc c).move = none →
    (s.dev.ltc c).fence = false → (s.dev.ltc c).refetch = none → s.dev.ltWord c = some w → bits w 60 4 = 4 → bits w 0 60 = 0 →
    (s.dev.ltc c).loops = l :: r → l.count = some n → 1 < n → Completes (.ltEndl c) s (fun t => t.fld LT_PC.PC c = put (s.dev.fld LT_PC.PC c)
    0 32 (l.body) % 2 ^ LT_PC.PC.len ∧ (t.ltc c).loops = { l with count := some (n - 1) } :: r)) ∧
  (∀ (s : State) (c : Nat) (w : BitVec 64) (n : Nat) (l : LtLoop) (r : List LtLoop), c < 32 → s.dev.ltState c = 1 → (s.dev.ltc c).move = none →
    (s.dev.ltc c).fence = false → (s.dev.ltc c).refetch = none → s.dev.ltWord c = some w → bits w 60 4 = 4 → bits w 0 60 = 0 →
    (s.dev.ltc c).loops = l :: r → l.count = some n → n ≤ 1 → Completes (.ltEndl c) s (fun t => t.fld LT_PC.PC c = put (s.dev.fld LT_PC.PC c)
    0 32 (s.dev.fld LT_PC.PC c % 2 ^ 32 + 8) % 2 ^ LT_PC.PC.len ∧ (t.ltc c).loops = r)) ∧
  (∀ (s : State) (c : Nat) (w : BitVec 64), c < 32 → s.dev.ltState c = 1 → (s.dev.ltc c).move = none → (s.dev.ltc c).fence = false →
    (s.dev.ltc c).refetch = none → s.dev.ltWord c = some w → bits w 60 4 = 6 → bits w 53 5 = 0 ∧ bits w 16 31 = 0 → Completes (.ltSignal c)
    s (fun t => t.fld LT_PC.PC c = put (s.dev.fld LT_PC.PC c) 0 32 (s.dev.fld LT_PC.PC c % 2 ^ 32 + 8) % 2 ^ LT_PC.PC.len ∧
    (w.getLsbD 47 = false → ∃ y ∈ t.sl.rises, y.src = 0x6C0 + 2 * c) ∧ t.sf = (if w.getLsbD 59 then
    BitVec.ofNat 32 (put s.dev.sf.toNat (bits w 48 5) 1 (w.getLsbD 58).toNat) else s.dev.sf))) ∧
  (∀ (s : State) (c : Nat) (w : BitVec 64), c < 32 → s.dev.ltState c = 1 → (s.dev.ltc c).move = none → (s.dev.ltc c).fence = false →
    (s.dev.ltc c).refetch = none → s.dev.ltWord c = some w → bits w 60 4 = 2 → bits w 32 22 = 0 → bits w 58 2 < 2 →
    let n := bits w 56 2
    Completes (.ltMovei c) s (fun t => t.fld LT_PC.PC c = put (s.dev.fld LT_PC.PC c) 0 32 (s.dev.fld LT_PC.PC c % 2 ^ 32 + 8) % 2 ^ LT_PC.PC.len ∧
    (t.ltc c).a n = put ((s.dev.ltc c).a n) (32 * bits w 58 2) 32 (bits w 0 32) ∧ t.mem = s.dev.mem)) ∧
  (∀ (s : State) (c : Nat) (w : BitVec 64) (o : Nat), c < 32 → s.dev.ltState c = 1 → (s.dev.ltc c).move = none → (s.dev.ltc c).fence = false →
    (s.dev.ltc c).refetch = none → s.dev.ltWord c = some w → bits w 60 4 = 2 → bits w 32 22 = 0 → bits w 58 2 = 2 → mvBad w = false →
    let n := bits w 56 2
    ltTarget ((s.dev.ltc c).a n) = .berth o → o % 4 = 0 → (s.dev.ltc c).a n % 4 = 0 → s.dev.ltAccess c (o / 65536) = .served → s.dev.onP1 (o / 65536)
    1 c = false → s.dev.writeBad o 4 = false → s.dev.ltFlying < s.dev.ltMaxBursts → Completes (.ltMovei c) s (fun t =>
    t.fld LT_PC.PC c = put (s.dev.fld LT_PC.PC c) 0 32 (s.dev.fld LT_PC.PC c % 2 ^ 32 + 8) % 2 ^ LT_PC.PC.len ∧
    t.mem = (s.dev.berthWrite o (bytesOf (bits w 0 32) 4)).mem ∧ (t.ltc c).move = none ∧ (t.ltc c).hold = [] ∧
    t.fld LT_BYTES.BYTES c = (s.dev.fld LT_BYTES.BYTES c + 4) % 2 ^ 64)) ∧
  (∀ (s : State) (c : Nat) (w : BitVec 64), c < 32 → s.dev.ltState c = 1 → (s.dev.ltc c).move = none → (s.dev.ltc c).fence = false →
    (s.dev.ltc c).refetch = none → s.dev.ltWord c = some w → bits w 60 4 = 1 → mvBad w = false → s.dev.mvBadFields c w ((s.dev.ltc c).a (mvSA w))
    ((s.dev.ltc c).a (mvDA w)) = false → Completes (.ltMove c) s (fun t => t.fld LT_PC.PC c = put (s.dev.fld LT_PC.PC c)
    0 32 (s.dev.fld LT_PC.PC c % 2 ^ 32 + 8) % 2 ^ LT_PC.PC.len ∧
    (t.ltc c).move = some { word := w, pc := s.dev.fld LT_PC.PC c, rd := mvCount w, wr := mvCount w } ∧ (t.ltc c).hold = [] ∧
    (t.ltc c).bursts = [] ∧ t.mem = s.dev.mem)) ∧
  (∀ (s : State) (c : Nat) (w : BitVec 64), c < 32 → s.dev.ltState c = 1 → (s.dev.ltc c).move = none → (s.dev.ltc c).fence = false →
    (s.dev.ltc c).refetch = none → s.dev.ltWord c = some w → bits w 60 4 = 1 → mvBad w = true →
    let m := ({ word := w, pc := s.dev.fld LT_PC.PC c, rd := mvCount w, wr := mvCount w } : LtMove)
    Completes (.ltMove c) s (fun t => t.fld LT_PC.PC c = put (s.dev.fld LT_PC.PC c) 0 32 (s.dev.fld LT_PC.PC c % 2 ^ 32 + 8) % 2 ^ LT_PC.PC.len ∧
    (t.ltc c).move = none ∧ (t.ltc c).areg = ((s.dev.ltc c).skip m).areg ∧ t.fld LT_CNT.SKIP_CNT c = min (s.dev.fld LT_CNT.SKIP_CNT c + 1)
    (2 ^ LT_CNT.SKIP_CNT.len - 1) ∧ t.mem = s.dev.mem)) ∧
  (∀ (s : State) (c : Nat) (w : BitVec 64), c < 32 → s.dev.ltState c = 1 → (s.dev.ltc c).move = none → (s.dev.ltc c).fence = false →
    (s.dev.ltc c).refetch = none → s.dev.ltWord c = some w → bits w 60 4 = 5 → bits w 58 2 ≠ 3 ∧ bits w 32 14 = 0 → Completes (.ltWait c)
    s (fun t => t.fld LT_STAT.LSTATE c = 2 ∧ t.fld LT_PC.PC c = s.dev.fld LT_PC.PC c ∧ (t.ltc c).wait = some (2 * s.dev.tb.eclk))) ∧
  (∀ (s : State) (c : Nat) (w : BitVec 64), c < 32 → s.dev.ltState c = 1 → (s.dev.ltc c).move = none → (s.dev.ltc c).fence = false →
    (s.dev.ltc c).refetch = none → s.dev.ltWord c = some w → bits w 60 4 = 7 → bits w 0 60 = 0 → (s.dev.ltc c).hostDirty = none →
    (s.dev.ltc c).berthDirty = [] → Completes (.ltFence c) s (fun t => t.fld LT_PC.PC c = put (s.dev.fld LT_PC.PC c)
    0 32 (s.dev.fld LT_PC.PC c % 2 ^ 32 + 8) % 2 ^ LT_PC.PC.len ∧ (t.ltc c).fence = false)) ∧
  (∀ (s : State) (c : Nat) (w : BitVec 64), c < 32 → s.dev.ltState c = 1 → (s.dev.ltc c).move = none → (s.dev.ltc c).fence = false →
    (s.dev.ltc c).refetch = none → s.dev.ltWord c = some w → bits w 60 4 = 7 → bits w 0 60 = 0 → ((s.dev.ltc c).hostDirty ≠ none ∨
    (s.dev.ltc c).berthDirty ≠ []) → Completes (.ltFence c) s (fun t => t.fld LT_PC.PC c = s.dev.fld LT_PC.PC c ∧ (t.ltc c).fence = true ∧
    t.mem = s.dev.mem))

/-- The rest of a lighter channel (10 R336, R340, R345 to R348, R351, R353, R356 to R358, R360; 07 R242). The model's readings: assumption 43. -/
def Obligations.LighterReadsAndWaitsEnd : Prop :=
  (∀ (s : State) (c a n k : Nat) (r : List (Nat × Nat)) (v : BitVec 512), c < 32 → (s.dev.ltc c).fetches = (a, n) :: r → ltTarget a = .host k →
    Completes (.ltFetchDone c (some v)) s (fun t => (t.ltc c).fetches = r ∧ { addr := a, data := v, pi := n } ∈ (t.ltc c).lines ∧
    t.fld LT_STAT.LSTATE c = s.dev.fld LT_STAT.LSTATE c)) ∧
  (∀ (s : State) (c n k : Nat) (r : List (Nat × Nat)), c < 32 → (s.dev.ltc c).fetches = (ltLineOf (s.dev.ltPc c), n) :: r →
    ltTarget (ltLineOf (s.dev.ltPc c)) = .host k → s.dev.ltState c = 1 → Completes (.ltFetchDone c none) s (fun t => t.fld LT_STAT.LSTATE c = 6 ∧
    t.fld LT_PC.PC c = s.dev.fld LT_PC.PC c ∧ (t.ltc c).fetches = r ∧ t.fld LT_CNT.ERR_CNT c = min (s.dev.fld LT_CNT.ERR_CNT c + 1)
    (2 ^ LT_CNT.ERR_CNT.len - 1) ∧ ∃ y ∈ t.sl.rises, y.src = 0x6C1 + 2 * c)) ∧
  (∀ (s : State) (c v n o : Nat) (m : LtMove), s.dev.ltCanGo c = false → s.dev.ltWinner = some c → (s.dev.ltc c).move = some m → mvI m.word = false →
    let a := (s.dev.ltc c).a (mvSA m.word)
    ltTarget a = .host v → s.dev.ltPlan c m = (n, o) → n ≠ 0 → Completes (.ltBurstStart c) s (fun t =>
    (t.ltc c).bursts = (s.dev.ltc c).bursts ++ [{ src := a, len := n, out := o, data := none }] ∧
    (t.ltc c).move = some { m with rd := m.rd - n } ∧ (t.ltc c).a (mvSA m.word) = (if mvSI m.word then ltAdd a (mvSWrap m.word) n else a) ∧
    t.mem = s.dev.mem)) ∧
  (∀ (s : State) (c v n o : Nat) (m : LtMove), s.dev.ltCanGo c = false → s.dev.ltWinner = some c → (s.dev.ltc c).move = some m → mvSI m.word = true →
    mvI m.word = false →
    let a := (s.dev.ltc c).a (mvSA m.word)
    ltTarget a = .berth v → s.dev.ltPlan c m = (n, o) → n ≠ 0 → s.dev.ltAccess c (v / 65536) = .served → s.dev.wordBad v n = false →
    Completes (.ltBurstStart c) s (fun t =>
    (t.ltc c).bursts = (s.dev.ltc c).bursts ++ [{ src := a, len := n, out := o, data := some (.bytes (s.dev.portRead (s.dev.onP1 (v / 65536) 1 c) v n)) }]
    ∧ (t.ltc c).move = some { m with rd := m.rd - n } ∧ t.mem = s.dev.mem)) ∧
  (∀ (s : State) (c : Nat) (b : LtBurst) (r : List LtBurst) (m : LtMove) (l : List (BitVec 8)), c < 32 → (s.dev.ltc c).bursts = b :: r →
    (s.dev.ltc c).move = some m → b.back = false → b.data = none → b.need = 0 → l.length = b.len → Completes (.ltBurstData c (.bytes l))
    s (fun t =>
    t = { ((s.dev.setLt c { (s.dev.ltc c) with bursts := { b with data := some (.bytes l), back := true } :: r }).ltFlush c) with tb := s.dev.tb, fuse := s.dev.fuse })) ∧
  (∀ (s : State) (c v : Nat) (b : LtBurst) (m : LtMove) (l : List (BitVec 8)), c < 32 → (s.dev.ltc c).bursts = [b] → (s.dev.ltc c).move = some m →
    b.back = false → b.data = none → b.need = 0 → l.length = b.len → b.out ≠ 0 → m.wr = b.out → mvDI m.word = true →
    ltTarget ((s.dev.ltc c).a (mvDA m.word)) = .host v → s.dev.ltLink c = true → Completes (.ltBurstData c (.bytes l)) s (fun t =>
    (t.ltc c).move = none ∧ (t.ltc c).bursts = [] ∧ (t.ltc c).hold = [] ∧ t.fld LT_BYTES.BYTES c = (s.dev.fld LT_BYTES.BYTES c + b.out) % 2 ^ 64 ∧
    t.hi.posted = (s.dev.post (.write (s.dev.ltFn c) v (((s.dev.ltc c).hold ++ l).take b.out))).hi.posted ∧ (t.ltc c).a (mvDA m.word)
    = ltAdd ((s.dev.ltc c).a (mvDA m.word)) (mvDWrap m.word) b.out)) ∧
  (∀ (s : State) (c k v : Nat) (b : LtBurst) (r : List LtBurst) (m : LtMove), c < 32 → (s.dev.ltc c).bursts = b :: r → (s.dev.ltc c).move = some m →
    b.back = false → b.data = none → b.need = 0 → ltTarget m.pc = .host v → s.dev.ltLink c = true → Completes (.ltBurstData c (.failed k))
    s (fun t => (t.ltc c).move = none ∧ (t.ltc c).bursts = [] ∧ (t.ltc c).hold = [] ∧ (t.ltc c).fail = none ∧
    t.fld LT_CNT.ERR_CNT c = min (s.dev.fld LT_CNT.ERR_CNT c + 1) (2 ^ LT_CNT.ERR_CNT.len - 1) ∧ ∃ y ∈ t.sl.rises, y.src = 0x6C1 + 2 * c)) ∧
  (∀ (s : State) (c : Nat) (w : BitVec 64) (k : Nat), c < 32 → s.dev.ltState c = 2 → (s.dev.ltc c).wait = some k → s.dev.ltWord c = some w →
    s.dev.ltWaitMet c w = true →
    let n := bits w 56 2
    Completes (.ltWaitSatisfied c) s (fun t => t.fld LT_STAT.LSTATE c = 1 ∧ t.fld LT_PC.PC c = put (s.dev.fld LT_PC.PC c)
    0 32 (s.dev.fld LT_PC.PC c % 2 ^ 32 + 8) % 2 ^ LT_PC.PC.len ∧ (t.ltc c).wait = none ∧ (bits w 58 2 = 0 → t.fld LT_STAT.LATCH c = 0) ∧
    (t.ltc c).a n = (if 2 ≤ bits w 58 2 then ((s.dev.ltc c).a n + bits w 16 16) % 2 ^ 64 else (s.dev.ltc c).a n))) ∧
  (∀ (s : State) (c : Nat) (w : BitVec 64) (k : Nat), c < 32 → s.dev.ltState c = 2 → (s.dev.ltc c).wait = some k → s.dev.ltWord c = some w →
    bits w 0 16 ≠ 0 → k + 1000 * bits w 0 16 ≤ 2 * s.dev.tb.eclk → Completes (.ltWaitTimeout c) s (fun t => t.fld LT_STAT.LSTATE c = 2 ∧
    t.fld LT_PC.PC c = s.dev.fld LT_PC.PC c ∧ (t.ltc c).wait = some (2 * s.dev.tb.eclk) ∧ ∃ y ∈ t.sl.rises, y.src = 0x6C1 + 2 * c)) ∧
  (∀ (s : State) (c : Nat), c < 32 → (s.dev.ltc c).fence = true → ((s.dev.ltc c).hostDirty = none ∨ s.dev.ltLink c = true) →
    (s.dev.ltc c).berthDirty.any (fun z => s.dev.ltAccess c z.1 == .stall) = false → Completes (.ltFenceDone c) s (fun t =>
    t.fld LT_PC.PC c = put (s.dev.fld LT_PC.PC c) 0 32 (s.dev.fld LT_PC.PC c % 2 ^ 32 + 8) % 2 ^ LT_PC.PC.len ∧ (t.ltc c).fence = false ∧
    (t.ltc c).hostDirty = none ∧ (t.ltc c).berthDirty = [])) ∧
  (∀ (s : State) (c n k : Nat) (v : BitVec 64), c < 32 → (s.dev.ltState c = 1 ∨ s.dev.ltState c = 3) → (s.dev.ltc c).refetch = some n →
    ltTarget (s.dev.ltPc c) = .host k → ¬ (bits v 60 4 = 0 ∧ v.getLsbD 59 = true ∧ bits v 0 58 = 0) → Completes (.ltTailRefetch c (some v))
    s (fun t => t.fld LT_STAT.LSTATE c = 1 ∧ t.fld LT_PC.PC c = s.dev.fld LT_PC.PC c ∧ (t.ltc c).refetch = none)) ∧
  (∀ (s : State) (c n k : Nat) (v : BitVec 64), c < 32 → s.dev.ltState c = 3 → (s.dev.ltc c).refetch = some n → n = (s.dev.ltc c).pi →
    ltTarget (s.dev.ltPc c) = .host k → bits v 60 4 = 0 ∧ v.getLsbD 59 = true ∧ bits v 0 58 = 0 → Completes (.ltTailRefetch c (some v))
    s (fun t => t.fld LT_STAT.LSTATE c = 3 ∧ t.fld LT_PC.PC c = s.dev.fld LT_PC.PC c ∧ (t.ltc c).refetch = none)) ∧
  (∀ (s : State) (c n k : Nat), c < 32 → (s.dev.ltState c = 1 ∨ s.dev.ltState c = 3) → (s.dev.ltc c).refetch = some n → ltTarget (s.dev.ltPc c)
    = .host k → Completes (.ltTailRefetch c none) s (fun t => t.fld LT_STAT.LSTATE c = 6 ∧ (t.ltc c).refetch = none ∧ ∃ y ∈ t.sl.rises,
    y.src = 0x6C1 + 2 * c)) ∧
  (∀ (s : State) (c : Nat), c < 32 → s.dev.ltState c = 3 → s.dev.fld LT_CFG.TAIL_US c ≠ 0 →
    (s.dev.ltc c).tailAt + 1000 * s.dev.fld LT_CFG.TAIL_US c ≤ 2 * s.dev.tb.eclk → (s.dev.ltc c).refetch = none → Completes (.ltTailTimer c)
    s (fun t => t = s.dev.setLt c { (s.dev.ltc c) with tailAt := 2 * s.dev.tb.eclk, refetch := some (s.dev.ltc c).pi })) ∧
  (∀ (s : State) (c : Nat), c < 32 → s.dev.ltState c = 4 → s.dev.ltQuiet c = true → Completes (.ltPauseDrained c) s (fun t =>
    t.fld LT_STAT.LSTATE c = 5 ∧ t.fld LT_PC.PC c = s.dev.fld LT_PC.PC c ∧ (t.ltc c).pause = none ∧ (t.ltc c).areg = (s.dev.ltc c).areg)) ∧
  (∀ (s : State) (c k v : Nat) (m : LtMove), c < 32 → (s.dev.ltc c).wrHeld = some k → (s.dev.ltc c).move = some m → k + 1000 ≤ 2 * s.dev.tb.eclk →
    ltTarget m.pc = .host v → s.dev.ltLink c = true → Completes (.fifoTimeout c) s (fun t => (t.ltc c).move = none ∧ (t.ltc c).bursts = [] ∧
    (t.ltc c).hold = [] ∧ (t.ltc c).wrHeld = none ∧ (t.ltc c).rdHeld = none ∧ t.fld LT_CNT.ERR_CNT c = min (s.dev.fld LT_CNT.ERR_CNT c + 1)
    (2 ^ LT_CNT.ERR_CNT.len - 1) ∧ ∃ y ∈ t.sl.rises, y.src = 0x6C1 + 2 * c)) ∧
  (∀ (s : State) (c k v : Nat) (m : LtMove), c < 32 → (s.dev.ltc c).wrHeld = none → (s.dev.ltc c).rdHeld = some k → (s.dev.ltc c).move = some m →
    k + 1000 ≤ 2 * s.dev.tb.eclk → ltTarget m.pc = .host v → s.dev.ltLink c = true → Completes (.fifoTimeout c) s (fun t =>
    (t.ltc c).move = none ∧ (t.ltc c).bursts = [] ∧ (t.ltc c).hold = [] ∧ (t.ltc c).wrHeld = none ∧ (t.ltc c).rdHeld = none ∧
    t.fld LT_CNT.ERR_CNT c = min (s.dev.fld LT_CNT.ERR_CNT c + 1) (2 ^ LT_CNT.ERR_CNT.len - 1) ∧ ∃ y ∈ t.sl.rises, y.src = 0x6C1 + 2 * c))

/-- The dredger's rows (11 R371, R383 to R394). The model's readings: assumptions 15, 45. -/
def Obligations.BerthsAndDredgerAct : Prop :=
  (∀ (s : State), s.dev.flag DR_CFG.SCRUB_EN = true → s.dev.dr.scrubAt + s.dev.scrubPeriod ≤ s.dev.ecNs → s.dev.dr.bad = [] → s.dev.dr.soft = [] →
    Completes (.scrubTick []) s (fun t =>
    t.dr = { s.dev.dr with word := (s.dev.dr.word + 1) % 8192, sword := (s.dev.dr.sword + 1) % 8192, ces := if (s.dev.dr.word + 1) % 8192 = 0 then [] else s.dev.dr.ces, scrubAt := s.dev.ecNs }
    ∧ t.regs = s.dev.regs)) ∧
  (∀ (s : State) (b : Nat), s.dev.flag DR_CFG.SCRUB_EN = true → s.dev.dr.scrubAt + s.dev.scrubPeriod ≤ s.dev.ecNs → s.dev.dr.bad = [] →
    s.dev.dr.soft = [] → b < 32 → s.dev.bstate b = 0 → s.dev.dr.word < 8192 → Completes (.scrubTick [.berth b false]) s (fun t =>
    t.fld BH_ECC.CE_CNT b = min (s.dev.fld BH_ECC.CE_CNT b + 1) (2 ^ BH_ECC.CE_CNT.len - 1) ∧ t.fld BH_ECC.LAST_ROW b = s.dev.dr.word / 64 ∧
    t.dr.word = (s.dev.dr.word + 1) % 8192 ∧ t.dr.soft = [] ∧ t.dr.bad = [] ∧ t.mem = s.dev.mem)) ∧
  (∀ (s : State) (b : Nat), s.dev.flag DR_CFG.SCRUB_EN = true → s.dev.dr.scrubAt + s.dev.scrubPeriod ≤ s.dev.ecNs → s.dev.dr.bad = [] →
    s.dev.dr.soft = [] → b < 32 → s.dev.bstate b = 0 → s.dev.dr.word < 8192 → Completes (.scrubTick [.berth b true]) s (fun t =>
    t.fld BH_ECC.UE_CNT b = min (s.dev.fld BH_ECC.UE_CNT b + 1) (2 ^ BH_ECC.UE_CNT.len - 1) ∧ t.fld BH_ECC.LAST_ROW b = s.dev.dr.word / 64 ∧
    t.dr.bad = [b * 8192 + s.dev.dr.word])) ∧
  (∀ (s : State) (b : Nat), s.dev.loanable b = true → (∀ w ∈ s.dev.dr.bad, w / 64 ≠ b * 128 + get 0 s.dev.dr.chunk b) → Completes (.loanStart b [])
    s (fun t => t.fld BH_STAT.BSTATE b = 1 ∧ t.fld BH_OWNER.CUR_KIND b = 3 ∧ t.fld BH_OWNER.CUR_INDEX b = 0 ∧
    t.dr.loan = some { b := b, chunk := get 0 s.dev.dr.chunk b } ∧ t.fld DR_STAT.LOAN_ACTIVE = 1 ∧ t.mem = s.dev.mem)) ∧
  (∀ (s : State) (l : Loan), s.dev.dr.loan = some l → s.dev.dr.reloc = none → s.dev.dr.waits = [] → s.dev.flag BH_OWNER.PEND l.b = false →
    Completes (.loanReturnDone 0) s (fun t => t.fld BH_STAT.BSTATE l.b = 0 ∧ t.fld BH_OWNER.CUR_KIND l.b = s.dev.fld BH_OWNER.HOME_KIND l.b
    % 2 ^ BH_OWNER.CUR_KIND.len ∧ t.fld BH_OWNER.CUR_INDEX l.b = s.dev.fld BH_OWNER.HOME_INDEX l.b % 2 ^ BH_OWNER.CUR_INDEX.len ∧
    t.dr.loan = none ∧ t.fld DR_STAT.LOAN_ACTIVE = 0 ∧ (l.back = false → t.fld DR_PASS.CHUNKS = (s.dev.fld DR_PASS.CHUNKS + 1) % 2 ^ 32 ∧
    get 0 t.dr.chunk l.b = (l.chunk + 1) % 128) ∧ (l.back = true → t.dr.chunk = s.dev.dr.chunk))) ∧
  (∀ (s : State) (b : Nat) (k : Nat) (l : List Nat), s.dev.bstate b = 3 → s.dev.repairs b = k :: l → Completes (.rowRepairDone b) s (fun t =>
    t.fld BH_STAT.BSTATE b = (if l = [] then 0 else 3) ∧ t.fld BH_STAT.SPARE_ROWS b = (s.dev.fld BH_STAT.SPARE_ROWS b - 1)
    % 2 ^ BH_STAT.SPARE_ROWS.len ∧ t.dr.repair = set [] s.dev.dr.repair b l ∧ t.mem = s.dev.mem)) ∧
  (∀ (s : State) (b k : Nat), s.dev.dr.reloc = some (b, k) → s.dev.dr.relocs = [] → s.dev.bstate b = 4 → b ≠ k → k < 32 →
    Completes .relocDone s (fun t => t.fld BH_STAT.BANK b = s.dev.fld BH_STAT.BANK k % 2 ^ BH_STAT.BANK.len ∧ t.fld BH_STAT.SPARE_ROWS b = 4 ∧
    t.fld BH_STAT.BSTATE b = 0 ∧ t.fld BH_STAT.BSTATE k = 6 ∧ t.fbit BH_SPARE.SPARE 0 k = false ∧ t.dr.reloc = none ∧
    t.fld DR_STAT.RELOCATING = 0 ∧ t.mem = s.dev.mem)) ∧
  (∀ (s : State), s.dev.dr.again = true → s.dev.dr.reloc = none → Completes .selfTestPassDone s (fun t => t.dr.again = false ∧ 6 ∉ t.sys.causes)) ∧
  (∀ (s : State), s.dev.dr.zeroing = true → Completes .berthZeroDone s (fun t => (∀ a, t.peek a = if a < 0x100000 then 0 else s.dev.peek a) ∧
    t.dr.zeroing = false ∧ ∀ w ∈ t.dr.bad, w ∈ s.dev.dr.bad ∧ 16 * 8192 ≤ w))

/-- Links, frames and time transfer (12 R401, R404, R407, R409, R412, R414). The model's readings: assumptions 55, 56. -/
def Obligations.CausewayLinksCarryFrames : Prop :=
  (∀ (s : State) (p : Nat), p < 4 → s.dev.flag CW_PCFG.EN p = true → s.dev.fld CW_PSTAT.LSTATE p = 0 → Completes (.portLinkEvent p .locked)
    s (fun t => t.fld CW_PSTAT.LSTATE p = 1 ∧ ∃ z ∈ t.sl.rises, z.src = 0x780 + 8 * p)) ∧
  (∀ (s : State) (p : Nat) (e : LaneEvent), p < 4 → s.dev.flag CW_PCFG.EN p = true → s.dev.fld CW_PSTAT.LSTATE p ≠ 0 → e ≠ .locked →
    Completes (.portLinkEvent p e) s (fun t => t.fld CW_PSTAT.LSTATE p = 0 ∧ (t.cwp p).tx = [] ∧ (t.cwp p).syncAt = none ∧ ∃ z ∈ t.sl.rises,
    z.src = 0x780 + 8 * p)) ∧
  (∀ (s : State) (p : Nat), p < 4 → s.dev.fld CW_PSTAT.LSTATE p = 1 → (s.dev.cwp p).alignAt + 1000 ≤ s.dev.elNs → Completes (.portUpTimer p)
    s (fun t => t.fld CW_PSTAT.LSTATE p = 2 ∧ ∃ z ∈ t.sl.rises, z.src = 0x780 + 8 * p)) ∧
  (∀ (s : State) (p : Nat) (f : Frame), p < 4 → s.dev.cwUp p = true → nextFrame (s.dev.cwp p).tx = some f → (s.dev.cwp p).free s.dev.elNs = true →
    Completes (.frameTx p) s (fun t =>
    t = s.dev.setCwp p { (s.dev.cwp p) with tx := (s.dev.cwp p).tx.erase f, wire := some (s.dev.stamped f), wireEnd := 10 * s.dev.elNs + frameTime f.typ, recAt := if f.typ = 0x0C then ins (cut f.body 0 16) s.dev.elNs (s.dev.cwp p).recAt else (s.dev.cwp p).recAt, dreqAt := if f.typ = 2 then some s.dev.t16 else (s.dev.cwp p).dreqAt })) ∧
  (∀ (s : State) (p : Nat), p < 4 → s.dev.cwUp p = true → Completes (.frameDiscard p) s (fun t =>
    t.fld CW_PCNT.CRC_ERR p = min (s.dev.fld CW_PCNT.CRC_ERR p + 1) (2 ^ CW_PCNT.CRC_ERR.len - 1) ∧ ∃ z ∈ t.sl.rises, z.src = 0x782 + 8 * p ∧
    t.cw = s.dev.cw)) ∧
  (∀ (s : State) (p : Nat), p < 4 → s.dev.cwUp p = true → s.dev.cwRefused p = false → s.dev.cwOn = true → s.dev.upPort ≠ some p →
    s.dev.cwDue 0 125000 = true → Completes .syncSend s (fun t =>
    (t.cwp p).tx = (s.dev.cwp p).tx ++ [{ typ := 1, from_ := s.dev.did, body := s.dev.syncBody }])) ∧
  (∀ (s : State) (p : Nat), p < 4 → s.dev.cwUp p = true → s.dev.cwDue (4 + p) 1000000 = true → Completes (.dreqSend p) s (fun t =>
    (t.cwp p).tx = (s.dev.cwp p).tx ++ [{ typ := 2, from_ := s.dev.did, body := ((s.dev.cwp p).dreqSeq + 1) % 65536 }] ∧
    (t.cwp p).dreqSeq = ((s.dev.cwp p).dreqSeq + 1) % 65536 ∧ (t.cwp p).dreqAt = none)) ∧
  (∀ (s : State) (p : Nat) (q : BitVec 16) (k : Nat), p < 4 → s.dev.cwUp p = true → Completes (.rxDreq p q k) s (fun t =>
    (t.cwp p).tx = (s.dev.cwp p).tx ++ [{ typ := 3, from_ := s.dev.did, body := pack [byt 0 2 q.toNat, (16, 80, k)] }])) ∧
  (∀ (s : State) (p : Nat) (b : BitVec 192) (k n : Nat), p < 4 → s.dev.cwUp p = true → (s.dev.cwp p).dreqAt = some n →
    bits b 0 16 = (s.dev.cwp p).dreqSeq → (s.dev.cwp p).delays.length < 8 →
    let x := ((Int.ofNat k - n) - ((bits b 96 80 : Int) - bits b 16 80)).tdiv 2
    Completes (.rxDresp p b k) s (fun t => (t.cwp p).delays = x :: (s.dev.cwp p).delays ∧ (t.cwp p).dreqAt = none ∧ (t.cwp p).rejRun = 0 ∧
    t.fld CW_PDELAY.D p = ((meanOf (x :: (s.dev.cwp p).delays)).toNat * 1000 + 32768) / 65536 % 2 ^ CW_PDELAY.D.len)) ∧
  (∀ (s : State) (p : Nat) (b : BitVec 192) (k n : Nat), p < 4 → s.dev.cwUp p = true → (s.dev.cwp p).dreqAt = some n →
    bits b 0 16 = (s.dev.cwp p).dreqSeq → 8 ≤ (s.dev.cwp p).delays.length → (s.dev.cwp p).rejRun < 7 → 131072 < (((Int.ofNat k - n)
    - ((bits b 96 80 : Int) - bits b 16 80)).tdiv 2 - meanOf (s.dev.cwp p).delays).natAbs → Completes (.rxDresp p b k) s (fun t =>
    (t.cwp p).delays = (s.dev.cwp p).delays ∧ (t.cwp p).rejRun = (s.dev.cwp p).rejRun + 1 ∧
    t.fld CW_PDELAY.REJ p = min (s.dev.fld CW_PDELAY.REJ p + 1) (2 ^ CW_PDELAY.REJ.len - 1))) ∧
  (∀ (s : State) (p : Nat) (f : BitVec 10) (b : BitVec 384) (k : Nat), p < 4 → s.dev.cwUp p = true → s.dev.cwRefused p = false →
    f.toNat ≠ s.dev.did → s.dev.did ≠ 0 →
    let v := syncOf f.toNat b.toNat
    Completes (.rxSync p f b k) s (fun t => (t.cwp p).sync = v ∧ (t.cwp p).syncAt = some s.dev.elNs ∧ t.fld CW_PSTAT.NB_DID p = f.toNat ∧
    t.fld CW_PSTAT.NB_MASTER p = v.master ∧ t.fld CW_PSTAT.NB_HOPS p = (if v.nopath then 15 else v.hops) % 16 ∧
    t.fld CW_PSTAT.NB_STEADY p = v.steady.toNat)) ∧
  (∀ (s : State) (p : Nat) (f : BitVec 10) (b : BitVec 384) (k : Nat), p < 4 → s.dev.cwUp p = true → s.dev.cwRefused p = false →
    f.toNat = s.dev.did → Completes (.rxSync p f b k) s (fun t => t.fld CW_PSTAT.ROLE p = 3 ∧ ∃ z ∈ t.sl.rises, z.src = 0x783 + 8 * p))

/-- The tree (12 R408, R411 to R413, R416, R417, R419 to R423). The model's readings: assumptions 55, 56. -/
def Obligations.CausewayTreeFollowsItsMaster : Prop :=
  (∀ (s : State), s.dev.cwRole = 3 → s.dev.cw.offs ≠ [] → s.dev.cwDue 2 1000000 = true → Completes .servoInterval s (fun t => t.cw.offs = [] ∧
    t.cw.seen = 0 ∧ t.cw.prev = meanOf s.dev.cw.offs ∧ t.fld CW_OFFSET.OFFSET = ofS 48 (meanOf s.dev.cw.offs) % 2 ^ 48)) ∧
  (∀ (s : State), s.dev.cwRole = 3 → s.dev.cw.offs ≠ [] → s.dev.dsrcCauseway = true → 6 ≤ s.dev.cw.offs.length →
    s.dev.cw.moved ≠ some s.dev.tb.eclk → s.dev.cwDue 2 1000000 = true → Completes .servoInterval s (fun t =>
    t = { (((({ s.dev with cw := { s.dev.cw with offs := [], seen := 0 } } : Dev).cwSent 2).servo (meanOf s.dev.cw.offs)).servoRequest (meanOf s.dev.cw.offs)) with mem := s.dev.mem, fuse := s.dev.fuse })) ∧
  (∀ (s : State), s.dev.cwRole = 3 → s.dev.cw.offs = [] → s.dev.cw.seen = 0 → s.dev.cwDue 2 1000000 = true → Completes .servoInterval s (fun t =>
    t = ({ s.dev with cw := { s.dev.cw with goodRun := 0 } } : Dev).cwSent 2)) ∧
  (∀ (s : State) (p : Nat), s.dev.upPort = some p → s.dev.cwRole = 3 → s.dev.syncEnd p ≤ s.dev.elNs →
    let y := (s.dev.noteZero.setFld CW_PSTAT.USABLE 0 p).setCwp p { (s.dev.cwp p) with syncAt := none }
    y.noteUsable.portRoles.ranked = [] → Completes .parentLossTimeout s (fun t => t.fld CW_TSTAT.ROLE = 4 ∧ t.fld CW_TSTAT.UPPORT = 7 ∧
    t.fld CW_TSTAT.HOPS = 15 ∧ t.fld CW_TSTAT.MASTER_DID = s.dev.fld CW_TSTAT.MASTER_DID % 2 ^ CW_TSTAT.MASTER_DID.len ∧ ∃ z ∈ t.sl.rises,
    z.src = 0x7A1)) ∧
  (∀ (s : State), s.dev.masterLost = true → Completes .masterLossTimeout s (fun t => t.fld CW_TSTAT.ROLE = 2 ∧ t.fld CW_TSTAT.UPPORT = 7 ∧
    t.fld CW_TSTAT.HOPS = 0 ∧ t.fld CW_TSTAT.MASTER_DID = 1 ∧ t.cw.held = [])) ∧
  (∀ (s : State) (p : Nat), p < 4 → s.dev.candidateDue p = true → Completes (.candidateTimer p) s (fun t => t.fld CW_TSTAT.ROLE = 3 ∧
    t.fld CW_TSTAT.UPPORT = p ∧ t.fld CW_TSTAT.HOPS = (s.dev.cwp p).sync.hops + 1 ∧
    t.fld CW_TSTAT.MASTER_DID = (s.dev.cwp p).sync.master % 2 ^ CW_TSTAT.MASTER_DID.len ∧ t.fld CW_PSTAT.ROLE p = 1 ∧ ∃ z ∈ t.sl.rises,
    z.src = 0x7A0)) ∧
  (∀ (s : State) (p : Nat), s.dev.cwRole = 3 → s.dev.upPort = some p → s.dev.cwDue 1 10000000 = true → s.dev.cwUp p = true →
    s.dev.cwRefused p = false → Completes .routeSend s (fun t =>
    (t.cwp p).tx = (s.dev.cwp p).tx ++ [{ typ := 8, from_ := s.dev.did, body := ((upto 4).filter s.dev.isDown).foldl (fun a q => a ||| s.dev.routeBits q) (2 ^ s.dev.did) }])) ∧
  (∀ (s : State) (p : Nat) (f : BitVec 10) (b : BitVec 1024), p < 4 → s.dev.cwUp p = true → s.dev.cwRefused p = false → f.toNat ≠ s.dev.did →
    s.dev.upPort ≠ some p → bit b.toNat s.dev.did = false → b ≠ 0 → Completes (.rxRoute p f b) s (fun t => (t.cwp p).route = b.toNat ∧
    t.fld CW_PSTAT.ROLE p = 2 ∧ (s.dev.elNs, b.toNat) ∈ (t.cwp p).routes)) ∧
  (∀ (s : State) (p : Nat) (f : BitVec 10) (b : BitVec 1024), p < 4 → s.dev.cwUp p = true → s.dev.cwRefused p = false → f.toNat ≠ s.dev.did →
    s.dev.upPort ≠ some p → bit b.toNat s.dev.did = true → Completes (.rxRoute p f b) s (fun t => t.fld CW_PSTAT.ROLE p = 3 ∧ ∃ z ∈ t.sl.rises,
    z.src = 0x783 + 8 * p)) ∧
  (∀ (s : State) (p : Nat) (k : BitVec 10), p < 4 → Completes (.routeExpire p k) s (fun t => (∀ e ∈ (t.cwp p).routes, e.1 + 30000000 ≤ s.dev.elNs →
    bit e.2 k.toNat = false) ∧ ((∀ e ∈ (s.dev.cwp p).routes, e.1 + 30000000 ≤ s.dev.elNs) → bit (t.cwp p).route k.toNat = false)))

/-- Publishing and forwarding (12 R425 to R428, R433 to R435). The model's readings: assumptions 57, 58. -/
def Obligations.CausewayPublishesAndForwards : Prop :=
  (∀ (s : State) (k : Nat), k < 4 → s.dev.cwOn = true → s.dev.operate = true → s.dev.flag CW_PUB.EN k = true → s.dev.axType (s.dev.fld CW_PUB.AXIS k)
    ≠ 6 → get none s.dev.cw.timers (8 + k) ≠ some (s.dev.ns / 1000) →
    let y := ({ s.dev with cw := { s.dev.cw with timers := set none s.dev.cw.timers (8 + k) (some (s.dev.ns / 1000)) } } : Dev)
    Completes (.snapSend k) s (fun t =>
    t = y.cwCast s.dev.did k 4 { typ := 5, from_ := s.dev.did, body := s.dev.snapBody k (s.dev.fld CW_PUB.AXIS k) })) ∧
  (∀ (s : State) (n p : Nat), 0 < n ∧ n < 16 → s.dev.axOn n = true → s.dev.axType n = 5 → s.dev.cwDue (16 + n) 10000000 = true → s.dev.cwOn = true →
    let q := s.dev.fld AX_CFG.SRC n
    q / 4 ≠ s.dev.did → s.dev.cwRoute (q / 4) = some p → s.dev.cwUp p = true → s.dev.cwRefused p = false → Completes (.subscribeSend n) s (fun t =>
    (t.cwp p).tx = (s.dev.cwp p).tx ++ [{ typ := 6, from_ := s.dev.did, dst := some (q / 4), body := pack [(0, 10, q / 4), (10, 2, q % 4), (16, 10, s.dev.did)] }])) ∧
  (∀ (s : State) (p : Nat) (b : BitVec 32), p < 4 → s.dev.cwUp p = true → s.dev.cwRefused p = false → s.dev.subRefusal p (bits b 0 10) (bits b 10 2)
    = none → bits b 0 10 = s.dev.did → Completes (.rxSubscribe p b) s (fun t => t = s.dev.addSub p (bits b 0 10) (bits b 10 2) ∧
    p ∈ t.subPorts (bits b 0 10) (bits b 10 2))) ∧
  (∀ (s : State) (p q : Nat) (b : BitVec 32), p < 4 → s.dev.cwUp p = true → s.dev.cwRefused p = false → s.dev.subRefusal p (bits b 0 10)
    (bits b 10 2) = none → bits b 0 10 ≠ s.dev.did → s.dev.cwRoute (bits b 0 10) = some q → s.dev.cwUp q = true → s.dev.cwRefused q = false →
    Completes (.rxSubscribe p b) s (fun t => p ∈ t.subPorts (bits b 0 10) (bits b 10 2) ∧
    { typ := 6, from_ := bits b 16 10, dst := some (bits b 0 10), body := b.toNat } ∈ (t.cwp q).tx)) ∧
  (∀ (s : State) (p k : Nat) (b : BitVec 32), p < 4 → s.dev.cwUp p = true → s.dev.cwRefused p = false → s.dev.subRefusal p (bits b 0 10)
    (bits b 10 2) = some k → Completes (.rxSubscribe p b) s (fun t => t = s.dev.sendSubnak k b.toNat ∧ t.cw.subs = s.dev.cw.subs)) ∧
  (∀ (s : State) (p : Nat) (k : BitVec 10) (b : BitVec 64), p < 4 → s.dev.cwUp p = true → s.dev.cwRefused p = false → k.toNat = s.dev.did →
    Completes (.rxSubnak p k b) s (fun t => t = s.dev.subnakHere (bits b 0 8) (bits b 8 10) (bits b 32 32) ∧ ∃ z ∈ t.sl.rises, z.src = 0x7A4)) ∧
  (∀ (s : State) (p q : Nat) (k : BitVec 10) (b : BitVec 64), p < 4 → s.dev.cwUp p = true → s.dev.cwRefused p = false → k.toNat ≠ s.dev.did →
    s.dev.cwRoute k.toNat = some q → s.dev.cwUp q = true → s.dev.cwRefused q = false → Completes (.rxSubnak p k b) s (fun t =>
    (t.cwp q).tx = (s.dev.cwp q).tx ++ [{ typ := 7, from_ := bits b 8 10, dst := some k.toNat, body := b.toNat }])) ∧
  (∀ (s : State) (i p : Nat) (x : Sub), s.dev.cw.subs[i]? = some x → x.ports.any (fun e => e.1 == p && decide (e.2 + 30000000 ≤ s.dev.elNs)) = true →
    Completes (.subBitExpire i p) s (fun t => t.cw.subs = (if del p x.ports = [] then s.dev.cw.subs.eraseIdx i else
    s.dev.cw.subs.set i { x with ports := del p x.ports }) ∧ t.cw.ports = s.dev.cw.ports)) ∧
  (∀ (s : State) (p : Nat) (f : BitVec 10) (b : BitVec 256), p < 4 → s.dev.cwUp p = true → s.dev.cwRefused p = false → bits b 0 8 < 4 →
    let k := bits b 0 8
    Completes (.rxSnap p f b) s (fun t =>
    t = { ((s.dev.remoteAxes f.toNat k).foldl (fun e n => e.snapIn n b.toNat) (s.dev.cwCast f.toNat k p { typ := 5, from_ := f.toNat, body := b.toNat })) with tb := s.dev.tb, mem := s.dev.mem, fuse := s.dev.fuse })) ∧
  (∀ (s : State) (p : Nat) (f : BitVec 10) (b : BitVec 448), p < 4 → s.dev.cwUp p = true → s.dev.cwRefused p = false → bits b 0 8 < 4 →
    let k := bits b 0 8
    Completes (.rxTooth p f b) s (fun t =>
    t = { ((s.dev.remoteAxes f.toNat k).foldl (fun e n => e.toothIn n b.toNat) (s.dev.cwCast f.toNat k p { typ := 4, from_ := f.toNat, body := b.toNat })) with tb := s.dev.tb, mem := s.dev.mem, fuse := s.dev.fuse })) ∧
  (∀ (s : State) (p : Nat) (b : BitVec 320), p < 4 → s.dev.cwUp p = true → s.dev.cwRefused p = false → s.dev.cwOn = true →
    bits b 0 16 = (s.dev.cwp p).rxSeq → Completes (.rxRec p b) s (fun t => (t.cwp p).rxSeq = ((s.dev.cwp p).rxSeq + 1) % 65536 ∧
    { typ := 0x0B, from_ := s.dev.did, body := (((s.dev.cwp p).rxSeq + 1) % 65536 + 65535) % 65536 } ∈ (t.cwp p).tx ∧ (s.dev.cwRole = 1 →
    bits b 16 16 = get 0 s.dev.cw.expect (bits b 112 10) → get 0 t.cw.expect (bits b 112 10) = (bits b 16 16 + 1) % 65536 ∧ ∃ z ∈ t.sl.rises,
    z.src = 0x800 + bits b 32 11))) ∧
  (∀ (s : State) (p : Nat) (b : BitVec 320), p < 4 → s.dev.cwUp p = true → s.dev.cwRefused p = false → s.dev.cwOn = true →
    bits b 0 16 ≠ (s.dev.cwp p).rxSeq → Completes (.rxRec p b) s (fun t => (t.cwp p).rxSeq = (s.dev.cwp p).rxSeq ∧
    (t.cwp p).tx = (s.dev.cwp p).tx ++ [{ typ := 0x0B, from_ := s.dev.did, body := ((s.dev.cwp p).rxSeq + 65535) % 65536 }] ∧ t.sl = s.dev.sl)) ∧
  (∀ (s : State) (p : Nat) (q : BitVec 16), p < 4 → s.dev.cwUp p = true →
    let l := (s.dev.cwp p).recs.filter (fun e => 32768 ≤ (q.toNat + 65536 - e.1) % 65536)
    Completes (.rxAck p q) s (fun t =>
    t = s.dev.setCwp p { (s.dev.cwp p) with recs := l, recAt := (s.dev.cwp p).recAt.filter (fun e => l.any (fun f => f.1 == e.1)) })) ∧
  (∀ (s : State) (p : Nat) (e : Nat × Nat), p < 4 → s.dev.cwUp p = true → s.dev.cwRefused p = false → (s.dev.cwp p).recs.find? (fun y =>
    (s.dev.cwp p).unacked s.dev.elNs y) = some e → Completes (.recRetransmit p) s (fun t =>
    (t.cwp p).tx = (s.dev.cwp p).tx ++ [{ typ := 0x0C, from_ := s.dev.did, body := e.2 }] ∧
    t.fld CW_PCNT.RETX p = min (s.dev.fld CW_PCNT.RETX p + 1) (2 ^ CW_PCNT.RETX.len - 1))) ∧
  (∀ (s : State) (o : BitVec 10) (e : Nat × Nat) (r : List (Nat × Nat)), get [] s.dev.cw.gaps o.toNat = e :: r → s.dev.cwMaster = true →
    e.2 + 100000000 ≤ s.dev.elNs → Completes (.gapTimeout o) s (fun t => get [] t.cw.gaps o.toNat = (e :: r).filter (fun x => x.2 != e.2) ∧
    t.fld CW_FCNT.GAPS 0 = min (s.dev.fld CW_FCNT.GAPS 0 + 1) (2 ^ CW_FCNT.GAPS.len - 1) ∧ ∃ z ∈ t.sl.rises, z.src = 0x7A8))

/-- The tally (12 R437 to R441). The model's readings: assumptions 59, 60. -/
def Obligations.TalliesCompareConfigurations : Prop :=
  (∀ (s : State), s.dev.cwMaster = true → s.dev.cw.nextSet = [] → s.dev.cwDue 3 (1000000 * s.dev.fld CW_TALLY.PERIOD_MS) = true →
    Completes .tallyRoundStart s (fun t => t.fld CW_TROUND.ROUND = (s.dev.fld CW_TROUND.ROUND + 1) % 2 ^ 32 ∧ t.cw.devices = 0 ∧
    t.cw.groups = [] ∧ t.cw.reported = false ∧ t.cw.roundAt = s.dev.elNs ∧ ∀ c, c < 16 → s.dev.flag CW_TEXP.SET c = true →
    bit t.cw.compared c = true)) ∧
  (∀ (s : State) (p : Nat) (c : Nat) (b : BitVec 160), p < 4 → s.dev.cwUp p = true → s.dev.cwRole = 3 → s.dev.upPort = some p → c = bits b 0 8 →
    c < 16 → Completes (.rxTally p b) s (fun t => t.fld CW_TEXP.EPOCH c = bits b 64 32 ∧ t.fld CW_TEXP.SET c = 1 ∧
    t.fld CW_TEXP.DIGEST c = bits b 96 64 ∧ bit t.cw.compared c = true ∧ t.fld CW_TLOCAL.RESULT c = (if s.dev.fld CW_TLOCAL.EPOCH c = bits
    b 64 32 ∧ s.dev.fld CW_TLOCAL.DIGEST c = bits b 96 64 then 1 else if s.dev.fld CW_TLOCAL.EPOCH c < bits b 64 32 then 2 else 3))) ∧
  (∀ (s : State) (p c : Nat) (b : BitVec 1088), p < 4 → s.dev.cwUp p = true → s.dev.cwRefused p = false → c < 16 → s.dev.upPort ≠ some p →
    bits b 0 32 = s.dev.fld CW_TROUND.ROUND → s.dev.cw.reported = false → Completes (.rxTreport p b) s (fun t =>
    t.cw.devices = min (s.dev.cw.devices + bits b 32 16) 0xFFFF ∧
    get {} t.cw.groups c = { stale := min ((get {} s.dev.cw.groups c).stale + bits b (64 + 64 * c) 16) 0xFFFF, mism := min ((get {} s.dev.cw.groups c).mism + bits b (80 + 64 * c) 16) 0xFFFF, lowStale := min (get {} s.dev.cw.groups c).lowStale (bits b (96 + 64 * c) 16), lowMism := min (get {} s.dev.cw.groups c).lowMism (bits b (112 + 64 * c) 16) })) ∧
  (∀ (s : State) (p : Nat), s.dev.upPort = some p → s.dev.cwUp p = true → s.dev.cwRefused p = false → s.dev.cwRole = 3 → s.dev.cw.reported = false →
    s.dev.cw.roundAt + (10 - s.dev.fld CW_TSTAT.HOPS) * 50000 ≤ s.dev.elNs → Completes .treportWindow s (fun t => t.cw.reported = true ∧
    (t.cwp p).tx = (s.dev.cwp p).tx ++ [{ typ := 0x0A, from_ := s.dev.did, body := s.dev.addOwn.reportBody }] ∧
    t.cw.devices = min (s.dev.cw.devices + 1) 0xFFFF)) ∧
  (∀ (s : State) (c : Nat), c < 16 → s.dev.cwMaster = true → s.dev.cw.reported = false → s.dev.cw.roundAt + 500000 ≤ s.dev.elNs →
    let g := get {} s.dev.addOwn.cw.groups c
    Completes .tallyRoundClose s (fun t => t.cw.reported = true ∧ t.fld CW_TREPORT.REPORTING = min (min (s.dev.cw.devices + 1) 0xFFFF) 2047 ∧
    t.fld CW_TRES.STALE_CNT c = g.stale % 65536 ∧ t.fld CW_TRES.MISMATCH_CNT c = g.mism % 65536 ∧ t.fld CW_TRES.LOW_STALE c = g.lowStale % 65536 ∧
    t.fld CW_TRES.LOW_MISMATCH c = g.lowMism % 65536)) ∧
  (∀ (s : State) (c : Nat), c ≤ 4 → (c ≠ 0 ∨ s.dev.sealed = false) → Completes (.digestRecompute c) s (fun t =>
    t.fld CW_TLOCAL.DIGEST c = bits (sha256 (s.dev.classBytes c)) 0 64))

/-- The rows of the harbour log (14 R471, R474 to R477, R479 to R481, R486, R487, R491 to R493). The model's readings: assumptions 6, 61, 62. -/
def Obligations.LogRecordsAreQueuedAndWritten : Prop :=
  (∀ (s : State) (x : Trigger) (r : List Trigger), s.dev.lg.sampler = x :: r → s.dev.sampleLeft x = [] → s.dev.lgFailed = false →
    let n := max 1 (ceilDiv (40 + (s.dev.sampling x).off) 64)
    s.dev.lg.queued < 16384 → s.dev.lg.queued + 64 * n ≤ 32768 → Completes .snapshotSampled s (fun t => t.lg.sampler = r ∧ ∃ q,
    t.lg.queue = s.dev.lg.queue ++ [q] ∧ q.cls = 3 ∧ q.ltype = 1 ∧ q.units = n)) ∧
  (∀ (s : State) (x : Trigger) (r : List Trigger), s.dev.lg.sampler = x :: r → s.dev.sampleLeft x = [] → 16384 ≤ s.dev.lg.queued →
    Completes .snapshotSampled s (fun t => t.lg.sampler = r ∧ t.lg.queue = s.dev.lg.queue ∧
    t.fld HL_CNT.DROPPED 0 = min (s.dev.fld HL_CNT.DROPPED 0 + 1) (2 ^ HL_CNT.DROPPED.len - 1))) ∧
  (∀ (s : State), s.dev.sealed = true → s.dev.lg.pack ≠ [] → s.dev.windowEnds = true → s.dev.lgFailed = false →
    let n := ceilDiv (40 + 32 * s.dev.lg.window.length) 64
    s.dev.lg.queued + 64 * n ≤ 32768 → Completes .itemsPackClose s (fun t => t.lg.pack = s.dev.lg.pack.drop s.dev.lg.window.length ∧ ∃ q,
    t.lg.queue = s.dev.lg.queue ++ [q] ∧ q.cls = 2 ∧ q.ltype = 2 ∧ q.units = n)) ∧
  (∀ (s : State) (r : LogRec), s.dev.lg.writing = none → s.dev.lg.next = some r → s.dev.lgFailed = false → s.dev.flag HL_CFG.OVERWRITE = false →
    r.units + 1 ≤ s.dev.lgFree → (r.cls ≠ 3 ∨ s.dev.lgState ≠ 1) → Completes (.logRecordStart 0) s (fun t => t.lg.queue = s.dev.lg.queue.erase r ∧
    t.lg.writing = some { item := { r with img := put (put r.img 9 1 s.dev.lg.closing.toNat) 176 16 (min s.dev.lg.dropped 0xFFFF) }, seq := (s.dev.lgLast + 1) % 2 ^ 32, units := goodUnits s.dev.lg.bad s.dev.lgTail r.units, done := s.dev.elNs + 320 * r.units }
    ∧ t.lg.dropped = 0)) ∧
  (∀ (s : State) (w : LogWrite), s.dev.lg.writing = some w → w.done ≤ s.dev.elNs → w.item.act = .nothing → Completes .logRecordDurable s (fun t =>
    t.lg.writing = none ∧ t.fld HL_SEQ.LAST_SEQ = w.seq % 2 ^ 32 ∧ t.fld HL_PTR.TAIL = goodFrom s.dev.lg.bad ((w.units.getLastD 0 + 1)
    % ringUnits) % 2 ^ HL_PTR.TAIL.len ∧ ∃ z ∈ t.sl.rises, z.src = 0x7E2)) ∧
  (∀ (s : State) (w : LogWrite), s.dev.lg.writing = some w → w.done ≤ s.dev.elNs → w.item.act ≠ .nothing → Completes .logRecordDurable s (fun t =>
    t = { (s.dev.recMark.logAct w.item.act (some w.seq)) with mem := s.dev.mem, fuse := s.dev.fuse })) ∧
  (∀ (s : State), s.dev.lg.keelBusy = true → s.dev.lg.keelDone ≤ s.dev.elNs → s.dev.lg.keelActs = [] → s.dev.lg.keelNew = [] →
    Completes .keelWriteDone s (fun t => t.lg.keelBusy = false ∧ t.lg.keelGen = (s.dev.lg.keelGen + 1) % 2 ^ 32 ∧ t.lg.keel = s.dev.lg.keel ∧
    (s.dev.lg.keel ≠ [] → t.fld HL_STAT.LOGFAIL = 1) ∧ ∃ z ∈ t.sl.rises, z.src = 0x7E1)) ∧
  (∀ (s : State), s.dev.flag HL_STAT.LOCKOUT = true → s.dev.lg.lockUntil ≤ s.dev.elNs → Completes .lockoutEnd s (fun t =>
    t = s.dev.setFld HL_STAT.LOCKOUT 0)) ∧
  (∀ (s : State) (c : Challenge), s.dev.lg.challenge = some c → c.at_ + max 1 (s.dev.fld HL_CFG.CHAL_S) * 1000000000 < s.dev.elNs →
    Completes .challengeExpire s (fun t => t.lg = { s.dev.lg with challenge := none } ∧ t.fld HL_STAT.CHALLENGE = 0))

/-- The boot ROM (15 R506 to R508, R510, R512, R517, R531, R532), with a sound repair map (RepairMapStaysSound). The model's readings: assumptions 7,
32. -/
def Obligations.BootRomLoadsAndTriesItsSources : Prop :=
  (∀ (s : State), s.dev.sys.powered = true → s.dev.sys.resetLow = false → s.dev.boot.loaded = false → s.dev.mapSound →
    Completes .bootRomStart s (fun t => t.boot.loaded = true ∧ t.mem = [] ∧ t.fld CK_STAT.LOCKED = 1 ∧
    t.fld AX0_STATUS.STATE = (if s.dev.flag VG_STAT.VALID then 0 else 3) ∧ (∀ a ∈ [t.tb.a0, t.tb.a1, t.tb.a2],
    a = { val := BitVec.ofNat 112 (if s.dev.flag VG_STAT.VALID = false ∧ s.dev.fld SYS_RSTCAUSE.CAUSE = 0 then 0 else s.dev.vg.now) }))) ∧
  (∀ (s : State), s.dev.sys.powered = true → (s.dev.fld SYS_BOOT.STAGE = 1 ∨ s.dev.fld SYS_BOOT.STAGE = 2) → s.dev.boot.sources = [] →
    s.dev.mapSound → Completes (.bootFetchDone .noSfdp) s (fun t => t.fld SYS_BOOT.LAST_ERR = 1 ∧ t.fld SYS_BOOT.ERR_OP = 0 ∧
    t.fld SYS_RSTCAUSE.CAUSE = 4 ∧ t.fld SYS_BOOT.STAGE = 0xF ∧ t.fld SYS_RSTCAUSE.ATTEMPTS 0 = min (s.dev.fld SYS_RSTCAUSE.ATTEMPTS 0 + 1)
    (2 ^ SYS_RSTCAUSE.ATTEMPTS.len - 1))) ∧
  (∀ (s : State) (b : List (BitVec 8)), s.dev.sys.powered = true → (s.dev.fld SYS_BOOT.STAGE = 1 ∨ s.dev.fld SYS_BOOT.STAGE = 2 ∨
    s.dev.fld SYS_BOOT.STAGE = 4) → 0 < bootCodeLen b → bootOpBad b (bootOpAt b 0) = false → s.dev.mapSound →
    let e := (s.dev.count SYS_RSTCAUSE.ATTEMPTS).imageError b
    Completes (.bootFetchDone (.image b)) s (fun t => (e = 0 → t.fld SYS_BOOT.STAGE = 6 ∧ t.boot.image = b ∧ t.boot.op = 0) ∧ (e ≠ 0 →
    t.fld SYS_BOOT.LAST_ERR = e ∧ t.fld SYS_BOOT.ERR_OP = 0 ∧ t.fld SYS_RSTCAUSE.CAUSE = 4) ∧
    t.fld SYS_RSTCAUSE.ATTEMPTS 0 = min (s.dev.fld SYS_RSTCAUSE.ATTEMPTS 0 + 1) (2 ^ SYS_RSTCAUSE.ATTEMPTS.len - 1)))

/-- The sources of the boot ROM in order (15 R507, R517), with a sound repair map (RepairMapStaysSound). -/
def Obligations.BootSourcesAreTriedInOrder : Prop :=
  (∀ (s : State), s.dev.sys.powered = true → s.dev.sys.resetLow = false → s.dev.boot.loaded = false → s.dev.mapSound →
    Completes .bootRomStart s (fun t => ∃ n, n < 4 ∧ t.fld SYS_BOOT.BOOTSEL = n ∧ ∃ x l, x :: l = [[0, 1, 2], [2], [0, 1], [1, 0, 2]].getD n [] ∧
    t.fld SYS_BOOT.SOURCE = x ∧ t.fld SYS_BOOT.STAGE = x + 1 ∧ t.boot.sources = l)) ∧
  (∀ (s : State) (n : Nat) (l : List Nat), s.dev.sys.powered = true → (s.dev.fld SYS_BOOT.STAGE = 1 ∨ s.dev.fld SYS_BOOT.STAGE = 2 ∨
    s.dev.fld SYS_BOOT.STAGE = 4) → s.dev.boot.sources = n :: l → n < 3 → s.dev.mapSound → Completes (.bootFetchDone .failed) s (fun t =>
    t.fld SYS_BOOT.LAST_ERR = 2 ∧ t.fld SYS_BOOT.ERR_OP = 0 ∧ t.fld SYS_RSTCAUSE.CAUSE = 4 ∧ t.fld SYS_BOOT.STAGE = n + 1 ∧
    t.fld SYS_BOOT.SOURCE = n ∧ t.boot.sources = l ∧ t.tb = s.dev.tb)) ∧
  (∀ (s : State) (b : List (BitVec 8)) (n : Nat) (l : List Nat), s.dev.sys.powered = true → (s.dev.fld SYS_BOOT.STAGE = 1 ∨
    s.dev.fld SYS_BOOT.STAGE = 2 ∨ s.dev.fld SYS_BOOT.STAGE = 4) → s.dev.boot.sources = n :: l → n < 3 →
    (s.dev.count SYS_RSTCAUSE.ATTEMPTS).imageError b ≠ 0 → s.dev.mapSound → Completes (.bootFetchDone (.image b)) s (fun t =>
    t.fld SYS_BOOT.STAGE = n + 1 ∧ t.fld SYS_BOOT.SOURCE = n ∧ t.boot.sources = l)) ∧
  (∀ (s : State), s.dev.sys.powered = true → (s.dev.fld SYS_BOOT.STAGE = 1 ∨ s.dev.fld SYS_BOOT.STAGE = 2 ∨ s.dev.fld SYS_BOOT.STAGE = 4) →
    s.dev.boot.sources = [] → s.dev.mapSound → Completes (.bootFetchDone .failed) s (fun t => t.fld SYS_BOOT.STAGE = 0xF))

/-- The boot code (15 R513 to R517, R522, R523), with a sound repair map where it fails. The model's readings: assumption 33. -/
def Obligations.BootCodeOperationsAct : Prop :=
  (∀ (s : State), s.dev.bootAt 1 = true → (regAt s.dev.bootOp.arg).isSome = true → served s.dev.bootOp.arg 4 = true →
    s.dev.mayWrite 0 s.dev.bootOp.arg true = true →
    let x := { s.dev with hi := { s.dev.hi with key1 := false } }
    Completes .bootWr32 s (fun t => t = { ((x.writeBar s.dev.bootOp.arg 4 s.dev.bootOp.val true s.dev.hi.key1).bootNext) with fuse := s.dev.fuse })) ∧
  (∀ (s : State), s.dev.bootAt 2 = true → (regAt s.dev.bootOp.arg).isSome = true → served s.dev.bootOp.arg 8 = true →
    s.dev.mayWrite 0 s.dev.bootOp.arg true = true →
    let x := { s.dev with hi := { s.dev.hi with key1 := false } }
    Completes .bootWr64 s (fun t => t = { ((x.writeBar s.dev.bootOp.arg 8 s.dev.bootOp.val true s.dev.hi.key1).bootNext) with fuse := s.dev.fuse })) ∧
  (∀ (s : State), s.dev.bootAt 3 = true →
    let m := cut s.dev.bootOp.val 32 32
    let x := s.dev.bootRead s.dev.bootOp.arg
    Completes .bootRmw32 s (fun t =>
    t = { (x.2.bootWrite s.dev.bootOp.arg 4 (x.1 - (x.1 &&& m) + (cut s.dev.bootOp.val 0 32 &&& m))) with fuse := s.dev.fuse })) ∧
  (∀ (s : State), s.dev.fld SYS_BOOT.STAGE = 6 → s.dev.bootOp.op = 4 → s.dev.boot.poll = none →
    let x := s.dev.bootRead s.dev.bootOp.arg
    x.1 &&& cut s.dev.bootOp.val 32 32 ≠ cut s.dev.bootOp.val 0 32 → Completes .bootPoll32 s (fun t =>
    t.boot.poll = some (2 * s.dev.tb.eclk + 10000000) ∧ t.boot.op = s.dev.boot.op ∧ t.fld SYS_BOOT.STAGE = 6)) ∧
  (∀ (s : State), s.dev.fld SYS_BOOT.STAGE = 6 → s.dev.bootOp.op = 4 →
    let x := s.dev.bootRead s.dev.bootOp.arg
    x.1 &&& cut s.dev.bootOp.val 32 32 = cut s.dev.bootOp.val 0 32 → 16 * (s.dev.boot.op + 1) < bootCodeLen s.dev.boot.image →
    bootOpBad s.dev.boot.image (bootOpAt s.dev.boot.image (s.dev.boot.op + 1)) = false → Completes .bootPoll32 s (fun t =>
    t.boot.op = s.dev.boot.op + 1 ∧ t.fld SYS_BOOT.STAGE = 6 ∧ t.boot.image = s.dev.boot.image ∧ t.boot.poll = none)) ∧
  (∀ (s : State) (k : Nat), s.dev.boot.poll = some k → s.dev.fld SYS_BOOT.STAGE = 6 → k ≤ 2 * s.dev.tb.eclk → s.dev.mapSound →
    Completes .bootPollTimeout s (fun t => t.fld SYS_BOOT.LAST_ERR = 0x0A ∧ t.fld SYS_BOOT.ERR_OP = s.dev.boot.op % 2 ^ SYS_BOOT.ERR_OP.len ∧
    t.fld SYS_RSTCAUSE.CAUSE = 4)) ∧
  (∀ (s : State), s.dev.bootAt 5 = true → Completes .bootDelay s (fun t =>
    t = { s.dev with boot := { s.dev.boot with delay := some (2 * s.dev.tb.eclk + 1000 * s.dev.bootOp.val) } })) ∧
  (∀ (s : State) (k : Nat), s.dev.boot.delay = some k → s.dev.fld SYS_BOOT.STAGE = 6 → k ≤ 2 * s.dev.tb.eclk → 16 * (s.dev.boot.op + 1)
    < bootCodeLen s.dev.boot.image → bootOpBad s.dev.boot.image (bootOpAt s.dev.boot.image (s.dev.boot.op + 1)) = false →
    Completes .bootDelayEnd s (fun t => t.boot.op = s.dev.boot.op + 1 ∧ t.fld SYS_BOOT.STAGE = 6 ∧ t.boot.image = s.dev.boot.image ∧
    t.boot.delay = none)) ∧
  (∀ (s : State), s.dev.bootAt 6 = true → s.dev.bootOp.val < 8 → 16 * (s.dev.boot.op + 1) < bootCodeLen s.dev.boot.image →
    bootOpBad s.dev.boot.image (bootOpAt s.dev.boot.image (s.dev.boot.op + 1)) = false → Completes .hmkey s (fun t =>
    t.boot.op = s.dev.boot.op + 1 ∧ t.fld SYS_BOOT.STAGE = 6 ∧ t.boot.image = s.dev.boot.image ∧
    t.fld HM_KEY.KEY s.dev.bootOp.val = field s.dev.boot.image s.dev.bootOp.arg 64 % 2 ^ 512 ∧
    t.fbit HM_STATUS.KEYS_SET 0 s.dev.bootOp.val = true)) ∧
  (∀ (s : State), s.dev.bootAt 7 = true → 16 * (s.dev.boot.op + 1) < bootCodeLen s.dev.boot.image →
    bootOpBad s.dev.boot.image (bootOpAt s.dev.boot.image (s.dev.boot.op + 1)) = false → Completes .logkey s (fun t =>
    t.boot.op = s.dev.boot.op + 1 ∧ t.fld SYS_BOOT.STAGE = 6 ∧ t.boot.image = s.dev.boot.image ∧
    t.boot.logKey = BitVec.ofNat 256 (field s.dev.boot.image s.dev.bootOp.arg 32) ∧ t.fld HM_STATUS.LOGKEY_SET = 1)) ∧
  (∀ (s : State), s.dev.bootAt 8 = true → 16 * (s.dev.boot.op + 1) < bootCodeLen s.dev.boot.image →
    bootOpBad s.dev.boot.image (bootOpAt s.dev.boot.image (s.dev.boot.op + 1)) = false →
    let n := cut s.dev.bootOp.val 32 5
    let l := cut s.dev.bootOp.val 0 32
    let b := (s.dev.boot.image.drop s.dev.bootOp.arg).take l
    n < 24 → l ≤ 90432 → headerBad b l = false → s.dev.fbit HM_EKEY.KEYS n (imgKey b) = true → microBytesBad b = false → s.dev.mapSound →
    Completes .bootMeImage s (fun t => (signatureOk (s.dev.fld HM_KEY.KEY (imgKey b)) b = true → t.boot.op = s.dev.boot.op + 1 ∧
    t.fld SYS_BOOT.STAGE = 6 ∧ t.boot.image = s.dev.boot.image ∧ t.fld ME_IMAGE.LSTATE (s.dev.meHome n) = 2 ∧
    (t.eng (s.dev.meHome n)).base_ = field b 0xC 2) ∧ (signatureOk (s.dev.fld HM_KEY.KEY (imgKey b)) b = false → t.fld SYS_BOOT.LAST_ERR = 0x0B ∧
    t.fld SYS_BOOT.ERR_OP = s.dev.boot.op % 2 ^ SYS_BOOT.ERR_OP.len ∧ t.fld SYS_RSTCAUSE.CAUSE = 4))) ∧
  (∀ (s : State), s.dev.bootAt 9 = true → 16 * (s.dev.boot.op + 1) < bootCodeLen s.dev.boot.image →
    bootOpBad s.dev.boot.image (bootOpAt s.dev.boot.image (s.dev.boot.op + 1)) = false →
    let p := BitVec.ofNat 1024 (field s.dev.boot.image s.dev.bootOp.arg 128)
    blockBad p = false → Completes .pnProg s (fun t => t.boot.op = s.dev.boot.op + 1 ∧ t.fld SYS_BOOT.STAGE = 6 ∧ t.boot.image = s.dev.boot.image ∧
    get 0 t.boot.progs s.dev.bootOp.val = p)) ∧
  (∀ (s : State), s.dev.bootAt 0xA = true → 16 * (s.dev.boot.op + 1) < bootCodeLen s.dev.boot.image →
    bootOpBad s.dev.boot.image (bootOpAt s.dev.boot.image (s.dev.boot.op + 1)) = false → cut s.dev.bootOp.val 0 8 = 1 →
    s.dev.boot.slots.contains (cut s.dev.bootOp.val 8 2) = false → Completes .fuse s (fun t => t.boot.op = s.dev.boot.op + 1 ∧
    t.fld SYS_BOOT.STAGE = 6 ∧ t.boot.image = s.dev.boot.image ∧
    t.fuse = { s.dev.fuse with revoke := s.dev.fuse.revoke ||| BitVec.ofNat 4 (2 ^ cut s.dev.bootOp.val 8 2) })) ∧
  (∀ (s : State), s.dev.bootAt 0xA = true → 16 * (s.dev.boot.op + 1) < bootCodeLen s.dev.boot.image →
    bootOpBad s.dev.boot.image (bootOpAt s.dev.boot.image (s.dev.boot.op + 1)) = false → cut s.dev.bootOp.val 0 8 ≠ 1 →
    min 64 (cut s.dev.bootOp.val 16 7) ≤ field s.dev.boot.image 0xC 4 → Completes .fuse s (fun t => t.boot.op = s.dev.boot.op + 1 ∧
    t.fld SYS_BOOT.STAGE = 6 ∧ t.boot.image = s.dev.boot.image ∧
    t.fuse = { s.dev.fuse with svn := max s.dev.fuse.svn (min 64 (cut s.dev.bootOp.val 16 7)) })) ∧
  (∀ (s : State), s.dev.bootAt 0xA = true → cut s.dev.bootOp.val 0 8 = 1 → s.dev.boot.slots.contains (cut s.dev.bootOp.val 8 2) = true →
    s.dev.mapSound → Completes .fuse s (fun t => t.fld SYS_BOOT.LAST_ERR = 0x0E ∧ t.fld SYS_BOOT.ERR_OP = s.dev.boot.op % 2 ^ SYS_BOOT.ERR_OP.len
    ∧ t.fld SYS_RSTCAUSE.CAUSE = 4 ∧ t.fuse = s.dev.fuse)) ∧
  (∀ (s : State), s.dev.bootAt 0xF = true → Completes .seal s (fun t => t.fld HM_SEAL.SEAL = 1 ∧ t.fld SYS_BOOT.STAGE = 7 ∧ t.fld SYS_MODE.MODE = 1 ∧
    t.fld SYS_MODE.CAUSE = s.dev.boot.keyOn.toNat ∧ t.dr.zeroing = true ∧ t.boot.acts = [] ∧ t.boot.progs = [] ∧ ∀ n ∈ s.dev.boot.acts,
    t.fld ME_STATUS.RUNNING (s.dev.meHome n) = 1))

/-- One TCLK period (02 R34): each accumulator adds 1 ns, the rate word and the step of the remaining correction; AX0 is the bitwise majority; its
visible fraction is the upper 16 bits. SLEW_COMPLETE is the period in which the correction, alike in the three, reaches zero. The model's
readings: assumption 21. -/
def Obligations.Ax0CountsEachPeriod : Prop :=
  ((∀ (d : Dev) (a : Accum), a ∈ [d.tb.a0, d.tb.a1, d.tb.a2] →
    let word : Int := d.fld AX0_SLEW.SLEW_PPM * 281474977
    let step : Int := if a.rem < 0 then -(min (-a.rem) word) else min a.rem word
    let b : Accum := { a with rem := a.rem - step, val := a.val + BitVec.ofInt 112 (2 ^ 48 + a.rate.toInt + step) }
    (a = d.tb.a0 → d.tclk.tb.a0 = b) ∧ (a = d.tb.a1 → d.tclk.tb.a1 = b) ∧ (a = d.tb.a2 → d.tclk.tb.a2 = b))) ∧
  ((∀ d : Dev, d.fld AX0_REPAIR.RETIRED = 0 → ∀ i : Nat,
    d.ax0.testBit i = ((d.tb.a0.val.getLsbD i && d.tb.a1.val.getLsbD i) || (d.tb.a0.val.getLsbD i && d.tb.a2.val.getLsbD i) ||
      (d.tb.a1.val.getLsbD i && d.tb.a2.val.getLsbD i)))) ∧
  ((∀ d : Dev, d.frac16 = d.ax0 / 2 ^ 32 % 2 ^ 16)) ∧
  (∀ (s : State), s.dev.tb.a0.rem ≠ 0 → s.dev.tb.a1.rem = s.dev.tb.a0.rem → s.dev.tb.a2.rem = s.dev.tb.a0.rem →
    s.dev.tb.a0.rem.natAbs ≤ s.dev.fld AX0_SLEW.SLEW_PPM * 281474977 → Completes .slewComplete s (fun t => t = s.dev.tclk ∧ t.tb.a0.rem = 0 ∧
    t.tb.a1.rem = 0 ∧ t.tb.a2.rem = 0))

/-- STEP_TIME and the modes (01 R19; 02 R44, R45). -/
def Obligations.StepTimeNeedsItsMode : Prop :=
  (∀ (s : State) (m : Nat) (w : Entry), s.dev.takes m 0x07 none w = true →
    let c := s.dev.cmdFor m 0x07 none w
    w.getLsbD 8 = false → s.dev.fld SYS_MODE.MODE ≠ 1 → s.dev.reports m w = true → Completes (.stepTime m w) s (fun t => t.tb = s.dev.tb ∧
    t.lg.steps = s.dev.lg.steps ∧ t.lg.queue = s.dev.lg.queue ∧ s.dev.completedIn t c 0x0A c.rgen ([]))) ∧
  (∀ (s : State) (m : Nat) (w : Entry), s.dev.takes m 0x07 none w = true →
    let c := s.dev.cmdFor m 0x07 none w
    w.getLsbD 8 = false → s.dev.fld SYS_MODE.MODE = 1 → s.dev.fld SYS_MODE.STEPPED = 0 → s.dev.lg.steps = [] → s.dev.armedOnTime = false →
    Completes (.stepTime m w) s (fun t => t.tb = s.dev.tb ∧ t.lg.steps.map (·.cmd) = [c])) ∧
  (∀ (s : State) (m : Nat) (w : Entry), s.dev.takes m 0x07 none w = true →
    let c := s.dev.cmdFor m 0x07 none w
    w.getLsbD 8 = true → (s.dev.fld SYS_MODE.MODE = 1 ∨ s.dev.fld SYS_MODE.MODE = 2) → s.dev.lg.steps = [] → s.dev.lgFailed = false →
    s.dev.lg.queued + 64 ≤ 32768 → Completes (.stepTime m w) s (fun t => t.tb = s.dev.tb ∧ ∃ r q, t.lg.steps = [r] ∧ r.cmd = c ∧ r.force = true ∧
    r.old = s.dev.ax0 ∧ r.new = s.dev.stepValue r ∧ t.lg.queue = s.dev.lg.queue ++ [q] ∧ q.act = .step r ∧ q.ltype = 3)) ∧
  (∀ (s : State) (x : LogWrite) (r : StepReq), s.dev.lg.writing = some x → x.item.act = .step r → x.done ≤ s.dev.elNs →
    Completes .logRecordDurable s (fun t => (∀ a ∈ [t.tb.a0, t.tb.a1, t.tb.a2], a.val = BitVec.ofNat 112 r.new ∧ a.rem = 0) ∧
    t.fld AX0_STATUS.STEP_COUNT = (s.dev.fld AX0_STATUS.STEP_COUNT + 1) % 256))

/-- Stores to berth memory, byte by byte (11 R370, R375; 04 R133; 05 R173; 09 R314; 10 R346). The model's readings: assumptions 15, 44. -/
def Obligations.BerthBytesChangeOnlyWhereStored : Prop :=
  ((∀ (d : Dev) (p1 : Bool) (a : Nat) (bs : List Byte) (q : Nat),
    (d.portWrite p1 a bs).2.peek q = if p1 && d.collides a bs.length then d.peek q else d.stored a bs q)) ∧
  ((∀ (d : Dev) (c a o : Nat) (bs : List Byte), ltTarget a = .berth o → ∀ q,
    match d.ltPut c a bs with
    | .done e => e.peek q = d.stored o bs q
    | .held e => e.peek q = d.peek q
    | .failed _ e => e.peek q = d.peek q)) ∧
  ((∀ (d : Dev) (c a : Nat) (bs : List Byte), (∀ o, ltTarget a ≠ .berth o) → ∀ q,
    match d.ltPut c a bs with
    | .done e => e.peek q = d.peek q
    | .held e => e.peek q = d.peek q
    | .failed _ e => e.peek q = d.peek q)) ∧
  ((∀ (d : Dev) (c : Nat) (i : ChItem) (e : InEdge) (prog q : Nat), (d.capture c i e prog).peek q =
    if i.ringEn && !d.ringRefused i.berth then d.stored (i.berth * 65536 + 16 * (i.ringBase + i.wrIdx % 2 ^ i.sizeK)) (ringEntry i e prog) q else d.peek q)) ∧
  ((∀ (d : Dev) (c : Cmd) (v o q : Nat), c.berthBody.map (·.1) = some o → d.bodyLost c.fn o 64 = false → d.onP1 (o / 65536) 2 c.fn = false →
    (d.writeResult c v).2.peek q = d.stored o (bytesOf v 64) q)) ∧
  (∀ (s : State) (p : Nat) (w : BitVec 48) (x : BitVec 192) (go : MeSeq), s.dev.meCanIssue p = true → s.dev.flag ME_STATUS.WAITING p = false →
    (s.dev.eng p).bpWait = none → (s.dev.eng p).micro[(s.dev.eng p).top.pc]? = some w → (s.dev.eng p).nano[uNano w]? = some x →
    nIllegal x = false → (s.dev.eng p).runBroken x = false → ¬ (uSeq w = 2 ∧ (s.dev.meCond p (uCond w)) = false) → nChannel x = false →
    (nBp x = 2 ∨ nBp x = 4) → s.dev.meCause p w x (s.dev.meCond p (uCond w)) = 0 → s.dev.berthMeets p w x = .served → (s.dev.meNext (s.dev.eng p)
    w x (s.dev.meCond p (uCond w))) = .ok go →
    let a := (s.dev.eng p).berthAddr w x
    let b := if nBp x = 2 then bytesOf ((s.dev.eng p).reg (nBpDr x)).toNat 4 else bytesOf ((s.dev.eng p).areg (nBpAx x)).toNat 8
    Completes (.meWord p {}) s (fun t => ∀ q, t.peek q = (if s.dev.onP1 (a / 65536) 0 (s.dev.meLogical p) && s.dev.collides a b.length then
    s.dev.peek q else s.dev.stored a b q)))

/-- Every step keeps berth memory (11 R370) in its one canonical form, so that equal memories are equal data. The model's readings: assumption 15. -/
def Obligations.BerthMemoryStaysCanonical : Prop :=
  ∀ s t : State, Memory.wf s.dev.mem = true → step s = .next t → Memory.wf t.dev.mem = true

/-- Fuses are blown once (15 R511, R516). The model's readings: assumptions 11, 32. -/
def Obligations.FusesStayBlown : Prop :=
  ∀ s t : State, step s = .next t →
    (∀ n, s.dev.fuse.revoke.getLsbD n = true → t.dev.fuse.revoke.getLsbD n = true) ∧ s.dev.fuse.svn ≤ t.dev.fuse.svn ∧
      (s.dev.fuse.svn ≤ 64 → t.dev.fuse.svn ≤ 64) ∧ t.dev.fuse.hash = s.dev.fuse.hash ∧
      (s.pending.head? ≠ some .fuse → t.dev.fuse = s.dev.fuse)

/-- The repair map names only what it records (13 R457); applying it at a boot (13 R458) touches no field of SYS_BOOT, SYS_RSTCAUSE or the clocks. The
model's readings: assumption 31. -/
def Obligations.RepairMapStaysSound : Prop :=
  ∀ s t : State, s.dev.mapSound → step s = .next t → t.dev.mapSound
end

