-- ==== Sys2Proof/Laws/State.lean ====
section
/-! SUPPORT. What each plain update of the part leaves alone: one lemma per update and field, true by unfolding. -/

namespace Sys2Proof.Laws

open Sys2Proof Sys2Proof.Machine

/-! `setFld` -/
@[simp] theorem setFld_mem (d : Dev) (f : Fld) (v i j : Nat) : (d.setFld f v i j).mem = d.mem := rfl
@[simp] theorem setFld_tb (d : Dev) (f : Fld) (v i j : Nat) : (d.setFld f v i j).tb = d.tb := rfl
@[simp] theorem setFld_axes (d : Dev) (f : Fld) (v i j : Nat) : (d.setFld f v i j).axes = d.axes := rfl
@[simp] theorem setFld_trk (d : Dev) (f : Fld) (v i j : Nat) : (d.setFld f v i j).trk = d.trk := rfl
@[simp] theorem setFld_qy (d : Dev) (f : Fld) (v i j : Nat) : (d.setFld f v i j).qy = d.qy := rfl
@[simp] theorem setFld_pins (d : Dev) (f : Fld) (v i j : Nat) : (d.setFld f v i j).pins = d.pins := rfl
@[simp] theorem setFld_dr (d : Dev) (f : Fld) (v i j : Nat) : (d.setFld f v i j).dr = d.dr := rfl
@[simp] theorem setFld_sys (d : Dev) (f : Fld) (v i j : Nat) : (d.setFld f v i j).sys = d.sys := rfl
@[simp] theorem setFld_cw (d : Dev) (f : Fld) (v i j : Nat) : (d.setFld f v i j).cw = d.cw := rfl
@[simp] theorem setFld_sl (d : Dev) (f : Fld) (v i j : Nat) : (d.setFld f v i j).sl = d.sl := rfl
@[simp] theorem setFld_hi (d : Dev) (f : Fld) (v i j : Nat) : (d.setFld f v i j).hi = d.hi := rfl
@[simp] theorem setFld_lg (d : Dev) (f : Fld) (v i j : Nat) : (d.setFld f v i j).lg = d.lg := rfl
@[simp] theorem setFld_sf (d : Dev) (f : Fld) (v i j : Nat) : (d.setFld f v i j).sf = d.sf := rfl
@[simp] theorem setFld_pn (d : Dev) (f : Fld) (v i j : Nat) : (d.setFld f v i j).pn = d.pn := rfl
@[simp] theorem setFld_me (d : Dev) (f : Fld) (v i j : Nat) : (d.setFld f v i j).me = d.me := rfl
@[simp] theorem setFld_mo (d : Dev) (f : Fld) (v i j : Nat) : (d.setFld f v i j).mo = d.mo := rfl
@[simp] theorem setFld_lt (d : Dev) (f : Fld) (v i j : Nat) : (d.setFld f v i j).lt = d.lt := rfl
@[simp] theorem setFld_fuse (d : Dev) (f : Fld) (v i j : Nat) : (d.setFld f v i j).fuse = d.fuse := rfl
@[simp] theorem setFld_boot (d : Dev) (f : Fld) (v i j : Nat) : (d.setFld f v i j).boot = d.boot := rfl
@[simp] theorem setFld_vg (d : Dev) (f : Fld) (v i j : Nat) : (d.setFld f v i j).vg = d.vg := rfl
@[simp] theorem setFld_tap (d : Dev) (f : Fld) (v i j : Nat) : (d.setFld f v i j).tap = d.tap := rfl
@[simp] theorem setFld_freeCtr (d : Dev) (f : Fld) (v i j : Nat) : (d.setFld f v i j).freeCtr = d.freeCtr := rfl
@[simp] theorem setFld_cyc (d : Dev) (f : Fld) (v i j : Nat) : (d.setFld f v i j).cyc = d.cyc := rfl

/-! `setFlag` -/
@[simp] theorem setFlag_mem (d : Dev) (f : Fld) (b : Bool) (i j : Nat) : (d.setFlag f b i j).mem = d.mem := rfl
@[simp] theorem setFlag_tb (d : Dev) (f : Fld) (b : Bool) (i j : Nat) : (d.setFlag f b i j).tb = d.tb := rfl
@[simp] theorem setFlag_axes (d : Dev) (f : Fld) (b : Bool) (i j : Nat) : (d.setFlag f b i j).axes = d.axes := rfl
@[simp] theorem setFlag_trk (d : Dev) (f : Fld) (b : Bool) (i j : Nat) : (d.setFlag f b i j).trk = d.trk := rfl
@[simp] theorem setFlag_qy (d : Dev) (f : Fld) (b : Bool) (i j : Nat) : (d.setFlag f b i j).qy = d.qy := rfl
@[simp] theorem setFlag_pins (d : Dev) (f : Fld) (b : Bool) (i j : Nat) : (d.setFlag f b i j).pins = d.pins := rfl
@[simp] theorem setFlag_dr (d : Dev) (f : Fld) (b : Bool) (i j : Nat) : (d.setFlag f b i j).dr = d.dr := rfl
@[simp] theorem setFlag_sys (d : Dev) (f : Fld) (b : Bool) (i j : Nat) : (d.setFlag f b i j).sys = d.sys := rfl
@[simp] theorem setFlag_cw (d : Dev) (f : Fld) (b : Bool) (i j : Nat) : (d.setFlag f b i j).cw = d.cw := rfl
@[simp] theorem setFlag_sl (d : Dev) (f : Fld) (b : Bool) (i j : Nat) : (d.setFlag f b i j).sl = d.sl := rfl
@[simp] theorem setFlag_hi (d : Dev) (f : Fld) (b : Bool) (i j : Nat) : (d.setFlag f b i j).hi = d.hi := rfl
@[simp] theorem setFlag_lg (d : Dev) (f : Fld) (b : Bool) (i j : Nat) : (d.setFlag f b i j).lg = d.lg := rfl
@[simp] theorem setFlag_sf (d : Dev) (f : Fld) (b : Bool) (i j : Nat) : (d.setFlag f b i j).sf = d.sf := rfl
@[simp] theorem setFlag_pn (d : Dev) (f : Fld) (b : Bool) (i j : Nat) : (d.setFlag f b i j).pn = d.pn := rfl
@[simp] theorem setFlag_me (d : Dev) (f : Fld) (b : Bool) (i j : Nat) : (d.setFlag f b i j).me = d.me := rfl
@[simp] theorem setFlag_mo (d : Dev) (f : Fld) (b : Bool) (i j : Nat) : (d.setFlag f b i j).mo = d.mo := rfl
@[simp] theorem setFlag_lt (d : Dev) (f : Fld) (b : Bool) (i j : Nat) : (d.setFlag f b i j).lt = d.lt := rfl
@[simp] theorem setFlag_fuse (d : Dev) (f : Fld) (b : Bool) (i j : Nat) : (d.setFlag f b i j).fuse = d.fuse := rfl
@[simp] theorem setFlag_boot (d : Dev) (f : Fld) (b : Bool) (i j : Nat) : (d.setFlag f b i j).boot = d.boot := rfl
@[simp] theorem setFlag_vg (d : Dev) (f : Fld) (b : Bool) (i j : Nat) : (d.setFlag f b i j).vg = d.vg := rfl
@[simp] theorem setFlag_tap (d : Dev) (f : Fld) (b : Bool) (i j : Nat) : (d.setFlag f b i j).tap = d.tap := rfl
@[simp] theorem setFlag_freeCtr (d : Dev) (f : Fld) (b : Bool) (i j : Nat) : (d.setFlag f b i j).freeCtr = d.freeCtr := rfl
@[simp] theorem setFlag_cyc (d : Dev) (f : Fld) (b : Bool) (i j : Nat) : (d.setFlag f b i j).cyc = d.cyc := rfl

/-! `setBit` -/
@[simp] theorem setBit_mem (d : Dev) (f : Fld) (i b : Nat) (v : Bool) : (d.setBit f i b v).mem = d.mem := rfl
@[simp] theorem setBit_tb (d : Dev) (f : Fld) (i b : Nat) (v : Bool) : (d.setBit f i b v).tb = d.tb := rfl
@[simp] theorem setBit_axes (d : Dev) (f : Fld) (i b : Nat) (v : Bool) : (d.setBit f i b v).axes = d.axes := rfl
@[simp] theorem setBit_trk (d : Dev) (f : Fld) (i b : Nat) (v : Bool) : (d.setBit f i b v).trk = d.trk := rfl
@[simp] theorem setBit_qy (d : Dev) (f : Fld) (i b : Nat) (v : Bool) : (d.setBit f i b v).qy = d.qy := rfl
@[simp] theorem setBit_pins (d : Dev) (f : Fld) (i b : Nat) (v : Bool) : (d.setBit f i b v).pins = d.pins := rfl
@[simp] theorem setBit_dr (d : Dev) (f : Fld) (i b : Nat) (v : Bool) : (d.setBit f i b v).dr = d.dr := rfl
@[simp] theorem setBit_sys (d : Dev) (f : Fld) (i b : Nat) (v : Bool) : (d.setBit f i b v).sys = d.sys := rfl
@[simp] theorem setBit_cw (d : Dev) (f : Fld) (i b : Nat) (v : Bool) : (d.setBit f i b v).cw = d.cw := rfl
@[simp] theorem setBit_sl (d : Dev) (f : Fld) (i b : Nat) (v : Bool) : (d.setBit f i b v).sl = d.sl := rfl
@[simp] theorem setBit_hi (d : Dev) (f : Fld) (i b : Nat) (v : Bool) : (d.setBit f i b v).hi = d.hi := rfl
@[simp] theorem setBit_lg (d : Dev) (f : Fld) (i b : Nat) (v : Bool) : (d.setBit f i b v).lg = d.lg := rfl
@[simp] theorem setBit_sf (d : Dev) (f : Fld) (i b : Nat) (v : Bool) : (d.setBit f i b v).sf = d.sf := rfl
@[simp] theorem setBit_pn (d : Dev) (f : Fld) (i b : Nat) (v : Bool) : (d.setBit f i b v).pn = d.pn := rfl
@[simp] theorem setBit_me (d : Dev) (f : Fld) (i b : Nat) (v : Bool) : (d.setBit f i b v).me = d.me := rfl
@[simp] theorem setBit_mo (d : Dev) (f : Fld) (i b : Nat) (v : Bool) : (d.setBit f i b v).mo = d.mo := rfl
@[simp] theorem setBit_lt (d : Dev) (f : Fld) (i b : Nat) (v : Bool) : (d.setBit f i b v).lt = d.lt := rfl
@[simp] theorem setBit_fuse (d : Dev) (f : Fld) (i b : Nat) (v : Bool) : (d.setBit f i b v).fuse = d.fuse := rfl
@[simp] theorem setBit_boot (d : Dev) (f : Fld) (i b : Nat) (v : Bool) : (d.setBit f i b v).boot = d.boot := rfl
@[simp] theorem setBit_vg (d : Dev) (f : Fld) (i b : Nat) (v : Bool) : (d.setBit f i b v).vg = d.vg := rfl
@[simp] theorem setBit_tap (d : Dev) (f : Fld) (i b : Nat) (v : Bool) : (d.setBit f i b v).tap = d.tap := rfl
@[simp] theorem setBit_freeCtr (d : Dev) (f : Fld) (i b : Nat) (v : Bool) : (d.setBit f i b v).freeCtr = d.freeCtr := rfl
@[simp] theorem setBit_cyc (d : Dev) (f : Fld) (i b : Nat) (v : Bool) : (d.setBit f i b v).cyc = d.cyc := rfl

/-! `count` -/
@[simp] theorem count_mem (d : Dev) (f : Fld) (i n : Nat) : (d.count f i n).mem = d.mem := rfl
@[simp] theorem count_tb (d : Dev) (f : Fld) (i n : Nat) : (d.count f i n).tb = d.tb := rfl
@[simp] theorem count_axes (d : Dev) (f : Fld) (i n : Nat) : (d.count f i n).axes = d.axes := rfl
@[simp] theorem count_trk (d : Dev) (f : Fld) (i n : Nat) : (d.count f i n).trk = d.trk := rfl
@[simp] theorem count_qy (d : Dev) (f : Fld) (i n : Nat) : (d.count f i n).qy = d.qy := rfl
@[simp] theorem count_pins (d : Dev) (f : Fld) (i n : Nat) : (d.count f i n).pins = d.pins := rfl
@[simp] theorem count_dr (d : Dev) (f : Fld) (i n : Nat) : (d.count f i n).dr = d.dr := rfl
@[simp] theorem count_sys (d : Dev) (f : Fld) (i n : Nat) : (d.count f i n).sys = d.sys := rfl
@[simp] theorem count_cw (d : Dev) (f : Fld) (i n : Nat) : (d.count f i n).cw = d.cw := rfl
@[simp] theorem count_sl (d : Dev) (f : Fld) (i n : Nat) : (d.count f i n).sl = d.sl := rfl
@[simp] theorem count_hi (d : Dev) (f : Fld) (i n : Nat) : (d.count f i n).hi = d.hi := rfl
@[simp] theorem count_lg (d : Dev) (f : Fld) (i n : Nat) : (d.count f i n).lg = d.lg := rfl
@[simp] theorem count_sf (d : Dev) (f : Fld) (i n : Nat) : (d.count f i n).sf = d.sf := rfl
@[simp] theorem count_pn (d : Dev) (f : Fld) (i n : Nat) : (d.count f i n).pn = d.pn := rfl
@[simp] theorem count_me (d : Dev) (f : Fld) (i n : Nat) : (d.count f i n).me = d.me := rfl
@[simp] theorem count_mo (d : Dev) (f : Fld) (i n : Nat) : (d.count f i n).mo = d.mo := rfl
@[simp] theorem count_lt (d : Dev) (f : Fld) (i n : Nat) : (d.count f i n).lt = d.lt := rfl
@[simp] theorem count_fuse (d : Dev) (f : Fld) (i n : Nat) : (d.count f i n).fuse = d.fuse := rfl
@[simp] theorem count_boot (d : Dev) (f : Fld) (i n : Nat) : (d.count f i n).boot = d.boot := rfl
@[simp] theorem count_vg (d : Dev) (f : Fld) (i n : Nat) : (d.count f i n).vg = d.vg := rfl
@[simp] theorem count_tap (d : Dev) (f : Fld) (i n : Nat) : (d.count f i n).tap = d.tap := rfl
@[simp] theorem count_freeCtr (d : Dev) (f : Fld) (i n : Nat) : (d.count f i n).freeCtr = d.freeCtr := rfl

/-! `setEvent` -/
@[simp] theorem setEvent_mem (d : Dev) (f : Fld) (v i : Nat) : (d.setEvent f v i).mem = d.mem := rfl
@[simp] theorem setEvent_tb (d : Dev) (f : Fld) (v i : Nat) : (d.setEvent f v i).tb = d.tb := rfl
@[simp] theorem setEvent_axes (d : Dev) (f : Fld) (v i : Nat) : (d.setEvent f v i).axes = d.axes := rfl
@[simp] theorem setEvent_trk (d : Dev) (f : Fld) (v i : Nat) : (d.setEvent f v i).trk = d.trk := rfl
@[simp] theorem setEvent_qy (d : Dev) (f : Fld) (v i : Nat) : (d.setEvent f v i).qy = d.qy := rfl
@[simp] theorem setEvent_pins (d : Dev) (f : Fld) (v i : Nat) : (d.setEvent f v i).pins = d.pins := rfl
@[simp] theorem setEvent_dr (d : Dev) (f : Fld) (v i : Nat) : (d.setEvent f v i).dr = d.dr := rfl
@[simp] theorem setEvent_sys (d : Dev) (f : Fld) (v i : Nat) : (d.setEvent f v i).sys = d.sys := rfl
@[simp] theorem setEvent_cw (d : Dev) (f : Fld) (v i : Nat) : (d.setEvent f v i).cw = d.cw := rfl
@[simp] theorem setEvent_sl (d : Dev) (f : Fld) (v i : Nat) : (d.setEvent f v i).sl = d.sl := rfl
@[simp] theorem setEvent_hi (d : Dev) (f : Fld) (v i : Nat) : (d.setEvent f v i).hi = d.hi := rfl
@[simp] theorem setEvent_lg (d : Dev) (f : Fld) (v i : Nat) : (d.setEvent f v i).lg = d.lg := rfl
@[simp] theorem setEvent_sf (d : Dev) (f : Fld) (v i : Nat) : (d.setEvent f v i).sf = d.sf := rfl
@[simp] theorem setEvent_pn (d : Dev) (f : Fld) (v i : Nat) : (d.setEvent f v i).pn = d.pn := rfl
@[simp] theorem setEvent_me (d : Dev) (f : Fld) (v i : Nat) : (d.setEvent f v i).me = d.me := rfl
@[simp] theorem setEvent_mo (d : Dev) (f : Fld) (v i : Nat) : (d.setEvent f v i).mo = d.mo := rfl
@[simp] theorem setEvent_lt (d : Dev) (f : Fld) (v i : Nat) : (d.setEvent f v i).lt = d.lt := rfl
@[simp] theorem setEvent_fuse (d : Dev) (f : Fld) (v i : Nat) : (d.setEvent f v i).fuse = d.fuse := rfl
@[simp] theorem setEvent_boot (d : Dev) (f : Fld) (v i : Nat) : (d.setEvent f v i).boot = d.boot := rfl
@[simp] theorem setEvent_vg (d : Dev) (f : Fld) (v i : Nat) : (d.setEvent f v i).vg = d.vg := rfl
@[simp] theorem setEvent_tap (d : Dev) (f : Fld) (v i : Nat) : (d.setEvent f v i).tap = d.tap := rfl
@[simp] theorem setEvent_freeCtr (d : Dev) (f : Fld) (v i : Nat) : (d.setEvent f v i).freeCtr = d.freeCtr := rfl

/-! `clearFld` -/
@[simp] theorem clearFld_mem (d : Dev) (f : Fld) (i j : Nat) : (d.clearFld f i j).mem = d.mem := rfl
@[simp] theorem clearFld_tb (d : Dev) (f : Fld) (i j : Nat) : (d.clearFld f i j).tb = d.tb := rfl
@[simp] theorem clearFld_axes (d : Dev) (f : Fld) (i j : Nat) : (d.clearFld f i j).axes = d.axes := rfl
@[simp] theorem clearFld_trk (d : Dev) (f : Fld) (i j : Nat) : (d.clearFld f i j).trk = d.trk := rfl
@[simp] theorem clearFld_qy (d : Dev) (f : Fld) (i j : Nat) : (d.clearFld f i j).qy = d.qy := rfl
@[simp] theorem clearFld_pins (d : Dev) (f : Fld) (i j : Nat) : (d.clearFld f i j).pins = d.pins := rfl
@[simp] theorem clearFld_dr (d : Dev) (f : Fld) (i j : Nat) : (d.clearFld f i j).dr = d.dr := rfl
@[simp] theorem clearFld_sys (d : Dev) (f : Fld) (i j : Nat) : (d.clearFld f i j).sys = d.sys := rfl
@[simp] theorem clearFld_cw (d : Dev) (f : Fld) (i j : Nat) : (d.clearFld f i j).cw = d.cw := rfl
@[simp] theorem clearFld_sl (d : Dev) (f : Fld) (i j : Nat) : (d.clearFld f i j).sl = d.sl := rfl
@[simp] theorem clearFld_hi (d : Dev) (f : Fld) (i j : Nat) : (d.clearFld f i j).hi = d.hi := rfl
@[simp] theorem clearFld_lg (d : Dev) (f : Fld) (i j : Nat) : (d.clearFld f i j).lg = d.lg := rfl
@[simp] theorem clearFld_sf (d : Dev) (f : Fld) (i j : Nat) : (d.clearFld f i j).sf = d.sf := rfl
@[simp] theorem clearFld_pn (d : Dev) (f : Fld) (i j : Nat) : (d.clearFld f i j).pn = d.pn := rfl
@[simp] theorem clearFld_me (d : Dev) (f : Fld) (i j : Nat) : (d.clearFld f i j).me = d.me := rfl
@[simp] theorem clearFld_mo (d : Dev) (f : Fld) (i j : Nat) : (d.clearFld f i j).mo = d.mo := rfl
@[simp] theorem clearFld_lt (d : Dev) (f : Fld) (i j : Nat) : (d.clearFld f i j).lt = d.lt := rfl
@[simp] theorem clearFld_fuse (d : Dev) (f : Fld) (i j : Nat) : (d.clearFld f i j).fuse = d.fuse := rfl
@[simp] theorem clearFld_boot (d : Dev) (f : Fld) (i j : Nat) : (d.clearFld f i j).boot = d.boot := rfl
@[simp] theorem clearFld_vg (d : Dev) (f : Fld) (i j : Nat) : (d.clearFld f i j).vg = d.vg := rfl
@[simp] theorem clearFld_tap (d : Dev) (f : Fld) (i j : Nat) : (d.clearFld f i j).tap = d.tap := rfl
@[simp] theorem clearFld_freeCtr (d : Dev) (f : Fld) (i j : Nat) : (d.clearFld f i j).freeCtr = d.freeCtr := rfl
@[simp] theorem clearFld_cyc (d : Dev) (f : Fld) (i j : Nat) : (d.clearFld f i j).cyc = d.cyc := rfl

/-! `nextFree` -/
@[simp] theorem nextFree_regs (d : Dev) : (d.nextFree).regs = d.regs := rfl
@[simp] theorem nextFree_mem (d : Dev) : (d.nextFree).mem = d.mem := rfl
@[simp] theorem nextFree_tb (d : Dev) : (d.nextFree).tb = d.tb := rfl
@[simp] theorem nextFree_axes (d : Dev) : (d.nextFree).axes = d.axes := rfl
@[simp] theorem nextFree_trk (d : Dev) : (d.nextFree).trk = d.trk := rfl
@[simp] theorem nextFree_qy (d : Dev) : (d.nextFree).qy = d.qy := rfl
@[simp] theorem nextFree_pins (d : Dev) : (d.nextFree).pins = d.pins := rfl
@[simp] theorem nextFree_dr (d : Dev) : (d.nextFree).dr = d.dr := rfl
@[simp] theorem nextFree_sys (d : Dev) : (d.nextFree).sys = d.sys := rfl
@[simp] theorem nextFree_cw (d : Dev) : (d.nextFree).cw = d.cw := rfl
@[simp] theorem nextFree_sl (d : Dev) : (d.nextFree).sl = d.sl := rfl
@[simp] theorem nextFree_hi (d : Dev) : (d.nextFree).hi = d.hi := rfl
@[simp] theorem nextFree_lg (d : Dev) : (d.nextFree).lg = d.lg := rfl
@[simp] theorem nextFree_sf (d : Dev) : (d.nextFree).sf = d.sf := rfl
@[simp] theorem nextFree_pn (d : Dev) : (d.nextFree).pn = d.pn := rfl
@[simp] theorem nextFree_me (d : Dev) : (d.nextFree).me = d.me := rfl
@[simp] theorem nextFree_mo (d : Dev) : (d.nextFree).mo = d.mo := rfl
@[simp] theorem nextFree_lt (d : Dev) : (d.nextFree).lt = d.lt := rfl
@[simp] theorem nextFree_fuse (d : Dev) : (d.nextFree).fuse = d.fuse := rfl
@[simp] theorem nextFree_boot (d : Dev) : (d.nextFree).boot = d.boot := rfl
@[simp] theorem nextFree_vg (d : Dev) : (d.nextFree).vg = d.vg := rfl
@[simp] theorem nextFree_tap (d : Dev) : (d.nextFree).tap = d.tap := rfl
@[simp] theorem nextFree_cyc (d : Dev) : (d.nextFree).cyc = d.cyc := rfl

/-! `raiseRecs` -/
@[simp] theorem raiseRecs_regs (d : Dev) (s : Nat) (l : List Record) (b : Bool) : (d.raiseRecs s l b).regs = d.regs := rfl
@[simp] theorem raiseRecs_mem (d : Dev) (s : Nat) (l : List Record) (b : Bool) : (d.raiseRecs s l b).mem = d.mem := rfl
@[simp] theorem raiseRecs_tb (d : Dev) (s : Nat) (l : List Record) (b : Bool) : (d.raiseRecs s l b).tb = d.tb := rfl
@[simp] theorem raiseRecs_axes (d : Dev) (s : Nat) (l : List Record) (b : Bool) : (d.raiseRecs s l b).axes = d.axes := rfl
@[simp] theorem raiseRecs_trk (d : Dev) (s : Nat) (l : List Record) (b : Bool) : (d.raiseRecs s l b).trk = d.trk := rfl
@[simp] theorem raiseRecs_qy (d : Dev) (s : Nat) (l : List Record) (b : Bool) : (d.raiseRecs s l b).qy = d.qy := rfl
@[simp] theorem raiseRecs_pins (d : Dev) (s : Nat) (l : List Record) (b : Bool) : (d.raiseRecs s l b).pins = d.pins := rfl
@[simp] theorem raiseRecs_dr (d : Dev) (s : Nat) (l : List Record) (b : Bool) : (d.raiseRecs s l b).dr = d.dr := rfl
@[simp] theorem raiseRecs_sys (d : Dev) (s : Nat) (l : List Record) (b : Bool) : (d.raiseRecs s l b).sys = d.sys := rfl
@[simp] theorem raiseRecs_cw (d : Dev) (s : Nat) (l : List Record) (b : Bool) : (d.raiseRecs s l b).cw = d.cw := rfl
@[simp] theorem raiseRecs_hi (d : Dev) (s : Nat) (l : List Record) (b : Bool) : (d.raiseRecs s l b).hi = d.hi := rfl
@[simp] theorem raiseRecs_lg (d : Dev) (s : Nat) (l : List Record) (b : Bool) : (d.raiseRecs s l b).lg = d.lg := rfl
@[simp] theorem raiseRecs_sf (d : Dev) (s : Nat) (l : List Record) (b : Bool) : (d.raiseRecs s l b).sf = d.sf := rfl
@[simp] theorem raiseRecs_pn (d : Dev) (s : Nat) (l : List Record) (b : Bool) : (d.raiseRecs s l b).pn = d.pn := rfl
@[simp] theorem raiseRecs_me (d : Dev) (s : Nat) (l : List Record) (b : Bool) : (d.raiseRecs s l b).me = d.me := rfl
@[simp] theorem raiseRecs_mo (d : Dev) (s : Nat) (l : List Record) (b : Bool) : (d.raiseRecs s l b).mo = d.mo := rfl
@[simp] theorem raiseRecs_lt (d : Dev) (s : Nat) (l : List Record) (b : Bool) : (d.raiseRecs s l b).lt = d.lt := rfl
@[simp] theorem raiseRecs_fuse (d : Dev) (s : Nat) (l : List Record) (b : Bool) : (d.raiseRecs s l b).fuse = d.fuse := rfl
@[simp] theorem raiseRecs_boot (d : Dev) (s : Nat) (l : List Record) (b : Bool) : (d.raiseRecs s l b).boot = d.boot := rfl
@[simp] theorem raiseRecs_vg (d : Dev) (s : Nat) (l : List Record) (b : Bool) : (d.raiseRecs s l b).vg = d.vg := rfl
@[simp] theorem raiseRecs_tap (d : Dev) (s : Nat) (l : List Record) (b : Bool) : (d.raiseRecs s l b).tap = d.tap := rfl
@[simp] theorem raiseRecs_freeCtr (d : Dev) (s : Nat) (l : List Record) (b : Bool) : (d.raiseRecs s l b).freeCtr = d.freeCtr := rfl
@[simp] theorem raiseRecs_cyc (d : Dev) (s : Nat) (l : List Record) (b : Bool) : (d.raiseRecs s l b).cyc = d.cyc := rfl

/-! `raise` -/
@[simp] theorem raise_regs (d : Dev) (typ s g : Nat) (l : List (Nat × Nat × Nat)) (b : Bool) : (d.raise typ s g l b).regs = d.regs := rfl
@[simp] theorem raise_mem (d : Dev) (typ s g : Nat) (l : List (Nat × Nat × Nat)) (b : Bool) : (d.raise typ s g l b).mem = d.mem := rfl
@[simp] theorem raise_tb (d : Dev) (typ s g : Nat) (l : List (Nat × Nat × Nat)) (b : Bool) : (d.raise typ s g l b).tb = d.tb := rfl
@[simp] theorem raise_axes (d : Dev) (typ s g : Nat) (l : List (Nat × Nat × Nat)) (b : Bool) : (d.raise typ s g l b).axes = d.axes := rfl
@[simp] theorem raise_trk (d : Dev) (typ s g : Nat) (l : List (Nat × Nat × Nat)) (b : Bool) : (d.raise typ s g l b).trk = d.trk := rfl
@[simp] theorem raise_qy (d : Dev) (typ s g : Nat) (l : List (Nat × Nat × Nat)) (b : Bool) : (d.raise typ s g l b).qy = d.qy := rfl
@[simp] theorem raise_pins (d : Dev) (typ s g : Nat) (l : List (Nat × Nat × Nat)) (b : Bool) : (d.raise typ s g l b).pins = d.pins := rfl
@[simp] theorem raise_dr (d : Dev) (typ s g : Nat) (l : List (Nat × Nat × Nat)) (b : Bool) : (d.raise typ s g l b).dr = d.dr := rfl
@[simp] theorem raise_sys (d : Dev) (typ s g : Nat) (l : List (Nat × Nat × Nat)) (b : Bool) : (d.raise typ s g l b).sys = d.sys := rfl
@[simp] theorem raise_cw (d : Dev) (typ s g : Nat) (l : List (Nat × Nat × Nat)) (b : Bool) : (d.raise typ s g l b).cw = d.cw := rfl
@[simp] theorem raise_hi (d : Dev) (typ s g : Nat) (l : List (Nat × Nat × Nat)) (b : Bool) : (d.raise typ s g l b).hi = d.hi := rfl
@[simp] theorem raise_lg (d : Dev) (typ s g : Nat) (l : List (Nat × Nat × Nat)) (b : Bool) : (d.raise typ s g l b).lg = d.lg := rfl
@[simp] theorem raise_sf (d : Dev) (typ s g : Nat) (l : List (Nat × Nat × Nat)) (b : Bool) : (d.raise typ s g l b).sf = d.sf := rfl
@[simp] theorem raise_pn (d : Dev) (typ s g : Nat) (l : List (Nat × Nat × Nat)) (b : Bool) : (d.raise typ s g l b).pn = d.pn := rfl
@[simp] theorem raise_me (d : Dev) (typ s g : Nat) (l : List (Nat × Nat × Nat)) (b : Bool) : (d.raise typ s g l b).me = d.me := rfl
@[simp] theorem raise_mo (d : Dev) (typ s g : Nat) (l : List (Nat × Nat × Nat)) (b : Bool) : (d.raise typ s g l b).mo = d.mo := rfl
@[simp] theorem raise_lt (d : Dev) (typ s g : Nat) (l : List (Nat × Nat × Nat)) (b : Bool) : (d.raise typ s g l b).lt = d.lt := rfl
@[simp] theorem raise_fuse (d : Dev) (typ s g : Nat) (l : List (Nat × Nat × Nat)) (b : Bool) : (d.raise typ s g l b).fuse = d.fuse := rfl
@[simp] theorem raise_boot (d : Dev) (typ s g : Nat) (l : List (Nat × Nat × Nat)) (b : Bool) : (d.raise typ s g l b).boot = d.boot := rfl
@[simp] theorem raise_vg (d : Dev) (typ s g : Nat) (l : List (Nat × Nat × Nat)) (b : Bool) : (d.raise typ s g l b).vg = d.vg := rfl
@[simp] theorem raise_tap (d : Dev) (typ s g : Nat) (l : List (Nat × Nat × Nat)) (b : Bool) : (d.raise typ s g l b).tap = d.tap := rfl
@[simp] theorem raise_freeCtr (d : Dev) (typ s g : Nat) (l : List (Nat × Nat × Nat)) (b : Bool) : (d.raise typ s g l b).freeCtr = d.freeCtr := rfl
@[simp] theorem raise_cyc (d : Dev) (typ s g : Nat) (l : List (Nat × Nat × Nat)) (b : Bool) : (d.raise typ s g l b).cyc = d.cyc := rfl

/-! `raiseSys` -/
@[simp] theorem raiseSys_regs (d : Dev) (s : Nat) (l : List (Nat × Nat × Nat)) : (d.raiseSys s l).regs = d.regs := rfl
@[simp] theorem raiseSys_mem (d : Dev) (s : Nat) (l : List (Nat × Nat × Nat)) : (d.raiseSys s l).mem = d.mem := rfl
@[simp] theorem raiseSys_tb (d : Dev) (s : Nat) (l : List (Nat × Nat × Nat)) : (d.raiseSys s l).tb = d.tb := rfl
@[simp] theorem raiseSys_axes (d : Dev) (s : Nat) (l : List (Nat × Nat × Nat)) : (d.raiseSys s l).axes = d.axes := rfl
@[simp] theorem raiseSys_trk (d : Dev) (s : Nat) (l : List (Nat × Nat × Nat)) : (d.raiseSys s l).trk = d.trk := rfl
@[simp] theorem raiseSys_qy (d : Dev) (s : Nat) (l : List (Nat × Nat × Nat)) : (d.raiseSys s l).qy = d.qy := rfl
@[simp] theorem raiseSys_pins (d : Dev) (s : Nat) (l : List (Nat × Nat × Nat)) : (d.raiseSys s l).pins = d.pins := rfl
@[simp] theorem raiseSys_dr (d : Dev) (s : Nat) (l : List (Nat × Nat × Nat)) : (d.raiseSys s l).dr = d.dr := rfl
@[simp] theorem raiseSys_sys (d : Dev) (s : Nat) (l : List (Nat × Nat × Nat)) : (d.raiseSys s l).sys = d.sys := rfl
@[simp] theorem raiseSys_cw (d : Dev) (s : Nat) (l : List (Nat × Nat × Nat)) : (d.raiseSys s l).cw = d.cw := rfl
@[simp] theorem raiseSys_hi (d : Dev) (s : Nat) (l : List (Nat × Nat × Nat)) : (d.raiseSys s l).hi = d.hi := rfl
@[simp] theorem raiseSys_lg (d : Dev) (s : Nat) (l : List (Nat × Nat × Nat)) : (d.raiseSys s l).lg = d.lg := rfl
@[simp] theorem raiseSys_sf (d : Dev) (s : Nat) (l : List (Nat × Nat × Nat)) : (d.raiseSys s l).sf = d.sf := rfl
@[simp] theorem raiseSys_pn (d : Dev) (s : Nat) (l : List (Nat × Nat × Nat)) : (d.raiseSys s l).pn = d.pn := rfl
@[simp] theorem raiseSys_me (d : Dev) (s : Nat) (l : List (Nat × Nat × Nat)) : (d.raiseSys s l).me = d.me := rfl
@[simp] theorem raiseSys_mo (d : Dev) (s : Nat) (l : List (Nat × Nat × Nat)) : (d.raiseSys s l).mo = d.mo := rfl
@[simp] theorem raiseSys_lt (d : Dev) (s : Nat) (l : List (Nat × Nat × Nat)) : (d.raiseSys s l).lt = d.lt := rfl
@[simp] theorem raiseSys_fuse (d : Dev) (s : Nat) (l : List (Nat × Nat × Nat)) : (d.raiseSys s l).fuse = d.fuse := rfl
@[simp] theorem raiseSys_boot (d : Dev) (s : Nat) (l : List (Nat × Nat × Nat)) : (d.raiseSys s l).boot = d.boot := rfl
@[simp] theorem raiseSys_vg (d : Dev) (s : Nat) (l : List (Nat × Nat × Nat)) : (d.raiseSys s l).vg = d.vg := rfl
@[simp] theorem raiseSys_tap (d : Dev) (s : Nat) (l : List (Nat × Nat × Nat)) : (d.raiseSys s l).tap = d.tap := rfl
@[simp] theorem raiseSys_freeCtr (d : Dev) (s : Nat) (l : List (Nat × Nat × Nat)) : (d.raiseSys s l).freeCtr = d.freeCtr := rfl
@[simp] theorem raiseSys_cyc (d : Dev) (s : Nat) (l : List (Nat × Nat × Nat)) : (d.raiseSys s l).cyc = d.cyc := rfl

/-! `raiseMode` -/
@[simp] theorem raiseMode_regs (d : Dev) (o : Nat) : (d.raiseMode o).regs = d.regs := rfl
@[simp] theorem raiseMode_mem (d : Dev) (o : Nat) : (d.raiseMode o).mem = d.mem := rfl
@[simp] theorem raiseMode_tb (d : Dev) (o : Nat) : (d.raiseMode o).tb = d.tb := rfl
@[simp] theorem raiseMode_axes (d : Dev) (o : Nat) : (d.raiseMode o).axes = d.axes := rfl
@[simp] theorem raiseMode_trk (d : Dev) (o : Nat) : (d.raiseMode o).trk = d.trk := rfl
@[simp] theorem raiseMode_qy (d : Dev) (o : Nat) : (d.raiseMode o).qy = d.qy := rfl
@[simp] theorem raiseMode_pins (d : Dev) (o : Nat) : (d.raiseMode o).pins = d.pins := rfl
@[simp] theorem raiseMode_dr (d : Dev) (o : Nat) : (d.raiseMode o).dr = d.dr := rfl
@[simp] theorem raiseMode_sys (d : Dev) (o : Nat) : (d.raiseMode o).sys = d.sys := rfl
@[simp] theorem raiseMode_cw (d : Dev) (o : Nat) : (d.raiseMode o).cw = d.cw := rfl
@[simp] theorem raiseMode_hi (d : Dev) (o : Nat) : (d.raiseMode o).hi = d.hi := rfl
@[simp] theorem raiseMode_lg (d : Dev) (o : Nat) : (d.raiseMode o).lg = d.lg := rfl
@[simp] theorem raiseMode_sf (d : Dev) (o : Nat) : (d.raiseMode o).sf = d.sf := rfl
@[simp] theorem raiseMode_pn (d : Dev) (o : Nat) : (d.raiseMode o).pn = d.pn := rfl
@[simp] theorem raiseMode_me (d : Dev) (o : Nat) : (d.raiseMode o).me = d.me := rfl
@[simp] theorem raiseMode_mo (d : Dev) (o : Nat) : (d.raiseMode o).mo = d.mo := rfl
@[simp] theorem raiseMode_lt (d : Dev) (o : Nat) : (d.raiseMode o).lt = d.lt := rfl
@[simp] theorem raiseMode_fuse (d : Dev) (o : Nat) : (d.raiseMode o).fuse = d.fuse := rfl
@[simp] theorem raiseMode_boot (d : Dev) (o : Nat) : (d.raiseMode o).boot = d.boot := rfl
@[simp] theorem raiseMode_vg (d : Dev) (o : Nat) : (d.raiseMode o).vg = d.vg := rfl
@[simp] theorem raiseMode_tap (d : Dev) (o : Nat) : (d.raiseMode o).tap = d.tap := rfl
@[simp] theorem raiseMode_freeCtr (d : Dev) (o : Nat) : (d.raiseMode o).freeCtr = d.freeCtr := rfl
@[simp] theorem raiseMode_cyc (d : Dev) (o : Nat) : (d.raiseMode o).cyc = d.cyc := rfl

/-! `logItem` -/
@[simp] theorem logItem_regs (d : Dev) (k : Nat) (l : List (Nat × Nat × Nat)) : (d.logItem k l).regs = d.regs := rfl
@[simp] theorem logItem_mem (d : Dev) (k : Nat) (l : List (Nat × Nat × Nat)) : (d.logItem k l).mem = d.mem := rfl
@[simp] theorem logItem_tb (d : Dev) (k : Nat) (l : List (Nat × Nat × Nat)) : (d.logItem k l).tb = d.tb := rfl
@[simp] theorem logItem_axes (d : Dev) (k : Nat) (l : List (Nat × Nat × Nat)) : (d.logItem k l).axes = d.axes := rfl
@[simp] theorem logItem_trk (d : Dev) (k : Nat) (l : List (Nat × Nat × Nat)) : (d.logItem k l).trk = d.trk := rfl
@[simp] theorem logItem_qy (d : Dev) (k : Nat) (l : List (Nat × Nat × Nat)) : (d.logItem k l).qy = d.qy := rfl
@[simp] theorem logItem_pins (d : Dev) (k : Nat) (l : List (Nat × Nat × Nat)) : (d.logItem k l).pins = d.pins := rfl
@[simp] theorem logItem_dr (d : Dev) (k : Nat) (l : List (Nat × Nat × Nat)) : (d.logItem k l).dr = d.dr := rfl
@[simp] theorem logItem_sys (d : Dev) (k : Nat) (l : List (Nat × Nat × Nat)) : (d.logItem k l).sys = d.sys := rfl
@[simp] theorem logItem_cw (d : Dev) (k : Nat) (l : List (Nat × Nat × Nat)) : (d.logItem k l).cw = d.cw := rfl
@[simp] theorem logItem_sl (d : Dev) (k : Nat) (l : List (Nat × Nat × Nat)) : (d.logItem k l).sl = d.sl := rfl
@[simp] theorem logItem_hi (d : Dev) (k : Nat) (l : List (Nat × Nat × Nat)) : (d.logItem k l).hi = d.hi := rfl
@[simp] theorem logItem_sf (d : Dev) (k : Nat) (l : List (Nat × Nat × Nat)) : (d.logItem k l).sf = d.sf := rfl
@[simp] theorem logItem_pn (d : Dev) (k : Nat) (l : List (Nat × Nat × Nat)) : (d.logItem k l).pn = d.pn := rfl
@[simp] theorem logItem_me (d : Dev) (k : Nat) (l : List (Nat × Nat × Nat)) : (d.logItem k l).me = d.me := rfl
@[simp] theorem logItem_mo (d : Dev) (k : Nat) (l : List (Nat × Nat × Nat)) : (d.logItem k l).mo = d.mo := rfl
@[simp] theorem logItem_lt (d : Dev) (k : Nat) (l : List (Nat × Nat × Nat)) : (d.logItem k l).lt = d.lt := rfl
@[simp] theorem logItem_fuse (d : Dev) (k : Nat) (l : List (Nat × Nat × Nat)) : (d.logItem k l).fuse = d.fuse := rfl
@[simp] theorem logItem_boot (d : Dev) (k : Nat) (l : List (Nat × Nat × Nat)) : (d.logItem k l).boot = d.boot := rfl
@[simp] theorem logItem_vg (d : Dev) (k : Nat) (l : List (Nat × Nat × Nat)) : (d.logItem k l).vg = d.vg := rfl
@[simp] theorem logItem_tap (d : Dev) (k : Nat) (l : List (Nat × Nat × Nat)) : (d.logItem k l).tap = d.tap := rfl
@[simp] theorem logItem_freeCtr (d : Dev) (k : Nat) (l : List (Nat × Nat × Nat)) : (d.logItem k l).freeCtr = d.freeCtr := rfl
@[simp] theorem logItem_cyc (d : Dev) (k : Nat) (l : List (Nat × Nat × Nat)) : (d.logItem k l).cyc = d.cyc := rfl

/-! `logRecord` -/
@[simp] theorem logRecord_regs (d : Dev) (k : Nat) (r : Record) : (d.logRecord k r).regs = d.regs := rfl
@[simp] theorem logRecord_mem (d : Dev) (k : Nat) (r : Record) : (d.logRecord k r).mem = d.mem := rfl
@[simp] theorem logRecord_tb (d : Dev) (k : Nat) (r : Record) : (d.logRecord k r).tb = d.tb := rfl
@[simp] theorem logRecord_axes (d : Dev) (k : Nat) (r : Record) : (d.logRecord k r).axes = d.axes := rfl
@[simp] theorem logRecord_trk (d : Dev) (k : Nat) (r : Record) : (d.logRecord k r).trk = d.trk := rfl
@[simp] theorem logRecord_qy (d : Dev) (k : Nat) (r : Record) : (d.logRecord k r).qy = d.qy := rfl
@[simp] theorem logRecord_pins (d : Dev) (k : Nat) (r : Record) : (d.logRecord k r).pins = d.pins := rfl
@[simp] theorem logRecord_dr (d : Dev) (k : Nat) (r : Record) : (d.logRecord k r).dr = d.dr := rfl
@[simp] theorem logRecord_sys (d : Dev) (k : Nat) (r : Record) : (d.logRecord k r).sys = d.sys := rfl
@[simp] theorem logRecord_cw (d : Dev) (k : Nat) (r : Record) : (d.logRecord k r).cw = d.cw := rfl
@[simp] theorem logRecord_sl (d : Dev) (k : Nat) (r : Record) : (d.logRecord k r).sl = d.sl := rfl
@[simp] theorem logRecord_hi (d : Dev) (k : Nat) (r : Record) : (d.logRecord k r).hi = d.hi := rfl
@[simp] theorem logRecord_sf (d : Dev) (k : Nat) (r : Record) : (d.logRecord k r).sf = d.sf := rfl
@[simp] theorem logRecord_pn (d : Dev) (k : Nat) (r : Record) : (d.logRecord k r).pn = d.pn := rfl
@[simp] theorem logRecord_me (d : Dev) (k : Nat) (r : Record) : (d.logRecord k r).me = d.me := rfl
@[simp] theorem logRecord_mo (d : Dev) (k : Nat) (r : Record) : (d.logRecord k r).mo = d.mo := rfl
@[simp] theorem logRecord_lt (d : Dev) (k : Nat) (r : Record) : (d.logRecord k r).lt = d.lt := rfl
@[simp] theorem logRecord_fuse (d : Dev) (k : Nat) (r : Record) : (d.logRecord k r).fuse = d.fuse := rfl
@[simp] theorem logRecord_boot (d : Dev) (k : Nat) (r : Record) : (d.logRecord k r).boot = d.boot := rfl
@[simp] theorem logRecord_vg (d : Dev) (k : Nat) (r : Record) : (d.logRecord k r).vg = d.vg := rfl
@[simp] theorem logRecord_tap (d : Dev) (k : Nat) (r : Record) : (d.logRecord k r).tap = d.tap := rfl
@[simp] theorem logRecord_freeCtr (d : Dev) (k : Nat) (r : Record) : (d.logRecord k r).freeCtr = d.freeCtr := rfl
@[simp] theorem logRecord_cyc (d : Dev) (k : Nat) (r : Record) : (d.logRecord k r).cyc = d.cyc := rfl

/-! `setLog` -/
@[simp] theorem setLog_regs (d : Dev) (l : Log) : (d.setLog l).regs = d.regs := rfl
@[simp] theorem setLog_mem (d : Dev) (l : Log) : (d.setLog l).mem = d.mem := rfl
@[simp] theorem setLog_tb (d : Dev) (l : Log) : (d.setLog l).tb = d.tb := rfl
@[simp] theorem setLog_axes (d : Dev) (l : Log) : (d.setLog l).axes = d.axes := rfl
@[simp] theorem setLog_trk (d : Dev) (l : Log) : (d.setLog l).trk = d.trk := rfl
@[simp] theorem setLog_qy (d : Dev) (l : Log) : (d.setLog l).qy = d.qy := rfl
@[simp] theorem setLog_pins (d : Dev) (l : Log) : (d.setLog l).pins = d.pins := rfl
@[simp] theorem setLog_dr (d : Dev) (l : Log) : (d.setLog l).dr = d.dr := rfl
@[simp] theorem setLog_sys (d : Dev) (l : Log) : (d.setLog l).sys = d.sys := rfl
@[simp] theorem setLog_cw (d : Dev) (l : Log) : (d.setLog l).cw = d.cw := rfl
@[simp] theorem setLog_sl (d : Dev) (l : Log) : (d.setLog l).sl = d.sl := rfl
@[simp] theorem setLog_hi (d : Dev) (l : Log) : (d.setLog l).hi = d.hi := rfl
@[simp] theorem setLog_sf (d : Dev) (l : Log) : (d.setLog l).sf = d.sf := rfl
@[simp] theorem setLog_pn (d : Dev) (l : Log) : (d.setLog l).pn = d.pn := rfl
@[simp] theorem setLog_me (d : Dev) (l : Log) : (d.setLog l).me = d.me := rfl
@[simp] theorem setLog_mo (d : Dev) (l : Log) : (d.setLog l).mo = d.mo := rfl
@[simp] theorem setLog_lt (d : Dev) (l : Log) : (d.setLog l).lt = d.lt := rfl
@[simp] theorem setLog_fuse (d : Dev) (l : Log) : (d.setLog l).fuse = d.fuse := rfl
@[simp] theorem setLog_boot (d : Dev) (l : Log) : (d.setLog l).boot = d.boot := rfl
@[simp] theorem setLog_vg (d : Dev) (l : Log) : (d.setLog l).vg = d.vg := rfl
@[simp] theorem setLog_tap (d : Dev) (l : Log) : (d.setLog l).tap = d.tap := rfl
@[simp] theorem setLog_freeCtr (d : Dev) (l : Log) : (d.setLog l).freeCtr = d.freeCtr := rfl
@[simp] theorem setLog_cyc (d : Dev) (l : Log) : (d.setLog l).cyc = d.cyc := rfl

/-! `setHq` -/
@[simp] theorem setHq_regs (d : Dev) (q : Nat) (x : HQueue) : (d.setHq q x).regs = d.regs := rfl
@[simp] theorem setHq_mem (d : Dev) (q : Nat) (x : HQueue) : (d.setHq q x).mem = d.mem := rfl
@[simp] theorem setHq_tb (d : Dev) (q : Nat) (x : HQueue) : (d.setHq q x).tb = d.tb := rfl
@[simp] theorem setHq_axes (d : Dev) (q : Nat) (x : HQueue) : (d.setHq q x).axes = d.axes := rfl
@[simp] theorem setHq_trk (d : Dev) (q : Nat) (x : HQueue) : (d.setHq q x).trk = d.trk := rfl
@[simp] theorem setHq_qy (d : Dev) (q : Nat) (x : HQueue) : (d.setHq q x).qy = d.qy := rfl
@[simp] theorem setHq_pins (d : Dev) (q : Nat) (x : HQueue) : (d.setHq q x).pins = d.pins := rfl
@[simp] theorem setHq_dr (d : Dev) (q : Nat) (x : HQueue) : (d.setHq q x).dr = d.dr := rfl
@[simp] theorem setHq_sys (d : Dev) (q : Nat) (x : HQueue) : (d.setHq q x).sys = d.sys := rfl
@[simp] theorem setHq_cw (d : Dev) (q : Nat) (x : HQueue) : (d.setHq q x).cw = d.cw := rfl
@[simp] theorem setHq_hi (d : Dev) (q : Nat) (x : HQueue) : (d.setHq q x).hi = d.hi := rfl
@[simp] theorem setHq_lg (d : Dev) (q : Nat) (x : HQueue) : (d.setHq q x).lg = d.lg := rfl
@[simp] theorem setHq_sf (d : Dev) (q : Nat) (x : HQueue) : (d.setHq q x).sf = d.sf := rfl
@[simp] theorem setHq_pn (d : Dev) (q : Nat) (x : HQueue) : (d.setHq q x).pn = d.pn := rfl
@[simp] theorem setHq_me (d : Dev) (q : Nat) (x : HQueue) : (d.setHq q x).me = d.me := rfl
@[simp] theorem setHq_mo (d : Dev) (q : Nat) (x : HQueue) : (d.setHq q x).mo = d.mo := rfl
@[simp] theorem setHq_lt (d : Dev) (q : Nat) (x : HQueue) : (d.setHq q x).lt = d.lt := rfl
@[simp] theorem setHq_fuse (d : Dev) (q : Nat) (x : HQueue) : (d.setHq q x).fuse = d.fuse := rfl
@[simp] theorem setHq_boot (d : Dev) (q : Nat) (x : HQueue) : (d.setHq q x).boot = d.boot := rfl
@[simp] theorem setHq_vg (d : Dev) (q : Nat) (x : HQueue) : (d.setHq q x).vg = d.vg := rfl
@[simp] theorem setHq_tap (d : Dev) (q : Nat) (x : HQueue) : (d.setHq q x).tap = d.tap := rfl
@[simp] theorem setHq_freeCtr (d : Dev) (q : Nat) (x : HQueue) : (d.setHq q x).freeCtr = d.freeCtr := rfl
@[simp] theorem setHq_cyc (d : Dev) (q : Nat) (x : HQueue) : (d.setHq q x).cyc = d.cyc := rfl

/-! `setRing` -/
@[simp] theorem setRing_regs (d : Dev) (m : Nat) (x : Ring) : (d.setRing m x).regs = d.regs := rfl
@[simp] theorem setRing_mem (d : Dev) (m : Nat) (x : Ring) : (d.setRing m x).mem = d.mem := rfl
@[simp] theorem setRing_tb (d : Dev) (m : Nat) (x : Ring) : (d.setRing m x).tb = d.tb := rfl
@[simp] theorem setRing_axes (d : Dev) (m : Nat) (x : Ring) : (d.setRing m x).axes = d.axes := rfl
@[simp] theorem setRing_trk (d : Dev) (m : Nat) (x : Ring) : (d.setRing m x).trk = d.trk := rfl
@[simp] theorem setRing_qy (d : Dev) (m : Nat) (x : Ring) : (d.setRing m x).qy = d.qy := rfl
@[simp] theorem setRing_pins (d : Dev) (m : Nat) (x : Ring) : (d.setRing m x).pins = d.pins := rfl
@[simp] theorem setRing_dr (d : Dev) (m : Nat) (x : Ring) : (d.setRing m x).dr = d.dr := rfl
@[simp] theorem setRing_sys (d : Dev) (m : Nat) (x : Ring) : (d.setRing m x).sys = d.sys := rfl
@[simp] theorem setRing_cw (d : Dev) (m : Nat) (x : Ring) : (d.setRing m x).cw = d.cw := rfl
@[simp] theorem setRing_sl (d : Dev) (m : Nat) (x : Ring) : (d.setRing m x).sl = d.sl := rfl
@[simp] theorem setRing_lg (d : Dev) (m : Nat) (x : Ring) : (d.setRing m x).lg = d.lg := rfl
@[simp] theorem setRing_sf (d : Dev) (m : Nat) (x : Ring) : (d.setRing m x).sf = d.sf := rfl
@[simp] theorem setRing_pn (d : Dev) (m : Nat) (x : Ring) : (d.setRing m x).pn = d.pn := rfl
@[simp] theorem setRing_me (d : Dev) (m : Nat) (x : Ring) : (d.setRing m x).me = d.me := rfl
@[simp] theorem setRing_mo (d : Dev) (m : Nat) (x : Ring) : (d.setRing m x).mo = d.mo := rfl
@[simp] theorem setRing_lt (d : Dev) (m : Nat) (x : Ring) : (d.setRing m x).lt = d.lt := rfl
@[simp] theorem setRing_fuse (d : Dev) (m : Nat) (x : Ring) : (d.setRing m x).fuse = d.fuse := rfl
@[simp] theorem setRing_boot (d : Dev) (m : Nat) (x : Ring) : (d.setRing m x).boot = d.boot := rfl
@[simp] theorem setRing_vg (d : Dev) (m : Nat) (x : Ring) : (d.setRing m x).vg = d.vg := rfl
@[simp] theorem setRing_tap (d : Dev) (m : Nat) (x : Ring) : (d.setRing m x).tap = d.tap := rfl
@[simp] theorem setRing_freeCtr (d : Dev) (m : Nat) (x : Ring) : (d.setRing m x).freeCtr = d.freeCtr := rfl
@[simp] theorem setRing_cyc (d : Dev) (m : Nat) (x : Ring) : (d.setRing m x).cyc = d.cyc := rfl

/-! `setFunc` -/
@[simp] theorem setFunc_regs (d : Dev) (f : Nat) (x : Func) : (d.setFunc f x).regs = d.regs := rfl
@[simp] theorem setFunc_mem (d : Dev) (f : Nat) (x : Func) : (d.setFunc f x).mem = d.mem := rfl
@[simp] theorem setFunc_tb (d : Dev) (f : Nat) (x : Func) : (d.setFunc f x).tb = d.tb := rfl
@[simp] theorem setFunc_axes (d : Dev) (f : Nat) (x : Func) : (d.setFunc f x).axes = d.axes := rfl
@[simp] theorem setFunc_trk (d : Dev) (f : Nat) (x : Func) : (d.setFunc f x).trk = d.trk := rfl
@[simp] theorem setFunc_qy (d : Dev) (f : Nat) (x : Func) : (d.setFunc f x).qy = d.qy := rfl
@[simp] theorem setFunc_pins (d : Dev) (f : Nat) (x : Func) : (d.setFunc f x).pins = d.pins := rfl
@[simp] theorem setFunc_dr (d : Dev) (f : Nat) (x : Func) : (d.setFunc f x).dr = d.dr := rfl
@[simp] theorem setFunc_sys (d : Dev) (f : Nat) (x : Func) : (d.setFunc f x).sys = d.sys := rfl
@[simp] theorem setFunc_cw (d : Dev) (f : Nat) (x : Func) : (d.setFunc f x).cw = d.cw := rfl
@[simp] theorem setFunc_sl (d : Dev) (f : Nat) (x : Func) : (d.setFunc f x).sl = d.sl := rfl
@[simp] theorem setFunc_lg (d : Dev) (f : Nat) (x : Func) : (d.setFunc f x).lg = d.lg := rfl
@[simp] theorem setFunc_sf (d : Dev) (f : Nat) (x : Func) : (d.setFunc f x).sf = d.sf := rfl
@[simp] theorem setFunc_pn (d : Dev) (f : Nat) (x : Func) : (d.setFunc f x).pn = d.pn := rfl
@[simp] theorem setFunc_me (d : Dev) (f : Nat) (x : Func) : (d.setFunc f x).me = d.me := rfl
@[simp] theorem setFunc_mo (d : Dev) (f : Nat) (x : Func) : (d.setFunc f x).mo = d.mo := rfl
@[simp] theorem setFunc_lt (d : Dev) (f : Nat) (x : Func) : (d.setFunc f x).lt = d.lt := rfl
@[simp] theorem setFunc_fuse (d : Dev) (f : Nat) (x : Func) : (d.setFunc f x).fuse = d.fuse := rfl
@[simp] theorem setFunc_boot (d : Dev) (f : Nat) (x : Func) : (d.setFunc f x).boot = d.boot := rfl
@[simp] theorem setFunc_vg (d : Dev) (f : Nat) (x : Func) : (d.setFunc f x).vg = d.vg := rfl
@[simp] theorem setFunc_tap (d : Dev) (f : Nat) (x : Func) : (d.setFunc f x).tap = d.tap := rfl
@[simp] theorem setFunc_freeCtr (d : Dev) (f : Nat) (x : Func) : (d.setFunc f x).freeCtr = d.freeCtr := rfl
@[simp] theorem setFunc_cyc (d : Dev) (f : Nat) (x : Func) : (d.setFunc f x).cyc = d.cyc := rfl

/-! `setSrc` -/
@[simp] theorem setSrc_regs (d : Dev) (s : Nat) (x : Src) : (d.setSrc s x).regs = d.regs := rfl
@[simp] theorem setSrc_mem (d : Dev) (s : Nat) (x : Src) : (d.setSrc s x).mem = d.mem := rfl
@[simp] theorem setSrc_tb (d : Dev) (s : Nat) (x : Src) : (d.setSrc s x).tb = d.tb := rfl
@[simp] theorem setSrc_axes (d : Dev) (s : Nat) (x : Src) : (d.setSrc s x).axes = d.axes := rfl
@[simp] theorem setSrc_trk (d : Dev) (s : Nat) (x : Src) : (d.setSrc s x).trk = d.trk := rfl
@[simp] theorem setSrc_qy (d : Dev) (s : Nat) (x : Src) : (d.setSrc s x).qy = d.qy := rfl
@[simp] theorem setSrc_pins (d : Dev) (s : Nat) (x : Src) : (d.setSrc s x).pins = d.pins := rfl
@[simp] theorem setSrc_dr (d : Dev) (s : Nat) (x : Src) : (d.setSrc s x).dr = d.dr := rfl
@[simp] theorem setSrc_sys (d : Dev) (s : Nat) (x : Src) : (d.setSrc s x).sys = d.sys := rfl
@[simp] theorem setSrc_cw (d : Dev) (s : Nat) (x : Src) : (d.setSrc s x).cw = d.cw := rfl
@[simp] theorem setSrc_hi (d : Dev) (s : Nat) (x : Src) : (d.setSrc s x).hi = d.hi := rfl
@[simp] theorem setSrc_lg (d : Dev) (s : Nat) (x : Src) : (d.setSrc s x).lg = d.lg := rfl
@[simp] theorem setSrc_sf (d : Dev) (s : Nat) (x : Src) : (d.setSrc s x).sf = d.sf := rfl
@[simp] theorem setSrc_pn (d : Dev) (s : Nat) (x : Src) : (d.setSrc s x).pn = d.pn := rfl
@[simp] theorem setSrc_me (d : Dev) (s : Nat) (x : Src) : (d.setSrc s x).me = d.me := rfl
@[simp] theorem setSrc_mo (d : Dev) (s : Nat) (x : Src) : (d.setSrc s x).mo = d.mo := rfl
@[simp] theorem setSrc_lt (d : Dev) (s : Nat) (x : Src) : (d.setSrc s x).lt = d.lt := rfl
@[simp] theorem setSrc_fuse (d : Dev) (s : Nat) (x : Src) : (d.setSrc s x).fuse = d.fuse := rfl
@[simp] theorem setSrc_boot (d : Dev) (s : Nat) (x : Src) : (d.setSrc s x).boot = d.boot := rfl
@[simp] theorem setSrc_vg (d : Dev) (s : Nat) (x : Src) : (d.setSrc s x).vg = d.vg := rfl
@[simp] theorem setSrc_tap (d : Dev) (s : Nat) (x : Src) : (d.setSrc s x).tap = d.tap := rfl
@[simp] theorem setSrc_freeCtr (d : Dev) (s : Nat) (x : Src) : (d.setSrc s x).freeCtr = d.freeCtr := rfl
@[simp] theorem setSrc_cyc (d : Dev) (s : Nat) (x : Src) : (d.setSrc s x).cyc = d.cyc := rfl

/-! `setGrp` -/
@[simp] theorem setGrp_regs (d : Dev) (g : Nat) (x : Group) : (d.setGrp g x).regs = d.regs := rfl
@[simp] theorem setGrp_mem (d : Dev) (g : Nat) (x : Group) : (d.setGrp g x).mem = d.mem := rfl
@[simp] theorem setGrp_tb (d : Dev) (g : Nat) (x : Group) : (d.setGrp g x).tb = d.tb := rfl
@[simp] theorem setGrp_axes (d : Dev) (g : Nat) (x : Group) : (d.setGrp g x).axes = d.axes := rfl
@[simp] theorem setGrp_trk (d : Dev) (g : Nat) (x : Group) : (d.setGrp g x).trk = d.trk := rfl
@[simp] theorem setGrp_qy (d : Dev) (g : Nat) (x : Group) : (d.setGrp g x).qy = d.qy := rfl
@[simp] theorem setGrp_pins (d : Dev) (g : Nat) (x : Group) : (d.setGrp g x).pins = d.pins := rfl
@[simp] theorem setGrp_dr (d : Dev) (g : Nat) (x : Group) : (d.setGrp g x).dr = d.dr := rfl
@[simp] theorem setGrp_sys (d : Dev) (g : Nat) (x : Group) : (d.setGrp g x).sys = d.sys := rfl
@[simp] theorem setGrp_cw (d : Dev) (g : Nat) (x : Group) : (d.setGrp g x).cw = d.cw := rfl
@[simp] theorem setGrp_hi (d : Dev) (g : Nat) (x : Group) : (d.setGrp g x).hi = d.hi := rfl
@[simp] theorem setGrp_lg (d : Dev) (g : Nat) (x : Group) : (d.setGrp g x).lg = d.lg := rfl
@[simp] theorem setGrp_sf (d : Dev) (g : Nat) (x : Group) : (d.setGrp g x).sf = d.sf := rfl
@[simp] theorem setGrp_pn (d : Dev) (g : Nat) (x : Group) : (d.setGrp g x).pn = d.pn := rfl
@[simp] theorem setGrp_me (d : Dev) (g : Nat) (x : Group) : (d.setGrp g x).me = d.me := rfl
@[simp] theorem setGrp_mo (d : Dev) (g : Nat) (x : Group) : (d.setGrp g x).mo = d.mo := rfl
@[simp] theorem setGrp_lt (d : Dev) (g : Nat) (x : Group) : (d.setGrp g x).lt = d.lt := rfl
@[simp] theorem setGrp_fuse (d : Dev) (g : Nat) (x : Group) : (d.setGrp g x).fuse = d.fuse := rfl
@[simp] theorem setGrp_boot (d : Dev) (g : Nat) (x : Group) : (d.setGrp g x).boot = d.boot := rfl
@[simp] theorem setGrp_vg (d : Dev) (g : Nat) (x : Group) : (d.setGrp g x).vg = d.vg := rfl
@[simp] theorem setGrp_tap (d : Dev) (g : Nat) (x : Group) : (d.setGrp g x).tap = d.tap := rfl
@[simp] theorem setGrp_freeCtr (d : Dev) (g : Nat) (x : Group) : (d.setGrp g x).freeCtr = d.freeCtr := rfl
@[simp] theorem setGrp_cyc (d : Dev) (g : Nat) (x : Group) : (d.setGrp g x).cyc = d.cyc := rfl

/-! `setChan` -/
@[simp] theorem setChan_regs (d : Dev) (c : Nat) (x : Chan) : (d.setChan c x).regs = d.regs := rfl
@[simp] theorem setChan_mem (d : Dev) (c : Nat) (x : Chan) : (d.setChan c x).mem = d.mem := rfl
@[simp] theorem setChan_tb (d : Dev) (c : Nat) (x : Chan) : (d.setChan c x).tb = d.tb := rfl
@[simp] theorem setChan_axes (d : Dev) (c : Nat) (x : Chan) : (d.setChan c x).axes = d.axes := rfl
@[simp] theorem setChan_trk (d : Dev) (c : Nat) (x : Chan) : (d.setChan c x).trk = d.trk := rfl
@[simp] theorem setChan_pins (d : Dev) (c : Nat) (x : Chan) : (d.setChan c x).pins = d.pins := rfl
@[simp] theorem setChan_dr (d : Dev) (c : Nat) (x : Chan) : (d.setChan c x).dr = d.dr := rfl
@[simp] theorem setChan_sys (d : Dev) (c : Nat) (x : Chan) : (d.setChan c x).sys = d.sys := rfl
@[simp] theorem setChan_cw (d : Dev) (c : Nat) (x : Chan) : (d.setChan c x).cw = d.cw := rfl
@[simp] theorem setChan_sl (d : Dev) (c : Nat) (x : Chan) : (d.setChan c x).sl = d.sl := rfl
@[simp] theorem setChan_hi (d : Dev) (c : Nat) (x : Chan) : (d.setChan c x).hi = d.hi := rfl
@[simp] theorem setChan_lg (d : Dev) (c : Nat) (x : Chan) : (d.setChan c x).lg = d.lg := rfl
@[simp] theorem setChan_sf (d : Dev) (c : Nat) (x : Chan) : (d.setChan c x).sf = d.sf := rfl
@[simp] theorem setChan_pn (d : Dev) (c : Nat) (x : Chan) : (d.setChan c x).pn = d.pn := rfl
@[simp] theorem setChan_me (d : Dev) (c : Nat) (x : Chan) : (d.setChan c x).me = d.me := rfl
@[simp] theorem setChan_mo (d : Dev) (c : Nat) (x : Chan) : (d.setChan c x).mo = d.mo := rfl
@[simp] theorem setChan_lt (d : Dev) (c : Nat) (x : Chan) : (d.setChan c x).lt = d.lt := rfl
@[simp] theorem setChan_fuse (d : Dev) (c : Nat) (x : Chan) : (d.setChan c x).fuse = d.fuse := rfl
@[simp] theorem setChan_boot (d : Dev) (c : Nat) (x : Chan) : (d.setChan c x).boot = d.boot := rfl
@[simp] theorem setChan_vg (d : Dev) (c : Nat) (x : Chan) : (d.setChan c x).vg = d.vg := rfl
@[simp] theorem setChan_tap (d : Dev) (c : Nat) (x : Chan) : (d.setChan c x).tap = d.tap := rfl
@[simp] theorem setChan_freeCtr (d : Dev) (c : Nat) (x : Chan) : (d.setChan c x).freeCtr = d.freeCtr := rfl
@[simp] theorem setChan_cyc (d : Dev) (c : Nat) (x : Chan) : (d.setChan c x).cyc = d.cyc := rfl

/-! `setQuay` -/
@[simp] theorem setQuay_regs (d : Dev) (q : Nat) (x : Quay) : (d.setQuay q x).regs = d.regs := rfl
@[simp] theorem setQuay_mem (d : Dev) (q : Nat) (x : Quay) : (d.setQuay q x).mem = d.mem := rfl
@[simp] theorem setQuay_tb (d : Dev) (q : Nat) (x : Quay) : (d.setQuay q x).tb = d.tb := rfl
@[simp] theorem setQuay_axes (d : Dev) (q : Nat) (x : Quay) : (d.setQuay q x).axes = d.axes := rfl
@[simp] theorem setQuay_trk (d : Dev) (q : Nat) (x : Quay) : (d.setQuay q x).trk = d.trk := rfl
@[simp] theorem setQuay_pins (d : Dev) (q : Nat) (x : Quay) : (d.setQuay q x).pins = d.pins := rfl
@[simp] theorem setQuay_dr (d : Dev) (q : Nat) (x : Quay) : (d.setQuay q x).dr = d.dr := rfl
@[simp] theorem setQuay_sys (d : Dev) (q : Nat) (x : Quay) : (d.setQuay q x).sys = d.sys := rfl
@[simp] theorem setQuay_cw (d : Dev) (q : Nat) (x : Quay) : (d.setQuay q x).cw = d.cw := rfl
@[simp] theorem setQuay_sl (d : Dev) (q : Nat) (x : Quay) : (d.setQuay q x).sl = d.sl := rfl
@[simp] theorem setQuay_hi (d : Dev) (q : Nat) (x : Quay) : (d.setQuay q x).hi = d.hi := rfl
@[simp] theorem setQuay_lg (d : Dev) (q : Nat) (x : Quay) : (d.setQuay q x).lg = d.lg := rfl
@[simp] theorem setQuay_sf (d : Dev) (q : Nat) (x : Quay) : (d.setQuay q x).sf = d.sf := rfl
@[simp] theorem setQuay_pn (d : Dev) (q : Nat) (x : Quay) : (d.setQuay q x).pn = d.pn := rfl
@[simp] theorem setQuay_me (d : Dev) (q : Nat) (x : Quay) : (d.setQuay q x).me = d.me := rfl
@[simp] theorem setQuay_mo (d : Dev) (q : Nat) (x : Quay) : (d.setQuay q x).mo = d.mo := rfl
@[simp] theorem setQuay_lt (d : Dev) (q : Nat) (x : Quay) : (d.setQuay q x).lt = d.lt := rfl
@[simp] theorem setQuay_fuse (d : Dev) (q : Nat) (x : Quay) : (d.setQuay q x).fuse = d.fuse := rfl
@[simp] theorem setQuay_boot (d : Dev) (q : Nat) (x : Quay) : (d.setQuay q x).boot = d.boot := rfl
@[simp] theorem setQuay_vg (d : Dev) (q : Nat) (x : Quay) : (d.setQuay q x).vg = d.vg := rfl
@[simp] theorem setQuay_tap (d : Dev) (q : Nat) (x : Quay) : (d.setQuay q x).tap = d.tap := rfl
@[simp] theorem setQuay_freeCtr (d : Dev) (q : Nat) (x : Quay) : (d.setQuay q x).freeCtr = d.freeCtr := rfl
@[simp] theorem setQuay_cyc (d : Dev) (q : Nat) (x : Quay) : (d.setQuay q x).cyc = d.cyc := rfl

/-! `setPhysQ` -/
@[simp] theorem setPhysQ_regs (d : Dev) (p : Nat) (x : PhysQuay) : (d.setPhysQ p x).regs = d.regs := rfl
@[simp] theorem setPhysQ_mem (d : Dev) (p : Nat) (x : PhysQuay) : (d.setPhysQ p x).mem = d.mem := rfl
@[simp] theorem setPhysQ_tb (d : Dev) (p : Nat) (x : PhysQuay) : (d.setPhysQ p x).tb = d.tb := rfl
@[simp] theorem setPhysQ_axes (d : Dev) (p : Nat) (x : PhysQuay) : (d.setPhysQ p x).axes = d.axes := rfl
@[simp] theorem setPhysQ_trk (d : Dev) (p : Nat) (x : PhysQuay) : (d.setPhysQ p x).trk = d.trk := rfl
@[simp] theorem setPhysQ_pins (d : Dev) (p : Nat) (x : PhysQuay) : (d.setPhysQ p x).pins = d.pins := rfl
@[simp] theorem setPhysQ_dr (d : Dev) (p : Nat) (x : PhysQuay) : (d.setPhysQ p x).dr = d.dr := rfl
@[simp] theorem setPhysQ_sys (d : Dev) (p : Nat) (x : PhysQuay) : (d.setPhysQ p x).sys = d.sys := rfl
@[simp] theorem setPhysQ_cw (d : Dev) (p : Nat) (x : PhysQuay) : (d.setPhysQ p x).cw = d.cw := rfl
@[simp] theorem setPhysQ_sl (d : Dev) (p : Nat) (x : PhysQuay) : (d.setPhysQ p x).sl = d.sl := rfl
@[simp] theorem setPhysQ_hi (d : Dev) (p : Nat) (x : PhysQuay) : (d.setPhysQ p x).hi = d.hi := rfl
@[simp] theorem setPhysQ_lg (d : Dev) (p : Nat) (x : PhysQuay) : (d.setPhysQ p x).lg = d.lg := rfl
@[simp] theorem setPhysQ_sf (d : Dev) (p : Nat) (x : PhysQuay) : (d.setPhysQ p x).sf = d.sf := rfl
@[simp] theorem setPhysQ_pn (d : Dev) (p : Nat) (x : PhysQuay) : (d.setPhysQ p x).pn = d.pn := rfl
@[simp] theorem setPhysQ_me (d : Dev) (p : Nat) (x : PhysQuay) : (d.setPhysQ p x).me = d.me := rfl
@[simp] theorem setPhysQ_mo (d : Dev) (p : Nat) (x : PhysQuay) : (d.setPhysQ p x).mo = d.mo := rfl
@[simp] theorem setPhysQ_lt (d : Dev) (p : Nat) (x : PhysQuay) : (d.setPhysQ p x).lt = d.lt := rfl
@[simp] theorem setPhysQ_fuse (d : Dev) (p : Nat) (x : PhysQuay) : (d.setPhysQ p x).fuse = d.fuse := rfl
@[simp] theorem setPhysQ_boot (d : Dev) (p : Nat) (x : PhysQuay) : (d.setPhysQ p x).boot = d.boot := rfl
@[simp] theorem setPhysQ_vg (d : Dev) (p : Nat) (x : PhysQuay) : (d.setPhysQ p x).vg = d.vg := rfl
@[simp] theorem setPhysQ_tap (d : Dev) (p : Nat) (x : PhysQuay) : (d.setPhysQ p x).tap = d.tap := rfl
@[simp] theorem setPhysQ_freeCtr (d : Dev) (p : Nat) (x : PhysQuay) : (d.setPhysQ p x).freeCtr = d.freeCtr := rfl
@[simp] theorem setPhysQ_cyc (d : Dev) (p : Nat) (x : PhysQuay) : (d.setPhysQ p x).cyc = d.cyc := rfl

/-! `setPin` -/
@[simp] theorem setPin_regs (d : Dev) (n : Nat) (x : Pin) : (d.setPin n x).regs = d.regs := rfl
@[simp] theorem setPin_mem (d : Dev) (n : Nat) (x : Pin) : (d.setPin n x).mem = d.mem := rfl
@[simp] theorem setPin_tb (d : Dev) (n : Nat) (x : Pin) : (d.setPin n x).tb = d.tb := rfl
@[simp] theorem setPin_axes (d : Dev) (n : Nat) (x : Pin) : (d.setPin n x).axes = d.axes := rfl
@[simp] theorem setPin_trk (d : Dev) (n : Nat) (x : Pin) : (d.setPin n x).trk = d.trk := rfl
@[simp] theorem setPin_qy (d : Dev) (n : Nat) (x : Pin) : (d.setPin n x).qy = d.qy := rfl
@[simp] theorem setPin_dr (d : Dev) (n : Nat) (x : Pin) : (d.setPin n x).dr = d.dr := rfl
@[simp] theorem setPin_sys (d : Dev) (n : Nat) (x : Pin) : (d.setPin n x).sys = d.sys := rfl
@[simp] theorem setPin_cw (d : Dev) (n : Nat) (x : Pin) : (d.setPin n x).cw = d.cw := rfl
@[simp] theorem setPin_sl (d : Dev) (n : Nat) (x : Pin) : (d.setPin n x).sl = d.sl := rfl
@[simp] theorem setPin_hi (d : Dev) (n : Nat) (x : Pin) : (d.setPin n x).hi = d.hi := rfl
@[simp] theorem setPin_lg (d : Dev) (n : Nat) (x : Pin) : (d.setPin n x).lg = d.lg := rfl
@[simp] theorem setPin_sf (d : Dev) (n : Nat) (x : Pin) : (d.setPin n x).sf = d.sf := rfl
@[simp] theorem setPin_pn (d : Dev) (n : Nat) (x : Pin) : (d.setPin n x).pn = d.pn := rfl
@[simp] theorem setPin_me (d : Dev) (n : Nat) (x : Pin) : (d.setPin n x).me = d.me := rfl
@[simp] theorem setPin_mo (d : Dev) (n : Nat) (x : Pin) : (d.setPin n x).mo = d.mo := rfl
@[simp] theorem setPin_lt (d : Dev) (n : Nat) (x : Pin) : (d.setPin n x).lt = d.lt := rfl
@[simp] theorem setPin_fuse (d : Dev) (n : Nat) (x : Pin) : (d.setPin n x).fuse = d.fuse := rfl
@[simp] theorem setPin_boot (d : Dev) (n : Nat) (x : Pin) : (d.setPin n x).boot = d.boot := rfl
@[simp] theorem setPin_vg (d : Dev) (n : Nat) (x : Pin) : (d.setPin n x).vg = d.vg := rfl
@[simp] theorem setPin_tap (d : Dev) (n : Nat) (x : Pin) : (d.setPin n x).tap = d.tap := rfl
@[simp] theorem setPin_freeCtr (d : Dev) (n : Nat) (x : Pin) : (d.setPin n x).freeCtr = d.freeCtr := rfl
@[simp] theorem setPin_cyc (d : Dev) (n : Nat) (x : Pin) : (d.setPin n x).cyc = d.cyc := rfl

/-! `setPne` -/
@[simp] theorem setPne_regs (d : Dev) (n : Nat) (x : PinEngine) : (d.setPne n x).regs = d.regs := rfl
@[simp] theorem setPne_mem (d : Dev) (n : Nat) (x : PinEngine) : (d.setPne n x).mem = d.mem := rfl
@[simp] theorem setPne_tb (d : Dev) (n : Nat) (x : PinEngine) : (d.setPne n x).tb = d.tb := rfl
@[simp] theorem setPne_axes (d : Dev) (n : Nat) (x : PinEngine) : (d.setPne n x).axes = d.axes := rfl
@[simp] theorem setPne_trk (d : Dev) (n : Nat) (x : PinEngine) : (d.setPne n x).trk = d.trk := rfl
@[simp] theorem setPne_qy (d : Dev) (n : Nat) (x : PinEngine) : (d.setPne n x).qy = d.qy := rfl
@[simp] theorem setPne_pins (d : Dev) (n : Nat) (x : PinEngine) : (d.setPne n x).pins = d.pins := rfl
@[simp] theorem setPne_dr (d : Dev) (n : Nat) (x : PinEngine) : (d.setPne n x).dr = d.dr := rfl
@[simp] theorem setPne_sys (d : Dev) (n : Nat) (x : PinEngine) : (d.setPne n x).sys = d.sys := rfl
@[simp] theorem setPne_cw (d : Dev) (n : Nat) (x : PinEngine) : (d.setPne n x).cw = d.cw := rfl
@[simp] theorem setPne_sl (d : Dev) (n : Nat) (x : PinEngine) : (d.setPne n x).sl = d.sl := rfl
@[simp] theorem setPne_hi (d : Dev) (n : Nat) (x : PinEngine) : (d.setPne n x).hi = d.hi := rfl
@[simp] theorem setPne_lg (d : Dev) (n : Nat) (x : PinEngine) : (d.setPne n x).lg = d.lg := rfl
@[simp] theorem setPne_sf (d : Dev) (n : Nat) (x : PinEngine) : (d.setPne n x).sf = d.sf := rfl
@[simp] theorem setPne_me (d : Dev) (n : Nat) (x : PinEngine) : (d.setPne n x).me = d.me := rfl
@[simp] theorem setPne_mo (d : Dev) (n : Nat) (x : PinEngine) : (d.setPne n x).mo = d.mo := rfl
@[simp] theorem setPne_lt (d : Dev) (n : Nat) (x : PinEngine) : (d.setPne n x).lt = d.lt := rfl
@[simp] theorem setPne_fuse (d : Dev) (n : Nat) (x : PinEngine) : (d.setPne n x).fuse = d.fuse := rfl
@[simp] theorem setPne_boot (d : Dev) (n : Nat) (x : PinEngine) : (d.setPne n x).boot = d.boot := rfl
@[simp] theorem setPne_vg (d : Dev) (n : Nat) (x : PinEngine) : (d.setPne n x).vg = d.vg := rfl
@[simp] theorem setPne_tap (d : Dev) (n : Nat) (x : PinEngine) : (d.setPne n x).tap = d.tap := rfl
@[simp] theorem setPne_freeCtr (d : Dev) (n : Nat) (x : PinEngine) : (d.setPne n x).freeCtr = d.freeCtr := rfl
@[simp] theorem setPne_cyc (d : Dev) (n : Nat) (x : PinEngine) : (d.setPne n x).cyc = d.cyc := rfl

/-! `setLt` -/
@[simp] theorem setLt_regs (d : Dev) (c : Nat) (x : Lt) : (d.setLt c x).regs = d.regs := rfl
@[simp] theorem setLt_mem (d : Dev) (c : Nat) (x : Lt) : (d.setLt c x).mem = d.mem := rfl
@[simp] theorem setLt_tb (d : Dev) (c : Nat) (x : Lt) : (d.setLt c x).tb = d.tb := rfl
@[simp] theorem setLt_axes (d : Dev) (c : Nat) (x : Lt) : (d.setLt c x).axes = d.axes := rfl
@[simp] theorem setLt_trk (d : Dev) (c : Nat) (x : Lt) : (d.setLt c x).trk = d.trk := rfl
@[simp] theorem setLt_qy (d : Dev) (c : Nat) (x : Lt) : (d.setLt c x).qy = d.qy := rfl
@[simp] theorem setLt_pins (d : Dev) (c : Nat) (x : Lt) : (d.setLt c x).pins = d.pins := rfl
@[simp] theorem setLt_dr (d : Dev) (c : Nat) (x : Lt) : (d.setLt c x).dr = d.dr := rfl
@[simp] theorem setLt_sys (d : Dev) (c : Nat) (x : Lt) : (d.setLt c x).sys = d.sys := rfl
@[simp] theorem setLt_cw (d : Dev) (c : Nat) (x : Lt) : (d.setLt c x).cw = d.cw := rfl
@[simp] theorem setLt_sl (d : Dev) (c : Nat) (x : Lt) : (d.setLt c x).sl = d.sl := rfl
@[simp] theorem setLt_hi (d : Dev) (c : Nat) (x : Lt) : (d.setLt c x).hi = d.hi := rfl
@[simp] theorem setLt_lg (d : Dev) (c : Nat) (x : Lt) : (d.setLt c x).lg = d.lg := rfl
@[simp] theorem setLt_sf (d : Dev) (c : Nat) (x : Lt) : (d.setLt c x).sf = d.sf := rfl
@[simp] theorem setLt_pn (d : Dev) (c : Nat) (x : Lt) : (d.setLt c x).pn = d.pn := rfl
@[simp] theorem setLt_me (d : Dev) (c : Nat) (x : Lt) : (d.setLt c x).me = d.me := rfl
@[simp] theorem setLt_mo (d : Dev) (c : Nat) (x : Lt) : (d.setLt c x).mo = d.mo := rfl
@[simp] theorem setLt_fuse (d : Dev) (c : Nat) (x : Lt) : (d.setLt c x).fuse = d.fuse := rfl
@[simp] theorem setLt_boot (d : Dev) (c : Nat) (x : Lt) : (d.setLt c x).boot = d.boot := rfl
@[simp] theorem setLt_vg (d : Dev) (c : Nat) (x : Lt) : (d.setLt c x).vg = d.vg := rfl
@[simp] theorem setLt_tap (d : Dev) (c : Nat) (x : Lt) : (d.setLt c x).tap = d.tap := rfl
@[simp] theorem setLt_freeCtr (d : Dev) (c : Nat) (x : Lt) : (d.setLt c x).freeCtr = d.freeCtr := rfl
@[simp] theorem setLt_cyc (d : Dev) (c : Nat) (x : Lt) : (d.setLt c x).cyc = d.cyc := rfl

/-! `setCwp` -/
@[simp] theorem setCwp_regs (d : Dev) (p : Nat) (x : CwPort) : (d.setCwp p x).regs = d.regs := rfl
@[simp] theorem setCwp_mem (d : Dev) (p : Nat) (x : CwPort) : (d.setCwp p x).mem = d.mem := rfl
@[simp] theorem setCwp_tb (d : Dev) (p : Nat) (x : CwPort) : (d.setCwp p x).tb = d.tb := rfl
@[simp] theorem setCwp_axes (d : Dev) (p : Nat) (x : CwPort) : (d.setCwp p x).axes = d.axes := rfl
@[simp] theorem setCwp_trk (d : Dev) (p : Nat) (x : CwPort) : (d.setCwp p x).trk = d.trk := rfl
@[simp] theorem setCwp_qy (d : Dev) (p : Nat) (x : CwPort) : (d.setCwp p x).qy = d.qy := rfl
@[simp] theorem setCwp_pins (d : Dev) (p : Nat) (x : CwPort) : (d.setCwp p x).pins = d.pins := rfl
@[simp] theorem setCwp_dr (d : Dev) (p : Nat) (x : CwPort) : (d.setCwp p x).dr = d.dr := rfl
@[simp] theorem setCwp_sys (d : Dev) (p : Nat) (x : CwPort) : (d.setCwp p x).sys = d.sys := rfl
@[simp] theorem setCwp_sl (d : Dev) (p : Nat) (x : CwPort) : (d.setCwp p x).sl = d.sl := rfl
@[simp] theorem setCwp_hi (d : Dev) (p : Nat) (x : CwPort) : (d.setCwp p x).hi = d.hi := rfl
@[simp] theorem setCwp_lg (d : Dev) (p : Nat) (x : CwPort) : (d.setCwp p x).lg = d.lg := rfl
@[simp] theorem setCwp_sf (d : Dev) (p : Nat) (x : CwPort) : (d.setCwp p x).sf = d.sf := rfl
@[simp] theorem setCwp_pn (d : Dev) (p : Nat) (x : CwPort) : (d.setCwp p x).pn = d.pn := rfl
@[simp] theorem setCwp_me (d : Dev) (p : Nat) (x : CwPort) : (d.setCwp p x).me = d.me := rfl
@[simp] theorem setCwp_mo (d : Dev) (p : Nat) (x : CwPort) : (d.setCwp p x).mo = d.mo := rfl
@[simp] theorem setCwp_lt (d : Dev) (p : Nat) (x : CwPort) : (d.setCwp p x).lt = d.lt := rfl
@[simp] theorem setCwp_fuse (d : Dev) (p : Nat) (x : CwPort) : (d.setCwp p x).fuse = d.fuse := rfl
@[simp] theorem setCwp_boot (d : Dev) (p : Nat) (x : CwPort) : (d.setCwp p x).boot = d.boot := rfl
@[simp] theorem setCwp_vg (d : Dev) (p : Nat) (x : CwPort) : (d.setCwp p x).vg = d.vg := rfl
@[simp] theorem setCwp_tap (d : Dev) (p : Nat) (x : CwPort) : (d.setCwp p x).tap = d.tap := rfl
@[simp] theorem setCwp_freeCtr (d : Dev) (p : Nat) (x : CwPort) : (d.setCwp p x).freeCtr = d.freeCtr := rfl
@[simp] theorem setCwp_cyc (d : Dev) (p : Nat) (x : CwPort) : (d.setCwp p x).cyc = d.cyc := rfl

/-! `setEng` -/
@[simp] theorem setEng_regs (d : Dev) (p : Nat) (x : Engine) : (d.setEng p x).regs = d.regs := rfl
@[simp] theorem setEng_mem (d : Dev) (p : Nat) (x : Engine) : (d.setEng p x).mem = d.mem := rfl
@[simp] theorem setEng_tb (d : Dev) (p : Nat) (x : Engine) : (d.setEng p x).tb = d.tb := rfl
@[simp] theorem setEng_axes (d : Dev) (p : Nat) (x : Engine) : (d.setEng p x).axes = d.axes := rfl
@[simp] theorem setEng_trk (d : Dev) (p : Nat) (x : Engine) : (d.setEng p x).trk = d.trk := rfl
@[simp] theorem setEng_qy (d : Dev) (p : Nat) (x : Engine) : (d.setEng p x).qy = d.qy := rfl
@[simp] theorem setEng_pins (d : Dev) (p : Nat) (x : Engine) : (d.setEng p x).pins = d.pins := rfl
@[simp] theorem setEng_dr (d : Dev) (p : Nat) (x : Engine) : (d.setEng p x).dr = d.dr := rfl
@[simp] theorem setEng_sys (d : Dev) (p : Nat) (x : Engine) : (d.setEng p x).sys = d.sys := rfl
@[simp] theorem setEng_cw (d : Dev) (p : Nat) (x : Engine) : (d.setEng p x).cw = d.cw := rfl
@[simp] theorem setEng_sl (d : Dev) (p : Nat) (x : Engine) : (d.setEng p x).sl = d.sl := rfl
@[simp] theorem setEng_hi (d : Dev) (p : Nat) (x : Engine) : (d.setEng p x).hi = d.hi := rfl
@[simp] theorem setEng_lg (d : Dev) (p : Nat) (x : Engine) : (d.setEng p x).lg = d.lg := rfl
@[simp] theorem setEng_sf (d : Dev) (p : Nat) (x : Engine) : (d.setEng p x).sf = d.sf := rfl
@[simp] theorem setEng_pn (d : Dev) (p : Nat) (x : Engine) : (d.setEng p x).pn = d.pn := rfl
@[simp] theorem setEng_mo (d : Dev) (p : Nat) (x : Engine) : (d.setEng p x).mo = d.mo := rfl
@[simp] theorem setEng_lt (d : Dev) (p : Nat) (x : Engine) : (d.setEng p x).lt = d.lt := rfl
@[simp] theorem setEng_fuse (d : Dev) (p : Nat) (x : Engine) : (d.setEng p x).fuse = d.fuse := rfl
@[simp] theorem setEng_boot (d : Dev) (p : Nat) (x : Engine) : (d.setEng p x).boot = d.boot := rfl
@[simp] theorem setEng_vg (d : Dev) (p : Nat) (x : Engine) : (d.setEng p x).vg = d.vg := rfl
@[simp] theorem setEng_tap (d : Dev) (p : Nat) (x : Engine) : (d.setEng p x).tap = d.tap := rfl
@[simp] theorem setEng_freeCtr (d : Dev) (p : Nat) (x : Engine) : (d.setEng p x).freeCtr = d.freeCtr := rfl
@[simp] theorem setEng_cyc (d : Dev) (p : Nat) (x : Engine) : (d.setEng p x).cyc = d.cyc := rfl

/-! `setOps` -/
@[simp] theorem setOps_regs (d : Dev) (n : Nat) (x : MeOps) : (d.setOps n x).regs = d.regs := rfl
@[simp] theorem setOps_mem (d : Dev) (n : Nat) (x : MeOps) : (d.setOps n x).mem = d.mem := rfl
@[simp] theorem setOps_tb (d : Dev) (n : Nat) (x : MeOps) : (d.setOps n x).tb = d.tb := rfl
@[simp] theorem setOps_axes (d : Dev) (n : Nat) (x : MeOps) : (d.setOps n x).axes = d.axes := rfl
@[simp] theorem setOps_trk (d : Dev) (n : Nat) (x : MeOps) : (d.setOps n x).trk = d.trk := rfl
@[simp] theorem setOps_qy (d : Dev) (n : Nat) (x : MeOps) : (d.setOps n x).qy = d.qy := rfl
@[simp] theorem setOps_pins (d : Dev) (n : Nat) (x : MeOps) : (d.setOps n x).pins = d.pins := rfl
@[simp] theorem setOps_dr (d : Dev) (n : Nat) (x : MeOps) : (d.setOps n x).dr = d.dr := rfl
@[simp] theorem setOps_sys (d : Dev) (n : Nat) (x : MeOps) : (d.setOps n x).sys = d.sys := rfl
@[simp] theorem setOps_cw (d : Dev) (n : Nat) (x : MeOps) : (d.setOps n x).cw = d.cw := rfl
@[simp] theorem setOps_sl (d : Dev) (n : Nat) (x : MeOps) : (d.setOps n x).sl = d.sl := rfl
@[simp] theorem setOps_hi (d : Dev) (n : Nat) (x : MeOps) : (d.setOps n x).hi = d.hi := rfl
@[simp] theorem setOps_lg (d : Dev) (n : Nat) (x : MeOps) : (d.setOps n x).lg = d.lg := rfl
@[simp] theorem setOps_sf (d : Dev) (n : Nat) (x : MeOps) : (d.setOps n x).sf = d.sf := rfl
@[simp] theorem setOps_pn (d : Dev) (n : Nat) (x : MeOps) : (d.setOps n x).pn = d.pn := rfl
@[simp] theorem setOps_me (d : Dev) (n : Nat) (x : MeOps) : (d.setOps n x).me = d.me := rfl
@[simp] theorem setOps_lt (d : Dev) (n : Nat) (x : MeOps) : (d.setOps n x).lt = d.lt := rfl
@[simp] theorem setOps_fuse (d : Dev) (n : Nat) (x : MeOps) : (d.setOps n x).fuse = d.fuse := rfl
@[simp] theorem setOps_boot (d : Dev) (n : Nat) (x : MeOps) : (d.setOps n x).boot = d.boot := rfl
@[simp] theorem setOps_vg (d : Dev) (n : Nat) (x : MeOps) : (d.setOps n x).vg = d.vg := rfl
@[simp] theorem setOps_tap (d : Dev) (n : Nat) (x : MeOps) : (d.setOps n x).tap = d.tap := rfl
@[simp] theorem setOps_freeCtr (d : Dev) (n : Nat) (x : MeOps) : (d.setOps n x).freeCtr = d.freeCtr := rfl
@[simp] theorem setOps_cyc (d : Dev) (n : Nat) (x : MeOps) : (d.setOps n x).cyc = d.cyc := rfl

/-! `setAxis` -/
@[simp] theorem setAxis_regs (d : Dev) (n : Nat) (x : Axis) : (d.setAxis n x).regs = d.regs := rfl
@[simp] theorem setAxis_mem (d : Dev) (n : Nat) (x : Axis) : (d.setAxis n x).mem = d.mem := rfl
@[simp] theorem setAxis_tb (d : Dev) (n : Nat) (x : Axis) : (d.setAxis n x).tb = d.tb := rfl
@[simp] theorem setAxis_trk (d : Dev) (n : Nat) (x : Axis) : (d.setAxis n x).trk = d.trk := rfl
@[simp] theorem setAxis_qy (d : Dev) (n : Nat) (x : Axis) : (d.setAxis n x).qy = d.qy := rfl
@[simp] theorem setAxis_pins (d : Dev) (n : Nat) (x : Axis) : (d.setAxis n x).pins = d.pins := rfl
@[simp] theorem setAxis_dr (d : Dev) (n : Nat) (x : Axis) : (d.setAxis n x).dr = d.dr := rfl
@[simp] theorem setAxis_sys (d : Dev) (n : Nat) (x : Axis) : (d.setAxis n x).sys = d.sys := rfl
@[simp] theorem setAxis_cw (d : Dev) (n : Nat) (x : Axis) : (d.setAxis n x).cw = d.cw := rfl
@[simp] theorem setAxis_sl (d : Dev) (n : Nat) (x : Axis) : (d.setAxis n x).sl = d.sl := rfl
@[simp] theorem setAxis_hi (d : Dev) (n : Nat) (x : Axis) : (d.setAxis n x).hi = d.hi := rfl
@[simp] theorem setAxis_lg (d : Dev) (n : Nat) (x : Axis) : (d.setAxis n x).lg = d.lg := rfl
@[simp] theorem setAxis_sf (d : Dev) (n : Nat) (x : Axis) : (d.setAxis n x).sf = d.sf := rfl
@[simp] theorem setAxis_pn (d : Dev) (n : Nat) (x : Axis) : (d.setAxis n x).pn = d.pn := rfl
@[simp] theorem setAxis_me (d : Dev) (n : Nat) (x : Axis) : (d.setAxis n x).me = d.me := rfl
@[simp] theorem setAxis_mo (d : Dev) (n : Nat) (x : Axis) : (d.setAxis n x).mo = d.mo := rfl
@[simp] theorem setAxis_lt (d : Dev) (n : Nat) (x : Axis) : (d.setAxis n x).lt = d.lt := rfl
@[simp] theorem setAxis_fuse (d : Dev) (n : Nat) (x : Axis) : (d.setAxis n x).fuse = d.fuse := rfl
@[simp] theorem setAxis_boot (d : Dev) (n : Nat) (x : Axis) : (d.setAxis n x).boot = d.boot := rfl
@[simp] theorem setAxis_vg (d : Dev) (n : Nat) (x : Axis) : (d.setAxis n x).vg = d.vg := rfl
@[simp] theorem setAxis_tap (d : Dev) (n : Nat) (x : Axis) : (d.setAxis n x).tap = d.tap := rfl
@[simp] theorem setAxis_freeCtr (d : Dev) (n : Nat) (x : Axis) : (d.setAxis n x).freeCtr = d.freeCtr := rfl
@[simp] theorem setAxis_cyc (d : Dev) (n : Nat) (x : Axis) : (d.setAxis n x).cyc = d.cyc := rfl

/-! `setTrkr` -/
@[simp] theorem setTrkr_regs (d : Dev) (n : Nat) (x : Tracker) : (d.setTrkr n x).regs = d.regs := rfl
@[simp] theorem setTrkr_mem (d : Dev) (n : Nat) (x : Tracker) : (d.setTrkr n x).mem = d.mem := rfl
@[simp] theorem setTrkr_tb (d : Dev) (n : Nat) (x : Tracker) : (d.setTrkr n x).tb = d.tb := rfl
@[simp] theorem setTrkr_axes (d : Dev) (n : Nat) (x : Tracker) : (d.setTrkr n x).axes = d.axes := rfl
@[simp] theorem setTrkr_qy (d : Dev) (n : Nat) (x : Tracker) : (d.setTrkr n x).qy = d.qy := rfl
@[simp] theorem setTrkr_pins (d : Dev) (n : Nat) (x : Tracker) : (d.setTrkr n x).pins = d.pins := rfl
@[simp] theorem setTrkr_dr (d : Dev) (n : Nat) (x : Tracker) : (d.setTrkr n x).dr = d.dr := rfl
@[simp] theorem setTrkr_sys (d : Dev) (n : Nat) (x : Tracker) : (d.setTrkr n x).sys = d.sys := rfl
@[simp] theorem setTrkr_cw (d : Dev) (n : Nat) (x : Tracker) : (d.setTrkr n x).cw = d.cw := rfl
@[simp] theorem setTrkr_sl (d : Dev) (n : Nat) (x : Tracker) : (d.setTrkr n x).sl = d.sl := rfl
@[simp] theorem setTrkr_hi (d : Dev) (n : Nat) (x : Tracker) : (d.setTrkr n x).hi = d.hi := rfl
@[simp] theorem setTrkr_lg (d : Dev) (n : Nat) (x : Tracker) : (d.setTrkr n x).lg = d.lg := rfl
@[simp] theorem setTrkr_sf (d : Dev) (n : Nat) (x : Tracker) : (d.setTrkr n x).sf = d.sf := rfl
@[simp] theorem setTrkr_pn (d : Dev) (n : Nat) (x : Tracker) : (d.setTrkr n x).pn = d.pn := rfl
@[simp] theorem setTrkr_me (d : Dev) (n : Nat) (x : Tracker) : (d.setTrkr n x).me = d.me := rfl
@[simp] theorem setTrkr_mo (d : Dev) (n : Nat) (x : Tracker) : (d.setTrkr n x).mo = d.mo := rfl
@[simp] theorem setTrkr_lt (d : Dev) (n : Nat) (x : Tracker) : (d.setTrkr n x).lt = d.lt := rfl
@[simp] theorem setTrkr_fuse (d : Dev) (n : Nat) (x : Tracker) : (d.setTrkr n x).fuse = d.fuse := rfl
@[simp] theorem setTrkr_boot (d : Dev) (n : Nat) (x : Tracker) : (d.setTrkr n x).boot = d.boot := rfl
@[simp] theorem setTrkr_vg (d : Dev) (n : Nat) (x : Tracker) : (d.setTrkr n x).vg = d.vg := rfl
@[simp] theorem setTrkr_tap (d : Dev) (n : Nat) (x : Tracker) : (d.setTrkr n x).tap = d.tap := rfl
@[simp] theorem setTrkr_freeCtr (d : Dev) (n : Nat) (x : Tracker) : (d.setTrkr n x).freeCtr = d.freeCtr := rfl
@[simp] theorem setTrkr_cyc (d : Dev) (n : Nat) (x : Tracker) : (d.setTrkr n x).cyc = d.cyc := rfl

/-! `setAccum` -/
@[simp] theorem setAccum_regs (d : Dev) (i : Nat) (x : Accum) : (d.setAccum i x).regs = d.regs := by
  unfold Dev.setAccum; split <;> rfl
@[simp] theorem setAccum_mem (d : Dev) (i : Nat) (x : Accum) : (d.setAccum i x).mem = d.mem := by
  unfold Dev.setAccum; split <;> rfl
@[simp] theorem setAccum_axes (d : Dev) (i : Nat) (x : Accum) : (d.setAccum i x).axes = d.axes := by
  unfold Dev.setAccum; split <;> rfl
@[simp] theorem setAccum_trk (d : Dev) (i : Nat) (x : Accum) : (d.setAccum i x).trk = d.trk := by
  unfold Dev.setAccum; split <;> rfl
@[simp] theorem setAccum_qy (d : Dev) (i : Nat) (x : Accum) : (d.setAccum i x).qy = d.qy := by
  unfold Dev.setAccum; split <;> rfl
@[simp] theorem setAccum_pins (d : Dev) (i : Nat) (x : Accum) : (d.setAccum i x).pins = d.pins := by
  unfold Dev.setAccum; split <;> rfl
@[simp] theorem setAccum_dr (d : Dev) (i : Nat) (x : Accum) : (d.setAccum i x).dr = d.dr := by
  unfold Dev.setAccum; split <;> rfl
@[simp] theorem setAccum_sys (d : Dev) (i : Nat) (x : Accum) : (d.setAccum i x).sys = d.sys := by
  unfold Dev.setAccum; split <;> rfl
@[simp] theorem setAccum_cw (d : Dev) (i : Nat) (x : Accum) : (d.setAccum i x).cw = d.cw := by
  unfold Dev.setAccum; split <;> rfl
@[simp] theorem setAccum_sl (d : Dev) (i : Nat) (x : Accum) : (d.setAccum i x).sl = d.sl := by
  unfold Dev.setAccum; split <;> rfl
@[simp] theorem setAccum_hi (d : Dev) (i : Nat) (x : Accum) : (d.setAccum i x).hi = d.hi := by
  unfold Dev.setAccum; split <;> rfl
@[simp] theorem setAccum_lg (d : Dev) (i : Nat) (x : Accum) : (d.setAccum i x).lg = d.lg := by
  unfold Dev.setAccum; split <;> rfl
@[simp] theorem setAccum_sf (d : Dev) (i : Nat) (x : Accum) : (d.setAccum i x).sf = d.sf := by
  unfold Dev.setAccum; split <;> rfl
@[simp] theorem setAccum_pn (d : Dev) (i : Nat) (x : Accum) : (d.setAccum i x).pn = d.pn := by
  unfold Dev.setAccum; split <;> rfl
@[simp] theorem setAccum_me (d : Dev) (i : Nat) (x : Accum) : (d.setAccum i x).me = d.me := by
  unfold Dev.setAccum; split <;> rfl
@[simp] theorem setAccum_mo (d : Dev) (i : Nat) (x : Accum) : (d.setAccum i x).mo = d.mo := by
  unfold Dev.setAccum; split <;> rfl
@[simp] theorem setAccum_lt (d : Dev) (i : Nat) (x : Accum) : (d.setAccum i x).lt = d.lt := by
  unfold Dev.setAccum; split <;> rfl
@[simp] theorem setAccum_fuse (d : Dev) (i : Nat) (x : Accum) : (d.setAccum i x).fuse = d.fuse := by
  unfold Dev.setAccum; split <;> rfl
@[simp] theorem setAccum_boot (d : Dev) (i : Nat) (x : Accum) : (d.setAccum i x).boot = d.boot := by
  unfold Dev.setAccum; split <;> rfl
@[simp] theorem setAccum_vg (d : Dev) (i : Nat) (x : Accum) : (d.setAccum i x).vg = d.vg := by
  unfold Dev.setAccum; split <;> rfl
@[simp] theorem setAccum_tap (d : Dev) (i : Nat) (x : Accum) : (d.setAccum i x).tap = d.tap := by
  unfold Dev.setAccum; split <;> rfl
@[simp] theorem setAccum_freeCtr (d : Dev) (i : Nat) (x : Accum) : (d.setAccum i x).freeCtr = d.freeCtr := by
  unfold Dev.setAccum; split <;> rfl
@[simp] theorem setAccum_cyc (d : Dev) (i : Nat) (x : Accum) : (d.setAccum i x).cyc = d.cyc := by
  unfold Dev.setAccum; split <;> rfl

/-! `setLs` -/
@[simp] theorem setLs_mem (d : Dev) (c st : Nat) : (d.setLs c st).mem = d.mem := rfl
@[simp] theorem setLs_tb (d : Dev) (c st : Nat) : (d.setLs c st).tb = d.tb := rfl
@[simp] theorem setLs_axes (d : Dev) (c st : Nat) : (d.setLs c st).axes = d.axes := rfl
@[simp] theorem setLs_trk (d : Dev) (c st : Nat) : (d.setLs c st).trk = d.trk := rfl
@[simp] theorem setLs_qy (d : Dev) (c st : Nat) : (d.setLs c st).qy = d.qy := rfl
@[simp] theorem setLs_pins (d : Dev) (c st : Nat) : (d.setLs c st).pins = d.pins := rfl
@[simp] theorem setLs_dr (d : Dev) (c st : Nat) : (d.setLs c st).dr = d.dr := rfl
@[simp] theorem setLs_sys (d : Dev) (c st : Nat) : (d.setLs c st).sys = d.sys := rfl
@[simp] theorem setLs_cw (d : Dev) (c st : Nat) : (d.setLs c st).cw = d.cw := rfl
@[simp] theorem setLs_sl (d : Dev) (c st : Nat) : (d.setLs c st).sl = d.sl := rfl
@[simp] theorem setLs_hi (d : Dev) (c st : Nat) : (d.setLs c st).hi = d.hi := rfl
@[simp] theorem setLs_lg (d : Dev) (c st : Nat) : (d.setLs c st).lg = d.lg := rfl
@[simp] theorem setLs_sf (d : Dev) (c st : Nat) : (d.setLs c st).sf = d.sf := rfl
@[simp] theorem setLs_pn (d : Dev) (c st : Nat) : (d.setLs c st).pn = d.pn := rfl
@[simp] theorem setLs_me (d : Dev) (c st : Nat) : (d.setLs c st).me = d.me := rfl
@[simp] theorem setLs_mo (d : Dev) (c st : Nat) : (d.setLs c st).mo = d.mo := rfl
@[simp] theorem setLs_lt (d : Dev) (c st : Nat) : (d.setLs c st).lt = d.lt := rfl
@[simp] theorem setLs_fuse (d : Dev) (c st : Nat) : (d.setLs c st).fuse = d.fuse := rfl
@[simp] theorem setLs_boot (d : Dev) (c st : Nat) : (d.setLs c st).boot = d.boot := rfl
@[simp] theorem setLs_vg (d : Dev) (c st : Nat) : (d.setLs c st).vg = d.vg := rfl
@[simp] theorem setLs_tap (d : Dev) (c st : Nat) : (d.setLs c st).tap = d.tap := rfl
@[simp] theorem setLs_freeCtr (d : Dev) (c st : Nat) : (d.setLs c st).freeCtr = d.freeCtr := rfl
@[simp] theorem setLs_cyc (d : Dev) (c st : Nat) : (d.setLs c st).cyc = d.cyc := rfl

/-! `setPcLow` -/
@[simp] theorem setPcLow_mem (d : Dev) (c v : Nat) : (d.setPcLow c v).mem = d.mem := rfl
@[simp] theorem setPcLow_tb (d : Dev) (c v : Nat) : (d.setPcLow c v).tb = d.tb := rfl
@[simp] theorem setPcLow_axes (d : Dev) (c v : Nat) : (d.setPcLow c v).axes = d.axes := rfl
@[simp] theorem setPcLow_trk (d : Dev) (c v : Nat) : (d.setPcLow c v).trk = d.trk := rfl
@[simp] theorem setPcLow_qy (d : Dev) (c v : Nat) : (d.setPcLow c v).qy = d.qy := rfl
@[simp] theorem setPcLow_pins (d : Dev) (c v : Nat) : (d.setPcLow c v).pins = d.pins := rfl
@[simp] theorem setPcLow_dr (d : Dev) (c v : Nat) : (d.setPcLow c v).dr = d.dr := rfl
@[simp] theorem setPcLow_sys (d : Dev) (c v : Nat) : (d.setPcLow c v).sys = d.sys := rfl
@[simp] theorem setPcLow_cw (d : Dev) (c v : Nat) : (d.setPcLow c v).cw = d.cw := rfl
@[simp] theorem setPcLow_sl (d : Dev) (c v : Nat) : (d.setPcLow c v).sl = d.sl := rfl
@[simp] theorem setPcLow_hi (d : Dev) (c v : Nat) : (d.setPcLow c v).hi = d.hi := rfl
@[simp] theorem setPcLow_lg (d : Dev) (c v : Nat) : (d.setPcLow c v).lg = d.lg := rfl
@[simp] theorem setPcLow_sf (d : Dev) (c v : Nat) : (d.setPcLow c v).sf = d.sf := rfl
@[simp] theorem setPcLow_pn (d : Dev) (c v : Nat) : (d.setPcLow c v).pn = d.pn := rfl
@[simp] theorem setPcLow_me (d : Dev) (c v : Nat) : (d.setPcLow c v).me = d.me := rfl
@[simp] theorem setPcLow_mo (d : Dev) (c v : Nat) : (d.setPcLow c v).mo = d.mo := rfl
@[simp] theorem setPcLow_lt (d : Dev) (c v : Nat) : (d.setPcLow c v).lt = d.lt := rfl
@[simp] theorem setPcLow_fuse (d : Dev) (c v : Nat) : (d.setPcLow c v).fuse = d.fuse := rfl
@[simp] theorem setPcLow_boot (d : Dev) (c v : Nat) : (d.setPcLow c v).boot = d.boot := rfl
@[simp] theorem setPcLow_vg (d : Dev) (c v : Nat) : (d.setPcLow c v).vg = d.vg := rfl
@[simp] theorem setPcLow_tap (d : Dev) (c v : Nat) : (d.setPcLow c v).tap = d.tap := rfl
@[simp] theorem setPcLow_freeCtr (d : Dev) (c v : Nat) : (d.setPcLow c v).freeCtr = d.freeCtr := rfl
@[simp] theorem setPcLow_cyc (d : Dev) (c v : Nat) : (d.setPcLow c v).cyc = d.cyc := rfl

/-! `setPend` -/
@[simp] theorem setPend_mem (d : Dev) (s : Nat) (b : Bool) : (d.setPend s b).mem = d.mem := rfl
@[simp] theorem setPend_tb (d : Dev) (s : Nat) (b : Bool) : (d.setPend s b).tb = d.tb := rfl
@[simp] theorem setPend_axes (d : Dev) (s : Nat) (b : Bool) : (d.setPend s b).axes = d.axes := rfl
@[simp] theorem setPend_trk (d : Dev) (s : Nat) (b : Bool) : (d.setPend s b).trk = d.trk := rfl
@[simp] theorem setPend_qy (d : Dev) (s : Nat) (b : Bool) : (d.setPend s b).qy = d.qy := rfl
@[simp] theorem setPend_pins (d : Dev) (s : Nat) (b : Bool) : (d.setPend s b).pins = d.pins := rfl
@[simp] theorem setPend_dr (d : Dev) (s : Nat) (b : Bool) : (d.setPend s b).dr = d.dr := rfl
@[simp] theorem setPend_sys (d : Dev) (s : Nat) (b : Bool) : (d.setPend s b).sys = d.sys := rfl
@[simp] theorem setPend_cw (d : Dev) (s : Nat) (b : Bool) : (d.setPend s b).cw = d.cw := rfl
@[simp] theorem setPend_sl (d : Dev) (s : Nat) (b : Bool) : (d.setPend s b).sl = d.sl := rfl
@[simp] theorem setPend_hi (d : Dev) (s : Nat) (b : Bool) : (d.setPend s b).hi = d.hi := rfl
@[simp] theorem setPend_lg (d : Dev) (s : Nat) (b : Bool) : (d.setPend s b).lg = d.lg := rfl
@[simp] theorem setPend_sf (d : Dev) (s : Nat) (b : Bool) : (d.setPend s b).sf = d.sf := rfl
@[simp] theorem setPend_pn (d : Dev) (s : Nat) (b : Bool) : (d.setPend s b).pn = d.pn := rfl
@[simp] theorem setPend_me (d : Dev) (s : Nat) (b : Bool) : (d.setPend s b).me = d.me := rfl
@[simp] theorem setPend_mo (d : Dev) (s : Nat) (b : Bool) : (d.setPend s b).mo = d.mo := rfl
@[simp] theorem setPend_lt (d : Dev) (s : Nat) (b : Bool) : (d.setPend s b).lt = d.lt := rfl
@[simp] theorem setPend_fuse (d : Dev) (s : Nat) (b : Bool) : (d.setPend s b).fuse = d.fuse := rfl
@[simp] theorem setPend_boot (d : Dev) (s : Nat) (b : Bool) : (d.setPend s b).boot = d.boot := rfl
@[simp] theorem setPend_vg (d : Dev) (s : Nat) (b : Bool) : (d.setPend s b).vg = d.vg := rfl
@[simp] theorem setPend_tap (d : Dev) (s : Nat) (b : Bool) : (d.setPend s b).tap = d.tap := rfl
@[simp] theorem setPend_freeCtr (d : Dev) (s : Nat) (b : Bool) : (d.setPend s b).freeCtr = d.freeCtr := rfl
@[simp] theorem setPend_cyc (d : Dev) (s : Nat) (b : Bool) : (d.setPend s b).cyc = d.cyc := rfl

/-! Register fields through the other operations -/
@[simp] theorem nextFree_fld (d : Dev) (fl : Fld) (i0 j0 : Nat) : (d.nextFree).fld fl i0 j0 = d.fld fl i0 j0 := rfl
@[simp] theorem nextFree_flag (d : Dev) (fl : Fld) (i0 j0 : Nat) : (d.nextFree).flag fl i0 j0 = d.flag fl i0 j0 := rfl
@[simp] theorem raiseRecs_fld (d : Dev) (s : Nat) (l : List Record) (b : Bool) (fl : Fld) (i0 j0 : Nat) : (d.raiseRecs s l b).fld fl i0 j0 = d.fld fl i0 j0 := rfl
@[simp] theorem raiseRecs_flag (d : Dev) (s : Nat) (l : List Record) (b : Bool) (fl : Fld) (i0 j0 : Nat) : (d.raiseRecs s l b).flag fl i0 j0 = d.flag fl i0 j0 := rfl
@[simp] theorem raise_fld (d : Dev) (typ s g : Nat) (l : List (Nat × Nat × Nat)) (b : Bool) (fl : Fld) (i0 j0 : Nat) : (d.raise typ s g l b).fld fl i0 j0 = d.fld fl i0 j0 := rfl
@[simp] theorem raise_flag (d : Dev) (typ s g : Nat) (l : List (Nat × Nat × Nat)) (b : Bool) (fl : Fld) (i0 j0 : Nat) : (d.raise typ s g l b).flag fl i0 j0 = d.flag fl i0 j0 := rfl
@[simp] theorem raiseSys_fld (d : Dev) (s : Nat) (l : List (Nat × Nat × Nat)) (fl : Fld) (i0 j0 : Nat) : (d.raiseSys s l).fld fl i0 j0 = d.fld fl i0 j0 := rfl
@[simp] theorem raiseSys_flag (d : Dev) (s : Nat) (l : List (Nat × Nat × Nat)) (fl : Fld) (i0 j0 : Nat) : (d.raiseSys s l).flag fl i0 j0 = d.flag fl i0 j0 := rfl
@[simp] theorem raiseMode_fld (d : Dev) (o : Nat) (fl : Fld) (i0 j0 : Nat) : (d.raiseMode o).fld fl i0 j0 = d.fld fl i0 j0 := rfl
@[simp] theorem raiseMode_flag (d : Dev) (o : Nat) (fl : Fld) (i0 j0 : Nat) : (d.raiseMode o).flag fl i0 j0 = d.flag fl i0 j0 := rfl
@[simp] theorem logItem_fld (d : Dev) (k : Nat) (l : List (Nat × Nat × Nat)) (fl : Fld) (i0 j0 : Nat) : (d.logItem k l).fld fl i0 j0 = d.fld fl i0 j0 := rfl
@[simp] theorem logItem_flag (d : Dev) (k : Nat) (l : List (Nat × Nat × Nat)) (fl : Fld) (i0 j0 : Nat) : (d.logItem k l).flag fl i0 j0 = d.flag fl i0 j0 := rfl
@[simp] theorem logRecord_fld (d : Dev) (k : Nat) (r : Record) (fl : Fld) (i0 j0 : Nat) : (d.logRecord k r).fld fl i0 j0 = d.fld fl i0 j0 := rfl
@[simp] theorem logRecord_flag (d : Dev) (k : Nat) (r : Record) (fl : Fld) (i0 j0 : Nat) : (d.logRecord k r).flag fl i0 j0 = d.flag fl i0 j0 := rfl
@[simp] theorem setLog_fld (d : Dev) (l : Log) (fl : Fld) (i0 j0 : Nat) : (d.setLog l).fld fl i0 j0 = d.fld fl i0 j0 := rfl
@[simp] theorem setLog_flag (d : Dev) (l : Log) (fl : Fld) (i0 j0 : Nat) : (d.setLog l).flag fl i0 j0 = d.flag fl i0 j0 := rfl
@[simp] theorem setHq_fld (d : Dev) (q : Nat) (x : HQueue) (fl : Fld) (i0 j0 : Nat) : (d.setHq q x).fld fl i0 j0 = d.fld fl i0 j0 := rfl
@[simp] theorem setHq_flag (d : Dev) (q : Nat) (x : HQueue) (fl : Fld) (i0 j0 : Nat) : (d.setHq q x).flag fl i0 j0 = d.flag fl i0 j0 := rfl
@[simp] theorem setRing_fld (d : Dev) (m : Nat) (x : Ring) (fl : Fld) (i0 j0 : Nat) : (d.setRing m x).fld fl i0 j0 = d.fld fl i0 j0 := rfl
@[simp] theorem setRing_flag (d : Dev) (m : Nat) (x : Ring) (fl : Fld) (i0 j0 : Nat) : (d.setRing m x).flag fl i0 j0 = d.flag fl i0 j0 := rfl
@[simp] theorem setFunc_fld (d : Dev) (f : Nat) (x : Func) (fl : Fld) (i0 j0 : Nat) : (d.setFunc f x).fld fl i0 j0 = d.fld fl i0 j0 := rfl
@[simp] theorem setFunc_flag (d : Dev) (f : Nat) (x : Func) (fl : Fld) (i0 j0 : Nat) : (d.setFunc f x).flag fl i0 j0 = d.flag fl i0 j0 := rfl
@[simp] theorem setSrc_fld (d : Dev) (s : Nat) (x : Src) (fl : Fld) (i0 j0 : Nat) : (d.setSrc s x).fld fl i0 j0 = d.fld fl i0 j0 := rfl
@[simp] theorem setSrc_flag (d : Dev) (s : Nat) (x : Src) (fl : Fld) (i0 j0 : Nat) : (d.setSrc s x).flag fl i0 j0 = d.flag fl i0 j0 := rfl
@[simp] theorem setGrp_fld (d : Dev) (g : Nat) (x : Group) (fl : Fld) (i0 j0 : Nat) : (d.setGrp g x).fld fl i0 j0 = d.fld fl i0 j0 := rfl
@[simp] theorem setGrp_flag (d : Dev) (g : Nat) (x : Group) (fl : Fld) (i0 j0 : Nat) : (d.setGrp g x).flag fl i0 j0 = d.flag fl i0 j0 := rfl
@[simp] theorem setChan_fld (d : Dev) (c : Nat) (x : Chan) (fl : Fld) (i0 j0 : Nat) : (d.setChan c x).fld fl i0 j0 = d.fld fl i0 j0 := rfl
@[simp] theorem setChan_flag (d : Dev) (c : Nat) (x : Chan) (fl : Fld) (i0 j0 : Nat) : (d.setChan c x).flag fl i0 j0 = d.flag fl i0 j0 := rfl
@[simp] theorem setQuay_fld (d : Dev) (q : Nat) (x : Quay) (fl : Fld) (i0 j0 : Nat) : (d.setQuay q x).fld fl i0 j0 = d.fld fl i0 j0 := rfl
@[simp] theorem setQuay_flag (d : Dev) (q : Nat) (x : Quay) (fl : Fld) (i0 j0 : Nat) : (d.setQuay q x).flag fl i0 j0 = d.flag fl i0 j0 := rfl
@[simp] theorem setPhysQ_fld (d : Dev) (p : Nat) (x : PhysQuay) (fl : Fld) (i0 j0 : Nat) : (d.setPhysQ p x).fld fl i0 j0 = d.fld fl i0 j0 := rfl
@[simp] theorem setPhysQ_flag (d : Dev) (p : Nat) (x : PhysQuay) (fl : Fld) (i0 j0 : Nat) : (d.setPhysQ p x).flag fl i0 j0 = d.flag fl i0 j0 := rfl
@[simp] theorem setPin_fld (d : Dev) (n : Nat) (x : Pin) (fl : Fld) (i0 j0 : Nat) : (d.setPin n x).fld fl i0 j0 = d.fld fl i0 j0 := rfl
@[simp] theorem setPin_flag (d : Dev) (n : Nat) (x : Pin) (fl : Fld) (i0 j0 : Nat) : (d.setPin n x).flag fl i0 j0 = d.flag fl i0 j0 := rfl
@[simp] theorem setPne_fld (d : Dev) (n : Nat) (x : PinEngine) (fl : Fld) (i0 j0 : Nat) : (d.setPne n x).fld fl i0 j0 = d.fld fl i0 j0 := rfl
@[simp] theorem setPne_flag (d : Dev) (n : Nat) (x : PinEngine) (fl : Fld) (i0 j0 : Nat) : (d.setPne n x).flag fl i0 j0 = d.flag fl i0 j0 := rfl
@[simp] theorem setLt_fld (d : Dev) (c : Nat) (x : Lt) (fl : Fld) (i0 j0 : Nat) : (d.setLt c x).fld fl i0 j0 = d.fld fl i0 j0 := rfl
@[simp] theorem setLt_flag (d : Dev) (c : Nat) (x : Lt) (fl : Fld) (i0 j0 : Nat) : (d.setLt c x).flag fl i0 j0 = d.flag fl i0 j0 := rfl
@[simp] theorem setCwp_fld (d : Dev) (p : Nat) (x : CwPort) (fl : Fld) (i0 j0 : Nat) : (d.setCwp p x).fld fl i0 j0 = d.fld fl i0 j0 := rfl
@[simp] theorem setCwp_flag (d : Dev) (p : Nat) (x : CwPort) (fl : Fld) (i0 j0 : Nat) : (d.setCwp p x).flag fl i0 j0 = d.flag fl i0 j0 := rfl
@[simp] theorem setEng_fld (d : Dev) (p : Nat) (x : Engine) (fl : Fld) (i0 j0 : Nat) : (d.setEng p x).fld fl i0 j0 = d.fld fl i0 j0 := rfl
@[simp] theorem setEng_flag (d : Dev) (p : Nat) (x : Engine) (fl : Fld) (i0 j0 : Nat) : (d.setEng p x).flag fl i0 j0 = d.flag fl i0 j0 := rfl
@[simp] theorem setOps_fld (d : Dev) (n : Nat) (x : MeOps) (fl : Fld) (i0 j0 : Nat) : (d.setOps n x).fld fl i0 j0 = d.fld fl i0 j0 := rfl
@[simp] theorem setOps_flag (d : Dev) (n : Nat) (x : MeOps) (fl : Fld) (i0 j0 : Nat) : (d.setOps n x).flag fl i0 j0 = d.flag fl i0 j0 := rfl
@[simp] theorem setAxis_fld (d : Dev) (n : Nat) (x : Axis) (fl : Fld) (i0 j0 : Nat) : (d.setAxis n x).fld fl i0 j0 = d.fld fl i0 j0 := rfl
@[simp] theorem setAxis_flag (d : Dev) (n : Nat) (x : Axis) (fl : Fld) (i0 j0 : Nat) : (d.setAxis n x).flag fl i0 j0 = d.flag fl i0 j0 := rfl
@[simp] theorem setTrkr_fld (d : Dev) (n : Nat) (x : Tracker) (fl : Fld) (i0 j0 : Nat) : (d.setTrkr n x).fld fl i0 j0 = d.fld fl i0 j0 := rfl
@[simp] theorem setTrkr_flag (d : Dev) (n : Nat) (x : Tracker) (fl : Fld) (i0 j0 : Nat) : (d.setTrkr n x).flag fl i0 j0 = d.flag fl i0 j0 := rfl
@[simp] theorem setAccum_fld (d : Dev) (i : Nat) (x : Accum) (fl : Fld) (i0 j0 : Nat) : (d.setAccum i x).fld fl i0 j0 = d.fld fl i0 j0 := by simp [Dev.fld]
@[simp] theorem setAccum_flag (d : Dev) (i : Nat) (x : Accum) (fl : Fld) (i0 j0 : Nat) : (d.setAccum i x).flag fl i0 j0 = d.flag fl i0 j0 := by simp [Dev.flag]

end Sys2Proof.Laws
end

