-- ==== Sys2Proof/Laws/Tables.lean ====
section
/-! SUPPORT. Reading a table after it has been written, and register fields by their keys. -/

namespace Sys2Proof.Laws

open Sys2Proof Sys2Proof.Machine

theorem get_ins_same {α : Type} (d v : α) (k : Nat) : ∀ t : Tbl α, Machine.get d (ins k v t) k = v
  | [] => by simp [ins, Machine.get]
  | e :: t => by
    unfold ins
    by_cases h1 : k < e.1
    · simp [h1, Machine.get]
    · by_cases h2 : e.1 = k
      · simp [h2, Machine.get]
      · simp [h1, h2, Machine.get, get_ins_same d v k t]

theorem get_ins_ne {α : Type} (d v : α) {k j : Nat} (h : j ≠ k) : ∀ t : Tbl α, Machine.get d (ins k v t) j = Machine.get d t j
  | [] => by simp [ins, Machine.get, Ne.symm h]
  | e :: t => by
    unfold ins
    by_cases h1 : k < e.1
    · simp [h1, Machine.get, Ne.symm h]
    · by_cases h2 : e.1 = k
      · simp [h2, Machine.get, Ne.symm h]
      · simp [h1, h2, Machine.get, get_ins_ne d v h t]

theorem get_del_same {α : Type} (d : α) (k : Nat) : ∀ t : Tbl α, Machine.get d (del k t) k = d
  | [] => rfl
  | e :: t => by
    have ih := get_del_same d k t
    unfold del at ih ⊢
    by_cases h : e.1 = k <;> simp_all [Machine.get]

theorem get_del_ne {α : Type} (d : α) {k j : Nat} (h : j ≠ k) : ∀ t : Tbl α, Machine.get d (del k t) j = Machine.get d t j
  | [] => rfl
  | e :: t => by
    have ih := get_del_ne d h t
    unfold del at ih ⊢
    by_cases h1 : e.1 = k
    · have h2 : ¬ k = j := fun x => h x.symm
      simp_all [Machine.get]
    · by_cases h2 : e.1 = j <;> simp_all [Machine.get]

@[simp] theorem get_set_same {α : Type} [DecidableEq α] (d : α) (t : Tbl α) (k : Nat) (v : α) : Machine.get d (Machine.set d t k v) k = v := by
  unfold Machine.set
  split
  · rename_i h; rw [get_del_same, h]
  · exact get_ins_same d v k t

theorem get_set_ne {α : Type} [DecidableEq α] (d e : α) (t : Tbl α) {k j : Nat} (v : α) (h : j ≠ k) :
    Machine.get d (Machine.set e t k v) j = Machine.get d t j := by
  unfold Machine.set
  split
  · exact get_del_ne d h t
  · exact get_ins_ne d v h t

/-- A field reads as what was put there, cut to its width. -/
@[simp] theorem fld_setFld_same (d : Dev) (f : Fld) (v i j : Nat) : (d.setFld f v i j).fld f i j = v % 2 ^ f.len := by
  simp [Dev.fld, Dev.setFld]

/-- Another field, or another one of the same kind, keeps its value. -/
theorem fld_setFld_ne (d : Dev) (f g : Fld) (v i j i' j' : Nat) (h : g.key i' j' ≠ f.key i j) :
    (d.setFld f v i j).fld g i' j' = d.fld g i' j' := by
  simp [Dev.fld, Dev.setFld, get_set_ne, h]

/-- The register fields after one is written. -/
theorem setFld_regs (d : Dev) (f : Fld) (v i j : Nat) :
    (d.setFld f v i j).regs = Machine.set (f.rst i) d.regs (f.key i j) (v % 2 ^ f.len) := rfl

/-- The number of a field gives its bit address. -/
theorem key_mod (f : Fld) (i j : Nat) : f.key i j % 2 ^ 32 = f.pos % 2 ^ 32 := by
  unfold Fld.key
  rw [Nat.add_mul_mod_self_left, Nat.mod_mod]

/-- Writing a field leaves the fields at other bit addresses, whichever instances they are. -/
theorem get_set_field (r : Tbl Nat) (f g : Fld) (z e v i j i' j' : Nat) (h : g.pos % 2 ^ 32 ≠ f.pos % 2 ^ 32) :
    Machine.get z (Machine.set e r (f.key i j) v) (g.key i' j') = Machine.get z r (g.key i' j') :=
  get_set_ne z e r v (fun x => h (by rw [← key_mod g i' j', ← key_mod f i j, x]))

/-- A field at another bit address keeps its value, whichever instance is written. -/
theorem fld_setFld_field (d : Dev) (f g : Fld) (v i j i' j' : Nat) (h : g.pos % 2 ^ 32 ≠ f.pos % 2 ^ 32) :
    (d.setFld f v i j).fld g i' j' = d.fld g i' j' :=
  fld_setFld_ne d f g v i j i' j' (fun e => h (by rw [← key_mod g i' j', ← key_mod f i j, e]))

/-- Another instance of the same field keeps its value. -/
theorem fld_setFld_inst (d : Dev) (f : Fld) (v i j i' j' : Nat) (h : i ≠ i' ∨ j ≠ j') (hi : i < 2 ^ 32) (hi' : i' < 2 ^ 32) :
    (d.setFld f v i j).fld f i' j' = d.fld f i' j' := by
  refine fld_setFld_ne d f f v i j i' j' (fun e => ?_)
  unfold Fld.key at e
  omega

end Sys2Proof.Laws
end

