-- ==== Sys2Proof/Laws/Blocks.lean ====
section
/-! SUPPORT. Reading one entry of a block after it, or something else, has been written. -/

namespace Sys2Proof.Laws

open Sys2Proof Sys2Proof.Machine

/-! One entry written, the same and another entry read. -/

@[simp] theorem chan_setChan_same (d : Dev) (c : Nat) (x : Chan) : (d.setChan c x).chan c = x := by
  simp [Dev.chan, Dev.setChan]
theorem chan_setChan_ne (d : Dev) (x : Chan) {c k : Nat} (h : k ≠ c) : (d.setChan c x).chan k = d.chan k := by
  simp [Dev.chan, Dev.setChan, get_set_ne, h]
@[simp] theorem quay_setQuay_same (d : Dev) (q : Nat) (x : Quay) : (d.setQuay q x).quay q = x := by
  simp [Dev.quay, Dev.setQuay]
theorem quay_setQuay_ne (d : Dev) (x : Quay) {q k : Nat} (h : k ≠ q) : (d.setQuay q x).quay k = d.quay k := by
  simp [Dev.quay, Dev.setQuay, get_set_ne, h]
@[simp] theorem physQ_setPhysQ_same (d : Dev) (p : Nat) (x : PhysQuay) : (d.setPhysQ p x).physQ p = x := by
  simp [Dev.physQ, Dev.setPhysQ]
theorem physQ_setPhysQ_ne (d : Dev) (x : PhysQuay) {p k : Nat} (h : k ≠ p) : (d.setPhysQ p x).physQ k = d.physQ k := by
  simp [Dev.physQ, Dev.setPhysQ, get_set_ne, h]
@[simp] theorem pin_setPin_same (d : Dev) (n : Nat) (x : Pin) : (d.setPin n x).pin n = x := by
  simp [Dev.pin, Dev.setPin]
theorem pin_setPin_ne (d : Dev) (x : Pin) {n k : Nat} (h : k ≠ n) : (d.setPin n x).pin k = d.pin k := by
  simp [Dev.pin, Dev.setPin, get_set_ne, h]
@[simp] theorem pne_setPne_same (d : Dev) (n : Nat) (x : PinEngine) : (d.setPne n x).pne n = x := by
  simp [Dev.pne, Dev.setPne]
theorem pne_setPne_ne (d : Dev) (x : PinEngine) {n k : Nat} (h : k ≠ n) : (d.setPne n x).pne k = d.pne k := by
  simp [Dev.pne, Dev.setPne, get_set_ne, h]
@[simp] theorem ring_setRing_same (d : Dev) (m : Nat) (x : Ring) : (d.setRing m x).ring m = x := by
  simp [Dev.ring, Dev.setRing]
theorem ring_setRing_ne (d : Dev) (x : Ring) {m k : Nat} (h : k ≠ m) : (d.setRing m x).ring k = d.ring k := by
  simp [Dev.ring, Dev.setRing, get_set_ne, h]
@[simp] theorem hq_setHq_same (d : Dev) (q : Nat) (x : HQueue) : (d.setHq q x).hq q = x := by
  simp [Dev.hq, Dev.setHq]
theorem hq_setHq_ne (d : Dev) (x : HQueue) {q k : Nat} (h : k ≠ q) : (d.setHq q x).hq k = d.hq k := by
  simp [Dev.hq, Dev.setHq, get_set_ne, h]
@[simp] theorem func_setFunc_same (d : Dev) (f : Nat) (x : Func) : (d.setFunc f x).func f = x := by
  simp [Dev.func, Dev.setFunc]
theorem func_setFunc_ne (d : Dev) (x : Func) {f k : Nat} (h : k ≠ f) : (d.setFunc f x).func k = d.func k := by
  simp [Dev.func, Dev.setFunc, get_set_ne, h]
@[simp] theorem ltc_setLt_same (d : Dev) (c : Nat) (x : Lt) : (d.setLt c x).ltc c = x := by
  simp [Dev.ltc, Dev.setLt]
theorem ltc_setLt_ne (d : Dev) (x : Lt) {c k : Nat} (h : k ≠ c) : (d.setLt c x).ltc k = d.ltc k := by
  simp [Dev.ltc, Dev.setLt, get_set_ne, h]
@[simp] theorem eng_setEng_same (d : Dev) (p : Nat) (x : Engine) : (d.setEng p x).eng p = x := by
  simp [Dev.eng, Dev.setEng]
theorem eng_setEng_ne (d : Dev) (x : Engine) {p k : Nat} (h : k ≠ p) : (d.setEng p x).eng k = d.eng k := by
  simp [Dev.eng, Dev.setEng, get_set_ne, h]
@[simp] theorem ops_setOps_same (d : Dev) (n : Nat) (x : MeOps) : (d.setOps n x).ops n = x := by
  simp [Dev.ops, Dev.setOps]
theorem ops_setOps_ne (d : Dev) (x : MeOps) {n k : Nat} (h : k ≠ n) : (d.setOps n x).ops k = d.ops k := by
  simp [Dev.ops, Dev.setOps, get_set_ne, h]
@[simp] theorem axis_setAxis_same (d : Dev) (n : Nat) (x : Axis) : (d.setAxis n x).axis n = x := by
  simp [Dev.axis, Dev.setAxis]
theorem axis_setAxis_ne (d : Dev) (x : Axis) {n k : Nat} (h : k ≠ n) : (d.setAxis n x).axis k = d.axis k := by
  simp [Dev.axis, Dev.setAxis, get_set_ne, h]
@[simp] theorem trkr_setTrkr_same (d : Dev) (n : Nat) (x : Tracker) : (d.setTrkr n x).trkr n = x := by
  simp [Dev.trkr, Dev.setTrkr]
theorem trkr_setTrkr_ne (d : Dev) (x : Tracker) {n k : Nat} (h : k ≠ n) : (d.setTrkr n x).trkr k = d.trkr k := by
  simp [Dev.trkr, Dev.setTrkr, get_set_ne, h]
@[simp] theorem cwp_setCwp_same (d : Dev) (p : Nat) (x : CwPort) : (d.setCwp p x).cwp p = x := by
  simp [Dev.cwp, Dev.setCwp]
theorem cwp_setCwp_ne (d : Dev) (x : CwPort) {p k : Nat} (h : k ≠ p) : (d.setCwp p x).cwp k = d.cwp k := by
  simp [Dev.cwp, Dev.setCwp, get_set_ne, h]
@[simp] theorem grp_setGrp_same (d : Dev) (g : Nat) (x : Group) : (d.setGrp g x).grp g = x := by
  simp [Dev.grp, Dev.setGrp]
theorem grp_setGrp_ne (d : Dev) (x : Group) {g k : Nat} (h : k ≠ g) : (d.setGrp g x).grp k = d.grp k := by
  simp [Dev.grp, Dev.setGrp, get_set_ne, h]
@[simp] theorem src_setSrc_same (d : Dev) (s : Nat) (x : Src) : (d.setSrc s x).src s = x := by
  simp [Dev.src, Dev.setSrc]
theorem src_setSrc_ne (d : Dev) (x : Src) {s k : Nat} (h : k ≠ s) : (d.setSrc s x).src k = d.src k := by
  simp [Dev.src, Dev.setSrc, get_set_ne, h]

/-! Entries of a block after an update of something else. -/

@[simp] theorem chan_setFld (d : Dev) (u : Nat) (f : Fld) (v i j : Nat) : (d.setFld f v i j).chan u = d.chan u := rfl
@[simp] theorem chan_setFlag (d : Dev) (u : Nat) (f : Fld) (b : Bool) (i j : Nat) : (d.setFlag f b i j).chan u = d.chan u := rfl
@[simp] theorem chan_setBit (d : Dev) (u : Nat) (f : Fld) (i b : Nat) (v : Bool) : (d.setBit f i b v).chan u = d.chan u := rfl
@[simp] theorem chan_count (d : Dev) (u : Nat) (f : Fld) (i n : Nat) : (d.count f i n).chan u = d.chan u := rfl
@[simp] theorem chan_raise (d : Dev) (u : Nat) (typ s g : Nat) (l : List (Nat × Nat × Nat)) (b : Bool) : (d.raise typ s g l b).chan u = d.chan u := rfl
@[simp] theorem chan_raiseRecs (d : Dev) (u : Nat) (s : Nat) (l : List Record) (b : Bool) : (d.raiseRecs s l b).chan u = d.chan u := rfl
@[simp] theorem chan_raiseMode (d : Dev) (u : Nat) (o : Nat) : (d.raiseMode o).chan u = d.chan u := rfl
@[simp] theorem chan_nextFree (d : Dev) (u : Nat) : (d.nextFree).chan u = d.chan u := rfl
@[simp] theorem chan_logItem (d : Dev) (u : Nat) (k : Nat) (l : List (Nat × Nat × Nat)) : (d.logItem k l).chan u = d.chan u := rfl
@[simp] theorem chan_setQuay (d : Dev) (u j : Nat) (x : Quay) : (d.setQuay j x).chan u = d.chan u := rfl
@[simp] theorem chan_setPhysQ (d : Dev) (u j : Nat) (x : PhysQuay) : (d.setPhysQ j x).chan u = d.chan u := rfl
@[simp] theorem chan_setPin (d : Dev) (u j : Nat) (x : Pin) : (d.setPin j x).chan u = d.chan u := rfl
@[simp] theorem chan_setPne (d : Dev) (u j : Nat) (x : PinEngine) : (d.setPne j x).chan u = d.chan u := rfl
@[simp] theorem chan_setRing (d : Dev) (u j : Nat) (x : Ring) : (d.setRing j x).chan u = d.chan u := rfl
@[simp] theorem chan_setHq (d : Dev) (u j : Nat) (x : HQueue) : (d.setHq j x).chan u = d.chan u := rfl
@[simp] theorem chan_setFunc (d : Dev) (u j : Nat) (x : Func) : (d.setFunc j x).chan u = d.chan u := rfl
@[simp] theorem chan_setLt (d : Dev) (u j : Nat) (x : Lt) : (d.setLt j x).chan u = d.chan u := rfl
@[simp] theorem chan_setEng (d : Dev) (u j : Nat) (x : Engine) : (d.setEng j x).chan u = d.chan u := rfl
@[simp] theorem chan_setOps (d : Dev) (u j : Nat) (x : MeOps) : (d.setOps j x).chan u = d.chan u := rfl
@[simp] theorem chan_setAxis (d : Dev) (u j : Nat) (x : Axis) : (d.setAxis j x).chan u = d.chan u := rfl
@[simp] theorem chan_setTrkr (d : Dev) (u j : Nat) (x : Tracker) : (d.setTrkr j x).chan u = d.chan u := rfl
@[simp] theorem chan_setCwp (d : Dev) (u j : Nat) (x : CwPort) : (d.setCwp j x).chan u = d.chan u := rfl
@[simp] theorem chan_setGrp (d : Dev) (u j : Nat) (x : Group) : (d.setGrp j x).chan u = d.chan u := rfl
@[simp] theorem chan_setSrc (d : Dev) (u j : Nat) (x : Src) : (d.setSrc j x).chan u = d.chan u := rfl
@[simp] theorem quay_setFld (d : Dev) (u : Nat) (f : Fld) (v i j : Nat) : (d.setFld f v i j).quay u = d.quay u := rfl
@[simp] theorem quay_setFlag (d : Dev) (u : Nat) (f : Fld) (b : Bool) (i j : Nat) : (d.setFlag f b i j).quay u = d.quay u := rfl
@[simp] theorem quay_setBit (d : Dev) (u : Nat) (f : Fld) (i b : Nat) (v : Bool) : (d.setBit f i b v).quay u = d.quay u := rfl
@[simp] theorem quay_count (d : Dev) (u : Nat) (f : Fld) (i n : Nat) : (d.count f i n).quay u = d.quay u := rfl
@[simp] theorem quay_raise (d : Dev) (u : Nat) (typ s g : Nat) (l : List (Nat × Nat × Nat)) (b : Bool) : (d.raise typ s g l b).quay u = d.quay u := rfl
@[simp] theorem quay_raiseRecs (d : Dev) (u : Nat) (s : Nat) (l : List Record) (b : Bool) : (d.raiseRecs s l b).quay u = d.quay u := rfl
@[simp] theorem quay_raiseMode (d : Dev) (u : Nat) (o : Nat) : (d.raiseMode o).quay u = d.quay u := rfl
@[simp] theorem quay_nextFree (d : Dev) (u : Nat) : (d.nextFree).quay u = d.quay u := rfl
@[simp] theorem quay_logItem (d : Dev) (u : Nat) (k : Nat) (l : List (Nat × Nat × Nat)) : (d.logItem k l).quay u = d.quay u := rfl
@[simp] theorem quay_setChan (d : Dev) (u j : Nat) (x : Chan) : (d.setChan j x).quay u = d.quay u := rfl
@[simp] theorem quay_setPhysQ (d : Dev) (u j : Nat) (x : PhysQuay) : (d.setPhysQ j x).quay u = d.quay u := rfl
@[simp] theorem quay_setPin (d : Dev) (u j : Nat) (x : Pin) : (d.setPin j x).quay u = d.quay u := rfl
@[simp] theorem quay_setPne (d : Dev) (u j : Nat) (x : PinEngine) : (d.setPne j x).quay u = d.quay u := rfl
@[simp] theorem quay_setRing (d : Dev) (u j : Nat) (x : Ring) : (d.setRing j x).quay u = d.quay u := rfl
@[simp] theorem quay_setHq (d : Dev) (u j : Nat) (x : HQueue) : (d.setHq j x).quay u = d.quay u := rfl
@[simp] theorem quay_setFunc (d : Dev) (u j : Nat) (x : Func) : (d.setFunc j x).quay u = d.quay u := rfl
@[simp] theorem quay_setLt (d : Dev) (u j : Nat) (x : Lt) : (d.setLt j x).quay u = d.quay u := rfl
@[simp] theorem quay_setEng (d : Dev) (u j : Nat) (x : Engine) : (d.setEng j x).quay u = d.quay u := rfl
@[simp] theorem quay_setOps (d : Dev) (u j : Nat) (x : MeOps) : (d.setOps j x).quay u = d.quay u := rfl
@[simp] theorem quay_setAxis (d : Dev) (u j : Nat) (x : Axis) : (d.setAxis j x).quay u = d.quay u := rfl
@[simp] theorem quay_setTrkr (d : Dev) (u j : Nat) (x : Tracker) : (d.setTrkr j x).quay u = d.quay u := rfl
@[simp] theorem quay_setCwp (d : Dev) (u j : Nat) (x : CwPort) : (d.setCwp j x).quay u = d.quay u := rfl
@[simp] theorem quay_setGrp (d : Dev) (u j : Nat) (x : Group) : (d.setGrp j x).quay u = d.quay u := rfl
@[simp] theorem quay_setSrc (d : Dev) (u j : Nat) (x : Src) : (d.setSrc j x).quay u = d.quay u := rfl
@[simp] theorem physQ_setFld (d : Dev) (u : Nat) (f : Fld) (v i j : Nat) : (d.setFld f v i j).physQ u = d.physQ u := rfl
@[simp] theorem physQ_setFlag (d : Dev) (u : Nat) (f : Fld) (b : Bool) (i j : Nat) : (d.setFlag f b i j).physQ u = d.physQ u := rfl
@[simp] theorem physQ_setBit (d : Dev) (u : Nat) (f : Fld) (i b : Nat) (v : Bool) : (d.setBit f i b v).physQ u = d.physQ u := rfl
@[simp] theorem physQ_count (d : Dev) (u : Nat) (f : Fld) (i n : Nat) : (d.count f i n).physQ u = d.physQ u := rfl
@[simp] theorem physQ_raise (d : Dev) (u : Nat) (typ s g : Nat) (l : List (Nat × Nat × Nat)) (b : Bool) : (d.raise typ s g l b).physQ u = d.physQ u := rfl
@[simp] theorem physQ_raiseRecs (d : Dev) (u : Nat) (s : Nat) (l : List Record) (b : Bool) : (d.raiseRecs s l b).physQ u = d.physQ u := rfl
@[simp] theorem physQ_raiseMode (d : Dev) (u : Nat) (o : Nat) : (d.raiseMode o).physQ u = d.physQ u := rfl
@[simp] theorem physQ_nextFree (d : Dev) (u : Nat) : (d.nextFree).physQ u = d.physQ u := rfl
@[simp] theorem physQ_logItem (d : Dev) (u : Nat) (k : Nat) (l : List (Nat × Nat × Nat)) : (d.logItem k l).physQ u = d.physQ u := rfl
@[simp] theorem physQ_setChan (d : Dev) (u j : Nat) (x : Chan) : (d.setChan j x).physQ u = d.physQ u := rfl
@[simp] theorem physQ_setQuay (d : Dev) (u j : Nat) (x : Quay) : (d.setQuay j x).physQ u = d.physQ u := rfl
@[simp] theorem physQ_setPin (d : Dev) (u j : Nat) (x : Pin) : (d.setPin j x).physQ u = d.physQ u := rfl
@[simp] theorem physQ_setPne (d : Dev) (u j : Nat) (x : PinEngine) : (d.setPne j x).physQ u = d.physQ u := rfl
@[simp] theorem physQ_setRing (d : Dev) (u j : Nat) (x : Ring) : (d.setRing j x).physQ u = d.physQ u := rfl
@[simp] theorem physQ_setHq (d : Dev) (u j : Nat) (x : HQueue) : (d.setHq j x).physQ u = d.physQ u := rfl
@[simp] theorem physQ_setFunc (d : Dev) (u j : Nat) (x : Func) : (d.setFunc j x).physQ u = d.physQ u := rfl
@[simp] theorem physQ_setLt (d : Dev) (u j : Nat) (x : Lt) : (d.setLt j x).physQ u = d.physQ u := rfl
@[simp] theorem physQ_setEng (d : Dev) (u j : Nat) (x : Engine) : (d.setEng j x).physQ u = d.physQ u := rfl
@[simp] theorem physQ_setOps (d : Dev) (u j : Nat) (x : MeOps) : (d.setOps j x).physQ u = d.physQ u := rfl
@[simp] theorem physQ_setAxis (d : Dev) (u j : Nat) (x : Axis) : (d.setAxis j x).physQ u = d.physQ u := rfl
@[simp] theorem physQ_setTrkr (d : Dev) (u j : Nat) (x : Tracker) : (d.setTrkr j x).physQ u = d.physQ u := rfl
@[simp] theorem physQ_setCwp (d : Dev) (u j : Nat) (x : CwPort) : (d.setCwp j x).physQ u = d.physQ u := rfl
@[simp] theorem physQ_setGrp (d : Dev) (u j : Nat) (x : Group) : (d.setGrp j x).physQ u = d.physQ u := rfl
@[simp] theorem physQ_setSrc (d : Dev) (u j : Nat) (x : Src) : (d.setSrc j x).physQ u = d.physQ u := rfl
@[simp] theorem pin_setFld (d : Dev) (u : Nat) (f : Fld) (v i j : Nat) : (d.setFld f v i j).pin u = d.pin u := rfl
@[simp] theorem pin_setFlag (d : Dev) (u : Nat) (f : Fld) (b : Bool) (i j : Nat) : (d.setFlag f b i j).pin u = d.pin u := rfl
@[simp] theorem pin_setBit (d : Dev) (u : Nat) (f : Fld) (i b : Nat) (v : Bool) : (d.setBit f i b v).pin u = d.pin u := rfl
@[simp] theorem pin_count (d : Dev) (u : Nat) (f : Fld) (i n : Nat) : (d.count f i n).pin u = d.pin u := rfl
@[simp] theorem pin_raise (d : Dev) (u : Nat) (typ s g : Nat) (l : List (Nat × Nat × Nat)) (b : Bool) : (d.raise typ s g l b).pin u = d.pin u := rfl
@[simp] theorem pin_raiseRecs (d : Dev) (u : Nat) (s : Nat) (l : List Record) (b : Bool) : (d.raiseRecs s l b).pin u = d.pin u := rfl
@[simp] theorem pin_raiseMode (d : Dev) (u : Nat) (o : Nat) : (d.raiseMode o).pin u = d.pin u := rfl
@[simp] theorem pin_nextFree (d : Dev) (u : Nat) : (d.nextFree).pin u = d.pin u := rfl
@[simp] theorem pin_logItem (d : Dev) (u : Nat) (k : Nat) (l : List (Nat × Nat × Nat)) : (d.logItem k l).pin u = d.pin u := rfl
@[simp] theorem pin_setChan (d : Dev) (u j : Nat) (x : Chan) : (d.setChan j x).pin u = d.pin u := rfl
@[simp] theorem pin_setQuay (d : Dev) (u j : Nat) (x : Quay) : (d.setQuay j x).pin u = d.pin u := rfl
@[simp] theorem pin_setPhysQ (d : Dev) (u j : Nat) (x : PhysQuay) : (d.setPhysQ j x).pin u = d.pin u := rfl
@[simp] theorem pin_setPne (d : Dev) (u j : Nat) (x : PinEngine) : (d.setPne j x).pin u = d.pin u := rfl
@[simp] theorem pin_setRing (d : Dev) (u j : Nat) (x : Ring) : (d.setRing j x).pin u = d.pin u := rfl
@[simp] theorem pin_setHq (d : Dev) (u j : Nat) (x : HQueue) : (d.setHq j x).pin u = d.pin u := rfl
@[simp] theorem pin_setFunc (d : Dev) (u j : Nat) (x : Func) : (d.setFunc j x).pin u = d.pin u := rfl
@[simp] theorem pin_setLt (d : Dev) (u j : Nat) (x : Lt) : (d.setLt j x).pin u = d.pin u := rfl
@[simp] theorem pin_setEng (d : Dev) (u j : Nat) (x : Engine) : (d.setEng j x).pin u = d.pin u := rfl
@[simp] theorem pin_setOps (d : Dev) (u j : Nat) (x : MeOps) : (d.setOps j x).pin u = d.pin u := rfl
@[simp] theorem pin_setAxis (d : Dev) (u j : Nat) (x : Axis) : (d.setAxis j x).pin u = d.pin u := rfl
@[simp] theorem pin_setTrkr (d : Dev) (u j : Nat) (x : Tracker) : (d.setTrkr j x).pin u = d.pin u := rfl
@[simp] theorem pin_setCwp (d : Dev) (u j : Nat) (x : CwPort) : (d.setCwp j x).pin u = d.pin u := rfl
@[simp] theorem pin_setGrp (d : Dev) (u j : Nat) (x : Group) : (d.setGrp j x).pin u = d.pin u := rfl
@[simp] theorem pin_setSrc (d : Dev) (u j : Nat) (x : Src) : (d.setSrc j x).pin u = d.pin u := rfl
@[simp] theorem pne_setFld (d : Dev) (u : Nat) (f : Fld) (v i j : Nat) : (d.setFld f v i j).pne u = d.pne u := rfl
@[simp] theorem pne_setFlag (d : Dev) (u : Nat) (f : Fld) (b : Bool) (i j : Nat) : (d.setFlag f b i j).pne u = d.pne u := rfl
@[simp] theorem pne_setBit (d : Dev) (u : Nat) (f : Fld) (i b : Nat) (v : Bool) : (d.setBit f i b v).pne u = d.pne u := rfl
@[simp] theorem pne_count (d : Dev) (u : Nat) (f : Fld) (i n : Nat) : (d.count f i n).pne u = d.pne u := rfl
@[simp] theorem pne_raise (d : Dev) (u : Nat) (typ s g : Nat) (l : List (Nat × Nat × Nat)) (b : Bool) : (d.raise typ s g l b).pne u = d.pne u := rfl
@[simp] theorem pne_raiseRecs (d : Dev) (u : Nat) (s : Nat) (l : List Record) (b : Bool) : (d.raiseRecs s l b).pne u = d.pne u := rfl
@[simp] theorem pne_raiseMode (d : Dev) (u : Nat) (o : Nat) : (d.raiseMode o).pne u = d.pne u := rfl
@[simp] theorem pne_nextFree (d : Dev) (u : Nat) : (d.nextFree).pne u = d.pne u := rfl
@[simp] theorem pne_logItem (d : Dev) (u : Nat) (k : Nat) (l : List (Nat × Nat × Nat)) : (d.logItem k l).pne u = d.pne u := rfl
@[simp] theorem pne_setChan (d : Dev) (u j : Nat) (x : Chan) : (d.setChan j x).pne u = d.pne u := rfl
@[simp] theorem pne_setQuay (d : Dev) (u j : Nat) (x : Quay) : (d.setQuay j x).pne u = d.pne u := rfl
@[simp] theorem pne_setPhysQ (d : Dev) (u j : Nat) (x : PhysQuay) : (d.setPhysQ j x).pne u = d.pne u := rfl
@[simp] theorem pne_setPin (d : Dev) (u j : Nat) (x : Pin) : (d.setPin j x).pne u = d.pne u := rfl
@[simp] theorem pne_setRing (d : Dev) (u j : Nat) (x : Ring) : (d.setRing j x).pne u = d.pne u := rfl
@[simp] theorem pne_setHq (d : Dev) (u j : Nat) (x : HQueue) : (d.setHq j x).pne u = d.pne u := rfl
@[simp] theorem pne_setFunc (d : Dev) (u j : Nat) (x : Func) : (d.setFunc j x).pne u = d.pne u := rfl
@[simp] theorem pne_setLt (d : Dev) (u j : Nat) (x : Lt) : (d.setLt j x).pne u = d.pne u := rfl
@[simp] theorem pne_setEng (d : Dev) (u j : Nat) (x : Engine) : (d.setEng j x).pne u = d.pne u := rfl
@[simp] theorem pne_setOps (d : Dev) (u j : Nat) (x : MeOps) : (d.setOps j x).pne u = d.pne u := rfl
@[simp] theorem pne_setAxis (d : Dev) (u j : Nat) (x : Axis) : (d.setAxis j x).pne u = d.pne u := rfl
@[simp] theorem pne_setTrkr (d : Dev) (u j : Nat) (x : Tracker) : (d.setTrkr j x).pne u = d.pne u := rfl
@[simp] theorem pne_setCwp (d : Dev) (u j : Nat) (x : CwPort) : (d.setCwp j x).pne u = d.pne u := rfl
@[simp] theorem pne_setGrp (d : Dev) (u j : Nat) (x : Group) : (d.setGrp j x).pne u = d.pne u := rfl
@[simp] theorem pne_setSrc (d : Dev) (u j : Nat) (x : Src) : (d.setSrc j x).pne u = d.pne u := rfl
@[simp] theorem ring_setFld (d : Dev) (u : Nat) (f : Fld) (v i j : Nat) : (d.setFld f v i j).ring u = d.ring u := rfl
@[simp] theorem ring_setFlag (d : Dev) (u : Nat) (f : Fld) (b : Bool) (i j : Nat) : (d.setFlag f b i j).ring u = d.ring u := rfl
@[simp] theorem ring_setBit (d : Dev) (u : Nat) (f : Fld) (i b : Nat) (v : Bool) : (d.setBit f i b v).ring u = d.ring u := rfl
@[simp] theorem ring_count (d : Dev) (u : Nat) (f : Fld) (i n : Nat) : (d.count f i n).ring u = d.ring u := rfl
@[simp] theorem ring_raise (d : Dev) (u : Nat) (typ s g : Nat) (l : List (Nat × Nat × Nat)) (b : Bool) : (d.raise typ s g l b).ring u = d.ring u := rfl
@[simp] theorem ring_raiseRecs (d : Dev) (u : Nat) (s : Nat) (l : List Record) (b : Bool) : (d.raiseRecs s l b).ring u = d.ring u := rfl
@[simp] theorem ring_raiseMode (d : Dev) (u : Nat) (o : Nat) : (d.raiseMode o).ring u = d.ring u := rfl
@[simp] theorem ring_nextFree (d : Dev) (u : Nat) : (d.nextFree).ring u = d.ring u := rfl
@[simp] theorem ring_logItem (d : Dev) (u : Nat) (k : Nat) (l : List (Nat × Nat × Nat)) : (d.logItem k l).ring u = d.ring u := rfl
@[simp] theorem ring_setChan (d : Dev) (u j : Nat) (x : Chan) : (d.setChan j x).ring u = d.ring u := rfl
@[simp] theorem ring_setQuay (d : Dev) (u j : Nat) (x : Quay) : (d.setQuay j x).ring u = d.ring u := rfl
@[simp] theorem ring_setPhysQ (d : Dev) (u j : Nat) (x : PhysQuay) : (d.setPhysQ j x).ring u = d.ring u := rfl
@[simp] theorem ring_setPin (d : Dev) (u j : Nat) (x : Pin) : (d.setPin j x).ring u = d.ring u := rfl
@[simp] theorem ring_setPne (d : Dev) (u j : Nat) (x : PinEngine) : (d.setPne j x).ring u = d.ring u := rfl
@[simp] theorem ring_setHq (d : Dev) (u j : Nat) (x : HQueue) : (d.setHq j x).ring u = d.ring u := rfl
@[simp] theorem ring_setFunc (d : Dev) (u j : Nat) (x : Func) : (d.setFunc j x).ring u = d.ring u := rfl
@[simp] theorem ring_setLt (d : Dev) (u j : Nat) (x : Lt) : (d.setLt j x).ring u = d.ring u := rfl
@[simp] theorem ring_setEng (d : Dev) (u j : Nat) (x : Engine) : (d.setEng j x).ring u = d.ring u := rfl
@[simp] theorem ring_setOps (d : Dev) (u j : Nat) (x : MeOps) : (d.setOps j x).ring u = d.ring u := rfl
@[simp] theorem ring_setAxis (d : Dev) (u j : Nat) (x : Axis) : (d.setAxis j x).ring u = d.ring u := rfl
@[simp] theorem ring_setTrkr (d : Dev) (u j : Nat) (x : Tracker) : (d.setTrkr j x).ring u = d.ring u := rfl
@[simp] theorem ring_setCwp (d : Dev) (u j : Nat) (x : CwPort) : (d.setCwp j x).ring u = d.ring u := rfl
@[simp] theorem ring_setGrp (d : Dev) (u j : Nat) (x : Group) : (d.setGrp j x).ring u = d.ring u := rfl
@[simp] theorem ring_setSrc (d : Dev) (u j : Nat) (x : Src) : (d.setSrc j x).ring u = d.ring u := rfl
@[simp] theorem hq_setFld (d : Dev) (u : Nat) (f : Fld) (v i j : Nat) : (d.setFld f v i j).hq u = d.hq u := rfl
@[simp] theorem hq_setFlag (d : Dev) (u : Nat) (f : Fld) (b : Bool) (i j : Nat) : (d.setFlag f b i j).hq u = d.hq u := rfl
@[simp] theorem hq_setBit (d : Dev) (u : Nat) (f : Fld) (i b : Nat) (v : Bool) : (d.setBit f i b v).hq u = d.hq u := rfl
@[simp] theorem hq_count (d : Dev) (u : Nat) (f : Fld) (i n : Nat) : (d.count f i n).hq u = d.hq u := rfl
@[simp] theorem hq_raise (d : Dev) (u : Nat) (typ s g : Nat) (l : List (Nat × Nat × Nat)) (b : Bool) : (d.raise typ s g l b).hq u = d.hq u := rfl
@[simp] theorem hq_raiseRecs (d : Dev) (u : Nat) (s : Nat) (l : List Record) (b : Bool) : (d.raiseRecs s l b).hq u = d.hq u := rfl
@[simp] theorem hq_raiseMode (d : Dev) (u : Nat) (o : Nat) : (d.raiseMode o).hq u = d.hq u := rfl
@[simp] theorem hq_nextFree (d : Dev) (u : Nat) : (d.nextFree).hq u = d.hq u := rfl
@[simp] theorem hq_logItem (d : Dev) (u : Nat) (k : Nat) (l : List (Nat × Nat × Nat)) : (d.logItem k l).hq u = d.hq u := rfl
@[simp] theorem hq_setChan (d : Dev) (u j : Nat) (x : Chan) : (d.setChan j x).hq u = d.hq u := rfl
@[simp] theorem hq_setQuay (d : Dev) (u j : Nat) (x : Quay) : (d.setQuay j x).hq u = d.hq u := rfl
@[simp] theorem hq_setPhysQ (d : Dev) (u j : Nat) (x : PhysQuay) : (d.setPhysQ j x).hq u = d.hq u := rfl
@[simp] theorem hq_setPin (d : Dev) (u j : Nat) (x : Pin) : (d.setPin j x).hq u = d.hq u := rfl
@[simp] theorem hq_setPne (d : Dev) (u j : Nat) (x : PinEngine) : (d.setPne j x).hq u = d.hq u := rfl
@[simp] theorem hq_setRing (d : Dev) (u j : Nat) (x : Ring) : (d.setRing j x).hq u = d.hq u := rfl
@[simp] theorem hq_setFunc (d : Dev) (u j : Nat) (x : Func) : (d.setFunc j x).hq u = d.hq u := rfl
@[simp] theorem hq_setLt (d : Dev) (u j : Nat) (x : Lt) : (d.setLt j x).hq u = d.hq u := rfl
@[simp] theorem hq_setEng (d : Dev) (u j : Nat) (x : Engine) : (d.setEng j x).hq u = d.hq u := rfl
@[simp] theorem hq_setOps (d : Dev) (u j : Nat) (x : MeOps) : (d.setOps j x).hq u = d.hq u := rfl
@[simp] theorem hq_setAxis (d : Dev) (u j : Nat) (x : Axis) : (d.setAxis j x).hq u = d.hq u := rfl
@[simp] theorem hq_setTrkr (d : Dev) (u j : Nat) (x : Tracker) : (d.setTrkr j x).hq u = d.hq u := rfl
@[simp] theorem hq_setCwp (d : Dev) (u j : Nat) (x : CwPort) : (d.setCwp j x).hq u = d.hq u := rfl
@[simp] theorem hq_setGrp (d : Dev) (u j : Nat) (x : Group) : (d.setGrp j x).hq u = d.hq u := rfl
@[simp] theorem hq_setSrc (d : Dev) (u j : Nat) (x : Src) : (d.setSrc j x).hq u = d.hq u := rfl
@[simp] theorem func_setFld (d : Dev) (u : Nat) (f : Fld) (v i j : Nat) : (d.setFld f v i j).func u = d.func u := rfl
@[simp] theorem func_setFlag (d : Dev) (u : Nat) (f : Fld) (b : Bool) (i j : Nat) : (d.setFlag f b i j).func u = d.func u := rfl
@[simp] theorem func_setBit (d : Dev) (u : Nat) (f : Fld) (i b : Nat) (v : Bool) : (d.setBit f i b v).func u = d.func u := rfl
@[simp] theorem func_count (d : Dev) (u : Nat) (f : Fld) (i n : Nat) : (d.count f i n).func u = d.func u := rfl
@[simp] theorem func_raise (d : Dev) (u : Nat) (typ s g : Nat) (l : List (Nat × Nat × Nat)) (b : Bool) : (d.raise typ s g l b).func u = d.func u := rfl
@[simp] theorem func_raiseRecs (d : Dev) (u : Nat) (s : Nat) (l : List Record) (b : Bool) : (d.raiseRecs s l b).func u = d.func u := rfl
@[simp] theorem func_raiseMode (d : Dev) (u : Nat) (o : Nat) : (d.raiseMode o).func u = d.func u := rfl
@[simp] theorem func_nextFree (d : Dev) (u : Nat) : (d.nextFree).func u = d.func u := rfl
@[simp] theorem func_logItem (d : Dev) (u : Nat) (k : Nat) (l : List (Nat × Nat × Nat)) : (d.logItem k l).func u = d.func u := rfl
@[simp] theorem func_setChan (d : Dev) (u j : Nat) (x : Chan) : (d.setChan j x).func u = d.func u := rfl
@[simp] theorem func_setQuay (d : Dev) (u j : Nat) (x : Quay) : (d.setQuay j x).func u = d.func u := rfl
@[simp] theorem func_setPhysQ (d : Dev) (u j : Nat) (x : PhysQuay) : (d.setPhysQ j x).func u = d.func u := rfl
@[simp] theorem func_setPin (d : Dev) (u j : Nat) (x : Pin) : (d.setPin j x).func u = d.func u := rfl
@[simp] theorem func_setPne (d : Dev) (u j : Nat) (x : PinEngine) : (d.setPne j x).func u = d.func u := rfl
@[simp] theorem func_setRing (d : Dev) (u j : Nat) (x : Ring) : (d.setRing j x).func u = d.func u := rfl
@[simp] theorem func_setHq (d : Dev) (u j : Nat) (x : HQueue) : (d.setHq j x).func u = d.func u := rfl
@[simp] theorem func_setLt (d : Dev) (u j : Nat) (x : Lt) : (d.setLt j x).func u = d.func u := rfl
@[simp] theorem func_setEng (d : Dev) (u j : Nat) (x : Engine) : (d.setEng j x).func u = d.func u := rfl
@[simp] theorem func_setOps (d : Dev) (u j : Nat) (x : MeOps) : (d.setOps j x).func u = d.func u := rfl
@[simp] theorem func_setAxis (d : Dev) (u j : Nat) (x : Axis) : (d.setAxis j x).func u = d.func u := rfl
@[simp] theorem func_setTrkr (d : Dev) (u j : Nat) (x : Tracker) : (d.setTrkr j x).func u = d.func u := rfl
@[simp] theorem func_setCwp (d : Dev) (u j : Nat) (x : CwPort) : (d.setCwp j x).func u = d.func u := rfl
@[simp] theorem func_setGrp (d : Dev) (u j : Nat) (x : Group) : (d.setGrp j x).func u = d.func u := rfl
@[simp] theorem func_setSrc (d : Dev) (u j : Nat) (x : Src) : (d.setSrc j x).func u = d.func u := rfl
@[simp] theorem ltc_setFld (d : Dev) (u : Nat) (f : Fld) (v i j : Nat) : (d.setFld f v i j).ltc u = d.ltc u := rfl
@[simp] theorem ltc_setFlag (d : Dev) (u : Nat) (f : Fld) (b : Bool) (i j : Nat) : (d.setFlag f b i j).ltc u = d.ltc u := rfl
@[simp] theorem ltc_setBit (d : Dev) (u : Nat) (f : Fld) (i b : Nat) (v : Bool) : (d.setBit f i b v).ltc u = d.ltc u := rfl
@[simp] theorem ltc_count (d : Dev) (u : Nat) (f : Fld) (i n : Nat) : (d.count f i n).ltc u = d.ltc u := rfl
@[simp] theorem ltc_raise (d : Dev) (u : Nat) (typ s g : Nat) (l : List (Nat × Nat × Nat)) (b : Bool) : (d.raise typ s g l b).ltc u = d.ltc u := rfl
@[simp] theorem ltc_raiseRecs (d : Dev) (u : Nat) (s : Nat) (l : List Record) (b : Bool) : (d.raiseRecs s l b).ltc u = d.ltc u := rfl
@[simp] theorem ltc_raiseMode (d : Dev) (u : Nat) (o : Nat) : (d.raiseMode o).ltc u = d.ltc u := rfl
@[simp] theorem ltc_nextFree (d : Dev) (u : Nat) : (d.nextFree).ltc u = d.ltc u := rfl
@[simp] theorem ltc_logItem (d : Dev) (u : Nat) (k : Nat) (l : List (Nat × Nat × Nat)) : (d.logItem k l).ltc u = d.ltc u := rfl
@[simp] theorem ltc_setChan (d : Dev) (u j : Nat) (x : Chan) : (d.setChan j x).ltc u = d.ltc u := rfl
@[simp] theorem ltc_setQuay (d : Dev) (u j : Nat) (x : Quay) : (d.setQuay j x).ltc u = d.ltc u := rfl
@[simp] theorem ltc_setPhysQ (d : Dev) (u j : Nat) (x : PhysQuay) : (d.setPhysQ j x).ltc u = d.ltc u := rfl
@[simp] theorem ltc_setPin (d : Dev) (u j : Nat) (x : Pin) : (d.setPin j x).ltc u = d.ltc u := rfl
@[simp] theorem ltc_setPne (d : Dev) (u j : Nat) (x : PinEngine) : (d.setPne j x).ltc u = d.ltc u := rfl
@[simp] theorem ltc_setRing (d : Dev) (u j : Nat) (x : Ring) : (d.setRing j x).ltc u = d.ltc u := rfl
@[simp] theorem ltc_setHq (d : Dev) (u j : Nat) (x : HQueue) : (d.setHq j x).ltc u = d.ltc u := rfl
@[simp] theorem ltc_setFunc (d : Dev) (u j : Nat) (x : Func) : (d.setFunc j x).ltc u = d.ltc u := rfl
@[simp] theorem ltc_setEng (d : Dev) (u j : Nat) (x : Engine) : (d.setEng j x).ltc u = d.ltc u := rfl
@[simp] theorem ltc_setOps (d : Dev) (u j : Nat) (x : MeOps) : (d.setOps j x).ltc u = d.ltc u := rfl
@[simp] theorem ltc_setAxis (d : Dev) (u j : Nat) (x : Axis) : (d.setAxis j x).ltc u = d.ltc u := rfl
@[simp] theorem ltc_setTrkr (d : Dev) (u j : Nat) (x : Tracker) : (d.setTrkr j x).ltc u = d.ltc u := rfl
@[simp] theorem ltc_setCwp (d : Dev) (u j : Nat) (x : CwPort) : (d.setCwp j x).ltc u = d.ltc u := rfl
@[simp] theorem ltc_setGrp (d : Dev) (u j : Nat) (x : Group) : (d.setGrp j x).ltc u = d.ltc u := rfl
@[simp] theorem ltc_setSrc (d : Dev) (u j : Nat) (x : Src) : (d.setSrc j x).ltc u = d.ltc u := rfl
@[simp] theorem eng_setFld (d : Dev) (u : Nat) (f : Fld) (v i j : Nat) : (d.setFld f v i j).eng u = d.eng u := rfl
@[simp] theorem eng_setFlag (d : Dev) (u : Nat) (f : Fld) (b : Bool) (i j : Nat) : (d.setFlag f b i j).eng u = d.eng u := rfl
@[simp] theorem eng_setBit (d : Dev) (u : Nat) (f : Fld) (i b : Nat) (v : Bool) : (d.setBit f i b v).eng u = d.eng u := rfl
@[simp] theorem eng_count (d : Dev) (u : Nat) (f : Fld) (i n : Nat) : (d.count f i n).eng u = d.eng u := rfl
@[simp] theorem eng_raise (d : Dev) (u : Nat) (typ s g : Nat) (l : List (Nat × Nat × Nat)) (b : Bool) : (d.raise typ s g l b).eng u = d.eng u := rfl
@[simp] theorem eng_raiseRecs (d : Dev) (u : Nat) (s : Nat) (l : List Record) (b : Bool) : (d.raiseRecs s l b).eng u = d.eng u := rfl
@[simp] theorem eng_raiseMode (d : Dev) (u : Nat) (o : Nat) : (d.raiseMode o).eng u = d.eng u := rfl
@[simp] theorem eng_nextFree (d : Dev) (u : Nat) : (d.nextFree).eng u = d.eng u := rfl
@[simp] theorem eng_logItem (d : Dev) (u : Nat) (k : Nat) (l : List (Nat × Nat × Nat)) : (d.logItem k l).eng u = d.eng u := rfl
@[simp] theorem eng_setChan (d : Dev) (u j : Nat) (x : Chan) : (d.setChan j x).eng u = d.eng u := rfl
@[simp] theorem eng_setQuay (d : Dev) (u j : Nat) (x : Quay) : (d.setQuay j x).eng u = d.eng u := rfl
@[simp] theorem eng_setPhysQ (d : Dev) (u j : Nat) (x : PhysQuay) : (d.setPhysQ j x).eng u = d.eng u := rfl
@[simp] theorem eng_setPin (d : Dev) (u j : Nat) (x : Pin) : (d.setPin j x).eng u = d.eng u := rfl
@[simp] theorem eng_setPne (d : Dev) (u j : Nat) (x : PinEngine) : (d.setPne j x).eng u = d.eng u := rfl
@[simp] theorem eng_setRing (d : Dev) (u j : Nat) (x : Ring) : (d.setRing j x).eng u = d.eng u := rfl
@[simp] theorem eng_setHq (d : Dev) (u j : Nat) (x : HQueue) : (d.setHq j x).eng u = d.eng u := rfl
@[simp] theorem eng_setFunc (d : Dev) (u j : Nat) (x : Func) : (d.setFunc j x).eng u = d.eng u := rfl
@[simp] theorem eng_setLt (d : Dev) (u j : Nat) (x : Lt) : (d.setLt j x).eng u = d.eng u := rfl
@[simp] theorem eng_setOps (d : Dev) (u j : Nat) (x : MeOps) : (d.setOps j x).eng u = d.eng u := rfl
@[simp] theorem eng_setAxis (d : Dev) (u j : Nat) (x : Axis) : (d.setAxis j x).eng u = d.eng u := rfl
@[simp] theorem eng_setTrkr (d : Dev) (u j : Nat) (x : Tracker) : (d.setTrkr j x).eng u = d.eng u := rfl
@[simp] theorem eng_setCwp (d : Dev) (u j : Nat) (x : CwPort) : (d.setCwp j x).eng u = d.eng u := rfl
@[simp] theorem eng_setGrp (d : Dev) (u j : Nat) (x : Group) : (d.setGrp j x).eng u = d.eng u := rfl
@[simp] theorem eng_setSrc (d : Dev) (u j : Nat) (x : Src) : (d.setSrc j x).eng u = d.eng u := rfl
@[simp] theorem ops_setFld (d : Dev) (u : Nat) (f : Fld) (v i j : Nat) : (d.setFld f v i j).ops u = d.ops u := rfl
@[simp] theorem ops_setFlag (d : Dev) (u : Nat) (f : Fld) (b : Bool) (i j : Nat) : (d.setFlag f b i j).ops u = d.ops u := rfl
@[simp] theorem ops_setBit (d : Dev) (u : Nat) (f : Fld) (i b : Nat) (v : Bool) : (d.setBit f i b v).ops u = d.ops u := rfl
@[simp] theorem ops_count (d : Dev) (u : Nat) (f : Fld) (i n : Nat) : (d.count f i n).ops u = d.ops u := rfl
@[simp] theorem ops_raise (d : Dev) (u : Nat) (typ s g : Nat) (l : List (Nat × Nat × Nat)) (b : Bool) : (d.raise typ s g l b).ops u = d.ops u := rfl
@[simp] theorem ops_raiseRecs (d : Dev) (u : Nat) (s : Nat) (l : List Record) (b : Bool) : (d.raiseRecs s l b).ops u = d.ops u := rfl
@[simp] theorem ops_raiseMode (d : Dev) (u : Nat) (o : Nat) : (d.raiseMode o).ops u = d.ops u := rfl
@[simp] theorem ops_nextFree (d : Dev) (u : Nat) : (d.nextFree).ops u = d.ops u := rfl
@[simp] theorem ops_logItem (d : Dev) (u : Nat) (k : Nat) (l : List (Nat × Nat × Nat)) : (d.logItem k l).ops u = d.ops u := rfl
@[simp] theorem ops_setChan (d : Dev) (u j : Nat) (x : Chan) : (d.setChan j x).ops u = d.ops u := rfl
@[simp] theorem ops_setQuay (d : Dev) (u j : Nat) (x : Quay) : (d.setQuay j x).ops u = d.ops u := rfl
@[simp] theorem ops_setPhysQ (d : Dev) (u j : Nat) (x : PhysQuay) : (d.setPhysQ j x).ops u = d.ops u := rfl
@[simp] theorem ops_setPin (d : Dev) (u j : Nat) (x : Pin) : (d.setPin j x).ops u = d.ops u := rfl
@[simp] theorem ops_setPne (d : Dev) (u j : Nat) (x : PinEngine) : (d.setPne j x).ops u = d.ops u := rfl
@[simp] theorem ops_setRing (d : Dev) (u j : Nat) (x : Ring) : (d.setRing j x).ops u = d.ops u := rfl
@[simp] theorem ops_setHq (d : Dev) (u j : Nat) (x : HQueue) : (d.setHq j x).ops u = d.ops u := rfl
@[simp] theorem ops_setFunc (d : Dev) (u j : Nat) (x : Func) : (d.setFunc j x).ops u = d.ops u := rfl
@[simp] theorem ops_setLt (d : Dev) (u j : Nat) (x : Lt) : (d.setLt j x).ops u = d.ops u := rfl
@[simp] theorem ops_setEng (d : Dev) (u j : Nat) (x : Engine) : (d.setEng j x).ops u = d.ops u := rfl
@[simp] theorem ops_setAxis (d : Dev) (u j : Nat) (x : Axis) : (d.setAxis j x).ops u = d.ops u := rfl
@[simp] theorem ops_setTrkr (d : Dev) (u j : Nat) (x : Tracker) : (d.setTrkr j x).ops u = d.ops u := rfl
@[simp] theorem ops_setCwp (d : Dev) (u j : Nat) (x : CwPort) : (d.setCwp j x).ops u = d.ops u := rfl
@[simp] theorem ops_setGrp (d : Dev) (u j : Nat) (x : Group) : (d.setGrp j x).ops u = d.ops u := rfl
@[simp] theorem ops_setSrc (d : Dev) (u j : Nat) (x : Src) : (d.setSrc j x).ops u = d.ops u := rfl
@[simp] theorem axis_setFld (d : Dev) (u : Nat) (f : Fld) (v i j : Nat) : (d.setFld f v i j).axis u = d.axis u := rfl
@[simp] theorem axis_setFlag (d : Dev) (u : Nat) (f : Fld) (b : Bool) (i j : Nat) : (d.setFlag f b i j).axis u = d.axis u := rfl
@[simp] theorem axis_setBit (d : Dev) (u : Nat) (f : Fld) (i b : Nat) (v : Bool) : (d.setBit f i b v).axis u = d.axis u := rfl
@[simp] theorem axis_count (d : Dev) (u : Nat) (f : Fld) (i n : Nat) : (d.count f i n).axis u = d.axis u := rfl
@[simp] theorem axis_raise (d : Dev) (u : Nat) (typ s g : Nat) (l : List (Nat × Nat × Nat)) (b : Bool) : (d.raise typ s g l b).axis u = d.axis u := rfl
@[simp] theorem axis_raiseRecs (d : Dev) (u : Nat) (s : Nat) (l : List Record) (b : Bool) : (d.raiseRecs s l b).axis u = d.axis u := rfl
@[simp] theorem axis_raiseMode (d : Dev) (u : Nat) (o : Nat) : (d.raiseMode o).axis u = d.axis u := rfl
@[simp] theorem axis_nextFree (d : Dev) (u : Nat) : (d.nextFree).axis u = d.axis u := rfl
@[simp] theorem axis_logItem (d : Dev) (u : Nat) (k : Nat) (l : List (Nat × Nat × Nat)) : (d.logItem k l).axis u = d.axis u := rfl
@[simp] theorem axis_setChan (d : Dev) (u j : Nat) (x : Chan) : (d.setChan j x).axis u = d.axis u := rfl
@[simp] theorem axis_setQuay (d : Dev) (u j : Nat) (x : Quay) : (d.setQuay j x).axis u = d.axis u := rfl
@[simp] theorem axis_setPhysQ (d : Dev) (u j : Nat) (x : PhysQuay) : (d.setPhysQ j x).axis u = d.axis u := rfl
@[simp] theorem axis_setPin (d : Dev) (u j : Nat) (x : Pin) : (d.setPin j x).axis u = d.axis u := rfl
@[simp] theorem axis_setPne (d : Dev) (u j : Nat) (x : PinEngine) : (d.setPne j x).axis u = d.axis u := rfl
@[simp] theorem axis_setRing (d : Dev) (u j : Nat) (x : Ring) : (d.setRing j x).axis u = d.axis u := rfl
@[simp] theorem axis_setHq (d : Dev) (u j : Nat) (x : HQueue) : (d.setHq j x).axis u = d.axis u := rfl
@[simp] theorem axis_setFunc (d : Dev) (u j : Nat) (x : Func) : (d.setFunc j x).axis u = d.axis u := rfl
@[simp] theorem axis_setLt (d : Dev) (u j : Nat) (x : Lt) : (d.setLt j x).axis u = d.axis u := rfl
@[simp] theorem axis_setEng (d : Dev) (u j : Nat) (x : Engine) : (d.setEng j x).axis u = d.axis u := rfl
@[simp] theorem axis_setOps (d : Dev) (u j : Nat) (x : MeOps) : (d.setOps j x).axis u = d.axis u := rfl
@[simp] theorem axis_setTrkr (d : Dev) (u j : Nat) (x : Tracker) : (d.setTrkr j x).axis u = d.axis u := rfl
@[simp] theorem axis_setCwp (d : Dev) (u j : Nat) (x : CwPort) : (d.setCwp j x).axis u = d.axis u := rfl
@[simp] theorem axis_setGrp (d : Dev) (u j : Nat) (x : Group) : (d.setGrp j x).axis u = d.axis u := rfl
@[simp] theorem axis_setSrc (d : Dev) (u j : Nat) (x : Src) : (d.setSrc j x).axis u = d.axis u := rfl
@[simp] theorem trkr_setFld (d : Dev) (u : Nat) (f : Fld) (v i j : Nat) : (d.setFld f v i j).trkr u = d.trkr u := rfl
@[simp] theorem trkr_setFlag (d : Dev) (u : Nat) (f : Fld) (b : Bool) (i j : Nat) : (d.setFlag f b i j).trkr u = d.trkr u := rfl
@[simp] theorem trkr_setBit (d : Dev) (u : Nat) (f : Fld) (i b : Nat) (v : Bool) : (d.setBit f i b v).trkr u = d.trkr u := rfl
@[simp] theorem trkr_count (d : Dev) (u : Nat) (f : Fld) (i n : Nat) : (d.count f i n).trkr u = d.trkr u := rfl
@[simp] theorem trkr_raise (d : Dev) (u : Nat) (typ s g : Nat) (l : List (Nat × Nat × Nat)) (b : Bool) : (d.raise typ s g l b).trkr u = d.trkr u := rfl
@[simp] theorem trkr_raiseRecs (d : Dev) (u : Nat) (s : Nat) (l : List Record) (b : Bool) : (d.raiseRecs s l b).trkr u = d.trkr u := rfl
@[simp] theorem trkr_raiseMode (d : Dev) (u : Nat) (o : Nat) : (d.raiseMode o).trkr u = d.trkr u := rfl
@[simp] theorem trkr_nextFree (d : Dev) (u : Nat) : (d.nextFree).trkr u = d.trkr u := rfl
@[simp] theorem trkr_logItem (d : Dev) (u : Nat) (k : Nat) (l : List (Nat × Nat × Nat)) : (d.logItem k l).trkr u = d.trkr u := rfl
@[simp] theorem trkr_setChan (d : Dev) (u j : Nat) (x : Chan) : (d.setChan j x).trkr u = d.trkr u := rfl
@[simp] theorem trkr_setQuay (d : Dev) (u j : Nat) (x : Quay) : (d.setQuay j x).trkr u = d.trkr u := rfl
@[simp] theorem trkr_setPhysQ (d : Dev) (u j : Nat) (x : PhysQuay) : (d.setPhysQ j x).trkr u = d.trkr u := rfl
@[simp] theorem trkr_setPin (d : Dev) (u j : Nat) (x : Pin) : (d.setPin j x).trkr u = d.trkr u := rfl
@[simp] theorem trkr_setPne (d : Dev) (u j : Nat) (x : PinEngine) : (d.setPne j x).trkr u = d.trkr u := rfl
@[simp] theorem trkr_setRing (d : Dev) (u j : Nat) (x : Ring) : (d.setRing j x).trkr u = d.trkr u := rfl
@[simp] theorem trkr_setHq (d : Dev) (u j : Nat) (x : HQueue) : (d.setHq j x).trkr u = d.trkr u := rfl
@[simp] theorem trkr_setFunc (d : Dev) (u j : Nat) (x : Func) : (d.setFunc j x).trkr u = d.trkr u := rfl
@[simp] theorem trkr_setLt (d : Dev) (u j : Nat) (x : Lt) : (d.setLt j x).trkr u = d.trkr u := rfl
@[simp] theorem trkr_setEng (d : Dev) (u j : Nat) (x : Engine) : (d.setEng j x).trkr u = d.trkr u := rfl
@[simp] theorem trkr_setOps (d : Dev) (u j : Nat) (x : MeOps) : (d.setOps j x).trkr u = d.trkr u := rfl
@[simp] theorem trkr_setAxis (d : Dev) (u j : Nat) (x : Axis) : (d.setAxis j x).trkr u = d.trkr u := rfl
@[simp] theorem trkr_setCwp (d : Dev) (u j : Nat) (x : CwPort) : (d.setCwp j x).trkr u = d.trkr u := rfl
@[simp] theorem trkr_setGrp (d : Dev) (u j : Nat) (x : Group) : (d.setGrp j x).trkr u = d.trkr u := rfl
@[simp] theorem trkr_setSrc (d : Dev) (u j : Nat) (x : Src) : (d.setSrc j x).trkr u = d.trkr u := rfl
@[simp] theorem cwp_setFld (d : Dev) (u : Nat) (f : Fld) (v i j : Nat) : (d.setFld f v i j).cwp u = d.cwp u := rfl
@[simp] theorem cwp_setFlag (d : Dev) (u : Nat) (f : Fld) (b : Bool) (i j : Nat) : (d.setFlag f b i j).cwp u = d.cwp u := rfl
@[simp] theorem cwp_setBit (d : Dev) (u : Nat) (f : Fld) (i b : Nat) (v : Bool) : (d.setBit f i b v).cwp u = d.cwp u := rfl
@[simp] theorem cwp_count (d : Dev) (u : Nat) (f : Fld) (i n : Nat) : (d.count f i n).cwp u = d.cwp u := rfl
@[simp] theorem cwp_raise (d : Dev) (u : Nat) (typ s g : Nat) (l : List (Nat × Nat × Nat)) (b : Bool) : (d.raise typ s g l b).cwp u = d.cwp u := rfl
@[simp] theorem cwp_raiseRecs (d : Dev) (u : Nat) (s : Nat) (l : List Record) (b : Bool) : (d.raiseRecs s l b).cwp u = d.cwp u := rfl
@[simp] theorem cwp_raiseMode (d : Dev) (u : Nat) (o : Nat) : (d.raiseMode o).cwp u = d.cwp u := rfl
@[simp] theorem cwp_nextFree (d : Dev) (u : Nat) : (d.nextFree).cwp u = d.cwp u := rfl
@[simp] theorem cwp_logItem (d : Dev) (u : Nat) (k : Nat) (l : List (Nat × Nat × Nat)) : (d.logItem k l).cwp u = d.cwp u := rfl
@[simp] theorem cwp_setChan (d : Dev) (u j : Nat) (x : Chan) : (d.setChan j x).cwp u = d.cwp u := rfl
@[simp] theorem cwp_setQuay (d : Dev) (u j : Nat) (x : Quay) : (d.setQuay j x).cwp u = d.cwp u := rfl
@[simp] theorem cwp_setPhysQ (d : Dev) (u j : Nat) (x : PhysQuay) : (d.setPhysQ j x).cwp u = d.cwp u := rfl
@[simp] theorem cwp_setPin (d : Dev) (u j : Nat) (x : Pin) : (d.setPin j x).cwp u = d.cwp u := rfl
@[simp] theorem cwp_setPne (d : Dev) (u j : Nat) (x : PinEngine) : (d.setPne j x).cwp u = d.cwp u := rfl
@[simp] theorem cwp_setRing (d : Dev) (u j : Nat) (x : Ring) : (d.setRing j x).cwp u = d.cwp u := rfl
@[simp] theorem cwp_setHq (d : Dev) (u j : Nat) (x : HQueue) : (d.setHq j x).cwp u = d.cwp u := rfl
@[simp] theorem cwp_setFunc (d : Dev) (u j : Nat) (x : Func) : (d.setFunc j x).cwp u = d.cwp u := rfl
@[simp] theorem cwp_setLt (d : Dev) (u j : Nat) (x : Lt) : (d.setLt j x).cwp u = d.cwp u := rfl
@[simp] theorem cwp_setEng (d : Dev) (u j : Nat) (x : Engine) : (d.setEng j x).cwp u = d.cwp u := rfl
@[simp] theorem cwp_setOps (d : Dev) (u j : Nat) (x : MeOps) : (d.setOps j x).cwp u = d.cwp u := rfl
@[simp] theorem cwp_setAxis (d : Dev) (u j : Nat) (x : Axis) : (d.setAxis j x).cwp u = d.cwp u := rfl
@[simp] theorem cwp_setTrkr (d : Dev) (u j : Nat) (x : Tracker) : (d.setTrkr j x).cwp u = d.cwp u := rfl
@[simp] theorem cwp_setGrp (d : Dev) (u j : Nat) (x : Group) : (d.setGrp j x).cwp u = d.cwp u := rfl
@[simp] theorem cwp_setSrc (d : Dev) (u j : Nat) (x : Src) : (d.setSrc j x).cwp u = d.cwp u := rfl
@[simp] theorem grp_setFld (d : Dev) (u : Nat) (f : Fld) (v i j : Nat) : (d.setFld f v i j).grp u = d.grp u := rfl
@[simp] theorem grp_setFlag (d : Dev) (u : Nat) (f : Fld) (b : Bool) (i j : Nat) : (d.setFlag f b i j).grp u = d.grp u := rfl
@[simp] theorem grp_setBit (d : Dev) (u : Nat) (f : Fld) (i b : Nat) (v : Bool) : (d.setBit f i b v).grp u = d.grp u := rfl
@[simp] theorem grp_count (d : Dev) (u : Nat) (f : Fld) (i n : Nat) : (d.count f i n).grp u = d.grp u := rfl
@[simp] theorem grp_raise (d : Dev) (u : Nat) (typ s g : Nat) (l : List (Nat × Nat × Nat)) (b : Bool) : (d.raise typ s g l b).grp u = d.grp u := rfl
@[simp] theorem grp_raiseRecs (d : Dev) (u : Nat) (s : Nat) (l : List Record) (b : Bool) : (d.raiseRecs s l b).grp u = d.grp u := rfl
@[simp] theorem grp_raiseMode (d : Dev) (u : Nat) (o : Nat) : (d.raiseMode o).grp u = d.grp u := rfl
@[simp] theorem grp_nextFree (d : Dev) (u : Nat) : (d.nextFree).grp u = d.grp u := rfl
@[simp] theorem grp_logItem (d : Dev) (u : Nat) (k : Nat) (l : List (Nat × Nat × Nat)) : (d.logItem k l).grp u = d.grp u := rfl
@[simp] theorem grp_setChan (d : Dev) (u j : Nat) (x : Chan) : (d.setChan j x).grp u = d.grp u := rfl
@[simp] theorem grp_setQuay (d : Dev) (u j : Nat) (x : Quay) : (d.setQuay j x).grp u = d.grp u := rfl
@[simp] theorem grp_setPhysQ (d : Dev) (u j : Nat) (x : PhysQuay) : (d.setPhysQ j x).grp u = d.grp u := rfl
@[simp] theorem grp_setPin (d : Dev) (u j : Nat) (x : Pin) : (d.setPin j x).grp u = d.grp u := rfl
@[simp] theorem grp_setPne (d : Dev) (u j : Nat) (x : PinEngine) : (d.setPne j x).grp u = d.grp u := rfl
@[simp] theorem grp_setRing (d : Dev) (u j : Nat) (x : Ring) : (d.setRing j x).grp u = d.grp u := rfl
@[simp] theorem grp_setHq (d : Dev) (u j : Nat) (x : HQueue) : (d.setHq j x).grp u = d.grp u := rfl
@[simp] theorem grp_setFunc (d : Dev) (u j : Nat) (x : Func) : (d.setFunc j x).grp u = d.grp u := rfl
@[simp] theorem grp_setLt (d : Dev) (u j : Nat) (x : Lt) : (d.setLt j x).grp u = d.grp u := rfl
@[simp] theorem grp_setEng (d : Dev) (u j : Nat) (x : Engine) : (d.setEng j x).grp u = d.grp u := rfl
@[simp] theorem grp_setOps (d : Dev) (u j : Nat) (x : MeOps) : (d.setOps j x).grp u = d.grp u := rfl
@[simp] theorem grp_setAxis (d : Dev) (u j : Nat) (x : Axis) : (d.setAxis j x).grp u = d.grp u := rfl
@[simp] theorem grp_setTrkr (d : Dev) (u j : Nat) (x : Tracker) : (d.setTrkr j x).grp u = d.grp u := rfl
@[simp] theorem grp_setCwp (d : Dev) (u j : Nat) (x : CwPort) : (d.setCwp j x).grp u = d.grp u := rfl
@[simp] theorem grp_setSrc (d : Dev) (u j : Nat) (x : Src) : (d.setSrc j x).grp u = d.grp u := rfl
@[simp] theorem src_setFld (d : Dev) (u : Nat) (f : Fld) (v i j : Nat) : (d.setFld f v i j).src u = d.src u := rfl
@[simp] theorem src_setFlag (d : Dev) (u : Nat) (f : Fld) (b : Bool) (i j : Nat) : (d.setFlag f b i j).src u = d.src u := rfl
@[simp] theorem src_setBit (d : Dev) (u : Nat) (f : Fld) (i b : Nat) (v : Bool) : (d.setBit f i b v).src u = d.src u := rfl
@[simp] theorem src_count (d : Dev) (u : Nat) (f : Fld) (i n : Nat) : (d.count f i n).src u = d.src u := rfl
@[simp] theorem src_raise (d : Dev) (u : Nat) (typ s g : Nat) (l : List (Nat × Nat × Nat)) (b : Bool) : (d.raise typ s g l b).src u = d.src u := rfl
@[simp] theorem src_raiseRecs (d : Dev) (u : Nat) (s : Nat) (l : List Record) (b : Bool) : (d.raiseRecs s l b).src u = d.src u := rfl
@[simp] theorem src_raiseMode (d : Dev) (u : Nat) (o : Nat) : (d.raiseMode o).src u = d.src u := rfl
@[simp] theorem src_nextFree (d : Dev) (u : Nat) : (d.nextFree).src u = d.src u := rfl
@[simp] theorem src_logItem (d : Dev) (u : Nat) (k : Nat) (l : List (Nat × Nat × Nat)) : (d.logItem k l).src u = d.src u := rfl
@[simp] theorem src_setChan (d : Dev) (u j : Nat) (x : Chan) : (d.setChan j x).src u = d.src u := rfl
@[simp] theorem src_setQuay (d : Dev) (u j : Nat) (x : Quay) : (d.setQuay j x).src u = d.src u := rfl
@[simp] theorem src_setPhysQ (d : Dev) (u j : Nat) (x : PhysQuay) : (d.setPhysQ j x).src u = d.src u := rfl
@[simp] theorem src_setPin (d : Dev) (u j : Nat) (x : Pin) : (d.setPin j x).src u = d.src u := rfl
@[simp] theorem src_setPne (d : Dev) (u j : Nat) (x : PinEngine) : (d.setPne j x).src u = d.src u := rfl
@[simp] theorem src_setRing (d : Dev) (u j : Nat) (x : Ring) : (d.setRing j x).src u = d.src u := rfl
@[simp] theorem src_setHq (d : Dev) (u j : Nat) (x : HQueue) : (d.setHq j x).src u = d.src u := rfl
@[simp] theorem src_setFunc (d : Dev) (u j : Nat) (x : Func) : (d.setFunc j x).src u = d.src u := rfl
@[simp] theorem src_setLt (d : Dev) (u j : Nat) (x : Lt) : (d.setLt j x).src u = d.src u := rfl
@[simp] theorem src_setEng (d : Dev) (u j : Nat) (x : Engine) : (d.setEng j x).src u = d.src u := rfl
@[simp] theorem src_setOps (d : Dev) (u j : Nat) (x : MeOps) : (d.setOps j x).src u = d.src u := rfl
@[simp] theorem src_setAxis (d : Dev) (u j : Nat) (x : Axis) : (d.setAxis j x).src u = d.src u := rfl
@[simp] theorem src_setTrkr (d : Dev) (u j : Nat) (x : Tracker) : (d.setTrkr j x).src u = d.src u := rfl
@[simp] theorem src_setCwp (d : Dev) (u j : Nat) (x : CwPort) : (d.setCwp j x).src u = d.src u := rfl
@[simp] theorem src_setGrp (d : Dev) (u j : Nat) (x : Group) : (d.setGrp j x).src u = d.src u := rfl

/-! Register fields after an update of something else. -/

@[simp] theorem fld_raise (d : Dev) (fd : Fld) (i' j' : Nat) (typ s g : Nat) (l : List (Nat × Nat × Nat)) (b : Bool) : (d.raise typ s g l b).fld fd i' j' = d.fld fd i' j' := rfl
@[simp] theorem fld_raiseRecs (d : Dev) (fd : Fld) (i' j' : Nat) (s : Nat) (l : List Record) (b : Bool) : (d.raiseRecs s l b).fld fd i' j' = d.fld fd i' j' := rfl
@[simp] theorem fld_raiseMode (d : Dev) (fd : Fld) (i' j' : Nat) (o : Nat) : (d.raiseMode o).fld fd i' j' = d.fld fd i' j' := rfl
@[simp] theorem fld_nextFree (d : Dev) (fd : Fld) (i' j' : Nat) : (d.nextFree).fld fd i' j' = d.fld fd i' j' := rfl
@[simp] theorem fld_logItem (d : Dev) (fd : Fld) (i' j' : Nat) (k : Nat) (l : List (Nat × Nat × Nat)) : (d.logItem k l).fld fd i' j' = d.fld fd i' j' := rfl
@[simp] theorem fld_setChan (d : Dev) (fd : Fld) (i' j' : Nat) (k : Nat) (x : Chan) : (d.setChan k x).fld fd i' j' = d.fld fd i' j' := rfl
@[simp] theorem fld_setQuay (d : Dev) (fd : Fld) (i' j' : Nat) (k : Nat) (x : Quay) : (d.setQuay k x).fld fd i' j' = d.fld fd i' j' := rfl
@[simp] theorem fld_setPhysQ (d : Dev) (fd : Fld) (i' j' : Nat) (k : Nat) (x : PhysQuay) : (d.setPhysQ k x).fld fd i' j' = d.fld fd i' j' := rfl
@[simp] theorem fld_setPin (d : Dev) (fd : Fld) (i' j' : Nat) (k : Nat) (x : Pin) : (d.setPin k x).fld fd i' j' = d.fld fd i' j' := rfl
@[simp] theorem fld_setPne (d : Dev) (fd : Fld) (i' j' : Nat) (k : Nat) (x : PinEngine) : (d.setPne k x).fld fd i' j' = d.fld fd i' j' := rfl
@[simp] theorem fld_setRing (d : Dev) (fd : Fld) (i' j' : Nat) (k : Nat) (x : Ring) : (d.setRing k x).fld fd i' j' = d.fld fd i' j' := rfl
@[simp] theorem fld_setHq (d : Dev) (fd : Fld) (i' j' : Nat) (k : Nat) (x : HQueue) : (d.setHq k x).fld fd i' j' = d.fld fd i' j' := rfl
@[simp] theorem fld_setFunc (d : Dev) (fd : Fld) (i' j' : Nat) (k : Nat) (x : Func) : (d.setFunc k x).fld fd i' j' = d.fld fd i' j' := rfl
@[simp] theorem fld_setLt (d : Dev) (fd : Fld) (i' j' : Nat) (k : Nat) (x : Lt) : (d.setLt k x).fld fd i' j' = d.fld fd i' j' := rfl
@[simp] theorem fld_setEng (d : Dev) (fd : Fld) (i' j' : Nat) (k : Nat) (x : Engine) : (d.setEng k x).fld fd i' j' = d.fld fd i' j' := rfl
@[simp] theorem fld_setOps (d : Dev) (fd : Fld) (i' j' : Nat) (k : Nat) (x : MeOps) : (d.setOps k x).fld fd i' j' = d.fld fd i' j' := rfl
@[simp] theorem fld_setAxis (d : Dev) (fd : Fld) (i' j' : Nat) (k : Nat) (x : Axis) : (d.setAxis k x).fld fd i' j' = d.fld fd i' j' := rfl
@[simp] theorem fld_setTrkr (d : Dev) (fd : Fld) (i' j' : Nat) (k : Nat) (x : Tracker) : (d.setTrkr k x).fld fd i' j' = d.fld fd i' j' := rfl
@[simp] theorem fld_setCwp (d : Dev) (fd : Fld) (i' j' : Nat) (k : Nat) (x : CwPort) : (d.setCwp k x).fld fd i' j' = d.fld fd i' j' := rfl
@[simp] theorem fld_setGrp (d : Dev) (fd : Fld) (i' j' : Nat) (k : Nat) (x : Group) : (d.setGrp k x).fld fd i' j' = d.fld fd i' j' := rfl
@[simp] theorem fld_setSrc (d : Dev) (fd : Fld) (i' j' : Nat) (k : Nat) (x : Src) : (d.setSrc k x).fld fd i' j' = d.fld fd i' j' := rfl

end Sys2Proof.Laws
end

