-- ==== Sys2Proof/Laws/Fields.lean ====
section
/-! SUPPORT. The widths of the register fields. -/

namespace Sys2Proof.Laws

open Sys2Proof.Machine

@[simp] theorem len_SYS_ID_VENDOR_ID : SYS_ID.VENDOR_ID.len = 16 := rfl
@[simp] theorem len_SYS_ID_DEVICE_ID : SYS_ID.DEVICE_ID.len = 16 := rfl
@[simp] theorem len_SYS_ID_REVISION : SYS_ID.REVISION.len = 8 := rfl
@[simp] theorem len_SYS_ID_JEDEC_ID : SYS_ID.JEDEC_ID.len = 11 := rfl
@[simp] theorem len_SYS_CAP_QUAYS : SYS_CAP.QUAYS.len = 6 := rfl
@[simp] theorem len_SYS_CAP_ENGINES : SYS_CAP.ENGINES.len = 6 := rfl
@[simp] theorem len_SYS_CAP_PIN_ENGINES : SYS_CAP.PIN_ENGINES.len = 6 := rfl
@[simp] theorem len_SYS_CAP_LIGHTER : SYS_CAP.LIGHTER.len = 6 := rfl
@[simp] theorem len_SYS_CAP_BERTHS : SYS_CAP.BERTHS.len = 6 := rfl
@[simp] theorem len_SYS_MODE_MODE : SYS_MODE.MODE.len = 2 := rfl
@[simp] theorem len_SYS_MODE_PENDING_GO : SYS_MODE.PENDING_GO.len = 1 := rfl
@[simp] theorem len_SYS_MODE_AUTO_RESUME : SYS_MODE.AUTO_RESUME.len = 1 := rfl
@[simp] theorem len_SYS_MODE_GO : SYS_MODE.GO.len = 1 := rfl
@[simp] theorem len_SYS_MODE_HOLD : SYS_MODE.HOLD.len = 1 := rfl
@[simp] theorem len_SYS_MODE_CAUSE : SYS_MODE.CAUSE.len = 8 := rfl
@[simp] theorem len_SYS_MODE_STEPPED : SYS_MODE.STEPPED.len = 1 := rfl
@[simp] theorem len_SYS_MODE_ARMED : SYS_MODE.ARMED.len = 1 := rfl
@[simp] theorem len_SYS_MODE_GO_REQ : SYS_MODE.GO_REQ.len = 1 := rfl
@[simp] theorem len_SYS_RESET_KEY : SYS_RESET.KEY.len = 32 := rfl
@[simp] theorem len_SYS_FAULT_AX0_INVALID : SYS_FAULT.AX0_INVALID.len = 1 := rfl
@[simp] theorem len_SYS_FAULT_TB_DEGRADED : SYS_FAULT.TB_DEGRADED.len = 1 := rfl
@[simp] theorem len_SYS_FAULT_QUAY_EXHAUSTED : SYS_FAULT.QUAY_EXHAUSTED.len = 1 := rfl
@[simp] theorem len_SYS_FAULT_ENGINE_EXHAUSTED : SYS_FAULT.ENGINE_EXHAUSTED.len = 1 := rfl
@[simp] theorem len_SYS_FAULT_BERTH_EXHAUSTED : SYS_FAULT.BERTH_EXHAUSTED.len = 1 := rfl
@[simp] theorem len_SYS_FAULT_FREQ_HOLD : SYS_FAULT.FREQ_HOLD.len = 1 := rfl
@[simp] theorem len_SYS_FAULT_SW : SYS_FAULT.SW.len = 1 := rfl
@[simp] theorem len_SYS_FMASK_EN : SYS_FMASK.EN.len = 7 := rfl
@[simp] theorem len_SYS_REPAIR_SPARE_QUAYS : SYS_REPAIR.SPARE_QUAYS.len = 2 := rfl
@[simp] theorem len_SYS_REPAIR_RELIEF_FREE : SYS_REPAIR.RELIEF_FREE.len = 2 := rfl
@[simp] theorem len_SYS_REPAIR_SPARE_BERTHS : SYS_REPAIR.SPARE_BERTHS.len = 6 := rfl
@[simp] theorem len_SYS_REPAIR_MAP_VALID : SYS_REPAIR.MAP_VALID.len = 1 := rfl
@[simp] theorem len_SYS_BOOT_STAGE : SYS_BOOT.STAGE.len = 4 := rfl
@[simp] theorem len_SYS_BOOT_SOURCE : SYS_BOOT.SOURCE.len = 2 := rfl
@[simp] theorem len_SYS_BOOT_BOOTSEL : SYS_BOOT.BOOTSEL.len = 2 := rfl
@[simp] theorem len_SYS_BOOT_LAST_ERR : SYS_BOOT.LAST_ERR.len = 8 := rfl
@[simp] theorem len_SYS_BOOT_ERR_OP : SYS_BOOT.ERR_OP.len = 16 := rfl
@[simp] theorem len_SYS_PUSH_ADDR : SYS_PUSH.ADDR.len = 60 := rfl
@[simp] theorem len_SYS_PUSHLEN_LEN : SYS_PUSHLEN.LEN.len = 21 := rfl
@[simp] theorem len_SYS_PUSHLEN_GO : SYS_PUSHLEN.GO.len = 1 := rfl
@[simp] theorem len_SYS_RSTCAUSE_CAUSE : SYS_RSTCAUSE.CAUSE.len = 3 := rfl
@[simp] theorem len_SYS_RSTCAUSE_ATTEMPTS : SYS_RSTCAUSE.ATTEMPTS.len = 8 := rfl
@[simp] theorem len_SYS_IOCFG_VA : SYS_IOCFG.VA.len = 1 := rfl
@[simp] theorem len_SYS_IOCFG_VB : SYS_IOCFG.VB.len = 1 := rfl
@[simp] theorem len_SYS_IOCFG_DRV_A : SYS_IOCFG.DRV_A.len = 2 := rfl
@[simp] theorem len_SYS_IOCFG_DRV_B : SYS_IOCFG.DRV_B.len = 2 := rfl
@[simp] theorem len_SYS_IOCFG_PD_DIS_A : SYS_IOCFG.PD_DIS_A.len = 1 := rfl
@[simp] theorem len_SYS_IOCFG_PD_DIS_B : SYS_IOCFG.PD_DIS_B.len = 1 := rfl
@[simp] theorem len_SYS_IOCFG_CLOAD_A : SYS_IOCFG.CLOAD_A.len = 4 := rfl
@[simp] theorem len_SYS_IOCFG_CLOAD_B : SYS_IOCFG.CLOAD_B.len = 4 := rfl
@[simp] theorem len_SYS_TEMP_TEMP : SYS_TEMP.TEMP.len = 10 := rfl
@[simp] theorem len_SYS_TEMP_HOT : SYS_TEMP.HOT.len = 1 := rfl
@[simp] theorem len_HM_SEAL_SEAL : HM_SEAL.SEAL.len = 1 := rfl
@[simp] theorem len_HM_STATUS_LOGKEY_SET : HM_STATUS.LOGKEY_SET.len = 1 := rfl
@[simp] theorem len_HM_STATUS_KEYS_SET : HM_STATUS.KEYS_SET.len = 8 := rfl
@[simp] theorem len_HM_STATUS_DENY_CNT : HM_STATUS.DENY_CNT.len = 8 := rfl
@[simp] theorem len_HM_STATUS_DENY_FUNC : HM_STATUS.DENY_FUNC.len = 3 := rfl
@[simp] theorem len_HM_FRIGHTS_FULL_RESET : HM_FRIGHTS.FULL_RESET.len = 1 := rfl
@[simp] theorem len_HM_FRIGHTS_KEY_OFF : HM_FRIGHTS.KEY_OFF.len = 1 := rfl
@[simp] theorem len_HM_FRIGHTS_LOG_READ : HM_FRIGHTS.LOG_READ.len = 1 := rfl
@[simp] theorem len_HM_FRIGHTS_LOG_CLEAR : HM_FRIGHTS.LOG_CLEAR.len = 1 := rfl
@[simp] theorem len_HM_FRIGHTS_STEP_FORCE : HM_FRIGHTS.STEP_FORCE.len = 1 := rfl
@[simp] theorem len_HM_FRIGHTS_TALLY : HM_FRIGHTS.TALLY.len = 1 := rfl
@[simp] theorem len_HM_FQUAY_QUAY : HM_FQUAY.QUAY.len = 32 := rfl
@[simp] theorem len_HM_FRES_AXES : HM_FRES.AXES.len = 16 := rfl
@[simp] theorem len_HM_FRES_TRK : HM_FRES.TRK.len = 8 := rfl
@[simp] theorem len_HM_FENG_ENG : HM_FENG.ENG.len = 24 := rfl
@[simp] theorem len_HM_FPIN_PIN : HM_FPIN.PIN.len = 32 := rfl
@[simp] theorem len_HM_FBERTH_BERTH : HM_FBERTH.BERTH.len = 32 := rfl
@[simp] theorem len_HM_OWN_FUNC : HM_OWN.FUNC.len = 3 := rfl
@[simp] theorem len_HM_OWN_VALID : HM_OWN.VALID.len = 1 := rfl
@[simp] theorem len_HM_ENG_QUAY : HM_ENG.QUAY.len = 32 := rfl
@[simp] theorem len_HM_ENG_BERTH : HM_ENG.BERTH.len = 32 := rfl
@[simp] theorem len_HM_EKEY_KEYS : HM_EKEY.KEYS.len = 8 := rfl
@[simp] theorem len_HM_KEY_KEY : HM_KEY.KEY.len = 512 := rfl
@[simp] theorem len_CK_REFSEL_SRC : CK_REFSEL.SRC.len = 2 := rfl
@[simp] theorem len_CK_REFSEL_FALLBACK_EN : CK_REFSEL.FALLBACK_EN.len = 1 := rfl
@[simp] theorem len_CK_REFSEL_FREQ_HOLD_EN : CK_REFSEL.FREQ_HOLD_EN.len = 1 := rfl
@[simp] theorem len_CK_REFSEL_ACTIVE : CK_REFSEL.ACTIVE.len = 2 := rfl
@[simp] theorem len_CK_REFSEL_SWITCHED : CK_REFSEL.SWITCHED.len = 1 := rfl
@[simp] theorem len_CK_STAT_LOCKED : CK_STAT.LOCKED.len = 1 := rfl
@[simp] theorem len_CK_STAT_PLL_HOLD : CK_STAT.PLL_HOLD.len = 1 := rfl
@[simp] theorem len_CK_STAT_IN_OK : CK_STAT.IN_OK.len = 1 := rfl
@[simp] theorem len_CK_STAT_REC_OK : CK_STAT.REC_OK.len = 1 := rfl
@[simp] theorem len_CK_STAT_LOCK_LOSS : CK_STAT.LOCK_LOSS.len = 8 := rfl
@[simp] theorem len_CK_STAT_REF_OFS : CK_STAT.REF_OFS.len = 16 := rfl
@[simp] theorem len_VG_CTRL_VDRIFT_PPB : VG_CTRL.VDRIFT_PPB.len = 16 := rfl
@[simp] theorem len_VG_CTRL_TS_PERIOD : VG_CTRL.TS_PERIOD.len = 8 := rfl
@[simp] theorem len_VG_CTRL_AUTO_CAL : VG_CTRL.AUTO_CAL.len = 1 := rfl
@[simp] theorem len_VG_STAT_VALID : VG_STAT.VALID.len = 1 := rfl
@[simp] theorem len_VG_STAT_XFAIL : VG_STAT.XFAIL.len = 1 := rfl
@[simp] theorem len_VG_STAT_ON_VBAK : VG_STAT.ON_VBAK.len = 1 := rfl
@[simp] theorem len_VG_STAT_TEMP : VG_STAT.TEMP.len = 10 := rfl
@[simp] theorem len_VG_COMP_T0 : VG_COMP.T0.len = 10 := rfl
@[simp] theorem len_VG_COMP_K2 : VG_COMP.K2.len = 12 := rfl
@[simp] theorem len_VG_CAL_CAL : VG_CAL.CAL.len = 24 := rfl
@[simp] theorem len_VG_OFF_T_OFF : VG_OFF.T_OFF.len = 32 := rfl
@[simp] theorem len_VG_OFF_UNC_OFF : VG_OFF.UNC_OFF.len = 32 := rfl
@[simp] theorem len_HI_SLAB_BASE : HI_SLAB.BASE.len = 52 := rfl
@[simp] theorem len_HI_POLL_POLL : HI_POLL.POLL.len = 16 := rfl
@[simp] theorem len_HI_POLL_OUTSTANDING : HI_POLL.OUTSTANDING.len = 4 := rfl
@[simp] theorem len_HI_FSTAT_BME : HI_FSTAT.BME.len = 1 := rfl
@[simp] theorem len_HI_FSTAT_D3 : HI_FSTAT.D3.len = 1 := rfl
@[simp] theorem len_HI_FSTAT_ASLEEP : HI_FSTAT.ASLEEP.len = 1 := rfl
@[simp] theorem len_HI_FSTAT_WAKE_PEND : HI_FSTAT.WAKE_PEND.len = 1 := rfl
@[simp] theorem len_HI_SUM_SUMMARY : HI_SUM.SUMMARY.len = 64 := rfl
@[simp] theorem len_HI_LINK_SPEED : HI_LINK.SPEED.len = 2 := rfl
@[simp] theorem len_HI_LINK_WIDTH : HI_LINK.WIDTH.len = 3 := rfl
@[simp] theorem len_HI_LINK_UP : HI_LINK.UP.len = 1 := rfl
@[simp] theorem len_HI_LINK_L1 : HI_LINK.L1.len = 1 := rfl
@[simp] theorem len_HI_LINK_PERST : HI_LINK.PERST.len = 1 := rfl
@[simp] theorem len_HI_LINK_DOWN_CNT : HI_LINK.DOWN_CNT.len = 16 := rfl
@[simp] theorem len_HI_LINK_RTT_RTT_MAX : HI_LINK_RTT.RTT_MAX.len = 16 := rfl
@[simp] theorem len_HI_LINK_RTT_RTT_LAST : HI_LINK_RTT.RTT_LAST.len = 16 := rfl
@[simp] theorem len_HI_LINK_WR_WR_MAX : HI_LINK_WR.WR_MAX.len = 16 := rfl
@[simp] theorem len_CQ_BASE_BASE : CQ_BASE.BASE.len = 52 := rfl
@[simp] theorem len_CQ_CFG_SIZE : CQ_CFG.SIZE.len = 5 := rfl
@[simp] theorem len_CQ_CFG_EN : CQ_CFG.EN.len = 1 := rfl
@[simp] theorem len_CQ_CFG_PREFETCH : CQ_CFG.PREFETCH.len = 1 := rfl
@[simp] theorem len_CQ_CFG_CQ_HQ : CQ_CFG.CQ_HQ.len = 6 := rfl
@[simp] theorem len_CQ_CFG_FUNC : CQ_CFG.FUNC.len = 3 := rfl
@[simp] theorem len_CQ_CI_CI : CQ_CI.CI.len = 32 := rfl
@[simp] theorem len_CQ_STAT_RSTATE : CQ_STAT.RSTATE.len = 2 := rfl
@[simp] theorem len_CQ_STAT_REEN_PEND : CQ_STAT.REEN_PEND.len = 1 := rfl
@[simp] theorem len_CQ_STAT_LONG : CQ_STAT.LONG.len = 3 := rfl
@[simp] theorem len_CQ_STAT_RGEN : CQ_STAT.RGEN.len = 16 := rfl
@[simp] theorem len_CQ_ERR_PHASE_CNT : CQ_ERR.PHASE_CNT.len = 8 := rfl
@[simp] theorem len_CQ_ERR_ABORT_CNT : CQ_ERR.ABORT_CNT.len = 8 := rfl
@[simp] theorem len_CQ_ERR_LOGGED_CNT : CQ_ERR.LOGGED_CNT.len = 8 := rfl
@[simp] theorem len_AX_CFG_TYPE : AX_CFG.TYPE.len = 3 := rfl
@[simp] theorem len_AX_CFG_EN : AX_CFG.EN.len = 1 := rfl
@[simp] theorem len_AX_CFG_SRC : AX_CFG.SRC.len = 12 := rfl
@[simp] theorem len_AX_CFG_SRC_IS_PIN : AX_CFG.SRC_IS_PIN.len = 1 := rfl
@[simp] theorem len_AX_CFG_EDGE : AX_CFG.EDGE.len = 2 := rfl
@[simp] theorem len_AX_CFG_DMODE : AX_CFG.DMODE.len = 1 := rfl
@[simp] theorem len_AX_CFG_INTERP : AX_CFG.INTERP.len = 1 := rfl
@[simp] theorem len_AX_CFG_DIR_EN : AX_CFG.DIR_EN.len = 1 := rfl
@[simp] theorem len_AX_CFG_DIR_POL : AX_CFG.DIR_POL.len = 1 := rfl
@[simp] theorem len_AX_CFG_DIR_PIN : AX_CFG.DIR_PIN.len = 7 := rfl
@[simp] theorem len_AX_PARA_PARA : AX_PARA.PARA.len = 48 := rfl
@[simp] theorem len_AX_PARB_PARB : AX_PARB.PARB.len = 64 := rfl
@[simp] theorem len_AX_PARC_PARC : AX_PARC.PARC.len = 64 := rfl
@[simp] theorem len_AX0_DSRC_SRC : AX0_DSRC.SRC.len = 2 := rfl
@[simp] theorem len_AX0_DSRC_ENGINE : AX0_DSRC.ENGINE.len = 5 := rfl
@[simp] theorem len_AX0_SLEW_SLEW_PPM : AX0_SLEW.SLEW_PPM.len = 9 := rfl
@[simp] theorem len_AX0_SLEW_RSTEP_PPM : AX0_SLEW.RSTEP_PPM.len = 9 := rfl
@[simp] theorem len_AX0_HOLD_TIMEOUT_MS : AX0_HOLD.TIMEOUT_MS.len = 16 := rfl
@[simp] theorem len_AX0_HOLD_DRIFT_PPB : AX0_HOLD.DRIFT_PPB.len = 16 := rfl
@[simp] theorem len_AX0_STATUS_STATE : AX0_STATUS.STATE.len = 2 := rfl
@[simp] theorem len_AX0_STATUS_SLEWING : AX0_STATUS.SLEWING.len = 1 := rfl
@[simp] theorem len_AX0_STATUS_VOTE_FAULT : AX0_STATUS.VOTE_FAULT.len = 3 := rfl
@[simp] theorem len_AX0_STATUS_STEP_COUNT : AX0_STATUS.STEP_COUNT.len = 8 := rfl
@[simp] theorem len_AX0_UNC_UNC : AX0_UNC.UNC.len = 32 := rfl
@[simp] theorem len_AX0_REPAIR_RETIRED : AX0_REPAIR.RETIRED.len = 2 := rfl
@[simp] theorem len_AX0_REPAIR_REPAIRING : AX0_REPAIR.REPAIRING.len = 1 := rfl
@[simp] theorem len_AX0_REPAIR_ACC : AX0_REPAIR.ACC.len = 2 := rfl
@[simp] theorem len_AX0_REPAIR_ATTEMPTS : AX0_REPAIR.ATTEMPTS.len = 2 := rfl
@[simp] theorem len_WT_CFG_EN : WT_CFG.EN.len = 1 := rfl
@[simp] theorem len_WT_CFG_PRI_EDGE : WT_CFG.PRI_EDGE.len = 1 := rfl
@[simp] theorem len_WT_CFG_PRI_PIN : WT_CFG.PRI_PIN.len = 7 := rfl
@[simp] theorem len_WT_CFG_PH_EN : WT_CFG.PH_EN.len = 1 := rfl
@[simp] theorem len_WT_CFG_PH_PIN : WT_CFG.PH_PIN.len = 7 := rfl
@[simp] theorem len_WT_CFG_LIMP_EN : WT_CFG.LIMP_EN.len = 1 := rfl
@[simp] theorem len_WT_WHEEL_SLOTS : WT_WHEEL.SLOTS.len = 13 := rfl
@[simp] theorem len_WT_WHEEL_GAP_TEETH : WT_WHEEL.GAP_TEETH.len = 2 := rfl
@[simp] theorem len_WT_ZERO_ZERO_OFS : WT_ZERO.ZERO_OFS.len = 24 := rfl
@[simp] theorem len_WT_WIN_EARLY_FRAC : WT_WIN.EARLY_FRAC.len = 8 := rfl
@[simp] theorem len_WT_WIN_GAP_FRAC : WT_WIN.GAP_FRAC.len = 8 := rfl
@[simp] theorem len_WT_WIN_LOSS_LIMIT : WT_WIN.LOSS_LIMIT.len = 8 := rfl
@[simp] theorem len_WT_WIN_STALL_MULT : WT_WIN.STALL_MULT.len = 4 := rfl
@[simp] theorem len_WT_INTERP_MT_BITS : WT_INTERP.MT_BITS.len = 5 := rfl
@[simp] theorem len_WT_INTERP_ACCEL_DEPTH : WT_INTERP.ACCEL_DEPTH.len = 3 := rfl
@[simp] theorem len_WT_SYNC_SYNC_NEED : WT_SYNC.SYNC_NEED.len = 13 := rfl
@[simp] theorem len_WT_SYNC_PH_SYNC_NEED : WT_SYNC.PH_SYNC_NEED.len = 5 := rfl
@[simp] theorem len_WT_REV_REV_DIR_EN : WT_REV.REV_DIR_EN.len = 1 := rfl
@[simp] theorem len_WT_REV_REV_PH_EN : WT_REV.REV_PH_EN.len = 1 := rfl
@[simp] theorem len_WT_REV_REV_GAP_EN : WT_REV.REV_GAP_EN.len = 1 := rfl
@[simp] theorem len_WT_REV_DIR_POL : WT_REV.DIR_POL.len = 1 := rfl
@[simp] theorem len_WT_REV_DIR_PIN : WT_REV.DIR_PIN.len = 7 := rfl
@[simp] theorem len_WT_PH_CFG_PH_COUNT : WT_PH_CFG.PH_COUNT.len = 6 := rfl
@[simp] theorem len_WT_PH_CFG_PH_TOL : WT_PH_CFG.PH_TOL.len = 24 := rfl
@[simp] theorem len_WT_STATUS_STATE : WT_STATUS.STATE.len = 3 := rfl
@[simp] theorem len_WT_STATUS_DIR : WT_STATUS.DIR.len = 1 := rfl
@[simp] theorem len_WT_STATUS_STALL : WT_STATUS.STALL.len = 1 := rfl
@[simp] theorem len_WT_STATUS_REL : WT_STATUS.REL.len = 1 := rfl
@[simp] theorem len_WT_STATUS_CFG_ERR : WT_STATUS.CFG_ERR.len = 1 := rfl
@[simp] theorem len_WT_STATUS_LOSS_CNT : WT_STATUS.LOSS_CNT.len = 8 := rfl
@[simp] theorem len_WT_STATUS_REJ_CNT : WT_STATUS.REJ_CNT.len = 8 := rfl
@[simp] theorem len_WT_STATUS_PH_MIS_CNT : WT_STATUS.PH_MIS_CNT.len = 8 := rfl
@[simp] theorem len_WT_PH_EDGE_ANGLE : WT_PH_EDGE.ANGLE.len = 24 := rfl
@[simp] theorem len_WT_PH_EDGE_POL : WT_PH_EDGE.POL.len = 1 := rfl
@[simp] theorem len_SL_CTRL_HOLD : SL_CTRL.HOLD.len = 1 := rfl
@[simp] theorem len_SL_STAGE_BERTHS : SL_STAGE.BERTHS.len = 32 := rfl
@[simp] theorem len_SL_STAT_STAGED : SL_STAT.STAGED.len = 16 := rfl
@[simp] theorem len_SL_STAT_ITEMS : SL_STAT.ITEMS.len = 11 := rfl
@[simp] theorem len_SL_STAT_STAGE_FULL : SL_STAT.STAGE_FULL.len = 1 := rfl
@[simp] theorem len_SL_CNT_ITEM_OVF : SL_CNT.ITEM_OVF.len = 16 := rfl
@[simp] theorem len_SL_CNT_STAGE_LOST : SL_CNT.STAGE_LOST.len = 16 := rfl
@[simp] theorem len_SL_GRP_HOLDOFF : SL_GRP.HOLDOFF.len = 16 := rfl
@[simp] theorem len_SL_GRP_RESIDUAL : SL_GRP.RESIDUAL.len = 16 := rfl
@[simp] theorem len_SL_PEND_PEND : SL_PEND.PEND.len = 32 := rfl
@[simp] theorem len_SL_TGT_KIND : SL_TGT.KIND.len = 2 := rfl
@[simp] theorem len_SL_TGT_TARGET : SL_TGT.TARGET.len = 6 := rfl
@[simp] theorem len_SL_TGT_PRIO : SL_TGT.PRIO.len = 8 := rfl
@[simp] theorem len_SL_TGT_GROUP : SL_TGT.GROUP.len = 6 := rfl
@[simp] theorem len_HQ_BASE_BASE : HQ_BASE.BASE.len = 52 := rfl
@[simp] theorem len_HQ_CFG_SIZE : HQ_CFG.SIZE.len = 5 := rfl
@[simp] theorem len_HQ_CFG_VECTOR : HQ_CFG.VECTOR.len = 6 := rfl
@[simp] theorem len_HQ_CFG_EN : HQ_CFG.EN.len = 1 := rfl
@[simp] theorem len_HQ_CFG_DISCARD : HQ_CFG.DISCARD.len = 1 := rfl
@[simp] theorem len_HQ_CFG_FUNC : HQ_CFG.FUNC.len = 3 := rfl
@[simp] theorem len_HQ_CFG_STG_MAX : HQ_CFG.STG_MAX.len = 4 := rfl
@[simp] theorem len_HQ_PI_PI : HQ_PI.PI.len = 32 := rfl
@[simp] theorem len_HQ_CI_CI : HQ_CI.CI.len = 32 := rfl
@[simp] theorem len_HQ_STAT_QSTATE : HQ_STAT.QSTATE.len = 2 := rfl
@[simp] theorem len_HQ_STAT_FULL : HQ_STAT.FULL.len = 1 := rfl
@[simp] theorem len_HQ_STAT_REEN_PEND : HQ_STAT.REEN_PEND.len = 1 := rfl
@[simp] theorem len_HQ_STAT_PHASE : HQ_STAT.PHASE.len = 1 := rfl
@[simp] theorem len_HQ_STAT_STAGED : HQ_STAT.STAGED.len = 16 := rfl
@[simp] theorem len_HQ_LOSS_LOST : HQ_LOSS.LOST.len = 32 := rfl
@[simp] theorem len_QY_CFG_AUDIT_LIMIT : QY_CFG.AUDIT_LIMIT.len = 8 := rfl
@[simp] theorem len_QY_CFG_AUTO_SUB : QY_CFG.AUTO_SUB.len = 1 := rfl
@[simp] theorem len_QY_STATUS_ROLE : QY_STATUS.ROLE.len = 2 := rfl
@[simp] theorem len_QY_STATUS_LOGICAL : QY_STATUS.LOGICAL.len = 5 := rfl
@[simp] theorem len_QY_STATUS_SUSPECT : QY_STATUS.SUSPECT.len = 1 := rfl
@[simp] theorem len_QY_STATUS_SLOTS_USED : QY_STATUS.SLOTS_USED.len = 4 := rfl
@[simp] theorem len_QY_AUDIT_AUDIT_CNT : QY_AUDIT.AUDIT_CNT.len = 16 := rfl
@[simp] theorem len_QY_AUDIT_CONSEC : QY_AUDIT.CONSEC.len = 8 := rfl
@[simp] theorem len_QY_AUDIT_LAST_PIN : QY_AUDIT.LAST_PIN.len = 7 := rfl
@[simp] theorem len_QY_LATE_LATE_CNT : QY_LATE.LATE_CNT.len = 16 := rfl
@[simp] theorem len_QY_LATE_FULL_CNT : QY_LATE.FULL_CNT.len = 16 := rfl
@[simp] theorem len_QY_DIAG_VCAL_OK : QY_DIAG.VCAL_OK.len = 1 := rfl
@[simp] theorem len_QY_DIAG_RING_COLL : QY_DIAG.RING_COLL.len = 8 := rfl
@[simp] theorem len_QY_DIAG_FAIL_UNROUTED : QY_DIAG.FAIL_UNROUTED.len = 8 := rfl
@[simp] theorem len_QY_DIAG_RING_LOST : QY_DIAG.RING_LOST.len = 8 := rfl
@[simp] theorem len_ME_STATUS_ROLE : ME_STATUS.ROLE.len = 2 := rfl
@[simp] theorem len_ME_STATUS_LOGICAL : ME_STATUS.LOGICAL.len = 5 := rfl
@[simp] theorem len_ME_STATUS_FAULT : ME_STATUS.FAULT.len = 1 := rfl
@[simp] theorem len_ME_STATUS_RUNNING : ME_STATUS.RUNNING.len = 1 := rfl
@[simp] theorem len_ME_STATUS_WAITING : ME_STATUS.WAITING.len = 1 := rfl
@[simp] theorem len_ME_STATUS_DEPTH : ME_STATUS.DEPTH.len = 4 := rfl
@[simp] theorem len_ME_PC_PC : ME_PC.PC.len = 13 := rfl
@[simp] theorem len_ME_FAULT_FPC : ME_FAULT.FPC.len = 13 := rfl
@[simp] theorem len_ME_FAULT_FRAME : ME_FAULT.FRAME.len = 3 := rfl
@[simp] theorem len_ME_FAULT_CAUSE : ME_FAULT.CAUSE.len = 8 := rfl
@[simp] theorem len_ME_FAULT_VALID : ME_FAULT.VALID.len = 1 := rfl
@[simp] theorem len_ME_CNT_ATOM_OVERRUN : ME_CNT.ATOM_OVERRUN.len = 16 := rfl
@[simp] theorem len_ME_CNT_ECC_CORR : ME_CNT.ECC_CORR.len = 8 := rfl
@[simp] theorem len_ME_DCFG_PRIGRP : ME_DCFG.PRIGRP.len = 4 := rfl
@[simp] theorem len_ME_DCFG_AUTO_COMPLETE : ME_DCFG.AUTO_COMPLETE.len = 1 := rfl
@[simp] theorem len_ME_DCFG_SW_RESTART : ME_DCFG.SW_RESTART.len = 1 := rfl
@[simp] theorem len_ME_DCFG_AUTO_RELIEF : ME_DCFG.AUTO_RELIEF.len = 1 := rfl
@[simp] theorem len_ME_DSTAT_CUR_SRC : ME_DSTAT.CUR_SRC.len = 12 := rfl
@[simp] theorem len_ME_DSTAT_BASE : ME_DSTAT.BASE.len = 1 := rfl
@[simp] theorem len_ME_DSTAT_CUR_FRAME : ME_DSTAT.CUR_FRAME.len = 3 := rfl
@[simp] theorem len_ME_DSTAT_ACTIVE : ME_DSTAT.ACTIVE.len = 8 := rfl
@[simp] theorem len_ME_DSTAT_HELD : ME_DSTAT.HELD.len = 1 := rfl
@[simp] theorem len_ME_DCNT_SPURIOUS_COMPLETE : ME_DCNT.SPURIOUS_COMPLETE.len = 16 := rfl
@[simp] theorem len_ME_DCNT_DEPTH_FULL : ME_DCNT.DEPTH_FULL.len = 16 := rfl
@[simp] theorem len_ME_WDOG_WD_US : ME_WDOG.WD_US.len = 16 := rfl
@[simp] theorem len_ME_RELIEF_WARM_EN : ME_RELIEF.WARM_EN.len = 1 := rfl
@[simp] theorem len_ME_RELIEF_WARM_FOR : ME_RELIEF.WARM_FOR.len = 5 := rfl
@[simp] theorem len_ME_RELIEF_WARM : ME_RELIEF.WARM.len = 1 := rfl
@[simp] theorem len_ME_RELIEF_COPYING : ME_RELIEF.COPYING.len = 1 := rfl
@[simp] theorem len_ME_IMAGE_LSTATE : ME_IMAGE.LSTATE.len = 2 := rfl
@[simp] theorem len_ME_IMAGE_ACT : ME_IMAGE.ACT.len = 1 := rfl
@[simp] theorem len_ME_IMAGE_KEY_SLOT : ME_IMAGE.KEY_SLOT.len = 3 := rfl
@[simp] theorem len_ME_IVER_IMAGE_VERSION : ME_IVER.IMAGE_VERSION.len = 32 := rfl
@[simp] theorem len_PN_STATUS_STATE : PN_STATUS.STATE.len = 2 := rfl
@[simp] theorem len_PN_STATUS_SWAP_PEND : PN_STATUS.SWAP_PEND.len = 1 := rfl
@[simp] theorem len_PN_STATUS_PC : PN_STATUS.PC.len = 5 := rfl
@[simp] theorem len_PN_STATUS_SC : PN_STATUS.SC.len = 6 := rfl
@[simp] theorem len_PN_STATUS_PGEN : PN_STATUS.PGEN.len = 16 := rfl
@[simp] theorem len_PN_LANE_PIN : PN_LANE.PIN.len = 7 := rfl
@[simp] theorem len_PN_LANE_EN : PN_LANE.EN.len = 1 := rfl
@[simp] theorem len_PN_FIFO_TX_WM : PN_FIFO.TX_WM.len = 4 := rfl
@[simp] theorem len_PN_FIFO_RX_WM : PN_FIFO.RX_WM.len = 4 := rfl
@[simp] theorem len_PN_FIFO_TX_LVL : PN_FIFO.TX_LVL.len = 4 := rfl
@[simp] theorem len_PN_FIFO_RX_LVL : PN_FIFO.RX_LVL.len = 4 := rfl
@[simp] theorem len_PN_FIFO_FLUSH_TX : PN_FIFO.FLUSH_TX.len = 1 := rfl
@[simp] theorem len_PN_FIFO_FLUSH_RX : PN_FIFO.FLUSH_RX.len = 1 := rfl
@[simp] theorem len_PN_SWAP_DEADLINE : PN_SWAP.DEADLINE.len = 16 := rfl
@[simp] theorem len_PN_SWAP_DL_UNIT : PN_SWAP.DL_UNIT.len = 1 := rfl
@[simp] theorem len_PN_CNT_STALE_CNT : PN_CNT.STALE_CNT.len = 16 := rfl
@[simp] theorem len_PN_CNT_DROP_CNT : PN_CNT.DROP_CNT.len = 16 := rfl
@[simp] theorem len_PN_ERR_AUDIT_CNT : PN_ERR.AUDIT_CNT.len = 8 := rfl
@[simp] theorem len_PN_ERR_ABANDON_CNT : PN_ERR.ABANDON_CNT.len = 8 := rfl
@[simp] theorem len_PN_ERR_LANE_CNT : PN_ERR.LANE_CNT.len = 8 := rfl
@[simp] theorem len_PN_ERR_LAST_CAUSE : PN_ERR.LAST_CAUSE.len = 8 := rfl
@[simp] theorem len_TIO_PIN_OUT_SRC : TIO_PIN.OUT_SRC.len = 2 := rfl
@[simp] theorem len_TIO_PIN_OUT_CH : TIO_PIN.OUT_CH.len = 9 := rfl
@[simp] theorem len_TIO_PIN_IN_DIS : TIO_PIN.IN_DIS.len = 1 := rfl
@[simp] theorem len_TIO_PIN_IN_INV : TIO_PIN.IN_INV.len = 1 := rfl
@[simp] theorem len_TIO_PIN_FILT : TIO_PIN.FILT.len = 8 := rfl
@[simp] theorem len_TIO_PIN_FUNIT : TIO_PIN.FUNIT.len = 1 := rfl
@[simp] theorem len_TIO_STAT_GLITCH_CNT : TIO_STAT.GLITCH_CNT.len = 8 := rfl
@[simp] theorem len_TIO_STAT_LEVEL : TIO_STAT.LEVEL.len = 1 := rfl
@[simp] theorem len_TIO_STAT_DRIVEN : TIO_STAT.DRIVEN.len = 1 := rfl
@[simp] theorem len_TIO_STAT_REFUSED : TIO_STAT.REFUSED.len = 1 := rfl
@[simp] theorem len_LT_CFG_REQ_KIND : LT_CFG.REQ_KIND.len = 2 := rfl
@[simp] theorem len_LT_CFG_REQ_PN : LT_CFG.REQ_PN.len = 5 := rfl
@[simp] theorem len_LT_CFG_EVSEL : LT_CFG.EVSEL.len = 12 := rfl
@[simp] theorem len_LT_CFG_EV_EN : LT_CFG.EV_EN.len = 1 := rfl
@[simp] theorem len_LT_CFG_BURST_MAX : LT_CFG.BURST_MAX.len = 2 := rfl
@[simp] theorem len_LT_CFG_TAIL_US : LT_CFG.TAIL_US.len = 10 := rfl
@[simp] theorem len_LT_STAT_LSTATE : LT_STAT.LSTATE.len = 3 := rfl
@[simp] theorem len_LT_STAT_PRIO : LT_STAT.PRIO.len = 2 := rfl
@[simp] theorem len_LT_STAT_FUNC : LT_STAT.FUNC.len = 3 := rfl
@[simp] theorem len_LT_STAT_LATCH : LT_STAT.LATCH.len = 1 := rfl
@[simp] theorem len_LT_STAT_HELD : LT_STAT.HELD.len = 6 := rfl
@[simp] theorem len_LT_STAT_LGEN : LT_STAT.LGEN.len = 16 := rfl
@[simp] theorem len_LT_PC_PC : LT_PC.PC.len = 64 := rfl
@[simp] theorem len_LT_CNT_ERR_CNT : LT_CNT.ERR_CNT.len = 16 := rfl
@[simp] theorem len_LT_CNT_SKIP_CNT : LT_CNT.SKIP_CNT.len = 16 := rfl
@[simp] theorem len_LT_DIAG_WB_FAIL : LT_DIAG.WB_FAIL.len = 8 := rfl
@[simp] theorem len_LT_DIAG_PARK_CNT : LT_DIAG.PARK_CNT.len = 8 := rfl
@[simp] theorem len_LT_DIAG_PAUSE_CAUSE : LT_DIAG.PAUSE_CAUSE.len = 2 := rfl
@[simp] theorem len_LT_BYTES_BYTES : LT_BYTES.BYTES.len = 64 := rfl
@[simp] theorem len_BH_OWNER_CUR_KIND : BH_OWNER.CUR_KIND.len = 2 := rfl
@[simp] theorem len_BH_OWNER_CUR_INDEX : BH_OWNER.CUR_INDEX.len = 5 := rfl
@[simp] theorem len_BH_OWNER_HOME_KIND : BH_OWNER.HOME_KIND.len = 2 := rfl
@[simp] theorem len_BH_OWNER_HOME_INDEX : BH_OWNER.HOME_INDEX.len = 5 := rfl
@[simp] theorem len_BH_OWNER_PEND : BH_OWNER.PEND.len = 1 := rfl
@[simp] theorem len_BH_XFER_EN : BH_XFER.EN.len = 1 := rfl
@[simp] theorem len_BH_XFER_FLAG : BH_XFER.FLAG.len = 5 := rfl
@[simp] theorem len_BH_XFER_NEXT_KIND : BH_XFER.NEXT_KIND.len = 2 := rfl
@[simp] theorem len_BH_XFER_NEXT_INDEX : BH_XFER.NEXT_INDEX.len = 5 := rfl
@[simp] theorem len_BH_XFER_SWAP : BH_XFER.SWAP.len = 1 := rfl
@[simp] theorem len_BH_XFER_XFER_IGN : BH_XFER.XFER_IGN.len = 8 := rfl
@[simp] theorem len_BH_STAT_BSTATE : BH_STAT.BSTATE.len = 3 := rfl
@[simp] theorem len_BH_STAT_BANK : BH_STAT.BANK.len = 5 := rfl
@[simp] theorem len_BH_STAT_SPARE_ROWS : BH_STAT.SPARE_ROWS.len = 3 := rfl
@[simp] theorem len_BH_STAT_STALL_CNT : BH_STAT.STALL_CNT.len = 8 := rfl
@[simp] theorem len_BH_STAT_COLL_CNT : BH_STAT.COLL_CNT.len = 8 := rfl
@[simp] theorem len_BH_ECC_CE_CNT : BH_ECC.CE_CNT.len = 16 := rfl
@[simp] theorem len_BH_ECC_UE_CNT : BH_ECC.UE_CNT.len = 8 := rfl
@[simp] theorem len_BH_ECC_LAST_ROW : BH_ECC.LAST_ROW.len = 7 := rfl
@[simp] theorem len_BH_SPARE_SPARE : BH_SPARE.SPARE.len = 32 := rfl
@[simp] theorem len_DR_CFG_MARCH_EN : DR_CFG.MARCH_EN.len = 1 := rfl
@[simp] theorem len_DR_CFG_SCRUB_EN : DR_CFG.SCRUB_EN.len = 1 := rfl
@[simp] theorem len_DR_CFG_AUTO_RELOC : DR_CFG.AUTO_RELOC.len = 1 := rfl
@[simp] theorem len_DR_CFG_SCRUB_DIV : DR_CFG.SCRUB_DIV.len = 8 := rfl
@[simp] theorem len_DR_CFG_LOAN_IDLE : DR_CFG.LOAN_IDLE.len = 8 := rfl
@[simp] theorem len_DR_CFG_CE_ROW_LIMIT : DR_CFG.CE_ROW_LIMIT.len = 4 := rfl
@[simp] theorem len_DR_LOAN_LOANABLE : DR_LOAN.LOANABLE.len = 32 := rfl
@[simp] theorem len_DR_CTRL_RELOC_BERTH : DR_CTRL.RELOC_BERTH.len = 5 := rfl
@[simp] theorem len_DR_CTRL_RELOC : DR_CTRL.RELOC.len = 1 := rfl
@[simp] theorem len_DR_STAT_LOAN_ACTIVE : DR_STAT.LOAN_ACTIVE.len = 1 := rfl
@[simp] theorem len_DR_STAT_LOAN_BERTH : DR_STAT.LOAN_BERTH.len = 5 := rfl
@[simp] theorem len_DR_STAT_LOAN_CHUNK : DR_STAT.LOAN_CHUNK.len = 7 := rfl
@[simp] theorem len_DR_STAT_RELOCATING : DR_STAT.RELOCATING.len = 1 := rfl
@[simp] theorem len_DR_STAT_RELOC_SRC : DR_STAT.RELOC_SRC.len = 5 := rfl
@[simp] theorem len_DR_CNT_MARCH_FAIL : DR_CNT.MARCH_FAIL.len = 16 := rfl
@[simp] theorem len_DR_CNT_STORE_CE : DR_CNT.STORE_CE.len = 8 := rfl
@[simp] theorem len_DR_CNT_STORE_UE : DR_CNT.STORE_UE.len = 8 := rfl
@[simp] theorem len_DR_PASS_CHUNKS : DR_PASS.CHUNKS.len = 32 := rfl
@[simp] theorem len_CW_ID_DID : CW_ID.DID.len = 10 := rfl
@[simp] theorem len_CW_ID_EN : CW_ID.EN.len = 1 := rfl
@[simp] theorem len_CW_PARENT_ORD0 : CW_PARENT.ORD0.len = 3 := rfl
@[simp] theorem len_CW_PARENT_ORD1 : CW_PARENT.ORD1.len = 3 := rfl
@[simp] theorem len_CW_PARENT_ORD2 : CW_PARENT.ORD2.len = 3 := rfl
@[simp] theorem len_CW_PARENT_ORD3 : CW_PARENT.ORD3.len = 3 := rfl
@[simp] theorem len_CW_PARENT_REVERT_S : CW_PARENT.REVERT_S.len = 12 := rfl
@[simp] theorem len_CW_TIMING_LOSS_SYNCS : CW_TIMING.LOSS_SYNCS.len = 4 := rfl
@[simp] theorem len_CW_TIMING_MASTER_LOSS_MS : CW_TIMING.MASTER_LOSS_MS.len = 16 := rfl
@[simp] theorem len_CW_TIMING_PUB_TIMEOUT_MS : CW_TIMING.PUB_TIMEOUT_MS.len = 12 := rfl
@[simp] theorem len_CW_SERVO_KI_SHIFT : CW_SERVO.KI_SHIFT.len = 5 := rfl
@[simp] theorem len_CW_TSTAT_ROLE : CW_TSTAT.ROLE.len = 3 := rfl
@[simp] theorem len_CW_TSTAT_UPPORT : CW_TSTAT.UPPORT.len = 3 := rfl
@[simp] theorem len_CW_TSTAT_HOPS : CW_TSTAT.HOPS.len = 4 := rfl
@[simp] theorem len_CW_TSTAT_MASTER_DID : CW_TSTAT.MASTER_DID.len = 10 := rfl
@[simp] theorem len_CW_TSTAT_LOCKED : CW_TSTAT.LOCKED.len = 1 := rfl
@[simp] theorem len_CW_TSTAT_OFFSET_RANGE : CW_TSTAT.OFFSET_RANGE.len = 1 := rfl
@[simp] theorem len_CW_OFFSET_OFFSET : CW_OFFSET.OFFSET.len = 48 := rfl
@[simp] theorem len_CW_FCNT_FWD_LOST : CW_FCNT.FWD_LOST.len = 16 := rfl
@[simp] theorem len_CW_FCNT_DUP : CW_FCNT.DUP.len = 8 := rfl
@[simp] theorem len_CW_FCNT_GAPS : CW_FCNT.GAPS.len = 8 := rfl
@[simp] theorem len_CW_PCFG_EN : CW_PCFG.EN.len = 1 := rfl
@[simp] theorem len_CW_PSTAT_LSTATE : CW_PSTAT.LSTATE.len = 2 := rfl
@[simp] theorem len_CW_PSTAT_ROLE : CW_PSTAT.ROLE.len = 2 := rfl
@[simp] theorem len_CW_PSTAT_NB_DID : CW_PSTAT.NB_DID.len = 10 := rfl
@[simp] theorem len_CW_PSTAT_NB_HOPS : CW_PSTAT.NB_HOPS.len = 4 := rfl
@[simp] theorem len_CW_PSTAT_NB_MASTER : CW_PSTAT.NB_MASTER.len = 10 := rfl
@[simp] theorem len_CW_PSTAT_USABLE : CW_PSTAT.USABLE.len = 1 := rfl
@[simp] theorem len_CW_PSTAT_NB_STEADY : CW_PSTAT.NB_STEADY.len = 1 := rfl
@[simp] theorem len_CW_PDELAY_D : CW_PDELAY.D.len = 24 := rfl
@[simp] theorem len_CW_PDELAY_REJ : CW_PDELAY.REJ.len = 8 := rfl
@[simp] theorem len_CW_ASYM_TRIM : CW_ASYM.TRIM.len = 16 := rfl
@[simp] theorem len_CW_PCNT_CRC_ERR : CW_PCNT.CRC_ERR.len = 16 := rfl
@[simp] theorem len_CW_PCNT_RETX : CW_PCNT.RETX.len = 16 := rfl
@[simp] theorem len_CW_PUB_AXIS : CW_PUB.AXIS.len = 4 := rfl
@[simp] theorem len_CW_PUB_EN : CW_PUB.EN.len = 1 := rfl
@[simp] theorem len_CW_PUB_REFUSED : CW_PUB.REFUSED.len = 1 := rfl
@[simp] theorem len_CW_FWD_SRC : CW_FWD.SRC.len = 12 := rfl
@[simp] theorem len_CW_FWD_REMOTE_NUM : CW_FWD.REMOTE_NUM.len = 11 := rfl
@[simp] theorem len_CW_FWD_EN : CW_FWD.EN.len = 1 := rfl
@[simp] theorem len_CW_TALLY_PERIOD_MS : CW_TALLY.PERIOD_MS.len = 10 := rfl
@[simp] theorem len_CW_TROUND_ROUND : CW_TROUND.ROUND.len = 32 := rfl
@[simp] theorem len_CW_TREPORT_REPORTING : CW_TREPORT.REPORTING.len = 11 := rfl
@[simp] theorem len_CW_TLOCAL_EPOCH : CW_TLOCAL.EPOCH.len = 32 := rfl
@[simp] theorem len_CW_TLOCAL_RESULT : CW_TLOCAL.RESULT.len = 2 := rfl
@[simp] theorem len_CW_TLOCAL_DIGEST : CW_TLOCAL.DIGEST.len = 64 := rfl
@[simp] theorem len_CW_TEXP_EPOCH : CW_TEXP.EPOCH.len = 32 := rfl
@[simp] theorem len_CW_TEXP_SET : CW_TEXP.SET.len = 1 := rfl
@[simp] theorem len_CW_TEXP_DIGEST : CW_TEXP.DIGEST.len = 64 := rfl
@[simp] theorem len_CW_TRES_STALE_CNT : CW_TRES.STALE_CNT.len = 16 := rfl
@[simp] theorem len_CW_TRES_MISMATCH_CNT : CW_TRES.MISMATCH_CNT.len = 16 := rfl
@[simp] theorem len_CW_TRES_LOW_STALE : CW_TRES.LOW_STALE.len = 16 := rfl
@[simp] theorem len_CW_TRES_LOW_MISMATCH : CW_TRES.LOW_MISMATCH.len = 16 := rfl
@[simp] theorem len_HL_CFG_OVERWRITE : HL_CFG.OVERWRITE.len = 1 := rfl
@[simp] theorem len_HL_CFG_FAULT_EN : HL_CFG.FAULT_EN.len = 1 := rfl
@[simp] theorem len_HL_CFG_FLIST : HL_CFG.FLIST.len = 3 := rfl
@[simp] theorem len_HL_CFG_CHAL_S : HL_CFG.CHAL_S.len = 8 := rfl
@[simp] theorem len_HL_STAT_STATE : HL_STAT.STATE.len = 2 := rfl
@[simp] theorem len_HL_STAT_LOGFAIL : HL_STAT.LOGFAIL.len = 1 := rfl
@[simp] theorem len_HL_STAT_CHALLENGE : HL_STAT.CHALLENGE.len = 1 := rfl
@[simp] theorem len_HL_STAT_LOCKOUT : HL_STAT.LOCKOUT.len = 1 := rfl
@[simp] theorem len_HL_STAT_BAD_UNITS : HL_STAT.BAD_UNITS.len = 8 := rfl
@[simp] theorem len_HL_STAT_KEEL_USED : HL_STAT.KEEL_USED.len = 6 := rfl
@[simp] theorem len_HL_SEQ_FIRST_SEQ : HL_SEQ.FIRST_SEQ.len = 32 := rfl
@[simp] theorem len_HL_SEQ_LAST_SEQ : HL_SEQ.LAST_SEQ.len = 32 := rfl
@[simp] theorem len_HL_PTR_HEAD : HL_PTR.HEAD.len = 17 := rfl
@[simp] theorem len_HL_PTR_TAIL : HL_PTR.TAIL.len = 17 := rfl
@[simp] theorem len_HL_CNT_DROPPED : HL_CNT.DROPPED.len = 16 := rfl
@[simp] theorem len_HL_CNT_OVERWRITTEN : HL_CNT.OVERWRITTEN.len = 16 := rfl
@[simp] theorem len_HL_WINBASE_BASE : HL_WINBASE.BASE.len = 15 := rfl
@[simp] theorem len_HL_LCFG_LEN : HL_LCFG.LEN.len = 7 := rfl
@[simp] theorem len_HL_LCFG_EN : HL_LCFG.EN.len = 1 := rfl
@[simp] theorem len_HL_LCFG_BYTES : HL_LCFG.BYTES.len = 10 := rfl
@[simp] theorem len_HL_LCFG_ERR : HL_LCFG.ERR.len = 1 := rfl
@[simp] theorem len_HL_LCFG_HOLD_US : HL_LCFG.HOLD_US.len = 16 := rfl
@[simp] theorem len_HL_TRIG_TRIG : HL_TRIG.TRIG.len = 32 := rfl
@[simp] theorem len_HL_GLIST_LIST : HL_GLIST.LIST.len = 3 := rfl
@[simp] theorem len_HL_WIN_DATA : HL_WIN.DATA.len = 64 := rfl
@[simp] theorem len_HL_LIST_SEL : HL_LIST.SEL.len = 28 := rfl
@[simp] theorem len_HL_LIST_KIND : HL_LIST.KIND.len = 4 := rfl

end Sys2Proof.Laws
end

