-- ==== Sys2Proof/Laws/FrameBase.lean ====
section
/-! SUPPORT. What a change of one part leaves: each part, the blocks of the fields, and the forms in which the operations are written. -/

namespace Sys2Proof.Machine

open Sys2Proof

theorem only_refl (S : List Part) (d : Dev) : Only S d d := by
  intro p _
  cases p <;> first | rfl | (intro _ _ _; rfl)

theorem only_trans {S : List Part} {a b c : Dev} (h : Only S a b) (k : Only S b c) : Only S a c := by
  intro p hp
  have x := h p hp
  have y := k p hp
  cases p <;> simp only [Part.same] at * <;> first | exact y.trans x | (intro q hq r; exact (y q hq r).trans (x q hq r))

theorem only_ite {S : List Part} {e : Dev} {c : Prop} [Decidable c] {a b : Dev} (h : Only S e a) (k : Only S e b) :
    Only S e (if c then a else b) := by split <;> assumption

theorem only_foldl {S : List Part} {α : Type} {f : Dev → α → Dev} {l : List α} {e d : Dev} (hf : ∀ x a, Only S x (f x a)) (h : Only S e d) :
    Only S e (l.foldl f d) := by
  induction l generalizing d with
  | nil => exact h
  | cons a t ih => exact ih (only_trans h (hf d a))


theorem blkOf_key (f : Fld) (i j : Nat) : blkOf (f.key i j) = f.blk := by
  have h : f.key i j % 2 ^ 32 = f.pos % 2 ^ 32 := by
    unfold Fld.key
    rw [Nat.add_mul_mod_self_left, Nat.mod_mod]
  unfold Fld.blk blkOf
  rw [h]

theorem setFld_only {S : List Part} {e0 : Dev} (d : Dev) (f : Fld) (v : Nat) (i : Nat := 0) (j : Nat := 0) (hO : Only S e0 d)
    (hb : Part.regs f.blk ∈ S) : Only S e0 (Dev.setFld d f v i j) := by
  intro q hq
  have k := hO q hq
  cases q with
  | regs b =>
    intro x hx r
    have hne : x ≠ f.key i j := by
      intro e
      rw [e, blkOf_key] at hx
      exact hq (hx ▸ hb)
    show Machine.get r (Machine.set _ d.regs _ _) x = _
    rw [Laws.get_set_ne _ _ _ _ hne]
    exact k x hx r
  | _ => exact k

theorem only_regs {S : List Part} {e d : Dev} {x} (h : Only S e d) (hp : ∀ b, Part.regs b ∈ S) : Only S e { d with regs := x } := by
  intro q hq
  have k := h q hq
  cases q <;> first | exact absurd (hp _) hq | exact k

theorem blk_ite {S : List Part} {c : Bool} {f g : Fld} (hf : Part.regs f.blk ∈ S) (hg : Part.regs g.blk ∈ S) :
    Part.regs (if c then f else g).blk ∈ S := by split <;> assumption

theorem only_mem {S : List Part} {e d : Dev} {x} (h : Only S e d) (hp : Part.mem ∈ S) : Only S e { d with mem := x } := by
  intro q hq
  have k := h q hq
  cases q <;> first | exact absurd hp hq | exact k

theorem only_tb {S : List Part} {e d : Dev} {x} (h : Only S e d) (hp : Part.tb ∈ S) : Only S e { d with tb := x } := by
  intro q hq
  have k := h q hq
  cases q <;> first | exact absurd hp hq | exact k

theorem only_axes {S : List Part} {e d : Dev} {x} (h : Only S e d) (hp : Part.axes ∈ S) : Only S e { d with axes := x } := by
  intro q hq
  have k := h q hq
  cases q <;> first | exact absurd hp hq | exact k

theorem only_trk {S : List Part} {e d : Dev} {x} (h : Only S e d) (hp : Part.trk ∈ S) : Only S e { d with trk := x } := by
  intro q hq
  have k := h q hq
  cases q <;> first | exact absurd hp hq | exact k

theorem only_qy {S : List Part} {e d : Dev} {x} (h : Only S e d) (hp : Part.qy ∈ S) : Only S e { d with qy := x } := by
  intro q hq
  have k := h q hq
  cases q <;> first | exact absurd hp hq | exact k

theorem only_pins {S : List Part} {e d : Dev} {x} (h : Only S e d) (hp : Part.pins ∈ S) : Only S e { d with pins := x } := by
  intro q hq
  have k := h q hq
  cases q <;> first | exact absurd hp hq | exact k

theorem only_dr {S : List Part} {e d : Dev} {x} (h : Only S e d) (hp : Part.dr ∈ S) : Only S e { d with dr := x } := by
  intro q hq
  have k := h q hq
  cases q <;> first | exact absurd hp hq | exact k

theorem only_sys {S : List Part} {e d : Dev} {x} (h : Only S e d) (hp : Part.sys ∈ S) : Only S e { d with sys := x } := by
  intro q hq
  have k := h q hq
  cases q <;> first | exact absurd hp hq | exact k

theorem only_cw {S : List Part} {e d : Dev} {x} (h : Only S e d) (hp : Part.cw ∈ S) : Only S e { d with cw := x } := by
  intro q hq
  have k := h q hq
  cases q <;> first | exact absurd hp hq | exact k

theorem only_sl {S : List Part} {e d : Dev} {x} (h : Only S e d) (hp : Part.sl ∈ S) : Only S e { d with sl := x } := by
  intro q hq
  have k := h q hq
  cases q <;> first | exact absurd hp hq | exact k

theorem only_hi {S : List Part} {e d : Dev} {x} (h : Only S e d) (hp : Part.hi ∈ S) : Only S e { d with hi := x } := by
  intro q hq
  have k := h q hq
  cases q <;> first | exact absurd hp hq | exact k

theorem only_lg {S : List Part} {e d : Dev} {x} (h : Only S e d) (hp : Part.lg ∈ S) : Only S e { d with lg := x } := by
  intro q hq
  have k := h q hq
  cases q <;> first | exact absurd hp hq | exact k

theorem only_sf {S : List Part} {e d : Dev} {x} (h : Only S e d) (hp : Part.sf ∈ S) : Only S e { d with sf := x } := by
  intro q hq
  have k := h q hq
  cases q <;> first | exact absurd hp hq | exact k

theorem only_pn {S : List Part} {e d : Dev} {x} (h : Only S e d) (hp : Part.pn ∈ S) : Only S e { d with pn := x } := by
  intro q hq
  have k := h q hq
  cases q <;> first | exact absurd hp hq | exact k

theorem only_me {S : List Part} {e d : Dev} {x} (h : Only S e d) (hp : Part.me ∈ S) : Only S e { d with me := x } := by
  intro q hq
  have k := h q hq
  cases q <;> first | exact absurd hp hq | exact k

theorem only_mo {S : List Part} {e d : Dev} {x} (h : Only S e d) (hp : Part.mo ∈ S) : Only S e { d with mo := x } := by
  intro q hq
  have k := h q hq
  cases q <;> first | exact absurd hp hq | exact k

theorem only_lt {S : List Part} {e d : Dev} {x} (h : Only S e d) (hp : Part.lt ∈ S) : Only S e { d with lt := x } := by
  intro q hq
  have k := h q hq
  cases q <;> first | exact absurd hp hq | exact k

theorem only_fuse {S : List Part} {e d : Dev} {x} (h : Only S e d) (hp : Part.fuse ∈ S) : Only S e { d with fuse := x } := by
  intro q hq
  have k := h q hq
  cases q <;> first | exact absurd hp hq | exact k

theorem only_boot {S : List Part} {e d : Dev} {x} (h : Only S e d) (hp : Part.boot ∈ S) : Only S e { d with boot := x } := by
  intro q hq
  have k := h q hq
  cases q <;> first | exact absurd hp hq | exact k

theorem only_vg {S : List Part} {e d : Dev} {x} (h : Only S e d) (hp : Part.vg ∈ S) : Only S e { d with vg := x } := by
  intro q hq
  have k := h q hq
  cases q <;> first | exact absurd hp hq | exact k

theorem only_tap {S : List Part} {e d : Dev} {x} (h : Only S e d) (hp : Part.tap ∈ S) : Only S e { d with tap := x } := by
  intro q hq
  have k := h q hq
  cases q <;> first | exact absurd hp hq | exact k

theorem only_ctr {S : List Part} {e d : Dev} {x} (h : Only S e d) (hp : Part.ctr ∈ S) : Only S e { d with freeCtr := x } := by
  intro q hq
  have k := h q hq
  cases q <;> first | exact absurd hp hq | exact k

theorem only_cyc {S : List Part} {e d : Dev} {x} (h : Only S e d) : Only S e { d with cyc := x } := by
  intro q hq
  have k := h q hq
  cases q <;> exact k

theorem only_foldl2 {S : List Part} {α β : Type} {f : Dev × β → α → Dev × β} {l : List α} {e : Dev} {d : Dev × β}
    (hf : ∀ x a, Only S x.1 (f x a).1) (h : Only S e d.1) : Only S e (l.foldl f d).1 := by
  induction l generalizing d with
  | nil => exact h
  | cons a t ih => exact ih (only_trans h (hf d a))

theorem only_snd {S : List Part} {α : Type} {e b : Dev} {x : α × Dev} {a : α} (h : Only S e x.2) (hx : x = (a, b)) : Only S e b := by
  subst hx; exact h

theorem only_fst {S : List Part} {α : Type} {e b : Dev} {x : Dev × α} {a : α} (h : Only S e x.1) (hx : x = (b, a)) : Only S e b := by
  subst hx; exact h


theorem only_tb_boot {S : List Part} {e d : Dev} {x y} (h : Only S e d) (hp : Part.tb ∈ S) (hq : Part.boot ∈ S) :
    Only S e { d with tb := x, boot := y } := by
  intro q hr
  have k := h q hr
  cases q <;> first | exact absurd ‹_› hr | exact k

theorem blk_AX0_HOLD_DRIFT_PPB : AX0_HOLD.DRIFT_PPB.blk = .ax := by decide
theorem blk_AX0_HOLD_TIMEOUT_MS : AX0_HOLD.TIMEOUT_MS.blk = .ax := by decide
theorem blk_AX0_REPAIR_ACC : AX0_REPAIR.ACC.blk = .ax := by decide
theorem blk_AX0_REPAIR_ATTEMPTS : AX0_REPAIR.ATTEMPTS.blk = .ax := by decide
theorem blk_AX0_REPAIR_REPAIRING : AX0_REPAIR.REPAIRING.blk = .ax := by decide
theorem blk_AX0_REPAIR_RETIRED : AX0_REPAIR.RETIRED.blk = .ax := by decide
theorem blk_AX0_SLEW_RSTEP_PPM : AX0_SLEW.RSTEP_PPM.blk = .ax := by decide
theorem blk_AX0_SLEW_SLEW_PPM : AX0_SLEW.SLEW_PPM.blk = .ax := by decide
theorem blk_AX0_STATUS_SLEWING : AX0_STATUS.SLEWING.blk = .ax := by decide
theorem blk_AX0_STATUS_STATE : AX0_STATUS.STATE.blk = .ax := by decide
theorem blk_AX0_STATUS_STEP_COUNT : AX0_STATUS.STEP_COUNT.blk = .ax := by decide
theorem blk_AX0_STATUS_VOTE_FAULT : AX0_STATUS.VOTE_FAULT.blk = .ax := by decide
theorem blk_AX0_UNC_UNC : AX0_UNC.UNC.blk = .ax := by decide
theorem blk_AX_CFG_DIR_EN : AX_CFG.DIR_EN.blk = .ax := by decide
theorem blk_AX_CFG_DIR_PIN : AX_CFG.DIR_PIN.blk = .ax := by decide
theorem blk_AX_CFG_DIR_POL : AX_CFG.DIR_POL.blk = .ax := by decide
theorem blk_AX_CFG_DMODE : AX_CFG.DMODE.blk = .ax := by decide
theorem blk_AX_CFG_EDGE : AX_CFG.EDGE.blk = .ax := by decide
theorem blk_AX_CFG_EN : AX_CFG.EN.blk = .ax := by decide
theorem blk_AX_CFG_INTERP : AX_CFG.INTERP.blk = .ax := by decide
theorem blk_AX_CFG_SRC : AX_CFG.SRC.blk = .ax := by decide
theorem blk_AX_CFG_SRC_IS_PIN : AX_CFG.SRC_IS_PIN.blk = .ax := by decide
theorem blk_AX_CFG_TYPE : AX_CFG.TYPE.blk = .ax := by decide
theorem blk_AX_PARA_PARA : AX_PARA.PARA.blk = .ax := by decide
theorem blk_AX_PARB_PARB : AX_PARB.PARB.blk = .ax := by decide
theorem blk_AX_PARC_PARC : AX_PARC.PARC.blk = .ax := by decide
theorem blk_BH_ECC_CE_CNT : BH_ECC.CE_CNT.blk = .bh := by decide
theorem blk_BH_ECC_LAST_ROW : BH_ECC.LAST_ROW.blk = .bh := by decide
theorem blk_BH_ECC_UE_CNT : BH_ECC.UE_CNT.blk = .bh := by decide
theorem blk_BH_OWNER_CUR_INDEX : BH_OWNER.CUR_INDEX.blk = .bh := by decide
theorem blk_BH_OWNER_CUR_KIND : BH_OWNER.CUR_KIND.blk = .bh := by decide
theorem blk_BH_OWNER_HOME_INDEX : BH_OWNER.HOME_INDEX.blk = .bh := by decide
theorem blk_BH_OWNER_HOME_KIND : BH_OWNER.HOME_KIND.blk = .bh := by decide
theorem blk_BH_OWNER_PEND : BH_OWNER.PEND.blk = .bh := by decide
theorem blk_BH_SPARE_SPARE : BH_SPARE.SPARE.blk = .bh := by decide
theorem blk_BH_STAT_BANK : BH_STAT.BANK.blk = .bh := by decide
theorem blk_BH_STAT_BSTATE : BH_STAT.BSTATE.blk = .bh := by decide
theorem blk_BH_STAT_COLL_CNT : BH_STAT.COLL_CNT.blk = .bh := by decide
theorem blk_BH_STAT_SPARE_ROWS : BH_STAT.SPARE_ROWS.blk = .bh := by decide
theorem blk_BH_STAT_STALL_CNT : BH_STAT.STALL_CNT.blk = .bh := by decide
theorem blk_BH_XFER_NEXT_INDEX : BH_XFER.NEXT_INDEX.blk = .bh := by decide
theorem blk_BH_XFER_NEXT_KIND : BH_XFER.NEXT_KIND.blk = .bh := by decide
theorem blk_BH_XFER_XFER_IGN : BH_XFER.XFER_IGN.blk = .bh := by decide
theorem blk_CK_REFSEL_ACTIVE : CK_REFSEL.ACTIVE.blk = .ck := by decide
theorem blk_CK_REFSEL_SRC : CK_REFSEL.SRC.blk = .ck := by decide
theorem blk_CK_REFSEL_SWITCHED : CK_REFSEL.SWITCHED.blk = .ck := by decide
theorem blk_CK_STAT_IN_OK : CK_STAT.IN_OK.blk = .ck := by decide
theorem blk_CK_STAT_LOCKED : CK_STAT.LOCKED.blk = .ck := by decide
theorem blk_CK_STAT_LOCK_LOSS : CK_STAT.LOCK_LOSS.blk = .ck := by decide
theorem blk_CK_STAT_PLL_HOLD : CK_STAT.PLL_HOLD.blk = .ck := by decide
theorem blk_CK_STAT_REC_OK : CK_STAT.REC_OK.blk = .ck := by decide
theorem blk_CK_STAT_REF_OFS : CK_STAT.REF_OFS.blk = .ck := by decide
theorem blk_CQ_CFG_CQ_HQ : CQ_CFG.CQ_HQ.blk = .hi := by decide
theorem blk_CQ_CFG_EN : CQ_CFG.EN.blk = .hi := by decide
theorem blk_CQ_CFG_FUNC : CQ_CFG.FUNC.blk = .hi := by decide
theorem blk_CQ_CFG_PREFETCH : CQ_CFG.PREFETCH.blk = .hi := by decide
theorem blk_CQ_CFG_SIZE : CQ_CFG.SIZE.blk = .hi := by decide
theorem blk_CQ_CI_CI : CQ_CI.CI.blk = .hi := by decide
theorem blk_CQ_ERR_ABORT_CNT : CQ_ERR.ABORT_CNT.blk = .hi := by decide
theorem blk_CQ_ERR_LOGGED_CNT : CQ_ERR.LOGGED_CNT.blk = .hi := by decide
theorem blk_CQ_ERR_PHASE_CNT : CQ_ERR.PHASE_CNT.blk = .hi := by decide
theorem blk_CQ_STAT_LONG : CQ_STAT.LONG.blk = .hi := by decide
theorem blk_CQ_STAT_REEN_PEND : CQ_STAT.REEN_PEND.blk = .hi := by decide
theorem blk_CQ_STAT_RGEN : CQ_STAT.RGEN.blk = .hi := by decide
theorem blk_CQ_STAT_RSTATE : CQ_STAT.RSTATE.blk = .hi := by decide
theorem blk_CW_FCNT_DUP : CW_FCNT.DUP.blk = .cw := by decide
theorem blk_CW_FCNT_FWD_LOST : CW_FCNT.FWD_LOST.blk = .cw := by decide
theorem blk_CW_FCNT_GAPS : CW_FCNT.GAPS.blk = .cw := by decide
theorem blk_CW_OFFSET_OFFSET : CW_OFFSET.OFFSET.blk = .cw := by decide
theorem blk_CW_PCNT_CRC_ERR : CW_PCNT.CRC_ERR.blk = .cw := by decide
theorem blk_CW_PCNT_RETX : CW_PCNT.RETX.blk = .cw := by decide
theorem blk_CW_PDELAY_D : CW_PDELAY.D.blk = .cw := by decide
theorem blk_CW_PDELAY_REJ : CW_PDELAY.REJ.blk = .cw := by decide
theorem blk_CW_PSTAT_LSTATE : CW_PSTAT.LSTATE.blk = .cw := by decide
theorem blk_CW_PSTAT_NB_DID : CW_PSTAT.NB_DID.blk = .cw := by decide
theorem blk_CW_PSTAT_NB_HOPS : CW_PSTAT.NB_HOPS.blk = .cw := by decide
theorem blk_CW_PSTAT_NB_MASTER : CW_PSTAT.NB_MASTER.blk = .cw := by decide
theorem blk_CW_PSTAT_NB_STEADY : CW_PSTAT.NB_STEADY.blk = .cw := by decide
theorem blk_CW_PSTAT_ROLE : CW_PSTAT.ROLE.blk = .cw := by decide
theorem blk_CW_PSTAT_USABLE : CW_PSTAT.USABLE.blk = .cw := by decide
theorem blk_CW_PUB_AXIS : CW_PUB.AXIS.blk = .cw := by decide
theorem blk_CW_PUB_EN : CW_PUB.EN.blk = .cw := by decide
theorem blk_CW_PUB_REFUSED : CW_PUB.REFUSED.blk = .cw := by decide
theorem blk_CW_TALLY_PERIOD_MS : CW_TALLY.PERIOD_MS.blk = .cw := by decide
theorem blk_CW_TEXP_DIGEST : CW_TEXP.DIGEST.blk = .cw := by decide
theorem blk_CW_TEXP_EPOCH : CW_TEXP.EPOCH.blk = .cw := by decide
theorem blk_CW_TEXP_SET : CW_TEXP.SET.blk = .cw := by decide
theorem blk_CW_TLOCAL_DIGEST : CW_TLOCAL.DIGEST.blk = .cw := by decide
theorem blk_CW_TLOCAL_RESULT : CW_TLOCAL.RESULT.blk = .cw := by decide
theorem blk_CW_TREPORT_REPORTING : CW_TREPORT.REPORTING.blk = .cw := by decide
theorem blk_CW_TRES_LOW_MISMATCH : CW_TRES.LOW_MISMATCH.blk = .cw := by decide
theorem blk_CW_TRES_LOW_STALE : CW_TRES.LOW_STALE.blk = .cw := by decide
theorem blk_CW_TRES_MISMATCH_CNT : CW_TRES.MISMATCH_CNT.blk = .cw := by decide
theorem blk_CW_TRES_STALE_CNT : CW_TRES.STALE_CNT.blk = .cw := by decide
theorem blk_CW_TROUND_ROUND : CW_TROUND.ROUND.blk = .cw := by decide
theorem blk_CW_TSTAT_HOPS : CW_TSTAT.HOPS.blk = .cw := by decide
theorem blk_CW_TSTAT_LOCKED : CW_TSTAT.LOCKED.blk = .cw := by decide
theorem blk_CW_TSTAT_MASTER_DID : CW_TSTAT.MASTER_DID.blk = .cw := by decide
theorem blk_CW_TSTAT_OFFSET_RANGE : CW_TSTAT.OFFSET_RANGE.blk = .cw := by decide
theorem blk_CW_TSTAT_ROLE : CW_TSTAT.ROLE.blk = .cw := by decide
theorem blk_CW_TSTAT_UPPORT : CW_TSTAT.UPPORT.blk = .cw := by decide
theorem blk_DR_CNT_MARCH_FAIL : DR_CNT.MARCH_FAIL.blk = .dr := by decide
theorem blk_DR_CNT_STORE_CE : DR_CNT.STORE_CE.blk = .dr := by decide
theorem blk_DR_CNT_STORE_UE : DR_CNT.STORE_UE.blk = .dr := by decide
theorem blk_DR_PASS_CHUNKS : DR_PASS.CHUNKS.blk = .dr := by decide
theorem blk_DR_STAT_LOAN_ACTIVE : DR_STAT.LOAN_ACTIVE.blk = .dr := by decide
theorem blk_DR_STAT_LOAN_BERTH : DR_STAT.LOAN_BERTH.blk = .dr := by decide
theorem blk_DR_STAT_LOAN_CHUNK : DR_STAT.LOAN_CHUNK.blk = .dr := by decide
theorem blk_DR_STAT_RELOCATING : DR_STAT.RELOCATING.blk = .dr := by decide
theorem blk_DR_STAT_RELOC_SRC : DR_STAT.RELOC_SRC.blk = .dr := by decide
theorem blk_HI_FSTAT_ASLEEP : HI_FSTAT.ASLEEP.blk = .hi := by decide
theorem blk_HI_FSTAT_BME : HI_FSTAT.BME.blk = .hi := by decide
theorem blk_HI_FSTAT_D3 : HI_FSTAT.D3.blk = .hi := by decide
theorem blk_HI_FSTAT_WAKE_PEND : HI_FSTAT.WAKE_PEND.blk = .hi := by decide
theorem blk_HI_LINK_DOWN_CNT : HI_LINK.DOWN_CNT.blk = .hi := by decide
theorem blk_HI_LINK_L1 : HI_LINK.L1.blk = .hi := by decide
theorem blk_HI_LINK_PERST : HI_LINK.PERST.blk = .hi := by decide
theorem blk_HI_LINK_RTT_RTT_LAST : HI_LINK_RTT.RTT_LAST.blk = .hi := by decide
theorem blk_HI_LINK_RTT_RTT_MAX : HI_LINK_RTT.RTT_MAX.blk = .hi := by decide
theorem blk_HI_LINK_SPEED : HI_LINK.SPEED.blk = .hi := by decide
theorem blk_HI_LINK_UP : HI_LINK.UP.blk = .hi := by decide
theorem blk_HI_LINK_WIDTH : HI_LINK.WIDTH.blk = .hi := by decide
theorem blk_HI_LINK_WR_WR_MAX : HI_LINK_WR.WR_MAX.blk = .hi := by decide
theorem blk_HI_POLL_OUTSTANDING : HI_POLL.OUTSTANDING.blk = .hi := by decide
theorem blk_HI_POLL_POLL : HI_POLL.POLL.blk = .hi := by decide
theorem blk_HI_SLAB_BASE : HI_SLAB.BASE.blk = .hi := by decide
theorem blk_HI_SUM_SUMMARY : HI_SUM.SUMMARY.blk = .hi := by decide
theorem blk_HL_CNT_DROPPED : HL_CNT.DROPPED.blk = .hl := by decide
theorem blk_HL_CNT_OVERWRITTEN : HL_CNT.OVERWRITTEN.blk = .hl := by decide
theorem blk_HL_LCFG_BYTES : HL_LCFG.BYTES.blk = .hl := by decide
theorem blk_HL_LCFG_EN : HL_LCFG.EN.blk = .hl := by decide
theorem blk_HL_LCFG_ERR : HL_LCFG.ERR.blk = .hl := by decide
theorem blk_HL_LCFG_HOLD_US : HL_LCFG.HOLD_US.blk = .hl := by decide
theorem blk_HL_LCFG_LEN : HL_LCFG.LEN.blk = .hl := by decide
theorem blk_HL_LIST_KIND : HL_LIST.KIND.blk = .hl := by decide
theorem blk_HL_LIST_SEL : HL_LIST.SEL.blk = .hl := by decide
theorem blk_HL_PTR_HEAD : HL_PTR.HEAD.blk = .hl := by decide
theorem blk_HL_PTR_TAIL : HL_PTR.TAIL.blk = .hl := by decide
theorem blk_HL_SEQ_FIRST_SEQ : HL_SEQ.FIRST_SEQ.blk = .hl := by decide
theorem blk_HL_SEQ_LAST_SEQ : HL_SEQ.LAST_SEQ.blk = .hl := by decide
theorem blk_HL_STAT_BAD_UNITS : HL_STAT.BAD_UNITS.blk = .hl := by decide
theorem blk_HL_STAT_CHALLENGE : HL_STAT.CHALLENGE.blk = .hl := by decide
theorem blk_HL_STAT_KEEL_USED : HL_STAT.KEEL_USED.blk = .hl := by decide
theorem blk_HL_STAT_LOCKOUT : HL_STAT.LOCKOUT.blk = .hl := by decide
theorem blk_HL_STAT_LOGFAIL : HL_STAT.LOGFAIL.blk = .hl := by decide
theorem blk_HL_STAT_STATE : HL_STAT.STATE.blk = .hl := by decide
theorem blk_HL_TRIG_TRIG : HL_TRIG.TRIG.blk = .hl := by decide
theorem blk_HL_WIN_DATA : HL_WIN.DATA.blk = .hl := by decide
theorem blk_HM_KEY_KEY : HM_KEY.KEY.blk = .hm := by decide
theorem blk_HM_SEAL_SEAL : HM_SEAL.SEAL.blk = .hm := by decide
theorem blk_HM_STATUS_DENY_CNT : HM_STATUS.DENY_CNT.blk = .hm := by decide
theorem blk_HM_STATUS_DENY_FUNC : HM_STATUS.DENY_FUNC.blk = .hm := by decide
theorem blk_HM_STATUS_KEYS_SET : HM_STATUS.KEYS_SET.blk = .hm := by decide
theorem blk_HM_STATUS_LOGKEY_SET : HM_STATUS.LOGKEY_SET.blk = .hm := by decide
theorem blk_HQ_CFG_EN : HQ_CFG.EN.blk = .sl := by decide
theorem blk_HQ_CFG_FUNC : HQ_CFG.FUNC.blk = .sl := by decide
theorem blk_HQ_CFG_SIZE : HQ_CFG.SIZE.blk = .sl := by decide
theorem blk_HQ_CFG_STG_MAX : HQ_CFG.STG_MAX.blk = .sl := by decide
theorem blk_HQ_CFG_VECTOR : HQ_CFG.VECTOR.blk = .sl := by decide
theorem blk_HQ_CI_CI : HQ_CI.CI.blk = .sl := by decide
theorem blk_HQ_LOSS_LOST : HQ_LOSS.LOST.blk = .sl := by decide
theorem blk_HQ_PI_PI : HQ_PI.PI.blk = .sl := by decide
theorem blk_HQ_STAT_FULL : HQ_STAT.FULL.blk = .sl := by decide
theorem blk_HQ_STAT_PHASE : HQ_STAT.PHASE.blk = .sl := by decide
theorem blk_HQ_STAT_QSTATE : HQ_STAT.QSTATE.blk = .sl := by decide
theorem blk_HQ_STAT_REEN_PEND : HQ_STAT.REEN_PEND.blk = .sl := by decide
theorem blk_HQ_STAT_STAGED : HQ_STAT.STAGED.blk = .sl := by decide
theorem blk_LT_BYTES_BYTES : LT_BYTES.BYTES.blk = .lt := by decide
theorem blk_LT_CFG_BURST_MAX : LT_CFG.BURST_MAX.blk = .lt := by decide
theorem blk_LT_CFG_EVSEL : LT_CFG.EVSEL.blk = .lt := by decide
theorem blk_LT_CFG_EV_EN : LT_CFG.EV_EN.blk = .lt := by decide
theorem blk_LT_CFG_REQ_KIND : LT_CFG.REQ_KIND.blk = .lt := by decide
theorem blk_LT_CFG_REQ_PN : LT_CFG.REQ_PN.blk = .lt := by decide
theorem blk_LT_CFG_TAIL_US : LT_CFG.TAIL_US.blk = .lt := by decide
theorem blk_LT_CNT_ERR_CNT : LT_CNT.ERR_CNT.blk = .lt := by decide
theorem blk_LT_CNT_SKIP_CNT : LT_CNT.SKIP_CNT.blk = .lt := by decide
theorem blk_LT_DIAG_PARK_CNT : LT_DIAG.PARK_CNT.blk = .lt := by decide
theorem blk_LT_DIAG_PAUSE_CAUSE : LT_DIAG.PAUSE_CAUSE.blk = .lt := by decide
theorem blk_LT_DIAG_WB_FAIL : LT_DIAG.WB_FAIL.blk = .lt := by decide
theorem blk_LT_PC_PC : LT_PC.PC.blk = .lt := by decide
theorem blk_LT_STAT_FUNC : LT_STAT.FUNC.blk = .lt := by decide
theorem blk_LT_STAT_HELD : LT_STAT.HELD.blk = .lt := by decide
theorem blk_LT_STAT_LATCH : LT_STAT.LATCH.blk = .lt := by decide
theorem blk_LT_STAT_LGEN : LT_STAT.LGEN.blk = .lt := by decide
theorem blk_LT_STAT_LSTATE : LT_STAT.LSTATE.blk = .lt := by decide
theorem blk_LT_STAT_PRIO : LT_STAT.PRIO.blk = .lt := by decide
theorem blk_ME_CNT_ATOM_OVERRUN : ME_CNT.ATOM_OVERRUN.blk = .me := by decide
theorem blk_ME_CNT_ECC_CORR : ME_CNT.ECC_CORR.blk = .me := by decide
theorem blk_ME_DCFG_PRIGRP : ME_DCFG.PRIGRP.blk = .me := by decide
theorem blk_ME_DCNT_DEPTH_FULL : ME_DCNT.DEPTH_FULL.blk = .me := by decide
theorem blk_ME_DCNT_SPURIOUS_COMPLETE : ME_DCNT.SPURIOUS_COMPLETE.blk = .me := by decide
theorem blk_ME_DSTAT_ACTIVE : ME_DSTAT.ACTIVE.blk = .me := by decide
theorem blk_ME_DSTAT_BASE : ME_DSTAT.BASE.blk = .me := by decide
theorem blk_ME_DSTAT_CUR_FRAME : ME_DSTAT.CUR_FRAME.blk = .me := by decide
theorem blk_ME_DSTAT_CUR_SRC : ME_DSTAT.CUR_SRC.blk = .me := by decide
theorem blk_ME_DSTAT_HELD : ME_DSTAT.HELD.blk = .me := by decide
theorem blk_ME_FAULT_CAUSE : ME_FAULT.CAUSE.blk = .me := by decide
theorem blk_ME_FAULT_FPC : ME_FAULT.FPC.blk = .me := by decide
theorem blk_ME_FAULT_FRAME : ME_FAULT.FRAME.blk = .me := by decide
theorem blk_ME_FAULT_VALID : ME_FAULT.VALID.blk = .me := by decide
theorem blk_ME_IMAGE_ACT : ME_IMAGE.ACT.blk = .me := by decide
theorem blk_ME_IMAGE_KEY_SLOT : ME_IMAGE.KEY_SLOT.blk = .me := by decide
theorem blk_ME_IMAGE_LSTATE : ME_IMAGE.LSTATE.blk = .me := by decide
theorem blk_ME_IVER_IMAGE_VERSION : ME_IVER.IMAGE_VERSION.blk = .me := by decide
theorem blk_ME_PC_PC : ME_PC.PC.blk = .me := by decide
theorem blk_ME_RELIEF_COPYING : ME_RELIEF.COPYING.blk = .me := by decide
theorem blk_ME_RELIEF_WARM : ME_RELIEF.WARM.blk = .me := by decide
theorem blk_ME_RELIEF_WARM_EN : ME_RELIEF.WARM_EN.blk = .me := by decide
theorem blk_ME_RELIEF_WARM_FOR : ME_RELIEF.WARM_FOR.blk = .me := by decide
theorem blk_ME_STATUS_DEPTH : ME_STATUS.DEPTH.blk = .me := by decide
theorem blk_ME_STATUS_FAULT : ME_STATUS.FAULT.blk = .me := by decide
theorem blk_ME_STATUS_LOGICAL : ME_STATUS.LOGICAL.blk = .me := by decide
theorem blk_ME_STATUS_ROLE : ME_STATUS.ROLE.blk = .me := by decide
theorem blk_ME_STATUS_RUNNING : ME_STATUS.RUNNING.blk = .me := by decide
theorem blk_ME_STATUS_WAITING : ME_STATUS.WAITING.blk = .me := by decide
theorem blk_PN_CNT_DROP_CNT : PN_CNT.DROP_CNT.blk = .pn := by decide
theorem blk_PN_CNT_STALE_CNT : PN_CNT.STALE_CNT.blk = .pn := by decide
theorem blk_PN_ERR_ABANDON_CNT : PN_ERR.ABANDON_CNT.blk = .pn := by decide
theorem blk_PN_ERR_AUDIT_CNT : PN_ERR.AUDIT_CNT.blk = .pn := by decide
theorem blk_PN_ERR_LANE_CNT : PN_ERR.LANE_CNT.blk = .pn := by decide
theorem blk_PN_ERR_LAST_CAUSE : PN_ERR.LAST_CAUSE.blk = .pn := by decide
theorem blk_PN_FIFO_RX_LVL : PN_FIFO.RX_LVL.blk = .pn := by decide
theorem blk_PN_FIFO_RX_WM : PN_FIFO.RX_WM.blk = .pn := by decide
theorem blk_PN_FIFO_TX_LVL : PN_FIFO.TX_LVL.blk = .pn := by decide
theorem blk_PN_FIFO_TX_WM : PN_FIFO.TX_WM.blk = .pn := by decide
theorem blk_PN_STATUS_PC : PN_STATUS.PC.blk = .pn := by decide
theorem blk_PN_STATUS_PGEN : PN_STATUS.PGEN.blk = .pn := by decide
theorem blk_PN_STATUS_SC : PN_STATUS.SC.blk = .pn := by decide
theorem blk_PN_STATUS_STATE : PN_STATUS.STATE.blk = .pn := by decide
theorem blk_PN_STATUS_SWAP_PEND : PN_STATUS.SWAP_PEND.blk = .pn := by decide
theorem blk_QY_AUDIT_AUDIT_CNT : QY_AUDIT.AUDIT_CNT.blk = .qy := by decide
theorem blk_QY_AUDIT_CONSEC : QY_AUDIT.CONSEC.blk = .qy := by decide
theorem blk_QY_AUDIT_LAST_PIN : QY_AUDIT.LAST_PIN.blk = .qy := by decide
theorem blk_QY_DIAG_FAIL_UNROUTED : QY_DIAG.FAIL_UNROUTED.blk = .qy := by decide
theorem blk_QY_DIAG_RING_COLL : QY_DIAG.RING_COLL.blk = .qy := by decide
theorem blk_QY_DIAG_RING_LOST : QY_DIAG.RING_LOST.blk = .qy := by decide
theorem blk_QY_DIAG_VCAL_OK : QY_DIAG.VCAL_OK.blk = .qy := by decide
theorem blk_QY_LATE_FULL_CNT : QY_LATE.FULL_CNT.blk = .qy := by decide
theorem blk_QY_LATE_LATE_CNT : QY_LATE.LATE_CNT.blk = .qy := by decide
theorem blk_QY_STATUS_LOGICAL : QY_STATUS.LOGICAL.blk = .qy := by decide
theorem blk_QY_STATUS_ROLE : QY_STATUS.ROLE.blk = .qy := by decide
theorem blk_QY_STATUS_SLOTS_USED : QY_STATUS.SLOTS_USED.blk = .qy := by decide
theorem blk_QY_STATUS_SUSPECT : QY_STATUS.SUSPECT.blk = .qy := by decide
theorem blk_SL_CNT_ITEM_OVF : SL_CNT.ITEM_OVF.blk = .sl := by decide
theorem blk_SL_CNT_STAGE_LOST : SL_CNT.STAGE_LOST.blk = .sl := by decide
theorem blk_SL_CTRL_HOLD : SL_CTRL.HOLD.blk = .sl := by decide
theorem blk_SL_GRP_HOLDOFF : SL_GRP.HOLDOFF.blk = .sl := by decide
theorem blk_SL_GRP_RESIDUAL : SL_GRP.RESIDUAL.blk = .sl := by decide
theorem blk_SL_PEND_PEND : SL_PEND.PEND.blk = .sl := by decide
theorem blk_SL_STAT_ITEMS : SL_STAT.ITEMS.blk = .sl := by decide
theorem blk_SL_STAT_STAGED : SL_STAT.STAGED.blk = .sl := by decide
theorem blk_SL_STAT_STAGE_FULL : SL_STAT.STAGE_FULL.blk = .sl := by decide
theorem blk_SL_TGT_GROUP : SL_TGT.GROUP.blk = .sl := by decide
theorem blk_SL_TGT_KIND : SL_TGT.KIND.blk = .sl := by decide
theorem blk_SL_TGT_PRIO : SL_TGT.PRIO.blk = .sl := by decide
theorem blk_SL_TGT_TARGET : SL_TGT.TARGET.blk = .sl := by decide
theorem blk_SYS_BOOT_BOOTSEL : SYS_BOOT.BOOTSEL.blk = .sys := by decide
theorem blk_SYS_BOOT_ERR_OP : SYS_BOOT.ERR_OP.blk = .sys := by decide
theorem blk_SYS_BOOT_LAST_ERR : SYS_BOOT.LAST_ERR.blk = .sys := by decide
theorem blk_SYS_BOOT_SOURCE : SYS_BOOT.SOURCE.blk = .sys := by decide
theorem blk_SYS_BOOT_STAGE : SYS_BOOT.STAGE.blk = .sys := by decide
theorem blk_SYS_FAULT_AX0_INVALID : SYS_FAULT.AX0_INVALID.blk = .sys := by decide
theorem blk_SYS_FAULT_BERTH_EXHAUSTED : SYS_FAULT.BERTH_EXHAUSTED.blk = .sys := by decide
theorem blk_SYS_FAULT_ENGINE_EXHAUSTED : SYS_FAULT.ENGINE_EXHAUSTED.blk = .sys := by decide
theorem blk_SYS_FAULT_FREQ_HOLD : SYS_FAULT.FREQ_HOLD.blk = .sys := by decide
theorem blk_SYS_FAULT_QUAY_EXHAUSTED : SYS_FAULT.QUAY_EXHAUSTED.blk = .sys := by decide
theorem blk_SYS_FAULT_SW : SYS_FAULT.SW.blk = .sys := by decide
theorem blk_SYS_FAULT_TB_DEGRADED : SYS_FAULT.TB_DEGRADED.blk = .sys := by decide
theorem blk_SYS_IOCFG_VA : SYS_IOCFG.VA.blk = .sys := by decide
theorem blk_SYS_IOCFG_VB : SYS_IOCFG.VB.blk = .sys := by decide
theorem blk_SYS_MODE_ARMED : SYS_MODE.ARMED.blk = .sys := by decide
theorem blk_SYS_MODE_CAUSE : SYS_MODE.CAUSE.blk = .sys := by decide
theorem blk_SYS_MODE_GO_REQ : SYS_MODE.GO_REQ.blk = .sys := by decide
theorem blk_SYS_MODE_MODE : SYS_MODE.MODE.blk = .sys := by decide
theorem blk_SYS_MODE_PENDING_GO : SYS_MODE.PENDING_GO.blk = .sys := by decide
theorem blk_SYS_MODE_STEPPED : SYS_MODE.STEPPED.blk = .sys := by decide
theorem blk_SYS_REPAIR_MAP_VALID : SYS_REPAIR.MAP_VALID.blk = .sys := by decide
theorem blk_SYS_REPAIR_RELIEF_FREE : SYS_REPAIR.RELIEF_FREE.blk = .sys := by decide
theorem blk_SYS_REPAIR_SPARE_BERTHS : SYS_REPAIR.SPARE_BERTHS.blk = .sys := by decide
theorem blk_SYS_REPAIR_SPARE_QUAYS : SYS_REPAIR.SPARE_QUAYS.blk = .sys := by decide
theorem blk_SYS_RSTCAUSE_ATTEMPTS : SYS_RSTCAUSE.ATTEMPTS.blk = .sys := by decide
theorem blk_SYS_RSTCAUSE_CAUSE : SYS_RSTCAUSE.CAUSE.blk = .sys := by decide
theorem blk_SYS_TEMP_HOT : SYS_TEMP.HOT.blk = .sys := by decide
theorem blk_SYS_TEMP_TEMP : SYS_TEMP.TEMP.blk = .sys := by decide
theorem blk_TIO_PIN_FILT : TIO_PIN.FILT.blk = .tio := by decide
theorem blk_TIO_PIN_FUNIT : TIO_PIN.FUNIT.blk = .tio := by decide
theorem blk_TIO_PIN_IN_DIS : TIO_PIN.IN_DIS.blk = .tio := by decide
theorem blk_TIO_PIN_IN_INV : TIO_PIN.IN_INV.blk = .tio := by decide
theorem blk_TIO_PIN_OUT_CH : TIO_PIN.OUT_CH.blk = .tio := by decide
theorem blk_TIO_PIN_OUT_SRC : TIO_PIN.OUT_SRC.blk = .tio := by decide
theorem blk_TIO_STAT_DRIVEN : TIO_STAT.DRIVEN.blk = .tio := by decide
theorem blk_TIO_STAT_GLITCH_CNT : TIO_STAT.GLITCH_CNT.blk = .tio := by decide
theorem blk_TIO_STAT_LEVEL : TIO_STAT.LEVEL.blk = .tio := by decide
theorem blk_TIO_STAT_REFUSED : TIO_STAT.REFUSED.blk = .tio := by decide
theorem blk_VG_CAL_CAL : VG_CAL.CAL.blk = .vg := by decide
theorem blk_VG_CTRL_VDRIFT_PPB : VG_CTRL.VDRIFT_PPB.blk = .vg := by decide
theorem blk_VG_OFF_T_OFF : VG_OFF.T_OFF.blk = .vg := by decide
theorem blk_VG_OFF_UNC_OFF : VG_OFF.UNC_OFF.blk = .vg := by decide
theorem blk_VG_STAT_ON_VBAK : VG_STAT.ON_VBAK.blk = .vg := by decide
theorem blk_VG_STAT_TEMP : VG_STAT.TEMP.blk = .vg := by decide
theorem blk_VG_STAT_VALID : VG_STAT.VALID.blk = .vg := by decide
theorem blk_VG_STAT_XFAIL : VG_STAT.XFAIL.blk = .vg := by decide
theorem blk_WT_CFG_EN : WT_CFG.EN.blk = .wt := by decide
theorem blk_WT_STATUS_CFG_ERR : WT_STATUS.CFG_ERR.blk = .wt := by decide
theorem blk_WT_STATUS_DIR : WT_STATUS.DIR.blk = .wt := by decide
theorem blk_WT_STATUS_LOSS_CNT : WT_STATUS.LOSS_CNT.blk = .wt := by decide
theorem blk_WT_STATUS_PH_MIS_CNT : WT_STATUS.PH_MIS_CNT.blk = .wt := by decide
theorem blk_WT_STATUS_REJ_CNT : WT_STATUS.REJ_CNT.blk = .wt := by decide
theorem blk_WT_STATUS_REL : WT_STATUS.REL.blk = .wt := by decide
theorem blk_WT_STATUS_STALL : WT_STATUS.STALL.blk = .wt := by decide
theorem blk_WT_STATUS_STATE : WT_STATUS.STATE.blk = .wt := by decide

end Sys2Proof.Machine
end

