-- ==== Sys2Proof/Laws/FrameHost.lean ====
section
/-! SUPPORT. Which parts of the state the operations of Machine/Ops, HostQ, Sluice, Modes may change. -/

namespace Sys2Proof.Machine

open Sys2Proof

set_option linter.unusedSimpArgs false
set_option linter.unusedVariables false
set_option linter.unusedTactic false
set_option linter.unreachableTactic false

variable {S : List Part} {e0 : Dev}

theorem setFlag_only (d : Dev) (f : Fld) (b : Bool) (i : Nat := 0) (j : Nat := 0) (hO : Only S e0 d)  (hb_f : Part.regs f.blk ∈ S) :
    Only S e0
    (Dev.setFlag d f b i j) := by
  unfold Dev.setFlag
  simp (maxDischargeDepth := 60) only [hO, hb_f, only_refl, only_ite, only_foldl, implies_true, setFld_only]

theorem clearFld_only (d : Dev) (f : Fld) (i : Nat := 0) (j : Nat := 0) (hO : Only S e0 d)  (hb_f : Part.regs f.blk ∈ S) :
    Only S e0
    (Dev.clearFld d f i j) := by
  unfold Dev.clearFld
  simp (maxDischargeDepth := 60) only [hO, hb_f, only_refl, only_ite, only_foldl, implies_true, setFld_only]

theorem setBit_only (d : Dev) (f : Fld) (i b : Nat) (v : Bool) (hO : Only S e0 d)  (hb_f : Part.regs f.blk ∈ S) :
    Only S e0 (Dev.setBit d f i b v) := by
  unfold Dev.setBit
  simp (maxDischargeDepth := 60) only [hO, hb_f, only_refl, only_ite, only_foldl, implies_true, setFld_only]

theorem count_only (d : Dev) (f : Fld) (i : Nat := 0) (n : Nat := 1) (hO : Only S e0 d)  (hb_f : Part.regs f.blk ∈ S) :
    Only S e0 (Dev.count d f
    i n) := by
  unfold Dev.count
  simp (maxDischargeDepth := 60) only [hO, hb_f, only_refl, only_ite, only_foldl, implies_true, only_cyc, setFld_only]

theorem readClears_only (d : Dev) (f : Fld) (i j : Nat) (hO : Only S e0 d)  (hb_f : Part.regs f.blk ∈ S) :
    Only S e0 (Dev.readClears d f i j) := by
  unfold Dev.readClears
  (try dsimp only)
  (repeat' split) <;> simp (maxDischargeDepth := 60) only [hO, hb_f, only_refl, only_ite, only_foldl,
      implies_true, only_cyc, clearFld_only, setFld_only]

theorem setEvent_only (d : Dev) (f : Fld) (mask : Nat) (i : Nat := 0) (hO : Only S e0 d)  (hb_f : Part.regs f.blk ∈ S) :
    Only S e0 (Dev.setEvent
    d f mask i) := by
  unfold Dev.setEvent
  simp (maxDischargeDepth := 60) only [hO, hb_f, only_refl, only_ite, only_foldl, implies_true, only_cyc, setFld_only]

theorem warmStale_only (d : Dev) (n : Nat) (hO : Only S e0 d) (h_rme : Part.regs .me ∈ S) :
    Only S e0 (Dev.warmStale d n) := by
  unfold Dev.warmStale
  simp (maxDischargeDepth := 60) only [hO, h_rme, only_refl, only_ite, only_foldl, implies_true, setFld_only,
      blk_ME_RELIEF_COPYING, blk_ME_RELIEF_WARM, blk_ME_RELIEF_WARM_EN, blk_ME_RELIEF_WARM_FOR, blk_ME_STATUS_ROLE]

theorem nextFree_only (d : Dev) (hO : Only S e0 d) (h_freeCtr : Part.ctr ∈ S) :
    Only S e0 (Dev.nextFree d) := by
  unfold Dev.nextFree
  simp (maxDischargeDepth := 60) only [hO, h_freeCtr, only_refl, only_ite, only_foldl, implies_true, only_ctr]

theorem raiseRecs_only (d : Dev) (src : Nat) (recs : List Record) (item : Bool) (hO : Only S e0 d) (h_sl : Part.sl ∈ S) :
    Only S e0
    (Dev.raiseRecs d src recs item) := by
  unfold Dev.raiseRecs
  simp (maxDischargeDepth := 60) only [hO, h_sl, only_refl, only_ite, only_foldl, implies_true, only_sl]

theorem raise_only (d : Dev) (typ src gen : Nat) (b : List (Nat × Nat × Nat)) (item : Bool := false) (hO : Only S e0 d) (h_sl : Part.sl ∈ S) :
    Only S e0 (Dev.raise d typ src gen b item) := by
  unfold Dev.raise
  simp (maxDischargeDepth := 60) only [hO, h_sl, only_refl, only_ite, only_foldl, implies_true, only_sl, raiseRecs_only]

theorem raiseSys_only (d : Dev) (src : Nat) (b : List (Nat × Nat × Nat)) (hO : Only S e0 d) (h_sl : Part.sl ∈ S) :
    Only S e0 (Dev.raiseSys d src
    b) := by
  unfold Dev.raiseSys
  simp (maxDischargeDepth := 60) only [hO, h_sl, only_refl, only_ite, only_foldl, implies_true, only_sl, raise_only]

theorem logItem_only (d : Dev) (kind : Nat) (b : List (Nat × Nat × Nat)) (hO : Only S e0 d) (h_lg : Part.lg ∈ S) :
    Only S e0 (Dev.logItem d kind
    b) := by
  unfold Dev.logItem
  simp (maxDischargeDepth := 60) only [hO, h_lg, only_refl, only_ite, only_foldl, implies_true, only_lg]

theorem logRecord_only (d : Dev) (reason : Nat) (r : Record) (hO : Only S e0 d) (h_lg : Part.lg ∈ S) :
    Only S e0 (Dev.logRecord d reason r) := by
  unfold Dev.logRecord
  simp (maxDischargeDepth := 60) only [hO, h_lg, only_refl, only_ite, only_foldl, implies_true, only_lg]

theorem raiseMode_only (d : Dev) (old : Nat) (hO : Only S e0 d) (h_sl : Part.sl ∈ S) :
    Only S e0 (Dev.raiseMode d old) := by
  unfold Dev.raiseMode
  simp (maxDischargeDepth := 60) only [hO, h_sl, only_refl, only_ite, only_foldl, implies_true, only_sl, raiseSys_only,
      blk_SYS_MODE_CAUSE, blk_SYS_MODE_GO_REQ, blk_SYS_MODE_MODE, blk_SYS_MODE_PENDING_GO]

theorem setFault_only (d : Dev) (f : Fld) (b : Bool) (hO : Only S e0 d) (h_sl : Part.sl ∈ S) (hb_f : Part.regs f.blk ∈ S) :
    Only S e0
    (Dev.setFault d f b) := by
  unfold Dev.setFault
  simp (maxDischargeDepth := 60) only [hO, h_sl, hb_f, only_refl, only_ite, only_foldl, implies_true, only_sl, raiseMode_only,
      setFlag_only, blk_SYS_MODE_MODE]

theorem deny_only (d : Dev) (f : Nat) (hO : Only S e0 d) (h_rhm : Part.regs .hm ∈ S) :
    Only S e0 (Dev.deny d f) := by
  unfold Dev.deny
  simp (maxDischargeDepth := 60) only [hO, h_rhm, only_refl, only_ite, only_foldl, implies_true, count_only, setFld_only,
      blk_HM_STATUS_DENY_CNT, blk_HM_STATUS_DENY_FUNC]

theorem setHq_only (d : Dev) (q : Nat) (h : HQueue) (hO : Only S e0 d) (h_sl : Part.sl ∈ S) :
    Only S e0 (Dev.setHq d q h) := by
  unfold Dev.setHq
  simp (maxDischargeDepth := 60) only [hO, h_sl, only_refl, only_ite, only_foldl, implies_true, only_sl]

theorem setRing_only (d : Dev) (m : Nat) (r : Ring) (hO : Only S e0 d) (h_hi : Part.hi ∈ S) :
    Only S e0 (Dev.setRing d m r) := by
  unfold Dev.setRing
  simp (maxDischargeDepth := 60) only [hO, h_hi, only_refl, only_ite, only_foldl, implies_true, only_hi]

theorem setFunc_only (d : Dev) (f : Nat) (x : Func) (hO : Only S e0 d) (h_hi : Part.hi ∈ S) :
    Only S e0 (Dev.setFunc d f x) := by
  unfold Dev.setFunc
  simp (maxDischargeDepth := 60) only [hO, h_hi, only_refl, only_ite, only_foldl, implies_true, only_hi]

theorem post_only (d : Dev) (p : Posted) (hO : Only S e0 d) (h_hi : Part.hi ∈ S) :
    Only S e0 (Dev.post d p) := by
  unfold Dev.post
  simp (maxDischargeDepth := 60) only [hO, h_hi, only_refl, only_ite, only_foldl, implies_true, only_hi]

theorem wake_only (d : Dev) (f : Nat) (hO : Only S e0 d) (h_hi : Part.hi ∈ S) :
    Only S e0 (Dev.wake d f) := by
  unfold Dev.wake
  simp (maxDischargeDepth := 60) only [hO, h_hi, only_refl, only_ite, only_foldl, implies_true, only_hi, post_only, setFunc_only]

theorem sendMsix_only (d : Dev) (f v : Nat) (hO : Only S e0 d) (h_hi : Part.hi ∈ S) :
    Only S e0 (Dev.sendMsix d f v) := by
  unfold Dev.sendMsix
  simp (maxDischargeDepth := 60) only [hO, h_hi, only_refl, only_ite, only_foldl, implies_true, only_hi, post_only,
      setFunc_only]

theorem msixFlush_only (d : Dev) (f : Nat) (hO : Only S e0 d) (h_hi : Part.hi ∈ S)  :
    Only S e0 (d.msixFlush f) := by
  unfold Dev.msixFlush
  dsimp only
  split
  · exact hO
  · generalize (d.func f).pba = l
    have k : Only S e0 (d.setFunc f { d.func f with pba := [] }) := by simp (maxDischargeDepth := 60) only [only_refl, only_ite, only_foldl, implies_true, only_hi, sendMsix_only, setFunc_only, *]
    revert k
    generalize d.setFunc f { d.func f with pba := [] } = y
    intro k
    induction l with
    | nil => exact k
    | cons a t ih =>
      simp only [List.foldr_cons]
      exact sendMsix_only _ _ _ ih h_hi

theorem notifyQueue_only (d : Dev) (q : Nat) (hO : Only S e0 d) (h_hi : Part.hi ∈ S) :
    Only S e0 (Dev.notifyQueue d q) := by
  unfold Dev.notifyQueue
  (try dsimp only)
  (repeat' split) <;> simp (maxDischargeDepth := 60) only [hO, h_hi, only_refl, only_ite, only_foldl,
      implies_true, only_hi, sendMsix_only, blk_HQ_CFG_VECTOR]

theorem raiseLoss_only (d : Dev) (kind q n : Nat) (hO : Only S e0 d) (h_sl : Part.sl ∈ S) :
    Only S e0 (Dev.raiseLoss d kind q n) := by
  unfold Dev.raiseLoss
  simp (maxDischargeDepth := 60) only [hO, h_sl, only_refl, only_ite, only_foldl, implies_true, only_sl, raiseSys_only]

theorem lose_only (d : Dev) (q : Nat) (u : RecUnit) (cause : Nat) (hO : Only S e0 d) (h_rsl : Part.regs .sl ∈ S) (h_sl : Part.sl ∈ S) (h_lg : Part.lg
    ∈ S) :
    Only S e0 (Dev.lose d q u cause) := by
  unfold Dev.lose
  simp (maxDischargeDepth := 60) only [hO, h_rsl, h_sl, h_lg, only_refl, only_ite, only_foldl, implies_true, only_sl, only_lg,
      count_only, logRecord_only, raiseLoss_only, setHq_only, blk_HQ_LOSS_LOST, blk_SL_CNT_STAGE_LOST]

theorem clearLoss_only (d : Dev) (q : Nat) (hO : Only S e0 d) (h_sl : Part.sl ∈ S) :
    Only S e0 (Dev.clearLoss d q) := by
  unfold Dev.clearLoss
  simp (maxDischargeDepth := 60) only [hO, h_sl, only_refl, only_ite, only_foldl, implies_true, only_sl, setHq_only]

theorem ringMode_only (d : Dev) (m : Nat) (hO : Only S e0 d) (h_rhi : Part.regs .hi ∈ S) :
    Only S e0 (Dev.ringMode d m) := by
  unfold Dev.ringMode
  simp (maxDischargeDepth := 60) only [hO, h_rhi, only_refl, only_ite, only_foldl, implies_true, setFld_only,
      blk_CQ_STAT_RSTATE]

theorem ringDrained_only (d : Dev) (m : Nat) (hO : Only S e0 d) (h_rhi : Part.regs .hi ∈ S) (h_hi : Part.hi ∈ S) :
    Only S e0 (Dev.ringDrained d m) := by
  unfold Dev.ringDrained
  simp (maxDischargeDepth := 60) only [hO, h_rhi, h_hi, only_refl, only_ite, only_foldl, implies_true, only_hi,
      ringMode_only, setFld_only, setRing_only, blk_CQ_CFG_EN, blk_CQ_CI_CI, blk_CQ_STAT_REEN_PEND, blk_CQ_STAT_RGEN, blk_CQ_STAT_RSTATE]

theorem ringServed_only (d : Dev) (u : RecUnit) (hO : Only S e0 d) (h_rhi : Part.regs .hi ∈ S) (h_hi : Part.hi ∈ S) :
    Only S e0 (Dev.ringServed d
    u) := by
  unfold Dev.ringServed
  (try dsimp only)
  (repeat' split) <;> simp (maxDischargeDepth := 60) only [hO, h_rhi, h_hi, only_refl, only_ite,
      only_foldl, implies_true, only_hi, ringDrained_only, ringMode_only]

theorem stage_only (d : Dev) (q : Nat) (u : RecUnit) (hO : Only S e0 d) (h_rhi : Part.regs .hi ∈ S) (h_rsl : Part.regs .sl ∈ S) (h_sl : Part.sl ∈ S)
    (h_lg : Part.lg ∈ S) :
    Only S e0 (Dev.stage d q u) := by
  unfold Dev.stage
  (try dsimp only)
  (repeat' split) <;> simp (maxDischargeDepth := 60) only [hO, h_rhi, h_rsl, h_sl, h_lg, only_refl, only_ite,
      only_foldl, implies_true, only_sl, only_lg, lose_only, ringMode_only, setHq_only]

theorem hqEnable_only (d : Dev) (q : Nat) (hO : Only S e0 d) (h_rsl : Part.regs .sl ∈ S) (h_sl : Part.sl ∈ S) :
    Only S e0 (Dev.hqEnable d q) := by
  unfold Dev.hqEnable
  simp (maxDischargeDepth := 60) only [hO, h_rsl, h_sl, only_refl, only_ite, only_foldl, implies_true, only_sl, setFld_only,
      setHq_only, blk_HQ_CFG_EN, blk_HQ_CI_CI, blk_HQ_PI_PI, blk_HQ_STAT_QSTATE]

theorem hqDrained_only (d : Dev) (q : Nat) (hO : Only S e0 d) (h_rsl : Part.regs .sl ∈ S) (h_sl : Part.sl ∈ S) :
    Only S e0 (Dev.hqDrained d q) := by
  unfold Dev.hqDrained
  simp (maxDischargeDepth := 60) only [hO, h_rsl, h_sl, only_refl, only_ite, only_foldl, implies_true, only_sl, hqEnable_only,
      setFld_only, blk_HQ_STAT_QSTATE, blk_HQ_STAT_REEN_PEND]

theorem writeRec_only (d : Dev) (q : Nat) (r : Record) (u : RecUnit) (hO : Only S e0 d) (h_rsl : Part.regs .sl ∈ S) (h_hi : Part.hi ∈ S) :
    Only S
    e0 (Dev.writeRec d q r u) := by
  unfold Dev.writeRec
  simp (maxDischargeDepth := 60) only [hO, h_rsl, h_hi, only_refl, only_ite, only_foldl, implies_true, only_hi,
      notifyQueue_only, post_only, setFld_only, blk_HQ_CFG_SIZE, blk_HQ_PI_PI]

theorem writeRecs_only (d : Dev) (q : Nat) (u : RecUnit) (more : Bool) (l : List Record) (hO : Only S e0 d) (h_rsl : Part.regs .sl ∈ S) (h_hi : Part.hi ∈ S)  :
    Only S e0 (Dev.writeRecs d q u more l) := by
  induction l generalizing d u with
  | nil => unfold Dev.writeRecs; exact hO
  | cons r t ih => unfold Dev.writeRecs; exact ih _ _ (by simp (maxDischargeDepth := 60) only [only_refl, only_ite, only_foldl, implies_true, only_hi, writeRec_only, *])

theorem writeUnit_only (d : Dev) (q : Nat) (u : RecUnit) (hO : Only S e0 d) (h_rhi : Part.regs .hi ∈ S) (h_rsl : Part.regs .sl ∈ S) (h_sl : Part.sl ∈
    S) (h_hi : Part.hi ∈ S) (h_lg : Part.lg ∈ S) :
    Only S e0 (Dev.writeUnit d q u) := by
  unfold Dev.writeUnit
  (try dsimp only)
  (repeat' split) <;> simp (maxDischargeDepth := 60) only [hO, h_rhi, h_rsl, h_sl, h_hi, h_lg, only_refl,
      only_ite, only_foldl, implies_true, only_sl, only_hi, only_lg, lose_only, stage_only, writeRecs_only]

theorem generate_only (d : Dev) (q : Nat) (u : RecUnit) (hO : Only S e0 d) (h_rsl : Part.regs .sl ∈ S) (h_sl : Part.sl ∈ S) (h_hi : Part.hi ∈ S)
    (h_lg : Part.lg ∈ S) :
    Only S e0 (Dev.generate d q u) := by
  unfold Dev.generate
  (try dsimp only)
  (repeat' split) <;> simp (maxDischargeDepth := 60) only [hO, h_rsl, h_sl, h_hi, h_lg, only_refl, only_ite,
      only_foldl, implies_true, only_sl, only_hi, only_lg, lose_only, setHq_only, wake_only, blk_HQ_STAT_QSTATE]

theorem writeLoss_only (d : Dev) (q : Nat) (hO : Only S e0 d) (h_rsl : Part.regs .sl ∈ S) (h_sl : Part.sl ∈ S) (h_hi : Part.hi ∈ S) :
    Only S e0
    (Dev.writeLoss d q) := by
  unfold Dev.writeLoss
  simp (maxDischargeDepth := 60) only [hO, h_rsl, h_sl, h_hi, only_refl, only_ite, only_foldl, implies_true, only_sl, only_hi,
      clearLoss_only, writeRec_only]

theorem issueGen_only (d : Dev) (q : Nat) (hO : Only S e0 d) (h_rhi : Part.regs .hi ∈ S) (h_rsl : Part.regs .sl ∈ S) (h_sl : Part.sl ∈ S) (h_hi :
    Part.hi ∈ S) (h_lg : Part.lg ∈ S) :
    Only S e0 (Dev.issueGen d q) := by
  unfold Dev.issueGen
  (try dsimp only)
  (repeat' split) <;> simp (maxDischargeDepth := 60) only [hO, h_rhi, h_rsl, h_sl, h_hi, h_lg, only_refl,
      only_ite, only_foldl, implies_true, only_sl, only_hi, only_lg, hqDrained_only, setHq_only, stage_only, writeLoss_only, writeUnit_only,
      blk_HQ_STAT_QSTATE]

theorem issueRec_only (d : Dev) (q : Nat) (hO : Only S e0 d) (h_rhi : Part.regs .hi ∈ S) (h_rsl : Part.regs .sl ∈ S) (h_sl : Part.sl ∈ S) (h_hi :
    Part.hi ∈ S) (h_lg : Part.lg ∈ S) :
    Only S e0 (Dev.issueRec d q) := by
  unfold Dev.issueRec
  (try dsimp only)
  (repeat' split) <;> simp (maxDischargeDepth := 60) only [hO, h_rhi, h_rsl, h_sl, h_hi, h_lg, only_refl,
      only_ite, only_foldl, implies_true, only_sl, only_hi, only_lg, hqDrained_only, issueGen_only, ringServed_only, setHq_only, stage_only,
      writeLoss_only, writeUnit_only]

theorem drainUnit_only (d : Dev) (q : Nat) (u : RecUnit) (t : List RecUnit) (hO : Only S e0 d) (h_rsl : Part.regs .sl ∈ S) (h_sl : Part.sl ∈ S) (h_hi
    : Part.hi ∈ S) :
    Only S e0 (Dev.drainUnit d q u t) := by
  unfold Dev.drainUnit
  simp (maxDischargeDepth := 60) only [hO, h_rsl, h_sl, h_hi, only_refl, only_ite, only_foldl, implies_true, only_sl, only_hi,
      hqDrained_only, setHq_only, writeRecs_only]

theorem restage_only (d : Dev) (q : Nat) (hO : Only S e0 d) (h_rsl : Part.regs .sl ∈ S) (h_sl : Part.sl ∈ S) :
    Only S e0 (Dev.restage d q) := by
  unfold Dev.restage
  simp (maxDischargeDepth := 60) only [hO, h_rsl, h_sl, only_refl, only_ite, only_foldl, implies_true, only_sl, setFld_only,
      setHq_only, blk_HQ_PI_PI]

theorem restageAll_only (d : Dev) (hO : Only S e0 d) (h_rsl : Part.regs .sl ∈ S) (h_sl : Part.sl ∈ S) (h_hi : Part.hi ∈ S) :
    Only S e0
    (Dev.restageAll d) := by
  unfold Dev.restageAll
  simp (maxDischargeDepth := 60) only [hO, h_rsl, h_sl, h_hi, only_refl, only_ite, only_foldl, implies_true, only_sl,
      only_hi, restage_only]

theorem hqHold_only (d : Dev) (q : Nat) (hO : Only S e0 d) (h_rsl : Part.regs .sl ∈ S) :
    Only S e0 (Dev.hqHold d q) := by
  unfold Dev.hqHold
  simp (maxDischargeDepth := 60) only [hO, h_rsl, only_refl, only_ite, only_foldl, implies_true, setFld_only, blk_HQ_STAT_QSTATE,
      blk_HQ_STAT_REEN_PEND]

theorem sleepCheck_only (d : Dev) (f : Nat) (hO : Only S e0 d) (h_hi : Part.hi ∈ S) :
    Only S e0 (Dev.sleepCheck d f) := by
  unfold Dev.sleepCheck
  simp (maxDischargeDepth := 60) only [hO, h_hi, only_refl, only_ite, only_foldl, implies_true, only_hi, wake_only]

theorem logCompletion_only (d : Dev) (c : Cmd) (status gen : Nat) (hO : Only S e0 d) (h_rhi : Part.regs .hi ∈ S) (h_lg : Part.lg ∈ S) :
    Only S e0
    (Dev.logCompletion d c status gen) := by
  unfold Dev.logCompletion
  simp (maxDischargeDepth := 60) only [hO, h_rhi, h_lg, only_refl, only_ite, only_foldl, implies_true, only_lg,
      count_only, logItem_only, blk_CQ_ERR_LOGGED_CNT]

theorem loseDone_only (d : Dev) (q : Nat) (hO : Only S e0 d) (h_rsl : Part.regs .sl ∈ S) (h_sl : Part.sl ∈ S) :
    Only S e0 (Dev.loseDone d q) := by
  unfold Dev.loseDone
  simp (maxDischargeDepth := 60) only [hO, h_rsl, h_sl, only_refl, only_ite, only_foldl, implies_true, only_sl, count_only,
      setHq_only, blk_HQ_LOSS_LOST]

theorem completed_only (d : Dev) (c : Cmd) (status gen : Nat) (r : Record) (hO : Only S e0 d) (h_rhi : Part.regs .hi ∈ S) (h_rsl : Part.regs .sl ∈ S)
    (h_sl : Part.sl ∈ S) (h_hi : Part.hi ∈ S) (h_lg : Part.lg ∈ S) :
    Only S e0 (Dev.completed d c status gen r) := by
  unfold Dev.completed
  simp (maxDischargeDepth := 60) only [hO, h_rhi, h_rsl, h_sl, h_hi, h_lg, only_refl, only_ite, only_foldl, implies_true,
      only_sl, only_hi, only_lg, generate_only, logCompletion_only, loseDone_only, blk_CQ_CFG_CQ_HQ, blk_HQ_STAT_QSTATE]

theorem report_only (d : Dev) (c : Cmd) (status gen time : Nat) (b : List (Nat × Nat × Nat)) (hO : Only S e0 d)
    (h_rhi : Part.regs .hi ∈ S) (h_rsl : Part.regs .sl ∈ S) (h_sl : Part.sl ∈ S) (h_hi : Part.hi ∈ S) (h_lg : Part.lg ∈ S) : Only S e0 (Dev.report d c status gen time b) := by
  unfold Dev.report
  dsimp only
  split
  · exact hO
  · split
    · exact only_sl hO h_sl
    · exact completed_only d c status gen _ hO h_rhi h_rsl h_sl h_hi h_lg

theorem setLong_only (d : Dev) (m : Nat) (hO : Only S e0 d) (h_rhi : Part.regs .hi ∈ S) :
    Only S e0 (Dev.setLong d m) := by
  unfold Dev.setLong
  simp (maxDischargeDepth := 60) only [hO, h_rhi, only_refl, only_ite, only_foldl, implies_true, setFld_only, blk_CQ_STAT_LONG]

theorem finishAt_only (d : Dev) (c : Cmd) (status gen time : Nat) (b : List (Nat × Nat × Nat)) (hO : Only S e0 d) (h_rhi : Part.regs .hi ∈ S) (h_rsl
    : Part.regs .sl ∈ S) (h_sl : Part.sl ∈ S) (h_hi : Part.hi ∈ S) (h_lg : Part.lg ∈ S) :
    Only S e0 (Dev.finishAt d c status gen time b) := by
  unfold Dev.finishAt
  simp (maxDischargeDepth := 60) only [hO, h_rhi, h_rsl, h_sl, h_hi, h_lg, only_refl, only_ite, only_foldl, implies_true,
      only_sl, only_hi, only_lg, report_only, ringDrained_only, setLong_only, setRing_only]

theorem finish_only (d : Dev) (c : Cmd) (status : Nat) (b : List (Nat × Nat × Nat) := []) (hO : Only S e0 d) (h_rhi : Part.regs .hi ∈ S) (h_rsl :
    Part.regs .sl ∈ S) (h_sl : Part.sl ∈ S) (h_hi : Part.hi ∈ S) (h_lg : Part.lg ∈ S) :
    Only S e0 (Dev.finish d c status b) := by
  unfold Dev.finish
  simp (maxDischargeDepth := 60) only [hO, h_rhi, h_rsl, h_sl, h_hi, h_lg, only_refl, only_ite, only_foldl, implies_true,
      only_sl, only_hi, only_lg, finishAt_only]

theorem fencePoll_only (d : Dev) (m : Nat) (hO : Only S e0 d) (h_rhi : Part.regs .hi ∈ S) (h_rsl : Part.regs .sl ∈ S) (h_sl : Part.sl ∈ S) (h_hi :
    Part.hi ∈ S) (h_lg : Part.lg ∈ S) :
    Only S e0 (Dev.fencePoll d m) := by
  unfold Dev.fencePoll
  (try dsimp only)
  (repeat' split) <;> simp (maxDischargeDepth := 60) only [hO, h_rhi, h_rsl, h_sl, h_hi, h_lg, only_refl,
      only_ite, only_foldl, implies_true, only_sl, only_hi, only_lg, finish_only, setRing_only]

theorem fences_only (d : Dev) (hO : Only S e0 d) (h_rhi : Part.regs .hi ∈ S) (h_rsl : Part.regs .sl ∈ S) (h_sl : Part.sl ∈ S) (h_hi : Part.hi ∈ S)
    (h_lg : Part.lg ∈ S) :
    Only S e0 (Dev.fences d) := by
  unfold Dev.fences
  simp (maxDischargeDepth := 60) only [hO, h_rhi, h_rsl, h_sl, h_hi, h_lg, only_refl, only_ite, only_foldl, implies_true,
      only_sl, only_hi, only_lg, fencePoll_only]

theorem dllAckEff_only (count : Nat) (d : Dev) (hO : Only S e0 d) (h_hi : Part.hi ∈ S) :
    Only S e0 (dllAckEff count d) := by
  unfold dllAckEff
  simp (maxDischargeDepth := 60) only [hO, h_hi, only_refl, only_ite, only_foldl, implies_true, only_hi]

theorem setSrc_only (d : Dev) (s : Nat) (x : Src) (hO : Only S e0 d) (h_sl : Part.sl ∈ S) :
    Only S e0 (Dev.setSrc d s x) := by
  unfold Dev.setSrc
  simp (maxDischargeDepth := 60) only [hO, h_sl, only_refl, only_ite, only_foldl, implies_true, only_sl]

theorem setGrp_only (d : Dev) (g : Nat) (x : Group) (hO : Only S e0 d) (h_sl : Part.sl ∈ S) :
    Only S e0 (Dev.setGrp d g x) := by
  unfold Dev.setGrp
  simp (maxDischargeDepth := 60) only [hO, h_sl, only_refl, only_ite, only_foldl, implies_true, only_sl]

theorem setPend_only (d : Dev) (s : Nat) (b : Bool) (hO : Only S e0 d) (h_rsl : Part.regs .sl ∈ S) :
    Only S e0 (Dev.setPend d s b) := by
  unfold Dev.setPend
  simp (maxDischargeDepth := 60) only [hO, h_rsl, only_refl, only_ite, only_foldl, implies_true, setBit_only, blk_SL_PEND_PEND]

theorem reload_only (d : Dev) (g : Nat) (hO : Only S e0 d) (h_sl : Part.sl ∈ S) :
    Only S e0 (Dev.reload d g) := by
  unfold Dev.reload
  simp (maxDischargeDepth := 60) only [hO, h_sl, only_refl, only_ite, only_foldl, implies_true, only_sl, setGrp_only,
      blk_SL_GRP_HOLDOFF]

theorem latchPend_only (d : Dev) (s : Nat) (hO : Only S e0 d) (h_rsl : Part.regs .sl ∈ S) :
    Only S e0 (Dev.latchPend d s) := by
  unfold Dev.latchPend
  simp (maxDischargeDepth := 60) only [hO, h_rsl, only_refl, only_ite, only_foldl, implies_true, setEvent_only,
      blk_SL_PEND_PEND]

theorem ineligible_only (d : Dev) (s : Nat) (hO : Only S e0 d) (h_sl : Part.sl ∈ S) :
    Only S e0 (Dev.ineligible d s) := by
  unfold Dev.ineligible
  simp (maxDischargeDepth := 60) only [hO, h_sl, only_refl, only_ite, only_foldl, implies_true, only_sl, setGrp_only]

theorem taken_only (d : Dev) (s : Nat) (hO : Only S e0 d) (h_rsl : Part.regs .sl ∈ S) (h_sl : Part.sl ∈ S) :
    Only S e0 (Dev.taken d s) := by
  unfold Dev.taken
  simp (maxDischargeDepth := 60) only [hO, h_rsl, h_sl, only_refl, only_ite, only_foldl, implies_true, only_sl, ineligible_only,
      setPend_only, setSrc_only]

theorem deliverHost_only (d : Dev) (s : Nat) (hO : Only S e0 d) (h_rsl : Part.regs .sl ∈ S) (h_sl : Part.sl ∈ S) (h_hi : Part.hi ∈ S) (h_lg : Part.lg
    ∈ S) :
    Only S e0 (Dev.deliverHost d s) := by
  unfold Dev.deliverHost
  simp (maxDischargeDepth := 60) only [hO, h_rsl, h_sl, h_hi, h_lg, only_refl, only_ite, only_foldl, implies_true, only_sl,
      only_hi, only_lg, generate_only, reload_only, taken_only]

theorem openGroup_only (d : Dev) (g : Nat) (hO : Only S e0 d) (h_sl : Part.sl ∈ S) :
    Only S e0 (Dev.openGroup d g) := by
  unfold Dev.openGroup
  simp (maxDischargeDepth := 60) only [hO, h_sl, only_refl, only_ite, only_foldl, implies_true, only_sl, setGrp_only]

theorem deliverGroup_only (d : Dev) (g : Nat) (hO : Only S e0 d) (h_rsl : Part.regs .sl ∈ S) (h_sl : Part.sl ∈ S) (h_hi : Part.hi ∈ S) (h_lg :
    Part.lg ∈ S) :
    Only S e0 (Dev.deliverGroup d g) := by
  unfold Dev.deliverGroup
  simp (maxDischargeDepth := 60) only [hO, h_rsl, h_sl, h_hi, h_lg, only_refl, only_ite, only_foldl, implies_true, only_sl,
      only_hi, only_lg, deliverHost_only, openGroup_only]

theorem deliverItem_only (d : Dev) (s : Nat) (recs : List Record) (hO : Only S e0 d) (h_rsl : Part.regs .sl ∈ S) (h_sl : Part.sl ∈ S) (h_hi : Part.hi
    ∈ S) (h_lg : Part.lg ∈ S) :
    Only S e0 (Dev.deliverItem d s recs) := by
  unfold Dev.deliverItem
  simp (maxDischargeDepth := 60) only [hO, h_rsl, h_sl, h_hi, h_lg, only_refl, only_ite, only_foldl, implies_true, only_sl,
      only_hi, only_lg, generate_only]

theorem itemOverflow_only (d : Dev) (recs : List Record) (hO : Only S e0 d) (h_rsl : Part.regs .sl ∈ S) (h_sl : Part.sl ∈ S) (h_lg : Part.lg ∈ S) :
      Only S e0 (Dev.itemOverflow d recs) := by
  unfold Dev.itemOverflow
  simp (maxDischargeDepth := 60) only [hO, h_rsl, h_sl, h_lg, only_refl, only_ite, only_foldl, implies_true, only_sl,
      only_lg, count_only, logRecord_only, raiseLoss_only, blk_SL_CNT_ITEM_OVF]

theorem storeItem_only (d : Dev) (s : Nat) (recs : List Record) (hO : Only S e0 d) (h_rsl : Part.regs .sl ∈ S) (h_sl : Part.sl ∈ S) (h_lg : Part.lg ∈
    S) :
    Only S e0 (Dev.storeItem d s recs) := by
  unfold Dev.storeItem
  simp (maxDischargeDepth := 60) only [hO, h_rsl, h_sl, h_lg, only_refl, only_ite, only_foldl, implies_true, only_sl, only_lg,
      itemOverflow_only, latchPend_only]

theorem latchItem_only (d : Dev) (s : Nat) (recs : List Record) (hO : Only S e0 d) (h_rsl : Part.regs .sl ∈ S) (h_sl : Part.sl ∈ S) (h_hi : Part.hi ∈
    S) (h_lg : Part.lg ∈ S) :
    Only S e0 (Dev.latchItem d s recs) := by
  unfold Dev.latchItem
  (try dsimp only)
  (repeat' split) <;> simp (maxDischargeDepth := 60) only [hO, h_rsl, h_sl, h_hi, h_lg, only_refl,
      only_ite, only_foldl, implies_true, only_sl, only_hi, only_lg, deliverItem_only, latchPend_only, storeItem_only]

theorem latch_only (d : Dev) (s : Nat) (recs : List Record) (at_ : Nat) (hO : Only S e0 d) (h_rsl : Part.regs .sl ∈ S) (h_sl : Part.sl ∈ S) (h_hi :
    Part.hi ∈ S) (h_lg : Part.lg ∈ S) :
    Only S e0 (Dev.latch d s recs at_) := by
  unfold Dev.latch
  simp (maxDischargeDepth := 60) only [hO, h_rsl, h_sl, h_hi, h_lg, only_refl, only_ite, only_foldl, implies_true, only_sl,
      only_hi, only_lg, count_only, deliverHost_only, latchPend_only, setGrp_only, setSrc_only]

theorem releaseItems_only (d : Dev) (hO : Only S e0 d) (h_rsl : Part.regs .sl ∈ S) (h_sl : Part.sl ∈ S) (h_hi : Part.hi ∈ S) (h_lg : Part.lg ∈ S) :
      Only S e0 (Dev.releaseItems d) := by
  unfold Dev.releaseItems
  simp (maxDischargeDepth := 60) only [hO, h_rsl, h_sl, h_hi, h_lg, only_refl, only_ite, only_foldl, implies_true, only_sl,
      only_hi, only_lg, generate_only, setPend_only]

theorem holdoffExpireEff_only (g : Nat) (d : Dev) (hO : Only S e0 d) (h_rsl : Part.regs .sl ∈ S) (h_sl : Part.sl ∈ S) (h_hi : Part.hi ∈ S) (h_lg :
    Part.lg ∈ S) :
    Only S e0 (holdoffExpireEff g d) := by
  unfold holdoffExpireEff
  simp (maxDischargeDepth := 60) only [hO, h_rsl, h_sl, h_hi, h_lg, only_refl, only_ite, only_foldl, implies_true, only_sl,
      only_hi, only_lg, deliverGroup_only, openGroup_only]

theorem unhold_only (d : Dev) (hO : Only S e0 d) (h_rsl : Part.regs .sl ∈ S) (h_sl : Part.sl ∈ S) (h_hi : Part.hi ∈ S) (h_lg : Part.lg ∈ S) :
    Only S e0 (Dev.unhold d) := by
  unfold Dev.unhold
  simp (maxDischargeDepth := 60) only [hO, h_rsl, h_sl, h_hi, h_lg, only_refl, only_ite, only_foldl, implies_true, only_sl,
      only_hi, only_lg, deliverGroup_only, releaseItems_only]

theorem writeHold_only (d : Dev) (b : Bool) (hO : Only S e0 d) (h_rsl : Part.regs .sl ∈ S) (h_sl : Part.sl ∈ S) (h_hi : Part.hi ∈ S) (h_lg : Part.lg
    ∈ S) :
    Only S e0 (Dev.writeHold d b) := by
  unfold Dev.writeHold
  simp (maxDischargeDepth := 60) only [hO, h_rsl, h_sl, h_hi, h_lg, only_refl, only_ite, only_foldl, implies_true, only_sl,
      only_hi, only_lg, setFlag_only, unhold_only, blk_SL_CTRL_HOLD]

theorem writeHoldoff_only (d : Dev) (g v : Nat) (hO : Only S e0 d) (h_rsl : Part.regs .sl ∈ S) (h_sl : Part.sl ∈ S) (h_hi : Part.hi ∈ S) (h_lg :
    Part.lg ∈ S) :
    Only S e0 (Dev.writeHoldoff d g v) := by
  unfold Dev.writeHoldoff
  simp (maxDischargeDepth := 60) only [hO, h_rsl, h_sl, h_hi, h_lg, only_refl, only_ite, only_foldl, implies_true, only_sl,
      only_hi, only_lg, deliverGroup_only, openGroup_only, setFld_only, setGrp_only, blk_SL_GRP_HOLDOFF]

theorem writeTgt_only (d : Dev) (s v : Nat) (hO : Only S e0 d) (h_rsl : Part.regs .sl ∈ S) (h_sl : Part.sl ∈ S) (h_hi : Part.hi ∈ S) (h_lg : Part.lg
    ∈ S) :
    Only S e0 (Dev.writeTgt d s v) := by
  unfold Dev.writeTgt
  simp (maxDischargeDepth := 60) only [hO, h_rsl, h_sl, h_hi, h_lg, only_refl, only_ite, only_foldl, implies_true, only_sl,
      only_hi, only_lg, count_only, deliverHost_only, ineligible_only, logRecord_only, releaseItems_only, setFld_only, setPend_only,
      blk_SL_TGT_GROUP, blk_SL_TGT_KIND, blk_SL_TGT_PRIO, blk_SL_TGT_TARGET]

theorem writePend_only (d : Dev) (w v : Nat) (hO : Only S e0 d) (h_rsl : Part.regs .sl ∈ S) (h_sl : Part.sl ∈ S) :
    Only S e0 (Dev.writePend d w v) := by
  unfold Dev.writePend
  simp (maxDischargeDepth := 60) only [hO, h_rsl, h_sl, only_refl, only_ite, only_foldl, implies_true, only_sl, taken_only,
      blk_SL_PEND_PEND]

theorem publishOff_only (d : Dev) (hO : Only S e0 d) (h_cw : Part.cw ∈ S) :
    Only S e0 (Dev.publishOff d) := by
  unfold Dev.publishOff
  simp (maxDischargeDepth := 60) only [hO, h_cw, only_refl, only_ite, only_foldl, implies_true, only_cw]

theorem enterSteady_only (d : Dev) (cause : Nat) (hO : Only S e0 d) (h_rsys : Part.regs .sys ∈ S) (h_sys : Part.sys ∈ S) (h_cw : Part.cw ∈ S) (h_sl :
    Part.sl ∈ S) :
    Only S e0 (Dev.enterSteady d cause) := by
  unfold Dev.enterSteady
  simp (maxDischargeDepth := 60) only [hO, h_rsys, h_sys, h_cw, h_sl, only_refl, only_ite, only_foldl, implies_true,
      only_sys, only_cw, only_sl, publishOff_only, raiseMode_only, setFld_only, blk_SYS_MODE_ARMED, blk_SYS_MODE_CAUSE, blk_SYS_MODE_MODE,
      blk_SYS_MODE_STEPPED]

theorem endCause_only (d : Dev) (cause : Nat) (hO : Only S e0 d) (h_sys : Part.sys ∈ S) :
    Only S e0 (Dev.endCause d cause) := by
  unfold Dev.endCause
  simp (maxDischargeDepth := 60) only [hO, h_sys, only_refl, only_ite, only_foldl, implies_true, only_sys]

theorem setAx0State_only (d : Dev) (st : Nat) (hO : Only S e0 d) (h_rax : Part.regs .ax ∈ S) (h_sl : Part.sl ∈ S) :
    Only S e0 (Dev.setAx0State d
    st) := by
  unfold Dev.setAx0State
  simp (maxDischargeDepth := 60) only [hO, h_rax, h_sl, only_refl, only_ite, only_foldl, implies_true, only_sl,
      raiseSys_only, setFld_only, blk_AX0_STATUS_STATE]

end Sys2Proof.Machine
end

