-- ==== Sys2Proof/Laws/FrameBerths.lean ====
section
/-! SUPPORT. Which parts of the state the operations of Machine/Berths, Axes, Egress, PinBase may change. -/

namespace Sys2Proof.Machine

open Sys2Proof

set_option linter.unusedSimpArgs false
set_option linter.unusedVariables false
set_option linter.unusedTactic false
set_option linter.unreachableTactic false

variable {S : List Part} {e0 : Dev}

theorem poke_only (d : Dev) (a : Nat) (b : Byte) (hO : Only S e0 d) (h_mem : Part.mem ∈ S) :
    Only S e0 (Dev.poke d a b) := by
  unfold Dev.poke
  simp (maxDischargeDepth := 60) only [hO, h_mem, only_refl, only_ite, only_foldl, implies_true, only_mem]

theorem pokeN_only (d : Dev) (a : Nat) (l : List Byte) (hO : Only S e0 d) (h_mem : Part.mem ∈ S)  :
    Only S e0 (d.pokeN a l) := by
  induction l generalizing d a with
  | nil => exact hO
  | cons b t ih => exact ih _ _ (poke_only _ _ _ hO h_mem)

theorem raiseBerth_only (d : Dev) (event b row word target : Nat) (hO : Only S e0 d) (h_sl : Part.sl ∈ S) :
    Only S e0 (Dev.raiseBerth d event b
    row word target) := by
  unfold Dev.raiseBerth
  simp (maxDischargeDepth := 60) only [hO, h_sl, only_refl, only_ite, only_foldl, implies_true, only_sl, raiseSys_only,
      blk_BH_STAT_BANK, blk_BH_STAT_SPARE_ROWS]

theorem raiseDredger_only (d : Dev) (event b bank row word bit_ background : Nat) (hO : Only S e0 d) (h_sl : Part.sl ∈ S) :
    Only S e0
    (Dev.raiseDredger d event b bank row word bit_ background) := by
  unfold Dev.raiseDredger
  simp (maxDischargeDepth := 60) only [hO, h_sl, only_refl, only_ite, only_foldl, implies_true, only_sl, raiseSys_only]

theorem relocNone_only (d : Dev) (b : Nat) (hO : Only S e0 d) (h_rsys : Part.regs .sys ∈ S) (h_sl : Part.sl ∈ S) :
    Only S e0 (Dev.relocNone d b) := by
  unfold Dev.relocNone
  simp (maxDischargeDepth := 60) only [hO, h_rsys, h_sl, only_refl, only_ite, only_foldl, implies_true, only_sl,
      raiseBerth_only, setFault_only, blk_SYS_FAULT_BERTH_EXHAUSTED]

theorem mirror_only (d : Dev) (b : Nat) (hO : Only S e0 d) (h_rbh : Part.regs .bh ∈ S) :
    Only S e0 (Dev.mirror d b) := by
  unfold Dev.mirror
  simp (maxDischargeDepth := 60) only [hO, h_rbh, only_refl, only_ite, only_foldl, implies_true, setFld_only, blk_BH_STAT_BSTATE]

theorem relocate_only (d : Dev) (b : Nat) (hO : Only S e0 d) (h_rsys : Part.regs .sys ∈ S) (h_rbh : Part.regs .bh ∈ S) (h_rdr : Part.regs .dr ∈ S)
    (h_dr : Part.dr ∈ S) (h_sl : Part.sl ∈ S) :
    Only S e0 (Dev.relocate d b) := by
  unfold Dev.relocate
  (try dsimp only)
  (repeat' split) <;> simp (maxDischargeDepth := 60) only [hO, h_rsys, h_rbh, h_rdr, h_dr, h_sl, only_refl,
      only_ite, only_foldl, implies_true, only_dr, only_sl, mirror_only, raiseBerth_only, relocNone_only, setFld_only, blk_BH_STAT_BSTATE,
      blk_DR_STAT_RELOCATING, blk_DR_STAT_RELOC_SRC]

theorem marchRepeatOver_only (d : Dev) (hO : Only S e0 d) (h_sys : Part.sys ∈ S) :
    Only S e0 (Dev.marchRepeatOver d) := by
  unfold Dev.marchRepeatOver
  simp (maxDischargeDepth := 60) only [hO, h_sys, only_refl, only_ite, only_foldl, implies_true, only_sys, endCause_only]

theorem countUe_only (d : Dev) (w : Nat) (hO : Only S e0 d) (h_rbh : Part.regs .bh ∈ S) (h_sl : Part.sl ∈ S) :
    Only S e0 (Dev.countUe d w) := by
  unfold Dev.countUe
  simp (maxDischargeDepth := 60) only [hO, h_rbh, h_sl, only_refl, only_ite, only_foldl, implies_true, only_sl, count_only,
      raiseBerth_only, setFld_only, blk_BH_ECC_LAST_ROW, blk_BH_ECC_UE_CNT]

theorem countCe_only (d : Dev) (w : Nat) (hO : Only S e0 d) (h_rbh : Part.regs .bh ∈ S) (h_dr : Part.dr ∈ S) (h_sl : Part.sl ∈ S) :
    Only S e0
    (Dev.countCe d w) := by
  unfold Dev.countCe
  simp (maxDischargeDepth := 60) only [hO, h_rbh, h_dr, h_sl, only_refl, only_ite, only_foldl, implies_true, only_dr, only_sl,
      count_only, raiseBerth_only, setFld_only, blk_BH_ECC_CE_CNT, blk_BH_ECC_LAST_ROW]

theorem copyRead_only (d : Dev) (w n : Nat) (hO : Only S e0 d) (h_rbh : Part.regs .bh ∈ S) (h_dr : Part.dr ∈ S) (h_sl : Part.sl ∈ S) :
    Only S e0
    (Dev.copyRead d w n) := by
  unfold Dev.copyRead
  simp (maxDischargeDepth := 60) only [hO, h_rbh, h_dr, h_sl, only_refl, only_ite, only_foldl, implies_true, only_dr, only_sl,
      countCe_only, countUe_only]

theorem relocEnd_only (d : Dev) (hO : Only S e0 d) (h_rsys : Part.regs .sys ∈ S) (h_rbh : Part.regs .bh ∈ S) (h_rdr : Part.regs .dr ∈ S) (h_dr :
    Part.dr ∈ S) (h_sys : Part.sys ∈ S) (h_sl : Part.sl ∈ S) :
    Only S e0 (Dev.relocEnd d) := by
  unfold Dev.relocEnd
  (try dsimp only)
  (repeat' split) <;> simp (maxDischargeDepth := 60) only [hO, h_rsys, h_rbh, h_rdr, h_dr, h_sys, h_sl,
      only_refl, only_ite, only_foldl, implies_true, only_dr, only_sys, only_sl, copyRead_only, marchRepeatOver_only, raiseBerth_only, relocate_only,
      setBit_only, setFld_only, blk_BH_SPARE_SPARE, blk_BH_STAT_BANK, blk_BH_STAT_BSTATE, blk_BH_STAT_SPARE_ROWS, blk_DR_STAT_RELOCATING]

theorem repairRow_only (d : Dev) (b row : Nat) (hO : Only S e0 d) (h_rsys : Part.regs .sys ∈ S) (h_rbh : Part.regs .bh ∈ S) (h_rdr : Part.regs .dr ∈
    S) (h_dr : Part.dr ∈ S) (h_sl : Part.sl ∈ S) :
    Only S e0 (Dev.repairRow d b row) := by
  unfold Dev.repairRow
  simp (maxDischargeDepth := 60) only [hO, h_rsys, h_rbh, h_rdr, h_dr, h_sl, only_refl, only_ite, only_foldl, implies_true,
      only_dr, only_sl, relocNone_only, relocate_only, setFld_only, blk_BH_STAT_BSTATE, blk_BH_STAT_SPARE_ROWS]

theorem useSpareRow_only (d : Dev) (b row : Nat) (hO : Only S e0 d) (h_rbh : Part.regs .bh ∈ S) (h_sl : Part.sl ∈ S) :
    Only S e0 (Dev.useSpareRow
    d b row) := by
  unfold Dev.useSpareRow
  simp (maxDischargeDepth := 60) only [hO, h_rbh, h_sl, only_refl, only_ite, only_foldl, implies_true, only_sl,
      raiseBerth_only, setFld_only, blk_BH_STAT_SPARE_ROWS]

theorem berthUe_only (d : Dev) (w : Nat) (hO : Only S e0 d) (h_rsys : Part.regs .sys ∈ S) (h_rbh : Part.regs .bh ∈ S) (h_rdr : Part.regs .dr ∈ S)
    (h_dr : Part.dr ∈ S) (h_sl : Part.sl ∈ S) :
    Only S e0 (Dev.berthUe d w) := by
  unfold Dev.berthUe
  simp (maxDischargeDepth := 60) only [hO, h_rsys, h_rbh, h_rdr, h_dr, h_sl, only_refl, only_ite, only_foldl, implies_true,
      only_dr, only_sl, countUe_only, repairRow_only]

theorem berthCe_only (d : Dev) (w : Nat) (hO : Only S e0 d) (h_rsys : Part.regs .sys ∈ S) (h_rbh : Part.regs .bh ∈ S) (h_rdr : Part.regs .dr ∈ S)
    (h_dr : Part.dr ∈ S) (h_sl : Part.sl ∈ S) :
    Only S e0 (Dev.berthCe d w) := by
  unfold Dev.berthCe
  simp (maxDischargeDepth := 60) only [hO, h_rsys, h_rbh, h_rdr, h_dr, h_sl, only_refl, only_ite, only_foldl, implies_true,
      only_dr, only_sl, countCe_only, repairRow_only]

theorem putCur_only (d : Dev) (b kind idx : Nat) (hO : Only S e0 d) (h_rbh : Part.regs .bh ∈ S) :
    Only S e0 (Dev.putCur d b kind idx) := by
  unfold Dev.putCur
  simp (maxDischargeDepth := 60) only [hO, h_rbh, only_refl, only_ite, only_foldl, implies_true, setFld_only,
      blk_BH_OWNER_CUR_INDEX, blk_BH_OWNER_CUR_KIND]

theorem setCur_only (d : Dev) (b kind idx : Nat) (hO : Only S e0 d) (h_rbh : Part.regs .bh ∈ S) (h_dr : Part.dr ∈ S) :
    Only S e0 (Dev.setCur d b
    kind idx) := by
  unfold Dev.setCur
  simp (maxDischargeDepth := 60) only [hO, h_rbh, h_dr, only_refl, only_ite, only_foldl, implies_true, only_dr, putCur_only]

theorem setHome_only (d : Dev) (b kind idx : Nat) (hO : Only S e0 d) (h_rbh : Part.regs .bh ∈ S) :
    Only S e0 (Dev.setHome d b kind idx) := by
  unfold Dev.setHome
  simp (maxDischargeDepth := 60) only [hO, h_rbh, only_refl, only_ite, only_foldl, implies_true, setFld_only,
      blk_BH_OWNER_HOME_INDEX, blk_BH_OWNER_HOME_KIND]

theorem startReturn_only (d : Dev) (b : Nat) (hO : Only S e0 d) (h_rbh : Part.regs .bh ∈ S) (h_dr : Part.dr ∈ S) :
    Only S e0 (Dev.startReturn d b) := by
  unfold Dev.startReturn
  (try dsimp only)
  (repeat' split) <;> simp (maxDischargeDepth := 60) only [hO, h_rbh, h_dr, only_refl, only_ite,
      only_foldl, implies_true, only_dr, count_only, setFld_only, blk_BH_STAT_BSTATE, blk_BH_STAT_STALL_CNT]

theorem applyOwner_only (d : Dev) (b v : Nat) (hO : Only S e0 d) (h_rbh : Part.regs .bh ∈ S) (h_dr : Part.dr ∈ S) :
    Only S e0 (Dev.applyOwner d b
    v) := by
  unfold Dev.applyOwner
  simp (maxDischargeDepth := 60) only [hO, h_rbh, h_dr, only_refl, only_ite, only_foldl, implies_true, only_dr, setCur_only,
      setHome_only]

theorem writeOwner_only (d : Dev) (b v : Nat) (hO : Only S e0 d) (h_rbh : Part.regs .bh ∈ S) (h_dr : Part.dr ∈ S) :
    Only S e0 (Dev.writeOwner d b
    v) := by
  unfold Dev.writeOwner
  simp (maxDischargeDepth := 60) only [hO, h_rbh, h_dr, only_refl, only_ite, only_foldl, implies_true, only_dr,
      applyOwner_only, setFld_only, startReturn_only, blk_BH_OWNER_PEND]

theorem handover_only (d : Dev) (c : Cmd) (waited : Bool) (hO : Only S e0 d) (h_rhi : Part.regs .hi ∈ S) (h_rsl : Part.regs .sl ∈ S) (h_rbh :
    Part.regs .bh ∈ S) (h_dr : Part.dr ∈ S) (h_sl : Part.sl ∈ S) (h_hi : Part.hi ∈ S) (h_lg : Part.lg ∈ S) :
    Only S e0 (Dev.handover d c waited) := by
  unfold Dev.handover
  simp (maxDischargeDepth := 60) only [hO, h_rhi, h_rsl, h_rbh, h_dr, h_sl, h_hi, h_lg, only_refl, only_ite, only_foldl,
      implies_true, only_dr, only_sl, only_hi, only_lg, finish_only, setCur_only, setHome_only, blk_BH_OWNER_CUR_INDEX, blk_BH_OWNER_CUR_KIND]

theorem handoverCmd_only (d : Dev) (c : Cmd) (hO : Only S e0 d) (h_rhi : Part.regs .hi ∈ S) (h_rsl : Part.regs .sl ∈ S) (h_rbh : Part.regs .bh ∈ S)
    (h_dr : Part.dr ∈ S) (h_sl : Part.sl ∈ S) (h_hi : Part.hi ∈ S) (h_lg : Part.lg ∈ S) :
    Only S e0 (Dev.handoverCmd d c) := by
  unfold Dev.handoverCmd
  (try dsimp only)
  (repeat' split) <;> simp (maxDischargeDepth := 60) only [hO, h_rhi, h_rsl, h_rbh, h_dr, h_sl, h_hi,
      h_lg, only_refl, only_ite, only_foldl, implies_true, only_dr, only_sl, only_hi, only_lg, finish_only, handover_only, startReturn_only]

theorem flagRise_only (d : Dev) (flag : Nat) (setter : Option (Nat × Nat)) (hO : Only S e0 d) (h_rbh : Part.regs .bh ∈ S) (h_dr : Part.dr ∈ S) :
    Only S e0 (Dev.flagRise d flag setter) := by
  unfold Dev.flagRise
  simp (maxDischargeDepth := 60) only [hO, h_rbh, h_dr, only_refl, only_ite, only_foldl, implies_true, only_dr, count_only,
      setCur_only, setFld_only, blk_BH_OWNER_CUR_INDEX, blk_BH_OWNER_CUR_KIND, blk_BH_XFER_NEXT_INDEX, blk_BH_XFER_NEXT_KIND, blk_BH_XFER_XFER_IGN]

theorem touch_only (d : Dev) (b : Nat) (hO : Only S e0 d) (h_dr : Part.dr ∈ S) :
    Only S e0 (Dev.touch d b) := by
  unfold Dev.touch
  simp (maxDischargeDepth := 60) only [hO, h_dr, only_refl, only_ite, only_foldl, implies_true, only_dr]

theorem findWord_only (d : Dev) (w : Nat) (hO : Only S e0 d) (h_rsys : Part.regs .sys ∈ S) (h_rbh : Part.regs .bh ∈ S) (h_rdr : Part.regs .dr ∈ S)
    (h_dr : Part.dr ∈ S) (h_sl : Part.sl ∈ S) :
    Only S e0 (Dev.findWord d w) := by
  unfold Dev.findWord
  simp (maxDischargeDepth := 60) only [hO, h_rsys, h_rbh, h_rdr, h_dr, h_sl, only_refl, only_ite, only_foldl, implies_true,
      only_dr, only_sl, berthCe_only, berthUe_only]

theorem afterRead_only (d : Dev) (a n : Nat) (hO : Only S e0 d) (h_rsys : Part.regs .sys ∈ S) (h_rbh : Part.regs .bh ∈ S) (h_rdr : Part.regs .dr ∈ S)
    (h_dr : Part.dr ∈ S) (h_sl : Part.sl ∈ S) :
    Only S e0 (Dev.afterRead d a n) := by
  unfold Dev.afterRead
  simp (maxDischargeDepth := 60) only [hO, h_rsys, h_rbh, h_rdr, h_dr, h_sl, only_refl, only_ite, only_foldl, implies_true,
      only_dr, only_sl, findWord_only, touch_only]

theorem berthWrite_only (d : Dev) (a : Nat) (bs : List Byte) (hO : Only S e0 d) (h_mem : Part.mem ∈ S) (h_dr : Part.dr ∈ S)  :
    Only S e0 (d.berthWrite a bs) := by
  exact only_dr (pokeN_only _ _ _ (by simp (maxDischargeDepth := 60) only [only_refl, only_ite, only_foldl, implies_true, only_mem, only_dr, pokeN_only, touch_only, *]) h_mem) h_dr

theorem noteWrite_only (d : Dev) (p1 : Bool) (a n : Nat) (hO : Only S e0 d) (h_dr : Part.dr ∈ S) :
    Only S e0 (Dev.noteWrite d p1 a n) := by
  unfold Dev.noteWrite
  simp (maxDischargeDepth := 60) only [hO, h_dr, only_refl, only_ite, only_foldl, implies_true, only_dr, only_cyc]

theorem portWrite_only (d : Dev) (p1 : Bool) (a : Nat) (bs : List Byte) (hO : Only S e0 d) (h_rbh : Part.regs .bh ∈ S) (h_mem : Part.mem ∈ S) (h_dr :
    Part.dr ∈ S) :
    Only S e0 (Dev.portWrite d p1 a bs).2 := by
  unfold Dev.portWrite
  (try dsimp only)
  (repeat' split) <;> simp (maxDischargeDepth := 60) only [hO, h_rbh, h_mem, h_dr, only_refl, only_ite,
      only_foldl, implies_true, only_mem, only_dr, berthWrite_only, count_only, noteWrite_only, blk_BH_STAT_COLL_CNT]

theorem strike_only (d : Dev) (w : Nat) (ue : Bool) (hO : Only S e0 d) (h_dr : Part.dr ∈ S) :
    Only S e0 (Dev.strike d w ue) := by
  unfold Dev.strike
  simp (maxDischargeDepth := 60) only [hO, h_dr, only_refl, only_ite, only_foldl, implies_true, only_dr]

theorem scrubFind_only (d : Dev) (f : ScrubFind) (hO : Only S e0 d) (h_rme : Part.regs .me ∈ S) (h_rdr : Part.regs .dr ∈ S) (h_dr : Part.dr ∈ S)
    (h_sl : Part.sl ∈ S) :
    Only S e0 (Dev.scrubFind d f) := by
  unfold Dev.scrubFind
  (try dsimp only)
  (repeat' split) <;> simp (maxDischargeDepth := 60) only [hO, h_rme, h_rdr, h_dr, h_sl, only_refl,
      only_ite, only_foldl, implies_true, only_dr, only_sl, count_only, raiseDredger_only, strike_only, warmStale_only, blk_DR_CNT_STORE_CE,
      blk_DR_CNT_STORE_UE, blk_ME_STATUS_LOGICAL, blk_ite]

theorem scrubRead_only (d : Dev) (hO : Only S e0 d) (h_rsys : Part.regs .sys ∈ S) (h_rbh : Part.regs .bh ∈ S) (h_rdr : Part.regs .dr ∈ S) (h_dr :
    Part.dr ∈ S) (h_sl : Part.sl ∈ S) :
    Only S e0 (Dev.scrubRead d) := by
  unfold Dev.scrubRead
  simp (maxDischargeDepth := 60) only [hO, h_rsys, h_rbh, h_rdr, h_dr, h_sl, only_refl, only_ite, only_foldl, implies_true,
      only_dr, only_sl, findWord_only]

theorem scrubTickEff_only (finds : List ScrubFind) (d : Dev) (hO : Only S e0 d) (h_rsys : Part.regs .sys ∈ S) (h_rme : Part.regs .me ∈ S) (h_rbh :
    Part.regs .bh ∈ S) (h_rdr : Part.regs .dr ∈ S) (h_dr : Part.dr ∈ S) (h_sl : Part.sl ∈ S) :
    Only S e0 (scrubTickEff finds d) := by
  unfold scrubTickEff
  simp (maxDischargeDepth := 60) only [hO, h_rsys, h_rme, h_rbh, h_rdr, h_dr, h_sl, only_refl, only_ite, only_foldl,
      implies_true, only_dr, only_sl, scrubFind_only, scrubRead_only]

theorem standIn_only (d : Dev) (b row : Nat) (hO : Only S e0 d) (h_rsys : Part.regs .sys ∈ S) (h_rbh : Part.regs .bh ∈ S) (h_rdr : Part.regs .dr ∈ S)
    (h_dr : Part.dr ∈ S) (h_sl : Part.sl ∈ S) :
    Only S e0 (Dev.standIn d b row) := by
  unfold Dev.standIn
  simp (maxDischargeDepth := 60) only [hO, h_rsys, h_rbh, h_rdr, h_dr, h_sl, only_refl, only_ite, only_foldl, implies_true,
      only_dr, only_sl, relocNone_only, relocate_only]

theorem loanRepair_only (d : Dev) (b row : Nat) (hO : Only S e0 d) (h_rsys : Part.regs .sys ∈ S) (h_rbh : Part.regs .bh ∈ S) (h_rdr : Part.regs .dr ∈
    S) (h_dr : Part.dr ∈ S) (h_sl : Part.sl ∈ S) :
    Only S e0 (Dev.loanRepair d b row) := by
  unfold Dev.loanRepair
  simp (maxDischargeDepth := 60) only [hO, h_rsys, h_rbh, h_rdr, h_dr, h_sl, only_refl, only_ite, only_foldl, implies_true,
      only_dr, only_sl, standIn_only, useSpareRow_only, blk_BH_STAT_SPARE_ROWS]

theorem returnRepair_only (d : Dev) (b row n : Nat) (hO : Only S e0 d) (h_rsys : Part.regs .sys ∈ S) (h_rbh : Part.regs .bh ∈ S) (h_rdr : Part.regs
    .dr ∈ S) (h_dr : Part.dr ∈ S) (h_sl : Part.sl ∈ S) :
    Only S e0 (Dev.returnRepair d b row n) := by
  unfold Dev.returnRepair
  simp (maxDischargeDepth := 60) only [hO, h_rsys, h_rbh, h_rdr, h_dr, h_sl, only_refl, only_ite, only_foldl, implies_true,
      only_dr, only_sl, standIn_only, useSpareRow_only, blk_BH_STAT_SPARE_ROWS]

theorem marchFail_only (d : Dev) (b row : Nat) (f : MarchFail) (hO : Only S e0 d) (h_rsys : Part.regs .sys ∈ S) (h_rbh : Part.regs .bh ∈ S) (h_rdr :
    Part.regs .dr ∈ S) (h_dr : Part.dr ∈ S) (h_sys : Part.sys ∈ S) (h_cw : Part.cw ∈ S) (h_sl : Part.sl ∈ S) :
    Only S e0 (Dev.marchFail d b row f) := by
  unfold Dev.marchFail
  simp (maxDischargeDepth := 60) only [hO, h_rsys, h_rbh, h_rdr, h_dr, h_sys, h_cw, h_sl, only_refl, only_ite, only_foldl,
      implies_true, only_dr, only_sys, only_cw, only_sl, enterSteady_only, raiseDredger_only, relocate_only, blk_BH_STAT_BANK]

theorem loanStartEff_only (b : Nat) (fail : List MarchFail) (d : Dev) (hO : Only S e0 d) (h_rsys : Part.regs .sys ∈ S) (h_rbh : Part.regs .bh ∈ S)
    (h_rdr : Part.regs .dr ∈ S) (h_dr : Part.dr ∈ S) (h_sys : Part.sys ∈ S) (h_cw : Part.cw ∈ S) (h_sl : Part.sl ∈ S) :
    Only S e0 (loanStartEff b
    fail d) := by
  unfold loanStartEff
  simp (maxDischargeDepth := 60) only [hO, h_rsys, h_rbh, h_rdr, h_dr, h_sys, h_cw, h_sl, only_refl, only_ite, only_foldl,
      implies_true, only_dr, only_sys, only_cw, only_sl, copyRead_only, count_only, loanRepair_only, marchFail_only, putCur_only, setFld_only,
      blk_BH_STAT_BSTATE, blk_DR_CNT_MARCH_FAIL, blk_DR_STAT_LOAN_ACTIVE, blk_DR_STAT_LOAN_BERTH, blk_DR_STAT_LOAN_CHUNK]

theorem loanReturnDoneEff_only (badRows : Nat) (d : Dev) (hO : Only S e0 d) (h_rsys : Part.regs .sys ∈ S) (h_rhi : Part.regs .hi ∈ S) (h_rsl :
    Part.regs .sl ∈ S) (h_rbh : Part.regs .bh ∈ S) (h_rdr : Part.regs .dr ∈ S) (h_dr : Part.dr ∈ S) (h_sl : Part.sl ∈ S) (h_hi : Part.hi ∈ S) (h_lg :
    Part.lg ∈ S) :
    Only S e0 (loanReturnDoneEff badRows d) := by
  unfold loanReturnDoneEff
  (try dsimp only)
  (repeat' split) <;> simp (maxDischargeDepth := 60) only [hO, h_rsys, h_rhi, h_rsl, h_rbh, h_rdr,
      h_dr, h_sl, h_hi, h_lg, only_refl, only_ite, only_foldl, implies_true, only_dr, only_sl, only_hi, only_lg, applyOwner_only, handover_only,
      mirror_only, putCur_only, returnRepair_only, setFld_only, blk_BH_OWNER_HOME_INDEX, blk_BH_OWNER_HOME_KIND, blk_BH_OWNER_PEND,
      blk_BH_STAT_BSTATE, blk_DR_PASS_CHUNKS, blk_DR_STAT_LOAN_ACTIVE]

theorem rowRepairDoneEff_only (b : Nat) (d : Dev) (hO : Only S e0 d) (h_rbh : Part.regs .bh ∈ S) (h_dr : Part.dr ∈ S) (h_sl : Part.sl ∈ S) :
    Only
    S e0 (rowRepairDoneEff b d) := by
  unfold rowRepairDoneEff
  (try dsimp only)
  (repeat' split) <;> simp (maxDischargeDepth := 60) only [hO, h_rbh, h_dr, h_sl, only_refl, only_ite,
      only_foldl, implies_true, only_dr, only_sl, copyRead_only, setFld_only, useSpareRow_only, blk_BH_STAT_BSTATE]

theorem relocDoneEff_only (d : Dev) (hO : Only S e0 d) (h_rsys : Part.regs .sys ∈ S) (h_rbh : Part.regs .bh ∈ S) (h_rdr : Part.regs .dr ∈ S) (h_dr :
    Part.dr ∈ S) (h_sys : Part.sys ∈ S) (h_sl : Part.sl ∈ S) :
    Only S e0 (relocDoneEff d) := by
  unfold relocDoneEff
  simp (maxDischargeDepth := 60) only [hO, h_rsys, h_rbh, h_rdr, h_dr, h_sys, h_sl, only_refl, only_ite, only_foldl,
      implies_true, only_dr, only_sys, only_sl, relocEnd_only]

theorem selfTestPassDoneEff_only (d : Dev) (hO : Only S e0 d) (h_dr : Part.dr ∈ S) (h_sys : Part.sys ∈ S) :
    Only S e0 (selfTestPassDoneEff d) := by
  unfold selfTestPassDoneEff
  simp (maxDischargeDepth := 60) only [hO, h_dr, h_sys, only_refl, only_ite, only_foldl, implies_true, only_dr,
      only_sys, marchRepeatOver_only]

theorem berthZeroDoneEff_only (d : Dev) (hO : Only S e0 d) (h_mem : Part.mem ∈ S) (h_dr : Part.dr ∈ S)  :
    Only S e0 (berthZeroDoneEff d) := by
  unfold berthZeroDoneEff
  split
  · intro p hp
    have k := hO p hp
    cases p <;> first | exact absurd ‹_› hp | exact k
  · exact hO

theorem writeReloc_only (d : Dev) (v : Nat) (hO : Only S e0 d) (h_rsys : Part.regs .sys ∈ S) (h_rbh : Part.regs .bh ∈ S) (h_rdr : Part.regs .dr ∈ S)
    (h_dr : Part.dr ∈ S) (h_sl : Part.sl ∈ S) :
    Only S e0 (Dev.writeReloc d v) := by
  unfold Dev.writeReloc
  simp (maxDischargeDepth := 60) only [hO, h_rsys, h_rbh, h_rdr, h_dr, h_sl, only_refl, only_ite, only_foldl, implies_true,
      only_dr, only_sl, relocate_only]

theorem writeSpare_only (d : Dev) (v0 : Nat) (hO : Only S e0 d) (h_rbh : Part.regs .bh ∈ S) :
    Only S e0 (Dev.writeSpare d v0) := by
  unfold Dev.writeSpare
  simp (maxDischargeDepth := 60) only [hO, h_rbh, only_refl, only_ite, only_foldl, implies_true, setFld_only,
      blk_BH_SPARE_SPARE, blk_BH_STAT_BSTATE]

theorem tclk_only (d : Dev) (hO : Only S e0 d) (h_tb : Part.tb ∈ S) :
    Only S e0 (Dev.tclk d) := by
  unfold Dev.tclk
  simp (maxDischargeDepth := 60) only [hO, h_tb, only_refl, only_ite, only_foldl, implies_true, only_tb]

theorem setTrkr_only (d : Dev) (n : Nat) (t : Tracker) (hO : Only S e0 d) (h_trk : Part.trk ∈ S) :
    Only S e0 (Dev.setTrkr d n t) := by
  unfold Dev.setTrkr
  simp (maxDischargeDepth := 60) only [hO, h_trk, only_refl, only_ite, only_foldl, implies_true, only_trk]

theorem setAxis_only (d : Dev) (n : Nat) (a : Axis) (hO : Only S e0 d) (h_axes : Part.axes ∈ S) :
    Only S e0 (Dev.setAxis d n a) := by
  unfold Dev.setAxis
  simp (maxDischargeDepth := 60) only [hO, h_axes, only_refl, only_ite, only_foldl, implies_true, only_axes]

theorem setCwp_only (d : Dev) (p : Nat) (x : CwPort) (hO : Only S e0 d) (h_cw : Part.cw ∈ S) :
    Only S e0 (Dev.setCwp d p x) := by
  unfold Dev.setCwp
  simp (maxDischargeDepth := 60) only [hO, h_cw, only_refl, only_ite, only_foldl, implies_true, only_cw]

theorem cwSend_only (d : Dev) (p : Nat) (f : Frame) (hO : Only S e0 d) (h_cw : Part.cw ∈ S) :
    Only S e0 (Dev.cwSend d p f) := by
  unfold Dev.cwSend
  simp (maxDischargeDepth := 60) only [hO, h_cw, only_refl, only_ite, only_foldl, implies_true, only_cw, setCwp_only]

theorem cwCast_only (d : Dev) (did slot but : Nat) (f : Frame) (hO : Only S e0 d) (h_cw : Part.cw ∈ S) :
    Only S e0 (Dev.cwCast d did slot but f) := by
  unfold Dev.cwCast
  simp (maxDischargeDepth := 60) only [hO, h_cw, only_refl, only_ite, only_foldl, implies_true, only_cw, cwSend_only]

theorem pubTooth_only (d : Dev) (n : Nat) (hO : Only S e0 d) (h_cw : Part.cw ∈ S) :
    Only S e0 (Dev.pubTooth d n) := by
  unfold Dev.pubTooth
  simp (maxDischargeDepth := 60) only [hO, h_cw, only_refl, only_ite, only_foldl, implies_true, only_cw, cwCast_only,
      blk_CW_PUB_AXIS, blk_CW_PUB_EN]

theorem setPne_only (d : Dev) (n : Nat) (x : PinEngine) (hO : Only S e0 d) (h_pn : Part.pn ∈ S) :
    Only S e0 (Dev.setPne d n x) := by
  unfold Dev.setPne
  simp (maxDischargeDepth := 60) only [hO, h_pn, only_refl, only_ite, only_foldl, implies_true, only_pn]

theorem waitxBind_only (d : Dev) (c gen : Nat) (hO : Only S e0 d) (h_pn : Part.pn ∈ S) :
    Only S e0 (Dev.waitxBind d c gen) := by
  unfold Dev.waitxBind
  simp (maxDischargeDepth := 60) only [hO, h_pn, only_refl, only_ite, only_foldl, implies_true, only_pn, setPne_only]

theorem setSf_only (d : Dev) (i : Nat) (b : Bool) (setter : Option (Nat × Nat)) (hO : Only S e0 d) (h_rbh : Part.regs .bh ∈ S) (h_dr : Part.dr ∈ S)
    (h_sf : Part.sf ∈ S) :
    Only S e0 (Dev.setSf d i b setter) := by
  unfold Dev.setSf
  simp (maxDischargeDepth := 60) only [hO, h_rbh, h_dr, h_sf, only_refl, only_ite, only_foldl, implies_true, only_dr, only_sf,
      flagRise_only]

end Sys2Proof.Machine
end

