-- ==== Sys2Proof/Laws/FrameChan.lean ====
section
/-! SUPPORT. Which parts of the state the operations of Machine/Chan, Tracker may change. -/

namespace Sys2Proof.Machine

open Sys2Proof

set_option linter.unusedSimpArgs false
set_option linter.unusedVariables false
set_option linter.unusedTactic false
set_option linter.unreachableTactic false

variable {S : List Part} {e0 : Dev}

theorem setChan_only (d : Dev) (c : Nat) (x : Chan) (hO : Only S e0 d) (h_qy : Part.qy ∈ S) :
    Only S e0 (Dev.setChan d c x) := by
  unfold Dev.setChan
  simp (maxDischargeDepth := 60) only [hO, h_qy, only_refl, only_ite, only_foldl, implies_true, only_qy]

theorem setQuay_only (d : Dev) (q : Nat) (x : Quay) (hO : Only S e0 d) (h_qy : Part.qy ∈ S) :
    Only S e0 (Dev.setQuay d q x) := by
  unfold Dev.setQuay
  simp (maxDischargeDepth := 60) only [hO, h_qy, only_refl, only_ite, only_foldl, implies_true, only_qy]

theorem setPhysQ_only (d : Dev) (p : Nat) (x : PhysQuay) (hO : Only S e0 d) (h_qy : Part.qy ∈ S) :
    Only S e0 (Dev.setPhysQ d p x) := by
  unfold Dev.setPhysQ
  simp (maxDischargeDepth := 60) only [hO, h_qy, only_refl, only_ite, only_foldl, implies_true, only_qy]

theorem setPin_only (d : Dev) (n : Nat) (x : Pin) (hO : Only S e0 d) (h_pins : Part.pins ∈ S) :
    Only S e0 (Dev.setPin d n x) := by
  unfold Dev.setPin
  simp (maxDischargeDepth := 60) only [hO, h_pins, only_refl, only_ite, only_foldl, implies_true, only_pins]

theorem fire_only (d : Dev) (e : Edge) (isEnd done : Bool) (hO : Only S e0 d) (h_sl : Part.sl ∈ S) :
    Only S e0 (Dev.fire d e isEnd done) := by
  unfold Dev.fire
  simp (maxDischargeDepth := 60) only [hO, h_sl, only_refl, only_ite, only_foldl, implies_true, only_sl, raiseRecs_only]

theorem failItem_only (d : Dev) (c : Nat) (i : ChItem) (code : Nat) (queued : Bool) (hO : Only S e0 d) (h_rqy : Part.regs .qy ∈ S) (h_sl : Part.sl ∈
    S) :
    Only S e0 (Dev.failItem d c i code queued) := by
  unfold Dev.failItem
  simp (maxDischargeDepth := 60) only [hO, h_rqy, h_sl, only_refl, only_ite, only_foldl, implies_true, only_sl, count_only,
      raise_only, blk_QY_DIAG_FAIL_UNROUTED, blk_SL_TGT_KIND]

theorem startDrive_only (d : Dev) (c : Nat) (i : ChItem) (hO : Only S e0 d) (h_pins : Part.pins ∈ S) :
    Only S e0 (Dev.startDrive d c i) := by
  unfold Dev.startDrive
  simp (maxDischargeDepth := 60) only [hO, h_pins, only_refl, only_ite, only_foldl, implies_true, only_pins, setPin_only]

theorem disarmDone_only (d : Dev) (w : Disarm) (hO : Only S e0 d) (h_rhi : Part.regs .hi ∈ S) (h_rsl : Part.regs .sl ∈ S) (h_sl : Part.sl ∈ S) (h_hi
    : Part.hi ∈ S) (h_lg : Part.lg ∈ S) :
    Only S e0 (Dev.disarmDone d w) := by
  unfold Dev.disarmDone
  simp (maxDischargeDepth := 60) only [hO, h_rhi, h_rsl, h_sl, h_hi, h_lg, only_refl, only_ite, only_foldl, implies_true,
      only_sl, only_hi, only_lg, finishAt_only]

theorem become_only (d : Dev) (c : Nat) (i : ChItem) (hO : Only S e0 d) (h_qy : Part.qy ∈ S) (h_pins : Part.pins ∈ S) :
    Only S e0 (Dev.become d c
    i) := by
  unfold Dev.become
  simp (maxDischargeDepth := 60) only [hO, h_qy, h_pins, only_refl, only_ite, only_foldl, implies_true, only_qy, only_pins,
      setChan_only, startDrive_only]

theorem settle_only (d : Dev) (c : Nat) (hO : Only S e0 d) (h_rhi : Part.regs .hi ∈ S) (h_rsl : Part.regs .sl ∈ S) (h_qy : Part.qy ∈ S) (h_pins :
    Part.pins ∈ S) (h_sl : Part.sl ∈ S) (h_hi : Part.hi ∈ S) (h_lg : Part.lg ∈ S) :
    Only S e0 (Dev.settle d c) := by
  unfold Dev.settle
  (try dsimp only)
  (repeat' split) <;> simp (maxDischargeDepth := 60) only [hO, h_rhi, h_rsl, h_qy, h_pins, h_sl, h_hi, h_lg,
      only_refl, only_ite, only_foldl, implies_true, only_qy, only_pins, only_sl, only_hi, only_lg, become_only, disarmDone_only, setChan_only]

theorem endItem_only (d : Dev) (c : Nat) (fail : Option Nat) (hO : Only S e0 d) (h_rqy : Part.regs .qy ∈ S) (h_qy : Part.qy ∈ S) (h_sl : Part.sl ∈ S)
    :
    Only S e0 (Dev.endItem d c fail) := by
  unfold Dev.endItem
  (try dsimp only)
  (repeat' split) <;> simp (maxDischargeDepth := 60) only [hO, h_rqy, h_qy, h_sl, only_refl, only_ite,
      only_foldl, implies_true, only_qy, only_sl, failItem_only, setChan_only]

theorem addEdge_only (d : Dev) (e : Edge) (hO : Only S e0 d) (h_rqy : Part.regs .qy ∈ S) (h_qy : Part.qy ∈ S) (h_pn : Part.pn ∈ S) :
    Only S e0
    (Dev.addEdge d e) := by
  unfold Dev.addEdge
  simp (maxDischargeDepth := 60) only [hO, h_rqy, h_qy, h_pn, only_refl, only_ite, only_foldl, implies_true, only_qy, only_pn,
      count_only, setChan_only, setQuay_only, waitxBind_only, blk_QY_LATE_FULL_CNT]

theorem noSlot_only (d : Dev) (c : Nat) (hO : Only S e0 d) (h_qy : Part.qy ∈ S) :
    Only S e0 (Dev.noSlot d c) := by
  unfold Dev.noSlot
  simp (maxDischargeDepth := 60) only [hO, h_qy, only_refl, only_ite, only_foldl, implies_true, only_qy, setChan_only]

theorem commitFirst_only (d : Dev) (c : Nat) (i : ChItem) (hO : Only S e0 d) (h_rhi : Part.regs .hi ∈ S) (h_rsl : Part.regs .sl ∈ S) (h_rqy :
    Part.regs .qy ∈ S) (h_qy : Part.qy ∈ S) (h_pins : Part.pins ∈ S) (h_sl : Part.sl ∈ S) (h_hi : Part.hi ∈ S) (h_lg : Part.lg ∈ S) (h_pn : Part.pn ∈
    S) :
    Only S e0 (Dev.commitFirst d c i) := by
  unfold Dev.commitFirst
  (try dsimp only)
  (repeat' split) <;> simp (maxDischargeDepth := 60) only [hO, h_rhi, h_rsl, h_rqy, h_qy, h_pins, h_sl,
      h_hi, h_lg, h_pn, only_refl, only_ite, only_foldl, implies_true, only_qy, only_pins, only_sl, only_hi, only_lg, only_pn, addEdge_only,
      endItem_only, noSlot_only, setChan_only, settle_only]

theorem commitEnd_only (d : Dev) (c : Nat) (i : ChItem) (hO : Only S e0 d) (h_rqy : Part.regs .qy ∈ S) (h_qy : Part.qy ∈ S) (h_pn : Part.pn ∈ S) :
     Only S e0 (Dev.commitEnd d c i) := by
  unfold Dev.commitEnd
  (try dsimp only)
  (repeat' split) <;> simp (maxDischargeDepth := 60) only [hO, h_rqy, h_qy, h_pn, only_refl, only_ite,
      only_foldl, implies_true, only_qy, only_pn, addEdge_only, noSlot_only, setChan_only]

theorem trainLoad_only (d : Dev) (c : Nat) (i : ChItem) (hO : Only S e0 d) (h_qy : Part.qy ∈ S) :
    Only S e0 (Dev.trainLoad d c i) := by
  unfold Dev.trainLoad
  (try dsimp only)
  (repeat' split) <;> simp (maxDischargeDepth := 60) only [hO, h_qy, only_refl, only_ite, only_foldl,
      implies_true, only_qy, setChan_only]

theorem addPulse_only (d : Dev) (c : Nat) (i : ChItem) (k t : Nat) (late : Bool) (by_ : Nat) (nat : Bool) (hO : Only S e0 d) (h_rqy : Part.regs .qy ∈
    S) (h_qy : Part.qy ∈ S) (h_pn : Part.pn ∈ S) :
    Only S e0 (Dev.addPulse d c i k t late by_ nat) := by
  unfold Dev.addPulse
  simp (maxDischargeDepth := 60) only [hO, h_rqy, h_qy, h_pn, only_refl, only_ite, only_foldl, implies_true, only_qy, only_pn,
      addEdge_only, setChan_only]

theorem completeNow_only (d : Dev) (c : Nat) (i : ChItem) (k : Nat) (hO : Only S e0 d) (h_rhi : Part.regs .hi ∈ S) (h_rsl : Part.regs .sl ∈ S) (h_rqy
    : Part.regs .qy ∈ S) (h_qy : Part.qy ∈ S) (h_pins : Part.pins ∈ S) (h_sl : Part.sl ∈ S) (h_hi : Part.hi ∈ S) (h_lg : Part.lg ∈ S) :
    Only S e0
    (Dev.completeNow d c i k) := by
  unfold Dev.completeNow
  simp (maxDischargeDepth := 60) only [hO, h_rhi, h_rsl, h_rqy, h_qy, h_pins, h_sl, h_hi, h_lg, only_refl, only_ite,
      only_foldl, implies_true, only_qy, only_pins, only_sl, only_hi, only_lg, endItem_only, fire_only, settle_only]

theorem skip_only (d : Dev) (c : Nat) (i : ChItem) (k : Nat) (hO : Only S e0 d) (h_rhi : Part.regs .hi ∈ S) (h_rsl : Part.regs .sl ∈ S) (h_rqy :
    Part.regs .qy ∈ S) (h_qy : Part.qy ∈ S) (h_pins : Part.pins ∈ S) (h_sl : Part.sl ∈ S) (h_hi : Part.hi ∈ S) (h_lg : Part.lg ∈ S) :
    Only S e0
    (Dev.skip d c i k) := by
  unfold Dev.skip
  simp (maxDischargeDepth := 60) only [hO, h_rhi, h_rsl, h_rqy, h_qy, h_pins, h_sl, h_hi, h_lg, only_refl, only_ite, only_foldl,
      implies_true, only_qy, only_pins, only_sl, only_hi, only_lg, completeNow_only, setChan_only]

theorem trainFill_only (d : Dev) (c : Nat) (i : ChItem) (n : Nat) (hO : Only S e0 d) (h_rhi : Part.regs .hi ∈ S) (h_rsl : Part.regs .sl ∈ S) (h_rqy : Part.regs .qy ∈ S) (h_qy : Part.qy ∈ S) (h_pins : Part.pins ∈ S) (h_sl : Part.sl ∈ S) (h_hi : Part.hi ∈ S) (h_lg : Part.lg ∈ S) (h_pn : Part.pn ∈ S)  :
    Only S e0 (d.trainFill c i n) := by
  induction n generalizing d with
  | zero => exact hO
  | succ n ih =>
    unfold Dev.trainFill
    dsimp only
    repeat' split
    all_goals first
      | exact hO
      | (apply ih; simp (maxDischargeDepth := 60) only [only_refl, only_ite, only_foldl, implies_true, only_qy, only_pins, only_sl, only_hi, only_lg, only_pn, addPulse_only, setChan_only, skip_only, *]; done)
      | (apply ih; apply addPulse_only <;> first | assumption | (split <;> simp (maxDischargeDepth := 60) only [only_refl, only_ite, only_foldl, implies_true, only_qy, only_pins, only_sl, only_hi, only_lg, only_pn, addPulse_only, setChan_only, skip_only, *]))

theorem visitTrain_only (d0 : Dev) (c : Nat) (i : ChItem) (hO : Only S e0 d0) (h_rhi : Part.regs .hi ∈ S) (h_rsl : Part.regs .sl ∈ S) (h_rqy :
    Part.regs .qy ∈ S) (h_qy : Part.qy ∈ S) (h_pins : Part.pins ∈ S) (h_sl : Part.sl ∈ S) (h_hi : Part.hi ∈ S) (h_lg : Part.lg ∈ S) (h_pn : Part.pn ∈
    S) :
    Only S e0 (Dev.visitTrain d0 c i) := by
  unfold Dev.visitTrain
  (try dsimp only)
  (repeat' split) <;> simp (maxDischargeDepth := 60) only [hO, h_rhi, h_rsl, h_rqy, h_qy, h_pins, h_sl,
      h_hi, h_lg, h_pn, only_refl, only_ite, only_foldl, implies_true, only_qy, only_pins, only_sl, only_hi, only_lg, only_pn, addPulse_only,
      completeNow_only, endItem_only, noSlot_only, settle_only, trainFill_only, trainLoad_only]

theorem visitDivide_only (d : Dev) (c : Nat) (i : ChItem) (hO : Only S e0 d) (h_rhi : Part.regs .hi ∈ S) (h_rsl : Part.regs .sl ∈ S) (h_rqy :
    Part.regs .qy ∈ S) (h_qy : Part.qy ∈ S) (h_pins : Part.pins ∈ S) (h_sl : Part.sl ∈ S) (h_hi : Part.hi ∈ S) (h_lg : Part.lg ∈ S) (h_pn : Part.pn ∈
    S) :
    Only S e0 (Dev.visitDivide d c i) := by
  unfold Dev.visitDivide
  (try dsimp only)
  (repeat' split) <;> simp (maxDischargeDepth := 60) only [hO, h_rhi, h_rsl, h_rqy, h_qy, h_pins, h_sl,
      h_hi, h_lg, h_pn, only_refl, only_ite, only_foldl, implies_true, only_qy, only_pins, only_sl, only_hi, only_lg, only_pn, addEdge_only,
      completeNow_only, endItem_only, noSlot_only, setChan_only, settle_only, skip_only]

theorem visitTails_only (d : Dev) (c : Nat) (hO : Only S e0 d) (h_rqy : Part.regs .qy ∈ S) (h_qy : Part.qy ∈ S) (h_pn : Part.pn ∈ S)  :
    Only S e0 (d.visitTails c) := by
  unfold Dev.visitTails
  apply only_foldl _ hO
  intro x a
  ((try dsimp only); (repeat' split) <;> (try simp (maxDischargeDepth := 60) only [only_refl, only_ite, only_foldl, implies_true, only_qy, only_pn, addEdge_only, noSlot_only, setChan_only, *]))

theorem jumpAxis_only (d : Dev) (n o v : Nat) (hO : Only S e0 d) (h_qy : Part.qy ∈ S)  :
    Only S e0 (d.jumpAxis n o v).1 := by
  unfold Dev.jumpAxis
  apply only_foldl2 _ hO
  intro x a
  ((try dsimp only); (repeat' split) <;> (try simp (maxDischargeDepth := 60) only [only_refl, only_ite, only_foldl, implies_true, only_qy, setChan_only, *]))

theorem axPulse_only (d : Dev) (n : Nat) (t : Int) (backward : Bool) (hO : Only S e0 d) (h_axes : Part.axes ∈ S) (h_qy : Part.qy ∈ S) (h_cw : Part.cw
    ∈ S) :
    Only S e0 (Dev.axPulse d n t backward) := by
  unfold Dev.axPulse
  simp (maxDischargeDepth := 60) only [hO, h_axes, h_qy, h_cw, only_refl, only_ite, only_foldl, implies_true, only_axes,
      only_qy, only_cw, jumpAxis_only, pubTooth_only, setAxis_only, blk_AX_CFG_DIR_EN, blk_AX_CFG_DMODE]

theorem divideTick_only (d : Dev) (c t : Nat) (hO : Only S e0 d) (h_axes : Part.axes ∈ S) (h_qy : Part.qy ∈ S) (h_cw : Part.cw ∈ S) :
    Only S e0
    (Dev.divideTick d c t) := by
  unfold Dev.divideTick
  simp (maxDischargeDepth := 60) only [hO, h_axes, h_qy, h_cw, only_refl, only_ite, only_foldl, implies_true, only_axes,
      only_qy, only_cw, axPulse_only, blk_AX_CFG_SRC]

theorem capture_only (d : Dev) (c : Nat) (i : ChItem) (e : InEdge) (prog : Nat) (hO : Only S e0 d) (h_rqy : Part.regs .qy ∈ S) (h_rbh : Part.regs .bh ∈ S) (h_mem : Part.mem ∈ S) (h_qy : Part.qy ∈ S) (h_dr : Part.dr ∈ S) (h_sl : Part.sl ∈ S)  :
    Only S e0 (d.capture c i e prog) := by
  unfold Dev.capture
  dsimp only
  apply raiseRecs_only _ _ _ _ _ h_sl
  apply setChan_only _ _ _ _ h_qy
  split
  · split
    · simp (maxDischargeDepth := 60) only [only_refl, only_ite, only_foldl, implies_true, only_mem, only_qy, only_dr, only_sl, berthWrite_only, count_only, portWrite_only, raiseRecs_only, setChan_only, blk_QY_DIAG_RING_COLL, blk_QY_DIAG_RING_LOST, *]
    · split
      · rename_i x h; exact only_snd (portWrite_only _ _ _ _ hO h_rbh h_mem h_dr) h
      · rename_i x h
        have k := only_snd (portWrite_only _ _ _ _ hO h_rbh h_mem h_dr) h
        simp (maxDischargeDepth := 60) only [only_refl, only_ite, only_foldl, implies_true, only_mem, only_qy, only_dr, only_sl, berthWrite_only, count_only, portWrite_only, raiseRecs_only, setChan_only, blk_QY_DIAG_RING_COLL, blk_QY_DIAG_RING_LOST, *]
  · exact hO

theorem measured_only (d : Dev) (c : Nat) (i : ChItem) (time width period : Nat) (timeout : Bool) (hO : Only S e0 d) (h_qy : Part.qy ∈ S) (h_sl :
    Part.sl ∈ S) :
    Only S e0 (Dev.measured d c i time width period timeout) := by
  unfold Dev.measured
  simp (maxDischargeDepth := 60) only [hO, h_qy, h_sl, only_refl, only_ite, only_foldl, implies_true, only_qy, only_sl,
      raiseRecs_only, setChan_only]

theorem takeInput_only (d : Dev) (c : Nat) (i : ChItem) (taken : Bool) (e : InEdge) (hO : Only S e0 d) (h_rhi : Part.regs .hi ∈ S) (h_rsl : Part.regs
    .sl ∈ S) (h_rqy : Part.regs .qy ∈ S) (h_rbh : Part.regs .bh ∈ S) (h_mem : Part.mem ∈ S) (h_axes : Part.axes ∈ S) (h_qy : Part.qy ∈ S) (h_pins :
    Part.pins ∈ S) (h_dr : Part.dr ∈ S) (h_cw : Part.cw ∈ S) (h_sl : Part.sl ∈ S) (h_hi : Part.hi ∈ S) (h_lg : Part.lg ∈ S) :
    Only S e0
    (Dev.takeInput d c i taken e).1 := by
  unfold Dev.takeInput
  (try dsimp only)
  (repeat' split) <;> simp (maxDischargeDepth := 60) only [hO, h_rhi, h_rsl, h_rqy, h_rbh, h_mem, h_axes,
      h_qy, h_pins, h_dr, h_cw, h_sl, h_hi, h_lg, only_refl, only_ite, only_foldl, implies_true, only_mem, only_axes, only_qy, only_pins, only_dr,
      only_cw, only_sl, only_hi, only_lg, capture_only, divideTick_only, endItem_only, fire_only, measured_only, setChan_only, settle_only]

theorem takeEnded_only (d : Dev) (c : Nat) (x : Ended) (taken : Bool) (e : InEdge) (hO : Only S e0 d) (h_rqy : Part.regs .qy ∈ S) (h_rbh : Part.regs
    .bh ∈ S) (h_mem : Part.mem ∈ S) (h_qy : Part.qy ∈ S) (h_dr : Part.dr ∈ S) (h_sl : Part.sl ∈ S) :
    Only S e0 (Dev.takeEnded d c x taken e).1 := by
  unfold Dev.takeEnded
  (try dsimp only)
  (repeat' split) <;> simp (maxDischargeDepth := 60) only [hO, h_rqy, h_rbh, h_mem, h_qy, h_dr, h_sl,
      only_refl, only_ite, only_foldl, implies_true, only_mem, only_qy, only_dr, only_sl, capture_only, setChan_only]

theorem takeInputs_only (d : Dev) (c : Nat) (hO : Only S e0 d) (h_rhi : Part.regs .hi ∈ S) (h_rsl : Part.regs .sl ∈ S) (h_rqy : Part.regs .qy ∈ S) (h_rbh : Part.regs .bh ∈ S) (h_mem : Part.mem ∈ S) (h_axes : Part.axes ∈ S) (h_qy : Part.qy ∈ S) (h_pins : Part.pins ∈ S) (h_dr : Part.dr ∈ S) (h_cw : Part.cw ∈ S) (h_sl : Part.sl ∈ S) (h_hi : Part.hi ∈ S) (h_lg : Part.lg ∈ S)  :
    Only S e0 (d.takeInputs c) := by
  unfold Dev.takeInputs
  apply only_foldl2
  · intro x a
    ((try dsimp only); (repeat' split) <;> (try simp (maxDischargeDepth := 60) only [only_refl, only_ite, only_foldl, implies_true, only_mem, only_axes, only_qy, only_pins, only_dr, only_cw, only_sl, only_hi, only_lg, setChan_only, takeEnded_only, takeInput_only, *]))
  · simp (maxDischargeDepth := 60) only [only_refl, only_ite, only_foldl, implies_true, only_mem, only_axes, only_qy, only_pins, only_dr, only_cw, only_sl, only_hi, only_lg, setChan_only, takeEnded_only, takeInput_only, *]

theorem visitGate_only (d : Dev) (c : Nat) (i : ChItem) (hO : Only S e0 d) (h_rqy : Part.regs .qy ∈ S) (h_qy : Part.qy ∈ S) (h_sl : Part.sl ∈ S)
    (h_pn : Part.pn ∈ S) :
    Only S e0 (Dev.visitGate d c i) := by
  unfold Dev.visitGate
  (try dsimp only)
  (repeat' split) <;> simp (maxDischargeDepth := 60) only [hO, h_rqy, h_qy, h_sl, h_pn, only_refl,
      only_ite, only_foldl, implies_true, only_qy, only_sl, only_pn, addEdge_only, fire_only, noSlot_only, setChan_only]

theorem closeNow_only (d : Dev) (c : Nat) (i : ChItem) (done : Bool) (hO : Only S e0 d) (h_rqy : Part.regs .qy ∈ S) (h_qy : Part.qy ∈ S) (h_pn :
    Part.pn ∈ S) :
    Only S e0 (Dev.closeNow d c i done) := by
  unfold Dev.closeNow
  simp (maxDischargeDepth := 60) only [hO, h_rqy, h_qy, h_pn, only_refl, only_ite, only_foldl, implies_true, only_qy, only_pn,
      addEdge_only]

theorem placeOwed_only (d : Dev) (c : Nat) (hO : Only S e0 d) (h_rqy : Part.regs .qy ∈ S) (h_qy : Part.qy ∈ S) (h_pn : Part.pn ∈ S) :
    Only S e0
    (Dev.placeOwed d c) := by
  unfold Dev.placeOwed
  (try dsimp only)
  (repeat' split) <;> simp (maxDischargeDepth := 60) only [hO, h_rqy, h_qy, h_pn, only_refl, only_ite,
      only_foldl, implies_true, only_qy, only_pn, closeNow_only, setChan_only]

theorem visitItem_only (d : Dev) (c : Nat) (i : ChItem) (hO : Only S e0 d) (h_rhi : Part.regs .hi ∈ S) (h_rsl : Part.regs .sl ∈ S) (h_rqy : Part.regs
    .qy ∈ S) (h_qy : Part.qy ∈ S) (h_pins : Part.pins ∈ S) (h_sl : Part.sl ∈ S) (h_hi : Part.hi ∈ S) (h_lg : Part.lg ∈ S) (h_pn : Part.pn ∈ S) :
    Only S e0 (Dev.visitItem d c i) := by
  unfold Dev.visitItem
  (try dsimp only)
  (repeat' split) <;> simp (maxDischargeDepth := 60) only [hO, h_rhi, h_rsl, h_rqy, h_qy, h_pins, h_sl,
      h_hi, h_lg, h_pn, only_refl, only_ite, only_foldl, implies_true, only_qy, only_pins, only_sl, only_hi, only_lg, only_pn, commitEnd_only,
      commitFirst_only, endItem_only, fire_only, settle_only, visitDivide_only, visitTrain_only]

theorem scanRound_only (d : Dev) (c : Nat) (hO : Only S e0 d) (h_qy : Part.qy ∈ S) :
    Only S e0 (Dev.scanRound d c) := by
  unfold Dev.scanRound
  simp (maxDischargeDepth := 60) only [hO, h_qy, only_refl, only_ite, only_foldl, implies_true, only_qy, setQuay_only]

theorem scanRoundEnd_only (d : Dev) (c : Nat) (hO : Only S e0 d) (h_qy : Part.qy ∈ S) :
    Only S e0 (Dev.scanRoundEnd d c) := by
  unfold Dev.scanRoundEnd
  simp (maxDischargeDepth := 60) only [hO, h_qy, only_refl, only_ite, only_foldl, implies_true, only_qy, setQuay_only]

theorem seeGate_only (d : Dev) (c : Nat) (hO : Only S e0 d) (h_qy : Part.qy ∈ S) :
    Only S e0 (Dev.seeGate d c) := by
  unfold Dev.seeGate
  (try dsimp only)
  (repeat' split) <;> simp (maxDischargeDepth := 60) only [hO, h_qy, only_refl, only_ite, only_foldl,
      implies_true, only_qy, setChan_only]

theorem visit_only (d : Dev) (c : Nat) (hO : Only S e0 d) (h_rhi : Part.regs .hi ∈ S) (h_rsl : Part.regs .sl ∈ S) (h_rqy : Part.regs .qy ∈ S) (h_rbh
    : Part.regs .bh ∈ S) (h_mem : Part.mem ∈ S) (h_axes : Part.axes ∈ S) (h_qy : Part.qy ∈ S) (h_pins : Part.pins ∈ S) (h_dr : Part.dr ∈ S) (h_cw :
    Part.cw ∈ S) (h_sl : Part.sl ∈ S) (h_hi : Part.hi ∈ S) (h_lg : Part.lg ∈ S) (h_pn : Part.pn ∈ S) :
    Only S e0 (Dev.visit d c) := by
  unfold Dev.visit
  (try dsimp only)
  (repeat' split) <;> simp (maxDischargeDepth := 60) only [hO, h_rhi, h_rsl, h_rqy, h_rbh, h_mem, h_axes, h_qy,
      h_pins, h_dr, h_cw, h_sl, h_hi, h_lg, h_pn, only_refl, only_ite, only_foldl, implies_true, only_mem, only_axes, only_qy, only_pins, only_dr,
      only_cw, only_sl, only_hi, only_lg, only_pn, placeOwed_only, scanRound_only, scanRoundEnd_only, seeGate_only, setChan_only, settle_only,
      takeInputs_only, visitGate_only, visitItem_only, visitTails_only]

theorem markFin_only (d : Dev) (c : Nat) (i : ChItem) (hO : Only S e0 d) (h_qy : Part.qy ∈ S) (h_sl : Part.sl ∈ S) :
    Only S e0 (Dev.markFin d c i) := by
  unfold Dev.markFin
  simp (maxDischargeDepth := 60) only [hO, h_qy, h_sl, only_refl, only_ite, only_foldl, implies_true, only_qy, only_sl,
      fire_only, setQuay_only]

theorem armDo_only (d : Dev) (c : Nat) (body : ChItem) (hO : Only S e0 d) (h_rsys : Part.regs .sys ∈ S) (h_rhi : Part.regs .hi ∈ S) (h_rsl : Part.regs .sl ∈ S) (h_rqy : Part.regs .qy ∈ S) (h_qy : Part.qy ∈ S) (h_pins : Part.pins ∈ S) (h_sl : Part.sl ∈ S) (h_hi : Part.hi ∈ S) (h_lg : Part.lg ∈ S) (h_pn : Part.pn ∈ S)  :
    Only S e0 (d.armDo c body) := by
  unfold Dev.armDo
  dsimp only
  have hq : ∀ x : Dev, ∀ i : ChItem, Only S e0 x → Only S e0 (let e1 := match (x.chan c).queued with | some old => x.failItem c old 2 true | none => x
    e1.setChan c { e1.chan c with queued := some i }) := by
    intro x i hx
    dsimp only
    apply setChan_only _ _ _ _ h_qy
    split <;> simp (maxDischargeDepth := 60) only [only_refl, only_ite, only_foldl, implies_true, only_qy, only_pins, only_sl, only_hi, only_lg, only_pn, become_only, endItem_only, failItem_only, markFin_only, setChan_only, setFld_only, trainFill_only, blk_SYS_MODE_ARMED, *]
  have h1 : ∀ y : ChItem, Only S e0 ((d.setChan c { d.chan c with gen := y.gen }).setFld SYS_MODE.ARMED 1) := fun y => by simp (maxDischargeDepth := 60) only [only_refl, only_ite, only_foldl, implies_true, only_qy, only_pins, only_sl, only_hi, only_lg, only_pn, become_only, endItem_only, failItem_only, markFin_only, setChan_only, setFld_only, trainFill_only, blk_SYS_MODE_ARMED, *]
  repeat' split
  all_goals first
    | exact hq _ _ (h1 _)
    | (apply hq; exact h1 { body with gen := nextGen (d.chan c).gen })
    | simp (maxDischargeDepth := 60) only [only_refl, only_ite, only_foldl, implies_true, only_qy, only_pins, only_sl, only_hi, only_lg, only_pn, become_only, endItem_only, failItem_only, markFin_only, setChan_only, setFld_only, trainFill_only, blk_SYS_MODE_ARMED, *]

theorem arm_only (d : Dev) (c : Nat) (body : ChItem) (hO : Only S e0 d) (h_rsys : Part.regs .sys ∈ S) (h_rhi : Part.regs .hi ∈ S) (h_rsl : Part.regs
    .sl ∈ S) (h_rqy : Part.regs .qy ∈ S) (h_qy : Part.qy ∈ S) (h_pins : Part.pins ∈ S) (h_sl : Part.sl ∈ S) (h_hi : Part.hi ∈ S) (h_lg : Part.lg ∈ S)
    (h_pn : Part.pn ∈ S) :
    Only S e0 (Dev.arm d c body).2 := by
  unfold Dev.arm
  (try dsimp only)
  (repeat' split) <;> simp (maxDischargeDepth := 60) only [hO, h_rsys, h_rhi, h_rsl, h_rqy, h_qy, h_pins, h_sl,
      h_hi, h_lg, h_pn, only_refl, only_ite, only_foldl, implies_true, only_qy, only_pins, only_sl, only_hi, only_lg, only_pn, armDo_only]

theorem update_only (d : Dev) (c : Nat) (body : ChItem) (fields : Nat) (hO : Only S e0 d) (h_qy : Part.qy ∈ S) :
    Only S e0 (Dev.update d c body
    fields).2 := by
  unfold Dev.update
  (try dsimp only)
  (repeat' split) <;> simp (maxDischargeDepth := 60) only [hO, h_qy, only_refl, only_ite, only_foldl,
      implies_true, only_qy, setChan_only]

theorem disarmCur_only (d : Dev) (c : Nat) (i : ChItem) (trunc : Bool) (hO : Only S e0 d) (h_rhi : Part.regs .hi ∈ S) (h_rsl : Part.regs .sl ∈ S) (h_rqy : Part.regs .qy ∈ S) (h_qy : Part.qy ∈ S) (h_pins : Part.pins ∈ S) (h_sl : Part.sl ∈ S) (h_hi : Part.hi ∈ S) (h_lg : Part.lg ∈ S) (h_pn : Part.pn ∈ S)  :
    Only S e0 (d.disarmCur c i trunc).1 := by
  unfold Dev.disarmCur
  dsimp only
  repeat' split
  all_goals first
    | simp (maxDischargeDepth := 60) only [only_refl, only_ite, only_foldl, implies_true, only_qy, only_pins, only_sl, only_hi, only_lg, only_pn, closeNow_only, endItem_only, fire_only, setChan_only, trainFill_only, *]
    | ((repeat' split) <;> simp (maxDischargeDepth := 60) only [only_refl, only_ite, only_foldl, implies_true, only_qy, only_pins, only_sl, only_hi, only_lg, only_pn, closeNow_only, endItem_only, fire_only, setChan_only, trainFill_only, *])

theorem disarm_only (d : Dev) (c : Nat) (trunc : Bool) (hO : Only S e0 d) (h_rhi : Part.regs .hi ∈ S) (h_rsl : Part.regs .sl ∈ S) (h_rqy : Part.regs
    .qy ∈ S) (h_qy : Part.qy ∈ S) (h_pins : Part.pins ∈ S) (h_sl : Part.sl ∈ S) (h_hi : Part.hi ∈ S) (h_lg : Part.lg ∈ S) (h_pn : Part.pn ∈ S) :
    Only S e0 (Dev.disarm d c trunc).1 := by
  unfold Dev.disarm
  (try dsimp only)
  (repeat' split) <;> simp (maxDischargeDepth := 60) only [hO, h_rhi, h_rsl, h_rqy, h_qy, h_pins, h_sl, h_hi,
      h_lg, h_pn, only_refl, only_ite, only_foldl, implies_true, only_qy, only_pins, only_sl, only_hi, only_lg, only_pn, disarmCur_only,
      failItem_only, setChan_only, settle_only]

theorem disarmAny_only (d : Dev) (c : Nat) (trunc : Bool) (hO : Only S e0 d) (h_rhi : Part.regs .hi ∈ S) (h_rsl : Part.regs .sl ∈ S) (h_rqy :
    Part.regs .qy ∈ S) (h_qy : Part.qy ∈ S) (h_pins : Part.pins ∈ S) (h_sl : Part.sl ∈ S) (h_hi : Part.hi ∈ S) (h_lg : Part.lg ∈ S) (h_pn : Part.pn ∈
    S) :
    Only S e0 (Dev.disarmAny d c trunc).1 := by
  unfold Dev.disarmAny
  (try dsimp only)
  (repeat' split) <;> simp (maxDischargeDepth := 60) only [hO, h_rhi, h_rsl, h_rqy, h_qy, h_pins, h_sl,
      h_hi, h_lg, h_pn, only_refl, only_ite, only_foldl, implies_true, only_qy, only_pins, only_sl, only_hi, only_lg, only_pn, disarm_only,
      endItem_only, failItem_only, setChan_only, settle_only]

theorem cutOff_only (d : Dev) (c : Nat) (i : ChItem) (code : Nat) (hO : Only S e0 d) (h_rhi : Part.regs .hi ∈ S) (h_rsl : Part.regs .sl ∈ S) (h_rqy : Part.regs .qy ∈ S) (h_qy : Part.qy ∈ S) (h_pins : Part.pins ∈ S) (h_sl : Part.sl ∈ S) (h_hi : Part.hi ∈ S) (h_lg : Part.lg ∈ S) (h_pn : Part.pn ∈ S)  :
    Only S e0 (d.cutOff c i code) := by
  unfold Dev.cutOff
  dsimp only
  repeat' split
  all_goals simp (maxDischargeDepth := 60) only [only_refl, only_ite, only_foldl, implies_true, only_qy, only_pins, only_sl, only_hi, only_lg, only_pn, endItem_only, setChan_only, settle_only, trainFill_only, *]

theorem reverseAxis_only (d : Dev) (n : Nat) (hO : Only S e0 d) (h_rhi : Part.regs .hi ∈ S) (h_rsl : Part.regs .sl ∈ S) (h_rqy : Part.regs .qy ∈ S) (h_qy : Part.qy ∈ S) (h_pins : Part.pins ∈ S) (h_sl : Part.sl ∈ S) (h_hi : Part.hi ∈ S) (h_lg : Part.lg ∈ S) (h_pn : Part.pn ∈ S)  :
    Only S e0 (d.reverseAxis n) := by
  unfold Dev.reverseAxis
  apply only_foldl _ hO
  intro x a
  dsimp only
  repeat' split
  all_goals simp (maxDischargeDepth := 60) only [only_refl, only_ite, only_foldl, implies_true, only_qy, only_pins, only_sl, only_hi, only_lg, only_pn, cutOff_only, setChan_only, trainFill_only, *]

theorem forwardAxis_only (d : Dev) (n : Nat) (hO : Only S e0 d) (h_qy : Part.qy ∈ S)  :
    Only S e0 (d.forwardAxis n) := by
  unfold Dev.forwardAxis
  apply only_foldl _ hO
  intro x a
  dsimp only
  repeat' split
  all_goals simp (maxDischargeDepth := 60) only [only_refl, only_ite, only_foldl, implies_true, only_qy, setChan_only, *]

theorem measureTimeoutEff_only (c : Nat) (d : Dev) (hO : Only S e0 d) (h_qy : Part.qy ∈ S) (h_sl : Part.sl ∈ S) :
    Only S e0 (measureTimeoutEff c
    d) := by
  unfold measureTimeoutEff
  (try dsimp only)
  (repeat' split) <;> simp (maxDischargeDepth := 60) only [hO, h_qy, h_sl, only_refl, only_ite,
      only_foldl, implies_true, only_qy, only_sl, measured_only, setChan_only]

theorem raiseTrkAt_only (d : Dev) (n k v : Nat) (corr : Int) (hO : Only S e0 d) (h_sl : Part.sl ∈ S) :
    Only S e0 (Dev.raiseTrkAt d n k v corr) := by
  unfold Dev.raiseTrkAt
  simp (maxDischargeDepth := 60) only [hO, h_sl, only_refl, only_ite, only_foldl, implies_true, only_sl, raise_only,
      blk_WT_STATUS_STALL]

theorem raiseTrk_only (d : Dev) (n k : Nat) (corr : Int) (hO : Only S e0 d) (h_sl : Part.sl ∈ S) :
    Only S e0 (Dev.raiseTrk d n k corr) := by
  unfold Dev.raiseTrk
  simp (maxDischargeDepth := 60) only [hO, h_sl, only_refl, only_ite, only_foldl, implies_true, only_sl, raiseTrkAt_only]

theorem wtJump_only (d : Dev) (n old : Nat) (hO : Only S e0 d) (h_qy : Part.qy ∈ S) (h_sl : Part.sl ∈ S)  :
    Only S e0 (d.wtJump n old) := by
  unfold Dev.wtJump
  dsimp only
  split
  · exact hO
  · have k : ∀ (l : List Nat) (a : Dev × Option Nat), Only S e0 a.1 → Only S e0 (l.foldl (fun (acc : Dev × Option Nat) a =>
      match acc.1.jumpAxis a old (d.wtHere n) with
      | (x, l) => (x, match l with | some y => some (max (acc.2.getD 0) y) | none => acc.2)) a).1 := by
      intro l a ha
      apply only_foldl2 _ ha
      intro x b
      exact jumpAxis_only (e0 := x.1) (S := S) x.1 b old (d.wtHere n) (only_refl _ _) h_qy
    have k2 := k (d.wtAxes n) (d, none) hO
    revert k2
    generalize List.foldl _ (d, none) (d.wtAxes n) = z
    intro k2
    split <;> simp (maxDischargeDepth := 60) only [only_refl, only_ite, only_foldl, implies_true, only_qy, only_sl, jumpAxis_only, raiseTrkAt_only, *]

theorem wtSnap_only (d : Dev) (n : Nat) (hO : Only S e0 d) (h_trk : Part.trk ∈ S) :
    Only S e0 (Dev.wtSnap d n) := by
  unfold Dev.wtSnap
  simp (maxDischargeDepth := 60) only [hO, h_trk, only_refl, only_ite, only_foldl, implies_true, only_trk, setTrkr_only]

theorem wtRevolution_only (d : Dev) (n : Nat) (hO : Only S e0 d) (h_sl : Part.sl ∈ S) :
    Only S e0 (Dev.wtRevolution d n) := by
  unfold Dev.wtRevolution
  simp (maxDischargeDepth := 60) only [hO, h_sl, only_refl, only_ite, only_foldl, implies_true, only_sl, raiseTrkAt_only]

theorem wtSnapConfirm_only (d : Dev) (n : Nat) (hO : Only S e0 d) (h_trk : Part.trk ∈ S) (h_sl : Part.sl ∈ S) :
    Only S e0 (Dev.wtSnapConfirm d n) := by
  unfold Dev.wtSnapConfirm
  simp (maxDischargeDepth := 60) only [hO, h_trk, h_sl, only_refl, only_ite, only_foldl, implies_true, only_trk, only_sl,
      wtRevolution_only, wtSnap_only]

theorem wtFloor_only (d : Dev) (n : Nat) (hO : Only S e0 d) (h_trk : Part.trk ∈ S) :
    Only S e0 (Dev.wtFloor d n) := by
  unfold Dev.wtFloor
  simp (maxDischargeDepth := 60) only [hO, h_trk, only_refl, only_ite, only_foldl, implies_true, only_trk, setTrkr_only]

theorem wtReseek_only (d : Dev) (n : Nat) (hO : Only S e0 d) (h_rwt : Part.regs .wt ∈ S) (h_trk : Part.trk ∈ S) :
    Only S e0 (Dev.wtReseek d n) := by
  unfold Dev.wtReseek
  simp (maxDischargeDepth := 60) only [hO, h_rwt, h_trk, only_refl, only_ite, only_foldl, implies_true, only_trk, setFld_only,
      setTrkr_only, blk_WT_STATUS_STATE]

theorem wtDrop_only (d : Dev) (n : Nat) (hO : Only S e0 d) (h_rwt : Part.regs .wt ∈ S) (h_trk : Part.trk ∈ S) (h_sl : Part.sl ∈ S) :
    Only S e0
    (Dev.wtDrop d n) := by
  unfold Dev.wtDrop
  simp (maxDischargeDepth := 60) only [hO, h_rwt, h_trk, h_sl, only_refl, only_ite, only_foldl, implies_true, only_trk, only_sl,
      count_only, raiseTrk_only, setFld_only, setTrkr_only, wtReseek_only, blk_WT_STATUS_LOSS_CNT, blk_WT_STATUS_STALL, blk_WT_STATUS_STATE]

theorem wtLimpSeek_only (d : Dev) (n : Nat) (hO : Only S e0 d) (h_rwt : Part.regs .wt ∈ S) (h_trk : Part.trk ∈ S) (h_sl : Part.sl ∈ S) :
    Only S
    e0 (Dev.wtLimpSeek d n) := by
  unfold Dev.wtLimpSeek
  simp (maxDischargeDepth := 60) only [hO, h_rwt, h_trk, h_sl, only_refl, only_ite, only_foldl, implies_true, only_trk,
      only_sl, raiseTrk_only, setFld_only, setTrkr_only, wtReseek_only, blk_WT_STATUS_STALL, blk_WT_STATUS_STATE]

theorem wtReject_only (d : Dev) (n : Nat) (hO : Only S e0 d) (h_rwt : Part.regs .wt ∈ S) (h_trk : Part.trk ∈ S) (h_sl : Part.sl ∈ S) :
    Only S e0
    (Dev.wtReject d n) := by
  unfold Dev.wtReject
  simp (maxDischargeDepth := 60) only [hO, h_rwt, h_trk, h_sl, only_refl, only_ite, only_foldl, implies_true, only_trk,
      only_sl, count_only, setTrkr_only, wtDrop_only, wtReseek_only, blk_WT_STATUS_REJ_CNT]

theorem wtTurned_only (d : Dev) (n : Nat) (hO : Only S e0 d) (h_rhi : Part.regs .hi ∈ S) (h_rsl : Part.regs .sl ∈ S) (h_rqy : Part.regs .qy ∈ S)
    (h_qy : Part.qy ∈ S) (h_pins : Part.pins ∈ S) (h_sl : Part.sl ∈ S) (h_hi : Part.hi ∈ S) (h_lg : Part.lg ∈ S) (h_pn : Part.pn ∈ S) :
    Only S e0
    (Dev.wtTurned d n) := by
  unfold Dev.wtTurned
  simp (maxDischargeDepth := 60) only [hO, h_rhi, h_rsl, h_rqy, h_qy, h_pins, h_sl, h_hi, h_lg, h_pn, only_refl, only_ite,
      only_foldl, implies_true, only_qy, only_pins, only_sl, only_hi, only_lg, only_pn, forwardAxis_only, reverseAxis_only]

theorem wtToggle_only (d : Dev) (n : Nat) (hO : Only S e0 d) (h_rhi : Part.regs .hi ∈ S) (h_rwt : Part.regs .wt ∈ S) (h_rsl : Part.regs .sl ∈ S)
    (h_rqy : Part.regs .qy ∈ S) (h_trk : Part.trk ∈ S) (h_qy : Part.qy ∈ S) (h_pins : Part.pins ∈ S) (h_sl : Part.sl ∈ S) (h_hi : Part.hi ∈ S) (h_lg
    : Part.lg ∈ S) (h_pn : Part.pn ∈ S) :
    Only S e0 (Dev.wtToggle d n) := by
  unfold Dev.wtToggle
  simp (maxDischargeDepth := 60) only [hO, h_rhi, h_rwt, h_rsl, h_rqy, h_trk, h_qy, h_pins, h_sl, h_hi, h_lg, h_pn, only_refl,
      only_ite, only_foldl, implies_true, only_trk, only_qy, only_pins, only_sl, only_hi, only_lg, only_pn, raiseTrk_only, setFlag_only,
      wtReseek_only, wtTurned_only, blk_WT_STATUS_DIR]

theorem wtReverse_only (d : Dev) (n : Nat) (pos : Int) (wait : Nat) (tk : Int) (dirIn : Bool) (hO : Only S e0 d) (h_rhi : Part.regs .hi ∈ S) (h_rwt :
    Part.regs .wt ∈ S) (h_rsl : Part.regs .sl ∈ S) (h_rqy : Part.regs .qy ∈ S) (h_trk : Part.trk ∈ S) (h_qy : Part.qy ∈ S) (h_pins : Part.pins ∈ S)
    (h_sl : Part.sl ∈ S) (h_hi : Part.hi ∈ S) (h_lg : Part.lg ∈ S) (h_pn : Part.pn ∈ S) :
    Only S e0 (Dev.wtReverse d n pos wait tk dirIn) := by
  unfold Dev.wtReverse
  simp (maxDischargeDepth := 60) only [hO, h_rhi, h_rwt, h_rsl, h_rqy, h_trk, h_qy, h_pins, h_sl, h_hi, h_lg, h_pn, only_refl,
      only_ite, only_foldl, implies_true, only_trk, only_qy, only_pins, only_sl, only_hi, only_lg, only_pn, raiseTrk_only, setFlag_only,
      setTrkr_only, wtFloor_only, wtTurned_only, blk_WT_STATUS_DIR]

theorem limpReverse_only (d : Dev) (n : Nat) (hO : Only S e0 d) (h_rhi : Part.regs .hi ∈ S) (h_rwt : Part.regs .wt ∈ S) (h_rsl : Part.regs .sl ∈ S)
    (h_rqy : Part.regs .qy ∈ S) (h_trk : Part.trk ∈ S) (h_qy : Part.qy ∈ S) (h_pins : Part.pins ∈ S) (h_sl : Part.sl ∈ S) (h_hi : Part.hi ∈ S) (h_lg
    : Part.lg ∈ S) (h_pn : Part.pn ∈ S) :
    Only S e0 (Dev.limpReverse d n) := by
  unfold Dev.limpReverse
  simp (maxDischargeDepth := 60) only [hO, h_rhi, h_rwt, h_rsl, h_rqy, h_trk, h_qy, h_pins, h_sl, h_hi, h_lg, h_pn,
      only_refl, only_ite, only_foldl, implies_true, only_trk, only_qy, only_pins, only_sl, only_hi, only_lg, only_pn, raiseTrk_only, setFlag_only,
      setTrkr_only, wtReseek_only, wtTurned_only, blk_WT_STATUS_DIR]

theorem wtDirIn_only (d : Dev) (n : Nat) (lvl : Bool) (hO : Only S e0 d) (h_rhi : Part.regs .hi ∈ S) (h_rwt : Part.regs .wt ∈ S) (h_rsl : Part.regs
    .sl ∈ S) (h_rqy : Part.regs .qy ∈ S) (h_trk : Part.trk ∈ S) (h_qy : Part.qy ∈ S) (h_pins : Part.pins ∈ S) (h_sl : Part.sl ∈ S) (h_hi : Part.hi ∈
    S) (h_lg : Part.lg ∈ S) (h_pn : Part.pn ∈ S) :
    Only S e0 (Dev.wtDirIn d n lvl) := by
  unfold Dev.wtDirIn
  (try dsimp only)
  (repeat' split) <;> simp (maxDischargeDepth := 60) only [hO, h_rhi, h_rwt, h_rsl, h_rqy, h_trk, h_qy,
      h_pins, h_sl, h_hi, h_lg, h_pn, only_refl, only_ite, only_foldl, implies_true, only_trk, only_qy, only_pins, only_sl, only_hi, only_lg,
      only_pn, limpReverse_only, wtReverse_only, wtToggle_only]

theorem wtConfirm_only (d : Dev) (n : Nat) (t8 : Int) (s : Nat) (per : List Nat) (hO : Only S e0 d) (h_rwt : Part.regs .wt ∈ S) (h_trk : Part.trk ∈
    S) (h_sl : Part.sl ∈ S) :
    Only S e0 (Dev.wtConfirm d n t8 s per) := by
  unfold Dev.wtConfirm
  simp (maxDischargeDepth := 60) only [hO, h_rwt, h_trk, h_sl, only_refl, only_ite, only_foldl, implies_true, only_trk,
      only_sl, setFld_only, setTrkr_only, wtSnapConfirm_only, blk_WT_STATUS_STATE]

theorem wtSync_only (d : Dev) (n : Nat) (hO : Only S e0 d) (h_rwt : Part.regs .wt ∈ S) (h_trk : Part.trk ∈ S) (h_qy : Part.qy ∈ S) (h_sl : Part.sl ∈
    S) :
    Only S e0 (Dev.wtSync d n) := by
  unfold Dev.wtSync
  simp (maxDischargeDepth := 60) only [hO, h_rwt, h_trk, h_qy, h_sl, only_refl, only_ite, only_foldl, implies_true, only_trk,
      only_qy, only_sl, raiseTrkAt_only, setFld_only, setTrkr_only, wtFloor_only, wtJump_only, wtRevolution_only, wtSnap_only, blk_WT_STATUS_STALL,
      blk_WT_STATUS_STATE]

theorem wtSeek_only (d : Dev) (n : Nat) (t8 : Int) (hO : Only S e0 d) (h_rwt : Part.regs .wt ∈ S) (h_trk : Part.trk ∈ S) (h_sl : Part.sl ∈ S) :
    Only S e0 (Dev.wtSeek d n t8) := by
  unfold Dev.wtSeek
  (try dsimp only)
  (repeat' split) <;> simp (maxDischargeDepth := 60) only [hO, h_rwt, h_trk, h_sl, only_refl, only_ite,
      only_foldl, implies_true, only_trk, only_sl, setFld_only, setTrkr_only, wtConfirm_only, wtReject_only, blk_WT_STATUS_REL]

theorem wtCount_only (d : Dev) (n : Nat) (t8 : Int) (hO : Only S e0 d) (h_trk : Part.trk ∈ S) :
    Only S e0 (Dev.wtCount d n t8) := by
  unfold Dev.wtCount
  simp (maxDischargeDepth := 60) only [hO, h_trk, only_refl, only_ite, only_foldl, implies_true, only_trk, setTrkr_only]

theorem wtTooth_only (d : Dev) (n : Nat) (t8 : Int) (hO : Only S e0 d) (h_rwt : Part.regs .wt ∈ S) (h_trk : Part.trk ∈ S) (h_qy : Part.qy ∈ S) (h_cw
    : Part.cw ∈ S) (h_sl : Part.sl ∈ S) :
    Only S e0 (Dev.wtTooth d n t8) := by
  unfold Dev.wtTooth
  simp (maxDischargeDepth := 60) only [hO, h_rwt, h_trk, h_qy, h_cw, h_sl, only_refl, only_ite, only_foldl, implies_true,
      only_trk, only_qy, only_cw, only_sl, pubTooth_only, setFld_only, wtCount_only, wtFloor_only, wtJump_only, wtRevolution_only, wtSnap_only,
      blk_WT_STATUS_STALL]

theorem wtGapTurn_only (d : Dev) (n : Nat) (t8 : Int) (hO : Only S e0 d) (h_rhi : Part.regs .hi ∈ S) (h_rwt : Part.regs .wt ∈ S) (h_rsl : Part.regs
    .sl ∈ S) (h_rqy : Part.regs .qy ∈ S) (h_trk : Part.trk ∈ S) (h_qy : Part.qy ∈ S) (h_pins : Part.pins ∈ S) (h_sl : Part.sl ∈ S) (h_hi : Part.hi ∈
    S) (h_lg : Part.lg ∈ S) (h_pn : Part.pn ∈ S) :
    Only S e0 (Dev.wtGapTurn d n t8) := by
  unfold Dev.wtGapTurn
  simp (maxDischargeDepth := 60) only [hO, h_rhi, h_rwt, h_rsl, h_rqy, h_trk, h_qy, h_pins, h_sl, h_hi, h_lg, h_pn, only_refl,
      only_ite, only_foldl, implies_true, only_trk, only_qy, only_pins, only_sl, only_hi, only_lg, only_pn, setFld_only, setTrkr_only,
      wtReverse_only, wtRevolution_only, wtSnap_only, blk_WT_STATUS_STALL]

theorem wtEvidence_only (d : Dev) (n : Nat) (hO : Only S e0 d) (h_rhi : Part.regs .hi ∈ S) (h_rwt : Part.regs .wt ∈ S) (h_rsl : Part.regs .sl ∈ S)
    (h_rqy : Part.regs .qy ∈ S) (h_trk : Part.trk ∈ S) (h_qy : Part.qy ∈ S) (h_pins : Part.pins ∈ S) (h_sl : Part.sl ∈ S) (h_hi : Part.hi ∈ S) (h_lg
    : Part.lg ∈ S) (h_pn : Part.pn ∈ S) :
    Only S e0 (Dev.wtEvidence d n) := by
  unfold Dev.wtEvidence
  (try dsimp only)
  (repeat' split) <;> simp (maxDischargeDepth := 60) only [hO, h_rhi, h_rwt, h_rsl, h_rqy, h_trk, h_qy,
      h_pins, h_sl, h_hi, h_lg, h_pn, only_refl, only_ite, only_foldl, implies_true, only_trk, only_qy, only_pins, only_sl, only_hi, only_lg,
      only_pn, wtReverse_only]

theorem wtTrack_only (d : Dev) (n : Nat) (t8 : Int) (close : Bool) (hO : Only S e0 d) (h_rhi : Part.regs .hi ∈ S) (h_rwt : Part.regs .wt ∈ S) (h_rsl
    : Part.regs .sl ∈ S) (h_rqy : Part.regs .qy ∈ S) (h_trk : Part.trk ∈ S) (h_qy : Part.qy ∈ S) (h_pins : Part.pins ∈ S) (h_cw : Part.cw ∈ S) (h_sl
    : Part.sl ∈ S) (h_hi : Part.hi ∈ S) (h_lg : Part.lg ∈ S) (h_pn : Part.pn ∈ S) :
    Only S e0 (Dev.wtTrack d n t8 close) := by
  unfold Dev.wtTrack
  (try dsimp only)
  (repeat' split) <;> simp (maxDischargeDepth := 60) only [hO, h_rhi, h_rwt, h_rsl, h_rqy, h_trk, h_qy,
      h_pins, h_cw, h_sl, h_hi, h_lg, h_pn, only_refl, only_ite, only_foldl, implies_true, only_trk, only_qy, only_pins, only_cw, only_sl, only_hi,
      only_lg, only_pn, wtCount_only, wtDrop_only, wtEvidence_only, wtGapTurn_only, wtReject_only, wtReseek_only, wtSnapConfirm_only, wtSync_only,
      wtTooth_only]

theorem wtPrimary_only (d : Dev) (n : Nat) (e : InEdge) (hO : Only S e0 d) (h_rhi : Part.regs .hi ∈ S) (h_rwt : Part.regs .wt ∈ S) (h_rsl : Part.regs
    .sl ∈ S) (h_rqy : Part.regs .qy ∈ S) (h_trk : Part.trk ∈ S) (h_qy : Part.qy ∈ S) (h_pins : Part.pins ∈ S) (h_cw : Part.cw ∈ S) (h_sl : Part.sl ∈
    S) (h_hi : Part.hi ∈ S) (h_lg : Part.lg ∈ S) (h_pn : Part.pn ∈ S) :
    Only S e0 (Dev.wtPrimary d n e) := by
  unfold Dev.wtPrimary
  (try dsimp only)
  (repeat' split) <;> simp (maxDischargeDepth := 60) only [hO, h_rhi, h_rwt, h_rsl, h_rqy, h_trk, h_qy,
      h_pins, h_cw, h_sl, h_hi, h_lg, h_pn, only_refl, only_ite, only_foldl, implies_true, only_trk, only_qy, only_pins, only_cw, only_sl, only_hi,
      only_lg, only_pn, setTrkr_only, wtReject_only, wtSeek_only, wtTrack_only]

theorem wtPhaseSync_only (d : Dev) (n : Nat) (lvl : Bool) (hO : Only S e0 d) (h_rwt : Part.regs .wt ∈ S) (h_trk : Part.trk ∈ S) (h_sl : Part.sl ∈ S)
    :
    Only S e0 (Dev.wtPhaseSync d n lvl) := by
  unfold Dev.wtPhaseSync
  (try dsimp only)
  (repeat' split) <;> simp (maxDischargeDepth := 60) only [hO, h_rwt, h_trk, h_sl, only_refl, only_ite,
      only_foldl, implies_true, only_trk, only_sl, count_only, raiseTrk_only, setTrkr_only, blk_WT_STATUS_PH_MIS_CNT]

theorem limpSnap_only (d : Dev) (n : Nat) (hO : Only S e0 d) (h_trk : Part.trk ∈ S) :
    Only S e0 (Dev.limpSnap d n) := by
  unfold Dev.limpSnap
  simp (maxDischargeDepth := 60) only [hO, h_trk, only_refl, only_ite, only_foldl, implies_true, only_trk, setTrkr_only]

theorem wtLimp_only (d : Dev) (n : Nat) (t8 : Int) (i intv : Nat) (hO : Only S e0 d) (h_rwt : Part.regs .wt ∈ S) (h_trk : Part.trk ∈ S) (h_qy :
    Part.qy ∈ S) (h_sl : Part.sl ∈ S) :
    Only S e0 (Dev.wtLimp d n t8 i intv) := by
  unfold Dev.wtLimp
  simp (maxDischargeDepth := 60) only [hO, h_rwt, h_trk, h_qy, h_sl, only_refl, only_ite, only_foldl, implies_true, only_trk,
      only_qy, only_sl, limpSnap_only, raiseTrkAt_only, setFld_only, setTrkr_only, wtJump_only, blk_WT_STATUS_STALL, blk_WT_STATUS_STATE]

theorem wtPhaseSeek_only (d : Dev) (n : Nat) (t8 : Int) (hits : List Nat) (intv : Nat) (hO : Only S e0 d) (h_rwt : Part.regs .wt ∈ S) (h_trk :
    Part.trk ∈ S) (h_qy : Part.qy ∈ S) (h_sl : Part.sl ∈ S) :
    Only S e0 (Dev.wtPhaseSeek d n t8 hits intv) := by
  unfold Dev.wtPhaseSeek
  (try dsimp only)
  (repeat' split) <;> simp (maxDischargeDepth := 60) only [hO, h_rwt, h_trk, h_qy, h_sl, only_refl,
      only_ite, only_foldl, implies_true, only_trk, only_qy, only_sl, setTrkr_only, wtLimp_only]

theorem wtPhaseLimp_only (d : Dev) (n : Nat) (t8 : Int) (close : Bool) (hO : Only S e0 d) (h_rwt : Part.regs .wt ∈ S) (h_trk : Part.trk ∈ S) (h_qy :
    Part.qy ∈ S) (h_cw : Part.cw ∈ S) (h_sl : Part.sl ∈ S) :
    Only S e0 (Dev.wtPhaseLimp d n t8 close) := by
  unfold Dev.wtPhaseLimp
  simp (maxDischargeDepth := 60) only [hO, h_rwt, h_trk, h_qy, h_cw, h_sl, only_refl, only_ite, only_foldl, implies_true,
      only_trk, only_qy, only_cw, only_sl, count_only, limpSnap_only, pubTooth_only, setFld_only, setTrkr_only, wtDrop_only, wtJump_only,
      blk_WT_STATUS_REJ_CNT, blk_WT_STATUS_STALL]

theorem wtPhase_only (d : Dev) (n : Nat) (e : InEdge) (hO : Only S e0 d) (h_rwt : Part.regs .wt ∈ S) (h_trk : Part.trk ∈ S) (h_qy : Part.qy ∈ S)
    (h_cw : Part.cw ∈ S) (h_sl : Part.sl ∈ S) :
    Only S e0 (Dev.wtPhase d n e) := by
  unfold Dev.wtPhase
  (try dsimp only)
  (repeat' split) <;> simp (maxDischargeDepth := 60) only [hO, h_rwt, h_trk, h_qy, h_cw, h_sl, only_refl,
      only_ite, only_foldl, implies_true, only_trk, only_qy, only_cw, only_sl, setTrkr_only, wtLimpSeek_only, wtPhaseLimp_only, wtPhaseSeek_only,
      wtPhaseSync_only, blk_WT_STATUS_STALL]

theorem wtPin_only (d : Dev) (n pin : Nat) (e : InEdge) (hO : Only S e0 d) (h_trk : Part.trk ∈ S) :
    Only S e0 (Dev.wtPin d n pin e) := by
  unfold Dev.wtPin
  simp (maxDischargeDepth := 60) only [hO, h_trk, only_refl, only_ite, only_foldl, implies_true, only_trk, setTrkr_only]

theorem wtTake_only (d : Dev) (n : Nat) (x : Nat × InEdge) (hO : Only S e0 d) (h_rhi : Part.regs .hi ∈ S) (h_rwt : Part.regs .wt ∈ S) (h_rsl :
    Part.regs .sl ∈ S) (h_rqy : Part.regs .qy ∈ S) (h_trk : Part.trk ∈ S) (h_qy : Part.qy ∈ S) (h_pins : Part.pins ∈ S) (h_cw : Part.cw ∈ S) (h_sl :
    Part.sl ∈ S) (h_hi : Part.hi ∈ S) (h_lg : Part.lg ∈ S) (h_pn : Part.pn ∈ S) :
    Only S e0 (Dev.wtTake d n x) := by
  unfold Dev.wtTake
  (try dsimp only)
  (repeat' split) <;> simp (maxDischargeDepth := 60) only [hO, h_rhi, h_rwt, h_rsl, h_rqy, h_trk, h_qy,
      h_pins, h_cw, h_sl, h_hi, h_lg, h_pn, only_refl, only_ite, only_foldl, implies_true, only_trk, only_qy, only_pins, only_cw, only_sl, only_hi,
      only_lg, only_pn, wtDirIn_only, wtPhase_only, wtPrimary_only]

theorem wtCycle_only (d : Dev) (n : Nat) (hO : Only S e0 d) (h_rhi : Part.regs .hi ∈ S) (h_rwt : Part.regs .wt ∈ S) (h_rsl : Part.regs .sl ∈ S)
    (h_rqy : Part.regs .qy ∈ S) (h_trk : Part.trk ∈ S) (h_qy : Part.qy ∈ S) (h_pins : Part.pins ∈ S) (h_cw : Part.cw ∈ S) (h_sl : Part.sl ∈ S) (h_hi
    : Part.hi ∈ S) (h_lg : Part.lg ∈ S) (h_pn : Part.pn ∈ S) :
    Only S e0 (Dev.wtCycle d n) := by
  unfold Dev.wtCycle
  simp (maxDischargeDepth := 60) only [hO, h_rhi, h_rwt, h_rsl, h_rqy, h_trk, h_qy, h_pins, h_cw, h_sl, h_hi, h_lg, h_pn,
      only_refl, only_ite, only_foldl, implies_true, only_trk, only_qy, only_pins, only_cw, only_sl, only_hi, only_lg, only_pn, setTrkr_only,
      wtTake_only]

theorem wtStallEff_only (n : Nat) (d : Dev) (hO : Only S e0 d) (h_rwt : Part.regs .wt ∈ S) (h_trk : Part.trk ∈ S) (h_sl : Part.sl ∈ S) :
    Only S
    e0 (wtStallEff n d) := by
  unfold wtStallEff
  simp (maxDischargeDepth := 60) only [hO, h_rwt, h_trk, h_sl, only_refl, only_ite, only_foldl, implies_true, only_trk, only_sl,
      raiseTrk_only, setFld_only, setTrkr_only, blk_WT_STATUS_STALL]

theorem wtEnable_only (d : Dev) (n : Nat) (hO : Only S e0 d) (h_rwt : Part.regs .wt ∈ S) (h_trk : Part.trk ∈ S) :
    Only S e0 (Dev.wtEnable d n) := by
  unfold Dev.wtEnable
  simp (maxDischargeDepth := 60) only [hO, h_rwt, h_trk, only_refl, only_ite, only_foldl, implies_true, only_trk, setFld_only,
      setTrkr_only, blk_WT_CFG_EN, blk_WT_STATUS_CFG_ERR, blk_WT_STATUS_DIR, blk_WT_STATUS_REL, blk_WT_STATUS_STALL, blk_WT_STATUS_STATE]

theorem wtDisable_only (d : Dev) (n : Nat) (hO : Only S e0 d) (h_rwt : Part.regs .wt ∈ S) (h_trk : Part.trk ∈ S) :
    Only S e0 (Dev.wtDisable d n) := by
  unfold Dev.wtDisable
  simp (maxDischargeDepth := 60) only [hO, h_rwt, h_trk, only_refl, only_ite, only_foldl, implies_true, only_trk, setFld_only,
      setTrkr_only, blk_WT_CFG_EN, blk_WT_STATUS_STALL, blk_WT_STATUS_STATE]

end Sys2Proof.Machine
end

