-- ==== Sys2Proof/Laws/FrameQuay.lean ====
section
/-! SUPPORT. Which parts of the state the operations of Machine/Quay, Pins, PinEngine, Time may change. -/

namespace Sys2Proof.Machine

open Sys2Proof

set_option linter.unusedSimpArgs false
set_option linter.unusedVariables false
set_option linter.unusedTactic false
set_option linter.unreachableTactic false

variable {S : List Part} {e0 : Dev}

theorem subStart_only (d : Dev) (q new : Nat) (cmd : Option Cmd) (hO : Only S e0 d) (h_rqy : Part.regs .qy ∈ S) (h_qy : Part.qy ∈ S) :
    Only S e0
    (Dev.subStart d q new cmd) := by
  unfold Dev.subStart
  simp (maxDischargeDepth := 60) only [hO, h_rqy, h_qy, only_refl, only_ite, only_foldl, implies_true, only_qy, setFld_only,
      blk_QY_STATUS_LOGICAL, blk_QY_STATUS_ROLE]

theorem autoSub_only (d : Dev) (p : Nat) (hO : Only S e0 d) (h_rsys : Part.regs .sys ∈ S) (h_rqy : Part.regs .qy ∈ S) (h_qy : Part.qy ∈ S) (h_sl :
    Part.sl ∈ S) :
    Only S e0 (Dev.autoSub d p) := by
  unfold Dev.autoSub
  (try dsimp only)
  (repeat' split) <;> simp (maxDischargeDepth := 60) only [hO, h_rsys, h_rqy, h_qy, h_sl, only_refl,
      only_ite, only_foldl, implies_true, only_qy, only_sl, setFault_only, subStart_only, blk_QY_STATUS_LOGICAL, blk_SYS_FAULT_QUAY_EXHAUSTED]

theorem autoNext_only (d : Dev) (hO : Only S e0 d) (h_rsys : Part.regs .sys ∈ S) (h_rqy : Part.regs .qy ∈ S) (h_qy : Part.qy ∈ S) (h_sl : Part.sl ∈
    S) :
    Only S e0 (Dev.autoNext d) := by
  unfold Dev.autoNext
  (try dsimp only)
  (repeat' split) <;> simp (maxDischargeDepth := 60) only [hO, h_rsys, h_rqy, h_qy, h_sl, only_refl,
      only_ite, only_foldl, implies_true, only_qy, only_sl, autoSub_only]

theorem subReport_only (d : Dev) (x : Subst) (status : Nat) (hO : Only S e0 d) (h_rhi : Part.regs .hi ∈ S) (h_rsl : Part.regs .sl ∈ S) (h_sl :
    Part.sl ∈ S) (h_hi : Part.hi ∈ S) (h_lg : Part.lg ∈ S) :
    Only S e0 (Dev.subReport d x status) := by
  unfold Dev.subReport
  (try dsimp only)
  (repeat' split) <;> simp (maxDischargeDepth := 60) only [hO, h_rhi, h_rsl, h_sl, h_hi, h_lg, only_refl,
      only_ite, only_foldl, implies_true, only_sl, only_hi, only_lg, finish_only, raiseSys_only]

theorem subFail_only (d : Dev) (x : Subst) (status : Nat) (hO : Only S e0 d) (h_rhi : Part.regs .hi ∈ S) (h_rsl : Part.regs .sl ∈ S) (h_rqy :
    Part.regs .qy ∈ S) (h_qy : Part.qy ∈ S) (h_sl : Part.sl ∈ S) (h_hi : Part.hi ∈ S) (h_lg : Part.lg ∈ S) :
    Only S e0 (Dev.subFail d x status) := by
  unfold Dev.subFail
  simp (maxDischargeDepth := 60) only [hO, h_rhi, h_rsl, h_rqy, h_qy, h_sl, h_hi, h_lg, only_refl, only_ite, only_foldl,
      implies_true, only_qy, only_sl, only_hi, only_lg, setFld_only, subReport_only, blk_QY_STATUS_LOGICAL, blk_QY_STATUS_ROLE]

theorem subMismatch_only (d : Dev) (x : Subst) (hO : Only S e0 d) (h_rsys : Part.regs .sys ∈ S) (h_rhi : Part.regs .hi ∈ S) (h_rsl : Part.regs .sl ∈
    S) (h_rqy : Part.regs .qy ∈ S) (h_qy : Part.qy ∈ S) (h_sl : Part.sl ∈ S) (h_hi : Part.hi ∈ S) (h_lg : Part.lg ∈ S) :
    Only S e0
    (Dev.subMismatch d x) := by
  unfold Dev.subMismatch
  (try dsimp only)
  (repeat' split) <;> simp (maxDischargeDepth := 60) only [hO, h_rsys, h_rhi, h_rsl, h_rqy, h_qy, h_sl,
      h_hi, h_lg, only_refl, only_ite, only_foldl, implies_true, only_qy, only_sl, only_hi, only_lg, autoNext_only, setFault_only, setFld_only,
      setPhysQ_only, subFail_only, subStart_only, blk_QY_STATUS_ROLE, blk_SYS_FAULT_QUAY_EXHAUSTED]

theorem quayFault_only (d : Dev) (c : Nat) (hO : Only S e0 d) (h_rhi : Part.regs .hi ∈ S) (h_rsl : Part.regs .sl ∈ S) (h_rqy : Part.regs .qy ∈ S)
    (h_qy : Part.qy ∈ S) (h_sl : Part.sl ∈ S) (h_hi : Part.hi ∈ S) (h_lg : Part.lg ∈ S) :
    Only S e0 (Dev.quayFault d c) := by
  unfold Dev.quayFault
  (try dsimp only)
  (repeat' split) <;> simp (maxDischargeDepth := 60) only [hO, h_rhi, h_rsl, h_rqy, h_qy, h_sl, h_hi, h_lg,
      only_refl, only_ite, only_foldl, implies_true, only_qy, only_sl, only_hi, only_lg, disarmDone_only, endItem_only, failItem_only, setChan_only]

theorem mirrorCopyDoneEff_only (parity : List Nat) (d : Dev) (hO : Only S e0 d) (h_rhi : Part.regs .hi ∈ S) (h_rsl : Part.regs .sl ∈ S) (h_rqy :
    Part.regs .qy ∈ S) (h_qy : Part.qy ∈ S) (h_sl : Part.sl ∈ S) (h_hi : Part.hi ∈ S) (h_lg : Part.lg ∈ S) :
    Only S e0 (mirrorCopyDoneEff parity
    d) := by
  unfold mirrorCopyDoneEff
  (try dsimp only)
  (repeat' split) <;> simp (maxDischargeDepth := 60) only [hO, h_rhi, h_rsl, h_rqy, h_qy, h_sl, h_hi,
      h_lg, only_refl, only_ite, only_foldl, implies_true, only_qy, only_sl, only_hi, only_lg, quayFault_only]

theorem mirrorCompareDoneEff_only (differ : Bool) (d : Dev) (hO : Only S e0 d) (h_rsys : Part.regs .sys ∈ S) (h_rhi : Part.regs .hi ∈ S) (h_rsl :
    Part.regs .sl ∈ S) (h_rqy : Part.regs .qy ∈ S) (h_qy : Part.qy ∈ S) (h_sl : Part.sl ∈ S) (h_hi : Part.hi ∈ S) (h_lg : Part.lg ∈ S) :
    Only S
    e0 (mirrorCompareDoneEff differ d) := by
  unfold mirrorCompareDoneEff
  (try dsimp only)
  (repeat' split) <;> simp (maxDischargeDepth := 60) only [hO, h_rsys, h_rhi, h_rsl, h_rqy, h_qy,
      h_sl, h_hi, h_lg, only_refl, only_ite, only_foldl, implies_true, only_qy, only_sl, only_hi, only_lg, subMismatch_only]

theorem quaySwitchEff_only (d : Dev) (hO : Only S e0 d) (h_rsys : Part.regs .sys ∈ S) (h_rhi : Part.regs .hi ∈ S) (h_rsl : Part.regs .sl ∈ S) (h_rqy
    : Part.regs .qy ∈ S) (h_qy : Part.qy ∈ S) (h_sl : Part.sl ∈ S) (h_hi : Part.hi ∈ S) (h_lg : Part.lg ∈ S) :
    Only S e0 (quaySwitchEff d) := by
  unfold quaySwitchEff
  (try dsimp only)
  (repeat' split) <;> simp (maxDischargeDepth := 60) only [hO, h_rsys, h_rhi, h_rsl, h_rqy, h_qy, h_sl,
      h_hi, h_lg, only_refl, only_ite, only_foldl, implies_true, only_qy, only_sl, only_hi, only_lg, autoNext_only, setFld_only, setPhysQ_only,
      subReport_only, blk_QY_STATUS_LOGICAL, blk_QY_STATUS_ROLE, blk_QY_STATUS_SUSPECT]

theorem noQuietTimeoutEff_only (d : Dev) (hO : Only S e0 d) (h_rsys : Part.regs .sys ∈ S) (h_rhi : Part.regs .hi ∈ S) (h_rsl : Part.regs .sl ∈ S)
    (h_rqy : Part.regs .qy ∈ S) (h_qy : Part.qy ∈ S) (h_sl : Part.sl ∈ S) (h_hi : Part.hi ∈ S) (h_lg : Part.lg ∈ S) :
    Only S e0
    (noQuietTimeoutEff d) := by
  unfold noQuietTimeoutEff
  (try dsimp only)
  (repeat' split) <;> simp (maxDischargeDepth := 60) only [hO, h_rsys, h_rhi, h_rsl, h_rqy, h_qy, h_sl,
      h_hi, h_lg, only_refl, only_ite, only_foldl, implies_true, only_qy, only_sl, only_hi, only_lg, autoNext_only, subFail_only]

theorem autoSubRetryEff_only (d : Dev) (hO : Only S e0 d) (h_rsys : Part.regs .sys ∈ S) (h_rqy : Part.regs .qy ∈ S) (h_qy : Part.qy ∈ S) (h_sl :
    Part.sl ∈ S) :
    Only S e0 (autoSubRetryEff d) := by
  unfold autoSubRetryEff
  (try dsimp only)
  (repeat' split) <;> simp (maxDischargeDepth := 60) only [hO, h_rsys, h_rqy, h_qy, h_sl, only_refl,
      only_ite, only_foldl, implies_true, only_qy, only_sl, autoSub_only]

theorem autoTick_only (d : Dev) (hO : Only S e0 d) (h_rsys : Part.regs .sys ∈ S) (h_rqy : Part.regs .qy ∈ S) (h_qy : Part.qy ∈ S) (h_sl : Part.sl ∈
    S) :
    Only S e0 (Dev.autoTick d) := by
  unfold Dev.autoTick
  simp (maxDischargeDepth := 60) only [hO, h_rsys, h_rqy, h_qy, h_sl, only_refl, only_ite, only_foldl, implies_true, only_qy,
      only_sl, autoNext_only]

theorem suspect_only (d : Dev) (p reason : Nat) (hO : Only S e0 d) (h_rsys : Part.regs .sys ∈ S) (h_rqy : Part.regs .qy ∈ S) (h_qy : Part.qy ∈ S)
    (h_sl : Part.sl ∈ S) :
    Only S e0 (Dev.suspect d p reason) := by
  unfold Dev.suspect
  simp (maxDischargeDepth := 60) only [hO, h_rsys, h_rqy, h_qy, h_sl, only_refl, only_ite, only_foldl, implies_true, only_qy,
      only_sl, raiseSys_only, setFault_only, setFld_only, blk_QY_AUDIT_CONSEC, blk_QY_AUDIT_LAST_PIN, blk_QY_STATUS_LOGICAL, blk_QY_STATUS_SUSPECT,
      blk_SYS_FAULT_QUAY_EXHAUSTED]

theorem spareBad_only (d : Dev) (p : Nat) (hO : Only S e0 d) (h_rsys : Part.regs .sys ∈ S) (h_rhi : Part.regs .hi ∈ S) (h_rsl : Part.regs .sl ∈ S)
    (h_rqy : Part.regs .qy ∈ S) (h_qy : Part.qy ∈ S) (h_sl : Part.sl ∈ S) (h_hi : Part.hi ∈ S) (h_lg : Part.lg ∈ S) :
    Only S e0 (Dev.spareBad d p) := by
  unfold Dev.spareBad
  (try dsimp only)
  (repeat' split) <;> simp (maxDischargeDepth := 60) only [hO, h_rsys, h_rhi, h_rsl, h_rqy, h_qy, h_sl,
      h_hi, h_lg, only_refl, only_ite, only_foldl, implies_true, only_qy, only_sl, only_hi, only_lg, autoNext_only, setFault_only, setFld_only,
      subFail_only, subStart_only, blk_QY_STATUS_LOGICAL, blk_QY_STATUS_ROLE, blk_SYS_FAULT_QUAY_EXHAUSTED]

theorem vernierBad_only (d : Dev) (p : Nat) (hO : Only S e0 d) (h_rsys : Part.regs .sys ∈ S) (h_rhi : Part.regs .hi ∈ S) (h_rsl : Part.regs .sl ∈ S)
    (h_rqy : Part.regs .qy ∈ S) (h_qy : Part.qy ∈ S) (h_sl : Part.sl ∈ S) (h_hi : Part.hi ∈ S) (h_lg : Part.lg ∈ S) :
    Only S e0 (Dev.vernierBad d
    p) := by
  unfold Dev.vernierBad
  (try dsimp only)
  (repeat' split) <;> simp (maxDischargeDepth := 60) only [hO, h_rsys, h_rhi, h_rsl, h_rqy, h_qy, h_sl,
      h_hi, h_lg, only_refl, only_ite, only_foldl, implies_true, only_qy, only_sl, only_hi, only_lg, spareBad_only, suspect_only]

theorem vernierCalEff_only (p : Nat) (result : CalResult) (d : Dev) (hO : Only S e0 d) (h_rsys : Part.regs .sys ∈ S) (h_rhi : Part.regs .hi ∈ S)
    (h_rsl : Part.regs .sl ∈ S) (h_rqy : Part.regs .qy ∈ S) (h_qy : Part.qy ∈ S) (h_sl : Part.sl ∈ S) (h_hi : Part.hi ∈ S) (h_lg : Part.lg ∈ S) :
    Only S e0 (vernierCalEff p result d) := by
  unfold vernierCalEff
  (try dsimp only)
  (repeat' split) <;> simp (maxDischargeDepth := 60) only [hO, h_rsys, h_rhi, h_rsl, h_rqy, h_qy, h_sl,
      h_hi, h_lg, only_refl, only_ite, only_foldl, implies_true, only_qy, only_sl, only_hi, only_lg, setFld_only, setPhysQ_only, vernierBad_only,
      blk_QY_DIAG_VCAL_OK]

theorem auditFault_only (d : Dev) (pin c gen t err : Nat) (hO : Only S e0 d) (h_rsys : Part.regs .sys ∈ S) (h_rhi : Part.regs .hi ∈ S) (h_rsl :
    Part.regs .sl ∈ S) (h_rqy : Part.regs .qy ∈ S) (h_qy : Part.qy ∈ S) (h_pins : Part.pins ∈ S) (h_sl : Part.sl ∈ S) (h_hi : Part.hi ∈ S) (h_lg :
    Part.lg ∈ S) (h_pn : Part.pn ∈ S) :
    Only S e0 (Dev.auditFault d pin c gen t err) := by
  unfold Dev.auditFault
  (try dsimp only)
  (repeat' split) <;> simp (maxDischargeDepth := 60) only [hO, h_rsys, h_rhi, h_rsl, h_rqy, h_qy, h_pins,
      h_sl, h_hi, h_lg, h_pn, only_refl, only_ite, only_foldl, implies_true, only_qy, only_pins, only_sl, only_hi, only_lg, only_pn, count_only,
      cutOff_only, raiseRecs_only, setChan_only, setFld_only, setPhysQ_only, suspect_only, blk_QY_AUDIT_AUDIT_CNT, blk_QY_AUDIT_CONSEC,
      blk_QY_AUDIT_LAST_PIN]

theorem auditClean_only (d : Dev) (pin c : Nat) (hO : Only S e0 d) (h_rqy : Part.regs .qy ∈ S) (h_qy : Part.qy ∈ S) :
    Only S e0 (Dev.auditClean d
    pin c) := by
  unfold Dev.auditClean
  simp (maxDischargeDepth := 60) only [hO, h_rqy, h_qy, only_refl, only_ite, only_foldl, implies_true, only_qy, setFld_only,
      setPhysQ_only, blk_QY_AUDIT_CONSEC]

theorem pnFault_only (d : Dev) (n cause gen slot sc lane data : Nat) (hO : Only S e0 d) (h_rpn : Part.regs .pn ∈ S) (h_sl : Part.sl ∈ S) :
    Only S
    e0 (Dev.pnFault d n cause gen slot sc lane data) := by
  unfold Dev.pnFault
  simp (maxDischargeDepth := 60) only [hO, h_rpn, h_sl, only_refl, only_ite, only_foldl, implies_true, only_sl, raise_only,
      setFld_only, blk_PN_ERR_LAST_CAUSE]

theorem pnAudit_only (d : Dev) (n lane gen err : Nat) (hO : Only S e0 d) (h_rpn : Part.regs .pn ∈ S) (h_sl : Part.sl ∈ S) :
    Only S e0
    (Dev.pnAudit d n lane gen err) := by
  unfold Dev.pnAudit
  simp (maxDischargeDepth := 60) only [hO, h_rpn, h_sl, only_refl, only_ite, only_foldl, implies_true, only_sl, count_only,
      pnFault_only, blk_PN_ERR_AUDIT_CNT, blk_PN_STATUS_PC, blk_PN_STATUS_SC]

theorem driverFault_only (d : Dev) (pin : Nat) (by_ : Driver) (t err : Nat) (hO : Only S e0 d) (h_rsys : Part.regs .sys ∈ S) (h_rhi : Part.regs .hi ∈
    S) (h_rsl : Part.regs .sl ∈ S) (h_rqy : Part.regs .qy ∈ S) (h_rpn : Part.regs .pn ∈ S) (h_qy : Part.qy ∈ S) (h_pins : Part.pins ∈ S) (h_sl :
    Part.sl ∈ S) (h_hi : Part.hi ∈ S) (h_lg : Part.lg ∈ S) (h_pn : Part.pn ∈ S) :
    Only S e0 (Dev.driverFault d pin by_ t err) := by
  unfold Dev.driverFault
  (try dsimp only)
  (repeat' split) <;> simp (maxDischargeDepth := 60) only [hO, h_rsys, h_rhi, h_rsl, h_rqy, h_rpn, h_qy,
      h_pins, h_sl, h_hi, h_lg, h_pn, only_refl, only_ite, only_foldl, implies_true, only_qy, only_pins, only_sl, only_hi, only_lg, only_pn,
      auditFault_only, pnAudit_only]

theorem auditJudge_only (d : Dev) (pin : Nat) (x : Expect) (t : Nat) (hO : Only S e0 d) (h_rsys : Part.regs .sys ∈ S) (h_rhi : Part.regs .hi ∈ S)
    (h_rsl : Part.regs .sl ∈ S) (h_rqy : Part.regs .qy ∈ S) (h_rpn : Part.regs .pn ∈ S) (h_qy : Part.qy ∈ S) (h_pins : Part.pins ∈ S) (h_sl : Part.sl
    ∈ S) (h_hi : Part.hi ∈ S) (h_lg : Part.lg ∈ S) (h_pn : Part.pn ∈ S) :
    Only S e0 (Dev.auditJudge d pin x t) := by
  unfold Dev.auditJudge
  (try dsimp only)
  (repeat' split) <;> simp (maxDischargeDepth := 60) only [hO, h_rsys, h_rhi, h_rsl, h_rqy, h_rpn, h_qy,
      h_pins, h_sl, h_hi, h_lg, h_pn, only_refl, only_ite, only_foldl, implies_true, only_qy, only_pins, only_sl, only_hi, only_lg, only_pn,
      auditClean_only, driverFault_only]

theorem auditExpect_only (d : Dev) (pin : Nat) (x : Expect) (hO : Only S e0 d) (h_rsys : Part.regs .sys ∈ S) (h_rhi : Part.regs .hi ∈ S) (h_rsl :
    Part.regs .sl ∈ S) (h_rqy : Part.regs .qy ∈ S) (h_rpn : Part.regs .pn ∈ S) (h_qy : Part.qy ∈ S) (h_pins : Part.pins ∈ S) (h_sl : Part.sl ∈ S)
    (h_hi : Part.hi ∈ S) (h_lg : Part.lg ∈ S) (h_pn : Part.pn ∈ S) :
    Only S e0 (Dev.auditExpect d pin x) := by
  unfold Dev.auditExpect
  (try dsimp only)
  (repeat' split) <;> simp (maxDischargeDepth := 60) only [hO, h_rsys, h_rhi, h_rsl, h_rqy, h_rpn, h_qy,
      h_pins, h_sl, h_hi, h_lg, h_pn, only_refl, only_ite, only_foldl, implies_true, only_qy, only_pins, only_sl, only_hi, only_lg, only_pn,
      auditJudge_only, setPin_only]

theorem auditBall_only (d : Dev) (pin t : Nat) (lvl : Bool) (hO : Only S e0 d) (h_rsys : Part.regs .sys ∈ S) (h_rhi : Part.regs .hi ∈ S) (h_rsl :
    Part.regs .sl ∈ S) (h_rqy : Part.regs .qy ∈ S) (h_rpn : Part.regs .pn ∈ S) (h_qy : Part.qy ∈ S) (h_pins : Part.pins ∈ S) (h_sl : Part.sl ∈ S)
    (h_hi : Part.hi ∈ S) (h_lg : Part.lg ∈ S) (h_pn : Part.pn ∈ S) :
    Only S e0 (Dev.auditBall d pin t lvl) := by
  unfold Dev.auditBall
  (try dsimp only)
  (repeat' split) <;> simp (maxDischargeDepth := 60) only [hO, h_rsys, h_rhi, h_rsl, h_rqy, h_rpn, h_qy,
      h_pins, h_sl, h_hi, h_lg, h_pn, only_refl, only_ite, only_foldl, implies_true, only_qy, only_pins, only_sl, only_hi, only_lg, only_pn,
      auditFault_only, auditJudge_only, setPin_only, blk_TIO_PIN_OUT_CH, blk_TIO_PIN_OUT_SRC]

theorem auditNoTransitionEff_only (pin : Nat) (d : Dev) (hO : Only S e0 d) (h_rsys : Part.regs .sys ∈ S) (h_rhi : Part.regs .hi ∈ S) (h_rsl :
    Part.regs .sl ∈ S) (h_rqy : Part.regs .qy ∈ S) (h_rpn : Part.regs .pn ∈ S) (h_qy : Part.qy ∈ S) (h_pins : Part.pins ∈ S) (h_sl : Part.sl ∈ S)
    (h_hi : Part.hi ∈ S) (h_lg : Part.lg ∈ S) (h_pn : Part.pn ∈ S) :
    Only S e0 (auditNoTransitionEff pin d) := by
  unfold auditNoTransitionEff
  (try dsimp only)
  (repeat' split) <;> simp (maxDischargeDepth := 60) only [hO, h_rsys, h_rhi, h_rsl, h_rqy, h_rpn,
      h_qy, h_pins, h_sl, h_hi, h_lg, h_pn, only_refl, only_ite, only_foldl, implies_true, only_qy, only_pins, only_sl, only_hi, only_lg, only_pn,
      driverFault_only, setPin_only]

theorem driveEdge_only (d : Dev) (e : Edge) (hO : Only S e0 d) (h_rsys : Part.regs .sys ∈ S) (h_rhi : Part.regs .hi ∈ S) (h_rsl : Part.regs .sl ∈ S)
    (h_rqy : Part.regs .qy ∈ S) (h_rpn : Part.regs .pn ∈ S) (h_qy : Part.qy ∈ S) (h_pins : Part.pins ∈ S) (h_sl : Part.sl ∈ S) (h_hi : Part.hi ∈ S)
    (h_lg : Part.lg ∈ S) (h_pn : Part.pn ∈ S) :
    Only S e0 (Dev.driveEdge d e) := by
  unfold Dev.driveEdge
  simp (maxDischargeDepth := 60) only [hO, h_rsys, h_rhi, h_rsl, h_rqy, h_rpn, h_qy, h_pins, h_sl, h_hi, h_lg, h_pn,
      only_refl, only_ite, only_foldl, implies_true, only_qy, only_pins, only_sl, only_hi, only_lg, only_pn, auditExpect_only, setPin_only]

theorem edgeDone_only (d : Dev) (e : Edge) (hO : Only S e0 d) (h_rhi : Part.regs .hi ∈ S) (h_rsl : Part.regs .sl ∈ S) (h_rqy : Part.regs .qy ∈ S)
    (h_axes : Part.axes ∈ S) (h_qy : Part.qy ∈ S) (h_cw : Part.cw ∈ S) (h_sl : Part.sl ∈ S) (h_hi : Part.hi ∈ S) (h_lg : Part.lg ∈ S) :
    Only S e0
    (Dev.edgeDone d e) := by
  unfold Dev.edgeDone
  (try dsimp only)
  (repeat' split) <;> simp (maxDischargeDepth := 60) only [hO, h_rhi, h_rsl, h_rqy, h_axes, h_qy, h_cw,
      h_sl, h_hi, h_lg, only_refl, only_ite, only_foldl, implies_true, only_axes, only_qy, only_cw, only_sl, only_hi, only_lg, divideTick_only,
      endItem_only, finish_only, fire_only, setChan_only]

theorem placeEdge_only (d : Dev) (p : Nat) (e : Edge) (hO : Only S e0 d) (h_rsys : Part.regs .sys ∈ S) (h_rhi : Part.regs .hi ∈ S) (h_rsl : Part.regs
    .sl ∈ S) (h_rqy : Part.regs .qy ∈ S) (h_rpn : Part.regs .pn ∈ S) (h_axes : Part.axes ∈ S) (h_qy : Part.qy ∈ S) (h_pins : Part.pins ∈ S) (h_cw :
    Part.cw ∈ S) (h_sl : Part.sl ∈ S) (h_hi : Part.hi ∈ S) (h_lg : Part.lg ∈ S) (h_pn : Part.pn ∈ S) :
    Only S e0 (Dev.placeEdge d p e) := by
  unfold Dev.placeEdge
  simp (maxDischargeDepth := 60) only [hO, h_rsys, h_rhi, h_rsl, h_rqy, h_rpn, h_axes, h_qy, h_pins, h_cw, h_sl, h_hi, h_lg,
      h_pn, only_refl, only_ite, only_foldl, implies_true, only_axes, only_qy, only_pins, only_cw, only_sl, only_hi, only_lg, only_pn, count_only,
      driveEdge_only, edgeDone_only, setChan_only, settle_only, blk_QY_LATE_LATE_CNT]

theorem edgePlaceEff_only (p i : Nat) (d : Dev) (hO : Only S e0 d) (h_rsys : Part.regs .sys ∈ S) (h_rhi : Part.regs .hi ∈ S) (h_rsl : Part.regs .sl ∈
    S) (h_rqy : Part.regs .qy ∈ S) (h_rpn : Part.regs .pn ∈ S) (h_axes : Part.axes ∈ S) (h_qy : Part.qy ∈ S) (h_pins : Part.pins ∈ S) (h_cw : Part.cw
    ∈ S) (h_sl : Part.sl ∈ S) (h_hi : Part.hi ∈ S) (h_lg : Part.lg ∈ S) (h_pn : Part.pn ∈ S) :
    Only S e0 (edgePlaceEff p i d) := by
  unfold edgePlaceEff
  (try dsimp only)
  (repeat' split) <;> simp (maxDischargeDepth := 60) only [hO, h_rsys, h_rhi, h_rsl, h_rqy, h_rpn, h_axes,
      h_qy, h_pins, h_cw, h_sl, h_hi, h_lg, h_pn, only_refl, only_ite, only_foldl, implies_true, only_axes, only_qy, only_pins, only_cw, only_sl,
      only_hi, only_lg, only_pn, placeEdge_only, setQuay_only, blk_QY_STATUS_LOGICAL]

theorem axCount_only (d : Dev) (n : Nat) (hO : Only S e0 d) (h_axes : Part.axes ∈ S) :
    Only S e0 (Dev.axCount d n) := by
  unfold Dev.axCount
  simp (maxDischargeDepth := 60) only [hO, h_axes, only_refl, only_ite, only_foldl, implies_true, only_axes, setAxis_only,
      blk_AX_PARA_PARA]

theorem pinAxes_only (d : Dev) (pin : Nat) (e : InEdge) (hO : Only S e0 d) (h_axes : Part.axes ∈ S) (h_qy : Part.qy ∈ S) (h_cw : Part.cw ∈ S) :
    Only S e0 (Dev.pinAxes d pin e) := by
  unfold Dev.pinAxes
  simp (maxDischargeDepth := 60) only [hO, h_axes, h_qy, h_cw, only_refl, only_ite, only_foldl, implies_true, only_axes,
      only_qy, only_cw, axCount_only, axPulse_only, blk_AX_CFG_DIR_EN, blk_AX_CFG_DIR_PIN, blk_AX_CFG_DIR_POL, blk_AX_CFG_EDGE, blk_AX_CFG_SRC,
      blk_AX_CFG_SRC_IS_PIN]

theorem pinChans_only (d : Dev) (pin : Nat) (e : InEdge) (hO : Only S e0 d) (h_qy : Part.qy ∈ S) :
    Only S e0 (Dev.pinChans d pin e) := by
  unfold Dev.pinChans
  simp (maxDischargeDepth := 60) only [hO, h_qy, only_refl, only_ite, only_foldl, implies_true, only_qy, setChan_only]

theorem pinLanes_only (d : Dev) (pin : Nat) (e : InEdge) (hO : Only S e0 d) (h_pn : Part.pn ∈ S) :
    Only S e0 (Dev.pinLanes d pin e) := by
  unfold Dev.pinLanes
  simp (maxDischargeDepth := 60) only [hO, h_pn, only_refl, only_ite, only_foldl, implies_true, only_pn, setPne_only]

theorem deliverPin_only (d : Dev) (pin : Nat) (e : InEdge) (hO : Only S e0 d) (h_axes : Part.axes ∈ S) (h_trk : Part.trk ∈ S) (h_qy : Part.qy ∈ S)
    (h_pins : Part.pins ∈ S) (h_cw : Part.cw ∈ S) (h_pn : Part.pn ∈ S) :
    Only S e0 (Dev.deliverPin d pin e) := by
  unfold Dev.deliverPin
  simp (maxDischargeDepth := 60) only [hO, h_axes, h_trk, h_qy, h_pins, h_cw, h_pn, only_refl, only_ite, only_foldl,
      implies_true, only_axes, only_trk, only_qy, only_pins, only_cw, only_pn, pinAxes_only, pinChans_only, pinLanes_only, setPin_only, wtPin_only]

theorem filterIn_only (d : Dev) (pin : Nat) (lvl : Bool) (tap : Nat) (hO : Only S e0 d) (h_rtio : Part.regs .tio ∈ S) (h_pins : Part.pins ∈ S) :
    Only S e0 (Dev.filterIn d pin lvl tap) := by
  unfold Dev.filterIn
  (try dsimp only)
  (repeat' split) <;> simp (maxDischargeDepth := 60) only [hO, h_rtio, h_pins, only_refl, only_ite,
      only_foldl, implies_true, only_pins, count_only, setPin_only, blk_TIO_STAT_GLITCH_CNT]

theorem pinTransitionEff_only (pin : Nat) (level : Bool) (tap : Nat) (d : Dev) (hO : Only S e0 d) (h_rsys : Part.regs .sys ∈ S) (h_rhi : Part.regs
    .hi ∈ S) (h_rsl : Part.regs .sl ∈ S) (h_rqy : Part.regs .qy ∈ S) (h_rpn : Part.regs .pn ∈ S) (h_rtio : Part.regs .tio ∈ S) (h_qy : Part.qy ∈ S)
    (h_pins : Part.pins ∈ S) (h_sl : Part.sl ∈ S) (h_hi : Part.hi ∈ S) (h_lg : Part.lg ∈ S) (h_pn : Part.pn ∈ S) :
    Only S e0 (pinTransitionEff
    pin level tap d) := by
  unfold pinTransitionEff
  simp (maxDischargeDepth := 60) only [hO, h_rsys, h_rhi, h_rsl, h_rqy, h_rpn, h_rtio, h_qy, h_pins, h_sl, h_hi, h_lg,
      h_pn, only_refl, only_ite, only_foldl, implies_true, only_qy, only_pins, only_sl, only_hi, only_lg, only_pn, auditBall_only, filterIn_only,
      setPin_only, blk_TIO_PIN_IN_DIS, blk_TIO_PIN_IN_INV]

theorem filterAcceptEff_only (pin : Nat) (d : Dev) (hO : Only S e0 d) (h_axes : Part.axes ∈ S) (h_trk : Part.trk ∈ S) (h_qy : Part.qy ∈ S) (h_pins :
    Part.pins ∈ S) (h_cw : Part.cw ∈ S) (h_pn : Part.pn ∈ S) :
    Only S e0 (filterAcceptEff pin d) := by
  unfold filterAcceptEff
  (try dsimp only)
  (repeat' split) <;> simp (maxDischargeDepth := 60) only [hO, h_axes, h_trk, h_qy, h_pins, h_cw, h_pn,
      only_refl, only_ite, only_foldl, implies_true, only_axes, only_trk, only_qy, only_pins, only_cw, only_pn, deliverPin_only, setPin_only]

theorem writeInDis_only (d : Dev) (pin : Nat) (old : Bool) (hO : Only S e0 d) (h_rtio : Part.regs .tio ∈ S) (h_axes : Part.axes ∈ S) (h_trk :
    Part.trk ∈ S) (h_qy : Part.qy ∈ S) (h_pins : Part.pins ∈ S) (h_cw : Part.cw ∈ S) (h_pn : Part.pn ∈ S) :
    Only S e0 (Dev.writeInDis d pin old) := by
  unfold Dev.writeInDis
  simp (maxDischargeDepth := 60) only [hO, h_rtio, h_axes, h_trk, h_qy, h_pins, h_cw, h_pn, only_refl, only_ite, only_foldl,
      implies_true, only_axes, only_trk, only_qy, only_pins, only_cw, only_pn, deliverPin_only, filterIn_only, setPin_only, blk_TIO_PIN_IN_DIS,
      blk_TIO_PIN_IN_INV]

theorem settleFilter_only (d : Dev) (pin : Nat) (hO : Only S e0 d) (h_pins : Part.pins ∈ S) :
    Only S e0 (Dev.settleFilter d pin) := by
  unfold Dev.settleFilter
  simp (maxDischargeDepth := 60) only [hO, h_pins, only_refl, only_ite, only_foldl, implies_true, only_pins, setPin_only]

theorem writePin_only (d : Dev) (pin v : Nat) (hO : Only S e0 d) (h_rtio : Part.regs .tio ∈ S) (h_axes : Part.axes ∈ S) (h_trk : Part.trk ∈ S) (h_qy
    : Part.qy ∈ S) (h_pins : Part.pins ∈ S) (h_cw : Part.cw ∈ S) (h_pn : Part.pn ∈ S) :
    Only S e0 (Dev.writePin d pin v) := by
  unfold Dev.writePin
  simp (maxDischargeDepth := 60) only [hO, h_rtio, h_axes, h_trk, h_qy, h_pins, h_cw, h_pn, only_refl, only_ite, only_foldl,
      implies_true, only_axes, only_trk, only_qy, only_pins, only_cw, only_pn, setEvent_only, setFld_only, setPin_only, settleFilter_only,
      writeInDis_only, blk_TIO_PIN_FILT, blk_TIO_PIN_FUNIT, blk_TIO_PIN_IN_DIS, blk_TIO_PIN_IN_INV, blk_TIO_PIN_OUT_CH, blk_TIO_PIN_OUT_SRC,
      blk_TIO_STAT_REFUSED]

theorem axisStallEff_only (n : Nat) (d : Dev) (hO : Only S e0 d) (h_axes : Part.axes ∈ S) :
    Only S e0 (axisStallEff n d) := by
  unfold axisStallEff
  simp (maxDischargeDepth := 60) only [hO, h_axes, only_refl, only_ite, only_foldl, implies_true, only_axes, setAxis_only,
      blk_AX_PARB_PARB]

theorem pinWrite_only (d : Dev) (n k pin t : Nat) (lvl : Bool) (hO : Only S e0 d) (h_rsys : Part.regs .sys ∈ S) (h_rhi : Part.regs .hi ∈ S) (h_rsl :
    Part.regs .sl ∈ S) (h_rqy : Part.regs .qy ∈ S) (h_rpn : Part.regs .pn ∈ S) (h_qy : Part.qy ∈ S) (h_pins : Part.pins ∈ S) (h_sl : Part.sl ∈ S)
    (h_hi : Part.hi ∈ S) (h_lg : Part.lg ∈ S) (h_pn : Part.pn ∈ S) :
    Only S e0 (Dev.pinWrite d n k pin t lvl) := by
  unfold Dev.pinWrite
  (try dsimp only)
  (repeat' split) <;> simp (maxDischargeDepth := 60) only [hO, h_rsys, h_rhi, h_rsl, h_rqy, h_rpn, h_qy,
      h_pins, h_sl, h_hi, h_lg, h_pn, only_refl, only_ite, only_foldl, implies_true, only_qy, only_pins, only_sl, only_hi, only_lg, only_pn,
      auditExpect_only, setPin_only, blk_PN_STATUS_PGEN]

theorem writeLane_only (d : Dev) (n mask k t : Nat) (lvl : Bool) (hO : Only S e0 d) (h_rsys : Part.regs .sys ∈ S) (h_rhi : Part.regs .hi ∈ S) (h_rsl
    : Part.regs .sl ∈ S) (h_rqy : Part.regs .qy ∈ S) (h_rpn : Part.regs .pn ∈ S) (h_qy : Part.qy ∈ S) (h_pins : Part.pins ∈ S) (h_sl : Part.sl ∈ S)
    (h_hi : Part.hi ∈ S) (h_lg : Part.lg ∈ S) (h_pn : Part.pn ∈ S) :
    Only S e0 (Dev.writeLane d n mask k t lvl) := by
  unfold Dev.writeLane
  (try dsimp only)
  (repeat' split) <;> simp (maxDischargeDepth := 60) only [hO, h_rsys, h_rhi, h_rsl, h_rqy, h_rpn, h_qy,
      h_pins, h_sl, h_hi, h_lg, h_pn, only_refl, only_ite, only_foldl, implies_true, only_qy, only_pins, only_sl, only_hi, only_lg, only_pn,
      pinWrite_only, setPne_only]

theorem writeLanes_only (d : Dev) (n mask lvls t : Nat) (hO : Only S e0 d) (h_rsys : Part.regs .sys ∈ S) (h_rhi : Part.regs .hi ∈ S) (h_rsl :
    Part.regs .sl ∈ S) (h_rqy : Part.regs .qy ∈ S) (h_rpn : Part.regs .pn ∈ S) (h_qy : Part.qy ∈ S) (h_pins : Part.pins ∈ S) (h_sl : Part.sl ∈ S)
    (h_hi : Part.hi ∈ S) (h_lg : Part.lg ∈ S) (h_pn : Part.pn ∈ S) :
    Only S e0 (Dev.writeLanes d n mask lvls t) := by
  unfold Dev.writeLanes
  simp (maxDischargeDepth := 60) only [hO, h_rsys, h_rhi, h_rsl, h_rqy, h_rpn, h_qy, h_pins, h_sl, h_hi, h_lg, h_pn,
      only_refl, only_ite, only_foldl, implies_true, only_qy, only_pins, only_sl, only_hi, only_lg, only_pn, writeLane_only]

theorem laneMiss_only (d : Dev) (n named : Nat) (hO : Only S e0 d) (h_rpn : Part.regs .pn ∈ S) :
    Only S e0 (Dev.laneMiss d n named) := by
  unfold Dev.laneMiss
  simp (maxDischargeDepth := 60) only [hO, h_rpn, only_refl, only_ite, only_foldl, implies_true, count_only,
      blk_PN_ERR_LANE_CNT]

theorem laneAndTouch_only (d : Dev) (n k t mask lvls : Nat) (hO : Only S e0 d) (h_rsys : Part.regs .sys ∈ S) (h_rhi : Part.regs .hi ∈ S) (h_rsl :
    Part.regs .sl ∈ S) (h_rqy : Part.regs .qy ∈ S) (h_rpn : Part.regs .pn ∈ S) (h_qy : Part.qy ∈ S) (h_pins : Part.pins ∈ S) (h_sl : Part.sl ∈ S)
    (h_hi : Part.hi ∈ S) (h_lg : Part.lg ∈ S) (h_pn : Part.pn ∈ S) :
    Only S e0 (Dev.laneAndTouch d n k t mask lvls) := by
  unfold Dev.laneAndTouch
  simp (maxDischargeDepth := 60) only [hO, h_rsys, h_rhi, h_rsl, h_rqy, h_rpn, h_qy, h_pins, h_sl, h_hi, h_lg, h_pn,
      only_refl, only_ite, only_foldl, implies_true, only_qy, only_pins, only_sl, only_hi, only_lg, only_pn, laneMiss_only, setPne_only,
      writeLanes_only]

theorem pnEvent_only (d : Dev) (n k : Nat) (hO : Only S e0 d) (h_sl : Part.sl ∈ S) :
    Only S e0 (Dev.pnEvent d n k) := by
  unfold Dev.pnEvent
  simp (maxDischargeDepth := 60) only [hO, h_sl, only_refl, only_ite, only_foldl, implies_true, only_sl, raise_only,
      blk_PN_STATUS_PGEN]

theorem reqRises_only (d old : Dev) (n : Nat) (hO : Only S e0 d) (h_sl : Part.sl ∈ S)  :
    Only S e0 (d.reqRises old n) := by
  unfold Dev.reqRises
  dsimp only
  (repeat' split) <;> simp (maxDischargeDepth := 60) only [only_refl, only_ite, only_foldl, implies_true, only_sl, pnEvent_only, *]

theorem pnPush_only (d : Dev) (n : Nat) (ws : List (BitVec 32)) (hO : Only S e0 d) (h_sl : Part.sl ∈ S) (h_pn : Part.pn ∈ S) :
    Only S e0
    (Dev.pnPush d n ws) := by
  unfold Dev.pnPush
  simp (maxDischargeDepth := 60) only [hO, h_sl, h_pn, only_refl, only_ite, only_foldl, implies_true, only_sl, only_pn,
      reqRises_only, setPne_only]

theorem pnFlush_only (d : Dev) (n : Nat) (tx rx : Bool) (hO : Only S e0 d) (h_sl : Part.sl ∈ S) (h_pn : Part.pn ∈ S) :
    Only S e0 (Dev.pnFlush d n
    tx rx) := by
  unfold Dev.pnFlush
  simp (maxDischargeDepth := 60) only [hO, h_sl, h_pn, only_refl, only_ite, only_foldl, implies_true, only_sl, only_pn,
      reqRises_only, setPne_only]

theorem pnGo_only (d : Dev) (n pc ticks : Nat) (hO : Only S e0 d) (h_rpn : Part.regs .pn ∈ S) (h_pn : Part.pn ∈ S) :
    Only S e0 (Dev.pnGo d n pc
    ticks) := by
  unfold Dev.pnGo
  simp (maxDischargeDepth := 60) only [hO, h_rpn, h_pn, only_refl, only_ite, only_foldl, implies_true, only_pn, setFld_only,
      setPne_only, blk_PN_STATUS_PC]

theorem pnFall_only (d : Dev) (n ticks : Nat) (hO : Only S e0 d) (h_rpn : Part.regs .pn ∈ S) (h_pn : Part.pn ∈ S) :
    Only S e0 (Dev.pnFall d n
    ticks) := by
  unfold Dev.pnFall
  simp (maxDischargeDepth := 60) only [hO, h_rpn, h_pn, only_refl, only_ite, only_foldl, implies_true, only_pn, pnGo_only,
      blk_PN_STATUS_PC]

theorem swapReport_only (d : Dev) (c : Option Cmd) (old new bitsLost : Nat) (wait : Bool) (hO : Only S e0 d) (h_rhi : Part.regs .hi ∈ S) (h_rsl :
    Part.regs .sl ∈ S) (h_sl : Part.sl ∈ S) (h_hi : Part.hi ∈ S) (h_lg : Part.lg ∈ S) :
    Only S e0 (Dev.swapReport d c old new bitsLost wait) := by
  unfold Dev.swapReport
  (try dsimp only)
  (repeat' split) <;> simp (maxDischargeDepth := 60) only [hO, h_rhi, h_rsl, h_sl, h_hi, h_lg, only_refl,
      only_ite, only_foldl, implies_true, only_sl, only_hi, only_lg, finishAt_only]

theorem swapNow_only (d : Dev) (n : Nat) (forced : Bool) (hO : Only S e0 d) (h_rhi : Part.regs .hi ∈ S) (h_rsl : Part.regs .sl ∈ S) (h_rpn :
    Part.regs .pn ∈ S) (h_sl : Part.sl ∈ S) (h_hi : Part.hi ∈ S) (h_lg : Part.lg ∈ S) (h_pn : Part.pn ∈ S) :
    Only S e0 (Dev.swapNow d n forced) := by
  unfold Dev.swapNow
  (try dsimp only)
  (repeat' split) <;> simp (maxDischargeDepth := 60) only [hO, h_rhi, h_rsl, h_rpn, h_sl, h_hi, h_lg, h_pn,
      only_refl, only_ite, only_foldl, implies_true, only_sl, only_hi, only_lg, only_pn, count_only, pnFault_only, setFld_only, setPne_only,
      swapReport_only, blk_PN_ERR_ABANDON_CNT, blk_PN_STATUS_PC, blk_PN_STATUS_PGEN, blk_PN_STATUS_SC, blk_PN_STATUS_STATE, blk_PN_STATUS_SWAP_PEND]

theorem swapIfStill_only (d : Dev) (n : Nat) (hO : Only S e0 d) (h_rhi : Part.regs .hi ∈ S) (h_rsl : Part.regs .sl ∈ S) (h_rpn : Part.regs .pn ∈ S)
    (h_sl : Part.sl ∈ S) (h_hi : Part.hi ∈ S) (h_lg : Part.lg ∈ S) (h_pn : Part.pn ∈ S) :
    Only S e0 (Dev.swapIfStill d n) := by
  unfold Dev.swapIfStill
  simp (maxDischargeDepth := 60) only [hO, h_rhi, h_rsl, h_rpn, h_sl, h_hi, h_lg, h_pn, only_refl, only_ite, only_foldl,
      implies_true, only_sl, only_hi, only_lg, only_pn, swapNow_only]

theorem pnIssue_only (d : Dev) (n op : Nat) (parity : Bool) (f : Nat → Dev → Dev) (hO : Only S e0 d) (h_rhi : Part.regs .hi ∈ S) (h_rsl : Part.regs .sl ∈ S) (h_rpn : Part.regs .pn ∈ S) (h_sl : Part.sl ∈ S) (h_hi : Part.hi ∈ S) (h_lg : Part.lg ∈ S) (h_pn : Part.pn ∈ S) (hf : ∀ w x, Only S e0 x → Only S e0 (f w x)) :
    Only S e0 (d.pnIssue n op parity f) := by
  unfold Dev.pnIssue
  dsimp only
  split
  · split
    · simp (maxDischargeDepth := 60) only [only_refl, only_ite, only_foldl, implies_true, only_sl, only_hi, only_lg, only_pn, pnFault_only, setFld_only, swapIfStill_only, blk_PN_STATUS_PC, blk_PN_STATUS_PGEN, blk_PN_STATUS_STATE, *]
    · exact hf _ _ hO
  · exact hO

theorem pnTouchNow_only (d : Dev) (n w : Nat) (mask lvls : Nat := 0) (hO : Only S e0 d) (h_rsys : Part.regs .sys ∈ S) (h_rhi : Part.regs .hi ∈ S)
    (h_rsl : Part.regs .sl ∈ S) (h_rqy : Part.regs .qy ∈ S) (h_rpn : Part.regs .pn ∈ S) (h_qy : Part.qy ∈ S) (h_pins : Part.pins ∈ S) (h_sl : Part.sl
    ∈ S) (h_hi : Part.hi ∈ S) (h_lg : Part.lg ∈ S) (h_pn : Part.pn ∈ S) :
    Only S e0 (Dev.pnTouchNow d n w mask lvls) := by
  unfold Dev.pnTouchNow
  simp (maxDischargeDepth := 60) only [hO, h_rsys, h_rhi, h_rsl, h_rqy, h_rpn, h_qy, h_pins, h_sl, h_hi, h_lg, h_pn,
      only_refl, only_ite, only_foldl, implies_true, only_qy, only_pins, only_sl, only_hi, only_lg, only_pn, laneAndTouch_only]

theorem pnWait_only (d : Dev) (n : Nat) (hO : Only S e0 d) (h_rpn : Part.regs .pn ∈ S) (h_pn : Part.pn ∈ S) :
    Only S e0 (Dev.pnWait d n) := by
  unfold Dev.pnWait
  simp (maxDischargeDepth := 60) only [hO, h_rpn, h_pn, only_refl, only_ite, only_foldl, implies_true, only_pn, setFld_only,
      setPne_only, blk_PN_STATUS_STATE]

theorem pnResume_only (d : Dev) (n : Nat) (hO : Only S e0 d) (h_rpn : Part.regs .pn ∈ S) (h_pn : Part.pn ∈ S) :
    Only S e0 (Dev.pnResume d n) := by
  unfold Dev.pnResume
  simp (maxDischargeDepth := 60) only [hO, h_rpn, h_pn, only_refl, only_ite, only_foldl, implies_true, only_pn, pnFall_only,
      setFld_only, setPne_only, blk_PN_STATUS_STATE]

theorem pnDlyEff_only (n : Nat) (parity : Bool) (d : Dev) (hO : Only S e0 d) (h_rsys : Part.regs .sys ∈ S) (h_rhi : Part.regs .hi ∈ S) (h_rsl : Part.regs .sl ∈ S) (h_rqy : Part.regs .qy ∈ S) (h_rpn : Part.regs .pn ∈ S) (h_qy : Part.qy ∈ S) (h_pins : Part.pins ∈ S) (h_sl : Part.sl ∈ S) (h_hi : Part.hi ∈ S) (h_lg : Part.lg ∈ S) (h_pn : Part.pn ∈ S)  :
    Only S e0 (pnDlyEff n parity d) := by
  unfold pnDlyEff
  apply pnIssue_only _ _ _ _ _ hO h_rhi h_rsl h_rpn h_sl h_hi h_lg h_pn
  intro w x hx
  (try dsimp only)
  repeat' split
  all_goals first
    | simp (maxDischargeDepth := 60) only [only_refl, only_ite, only_foldl, implies_true, only_qy, only_pins, only_sl, only_hi, only_lg, only_pn, pnFall_only, pnIssue_only, pnTouchNow_only, *]
    | ((repeat' split) <;> simp (maxDischargeDepth := 60) only [only_refl, only_ite, only_foldl, implies_true, only_qy, only_pins, only_sl, only_hi, only_lg, only_pn, pnFall_only, pnIssue_only, pnTouchNow_only, *])

theorem pnJmpEff_only (n : Nat) (parity : Bool) (d : Dev) (hO : Only S e0 d) (h_rsys : Part.regs .sys ∈ S) (h_rhi : Part.regs .hi ∈ S) (h_rsl : Part.regs .sl ∈ S) (h_rqy : Part.regs .qy ∈ S) (h_rpn : Part.regs .pn ∈ S) (h_qy : Part.qy ∈ S) (h_pins : Part.pins ∈ S) (h_sl : Part.sl ∈ S) (h_hi : Part.hi ∈ S) (h_lg : Part.lg ∈ S) (h_pn : Part.pn ∈ S)  :
    Only S e0 (pnJmpEff n parity d) := by
  unfold pnJmpEff
  apply pnIssue_only _ _ _ _ _ hO h_rhi h_rsl h_rpn h_sl h_hi h_lg h_pn
  intro w x hx
  (try dsimp only)
  repeat' split
  all_goals first
    | simp (maxDischargeDepth := 60) only [only_refl, only_ite, only_foldl, implies_true, only_qy, only_pins, only_sl, only_hi, only_lg, only_pn, pnFall_only, pnGo_only, pnIssue_only, pnTouchNow_only, *]
    | ((repeat' split) <;> simp (maxDischargeDepth := 60) only [only_refl, only_ite, only_foldl, implies_true, only_qy, only_pins, only_sl, only_hi, only_lg, only_pn, pnFall_only, pnGo_only, pnIssue_only, pnTouchNow_only, *])

theorem pnOutEff_only (n : Nat) (parity : Bool) (d : Dev) (hO : Only S e0 d) (h_rsys : Part.regs .sys ∈ S) (h_rhi : Part.regs .hi ∈ S) (h_rsl : Part.regs .sl ∈ S) (h_rqy : Part.regs .qy ∈ S) (h_rpn : Part.regs .pn ∈ S) (h_qy : Part.qy ∈ S) (h_pins : Part.pins ∈ S) (h_sl : Part.sl ∈ S) (h_hi : Part.hi ∈ S) (h_lg : Part.lg ∈ S) (h_pn : Part.pn ∈ S)  :
    Only S e0 (pnOutEff n parity d) := by
  unfold pnOutEff
  apply pnIssue_only _ _ _ _ _ hO h_rhi h_rsl h_rpn h_sl h_hi h_lg h_pn
  intro w x hx
  (try dsimp only)
  repeat' split
  all_goals first
    | simp (maxDischargeDepth := 60) only [only_refl, only_ite, only_foldl, implies_true, only_qy, only_pins, only_sl, only_hi, only_lg, only_pn, pnFall_only, pnIssue_only, pnTouchNow_only, setFld_only, setPne_only, blk_PN_STATUS_SC, *]
    | ((repeat' split) <;> simp (maxDischargeDepth := 60) only [only_refl, only_ite, only_foldl, implies_true, only_qy, only_pins, only_sl, only_hi, only_lg, only_pn, pnFall_only, pnIssue_only, pnTouchNow_only, setFld_only, setPne_only, blk_PN_STATUS_SC, *])

theorem pnInEff_only (n : Nat) (parity : Bool) (d : Dev) (hO : Only S e0 d) (h_rsys : Part.regs .sys ∈ S) (h_rhi : Part.regs .hi ∈ S) (h_rsl : Part.regs .sl ∈ S) (h_rqy : Part.regs .qy ∈ S) (h_rpn : Part.regs .pn ∈ S) (h_qy : Part.qy ∈ S) (h_pins : Part.pins ∈ S) (h_sl : Part.sl ∈ S) (h_hi : Part.hi ∈ S) (h_lg : Part.lg ∈ S) (h_pn : Part.pn ∈ S)  :
    Only S e0 (pnInEff n parity d) := by
  unfold pnInEff
  apply pnIssue_only _ _ _ _ _ hO h_rhi h_rsl h_rpn h_sl h_hi h_lg h_pn
  intro w x hx
  (try dsimp only)
  repeat' split
  all_goals first
    | simp (maxDischargeDepth := 60) only [only_refl, only_ite, only_foldl, implies_true, only_qy, only_pins, only_sl, only_hi, only_lg, only_pn, pnFall_only, pnIssue_only, pnTouchNow_only, setFld_only, setPne_only, blk_PN_STATUS_SC, *]
    | ((repeat' split) <;> simp (maxDischargeDepth := 60) only [only_refl, only_ite, only_foldl, implies_true, only_qy, only_pins, only_sl, only_hi, only_lg, only_pn, pnFall_only, pnIssue_only, pnTouchNow_only, setFld_only, setPne_only, blk_PN_STATUS_SC, *])

theorem pnLdiEff_only (n : Nat) (parity : Bool) (d : Dev) (hO : Only S e0 d) (h_rsys : Part.regs .sys ∈ S) (h_rhi : Part.regs .hi ∈ S) (h_rsl : Part.regs .sl ∈ S) (h_rqy : Part.regs .qy ∈ S) (h_rpn : Part.regs .pn ∈ S) (h_qy : Part.qy ∈ S) (h_pins : Part.pins ∈ S) (h_sl : Part.sl ∈ S) (h_hi : Part.hi ∈ S) (h_lg : Part.lg ∈ S) (h_pn : Part.pn ∈ S)  :
    Only S e0 (pnLdiEff n parity d) := by
  unfold pnLdiEff
  apply pnIssue_only _ _ _ _ _ hO h_rhi h_rsl h_rpn h_sl h_hi h_lg h_pn
  intro w x hx
  (try dsimp only)
  repeat' split
  all_goals first
    | simp (maxDischargeDepth := 60) only [only_refl, only_ite, only_foldl, implies_true, only_qy, only_pins, only_sl, only_hi, only_lg, only_pn, pnFall_only, pnIssue_only, pnTouchNow_only, setPne_only, *]
    | ((repeat' split) <;> simp (maxDischargeDepth := 60) only [only_refl, only_ite, only_foldl, implies_true, only_qy, only_pins, only_sl, only_hi, only_lg, only_pn, pnFall_only, pnIssue_only, pnTouchNow_only, setPne_only, *])

theorem pnMovEff_only (n : Nat) (parity : Bool) (d : Dev) (hO : Only S e0 d) (h_rsys : Part.regs .sys ∈ S) (h_rhi : Part.regs .hi ∈ S) (h_rsl : Part.regs .sl ∈ S) (h_rqy : Part.regs .qy ∈ S) (h_rpn : Part.regs .pn ∈ S) (h_qy : Part.qy ∈ S) (h_pins : Part.pins ∈ S) (h_sl : Part.sl ∈ S) (h_hi : Part.hi ∈ S) (h_lg : Part.lg ∈ S) (h_pn : Part.pn ∈ S)  :
    Only S e0 (pnMovEff n parity d) := by
  unfold pnMovEff
  apply pnIssue_only _ _ _ _ _ hO h_rhi h_rsl h_rpn h_sl h_hi h_lg h_pn
  intro w x hx
  (try dsimp only)
  repeat' split
  all_goals first
    | simp (maxDischargeDepth := 60) only [only_refl, only_ite, only_foldl, implies_true, only_qy, only_pins, only_sl, only_hi, only_lg, only_pn, pnFall_only, pnIssue_only, pnTouchNow_only, setPne_only, *]
    | ((repeat' split) <;> simp (maxDischargeDepth := 60) only [only_refl, only_ite, only_foldl, implies_true, only_qy, only_pins, only_sl, only_hi, only_lg, only_pn, pnFall_only, pnIssue_only, pnTouchNow_only, setPne_only, *])

theorem pnDjnzEff_only (n : Nat) (parity : Bool) (d : Dev) (hO : Only S e0 d) (h_rsys : Part.regs .sys ∈ S) (h_rhi : Part.regs .hi ∈ S) (h_rsl : Part.regs .sl ∈ S) (h_rqy : Part.regs .qy ∈ S) (h_rpn : Part.regs .pn ∈ S) (h_qy : Part.qy ∈ S) (h_pins : Part.pins ∈ S) (h_sl : Part.sl ∈ S) (h_hi : Part.hi ∈ S) (h_lg : Part.lg ∈ S) (h_pn : Part.pn ∈ S)  :
    Only S e0 (pnDjnzEff n parity d) := by
  unfold pnDjnzEff
  apply pnIssue_only _ _ _ _ _ hO h_rhi h_rsl h_rpn h_sl h_hi h_lg h_pn
  intro w x hx
  (try dsimp only)
  repeat' split
  all_goals first
    | simp (maxDischargeDepth := 60) only [only_refl, only_ite, only_foldl, implies_true, only_qy, only_pins, only_sl, only_hi, only_lg, only_pn, pnFall_only, pnGo_only, pnIssue_only, pnTouchNow_only, setPne_only, *]
    | ((repeat' split) <;> simp (maxDischargeDepth := 60) only [only_refl, only_ite, only_foldl, implies_true, only_qy, only_pins, only_sl, only_hi, only_lg, only_pn, pnFall_only, pnGo_only, pnIssue_only, pnTouchNow_only, setPne_only, *])

theorem pnSigEff_only (n : Nat) (parity : Bool) (d : Dev) (hO : Only S e0 d) (h_rsys : Part.regs .sys ∈ S) (h_rhi : Part.regs .hi ∈ S) (h_rsl : Part.regs .sl ∈ S) (h_rqy : Part.regs .qy ∈ S) (h_rpn : Part.regs .pn ∈ S) (h_rbh : Part.regs .bh ∈ S) (h_qy : Part.qy ∈ S) (h_pins : Part.pins ∈ S) (h_dr : Part.dr ∈ S) (h_sl : Part.sl ∈ S) (h_hi : Part.hi ∈ S) (h_lg : Part.lg ∈ S) (h_sf : Part.sf ∈ S) (h_pn : Part.pn ∈ S)  :
    Only S e0 (pnSigEff n parity d) := by
  unfold pnSigEff
  apply pnIssue_only _ _ _ _ _ hO h_rhi h_rsl h_rpn h_sl h_hi h_lg h_pn
  intro w x hx
  (try dsimp only)
  repeat' split
  all_goals first
    | simp (maxDischargeDepth := 60) only [only_refl, only_ite, only_foldl, implies_true, only_qy, only_pins, only_dr, only_sl, only_hi, only_lg, only_sf, only_pn, pnEvent_only, pnFall_only, pnIssue_only, pnTouchNow_only, setSf_only, *]
    | ((repeat' split) <;> simp (maxDischargeDepth := 60) only [only_refl, only_ite, only_foldl, implies_true, only_qy, only_pins, only_dr, only_sl, only_hi, only_lg, only_sf, only_pn, pnEvent_only, pnFall_only, pnIssue_only, pnTouchNow_only, setSf_only, *])

theorem pnEndEff_only (n : Nat) (parity : Bool) (d : Dev) (hO : Only S e0 d) (h_rsys : Part.regs .sys ∈ S) (h_rhi : Part.regs .hi ∈ S) (h_rsl : Part.regs .sl ∈ S) (h_rqy : Part.regs .qy ∈ S) (h_rpn : Part.regs .pn ∈ S) (h_qy : Part.qy ∈ S) (h_pins : Part.pins ∈ S) (h_sl : Part.sl ∈ S) (h_hi : Part.hi ∈ S) (h_lg : Part.lg ∈ S) (h_pn : Part.pn ∈ S)  :
    Only S e0 (pnEndEff n parity d) := by
  unfold pnEndEff
  apply pnIssue_only _ _ _ _ _ hO h_rhi h_rsl h_rpn h_sl h_hi h_lg h_pn
  intro w x hx
  (try dsimp only)
  repeat' split
  all_goals first
    | simp (maxDischargeDepth := 60) only [only_refl, only_ite, only_foldl, implies_true, only_qy, only_pins, only_sl, only_hi, only_lg, only_pn, pnEvent_only, pnIssue_only, pnTouchNow_only, setFld_only, swapIfStill_only, blk_PN_STATUS_STATE, *]
    | ((repeat' split) <;> simp (maxDischargeDepth := 60) only [only_refl, only_ite, only_foldl, implies_true, only_qy, only_pins, only_sl, only_hi, only_lg, only_pn, pnEvent_only, pnIssue_only, pnTouchNow_only, setFld_only, swapIfStill_only, blk_PN_STATUS_STATE, *])

theorem pnMove_only (d e : Dev) (n w : Nat) (capt : List (BitVec 32)) (hO : Only S e0 d) (h_rpn : Part.regs .pn ∈ S) (h_sl : Part.sl ∈ S)
    (h_pn : Part.pn ∈ S) (hm : d.pnMove n w capt = some e) : Only S e0 e := by
  unfold Dev.pnMove at hm
  dsimp only at hm
  repeat' split at hm
  all_goals cases hm
  all_goals simp (maxDischargeDepth := 60) only [only_refl, only_ite, only_foldl, implies_true, only_sl, only_pn, pnPush_only, reqRises_only, setFld_only, setPne_only, blk_PN_STATUS_SC, *]

theorem pnMiss_only (d : Dev) (n w : Nat) (hO : Only S e0 d) (h_rpn : Part.regs .pn ∈ S) :
    Only S e0 (Dev.pnMiss d n w) := by
  unfold Dev.pnMiss
  simp (maxDischargeDepth := 60) only [hO, h_rpn, only_refl, only_ite, only_foldl, implies_true, count_only, setFld_only,
      blk_PN_CNT_DROP_CNT, blk_PN_CNT_STALE_CNT, blk_PN_STATUS_SC]

theorem pnFifo_only (d : Dev) (n w : Nat) (hO : Only S e0 d) (h_rsys : Part.regs .sys ∈ S) (h_rhi : Part.regs .hi ∈ S) (h_rsl : Part.regs .sl ∈ S) (h_rqy : Part.regs .qy ∈ S) (h_rpn : Part.regs .pn ∈ S) (h_qy : Part.qy ∈ S) (h_pins : Part.pins ∈ S) (h_sl : Part.sl ∈ S) (h_hi : Part.hi ∈ S) (h_lg : Part.lg ∈ S) (h_pn : Part.pn ∈ S)  :
    Only S e0 (d.pnFifo n w) := by
  unfold Dev.pnFifo
  split
  · rename_i e h
    have k := pnMove_only d e n w _ hO h_rpn h_sl h_pn h
    simp (maxDischargeDepth := 60) only [only_refl, only_ite, only_foldl, implies_true, only_qy, only_pins, only_sl, only_hi, only_lg, only_pn, pnFall_only, pnMiss_only, pnTouchNow_only, pnWait_only, setPne_only, *]
  · split <;> simp (maxDischargeDepth := 60) only [only_refl, only_ite, only_foldl, implies_true, only_qy, only_pins, only_sl, only_hi, only_lg, only_pn, pnFall_only, pnMiss_only, pnTouchNow_only, pnWait_only, setPne_only, *]

theorem pnPushEff_only (n : Nat) (parity : Bool) (d : Dev) (hO : Only S e0 d) (h_rsys : Part.regs .sys ∈ S) (h_rhi : Part.regs .hi ∈ S) (h_rsl : Part.regs .sl ∈ S) (h_rqy : Part.regs .qy ∈ S) (h_rpn : Part.regs .pn ∈ S) (h_qy : Part.qy ∈ S) (h_pins : Part.pins ∈ S) (h_sl : Part.sl ∈ S) (h_hi : Part.hi ∈ S) (h_lg : Part.lg ∈ S) (h_pn : Part.pn ∈ S)  :
    Only S e0 (pnPushEff n parity d) := by
  unfold pnPushEff
  apply pnIssue_only _ _ _ _ _ hO h_rhi h_rsl h_rpn h_sl h_hi h_lg h_pn
  intro w x hx
  (try dsimp only)
  repeat' split
  all_goals first
    | simp (maxDischargeDepth := 60) only [only_refl, only_ite, only_foldl, implies_true, only_qy, only_pins, only_sl, only_hi, only_lg, only_pn, pnFifo_only, pnIssue_only, *]
    | ((repeat' split) <;> simp (maxDischargeDepth := 60) only [only_refl, only_ite, only_foldl, implies_true, only_qy, only_pins, only_sl, only_hi, only_lg, only_pn, pnFifo_only, pnIssue_only, *])

theorem pnPullEff_only (n : Nat) (parity : Bool) (d : Dev) (hO : Only S e0 d) (h_rsys : Part.regs .sys ∈ S) (h_rhi : Part.regs .hi ∈ S) (h_rsl : Part.regs .sl ∈ S) (h_rqy : Part.regs .qy ∈ S) (h_rpn : Part.regs .pn ∈ S) (h_qy : Part.qy ∈ S) (h_pins : Part.pins ∈ S) (h_sl : Part.sl ∈ S) (h_hi : Part.hi ∈ S) (h_lg : Part.lg ∈ S) (h_pn : Part.pn ∈ S)  :
    Only S e0 (pnPullEff n parity d) := by
  unfold pnPullEff
  apply pnIssue_only _ _ _ _ _ hO h_rhi h_rsl h_rpn h_sl h_hi h_lg h_pn
  intro w x hx
  (try dsimp only)
  repeat' split
  all_goals first
    | simp (maxDischargeDepth := 60) only [only_refl, only_ite, only_foldl, implies_true, only_qy, only_pins, only_sl, only_hi, only_lg, only_pn, pnFifo_only, pnIssue_only, *]
    | ((repeat' split) <;> simp (maxDischargeDepth := 60) only [only_refl, only_ite, only_foldl, implies_true, only_qy, only_pins, only_sl, only_hi, only_lg, only_pn, pnFifo_only, pnIssue_only, *])

theorem pnCaptEff_only (n : Nat) (parity : Bool) (d : Dev) (hO : Only S e0 d) (h_rsys : Part.regs .sys ∈ S) (h_rhi : Part.regs .hi ∈ S) (h_rsl : Part.regs .sl ∈ S) (h_rqy : Part.regs .qy ∈ S) (h_rpn : Part.regs .pn ∈ S) (h_qy : Part.qy ∈ S) (h_pins : Part.pins ∈ S) (h_sl : Part.sl ∈ S) (h_hi : Part.hi ∈ S) (h_lg : Part.lg ∈ S) (h_pn : Part.pn ∈ S)  :
    Only S e0 (pnCaptEff n parity d) := by
  unfold pnCaptEff
  apply pnIssue_only _ _ _ _ _ hO h_rhi h_rsl h_rpn h_sl h_hi h_lg h_pn
  intro w x hx
  (try dsimp only)
  repeat' split
  all_goals first
    | simp (maxDischargeDepth := 60) only [only_refl, only_ite, only_foldl, implies_true, only_qy, only_pins, only_sl, only_hi, only_lg, only_pn, pnFifo_only, pnIssue_only, *]
    | ((repeat' split) <;> simp (maxDischargeDepth := 60) only [only_refl, only_ite, only_foldl, implies_true, only_qy, only_pins, only_sl, only_hi, only_lg, only_pn, pnFifo_only, pnIssue_only, *])

theorem pnBlockReleaseEff_only (n : Nat) (d : Dev) (hO : Only S e0 d) (h_rsys : Part.regs .sys ∈ S) (h_rhi : Part.regs .hi ∈ S) (h_rsl : Part.regs .sl ∈ S) (h_rqy : Part.regs .qy ∈ S) (h_rpn : Part.regs .pn ∈ S) (h_qy : Part.qy ∈ S) (h_pins : Part.pins ∈ S) (h_sl : Part.sl ∈ S) (h_hi : Part.hi ∈ S) (h_lg : Part.lg ∈ S) (h_pn : Part.pn ∈ S)  :
    Only S e0 (pnBlockReleaseEff n d) := by
  unfold pnBlockReleaseEff
  dsimp only
  split
  · split
    · rename_i e h
      have k := pnMove_only d e n _ _ hO h_rpn h_sl h_pn h
      simp (maxDischargeDepth := 60) only [only_refl, only_ite, only_foldl, implies_true, only_qy, only_pins, only_sl, only_hi, only_lg, only_pn, pnResume_only, pnTouchNow_only, *]
    · exact hO
  · exact hO

theorem pnWaitpEff_only (n : Nat) (parity : Bool) (d : Dev) (hO : Only S e0 d) (h_rhi : Part.regs .hi ∈ S) (h_rsl : Part.regs .sl ∈ S) (h_rpn : Part.regs .pn ∈ S) (h_sl : Part.sl ∈ S) (h_hi : Part.hi ∈ S) (h_lg : Part.lg ∈ S) (h_pn : Part.pn ∈ S)  :
    Only S e0 (pnWaitpEff n parity d) := by
  unfold pnWaitpEff
  apply pnIssue_only _ _ _ _ _ hO h_rhi h_rsl h_rpn h_sl h_hi h_lg h_pn
  intro w x hx
  (try dsimp only)
  repeat' split
  all_goals first
    | simp (maxDischargeDepth := 60) only [only_refl, only_ite, only_foldl, implies_true, only_sl, only_hi, only_lg, only_pn, pnIssue_only, pnWait_only, *]
    | ((repeat' split) <;> simp (maxDischargeDepth := 60) only [only_refl, only_ite, only_foldl, implies_true, only_sl, only_hi, only_lg, only_pn, pnIssue_only, pnWait_only, *])

theorem pnWaitfEff_only (n : Nat) (parity : Bool) (d : Dev) (hO : Only S e0 d) (h_rhi : Part.regs .hi ∈ S) (h_rsl : Part.regs .sl ∈ S) (h_rpn : Part.regs .pn ∈ S) (h_sl : Part.sl ∈ S) (h_hi : Part.hi ∈ S) (h_lg : Part.lg ∈ S) (h_pn : Part.pn ∈ S)  :
    Only S e0 (pnWaitfEff n parity d) := by
  unfold pnWaitfEff
  apply pnIssue_only _ _ _ _ _ hO h_rhi h_rsl h_rpn h_sl h_hi h_lg h_pn
  intro w x hx
  (try dsimp only)
  repeat' split
  all_goals first
    | simp (maxDischargeDepth := 60) only [only_refl, only_ite, only_foldl, implies_true, only_sl, only_hi, only_lg, only_pn, pnIssue_only, pnWait_only, *]
    | ((repeat' split) <;> simp (maxDischargeDepth := 60) only [only_refl, only_ite, only_foldl, implies_true, only_sl, only_hi, only_lg, only_pn, pnIssue_only, pnWait_only, *])

theorem pnWaiteEff_only (n : Nat) (parity : Bool) (d : Dev) (hO : Only S e0 d) (h_rhi : Part.regs .hi ∈ S) (h_rsl : Part.regs .sl ∈ S) (h_rpn : Part.regs .pn ∈ S) (h_sl : Part.sl ∈ S) (h_hi : Part.hi ∈ S) (h_lg : Part.lg ∈ S) (h_pn : Part.pn ∈ S)  :
    Only S e0 (pnWaiteEff n parity d) := by
  unfold pnWaiteEff
  apply pnIssue_only _ _ _ _ _ hO h_rhi h_rsl h_rpn h_sl h_hi h_lg h_pn
  intro w x hx
  (try dsimp only)
  repeat' split
  all_goals first
    | simp (maxDischargeDepth := 60) only [only_refl, only_ite, only_foldl, implies_true, only_sl, only_hi, only_lg, only_pn, pnIssue_only, pnWait_only, *]
    | ((repeat' split) <;> simp (maxDischargeDepth := 60) only [only_refl, only_ite, only_foldl, implies_true, only_sl, only_hi, only_lg, only_pn, pnIssue_only, pnWait_only, *])

theorem pnWaitxEff_only (n : Nat) (parity : Bool) (d : Dev) (hO : Only S e0 d) (h_rhi : Part.regs .hi ∈ S) (h_rsl : Part.regs .sl ∈ S) (h_rpn : Part.regs .pn ∈ S) (h_sl : Part.sl ∈ S) (h_hi : Part.hi ∈ S) (h_lg : Part.lg ∈ S) (h_pn : Part.pn ∈ S)  :
    Only S e0 (pnWaitxEff n parity d) := by
  unfold pnWaitxEff
  apply pnIssue_only _ _ _ _ _ hO h_rhi h_rsl h_rpn h_sl h_hi h_lg h_pn
  intro w x hx
  (try dsimp only)
  repeat' split
  all_goals first
    | simp (maxDischargeDepth := 60) only [only_refl, only_ite, only_foldl, implies_true, only_sl, only_hi, only_lg, only_pn, pnIssue_only, pnWait_only, *]
    | ((repeat' split) <;> simp (maxDischargeDepth := 60) only [only_refl, only_ite, only_foldl, implies_true, only_sl, only_hi, only_lg, only_pn, pnIssue_only, pnWait_only, *])

theorem pnWaitSatisfiedEff_only (n : Nat) (d : Dev) (hO : Only S e0 d) (h_rsys : Part.regs .sys ∈ S) (h_rhi : Part.regs .hi ∈ S) (h_rsl : Part.regs
    .sl ∈ S) (h_rqy : Part.regs .qy ∈ S) (h_rpn : Part.regs .pn ∈ S) (h_rbh : Part.regs .bh ∈ S) (h_qy : Part.qy ∈ S) (h_pins : Part.pins ∈ S) (h_dr
    : Part.dr ∈ S) (h_sl : Part.sl ∈ S) (h_hi : Part.hi ∈ S) (h_lg : Part.lg ∈ S) (h_sf : Part.sf ∈ S) (h_pn : Part.pn ∈ S) :
    Only S e0
    (pnWaitSatisfiedEff n d) := by
  unfold pnWaitSatisfiedEff
  (try dsimp only)
  (repeat' split) <;> simp (maxDischargeDepth := 60) only [hO, h_rsys, h_rhi, h_rsl, h_rqy, h_rpn,
      h_rbh, h_qy, h_pins, h_dr, h_sl, h_hi, h_lg, h_sf, h_pn, only_refl, only_ite, only_foldl, implies_true, only_qy, only_pins, only_dr, only_sl,
      only_hi, only_lg, only_sf, only_pn, latch_only, pnResume_only, pnTouchNow_only, setPne_only, setSf_only]

theorem pnWaitTimeoutEff_only (n : Nat) (d : Dev) (hO : Only S e0 d) (h_rsys : Part.regs .sys ∈ S) (h_rhi : Part.regs .hi ∈ S) (h_rsl : Part.regs .sl
    ∈ S) (h_rqy : Part.regs .qy ∈ S) (h_rpn : Part.regs .pn ∈ S) (h_rbh : Part.regs .bh ∈ S) (h_qy : Part.qy ∈ S) (h_pins : Part.pins ∈ S) (h_dr :
    Part.dr ∈ S) (h_sl : Part.sl ∈ S) (h_hi : Part.hi ∈ S) (h_lg : Part.lg ∈ S) (h_sf : Part.sf ∈ S) (h_pn : Part.pn ∈ S) :
    Only S e0
    (pnWaitTimeoutEff n d) := by
  unfold pnWaitTimeoutEff
  simp (maxDischargeDepth := 60) only [hO, h_rsys, h_rhi, h_rsl, h_rqy, h_rpn, h_rbh, h_qy, h_pins, h_dr, h_sl, h_hi, h_lg,
      h_sf, h_pn, only_refl, only_ite, only_foldl, implies_true, only_qy, only_pins, only_dr, only_sl, only_hi, only_lg, only_sf, only_pn,
      pnResume_only, pnWaitSatisfiedEff_only]

theorem waitxPlaced_only (d : Dev) (e : Edge) (hO : Only S e0 d) (h_rsys : Part.regs .sys ∈ S) (h_rhi : Part.regs .hi ∈ S) (h_rsl : Part.regs .sl ∈
    S) (h_rqy : Part.regs .qy ∈ S) (h_rpn : Part.regs .pn ∈ S) (h_qy : Part.qy ∈ S) (h_pins : Part.pins ∈ S) (h_sl : Part.sl ∈ S) (h_hi : Part.hi ∈
    S) (h_lg : Part.lg ∈ S) (h_pn : Part.pn ∈ S) :
    Only S e0 (Dev.waitxPlaced d e) := by
  unfold Dev.waitxPlaced
  simp (maxDischargeDepth := 60) only [hO, h_rsys, h_rhi, h_rsl, h_rqy, h_rpn, h_qy, h_pins, h_sl, h_hi, h_lg, h_pn,
      only_refl, only_ite, only_foldl, implies_true, only_qy, only_pins, only_sl, only_hi, only_lg, only_pn, laneAndTouch_only, setPne_only]

theorem edgePlaceAllEff_only (p i : Nat) (d : Dev) (hO : Only S e0 d) (h_rsys : Part.regs .sys ∈ S) (h_rhi : Part.regs .hi ∈ S) (h_rsl : Part.regs
    .sl ∈ S) (h_rqy : Part.regs .qy ∈ S) (h_rpn : Part.regs .pn ∈ S) (h_axes : Part.axes ∈ S) (h_qy : Part.qy ∈ S) (h_pins : Part.pins ∈ S) (h_cw :
    Part.cw ∈ S) (h_sl : Part.sl ∈ S) (h_hi : Part.hi ∈ S) (h_lg : Part.lg ∈ S) (h_pn : Part.pn ∈ S) :
    Only S e0 (edgePlaceAllEff p i d) := by
  unfold edgePlaceAllEff
  (try dsimp only)
  (repeat' split) <;> simp (maxDischargeDepth := 60) only [hO, h_rsys, h_rhi, h_rsl, h_rqy, h_rpn,
      h_axes, h_qy, h_pins, h_cw, h_sl, h_hi, h_lg, h_pn, only_refl, only_ite, only_foldl, implies_true, only_axes, only_qy, only_pins, only_cw,
      only_sl, only_hi, only_lg, only_pn, waitxPlaced_only, edgePlaceEff_only, blk_QY_STATUS_LOGICAL]

theorem pnLatch_only (d : Dev) (s : Nat) (hO : Only S e0 d) (h_rsl : Part.regs .sl ∈ S) (h_sl : Part.sl ∈ S) (h_hi : Part.hi ∈ S) (h_lg : Part.lg ∈
    S) (h_pn : Part.pn ∈ S) :
    Only S e0 (Dev.pnLatch d s) := by
  unfold Dev.pnLatch
  simp (maxDischargeDepth := 60) only [hO, h_rsl, h_sl, h_hi, h_lg, h_pn, only_refl, only_ite, only_foldl, implies_true,
      only_sl, only_hi, only_lg, only_pn, latch_only, setPne_only]

theorem pnTick_only (d : Dev) (n : Nat) (hO : Only S e0 d) (h_pn : Part.pn ∈ S) :
    Only S e0 (Dev.pnTick d n) := by
  unfold Dev.pnTick
  simp (maxDischargeDepth := 60) only [hO, h_pn, only_refl, only_ite, only_foldl, implies_true, only_pn, setPne_only]

theorem shadowLoad_only (d : Dev) (n : Nat) (p : BitVec 1024) (c : Option Cmd) (hO : Only S e0 d) (h_rhi : Part.regs .hi ∈ S) (h_rsl : Part.regs .sl
    ∈ S) (h_rpn : Part.regs .pn ∈ S) (h_sl : Part.sl ∈ S) (h_hi : Part.hi ∈ S) (h_lg : Part.lg ∈ S) (h_pn : Part.pn ∈ S) :
    Only S e0
    (Dev.shadowLoad d n p c) := by
  unfold Dev.shadowLoad
  (try dsimp only)
  (repeat' split) <;> simp (maxDischargeDepth := 60) only [hO, h_rhi, h_rsl, h_rpn, h_sl, h_hi, h_lg,
      h_pn, only_refl, only_ite, only_foldl, implies_true, only_sl, only_hi, only_lg, only_pn, finish_only, setFld_only, setPne_only,
      swapIfStill_only, blk_PN_STATUS_SWAP_PEND]

theorem pnSwapEff_only (n : Nat) (d : Dev) (hO : Only S e0 d) (h_rhi : Part.regs .hi ∈ S) (h_rsl : Part.regs .sl ∈ S) (h_rpn : Part.regs .pn ∈ S)
    (h_sl : Part.sl ∈ S) (h_hi : Part.hi ∈ S) (h_lg : Part.lg ∈ S) (h_pn : Part.pn ∈ S) :
    Only S e0 (pnSwapEff n d) := by
  unfold pnSwapEff
  (try dsimp only)
  (repeat' split) <;> simp (maxDischargeDepth := 60) only [hO, h_rhi, h_rsl, h_rpn, h_sl, h_hi, h_lg, h_pn,
      only_refl, only_ite, only_foldl, implies_true, only_sl, only_hi, only_lg, only_pn, swapNow_only, blk_PN_STATUS_PC]

theorem swapDeadlineExpireEff_only (n : Nat) (d : Dev) (hO : Only S e0 d) (h_rsys : Part.regs .sys ∈ S) (h_rhi : Part.regs .hi ∈ S) (h_rsl :
    Part.regs .sl ∈ S) (h_rqy : Part.regs .qy ∈ S) (h_rpn : Part.regs .pn ∈ S) (h_rbh : Part.regs .bh ∈ S) (h_qy : Part.qy ∈ S) (h_pins : Part.pins ∈
    S) (h_dr : Part.dr ∈ S) (h_sl : Part.sl ∈ S) (h_hi : Part.hi ∈ S) (h_lg : Part.lg ∈ S) (h_sf : Part.sf ∈ S) (h_pn : Part.pn ∈ S) :
    Only S e0
    (swapDeadlineExpireEff n d) := by
  unfold swapDeadlineExpireEff
  (try dsimp only)
  (repeat' split) <;> simp (maxDischargeDepth := 60) only [hO, h_rsys, h_rhi, h_rsl, h_rqy, h_rpn,
      h_rbh, h_qy, h_pins, h_dr, h_sl, h_hi, h_lg, h_sf, h_pn, only_refl, only_ite, only_foldl, implies_true, only_qy, only_pins, only_dr, only_sl,
      only_hi, only_lg, only_sf, only_pn, swapNow_only, pnWaitSatisfiedEff_only]

theorem swapsStart_only (d : Dev) (hO : Only S e0 d) (h_pn : Part.pn ∈ S)  :
    Only S e0 d.swapsStart := by
  unfold Dev.swapsStart
  apply only_foldl _ hO
  intro x a
  (repeat' split) <;> simp (maxDischargeDepth := 60) only [only_refl, only_ite, only_foldl, implies_true, only_pn, setPne_only, *]

theorem slewCompleteEff_only (d : Dev) (hO : Only S e0 d) (h_tb : Part.tb ∈ S) :
    Only S e0 (slewCompleteEff d) := by
  unfold slewCompleteEff
  simp (maxDischargeDepth := 60) only [hO, h_tb, only_refl, only_ite, only_foldl, implies_true, only_tb, tclk_only]

theorem setRates_only (d : Dev) (rate rem : Int) (hO : Only S e0 d) (h_tb : Part.tb ∈ S) :
    Only S e0 (Dev.setRates d rate rem) := by
  unfold Dev.setRates
  simp (maxDischargeDepth := 60) only [hO, h_tb, only_refl, only_ite, only_foldl, implies_true, only_tb]

theorem locked_only (d : Dev) (unc : Nat) (hO : Only S e0 d) (h_rax : Part.regs .ax ∈ S) (h_tb : Part.tb ∈ S) (h_sl : Part.sl ∈ S) :
    Only S e0
    (Dev.locked d unc) := by
  unfold Dev.locked
  simp (maxDischargeDepth := 60) only [hO, h_rax, h_tb, h_sl, only_refl, only_ite, only_foldl, implies_true, only_tb, only_sl,
      setAx0State_only]

theorem discipline_only (d : Dev) (rateMode : Bool) (rate corr : Int) (corrMode unc seq : Nat) (hO : Only S e0 d) (h_rax : Part.regs .ax ∈ S) (h_tb :
    Part.tb ∈ S) (h_sl : Part.sl ∈ S) :
    Only S e0 (Dev.discipline d rateMode rate corr corrMode unc seq).2 := by
  unfold Dev.discipline
  (try dsimp only)
  (repeat' split) <;> simp (maxDischargeDepth := 60) only [hO, h_rax, h_tb, h_sl, only_refl, only_ite,
      only_foldl, implies_true, only_tb, only_sl, locked_only, setRates_only, blk_AX0_SLEW_RSTEP_PPM, blk_AX0_STATUS_STATE, blk_AX0_STATUS_STEP_COUNT]

theorem rebase_only (d : Dev) (v : Nat) (hO : Only S e0 d) (h_axes : Part.axes ∈ S) (h_trk : Part.trk ∈ S) (h_qy : Part.qy ∈ S) (h_pins : Part.pins ∈ S)  :
    Only S e0 (d.rebase v) := by
  unfold Dev.rebase
  intro p hp
  have k := hO p hp
  cases p <;> first | exact absurd ‹_› hp | exact k

theorem stepApply_only (d : Dev) (r : StepReq) (hO : Only S e0 d) (h_rsys : Part.regs .sys ∈ S) (h_rhi : Part.regs .hi ∈ S) (h_rax : Part.regs .ax ∈
    S) (h_rsl : Part.regs .sl ∈ S) (h_tb : Part.tb ∈ S) (h_axes : Part.axes ∈ S) (h_trk : Part.trk ∈ S) (h_qy : Part.qy ∈ S) (h_pins : Part.pins ∈ S)
    (h_sl : Part.sl ∈ S) (h_hi : Part.hi ∈ S) (h_lg : Part.lg ∈ S) :
    Only S e0 (Dev.stepApply d r) := by
  unfold Dev.stepApply
  simp (maxDischargeDepth := 60) only [hO, h_rsys, h_rhi, h_rax, h_rsl, h_tb, h_axes, h_trk, h_qy, h_pins, h_sl, h_hi, h_lg,
      only_refl, only_ite, only_foldl, implies_true, only_tb, only_axes, only_trk, only_qy, only_pins, only_sl, only_hi, only_lg, finish_only,
      generate_only, locked_only, rebase_only, setFault_only, setFld_only, blk_AX0_REPAIR_REPAIRING, blk_AX0_STATUS_STATE, blk_AX0_STATUS_STEP_COUNT,
      blk_CQ_CFG_CQ_HQ, blk_SYS_FAULT_AX0_INVALID, blk_SYS_MODE_STEPPED]

theorem raiseVote_only (d : Dev) (event acc attempts xor : Nat) (hO : Only S e0 d) (h_sl : Part.sl ∈ S) :
    Only S e0 (Dev.raiseVote d event acc
    attempts xor) := by
  unfold Dev.raiseVote
  simp (maxDischargeDepth := 60) only [hO, h_sl, only_refl, only_ite, only_foldl, implies_true, only_sl, raiseSys_only]

theorem setAccum_only (d : Dev) (i : Nat) (a : Accum) (hO : Only S e0 d) (h_tb : Part.tb ∈ S) :
    Only S e0 (Dev.setAccum d i a) := by
  unfold Dev.setAccum
  (try dsimp only)
  (repeat' split) <;> simp (maxDischargeDepth := 60) only [hO, h_tb, only_refl, only_ite, only_foldl,
      implies_true, only_tb]

theorem invalidate_only (d : Dev) (v : BitVec 112) (hO : Only S e0 d) (h_rsys : Part.regs .sys ∈ S) (h_rax : Part.regs .ax ∈ S) (h_tb : Part.tb ∈ S)
    (h_sys : Part.sys ∈ S) (h_cw : Part.cw ∈ S) (h_sl : Part.sl ∈ S) :
    Only S e0 (Dev.invalidate d v) := by
  unfold Dev.invalidate
  simp (maxDischargeDepth := 60) only [hO, h_rsys, h_rax, h_tb, h_sys, h_cw, h_sl, only_refl, only_ite, only_foldl,
      implies_true, only_tb, only_sys, only_cw, only_sl, enterSteady_only, raiseVote_only, setAx0State_only, setFault_only, setFld_only,
      blk_AX0_REPAIR_ATTEMPTS, blk_AX0_REPAIR_REPAIRING, blk_SYS_FAULT_AX0_INVALID]

theorem noMajorityEff_only (v0 v1 v2 : BitVec 112) (d : Dev) (hO : Only S e0 d) (h_rsys : Part.regs .sys ∈ S) (h_rax : Part.regs .ax ∈ S) (h_tb :
    Part.tb ∈ S) (h_sys : Part.sys ∈ S) (h_cw : Part.cw ∈ S) (h_sl : Part.sl ∈ S) :
    Only S e0 (noMajorityEff v0 v1 v2 d) := by
  unfold noMajorityEff
  (try dsimp only)
  (repeat' split) <;> simp (maxDischargeDepth := 60) only [hO, h_rsys, h_rax, h_tb, h_sys, h_cw, h_sl,
      only_refl, only_ite, only_foldl, implies_true, only_tb, only_sys, only_cw, only_sl, invalidate_only, blk_AX0_REPAIR_RETIRED]

theorem voteDisagreeEff_only (i : Nat) (v : BitVec 112) (d : Dev) (hO : Only S e0 d) (h_rsys : Part.regs .sys ∈ S) (h_rax : Part.regs .ax ∈ S) (h_tb
    : Part.tb ∈ S) (h_sys : Part.sys ∈ S) (h_cw : Part.cw ∈ S) (h_sl : Part.sl ∈ S) :
    Only S e0 (voteDisagreeEff i v d) := by
  unfold voteDisagreeEff
  simp (maxDischargeDepth := 60) only [hO, h_rsys, h_rax, h_tb, h_sys, h_cw, h_sl, only_refl, only_ite, only_foldl,
      implies_true, only_tb, only_sys, only_cw, only_sl, enterSteady_only, invalidate_only, raiseVote_only, setAccum_only, setEvent_only,
      setFault_only, setFlag_only, setFld_only, blk_AX0_REPAIR_ACC, blk_AX0_REPAIR_ATTEMPTS, blk_AX0_REPAIR_REPAIRING, blk_AX0_REPAIR_RETIRED,
      blk_AX0_STATUS_VOTE_FAULT, blk_SYS_FAULT_TB_DEGRADED]

theorem repairWatchEndEff_only (i : Nat) (d : Dev) (hO : Only S e0 d) (h_rax : Part.regs .ax ∈ S) (h_tb : Part.tb ∈ S) (h_sys : Part.sys ∈ S) (h_sl :
    Part.sl ∈ S) :
    Only S e0 (repairWatchEndEff i d) := by
  unfold repairWatchEndEff
  simp (maxDischargeDepth := 60) only [hO, h_rax, h_tb, h_sys, h_sl, only_refl, only_ite, only_foldl, implies_true,
      only_tb, only_sys, only_sl, endCause_only, raiseVote_only, setAccum_only, setFlag_only, blk_AX0_REPAIR_REPAIRING, blk_AX0_REPAIR_RETIRED]

theorem holdoverTimeoutEff_only (d : Dev) (hO : Only S e0 d) (h_rax : Part.regs .ax ∈ S) (h_tb : Part.tb ∈ S) (h_sl : Part.sl ∈ S) :
    Only S e0
    (holdoverTimeoutEff d) := by
  unfold holdoverTimeoutEff
  simp (maxDischargeDepth := 60) only [hO, h_rax, h_tb, h_sl, only_refl, only_ite, only_foldl, implies_true, only_tb,
      only_sl, setAx0State_only]

theorem writeHoldover_only (d : Dev) (v : Nat) (hO : Only S e0 d) (h_rax : Part.regs .ax ∈ S) (h_tb : Part.tb ∈ S) (h_sl : Part.sl ∈ S) :
    Only S
    e0 (Dev.writeHoldover d v) := by
  unfold Dev.writeHoldover
  simp (maxDischargeDepth := 60) only [hO, h_rax, h_tb, h_sl, only_refl, only_ite, only_foldl, implies_true, only_tb,
      only_sl, setFld_only, holdoverTimeoutEff_only, blk_AX0_HOLD_DRIFT_PPB, blk_AX0_HOLD_TIMEOUT_MS]

theorem putAxCfg_only (d : Dev) (n v : Nat) (hO : Only S e0 d) (h_rax : Part.regs .ax ∈ S) :
    Only S e0 (Dev.putAxCfg d n v) := by
  unfold Dev.putAxCfg
  simp (maxDischargeDepth := 60) only [hO, h_rax, only_refl, only_ite, only_foldl, implies_true, setFld_only,
      blk_AX_CFG_DIR_EN, blk_AX_CFG_DIR_PIN, blk_AX_CFG_DIR_POL, blk_AX_CFG_DMODE, blk_AX_CFG_EDGE, blk_AX_CFG_INTERP, blk_AX_CFG_SRC,
      blk_AX_CFG_SRC_IS_PIN, blk_AX_CFG_TYPE]

theorem axStart_only (d : Dev) (n : Nat) (hO : Only S e0 d) (h_axes : Part.axes ∈ S) :
    Only S e0 (Dev.axStart d n) := by
  unfold Dev.axStart
  simp (maxDischargeDepth := 60) only [hO, h_axes, only_refl, only_ite, only_foldl, implies_true, only_axes, setAxis_only]

theorem writeAxCfg_only (d : Dev) (n v : Nat) (hO : Only S e0 d) (h_rax : Part.regs .ax ∈ S) (h_axes : Part.axes ∈ S) :
    Only S e0 (Dev.writeAxCfg
    d n v) := by
  unfold Dev.writeAxCfg
  simp (maxDischargeDepth := 60) only [hO, h_rax, h_axes, only_refl, only_ite, only_foldl, implies_true, only_axes,
      axStart_only, putAxCfg_only, setFld_only, blk_AX_CFG_EN]

theorem writeAxPar_only (d : Dev) (n k v : Nat) (hO : Only S e0 d) (h_rax : Part.regs .ax ∈ S) (h_axes : Part.axes ∈ S) :
    Only S e0
    (Dev.writeAxPar d n k v) := by
  unfold Dev.writeAxPar
  (try dsimp only)
  (repeat' split) <;> simp (maxDischargeDepth := 60) only [hO, h_rax, h_axes, only_refl, only_ite,
      only_foldl, implies_true, only_axes, setAxis_only, setFld_only, blk_AX_PARA_PARA, blk_AX_PARB_PARB, blk_AX_PARC_PARC]

theorem axisApply_only (d : Dev) (n : Nat) (r : AxisReq) (hO : Only S e0 d) (h_rhi : Part.regs .hi ∈ S) (h_rax : Part.regs .ax ∈ S) (h_rsl :
    Part.regs .sl ∈ S) (h_axes : Part.axes ∈ S) (h_sl : Part.sl ∈ S) (h_hi : Part.hi ∈ S) (h_lg : Part.lg ∈ S) :
    Only S e0 (Dev.axisApply d n r) := by
  unfold Dev.axisApply
  simp (maxDischargeDepth := 60) only [hO, h_rhi, h_rax, h_rsl, h_axes, h_sl, h_hi, h_lg, only_refl, only_ite, only_foldl,
      implies_true, only_axes, only_sl, only_hi, only_lg, axStart_only, finish_only, putAxCfg_only, setAxis_only, setFlag_only, setFld_only,
      blk_AX_CFG_EN, blk_AX_CFG_SRC, blk_AX_PARA_PARA, blk_AX_PARB_PARB, blk_AX_PARC_PARC]

theorem setAxisApplyEff_only (n : Nat) (d : Dev) (hO : Only S e0 d) (h_rhi : Part.regs .hi ∈ S) (h_rax : Part.regs .ax ∈ S) (h_rsl : Part.regs .sl ∈
    S) (h_axes : Part.axes ∈ S) (h_sl : Part.sl ∈ S) (h_hi : Part.hi ∈ S) (h_lg : Part.lg ∈ S) :
    Only S e0 (setAxisApplyEff n d) := by
  unfold setAxisApplyEff
  (try dsimp only)
  (repeat' split) <;> simp (maxDischargeDepth := 60) only [hO, h_rhi, h_rax, h_rsl, h_axes, h_sl, h_hi,
      h_lg, only_refl, only_ite, only_foldl, implies_true, only_axes, only_sl, only_hi, only_lg, axisApply_only, setAxis_only]

theorem pllLoss_only (d : Dev) (hO : Only S e0 d) (h_rsys : Part.regs .sys ∈ S) (h_rck : Part.regs .ck ∈ S) (h_sys : Part.sys ∈ S) (h_cw : Part.cw ∈
    S) (h_sl : Part.sl ∈ S) :
    Only S e0 (Dev.pllLoss d) := by
  unfold Dev.pllLoss
  simp (maxDischargeDepth := 60) only [hO, h_rsys, h_rck, h_sys, h_cw, h_sl, only_refl, only_ite, only_foldl, implies_true,
      only_sys, only_cw, only_sl, count_only, enterSteady_only, setFld_only, blk_CK_STAT_LOCKED, blk_CK_STAT_LOCK_LOSS, blk_CK_STAT_PLL_HOLD]

theorem clockTo_only (d : Dev) (new reason : Nat) (hO : Only S e0 d) (h_rsys : Part.regs .sys ∈ S) (h_rck : Part.regs .ck ∈ S) (h_sys : Part.sys ∈ S)
    (h_cw : Part.cw ∈ S) (h_sl : Part.sl ∈ S) :
    Only S e0 (Dev.clockTo d new reason) := by
  unfold Dev.clockTo
  simp (maxDischargeDepth := 60) only [hO, h_rsys, h_rck, h_sys, h_cw, h_sl, only_refl, only_ite, only_foldl, implies_true,
      only_sys, only_cw, only_sl, endCause_only, enterSteady_only, raiseSys_only, setEvent_only, setFault_only, setFld_only, blk_CK_REFSEL_ACTIVE,
      blk_CK_REFSEL_SWITCHED, blk_SYS_FAULT_FREQ_HOLD]

theorem clockFail_only (d : Dev) (src : RefSource) (reason : Nat) (hO : Only S e0 d) (h_rsys : Part.regs .sys ∈ S) (h_rck : Part.regs .ck ∈ S) (h_sys
    : Part.sys ∈ S) (h_cw : Part.cw ∈ S) (h_sl : Part.sl ∈ S) :
    Only S e0 (Dev.clockFail d src reason) := by
  unfold Dev.clockFail
  (try dsimp only)
  (repeat' split) <;> simp (maxDischargeDepth := 60) only [hO, h_rsys, h_rck, h_sys, h_cw, h_sl, only_refl,
      only_ite, only_foldl, implies_true, only_sys, only_cw, only_sl, clockTo_only, pllLoss_only, setFld_only, blk_CK_REFSEL_ACTIVE,
      blk_CK_STAT_IN_OK, blk_CK_STAT_REC_OK]

theorem refclkFailEff_only (src : RefSource) (freq : Bool) (d : Dev) (hO : Only S e0 d) (h_rsys : Part.regs .sys ∈ S) (h_rck : Part.regs .ck ∈ S)
    (h_sys : Part.sys ∈ S) (h_cw : Part.cw ∈ S) (h_sl : Part.sl ∈ S) :
    Only S e0 (refclkFailEff src freq d) := by
  unfold refclkFailEff
  simp (maxDischargeDepth := 60) only [hO, h_rsys, h_rck, h_sys, h_cw, h_sl, only_refl, only_ite, only_foldl, implies_true,
      only_sys, only_cw, only_sl, clockFail_only]

theorem refclkRestoreEff_only (src : RefSource) (d : Dev) (hO : Only S e0 d) (h_rsys : Part.regs .sys ∈ S) (h_rck : Part.regs .ck ∈ S) (h_sys :
    Part.sys ∈ S) (h_cw : Part.cw ∈ S) (h_sl : Part.sl ∈ S) :
    Only S e0 (refclkRestoreEff src d) := by
  unfold refclkRestoreEff
  (try dsimp only)
  (repeat' split) <;> simp (maxDischargeDepth := 60) only [hO, h_rsys, h_rck, h_sys, h_cw, h_sl,
      only_refl, only_ite, only_foldl, implies_true, only_sys, only_cw, only_sl, clockTo_only, setFld_only, blk_CK_REFSEL_ACTIVE, blk_CK_REFSEL_SRC,
      blk_CK_STAT_IN_OK, blk_CK_STAT_REC_OK]

theorem pllRelockEff_only (d : Dev) (hO : Only S e0 d) (h_rck : Part.regs .ck ∈ S) (h_sys : Part.sys ∈ S) :
    Only S e0 (pllRelockEff d) := by
  unfold pllRelockEff
  simp (maxDischargeDepth := 60) only [hO, h_rck, h_sys, only_refl, only_ite, only_foldl, implies_true, only_sys,
      endCause_only, setFld_only, blk_CK_STAT_LOCKED, blk_CK_STAT_PLL_HOLD]

theorem enterOperateEff_only (d : Dev) (hO : Only S e0 d) (h_rsys : Part.regs .sys ∈ S) (h_rax : Part.regs .ax ∈ S) (h_tb : Part.tb ∈ S) (h_sl :
    Part.sl ∈ S) (h_pn : Part.pn ∈ S) :
    Only S e0 (enterOperateEff d) := by
  unfold enterOperateEff
  simp (maxDischargeDepth := 60) only [hO, h_rsys, h_rax, h_tb, h_sl, h_pn, only_refl, only_ite, only_foldl, implies_true,
      only_tb, only_sl, only_pn, raiseMode_only, setFld_only, swapsStart_only, blk_AX0_REPAIR_ATTEMPTS, blk_SYS_MODE_GO_REQ, blk_SYS_MODE_MODE,
      blk_SYS_MODE_PENDING_GO]

theorem selfTestDoneEff_only (d : Dev) (hO : Only S e0 d) (h_rqy : Part.regs .qy ∈ S) (h_qy : Part.qy ∈ S) (h_sys : Part.sys ∈ S) :
    Only S e0
    (selfTestDoneEff d) := by
  unfold selfTestDoneEff
  simp (maxDischargeDepth := 60) only [hO, h_rqy, h_qy, h_sys, only_refl, only_ite, only_foldl, implies_true, only_qy,
      only_sys, setFld_only, setPhysQ_only, blk_QY_DIAG_VCAL_OK]

theorem writeGo_only (d : Dev) (hO : Only S e0 d) (h_rsys : Part.regs .sys ∈ S) :
    Only S e0 (Dev.writeGo d) := by
  unfold Dev.writeGo
  simp (maxDischargeDepth := 60) only [hO, h_rsys, only_refl, only_ite, only_foldl, implies_true, setFld_only,
      blk_SYS_MODE_PENDING_GO]

theorem writeModeHold_only (d : Dev) (hO : Only S e0 d) (h_rsys : Part.regs .sys ∈ S) (h_sys : Part.sys ∈ S) (h_cw : Part.cw ∈ S) (h_sl : Part.sl ∈
    S) :
    Only S e0 (Dev.writeModeHold d) := by
  unfold Dev.writeModeHold
  simp (maxDischargeDepth := 60) only [hO, h_rsys, h_sys, h_cw, h_sl, only_refl, only_ite, only_foldl, implies_true,
      only_sys, only_cw, only_sl, enterSteady_only, setFld_only, blk_SYS_MODE_GO_REQ, blk_SYS_MODE_PENDING_GO]

end Sys2Proof.Machine
end

