-- ==== Sys2Proof/Laws/FrameMicro.lean ====
section
/-! SUPPORT. Which parts of the state the operations of Machine/MeBase, Micro, MeImage may change. -/

namespace Sys2Proof.Machine

open Sys2Proof

set_option linter.unusedSimpArgs false
set_option linter.unusedVariables false
set_option linter.unusedTactic false
set_option linter.unreachableTactic false

variable {S : List Part} {e0 : Dev}

theorem setEng_only (d : Dev) (p : Nat) (x : Engine) (hO : Only S e0 d) (h_me : Part.me ∈ S) :
    Only S e0 (Dev.setEng d p x) := by
  unfold Dev.setEng
  simp (maxDischargeDepth := 60) only [hO, h_me, only_refl, only_ite, only_foldl, implies_true, only_me]

theorem setOps_only (d : Dev) (n : Nat) (x : MeOps) (hO : Only S e0 d) (h_mo : Part.mo ∈ S) :
    Only S e0 (Dev.setOps d n x) := by
  unfold Dev.setOps
  simp (maxDischargeDepth := 60) only [hO, h_mo, only_refl, only_ite, only_foldl, implies_true, only_mo]

theorem raiseEngine_only (d : Dev) (n : Nat) (r : Record) (edge bare : Bool) (hO : Only S e0 d) (h_sl : Part.sl ∈ S) :
    Only S e0 (Dev.raiseEngine
    d n r edge bare) := by
  unfold Dev.raiseEngine
  simp (maxDischargeDepth := 60) only [hO, h_sl, only_refl, only_ite, only_foldl, implies_true, only_sl]

theorem raiseFault_only (d : Dev) (n p cause : Nat) (hO : Only S e0 d) (h_sl : Part.sl ∈ S) :
    Only S e0 (Dev.raiseFault d n p cause) := by
  unfold Dev.raiseFault
  simp (maxDischargeDepth := 60) only [hO, h_sl, only_refl, only_ite, only_foldl, implies_true, only_sl, raiseEngine_only]

theorem meLost_only (d : Dev) (n p reason cause frame pc : Nat) (src : Option (Nat × Nat)) (exited : Bool) (hO : Only S e0 d) (h_sl : Part.sl ∈ S) :
       Only S e0 (Dev.meLost d n p reason cause frame pc src exited) := by
  unfold Dev.meLost
  simp (maxDischargeDepth := 60) only [hO, h_sl, only_refl, only_ite, only_foldl, implies_true, only_sl, raiseEngine_only]

theorem meAbandon_only (d : Dev) (p reason cause : Nat) (hO : Only S e0 d) (h_rme : Part.regs .me ∈ S) (h_sl : Part.sl ∈ S) (h_me : Part.me ∈ S)  :
    Only S e0 (d.meAbandon p reason cause) := by
  unfold Dev.meAbandon
  dsimp only
  apply setFld_only _ _ _ _ _ _ (by simp (maxDischargeDepth := 60) only [only_refl, only_ite, only_foldl, implies_true, only_sl, only_me, meLost_only, setEng_only, setFld_only, blk_ME_STATUS_WAITING, *])
  apply setEng_only _ _ _ _ h_me
  apply only_foldl
  · intro x a
    split <;> simp (maxDischargeDepth := 60) only [only_refl, only_ite, only_foldl, implies_true, only_sl, only_me, meLost_only, setEng_only, setFld_only, blk_ME_STATUS_WAITING, *]
  · simp (maxDischargeDepth := 60) only [only_refl, only_ite, only_foldl, implies_true, only_sl, only_me, meLost_only, setEng_only, setFld_only, blk_ME_STATUS_WAITING, *]

theorem meAbandonHandlers_only (d : Dev) (p reason : Nat) (hO : Only S e0 d) (h_rme : Part.regs .me ∈ S) (h_sl : Part.sl ∈ S) (h_me : Part.me ∈ S) :
       Only S e0 (Dev.meAbandonHandlers d p reason).1 := by
  unfold Dev.meAbandonHandlers
  simp (maxDischargeDepth := 60) only [hO, h_rme, h_sl, h_me, only_refl, only_ite, only_foldl, implies_true, only_sl,
      only_me, meLost_only, setEng_only, setFld_only, blk_ME_STATUS_WAITING]

theorem warmLost_only (d : Dev) (t : Nat) (hO : Only S e0 d) (h_rme : Part.regs .me ∈ S) :
    Only S e0 (Dev.warmLost d t) := by
  unfold Dev.warmLost
  simp (maxDischargeDepth := 60) only [hO, h_rme, only_refl, only_ite, only_foldl, implies_true, setFld_only,
      blk_ME_RELIEF_WARM, blk_ME_RELIEF_WARM_FOR]

theorem writeImage_only (d : Dev) (p : Nat) (bs : List Byte) (hO : Only S e0 d) (h_rme : Part.regs .me ∈ S) (h_me : Part.me ∈ S) :
    Only S e0
    (Dev.writeImage d p bs) := by
  unfold Dev.writeImage
  simp (maxDischargeDepth := 60) only [hO, h_rme, h_me, only_refl, only_ite, only_foldl, implies_true, only_me, setEng_only,
      setFld_only, warmLost_only, blk_ME_IMAGE_KEY_SLOT, blk_ME_IVER_IMAGE_VERSION]

theorem bodyRead_only (d : Dev) (f a n : Nat) (hO : Only S e0 d) (h_rsys : Part.regs .sys ∈ S) (h_rbh : Part.regs .bh ∈ S) (h_rdr : Part.regs .dr ∈
    S) (h_dr : Part.dr ∈ S) (h_sl : Part.sl ∈ S) :
    Only S e0 (Dev.bodyRead d f a n).2 := by
  unfold Dev.bodyRead
  (try dsimp only)
  (repeat' split) <;> simp (maxDischargeDepth := 60) only [hO, h_rsys, h_rbh, h_rdr, h_dr, h_sl, only_refl,
      only_ite, only_foldl, implies_true, only_dr, only_sl, afterRead_only, startReturn_only]

theorem loadEnd_only (d : Dev) (n : Nat) (l : MeLoad) (lstate status : Nat) (hO : Only S e0 d) (h_rhi : Part.regs .hi ∈ S) (h_rsl : Part.regs .sl ∈
    S) (h_rme : Part.regs .me ∈ S) (h_sl : Part.sl ∈ S) (h_hi : Part.hi ∈ S) (h_lg : Part.lg ∈ S) (h_mo : Part.mo ∈ S) :
    Only S e0 (Dev.loadEnd d
    n l lstate status) := by
  unfold Dev.loadEnd
  simp (maxDischargeDepth := 60) only [hO, h_rhi, h_rsl, h_rme, h_sl, h_hi, h_lg, h_mo, only_refl, only_ite, only_foldl,
      implies_true, only_sl, only_hi, only_lg, only_mo, finish_only, setFld_only, setOps_only, blk_ME_IMAGE_LSTATE]

theorem loadFeed_only (d : Dev) (n : Nat) (l : MeLoad) (bs : List Byte) (hO : Only S e0 d) (h_rhi : Part.regs .hi ∈ S) (h_rsl : Part.regs .sl ∈ S)
    (h_rme : Part.regs .me ∈ S) (h_sl : Part.sl ∈ S) (h_hi : Part.hi ∈ S) (h_lg : Part.lg ∈ S) (h_me : Part.me ∈ S) (h_mo : Part.mo ∈ S) :
    Only S
    e0 (Dev.loadFeed d n l bs) := by
  unfold Dev.loadFeed
  simp (maxDischargeDepth := 60) only [hO, h_rhi, h_rsl, h_rme, h_sl, h_hi, h_lg, h_me, h_mo, only_refl, only_ite, only_foldl,
      implies_true, only_sl, only_hi, only_lg, only_me, only_mo, loadEnd_only, setOps_only, writeImage_only]

theorem loadBegin_only (d : Dev) (n : Nat) (l : MeLoad) (hO : Only S e0 d) (h_rsys : Part.regs .sys ∈ S) (h_rhi : Part.regs .hi ∈ S) (h_rsl : Part.regs .sl ∈ S) (h_rme : Part.regs .me ∈ S) (h_rbh : Part.regs .bh ∈ S) (h_rdr : Part.regs .dr ∈ S) (h_dr : Part.dr ∈ S) (h_sl : Part.sl ∈ S) (h_hi : Part.hi ∈ S) (h_lg : Part.lg ∈ S) (h_me : Part.me ∈ S) (h_mo : Part.mo ∈ S)  :
    Only S e0 (d.loadBegin n l) := by
  unfold Dev.loadBegin
  dsimp only
  split
  · split
    · rename_i h
      refine loadFeed_only _ _ _ _ (only_snd (bodyRead_only _ _ _ _ ?_ h_rsys h_rbh h_rdr h_dr h_sl) h) h_rhi h_rsl h_rme h_sl h_hi h_lg h_me h_mo
      simp (maxDischargeDepth := 60) only [only_refl, only_ite, only_foldl, implies_true, only_dr, only_sl, only_hi, only_lg, only_me, only_mo, bodyRead_only, loadEnd_only, loadFeed_only, setFld_only, setOps_only, blk_ME_IMAGE_ACT, blk_ME_IMAGE_LSTATE, *]
    · rename_i h
      refine loadEnd_only _ _ _ _ _ (only_snd (bodyRead_only _ _ _ _ ?_ h_rsys h_rbh h_rdr h_dr h_sl) h) h_rhi h_rsl h_rme h_sl h_hi h_lg h_mo
      simp (maxDischargeDepth := 60) only [only_refl, only_ite, only_foldl, implies_true, only_dr, only_sl, only_hi, only_lg, only_me, only_mo, bodyRead_only, loadEnd_only, loadFeed_only, setFld_only, setOps_only, blk_ME_IMAGE_ACT, blk_ME_IMAGE_LSTATE, *]
  · split <;> simp (maxDischargeDepth := 60) only [only_refl, only_ite, only_foldl, implies_true, only_dr, only_sl, only_hi, only_lg, only_me, only_mo, bodyRead_only, loadEnd_only, loadFeed_only, setFld_only, setOps_only, blk_ME_IMAGE_ACT, blk_ME_IMAGE_LSTATE, *]

theorem setCopying_only (d : Dev) (r : Nat) (b : Bool) (hO : Only S e0 d) (h_rme : Part.regs .me ∈ S) :
    Only S e0 (Dev.setCopying d r b) := by
  unfold Dev.setCopying
  simp (maxDischargeDepth := 60) only [hO, h_rme, only_refl, only_ite, only_foldl, implies_true, setFlag_only,
      blk_ME_RELIEF_COPYING]

theorem coldRelief_only (d : Dev) (r : Nat) (hO : Only S e0 d) (h_rme : Part.regs .me ∈ S) :
    Only S e0 (Dev.coldRelief d r) := by
  unfold Dev.coldRelief
  simp (maxDischargeDepth := 60) only [hO, h_rme, only_refl, only_ite, only_foldl, implies_true, setFld_only,
      blk_ME_RELIEF_COPYING, blk_ME_RELIEF_WARM]

theorem raiseRelief_only (d : Dev) (n : Nat) (r : MeRelief) (kind cause : Nat) (hO : Only S e0 d) (h_sl : Part.sl ∈ S) :
    Only S e0
    (Dev.raiseRelief d n r kind cause) := by
  unfold Dev.raiseRelief
  simp (maxDischargeDepth := 60) only [hO, h_sl, only_refl, only_ite, only_foldl, implies_true, only_sl, raiseSys_only]

theorem moveRegs_only (d : Dev) (old new n : Nat) (hO : Only S e0 d) (h_rme : Part.regs .me ∈ S)  :
    Only S e0 (d.moveRegs old new n) := by
  unfold Dev.moveRegs
  dsimp only
  simp only [List.foldl_cons, List.foldl_nil]
  repeat' (first | exact hO | apply setFld_only)
  all_goals exact h_rme

theorem copyStores_only (d : Dev) (src dst : Nat) (hO : Only S e0 d) (h_rme : Part.regs .me ∈ S) (h_me : Part.me ∈ S)  :
    Only S e0 (d.copyStores src dst) := by
  unfold Dev.copyStores
  simp only [List.foldl_cons, List.foldl_nil]
  repeat' (first | exact hO | exact h_rme | exact h_me | apply setFld_only | apply setEng_only)

theorem meRecover_only (d : Dev) (n : Nat) (hO : Only S e0 d) (h_rme : Part.regs .me ∈ S) (h_sl : Part.sl ∈ S) (h_me : Part.me ∈ S) (h_mo : Part.mo ∈
    S) :
    Only S e0 (Dev.meRecover d n) := by
  unfold Dev.meRecover
  (try dsimp only)
  (repeat' split) <;> simp (maxDischargeDepth := 60) only [hO, h_rme, h_sl, h_me, h_mo, only_refl,
      only_ite, only_foldl, implies_true, only_sl, only_me, only_mo, coldRelief_only, copyStores_only, meAbandon_only, moveRegs_only,
      raiseRelief_only, setEng_only, setFld_only, setOps_only, blk_ME_STATUS_FAULT, blk_ME_STATUS_ROLE, blk_ME_STATUS_RUNNING]

theorem unplanned_only (d : Dev) (n old new cause : Nat) (hO : Only S e0 d) (h_rme : Part.regs .me ∈ S) (h_sl : Part.sl ∈ S) (h_me : Part.me ∈ S)
    (h_mo : Part.mo ∈ S) :
    Only S e0 (Dev.unplanned d n old new cause) := by
  unfold Dev.unplanned
  simp (maxDischargeDepth := 60) only [hO, h_rme, h_sl, h_me, h_mo, only_refl, only_ite, only_foldl, implies_true, only_sl,
      only_me, only_mo, meRecover_only, setCopying_only, setOps_only]

theorem reliefFail_only (d : Dev) (n : Nat) (hO : Only S e0 d) (h_rhi : Part.regs .hi ∈ S) (h_rsl : Part.regs .sl ∈ S) (h_rme : Part.regs .me ∈ S)
    (h_sl : Part.sl ∈ S) (h_hi : Part.hi ∈ S) (h_lg : Part.lg ∈ S) (h_mo : Part.mo ∈ S) :
    Only S e0 (Dev.reliefFail d n) := by
  unfold Dev.reliefFail
  (try dsimp only)
  (repeat' split) <;> simp (maxDischargeDepth := 60) only [hO, h_rhi, h_rsl, h_rme, h_sl, h_hi, h_lg,
      h_mo, only_refl, only_ite, only_foldl, implies_true, only_sl, only_hi, only_lg, only_mo, finish_only, setCopying_only, setOps_only]

theorem meStop_only (d : Dev) (p : Nat) (hO : Only S e0 d) (h_rme : Part.regs .me ∈ S) :
    Only S e0 (Dev.meStop d p) := by
  unfold Dev.meStop
  simp (maxDischargeDepth := 60) only [hO, h_rme, only_refl, only_ite, only_foldl, implies_true, setFld_only, blk_ME_DSTAT_HELD,
      blk_ME_STATUS_RUNNING, blk_ME_STATUS_WAITING]

theorem recordFault_only (d : Dev) (p cause : Nat) (hO : Only S e0 d) (h_rme : Part.regs .me ∈ S) (h_me : Part.me ∈ S) :
    Only S e0
    (Dev.recordFault d p cause) := by
  unfold Dev.recordFault
  simp (maxDischargeDepth := 60) only [hO, h_rme, h_me, only_refl, only_ite, only_foldl, implies_true, only_me, setEng_only,
      setFld_only, blk_ME_FAULT_CAUSE, blk_ME_FAULT_FPC, blk_ME_FAULT_FRAME, blk_ME_FAULT_VALID]

theorem haltResolve_only (d : Dev) (n : Nat) (hO : Only S e0 d) (h_rsys : Part.regs .sys ∈ S) (h_rhi : Part.regs .hi ∈ S) (h_rsl : Part.regs .sl ∈ S)
    (h_rme : Part.regs .me ∈ S) (h_rbh : Part.regs .bh ∈ S) (h_rdr : Part.regs .dr ∈ S) (h_dr : Part.dr ∈ S) (h_sl : Part.sl ∈ S) (h_hi : Part.hi ∈
    S) (h_lg : Part.lg ∈ S) (h_me : Part.me ∈ S) (h_mo : Part.mo ∈ S) :
    Only S e0 (Dev.haltResolve d n) := by
  unfold Dev.haltResolve
  (try dsimp only)
  (repeat' split) <;> simp (maxDischargeDepth := 60) only [hO, h_rsys, h_rhi, h_rsl, h_rme, h_rbh, h_rdr,
      h_dr, h_sl, h_hi, h_lg, h_me, h_mo, only_refl, only_ite, only_foldl, implies_true, only_dr, only_sl, only_hi, only_lg, only_me, only_mo,
      finish_only, loadBegin_only, setOps_only, blk_ME_STATUS_RUNNING]

theorem meFault_only (d : Dev) (p cause : Nat) (hO : Only S e0 d) (h_rsys : Part.regs .sys ∈ S) (h_rhi : Part.regs .hi ∈ S) (h_rsl : Part.regs .sl ∈
    S) (h_rme : Part.regs .me ∈ S) (h_rbh : Part.regs .bh ∈ S) (h_rdr : Part.regs .dr ∈ S) (h_dr : Part.dr ∈ S) (h_sl : Part.sl ∈ S) (h_hi : Part.hi
    ∈ S) (h_lg : Part.lg ∈ S) (h_me : Part.me ∈ S) (h_mo : Part.mo ∈ S) :
    Only S e0 (Dev.meFault d p cause) := by
  unfold Dev.meFault
  (try dsimp only)
  (repeat' split) <;> simp (maxDischargeDepth := 60) only [hO, h_rsys, h_rhi, h_rsl, h_rme, h_rbh, h_rdr,
      h_dr, h_sl, h_hi, h_lg, h_me, h_mo, only_refl, only_ite, only_foldl, implies_true, only_dr, only_sl, only_hi, only_lg, only_me, only_mo,
      haltResolve_only, meAbandon_only, meStop_only, raiseFault_only, recordFault_only, reliefFail_only, setEng_only, setFault_only, setFld_only,
      unplanned_only, blk_ME_STATUS_FAULT, blk_SYS_FAULT_ENGINE_EXHAUSTED]

theorem chanPort_only (d : Dev) (e : Engine) (w : BitVec 48) (x : BitVec 192) (hO : Only S e0 d) (h_rsys : Part.regs .sys ∈ S) (h_rhi : Part.regs .hi
    ∈ S) (h_rsl : Part.regs .sl ∈ S) (h_rqy : Part.regs .qy ∈ S) (h_qy : Part.qy ∈ S) (h_pins : Part.pins ∈ S) (h_sl : Part.sl ∈ S) (h_hi : Part.hi ∈
    S) (h_lg : Part.lg ∈ S) (h_pn : Part.pn ∈ S) :
    Only S e0 (Dev.chanPort d e w x).1 := by
  unfold Dev.chanPort
  (try dsimp only)
  (repeat' split) <;> simp (maxDischargeDepth := 60) only [hO, h_rsys, h_rhi, h_rsl, h_rqy, h_qy, h_pins,
      h_sl, h_hi, h_lg, h_pn, only_refl, only_ite, only_foldl, implies_true, only_qy, only_pins, only_sl, only_hi, only_lg, only_pn, arm_only,
      disarmAny_only, update_only]

theorem berthPort_only (d : Dev) (n : Nat) (e : Engine) (w : BitVec 48) (x : BitVec 192) (hO : Only S e0 d) (h_rsys : Part.regs .sys ∈ S) (h_rbh :
    Part.regs .bh ∈ S) (h_rdr : Part.regs .dr ∈ S) (h_mem : Part.mem ∈ S) (h_dr : Part.dr ∈ S) (h_sl : Part.sl ∈ S) :
    Only S e0 (Dev.berthPort d
    n e w x).1 := by
  unfold Dev.berthPort
  (try dsimp only)
  (repeat' split) <;> simp (maxDischargeDepth := 60) only [hO, h_rsys, h_rbh, h_rdr, h_mem, h_dr, h_sl,
      only_refl, only_ite, only_foldl, implies_true, only_mem, only_dr, only_sl, afterRead_only, portWrite_only]

theorem raiseSoft_only (d : Dev) (k : Nat) (hO : Only S e0 d) (h_sl : Part.sl ∈ S) :
    Only S e0 (Dev.raiseSoft d k) := by
  unfold Dev.raiseSoft
  simp (maxDischargeDepth := 60) only [hO, h_sl, only_refl, only_ite, only_foldl, implies_true, only_sl, raise_only]

theorem sluicePort_only (d : Dev) (p : Nat) (e : Engine) (w : BitVec 48) (x : BitVec 192) (hO : Only S e0 d) (h_rme : Part.regs .me ∈ S) (h_rbh :
    Part.regs .bh ∈ S) (h_dr : Part.dr ∈ S) (h_sl : Part.sl ∈ S) (h_sf : Part.sf ∈ S) :
    Only S e0 (Dev.sluicePort d p e w x).1 := by
  unfold Dev.sluicePort
  (try dsimp only)
  (repeat' split) <;> simp (maxDischargeDepth := 60) only [hO, h_rme, h_rbh, h_dr, h_sl, h_sf, only_refl,
      only_ite, only_foldl, implies_true, only_dr, only_sl, only_sf, count_only, raiseSoft_only, setSf_only, blk_ME_DCNT_SPURIOUS_COMPLETE]

theorem meDiscipline_only (d : Dev) (p : Nat) (e : Engine) (x : BitVec 192) (hO : Only S e0 d) (h_rax : Part.regs .ax ∈ S) (h_tb : Part.tb ∈ S) (h_sl
    : Part.sl ∈ S) :
    Only S e0 (Dev.meDiscipline d p e x).2 := by
  unfold Dev.meDiscipline
  (try dsimp only)
  (repeat' split) <;> simp (maxDischargeDepth := 60) only [hO, h_rax, h_tb, h_sl, only_refl, only_ite,
      only_foldl, implies_true, only_tb, only_sl, discipline_only]

theorem meCommit_only (d : Dev) (p : Nat) (w : BitVec 48) (x : BitVec 192) (go : MeSeq) (ap : ApResult) (q : QpResult) (hO : Only S e0 d) (h_rsys :
    Part.regs .sys ∈ S) (h_rax : Part.regs .ax ∈ S) (h_rme : Part.regs .me ∈ S) (h_rbh : Part.regs .bh ∈ S) (h_rdr : Part.regs .dr ∈ S) (h_mem :
    Part.mem ∈ S) (h_tb : Part.tb ∈ S) (h_dr : Part.dr ∈ S) (h_sl : Part.sl ∈ S) (h_sf : Part.sf ∈ S) (h_me : Part.me ∈ S) (h_freeCtr : Part.ctr ∈ S)
    :
    Only S e0 (Dev.meCommit d p w x go ap q) := by
  unfold Dev.meCommit
  (try dsimp only)
  (repeat' split) <;> simp (maxDischargeDepth := 60) only [hO, h_rsys, h_rax, h_rme, h_rbh, h_rdr, h_mem,
      h_tb, h_dr, h_sl, h_sf, h_me, h_freeCtr, only_refl, only_ite, only_foldl, implies_true, only_mem, only_tb, only_dr, only_sl, only_sf, only_me,
      only_ctr, berthPort_only, count_only, meDiscipline_only, nextFree_only, setEng_only, setFld_only, sluicePort_only, blk_ME_CNT_ATOM_OVERRUN,
      blk_ME_STATUS_WAITING]

theorem meGuard_only (d : Dev) (p : Nat) (w : BitVec 48) (x : BitVec 192) (cond : Bool) (hold : Engine) (k : Dev) (hO : Only S e0 d) (h_rsys : Part.regs .sys ∈ S) (h_rhi : Part.regs .hi ∈ S) (h_rsl : Part.regs .sl ∈ S) (h_rme : Part.regs .me ∈ S) (h_rbh : Part.regs .bh ∈ S) (h_rdr : Part.regs .dr ∈ S) (h_dr : Part.dr ∈ S) (h_sl : Part.sl ∈ S) (h_hi : Part.hi ∈ S) (h_lg : Part.lg ∈ S) (h_me : Part.me ∈ S) (h_mo : Part.mo ∈ S) (hk : Only S e0 k) :
    Only S e0 (d.meGuard p w x cond hold k) := by
  unfold Dev.meGuard
  dsimp only
  repeat' split
  all_goals first
    | exact hk
    | simp (maxDischargeDepth := 60) only [only_refl, only_ite, only_foldl, implies_true, only_dr, only_sl, only_hi, only_lg, only_me, only_mo, afterRead_only, meFault_only, setEng_only, startReturn_only, *]

theorem meAct_only (d : Dev) (p : Nat) (w : BitVec 48) (x : BitVec 192) (cond : Bool) (ap : ApResult) (hO : Only S e0 d) (h_rsys : Part.regs .sys ∈
    S) (h_rhi : Part.regs .hi ∈ S) (h_rax : Part.regs .ax ∈ S) (h_rsl : Part.regs .sl ∈ S) (h_rme : Part.regs .me ∈ S) (h_rbh : Part.regs .bh ∈ S)
    (h_rdr : Part.regs .dr ∈ S) (h_mem : Part.mem ∈ S) (h_tb : Part.tb ∈ S) (h_dr : Part.dr ∈ S) (h_sl : Part.sl ∈ S) (h_hi : Part.hi ∈ S) (h_lg :
    Part.lg ∈ S) (h_sf : Part.sf ∈ S) (h_me : Part.me ∈ S) (h_mo : Part.mo ∈ S) (h_freeCtr : Part.ctr ∈ S) :
    Only S e0 (Dev.meAct d p w x cond ap) := by
  unfold Dev.meAct
  (try dsimp only)
  (repeat' split) <;> simp (maxDischargeDepth := 60) only [hO, h_rsys, h_rhi, h_rax, h_rsl, h_rme, h_rbh,
      h_rdr, h_mem, h_tb, h_dr, h_sl, h_hi, h_lg, h_sf, h_me, h_mo, h_freeCtr, only_refl, only_ite, only_foldl, implies_true, only_mem, only_tb,
      only_dr, only_sl, only_hi, only_lg, only_sf, only_me, only_mo, only_ctr, meCommit_only, meGuard_only, setEng_only, setFld_only,
      blk_ME_STATUS_WAITING]

theorem meCorrected_only (d : Dev) (p : Nat) (r : StoreRead) (hO : Only S e0 d) (h_rme : Part.regs .me ∈ S) :
    Only S e0 (Dev.meCorrected d p r) := by
  unfold Dev.meCorrected
  simp (maxDischargeDepth := 60) only [hO, h_rme, only_refl, only_ite, only_foldl, implies_true, count_only,
      blk_ME_CNT_ECC_CORR]

theorem meFetch_only (d : Dev) (p : Nat) (chk : StoreCheck) (k : BitVec 48 → BitVec 192 → Dev → Dev) (hO : Only S e0 d) (h_rsys : Part.regs .sys ∈ S) (h_rhi : Part.regs .hi ∈ S) (h_rsl : Part.regs .sl ∈ S) (h_rme : Part.regs .me ∈ S) (h_rbh : Part.regs .bh ∈ S) (h_rdr : Part.regs .dr ∈ S) (h_dr : Part.dr ∈ S) (h_sl : Part.sl ∈ S) (h_hi : Part.hi ∈ S) (h_lg : Part.lg ∈ S) (h_me : Part.me ∈ S) (h_mo : Part.mo ∈ S) (hk : ∀ w y x, Only S e0 x → Only S e0 (k w y x)) :
    Only S e0 (d.meFetch p chk k) := by
  unfold Dev.meFetch
  dsimp only
  repeat' split
  all_goals first
    | simp (maxDischargeDepth := 60) only [only_refl, only_ite, only_foldl, implies_true, only_dr, only_sl, only_hi, only_lg, only_me, only_mo, meCorrected_only, meFault_only, *]
    | (apply hk; simp (maxDischargeDepth := 60) only [only_refl, only_ite, only_foldl, implies_true, only_dr, only_sl, only_hi, only_lg, only_me, only_mo, meCorrected_only, meFault_only, *])

theorem meIssue_only (d : Dev) (p : Nat) (w : BitVec 48) (x : BitVec 192) (hO : Only S e0 d) (h_rsys : Part.regs .sys ∈ S) (h_rhi : Part.regs .hi ∈
    S) (h_rax : Part.regs .ax ∈ S) (h_rsl : Part.regs .sl ∈ S) (h_rme : Part.regs .me ∈ S) (h_rbh : Part.regs .bh ∈ S) (h_rdr : Part.regs .dr ∈ S)
    (h_mem : Part.mem ∈ S) (h_tb : Part.tb ∈ S) (h_dr : Part.dr ∈ S) (h_sl : Part.sl ∈ S) (h_hi : Part.hi ∈ S) (h_lg : Part.lg ∈ S) (h_sf : Part.sf ∈
    S) (h_me : Part.me ∈ S) (h_mo : Part.mo ∈ S) (h_freeCtr : Part.ctr ∈ S) :
    Only S e0 (Dev.meIssue d p w x) := by
  unfold Dev.meIssue
  (try dsimp only)
  (repeat' split) <;> simp (maxDischargeDepth := 60) only [hO, h_rsys, h_rhi, h_rax, h_rsl, h_rme, h_rbh,
      h_rdr, h_mem, h_tb, h_dr, h_sl, h_hi, h_lg, h_sf, h_me, h_mo, h_freeCtr, only_refl, only_ite, only_foldl, implies_true, only_mem, only_tb,
      only_dr, only_sl, only_hi, only_lg, only_sf, only_me, only_mo, only_ctr, count_only, meAct_only, setEng_only, setFld_only,
      blk_ME_CNT_ATOM_OVERRUN, blk_ME_STATUS_WAITING]

theorem meWordEff_only (p : Nat) (chk : StoreCheck) (d : Dev) (hO : Only S e0 d) (h_rsys : Part.regs .sys ∈ S) (h_rhi : Part.regs .hi ∈ S) (h_rax : Part.regs .ax ∈ S) (h_rsl : Part.regs .sl ∈ S) (h_rme : Part.regs .me ∈ S) (h_rbh : Part.regs .bh ∈ S) (h_rdr : Part.regs .dr ∈ S) (h_mem : Part.mem ∈ S) (h_tb : Part.tb ∈ S) (h_dr : Part.dr ∈ S) (h_sl : Part.sl ∈ S) (h_hi : Part.hi ∈ S) (h_lg : Part.lg ∈ S) (h_sf : Part.sf ∈ S) (h_me : Part.me ∈ S) (h_mo : Part.mo ∈ S) (h_freeCtr : Part.ctr ∈ S)  :
    Only S e0 (meWordEff p chk d) := by
  unfold meWordEff
  split
  · apply meFetch_only _ _ _ _ hO h_rsys h_rhi h_rsl h_rme h_rbh h_rdr h_dr h_sl h_hi h_lg h_me h_mo
    intro w y x hx
    simp (maxDischargeDepth := 60) only [only_refl, only_ite, only_foldl, implies_true, only_mem, only_tb, only_dr, only_sl, only_hi, only_lg, only_sf, only_me, only_mo, only_ctr, meFetch_only, meIssue_only, blk_ME_STATUS_WAITING, *]
  · exact hO

theorem meWaitSatisfiedEff_only (p : Nat) (chk : StoreCheck) (d : Dev) (hO : Only S e0 d) (h_rsys : Part.regs .sys ∈ S) (h_rhi : Part.regs .hi ∈ S) (h_rax : Part.regs .ax ∈ S) (h_rsl : Part.regs .sl ∈ S) (h_rme : Part.regs .me ∈ S) (h_rbh : Part.regs .bh ∈ S) (h_rdr : Part.regs .dr ∈ S) (h_mem : Part.mem ∈ S) (h_tb : Part.tb ∈ S) (h_dr : Part.dr ∈ S) (h_sl : Part.sl ∈ S) (h_hi : Part.hi ∈ S) (h_lg : Part.lg ∈ S) (h_sf : Part.sf ∈ S) (h_me : Part.me ∈ S) (h_mo : Part.mo ∈ S) (h_freeCtr : Part.ctr ∈ S)  :
    Only S e0 (meWaitSatisfiedEff p chk d) := by
  unfold meWaitSatisfiedEff
  repeat' split
  all_goals first
    | exact hO
    | (apply meFetch_only _ _ _ _ hO h_rsys h_rhi h_rsl h_rme h_rbh h_rdr h_dr h_sl h_hi h_lg h_me h_mo
       intro w y x hx
       simp (maxDischargeDepth := 60) only [only_refl, only_ite, only_foldl, implies_true, only_mem, only_tb, only_dr, only_sl, only_hi, only_lg, only_sf, only_me, only_mo, only_ctr, meAct_only, meFetch_only, setFld_only, blk_ME_STATUS_WAITING, *])

theorem qpAccess_only (d : Dev) (p : Nat) (hO : Only S e0 d) (h_rsys : Part.regs .sys ∈ S) (h_rhi : Part.regs .hi ∈ S) (h_rsl : Part.regs .sl ∈ S) (h_rqy : Part.regs .qy ∈ S) (h_rme : Part.regs .me ∈ S) (h_rbh : Part.regs .bh ∈ S) (h_rdr : Part.regs .dr ∈ S) (h_qy : Part.qy ∈ S) (h_pins : Part.pins ∈ S) (h_dr : Part.dr ∈ S) (h_sl : Part.sl ∈ S) (h_hi : Part.hi ∈ S) (h_lg : Part.lg ∈ S) (h_pn : Part.pn ∈ S) (h_me : Part.me ∈ S) (h_mo : Part.mo ∈ S)  :
    Only S e0 (d.qpAccess p).1 := by
  unfold Dev.qpAccess
  repeat' split
  all_goals first
    | exact hO
    | (rename_i h; exact only_fst (chanPort_only _ _ _ _ hO h_rsys h_rhi h_rsl h_rqy h_qy h_pins h_sl h_hi h_lg h_pn) h)
    | simp (maxDischargeDepth := 60) only [only_refl, only_ite, only_foldl, implies_true, only_qy, only_pins, only_dr, only_sl, only_hi, only_lg, only_pn, only_me, only_mo, chanPort_only, meGuard_only, *]

theorem qpCommit_only (d : Dev) (p : Nat) (go : MeSeq) (q : QpResult) (hO : Only S e0 d) (h_rsys : Part.regs .sys ∈ S) (h_rax : Part.regs .ax ∈ S)
    (h_rme : Part.regs .me ∈ S) (h_rbh : Part.regs .bh ∈ S) (h_rdr : Part.regs .dr ∈ S) (h_mem : Part.mem ∈ S) (h_tb : Part.tb ∈ S) (h_dr : Part.dr ∈
    S) (h_sl : Part.sl ∈ S) (h_sf : Part.sf ∈ S) (h_me : Part.me ∈ S) (h_freeCtr : Part.ctr ∈ S) :
    Only S e0 (Dev.qpCommit d p go q) := by
  unfold Dev.qpCommit
  (try dsimp only)
  (repeat' split) <;> simp (maxDischargeDepth := 60) only [hO, h_rsys, h_rax, h_rme, h_rbh, h_rdr, h_mem,
      h_tb, h_dr, h_sl, h_sf, h_me, h_freeCtr, only_refl, only_ite, only_foldl, implies_true, only_mem, only_tb, only_dr, only_sl, only_sf, only_me,
      only_ctr, meCommit_only]

theorem meTake_only (d : Dev) (s : Nat) (hO : Only S e0 d) (h_rsl : Part.regs .sl ∈ S) (h_sl : Part.sl ∈ S) :
    Only S e0 (Dev.meTake d s).2 := by
  unfold Dev.meTake
  (try dsimp only)
  (repeat' split) <;> simp (maxDischargeDepth := 60) only [hO, h_rsl, h_sl, only_refl, only_ite, only_foldl,
      implies_true, only_sl, count_only, reload_only, setPend_only, taken_only]

theorem meDispatchEff_only (p : Nat) (d : Dev) (hO : Only S e0 d) (h_rsl : Part.regs .sl ∈ S) (h_rme : Part.regs .me ∈ S) (h_sl : Part.sl ∈ S) (h_me
    : Part.me ∈ S) :
    Only S e0 (meDispatchEff p d) := by
  unfold meDispatchEff
  (try dsimp only)
  (repeat' split) <;> simp (maxDischargeDepth := 60) only [hO, h_rsl, h_rme, h_sl, h_me, only_refl,
      only_ite, only_foldl, implies_true, only_sl, only_me, count_only, meLost_only, meTake_only, setEng_only, setFld_only, blk_ME_DCNT_DEPTH_FULL,
      blk_ME_DSTAT_HELD, blk_ME_STATUS_FAULT, blk_ME_STATUS_RUNNING, blk_ME_STATUS_WAITING]

theorem meTimerExpireEff_only (p : Nat) (d : Dev) (hO : Only S e0 d) (h_me : Part.me ∈ S) :
    Only S e0 (meTimerExpireEff p d) := by
  unfold meTimerExpireEff
  simp (maxDischargeDepth := 60) only [hO, h_me, only_refl, only_ite, only_foldl, implies_true, only_me, setEng_only]

theorem heartbeatExpireEff_only (p : Nat) (d : Dev) (hO : Only S e0 d) (h_rsys : Part.regs .sys ∈ S) (h_rhi : Part.regs .hi ∈ S) (h_rsl : Part.regs
    .sl ∈ S) (h_rme : Part.regs .me ∈ S) (h_rbh : Part.regs .bh ∈ S) (h_rdr : Part.regs .dr ∈ S) (h_dr : Part.dr ∈ S) (h_sl : Part.sl ∈ S) (h_hi :
    Part.hi ∈ S) (h_lg : Part.lg ∈ S) (h_me : Part.me ∈ S) (h_mo : Part.mo ∈ S) :
    Only S e0 (heartbeatExpireEff p d) := by
  unfold heartbeatExpireEff
  simp (maxDischargeDepth := 60) only [hO, h_rsys, h_rhi, h_rsl, h_rme, h_rbh, h_rdr, h_dr, h_sl, h_hi, h_lg, h_me, h_mo,
      only_refl, only_ite, only_foldl, implies_true, only_dr, only_sl, only_hi, only_lg, only_me, only_mo, meFault_only, blk_ME_STATUS_RUNNING]

theorem meTick_only (d : Dev) (p : Nat) (hO : Only S e0 d) (h_me : Part.me ∈ S) :
    Only S e0 (Dev.meTick d p) := by
  unfold Dev.meTick
  simp (maxDischargeDepth := 60) only [hO, h_me, only_refl, only_ite, only_foldl, implies_true, only_me, setEng_only]

theorem loadCmd_only (d : Dev) (c : Cmd) (hO : Only S e0 d) (h_rsys : Part.regs .sys ∈ S) (h_rhi : Part.regs .hi ∈ S) (h_rsl : Part.regs .sl ∈ S)
    (h_rme : Part.regs .me ∈ S) (h_rbh : Part.regs .bh ∈ S) (h_rdr : Part.regs .dr ∈ S) (h_dr : Part.dr ∈ S) (h_sl : Part.sl ∈ S) (h_hi : Part.hi ∈
    S) (h_lg : Part.lg ∈ S) (h_me : Part.me ∈ S) (h_mo : Part.mo ∈ S) :
    Only S e0 (Dev.loadCmd d c) := by
  unfold Dev.loadCmd
  simp (maxDischargeDepth := 60) only [hO, h_rsys, h_rhi, h_rsl, h_rme, h_rbh, h_rdr, h_dr, h_sl, h_hi, h_lg, h_me, h_mo,
      only_refl, only_ite, only_foldl, implies_true, only_dr, only_sl, only_hi, only_lg, only_me, only_mo, finish_only, loadBegin_only, setOps_only,
      blk_ME_STATUS_RUNNING]

theorem activateCmd_only (d : Dev) (c : Cmd) (hO : Only S e0 d) (h_rhi : Part.regs .hi ∈ S) (h_rsl : Part.regs .sl ∈ S) (h_rme : Part.regs .me ∈ S)
    (h_sl : Part.sl ∈ S) (h_hi : Part.hi ∈ S) (h_lg : Part.lg ∈ S) (h_mo : Part.mo ∈ S) :
    Only S e0 (Dev.activateCmd d c) := by
  unfold Dev.activateCmd
  simp (maxDischargeDepth := 60) only [hO, h_rhi, h_rsl, h_rme, h_sl, h_hi, h_lg, h_mo, only_refl, only_ite, only_foldl,
      implies_true, only_sl, only_hi, only_lg, only_mo, finish_only, setFld_only, setOps_only, blk_ME_DSTAT_HELD, blk_ME_IMAGE_LSTATE,
      blk_ME_STATUS_RUNNING]

theorem relieveCmd_only (d : Dev) (c : Cmd) (hO : Only S e0 d) (h_rhi : Part.regs .hi ∈ S) (h_rsl : Part.regs .sl ∈ S) (h_rme : Part.regs .me ∈ S)
    (h_sl : Part.sl ∈ S) (h_hi : Part.hi ∈ S) (h_lg : Part.lg ∈ S) (h_mo : Part.mo ∈ S) :
    Only S e0 (Dev.relieveCmd d c) := by
  unfold Dev.relieveCmd
  (try dsimp only)
  (repeat' split) <;> simp (maxDischargeDepth := 60) only [hO, h_rhi, h_rsl, h_rme, h_sl, h_hi, h_lg,
      h_mo, only_refl, only_ite, only_foldl, implies_true, only_sl, only_hi, only_lg, only_mo, finish_only, setCopying_only, setOps_only]

theorem returnCmd_only (d : Dev) (c : Cmd) (hO : Only S e0 d) (h_rhi : Part.regs .hi ∈ S) (h_rsl : Part.regs .sl ∈ S) (h_sl : Part.sl ∈ S) (h_hi :
    Part.hi ∈ S) (h_lg : Part.lg ∈ S) (h_mo : Part.mo ∈ S) :
    Only S e0 (Dev.returnCmd d c) := by
  unfold Dev.returnCmd
  simp (maxDischargeDepth := 60) only [hO, h_rhi, h_rsl, h_sl, h_hi, h_lg, h_mo, only_refl, only_ite, only_foldl,
      implies_true, only_sl, only_hi, only_lg, only_mo, finish_only, setOps_only]

theorem rewarm_only (d : Dev) (r : Nat) (hO : Only S e0 d) (h_rme : Part.regs .me ∈ S) :
    Only S e0 (Dev.rewarm d r) := by
  unfold Dev.rewarm
  simp (maxDischargeDepth := 60) only [hO, h_rme, only_refl, only_ite, only_foldl, implies_true, coldRelief_only,
      setCopying_only, blk_ME_RELIEF_WARM_EN, blk_ME_RELIEF_WARM_FOR]

theorem writeMeRelief_only (d : Dev) (k v : Nat) (hO : Only S e0 d) (h_rme : Part.regs .me ∈ S) :
    Only S e0 (Dev.writeMeRelief d k v) := by
  unfold Dev.writeMeRelief
  simp (maxDischargeDepth := 60) only [hO, h_rme, only_refl, only_ite, only_foldl, implies_true, rewarm_only, setFld_only,
      blk_ME_RELIEF_WARM, blk_ME_RELIEF_WARM_EN, blk_ME_RELIEF_WARM_FOR]

theorem warmCopyDoneEff_only (p : Nat) (d : Dev) (hO : Only S e0 d) (h_rme : Part.regs .me ∈ S) (h_me : Part.me ∈ S) :
    Only S e0 (warmCopyDoneEff
    p d) := by
  unfold warmCopyDoneEff
  simp (maxDischargeDepth := 60) only [hO, h_rme, h_me, only_refl, only_ite, only_foldl, implies_true, only_me,
      copyStores_only, setFld_only, blk_ME_RELIEF_COPYING, blk_ME_RELIEF_WARM, blk_ME_RELIEF_WARM_EN, blk_ME_RELIEF_WARM_FOR]

theorem reliefCopyDoneEff_only (n : Nat) (uncorrectable : Bool) (d : Dev) (hO : Only S e0 d) (h_rsys : Part.regs .sys ∈ S) (h_rhi : Part.regs .hi ∈
    S) (h_rsl : Part.regs .sl ∈ S) (h_rme : Part.regs .me ∈ S) (h_rbh : Part.regs .bh ∈ S) (h_rdr : Part.regs .dr ∈ S) (h_dr : Part.dr ∈ S) (h_sl :
    Part.sl ∈ S) (h_hi : Part.hi ∈ S) (h_lg : Part.lg ∈ S) (h_me : Part.me ∈ S) (h_mo : Part.mo ∈ S) :
    Only S e0 (reliefCopyDoneEff n
    uncorrectable d) := by
  unfold reliefCopyDoneEff
  (try dsimp only)
  (repeat' split) <;> simp (maxDischargeDepth := 60) only [hO, h_rsys, h_rhi, h_rsl, h_rme, h_rbh,
      h_rdr, h_dr, h_sl, h_hi, h_lg, h_me, h_mo, only_refl, only_ite, only_foldl, implies_true, only_dr, only_sl, only_hi, only_lg, only_me, only_mo,
      copyStores_only, haltResolve_only, meAbandon_only, meRecover_only, raiseRelief_only, reliefFail_only, setCopying_only, setFld_only,
      setOps_only, blk_ME_FAULT_CAUSE]

theorem takeover_only (d : Dev) (n : Nat) (r : MeRelief) (c : Cmd) (hO : Only S e0 d) (h_rhi : Part.regs .hi ∈ S) (h_rsl : Part.regs .sl ∈ S) (h_rme
    : Part.regs .me ∈ S) (h_sl : Part.sl ∈ S) (h_hi : Part.hi ∈ S) (h_lg : Part.lg ∈ S) (h_me : Part.me ∈ S) (h_mo : Part.mo ∈ S) :
    Only S e0
    (Dev.takeover d n r c) := by
  unfold Dev.takeover
  simp (maxDischargeDepth := 60) only [hO, h_rhi, h_rsl, h_rme, h_sl, h_hi, h_lg, h_me, h_mo, only_refl, only_ite, only_foldl,
      implies_true, only_sl, only_hi, only_lg, only_me, only_mo, coldRelief_only, finish_only, moveRegs_only, raiseRelief_only, rewarm_only,
      setEng_only, setFlag_only, setFld_only, setOps_only, blk_ME_IMAGE_ACT, blk_ME_STATUS_LOGICAL, blk_ME_STATUS_ROLE, blk_ME_STATUS_RUNNING,
      blk_ME_STATUS_WAITING]

theorem reliefTakeoverEff_only (n : Nat) (parity : Bool) (d : Dev) (hO : Only S e0 d) (h_rhi : Part.regs .hi ∈ S) (h_rsl : Part.regs .sl ∈ S) (h_rme
    : Part.regs .me ∈ S) (h_sl : Part.sl ∈ S) (h_hi : Part.hi ∈ S) (h_lg : Part.lg ∈ S) (h_me : Part.me ∈ S) (h_mo : Part.mo ∈ S) :
    Only S e0
    (reliefTakeoverEff n parity d) := by
  unfold reliefTakeoverEff
  (try dsimp only)
  (repeat' split) <;> simp (maxDischargeDepth := 60) only [hO, h_rhi, h_rsl, h_rme, h_sl, h_hi, h_lg,
      h_me, h_mo, only_refl, only_ite, only_foldl, implies_true, only_sl, only_hi, only_lg, only_me, only_mo, finish_only, meRecover_only,
      raiseFault_only, recordFault_only, setOps_only, takeover_only]

theorem haltStopEff_only (n : Nat) (d : Dev) (hO : Only S e0 d) (h_rsys : Part.regs .sys ∈ S) (h_rhi : Part.regs .hi ∈ S) (h_rsl : Part.regs .sl ∈ S)
    (h_rme : Part.regs .me ∈ S) (h_rbh : Part.regs .bh ∈ S) (h_rdr : Part.regs .dr ∈ S) (h_dr : Part.dr ∈ S) (h_sl : Part.sl ∈ S) (h_hi : Part.hi ∈
    S) (h_lg : Part.lg ∈ S) (h_me : Part.me ∈ S) (h_mo : Part.mo ∈ S) :
    Only S e0 (haltStopEff n d) := by
  unfold haltStopEff
  (try dsimp only)
  (repeat' split) <;> simp (maxDischargeDepth := 60) only [hO, h_rsys, h_rhi, h_rsl, h_rme, h_rbh, h_rdr,
      h_dr, h_sl, h_hi, h_lg, h_me, h_mo, only_refl, only_ite, only_foldl, implies_true, only_dr, only_sl, only_hi, only_lg, only_me, only_mo,
      loadBegin_only, meAbandon_only, meStop_only, blk_ME_STATUS_RUNNING]

theorem loadVerifyDoneEff_only (n : Nat) (d : Dev) (hO : Only S e0 d) (h_rhi : Part.regs .hi ∈ S) (h_rsl : Part.regs .sl ∈ S) (h_rme : Part.regs .me
    ∈ S) (h_sl : Part.sl ∈ S) (h_hi : Part.hi ∈ S) (h_lg : Part.lg ∈ S) (h_mo : Part.mo ∈ S) :
    Only S e0 (loadVerifyDoneEff n d) := by
  unfold loadVerifyDoneEff
  (try dsimp only)
  (repeat' split) <;> simp (maxDischargeDepth := 60) only [hO, h_rhi, h_rsl, h_rme, h_sl, h_hi, h_lg,
      h_mo, only_refl, only_ite, only_foldl, implies_true, only_sl, only_hi, only_lg, only_mo, loadEnd_only, blk_HM_KEY_KEY]

theorem activateDrainTimeoutEff_only (n : Nat) (d : Dev) (hO : Only S e0 d) (h_rme : Part.regs .me ∈ S) (h_sl : Part.sl ∈ S) (h_me : Part.me ∈ S)
    (h_mo : Part.mo ∈ S) :
    Only S e0 (activateDrainTimeoutEff n d) := by
  unfold activateDrainTimeoutEff
  (try dsimp only)
  (repeat' split) <;> simp (maxDischargeDepth := 60) only [hO, h_rme, h_sl, h_me, h_mo,
      only_refl, only_ite, only_foldl, implies_true, only_sl, only_me, only_mo, meAbandonHandlers_only, setOps_only]

theorem meStart_only (d : Dev) (n t : Nat) (e : Engine) (hO : Only S e0 d) (h_rme : Part.regs .me ∈ S) (h_me : Part.me ∈ S) (h_mo : Part.mo ∈ S) :
     Only S e0 (Dev.meStart d n t e) := by
  unfold Dev.meStart
  simp (maxDischargeDepth := 60) only [hO, h_rme, h_me, h_mo, only_refl, only_ite, only_foldl, implies_true, only_me, only_mo,
      setEng_only, setFld_only, setOps_only, blk_ME_DSTAT_HELD, blk_ME_FAULT_VALID, blk_ME_IMAGE_ACT, blk_ME_STATUS_FAULT, blk_ME_STATUS_LOGICAL,
      blk_ME_STATUS_ROLE, blk_ME_STATUS_RUNNING, blk_ME_STATUS_WAITING]

theorem activateSwitchEff_only (n : Nat) (d : Dev) (hO : Only S e0 d) (h_rhi : Part.regs .hi ∈ S) (h_rsl : Part.regs .sl ∈ S) (h_rme : Part.regs .me ∈ S) (h_sl : Part.sl ∈ S) (h_hi : Part.hi ∈ S) (h_lg : Part.lg ∈ S) (h_me : Part.me ∈ S) (h_mo : Part.mo ∈ S)  :
    Only S e0 (activateSwitchEff n d) := by
  unfold activateSwitchEff
  split
  · exact hO
  · dsimp only
    simp only [List.foldl_cons, List.foldl_nil]
    split
    · apply finish_only <;> try assumption
      apply warmStale_only <;> try assumption
      apply meStart_only <;> try assumption
      repeat' split
      all_goals first
        | exact hO
        | (apply rewarm_only <;> try assumption
           repeat' (first | exact hO | exact h_rme | apply setFld_only | apply setEng_only | exact h_me))
    · exact hO

end Sys2Proof.Machine
end

