-- ==== Sys2Proof/Laws/FrameLighter.lean ====
section
/-! SUPPORT. Which parts of the state the operations of Machine/Lighter may change. -/

namespace Sys2Proof.Machine

open Sys2Proof

set_option linter.unusedSimpArgs false
set_option linter.unusedVariables false
set_option linter.unusedTactic false
set_option linter.unreachableTactic false

variable {S : List Part} {e0 : Dev}

theorem setLt_only (d : Dev) (c : Nat) (x : Lt) (hO : Only S e0 d) (h_lt : Part.lt ∈ S) :
    Only S e0 (Dev.setLt d c x) := by
  unfold Dev.setLt
  simp (maxDischargeDepth := 60) only [hO, h_lt, only_refl, only_ite, only_foldl, implies_true, only_lt]

theorem setLs_only (d : Dev) (c st : Nat) (hO : Only S e0 d) (h_rlt : Part.regs .lt ∈ S) :
    Only S e0 (Dev.setLs d c st) := by
  unfold Dev.setLs
  simp (maxDischargeDepth := 60) only [hO, h_rlt, only_refl, only_ite, only_foldl, implies_true, setFld_only, blk_LT_STAT_LSTATE]

theorem setPcLow_only (d : Dev) (c v : Nat) (hO : Only S e0 d) (h_rlt : Part.regs .lt ∈ S) :
    Only S e0 (Dev.setPcLow d c v) := by
  unfold Dev.setPcLow
  simp (maxDischargeDepth := 60) only [hO, h_rlt, only_refl, only_ite, only_foldl, implies_true, setFld_only, blk_LT_PC_PC]

theorem ltNext_only (d : Dev) (c : Nat) (hO : Only S e0 d) (h_rlt : Part.regs .lt ∈ S) :
    Only S e0 (Dev.ltNext d c) := by
  unfold Dev.ltNext
  simp (maxDischargeDepth := 60) only [hO, h_rlt, only_refl, only_ite, only_foldl, implies_true, setPcLow_only]

theorem ltEvent_only (d : Dev) (c code : Nat) (done : Bool) (hO : Only S e0 d) (h_sl : Part.sl ∈ S) (h_lt : Part.lt ∈ S) :
    Only S e0 (Dev.ltEvent
    d c code done) := by
  unfold Dev.ltEvent
  simp (maxDischargeDepth := 60) only [hO, h_sl, h_lt, only_refl, only_ite, only_foldl, implies_true, only_sl, only_lt,
      raise_only, setLt_only, blk_LT_STAT_LGEN, blk_LT_STAT_PRIO]

theorem ltError_only (d : Dev) (c cause pc : Nat) (flags discarded addr : Nat) (hO : Only S e0 d) (h_rlt : Part.regs .lt ∈ S) (h_sl : Part.sl ∈ S) :
       Only S e0 (Dev.ltError d c cause pc flags discarded addr) := by
  unfold Dev.ltError
  simp (maxDischargeDepth := 60) only [hO, h_rlt, h_sl, only_refl, only_ite, only_foldl, implies_true, only_sl, count_only,
      raise_only, blk_LT_CNT_ERR_CNT, blk_LT_STAT_LGEN]

theorem ltStop_only (d : Dev) (c cause : Nat) (hO : Only S e0 d) (h_rlt : Part.regs .lt ∈ S) (h_sl : Part.sl ∈ S) :
    Only S e0 (Dev.ltStop d c
    cause) := by
  unfold Dev.ltStop
  simp (maxDischargeDepth := 60) only [hO, h_rlt, h_sl, only_refl, only_ite, only_foldl, implies_true, only_sl, ltError_only,
      setLs_only]

theorem ltFetchStop_only (d : Dev) (c addr : Nat) (hO : Only S e0 d) (h_rlt : Part.regs .lt ∈ S) (h_sl : Part.sl ∈ S) :
    Only S e0
    (Dev.ltFetchStop d c addr) := by
  unfold Dev.ltFetchStop
  simp (maxDischargeDepth := 60) only [hO, h_rlt, h_sl, only_refl, only_ite, only_foldl, implies_true, only_sl,
      ltError_only, setLs_only]

theorem ltFetch_only (d : Dev) (c : Nat) (hO : Only S e0 d) (h_lt : Part.lt ∈ S) :
    Only S e0 (Dev.ltFetch d c) := by
  unfold Dev.ltFetch
  simp (maxDischargeDepth := 60) only [hO, h_lt, only_refl, only_ite, only_foldl, implies_true, only_lt, setLt_only]

def LtRead.dev : LtRead → Dev
  | .got _ e => e
  | .stall e => e
  | .failed e => e

theorem ltProgram_only (d : Dev) (c a n : Nat) (host : Option Nat) (hO : Only S e0 d) (h_rsys : Part.regs .sys ∈ S) (h_rbh : Part.regs .bh ∈ S) (h_rdr : Part.regs .dr ∈ S) (h_dr : Part.dr ∈ S) (h_sl : Part.sl ∈ S) :
    Only S e0 (d.ltProgram c a n host).dev := by
  unfold Dev.ltProgram
  dsimp only
  repeat' split
  all_goals (unfold LtRead.dev; dsimp only; simp (maxDischargeDepth := 60) only [only_refl, only_ite, only_foldl, implies_true, only_dr, only_sl, afterRead_only, startReturn_only, *])

theorem ltFetchDoneEff_only (c : Nat) (line : Option (BitVec 512)) (d : Dev) (hO : Only S e0 d) (h_rsys : Part.regs .sys ∈ S) (h_rlt : Part.regs .lt ∈ S) (h_rbh : Part.regs .bh ∈ S) (h_rdr : Part.regs .dr ∈ S) (h_dr : Part.dr ∈ S) (h_sl : Part.sl ∈ S) (h_lt : Part.lt ∈ S)  :
    Only S e0 (ltFetchDoneEff c line d) := by
  unfold ltFetchDoneEff
  split
  · exact hO
  · split
    · exact hO
    · split
      all_goals
        rename_i h
        have k := congrArg (fun x => Only S e0 (LtRead.dev x)) h
        have k2 := k.mp (ltProgram_only _ _ _ _ _ hO h_rsys h_rbh h_rdr h_dr h_sl)
        unfold LtRead.dev at k2
        dsimp only at k2 ⊢
      · exact k2
      · simp (maxDischargeDepth := 60) only [only_refl, only_ite, only_foldl, implies_true, only_dr, only_sl, only_lt, ltFetchStop_only, setLt_only, *]
      · split <;> simp (maxDischargeDepth := 60) only [only_refl, only_ite, only_foldl, implies_true, only_dr, only_sl, only_lt, ltFetchStop_only, setLt_only, *]

def LtBack.dev : LtBack → Dev
  | .issued e => e
  | .wait e => e
  | .no e => e

theorem ltWriteBack_only (d : Dev) (c pc : Nat) (w : BitVec 64) (hO : Only S e0 d) (h_rbh : Part.regs .bh ∈ S) (h_mem : Part.mem ∈ S) (h_dr : Part.dr ∈ S) (h_hi : Part.hi ∈ S) :
    Only S e0 (d.ltWriteBack c pc w).dev := by
  unfold Dev.ltWriteBack
  dsimp only
  repeat' split
  all_goals first
    | (unfold LtBack.dev; dsimp only; simp (maxDischargeDepth := 60) only [only_refl, only_ite, only_foldl, implies_true, only_mem, only_dr, only_hi, portWrite_only, post_only, startReturn_only, *]; done)
    | (rename_i h
       have k := only_snd (portWrite_only _ _ _ _ hO h_rbh h_mem h_dr) h
       unfold LtBack.dev; dsimp only; simp (maxDischargeDepth := 60) only [only_refl, only_ite, only_foldl, implies_true, only_mem, only_dr, only_hi, portWrite_only, post_only, startReturn_only, *])

theorem ltFailEnd_only (d : Dev) (c : Nat) (m : LtMove) (f : LtFailing) (ok : Bool) (hO : Only S e0 d) (h_rlt : Part.regs .lt ∈ S) (h_sl : Part.sl ∈
    S) (h_lt : Part.lt ∈ S) :
    Only S e0 (Dev.ltFailEnd d c m f ok) := by
  unfold Dev.ltFailEnd
  simp (maxDischargeDepth := 60) only [hO, h_rlt, h_sl, h_lt, only_refl, only_ite, only_foldl, implies_true, only_sl, only_lt,
      count_only, ltError_only, ltFetch_only, setLt_only, blk_LT_DIAG_WB_FAIL]

theorem ltFail_only (d : Dev) (c : Nat) (m : LtMove) (cause addr : Nat) (wr : Bool) (hO : Only S e0 d) (h_rlt : Part.regs .lt ∈ S) (h_rbh : Part.regs .bh ∈ S) (h_mem : Part.mem ∈ S) (h_dr : Part.dr ∈ S) (h_sl : Part.sl ∈ S) (h_hi : Part.hi ∈ S) (h_lt : Part.lt ∈ S)  :
    Only S e0 (d.ltFail c m cause addr wr) := by
  unfold Dev.ltFail
  dsimp only
  split
  all_goals
    rename_i h
    have k := congrArg (fun x => Only S e0 (LtBack.dev x)) h
    have k2 := k.mp (ltWriteBack_only _ _ _ _ hO h_rbh h_mem h_dr h_hi)
    unfold LtBack.dev at k2
    dsimp only at k2
    simp (maxDischargeDepth := 60) only [only_refl, only_ite, only_foldl, implies_true, only_mem, only_dr, only_sl, only_hi, only_lt, ltFailEnd_only, setLt_only, *]

def LtWrite.dev : LtWrite → Dev
  | .done e => e
  | .held e => e
  | .failed _ e => e

theorem ltPut_only (d : Dev) (c a : Nat) (bs : List Byte) (hO : Only S e0 d) (h_rsys : Part.regs .sys ∈ S) (h_rbh : Part.regs .bh ∈ S) (h_rdr : Part.regs .dr ∈ S) (h_mem : Part.mem ∈ S) (h_dr : Part.dr ∈ S) (h_sl : Part.sl ∈ S) (h_hi : Part.hi ∈ S) (h_pn : Part.pn ∈ S) (h_lt : Part.lt ∈ S) :
    Only S e0 (d.ltPut c a bs).dev := by
  unfold Dev.ltPut
  dsimp only
  repeat' split
  all_goals first
    | (unfold LtWrite.dev; dsimp only; simp (maxDischargeDepth := 60) only [only_refl, only_ite, only_foldl, implies_true, only_mem, only_dr, only_sl, only_hi, only_pn, only_lt, afterRead_only, portWrite_only, post_only, reqRises_only, setLt_only, setPne_only, startReturn_only, *]; done)
    | (rename_i h
       have k := only_snd (portWrite_only _ _ _ _ hO h_rbh h_mem h_dr) h
       unfold LtWrite.dev; dsimp only; simp (maxDischargeDepth := 60) only [only_refl, only_ite, only_foldl, implies_true, only_mem, only_dr, only_sl, only_hi, only_pn, only_lt, afterRead_only, portWrite_only, post_only, reqRises_only, setLt_only, setPne_only, startReturn_only, *])

theorem ltDrain_only (d : Dev) (c n : Nat) (hO : Only S e0 d) (h_rsys : Part.regs .sys ∈ S) (h_rlt : Part.regs .lt ∈ S) (h_rbh : Part.regs .bh ∈ S) (h_rdr : Part.regs .dr ∈ S) (h_mem : Part.mem ∈ S) (h_dr : Part.dr ∈ S) (h_sl : Part.sl ∈ S) (h_hi : Part.hi ∈ S) (h_pn : Part.pn ∈ S) (h_lt : Part.lt ∈ S)  :
    Only S e0 (d.ltDrain c n) := by
  induction n generalizing d with
  | zero => exact hO
  | succ n ih =>
    unfold Dev.ltDrain
    dsimp only
    repeat' split
    all_goals first
      | exact hO
      | (apply ih; simp (maxDischargeDepth := 60) only [only_refl, only_ite, only_foldl, implies_true, only_mem, only_dr, only_sl, only_hi, only_pn, only_lt, ltFail_only, ltFetch_only, setFld_only, setLt_only, blk_LT_BYTES_BYTES, *]; done)
      | (simp (maxDischargeDepth := 60) only [only_refl, only_ite, only_foldl, implies_true, only_mem, only_dr, only_sl, only_hi, only_pn, only_lt, ltFail_only, ltFetch_only, setFld_only, setLt_only, blk_LT_BYTES_BYTES, *]; done)
      | (have k := congrArg (fun x => Only S e0 (LtWrite.dev x)) ‹Dev.ltPut _ _ _ _ = _›
         have k2 := k.mp (ltPut_only _ _ _ _ (by simp (maxDischargeDepth := 60) only [only_refl, only_ite, only_foldl, implies_true, only_mem, only_dr, only_sl, only_hi, only_pn, only_lt, ltFail_only, ltFetch_only, setFld_only, setLt_only, blk_LT_BYTES_BYTES, *]) h_rsys h_rbh h_rdr h_mem h_dr h_sl h_hi h_pn h_lt)
         unfold LtWrite.dev at k2
         dsimp only at k2
         first
         | simp (maxDischargeDepth := 60) only [only_refl, only_ite, only_foldl, implies_true, only_mem, only_dr, only_sl, only_hi, only_pn, only_lt, ltFail_only, ltFetch_only, setFld_only, setLt_only, blk_LT_BYTES_BYTES, *]
         | (apply ih; simp (maxDischargeDepth := 60) only [only_refl, only_ite, only_foldl, implies_true, only_mem, only_dr, only_sl, only_hi, only_pn, only_lt, ltFail_only, ltFetch_only, setFld_only, setLt_only, blk_LT_BYTES_BYTES, *]))

theorem ltFlush_only (d : Dev) (c : Nat) (hO : Only S e0 d) (h_rsys : Part.regs .sys ∈ S) (h_rlt : Part.regs .lt ∈ S) (h_rbh : Part.regs .bh ∈ S)
    (h_rdr : Part.regs .dr ∈ S) (h_mem : Part.mem ∈ S) (h_dr : Part.dr ∈ S) (h_sl : Part.sl ∈ S) (h_hi : Part.hi ∈ S) (h_pn : Part.pn ∈ S) (h_lt :
    Part.lt ∈ S) :
    Only S e0 (Dev.ltFlush d c) := by
  unfold Dev.ltFlush
  simp (maxDischargeDepth := 60) only [hO, h_rsys, h_rlt, h_rbh, h_rdr, h_mem, h_dr, h_sl, h_hi, h_pn, h_lt, only_refl,
      only_ite, only_foldl, implies_true, only_mem, only_dr, only_sl, only_hi, only_pn, only_lt, ltDrain_only]

theorem ltTakeRx_only (d : Dev) (k n : Nat) (hO : Only S e0 d) (h_sl : Part.sl ∈ S) (h_pn : Part.pn ∈ S) :
    Only S e0 (Dev.ltTakeRx d k n).2 := by
  unfold Dev.ltTakeRx
  simp (maxDischargeDepth := 60) only [hO, h_sl, h_pn, only_refl, only_ite, only_foldl, implies_true, only_sl, only_pn,
      reqRises_only, setPne_only]

def LtGet.dev : LtGet → Dev
  | .got _ _ e => e
  | .stall e => e
  | .failed _ _ e => e

theorem ltGet_only (d : Dev) (c a n : Nat) (w : BitVec 64) (hO : Only S e0 d) (h_rsys : Part.regs .sys ∈ S) (h_rbh : Part.regs .bh ∈ S) (h_rdr : Part.regs .dr ∈ S) (h_dr : Part.dr ∈ S) (h_sl : Part.sl ∈ S) (h_pn : Part.pn ∈ S) (h_lt : Part.lt ∈ S) :
    Only S e0 (d.ltGet c a n w).dev := by
  unfold Dev.ltGet
  dsimp only
  repeat' split
  all_goals (unfold LtGet.dev; dsimp only; simp (maxDischargeDepth := 60) only [only_refl, only_ite, only_foldl, implies_true, only_dr, only_sl, only_pn, only_lt, afterRead_only, ltTakeRx_only, setLt_only, startReturn_only, *])

theorem ltGoOn_only (d : Dev) (c : Nat) (hO : Only S e0 d) (h_rsys : Part.regs .sys ∈ S) (h_rlt : Part.regs .lt ∈ S) (h_rbh : Part.regs .bh ∈ S)
    (h_rdr : Part.regs .dr ∈ S) (h_mem : Part.mem ∈ S) (h_dr : Part.dr ∈ S) (h_sl : Part.sl ∈ S) (h_hi : Part.hi ∈ S) (h_pn : Part.pn ∈ S) (h_lt :
    Part.lt ∈ S) :
    Only S e0 (Dev.ltGoOn d c) := by
  unfold Dev.ltGoOn
  (try dsimp only)
  (repeat' split) <;> simp (maxDischargeDepth := 60) only [hO, h_rsys, h_rlt, h_rbh, h_rdr, h_mem, h_dr, h_sl,
      h_hi, h_pn, h_lt, only_refl, only_ite, only_foldl, implies_true, only_mem, only_dr, only_sl, only_hi, only_pn, only_lt, ltFail_only,
      ltFlush_only, ltTakeRx_only, setLt_only]

theorem ltStart_only (d : Dev) (c : Nat) (m : LtMove) (p : Nat × Nat) (hO : Only S e0 d) (h_rsys : Part.regs .sys ∈ S) (h_rlt : Part.regs .lt ∈ S) (h_rbh : Part.regs .bh ∈ S) (h_rdr : Part.regs .dr ∈ S) (h_mem : Part.mem ∈ S) (h_dr : Part.dr ∈ S) (h_sl : Part.sl ∈ S) (h_hi : Part.hi ∈ S) (h_pn : Part.pn ∈ S) (h_lt : Part.lt ∈ S)  :
    Only S e0 (d.ltStart c m p) := by
  unfold Dev.ltStart
  dsimp only
  split
  · apply ltFlush_only <;> first | assumption | (repeat' split) <;> simp (maxDischargeDepth := 60) only [only_refl, only_ite, only_foldl, implies_true, only_mem, only_dr, only_sl, only_hi, only_pn, only_lt, ltFail_only, ltFlush_only, setLt_only, *]
  · split
    all_goals
      rename_i h
      have k := congrArg (fun x => Only S e0 (LtGet.dev x)) h
      have k2 := k.mp (ltGet_only _ _ _ _ _ hO h_rsys h_rbh h_rdr h_dr h_sl h_pn h_lt)
      unfold LtGet.dev at k2
      dsimp only at k2 ⊢
      (repeat' split) <;> simp (maxDischargeDepth := 60) only [only_refl, only_ite, only_foldl, implies_true, only_mem, only_dr, only_sl, only_hi, only_pn, only_lt, ltFail_only, ltFlush_only, setLt_only, *]

theorem ltBurstStartEff_only (c : Nat) (d : Dev) (hO : Only S e0 d) (h_rsys : Part.regs .sys ∈ S) (h_rlt : Part.regs .lt ∈ S) (h_rbh : Part.regs .bh
    ∈ S) (h_rdr : Part.regs .dr ∈ S) (h_mem : Part.mem ∈ S) (h_dr : Part.dr ∈ S) (h_sl : Part.sl ∈ S) (h_hi : Part.hi ∈ S) (h_pn : Part.pn ∈ S) (h_lt
    : Part.lt ∈ S) :
    Only S e0 (ltBurstStartEff c d) := by
  unfold ltBurstStartEff
  (try dsimp only)
  (repeat' split) <;> simp (maxDischargeDepth := 60) only [hO, h_rsys, h_rlt, h_rbh, h_rdr, h_mem, h_dr,
      h_sl, h_hi, h_pn, h_lt, only_refl, only_ite, only_foldl, implies_true, only_mem, only_dr, only_sl, only_hi, only_pn, only_lt, ltGoOn_only,
      ltStart_only, blk_LT_STAT_PRIO]

theorem ltBurstDataEff_only (c : Nat) (data : HostData) (d : Dev) (hO : Only S e0 d) (h_rsys : Part.regs .sys ∈ S) (h_rlt : Part.regs .lt ∈ S) (h_rbh
    : Part.regs .bh ∈ S) (h_rdr : Part.regs .dr ∈ S) (h_mem : Part.mem ∈ S) (h_dr : Part.dr ∈ S) (h_sl : Part.sl ∈ S) (h_hi : Part.hi ∈ S) (h_pn :
    Part.pn ∈ S) (h_lt : Part.lt ∈ S) :
    Only S e0 (ltBurstDataEff c data d) := by
  unfold ltBurstDataEff
  (try dsimp only)
  (repeat' split) <;> simp (maxDischargeDepth := 60) only [hO, h_rsys, h_rlt, h_rbh, h_rdr, h_mem, h_dr,
      h_sl, h_hi, h_pn, h_lt, only_refl, only_ite, only_foldl, implies_true, only_mem, only_dr, only_sl, only_hi, only_pn, only_lt, ltFail_only,
      ltFlush_only, setLt_only]

theorem fifoTimeoutEff_only (c : Nat) (d : Dev) (hO : Only S e0 d) (h_rlt : Part.regs .lt ∈ S) (h_rbh : Part.regs .bh ∈ S) (h_mem : Part.mem ∈ S)
    (h_dr : Part.dr ∈ S) (h_sl : Part.sl ∈ S) (h_hi : Part.hi ∈ S) (h_lt : Part.lt ∈ S) :
    Only S e0 (fifoTimeoutEff c d) := by
  unfold fifoTimeoutEff
  (try dsimp only)
  (repeat' split) <;> simp (maxDischargeDepth := 60) only [hO, h_rlt, h_rbh, h_mem, h_dr, h_sl, h_hi,
      h_lt, only_refl, only_ite, only_foldl, implies_true, only_mem, only_dr, only_sl, only_hi, only_lt, ltFail_only]

theorem ltIssue_only (d : Dev) (c op : Nat) (k : BitVec 64 → Dev → Dev) (hO : Only S e0 d) (h_rlt : Part.regs .lt ∈ S) (h_sl : Part.sl ∈ S) (h_lt : Part.lt ∈ S) (hk : ∀ w x, Only S e0 x → Only S e0 (k w x)) :
    Only S e0 (d.ltIssue c op k) := by
  unfold Dev.ltIssue
  dsimp only
  repeat' split
  all_goals first
    | simp (maxDischargeDepth := 60) only [only_refl, only_ite, only_foldl, implies_true, only_sl, only_lt, ltFetch_only, ltStop_only, *]
    | (apply ltFetch_only _ _ _ h_lt; exact hk _ _ hO)

theorem ltLinkEff_only (c : Nat) (d : Dev) (hO : Only S e0 d) (h_rlt : Part.regs .lt ∈ S) (h_sl : Part.sl ∈ S) (h_lt : Part.lt ∈ S)  :
    Only S e0 (ltLinkEff c d) := by
  unfold ltLinkEff
  apply ltIssue_only _ _ _ _ hO h_rlt h_sl h_lt
  intro w x hx
  (try dsimp only)
  repeat' split
  all_goals first
    | simp (maxDischargeDepth := 60) only [only_refl, only_ite, only_foldl, implies_true, only_sl, only_lt, ltIssue_only, ltStop_only, setPcLow_only, *]
    | ((repeat' split) <;> simp (maxDischargeDepth := 60) only [only_refl, only_ite, only_foldl, implies_true, only_sl, only_lt, ltIssue_only, ltStop_only, setPcLow_only, *])

theorem ltLoopEff_only (c : Nat) (d : Dev) (hO : Only S e0 d) (h_rlt : Part.regs .lt ∈ S) (h_sl : Part.sl ∈ S) (h_lt : Part.lt ∈ S)  :
    Only S e0 (ltLoopEff c d) := by
  unfold ltLoopEff
  apply ltIssue_only _ _ _ _ hO h_rlt h_sl h_lt
  intro w x hx
  (try dsimp only)
  repeat' split
  all_goals first
    | simp (maxDischargeDepth := 60) only [only_refl, only_ite, only_foldl, implies_true, only_sl, only_lt, count_only, ltIssue_only, ltNext_only, ltStop_only, setLt_only, *]
    | ((repeat' split) <;> simp (maxDischargeDepth := 60) only [only_refl, only_ite, only_foldl, implies_true, only_sl, only_lt, count_only, ltIssue_only, ltNext_only, ltStop_only, setLt_only, *])

theorem ltEndlEff_only (c : Nat) (d : Dev) (hO : Only S e0 d) (h_rlt : Part.regs .lt ∈ S) (h_sl : Part.sl ∈ S) (h_lt : Part.lt ∈ S)  :
    Only S e0 (ltEndlEff c d) := by
  unfold ltEndlEff
  apply ltIssue_only _ _ _ _ hO h_rlt h_sl h_lt
  intro w x hx
  (try dsimp only)
  repeat' split
  all_goals first
    | simp (maxDischargeDepth := 60) only [only_refl, only_ite, only_foldl, implies_true, only_sl, only_lt, count_only, ltIssue_only, ltNext_only, ltStop_only, setLt_only, setPcLow_only, *]
    | ((repeat' split) <;> simp (maxDischargeDepth := 60) only [only_refl, only_ite, only_foldl, implies_true, only_sl, only_lt, count_only, ltIssue_only, ltNext_only, ltStop_only, setLt_only, setPcLow_only, *])

theorem ltSignalEff_only (c : Nat) (d : Dev) (hO : Only S e0 d) (h_rlt : Part.regs .lt ∈ S) (h_rbh : Part.regs .bh ∈ S) (h_dr : Part.dr ∈ S) (h_sl : Part.sl ∈ S) (h_sf : Part.sf ∈ S) (h_lt : Part.lt ∈ S)  :
    Only S e0 (ltSignalEff c d) := by
  unfold ltSignalEff
  apply ltIssue_only _ _ _ _ hO h_rlt h_sl h_lt
  intro w x hx
  (try dsimp only)
  repeat' split
  all_goals first
    | simp (maxDischargeDepth := 60) only [only_refl, only_ite, only_foldl, implies_true, only_dr, only_sl, only_sf, only_lt, ltEvent_only, ltIssue_only, ltNext_only, ltStop_only, setSf_only, *]
    | ((repeat' split) <;> simp (maxDischargeDepth := 60) only [only_refl, only_ite, only_foldl, implies_true, only_dr, only_sl, only_sf, only_lt, ltEvent_only, ltIssue_only, ltNext_only, ltStop_only, setSf_only, *])

theorem ltMoveiEff_only (c : Nat) (d : Dev) (hO : Only S e0 d) (h_rsys : Part.regs .sys ∈ S) (h_rlt : Part.regs .lt ∈ S) (h_rbh : Part.regs .bh ∈ S) (h_rdr : Part.regs .dr ∈ S) (h_mem : Part.mem ∈ S) (h_dr : Part.dr ∈ S) (h_sl : Part.sl ∈ S) (h_hi : Part.hi ∈ S) (h_pn : Part.pn ∈ S) (h_lt : Part.lt ∈ S)  :
    Only S e0 (ltMoveiEff c d) := by
  unfold ltMoveiEff
  apply ltIssue_only _ _ _ _ hO h_rlt h_sl h_lt
  intro w x hx
  (try dsimp only)
  repeat' split
  all_goals first
    | simp (maxDischargeDepth := 60) only [only_refl, only_ite, only_foldl, implies_true, only_mem, only_dr, only_sl, only_hi, only_pn, only_lt, count_only, ltFail_only, ltIssue_only, ltNext_only, ltStart_only, ltStop_only, setLt_only, blk_LT_CNT_SKIP_CNT, *]
    | ((repeat' split) <;> simp (maxDischargeDepth := 60) only [only_refl, only_ite, only_foldl, implies_true, only_mem, only_dr, only_sl, only_hi, only_pn, only_lt, count_only, ltFail_only, ltIssue_only, ltNext_only, ltStart_only, ltStop_only, setLt_only, blk_LT_CNT_SKIP_CNT, *])

theorem ltMoveEff_only (c : Nat) (d : Dev) (hO : Only S e0 d) (h_rlt : Part.regs .lt ∈ S) (h_rbh : Part.regs .bh ∈ S) (h_mem : Part.mem ∈ S) (h_dr : Part.dr ∈ S) (h_sl : Part.sl ∈ S) (h_hi : Part.hi ∈ S) (h_lt : Part.lt ∈ S)  :
    Only S e0 (ltMoveEff c d) := by
  unfold ltMoveEff
  apply ltIssue_only _ _ _ _ hO h_rlt h_sl h_lt
  intro w x hx
  (try dsimp only)
  repeat' split
  all_goals first
    | simp (maxDischargeDepth := 60) only [only_refl, only_ite, only_foldl, implies_true, only_mem, only_dr, only_sl, only_hi, only_lt, count_only, ltFail_only, ltIssue_only, ltNext_only, setLt_only, blk_LT_CNT_SKIP_CNT, *]
    | ((repeat' split) <;> simp (maxDischargeDepth := 60) only [only_refl, only_ite, only_foldl, implies_true, only_mem, only_dr, only_sl, only_hi, only_lt, count_only, ltFail_only, ltIssue_only, ltNext_only, setLt_only, blk_LT_CNT_SKIP_CNT, *])

theorem ltWaitEff_only (c : Nat) (d : Dev) (hO : Only S e0 d) (h_rlt : Part.regs .lt ∈ S) (h_sl : Part.sl ∈ S) (h_lt : Part.lt ∈ S)  :
    Only S e0 (ltWaitEff c d) := by
  unfold ltWaitEff
  apply ltIssue_only _ _ _ _ hO h_rlt h_sl h_lt
  intro w x hx
  (try dsimp only)
  repeat' split
  all_goals first
    | simp (maxDischargeDepth := 60) only [only_refl, only_ite, only_foldl, implies_true, only_sl, only_lt, ltIssue_only, ltStop_only, setLs_only, setLt_only, *]
    | ((repeat' split) <;> simp (maxDischargeDepth := 60) only [only_refl, only_ite, only_foldl, implies_true, only_sl, only_lt, ltIssue_only, ltStop_only, setLs_only, setLt_only, *])

theorem ltWaitSatisfiedEff_only (c : Nat) (d : Dev) (hO : Only S e0 d) (h_rlt : Part.regs .lt ∈ S) (h_lt : Part.lt ∈ S) :
    Only S e0
    (ltWaitSatisfiedEff c d) := by
  unfold ltWaitSatisfiedEff
  (try dsimp only)
  (repeat' split) <;> simp (maxDischargeDepth := 60) only [hO, h_rlt, h_lt, only_refl, only_ite,
      only_foldl, implies_true, only_lt, ltFetch_only, ltNext_only, setFld_only, setLs_only, setLt_only, blk_LT_STAT_LATCH]

theorem ltWaitTimeoutEff_only (c : Nat) (d : Dev) (hO : Only S e0 d) (h_rlt : Part.regs .lt ∈ S) (h_sl : Part.sl ∈ S) (h_lt : Part.lt ∈ S) :
    Only
    S e0 (ltWaitTimeoutEff c d) := by
  unfold ltWaitTimeoutEff
  (try dsimp only)
  (repeat' split) <;> simp (maxDischargeDepth := 60) only [hO, h_rlt, h_sl, h_lt, only_refl, only_ite,
      only_foldl, implies_true, only_sl, only_lt, ltError_only, setLt_only]

theorem ltFenceReturns_only (d : Dev) (c : Nat) (hO : Only S e0 d) (h_rbh : Part.regs .bh ∈ S) (h_dr : Part.dr ∈ S) :
    Only S e0
    (Dev.ltFenceReturns d c) := by
  unfold Dev.ltFenceReturns
  simp (maxDischargeDepth := 60) only [hO, h_rbh, h_dr, only_refl, only_ite, only_foldl, implies_true, only_dr,
      startReturn_only]

theorem ltFenceEff_only (c : Nat) (d : Dev) (hO : Only S e0 d) (h_rlt : Part.regs .lt ∈ S) (h_rbh : Part.regs .bh ∈ S) (h_dr : Part.dr ∈ S) (h_sl : Part.sl ∈ S) (h_lt : Part.lt ∈ S)  :
    Only S e0 (ltFenceEff c d) := by
  unfold ltFenceEff
  apply ltIssue_only _ _ _ _ hO h_rlt h_sl h_lt
  intro w x hx
  (try dsimp only)
  repeat' split
  all_goals first
    | simp (maxDischargeDepth := 60) only [only_refl, only_ite, only_foldl, implies_true, only_dr, only_sl, only_lt, ltFenceReturns_only, ltIssue_only, ltNext_only, ltStop_only, setLt_only, *]
    | ((repeat' split) <;> simp (maxDischargeDepth := 60) only [only_refl, only_ite, only_foldl, implies_true, only_dr, only_sl, only_lt, ltFenceReturns_only, ltIssue_only, ltNext_only, ltStop_only, setLt_only, *])

theorem ltFenceDoneEff_only (c : Nat) (d : Dev) (hO : Only S e0 d) (h_rsys : Part.regs .sys ∈ S) (h_rlt : Part.regs .lt ∈ S) (h_rbh : Part.regs .bh ∈
    S) (h_rdr : Part.regs .dr ∈ S) (h_dr : Part.dr ∈ S) (h_sl : Part.sl ∈ S) (h_lt : Part.lt ∈ S) :
    Only S e0 (ltFenceDoneEff c d) := by
  unfold ltFenceDoneEff
  simp (maxDischargeDepth := 60) only [hO, h_rsys, h_rlt, h_rbh, h_rdr, h_dr, h_sl, h_lt, only_refl, only_ite, only_foldl,
      implies_true, only_dr, only_sl, only_lt, afterRead_only, ltFenceReturns_only, ltFetch_only, ltNext_only, setLt_only]

theorem ltTail_only (d : Dev) (c pi : Nat) (hO : Only S e0 d) (h_rlt : Part.regs .lt ∈ S) (h_lt : Part.lt ∈ S) :
    Only S e0 (Dev.ltTail d c pi) := by
  unfold Dev.ltTail
  simp (maxDischargeDepth := 60) only [hO, h_rlt, h_lt, only_refl, only_ite, only_foldl, implies_true, only_lt, count_only,
      setLs_only, setLt_only, blk_LT_DIAG_PARK_CNT]

theorem ltEndEff_only (c : Nat) (d : Dev) (hO : Only S e0 d) (h_rlt : Part.regs .lt ∈ S) (h_sl : Part.sl ∈ S) (h_lt : Part.lt ∈ S)  :
    Only S e0 (ltEndEff c d) := by
  unfold ltEndEff
  apply ltIssue_only _ _ _ _ hO h_rlt h_sl h_lt
  intro w x hx
  (try dsimp only)
  repeat' split
  all_goals first
    | simp (maxDischargeDepth := 60) only [only_refl, only_ite, only_foldl, implies_true, only_sl, only_lt, ltEvent_only, ltIssue_only, ltStop_only, ltTail_only, setLs_only, *]
    | ((repeat' split) <;> simp (maxDischargeDepth := 60) only [only_refl, only_ite, only_foldl, implies_true, only_sl, only_lt, ltEvent_only, ltIssue_only, ltStop_only, ltTail_only, setLs_only, *])

theorem ltTailRefetchEff_only (c : Nat) (word : Option (BitVec 64)) (d : Dev) (hO : Only S e0 d) (h_rsys : Part.regs .sys ∈ S) (h_rlt : Part.regs .lt ∈ S) (h_rbh : Part.regs .bh ∈ S) (h_rdr : Part.regs .dr ∈ S) (h_dr : Part.dr ∈ S) (h_sl : Part.sl ∈ S) (h_lt : Part.lt ∈ S)  :
    Only S e0 (ltTailRefetchEff c word d) := by
  unfold ltTailRefetchEff
  split
  · exact hO
  · split
    · exact hO
    · dsimp only
      split
      all_goals
        rename_i h
        have k := congrArg (fun x => Only S e0 (LtRead.dev x)) h
        have k2 := k.mp (ltProgram_only _ _ _ _ _ hO h_rsys h_rbh h_rdr h_dr h_sl)
        unfold LtRead.dev at k2
        dsimp only at k2
      · exact k2
      · (repeat' split) ; simp (maxDischargeDepth := 60) only [only_refl, only_ite, only_foldl, implies_true, only_dr, only_sl, only_lt, ltFetch_only, ltFetchStop_only, ltTail_only, setLs_only, setLt_only, *]
      · (repeat' split) <;> simp (maxDischargeDepth := 60) only [only_refl, only_ite, only_foldl, implies_true, only_dr, only_sl, only_lt, ltFetch_only, ltFetchStop_only, ltTail_only, setLs_only, setLt_only, *]

theorem ltTailTimerEff_only (c : Nat) (d : Dev) (hO : Only S e0 d) (h_lt : Part.lt ∈ S) :
    Only S e0 (ltTailTimerEff c d) := by
  unfold ltTailTimerEff
  simp (maxDischargeDepth := 60) only [hO, h_lt, only_refl, only_ite, only_foldl, implies_true, only_lt, setLt_only,
      blk_LT_CFG_TAIL_US]

theorem ltNewPi_only (d : Dev) (c v : Nat) (hO : Only S e0 d) (h_lt : Part.lt ∈ S) :
    Only S e0 (Dev.ltNewPi d c v) := by
  unfold Dev.ltNewPi
  simp (maxDischargeDepth := 60) only [hO, h_lt, only_refl, only_ite, only_foldl, implies_true, only_lt, setLt_only]

theorem ltStartCmd_only (d : Dev) (k : Cmd) (hO : Only S e0 d) (h_rhi : Part.regs .hi ∈ S) (h_rsl : Part.regs .sl ∈ S) (h_rlt : Part.regs .lt ∈ S)
    (h_sl : Part.sl ∈ S) (h_hi : Part.hi ∈ S) (h_lg : Part.lg ∈ S) (h_lt : Part.lt ∈ S) :
    Only S e0 (Dev.ltStartCmd d k) := by
  unfold Dev.ltStartCmd
  simp (maxDischargeDepth := 60) only [hO, h_rhi, h_rsl, h_rlt, h_sl, h_hi, h_lg, h_lt, only_refl, only_ite, only_foldl,
      implies_true, only_sl, only_hi, only_lg, only_lt, finish_only, ltError_only, ltFetch_only, setFld_only, setLs_only, setLt_only,
      blk_LT_BYTES_BYTES, blk_LT_DIAG_PAUSE_CAUSE, blk_LT_PC_PC, blk_LT_STAT_LATCH, blk_LT_STAT_LGEN, blk_LT_STAT_PRIO]

theorem ltPauseDone_only (d : Dev) (k : Cmd) (status : Nat) (hO : Only S e0 d) (h_rhi : Part.regs .hi ∈ S) (h_rsl : Part.regs .sl ∈ S) (h_sl :
    Part.sl ∈ S) (h_hi : Part.hi ∈ S) (h_lg : Part.lg ∈ S) :
    Only S e0 (Dev.ltPauseDone d k status) := by
  unfold Dev.ltPauseDone
  simp (maxDischargeDepth := 60) only [hO, h_rhi, h_rsl, h_sl, h_hi, h_lg, only_refl, only_ite, only_foldl, implies_true,
      only_sl, only_hi, only_lg, finish_only]

theorem ltPauseCmd_only (d : Dev) (k : Cmd) (hO : Only S e0 d) (h_rhi : Part.regs .hi ∈ S) (h_rsl : Part.regs .sl ∈ S) (h_rlt : Part.regs .lt ∈ S)
    (h_sl : Part.sl ∈ S) (h_hi : Part.hi ∈ S) (h_lg : Part.lg ∈ S) (h_lt : Part.lt ∈ S) :
    Only S e0 (Dev.ltPauseCmd d k) := by
  unfold Dev.ltPauseCmd
  (try dsimp only)
  (repeat' split) <;> simp (maxDischargeDepth := 60) only [hO, h_rhi, h_rsl, h_rlt, h_sl, h_hi, h_lg,
      h_lt, only_refl, only_ite, only_foldl, implies_true, only_sl, only_hi, only_lg, only_lt, finish_only, ltPauseDone_only, setFld_only,
      setLs_only, setLt_only, blk_LT_DIAG_PAUSE_CAUSE]

theorem ltResumeCmd_only (d : Dev) (k : Cmd) (hO : Only S e0 d) (h_rhi : Part.regs .hi ∈ S) (h_rsl : Part.regs .sl ∈ S) (h_rlt : Part.regs .lt ∈ S)
    (h_sl : Part.sl ∈ S) (h_hi : Part.hi ∈ S) (h_lg : Part.lg ∈ S) (h_lt : Part.lt ∈ S) :
    Only S e0 (Dev.ltResumeCmd d k) := by
  unfold Dev.ltResumeCmd
  simp (maxDischargeDepth := 60) only [hO, h_rhi, h_rsl, h_rlt, h_sl, h_hi, h_lg, h_lt, only_refl, only_ite, only_foldl,
      implies_true, only_sl, only_hi, only_lg, only_lt, finish_only, ltFetch_only, ltPauseDone_only, setFld_only, setLs_only, blk_LT_DIAG_PAUSE_CAUSE]

theorem ltPauseDrainedEff_only (c : Nat) (d : Dev) (hO : Only S e0 d) (h_rhi : Part.regs .hi ∈ S) (h_rsl : Part.regs .sl ∈ S) (h_rlt : Part.regs .lt
    ∈ S) (h_sl : Part.sl ∈ S) (h_hi : Part.hi ∈ S) (h_lg : Part.lg ∈ S) (h_lt : Part.lt ∈ S) :
    Only S e0 (ltPauseDrainedEff c d) := by
  unfold ltPauseDrainedEff
  (try dsimp only)
  (repeat' split) <;> simp (maxDischargeDepth := 60) only [hO, h_rhi, h_rsl, h_rlt, h_sl, h_hi, h_lg,
      h_lt, only_refl, only_ite, only_foldl, implies_true, only_sl, only_hi, only_lg, only_lt, ltPauseDone_only, setLs_only, setLt_only]

theorem ltHostReset_only (d : Dev) (c : Nat) (hO : Only S e0 d) (h_rlt : Part.regs .lt ∈ S) (h_sl : Part.sl ∈ S) (h_lt : Part.lt ∈ S) :
    Only S e0
    (Dev.ltHostReset d c) := by
  unfold Dev.ltHostReset
  (try dsimp only)
  (repeat' split) <;> simp (maxDischargeDepth := 60) only [hO, h_rlt, h_sl, h_lt, only_refl, only_ite,
      only_foldl, implies_true, only_sl, only_lt, ltError_only, ltFailEnd_only, setFld_only, setLs_only, setLt_only, blk_LT_DIAG_PAUSE_CAUSE]

theorem ltLatch_only (d : Dev) (s : Nat) (hO : Only S e0 d) (h_rlt : Part.regs .lt ∈ S) :
    Only S e0 (Dev.ltLatch d s) := by
  unfold Dev.ltLatch
  simp (maxDischargeDepth := 60) only [hO, h_rlt, only_refl, only_ite, only_foldl, implies_true, setFld_only, blk_LT_CFG_EVSEL,
      blk_LT_CFG_EV_EN, blk_LT_STAT_LATCH]

theorem writeLtCfg_only (d : Dev) (c v : Nat) (hO : Only S e0 d) (h_rlt : Part.regs .lt ∈ S) :
    Only S e0 (Dev.writeLtCfg d c v) := by
  unfold Dev.writeLtCfg
  simp (maxDischargeDepth := 60) only [hO, h_rlt, only_refl, only_ite, only_foldl, implies_true, setFld_only,
      blk_LT_CFG_BURST_MAX, blk_LT_CFG_EVSEL, blk_LT_CFG_EV_EN, blk_LT_CFG_REQ_KIND, blk_LT_CFG_REQ_PN, blk_LT_CFG_TAIL_US]

end Sys2Proof.Machine
end

