-- ==== Sys2Proof/Laws/FrameCauseway.lean ====
section
/-! SUPPORT. Which parts of the state the operations of Machine/CwBase, Causeway may change. -/

namespace Sys2Proof.Machine

open Sys2Proof

set_option linter.unusedSimpArgs false
set_option linter.unusedVariables false
set_option linter.unusedTactic false
set_option linter.unreachableTactic false

variable {S : List Part} {e0 : Dev}

theorem raisePort_only (d : Dev) (p k b20 b21 : Nat) (hO : Only S e0 d) (h_sl : Part.sl ∈ S) :
    Only S e0 (Dev.raisePort d p k b20 b21) := by
  unfold Dev.raisePort
  simp (maxDischargeDepth := 60) only [hO, h_sl, only_refl, only_ite, only_foldl, implies_true, only_sl, raise_only,
      blk_CW_PSTAT_NB_DID]

theorem raiseCw_only (d : Dev) (k did b20 b21 b22 : Nat) (hO : Only S e0 d) (h_sl : Part.sl ∈ S) :
    Only S e0 (Dev.raiseCw d k did b20 b21 b22) := by
  unfold Dev.raiseCw
  simp (maxDischargeDepth := 60) only [hO, h_sl, only_refl, only_ite, only_foldl, implies_true, only_sl, raise_only]

theorem portRole_only (d : Dev) (p : Nat) (hO : Only S e0 d) (h_rcw : Part.regs .cw ∈ S) :
    Only S e0 (Dev.portRole d p) := by
  unfold Dev.portRole
  simp (maxDischargeDepth := 60) only [hO, h_rcw, only_refl, only_ite, only_foldl, implies_true, setFld_only, blk_CW_PSTAT_ROLE]

theorem portRoles_only (d : Dev) (hO : Only S e0 d) (h_rcw : Part.regs .cw ∈ S) :
    Only S e0 (Dev.portRoles d) := by
  unfold Dev.portRoles
  simp (maxDischargeDepth := 60) only [hO, h_rcw, only_refl, only_ite, only_foldl, implies_true, portRole_only]

theorem cwSent_only (d : Dev) (k : Nat) (hO : Only S e0 d) (h_cw : Part.cw ∈ S) :
    Only S e0 (Dev.cwSent d k) := by
  unfold Dev.cwSent
  simp (maxDischargeDepth := 60) only [hO, h_cw, only_refl, only_ite, only_foldl, implies_true, only_cw]

theorem sendSyncs_only (d : Dev) (hO : Only S e0 d) (h_cw : Part.cw ∈ S) :
    Only S e0 (Dev.sendSyncs d) := by
  unfold Dev.sendSyncs
  simp (maxDischargeDepth := 60) only [hO, h_cw, only_refl, only_ite, only_foldl, implies_true, only_cw, cwSend_only]

theorem sendRoute_only (d : Dev) (hO : Only S e0 d) (h_cw : Part.cw ∈ S) :
    Only S e0 (Dev.sendRoute d) := by
  unfold Dev.sendRoute
  (try dsimp only)
  (repeat' split) <;> simp (maxDischargeDepth := 60) only [hO, h_cw, only_refl, only_ite, only_foldl,
      implies_true, only_cw, cwSend_only]

theorem subnakHere_only (d : Dev) (reason refuser body : Nat) (hO : Only S e0 d) (h_axes : Part.axes ∈ S) (h_sl : Part.sl ∈ S) :
    Only S e0
    (Dev.subnakHere d reason refuser body) := by
  unfold Dev.subnakHere
  simp (maxDischargeDepth := 60) only [hO, h_axes, h_sl, only_refl, only_ite, only_foldl, implies_true, only_axes, only_sl,
      raiseCw_only, setAxis_only, blk_AX_CFG_SRC]

theorem sendSubnak_only (d : Dev) (reason body : Nat) (hO : Only S e0 d) (h_axes : Part.axes ∈ S) (h_cw : Part.cw ∈ S) (h_sl : Part.sl ∈ S) :
    Only S e0 (Dev.sendSubnak d reason body) := by
  unfold Dev.sendSubnak
  (try dsimp only)
  (repeat' split) <;> simp (maxDischargeDepth := 60) only [hO, h_axes, h_cw, h_sl, only_refl, only_ite,
      only_foldl, implies_true, only_axes, only_cw, only_sl, cwSend_only, subnakHere_only]

theorem sendSubscribe_only (d : Dev) (n : Nat) (hO : Only S e0 d) (h_axes : Part.axes ∈ S) (h_cw : Part.cw ∈ S) (h_sl : Part.sl ∈ S) :
    Only S e0
    (Dev.sendSubscribe d n) := by
  unfold Dev.sendSubscribe
  (try dsimp only)
  (repeat' split) <;> simp (maxDischargeDepth := 60) only [hO, h_axes, h_cw, h_sl, only_refl, only_ite,
      only_foldl, implies_true, only_axes, only_cw, only_sl, cwSend_only, sendSubnak_only, blk_AX_CFG_SRC]

theorem recLost_only (d : Dev) (body : Nat) (hO : Only S e0 d) (h_rcw : Part.regs .cw ∈ S) (h_sl : Part.sl ∈ S) (h_lg : Part.lg ∈ S) :
    Only S e0
    (Dev.recLost d body) := by
  unfold Dev.recLost
  simp (maxDischargeDepth := 60) only [hO, h_rcw, h_sl, h_lg, only_refl, only_ite, only_foldl, implies_true, only_sl, only_lg,
      count_only, logRecord_only, raiseCw_only, blk_CW_FCNT_FWD_LOST]

theorem pushRec_only (d : Dev) (body : Nat) (hO : Only S e0 d) (h_rcw : Part.regs .cw ∈ S) (h_cw : Part.cw ∈ S) (h_sl : Part.sl ∈ S) (h_lg : Part.lg
    ∈ S) :
    Only S e0 (Dev.pushRec d body) := by
  unfold Dev.pushRec
  (try dsimp only)
  (repeat' split) <;> simp (maxDischargeDepth := 60) only [hO, h_rcw, h_cw, h_sl, h_lg, only_refl, only_ite,
      only_foldl, implies_true, only_cw, only_sl, only_lg, cwSend_only, recLost_only, setCwp_only]

theorem recHere_only (d : Dev) (body : Nat) (hO : Only S e0 d) (h_sl : Part.sl ∈ S) :
    Only S e0 (Dev.recHere d body) := by
  unfold Dev.recHere
  simp (maxDischargeDepth := 60) only [hO, h_sl, only_refl, only_ite, only_foldl, implies_true, only_sl, raiseRecs_only]

theorem recMaster_only (d : Dev) (body : Nat) (hO : Only S e0 d) (h_rcw : Part.regs .cw ∈ S) (h_cw : Part.cw ∈ S) (h_sl : Part.sl ∈ S) :
    Only S
    e0 (Dev.recMaster d body) := by
  unfold Dev.recMaster
  simp (maxDischargeDepth := 60) only [hO, h_rcw, h_cw, h_sl, only_refl, only_ite, only_foldl, implies_true, only_cw, only_sl,
      count_only, recHere_only, blk_CW_FCNT_DUP]

theorem forward_only (d : Dev) (num : Nat) (r : Record) (hO : Only S e0 d) (h_rcw : Part.regs .cw ∈ S) (h_cw : Part.cw ∈ S) (h_sl : Part.sl ∈ S)
    (h_lg : Part.lg ∈ S) :
    Only S e0 (Dev.forward d num r) := by
  unfold Dev.forward
  simp (maxDischargeDepth := 60) only [hO, h_rcw, h_cw, h_sl, h_lg, only_refl, only_ite, only_foldl, implies_true, only_cw,
      only_sl, only_lg, pushRec_only]

theorem setTree_only (d : Dev) (role up hops master : Nat) (hO : Only S e0 d) (h_rcw : Part.regs .cw ∈ S) (h_sl : Part.sl ∈ S) :
    Only S e0
    (Dev.setTree d role up hops master) := by
  unfold Dev.setTree
  simp (maxDischargeDepth := 60) only [hO, h_rcw, h_sl, only_refl, only_ite, only_foldl, implies_true, only_sl, portRoles_only,
      raiseCw_only, setFld_only, blk_CW_TSTAT_HOPS, blk_CW_TSTAT_MASTER_DID, blk_CW_TSTAT_ROLE, blk_CW_TSTAT_UPPORT]

theorem detach_only (d : Dev) (hO : Only S e0 d) (h_rsys : Part.regs .sys ∈ S) (h_rck : Part.regs .ck ∈ S) (h_sys : Part.sys ∈ S) (h_cw : Part.cw ∈
    S) (h_sl : Part.sl ∈ S) :
    Only S e0 (Dev.detach d) := by
  unfold Dev.detach
  (try dsimp only)
  (repeat' split) <;> simp (maxDischargeDepth := 60) only [hO, h_rsys, h_rck, h_sys, h_cw, h_sl, only_refl,
      only_ite, only_foldl, implies_true, only_sys, only_cw, only_sl, clockFail_only, setCwp_only]

theorem attach_only (d : Dev) (p : Nat) (hO : Only S e0 d) (h_rsys : Part.regs .sys ∈ S) (h_rck : Part.regs .ck ∈ S) (h_rcw : Part.regs .cw ∈ S)
    (h_axes : Part.axes ∈ S) (h_sys : Part.sys ∈ S) (h_cw : Part.cw ∈ S) (h_sl : Part.sl ∈ S) (h_lg : Part.lg ∈ S) :
    Only S e0 (Dev.attach d p) := by
  unfold Dev.attach
  simp (maxDischargeDepth := 60) only [hO, h_rsys, h_rck, h_rcw, h_axes, h_sys, h_cw, h_sl, h_lg, only_refl, only_ite,
      only_foldl, implies_true, only_axes, only_sys, only_cw, only_sl, only_lg, detach_only, pushRec_only, raiseCw_only, sendRoute_only,
      sendSubscribe_only, setTree_only, blk_CW_PSTAT_NB_DID]

theorem depthCheck_only (d : Dev) (hO : Only S e0 d) (h_sl : Part.sl ∈ S) :
    Only S e0 (Dev.depthCheck d) := by
  unfold Dev.depthCheck
  simp (maxDischargeDepth := 60) only [hO, h_sl, only_refl, only_ite, only_foldl, implies_true, only_sl, raisePort_only]

theorem isolate_only (d : Dev) (hO : Only S e0 d) (h_rsys : Part.regs .sys ∈ S) (h_rck : Part.regs .ck ∈ S) (h_rcw : Part.regs .cw ∈ S) (h_sys :
    Part.sys ∈ S) (h_cw : Part.cw ∈ S) (h_sl : Part.sl ∈ S) :
    Only S e0 (Dev.isolate d) := by
  unfold Dev.isolate
  simp (maxDischargeDepth := 60) only [hO, h_rsys, h_rck, h_rcw, h_sys, h_cw, h_sl, only_refl, only_ite, only_foldl,
      implies_true, only_sys, only_cw, only_sl, depthCheck_only, detach_only, raiseCw_only, sendSyncs_only, setTree_only, blk_CW_TSTAT_MASTER_DID]

theorem loseParent_only (d : Dev) (hO : Only S e0 d) (h_rsys : Part.regs .sys ∈ S) (h_rck : Part.regs .ck ∈ S) (h_rcw : Part.regs .cw ∈ S) (h_axes :
    Part.axes ∈ S) (h_sys : Part.sys ∈ S) (h_cw : Part.cw ∈ S) (h_sl : Part.sl ∈ S) (h_lg : Part.lg ∈ S) :
    Only S e0 (Dev.loseParent d) := by
  unfold Dev.loseParent
  (try dsimp only)
  (repeat' split) <;> simp (maxDischargeDepth := 60) only [hO, h_rsys, h_rck, h_rcw, h_axes, h_sys, h_cw,
      h_sl, h_lg, only_refl, only_ite, only_foldl, implies_true, only_axes, only_sys, only_cw, only_sl, only_lg, attach_only, isolate_only]

theorem noteZero_only (d : Dev) (hO : Only S e0 d) (h_cw : Part.cw ∈ S) :
    Only S e0 (Dev.noteZero d) := by
  unfold Dev.noteZero
  simp (maxDischargeDepth := 60) only [hO, h_cw, only_refl, only_ite, only_foldl, implies_true, only_cw]

theorem noteUsable_only (d : Dev) (hO : Only S e0 d) (h_rcw : Part.regs .cw ∈ S) (h_cw : Part.cw ∈ S) :
    Only S e0 (Dev.noteUsable d) := by
  unfold Dev.noteUsable
  simp (maxDischargeDepth := 60) only [hO, h_rcw, h_cw, only_refl, only_ite, only_foldl, implies_true, only_cw, setCwp_only,
      setFlag_only, blk_CW_PSTAT_USABLE]

theorem treeCheck_only (d : Dev) (hO : Only S e0 d) (h_rsys : Part.regs .sys ∈ S) (h_rck : Part.regs .ck ∈ S) (h_rcw : Part.regs .cw ∈ S) (h_axes :
    Part.axes ∈ S) (h_sys : Part.sys ∈ S) (h_cw : Part.cw ∈ S) (h_sl : Part.sl ∈ S) (h_lg : Part.lg ∈ S) :
    Only S e0 (Dev.treeCheck d) := by
  unfold Dev.treeCheck
  (try dsimp only)
  (repeat' split) <;> simp (maxDischargeDepth := 60) only [hO, h_rsys, h_rck, h_rcw, h_axes, h_sys, h_cw,
      h_sl, h_lg, only_refl, only_ite, only_foldl, implies_true, only_axes, only_sys, only_cw, only_sl, only_lg, attach_only, isolate_only,
      loseParent_only, noteUsable_only, portRoles_only, setTree_only]

theorem portDown_only (d : Dev) (p : Nat) (hO : Only S e0 d) (h_rcw : Part.regs .cw ∈ S) (h_cw : Part.cw ∈ S) :
    Only S e0 (Dev.portDown d p) := by
  unfold Dev.portDown
  simp (maxDischargeDepth := 60) only [hO, h_rcw, h_cw, only_refl, only_ite, only_foldl, implies_true, only_cw, setCwp_only,
      setFld_only, blk_CW_PSTAT_NB_HOPS, blk_CW_PSTAT_ROLE]

theorem setLstate_only (d : Dev) (p st : Nat) (hO : Only S e0 d) (h_rsys : Part.regs .sys ∈ S) (h_rck : Part.regs .ck ∈ S) (h_rcw : Part.regs .cw ∈
    S) (h_axes : Part.axes ∈ S) (h_sys : Part.sys ∈ S) (h_cw : Part.cw ∈ S) (h_sl : Part.sl ∈ S) (h_lg : Part.lg ∈ S) :
    Only S e0 (Dev.setLstate
    d p st) := by
  unfold Dev.setLstate
  simp (maxDischargeDepth := 60) only [hO, h_rsys, h_rck, h_rcw, h_axes, h_sys, h_cw, h_sl, h_lg, only_refl, only_ite,
      only_foldl, implies_true, only_axes, only_sys, only_cw, only_sl, only_lg, noteZero_only, portDown_only, raisePort_only, setCwp_only,
      setFld_only, treeCheck_only, blk_CW_PSTAT_LSTATE]

theorem refuse_only (d : Dev) (p reason : Nat) (hO : Only S e0 d) (h_rsys : Part.regs .sys ∈ S) (h_rck : Part.regs .ck ∈ S) (h_rcw : Part.regs .cw ∈
    S) (h_axes : Part.axes ∈ S) (h_sys : Part.sys ∈ S) (h_cw : Part.cw ∈ S) (h_sl : Part.sl ∈ S) (h_lg : Part.lg ∈ S) :
    Only S e0 (Dev.refuse d p
    reason) := by
  unfold Dev.refuse
  simp (maxDischargeDepth := 60) only [hO, h_rsys, h_rck, h_rcw, h_axes, h_sys, h_cw, h_sl, h_lg, only_refl, only_ite,
      only_foldl, implies_true, only_axes, only_sys, only_cw, only_sl, only_lg, noteZero_only, raisePort_only, setCwp_only, setFld_only,
      treeCheck_only, blk_CW_PSTAT_ROLE]

theorem cwStart_only (d : Dev) (hO : Only S e0 d) (h_rsys : Part.regs .sys ∈ S) (h_rck : Part.regs .ck ∈ S) (h_rcw : Part.regs .cw ∈ S) (h_axes :
    Part.axes ∈ S) (h_sys : Part.sys ∈ S) (h_cw : Part.cw ∈ S) (h_sl : Part.sl ∈ S) (h_lg : Part.lg ∈ S) :
    Only S e0 (Dev.cwStart d) := by
  unfold Dev.cwStart
  simp (maxDischargeDepth := 60) only [hO, h_rsys, h_rck, h_rcw, h_axes, h_sys, h_cw, h_sl, h_lg, only_refl, only_ite,
      only_foldl, implies_true, only_axes, only_sys, only_cw, only_sl, only_lg, isolate_only, setTree_only, treeCheck_only]

theorem actMaster_only (d : Dev) (hO : Only S e0 d) (h_rsys : Part.regs .sys ∈ S) (h_rck : Part.regs .ck ∈ S) (h_rcw : Part.regs .cw ∈ S) (h_sys :
    Part.sys ∈ S) (h_cw : Part.cw ∈ S) (h_sl : Part.sl ∈ S) :
    Only S e0 (Dev.actMaster d) := by
  unfold Dev.actMaster
  simp (maxDischargeDepth := 60) only [hO, h_rsys, h_rck, h_rcw, h_sys, h_cw, h_sl, only_refl, only_ite, only_foldl,
      implies_true, only_sys, only_cw, only_sl, detach_only, recMaster_only, setTree_only]

theorem portLinkEventEff_only (p : Nat) (ev : LaneEvent) (d : Dev) (hO : Only S e0 d) (h_rsys : Part.regs .sys ∈ S) (h_rck : Part.regs .ck ∈ S)
    (h_rcw : Part.regs .cw ∈ S) (h_axes : Part.axes ∈ S) (h_sys : Part.sys ∈ S) (h_cw : Part.cw ∈ S) (h_sl : Part.sl ∈ S) (h_lg : Part.lg ∈ S) :
    Only S e0 (portLinkEventEff p ev d) := by
  unfold portLinkEventEff
  (try dsimp only)
  (repeat' split) <;> simp (maxDischargeDepth := 60) only [hO, h_rsys, h_rck, h_rcw, h_axes, h_sys,
      h_cw, h_sl, h_lg, only_refl, only_ite, only_foldl, implies_true, only_axes, only_sys, only_cw, only_sl, only_lg, setLstate_only,
      blk_CW_PSTAT_LSTATE]

theorem portUpTimerEff_only (p : Nat) (d : Dev) (hO : Only S e0 d) (h_rsys : Part.regs .sys ∈ S) (h_rck : Part.regs .ck ∈ S) (h_rcw : Part.regs .cw ∈
    S) (h_axes : Part.axes ∈ S) (h_sys : Part.sys ∈ S) (h_cw : Part.cw ∈ S) (h_sl : Part.sl ∈ S) (h_lg : Part.lg ∈ S) :
    Only S e0 (portUpTimerEff
    p d) := by
  unfold portUpTimerEff
  simp (maxDischargeDepth := 60) only [hO, h_rsys, h_rck, h_rcw, h_axes, h_sys, h_cw, h_sl, h_lg, only_refl, only_ite,
      only_foldl, implies_true, only_axes, only_sys, only_cw, only_sl, only_lg, setLstate_only, blk_CW_PSTAT_LSTATE]

theorem frameTxEff_only (p : Nat) (d : Dev) (hO : Only S e0 d) (h_cw : Part.cw ∈ S) :
    Only S e0 (frameTxEff p d) := by
  unfold frameTxEff
  (try dsimp only)
  (repeat' split) <;> simp (maxDischargeDepth := 60) only [hO, h_cw, only_refl, only_ite, only_foldl,
      implies_true, only_cw, setCwp_only]

theorem frameDiscardEff_only (p : Nat) (d : Dev) (hO : Only S e0 d) (h_rcw : Part.regs .cw ∈ S) (h_sl : Part.sl ∈ S) :
    Only S e0 (frameDiscardEff
    p d) := by
  unfold frameDiscardEff
  simp (maxDischargeDepth := 60) only [hO, h_rcw, h_sl, only_refl, only_ite, only_foldl, implies_true, only_sl, count_only,
      raisePort_only, blk_CW_PCNT_CRC_ERR]

theorem syncSendEff_only (d : Dev) (hO : Only S e0 d) (h_cw : Part.cw ∈ S) :
    Only S e0 (syncSendEff d) := by
  unfold syncSendEff
  simp (maxDischargeDepth := 60) only [hO, h_cw, only_refl, only_ite, only_foldl, implies_true, only_cw, cwSent_only,
      sendSyncs_only]

theorem dreqSendEff_only (p : Nat) (d : Dev) (hO : Only S e0 d) (h_cw : Part.cw ∈ S) :
    Only S e0 (dreqSendEff p d) := by
  unfold dreqSendEff
  simp (maxDischargeDepth := 60) only [hO, h_cw, only_refl, only_ite, only_foldl, implies_true, only_cw, cwSend_only,
      cwSent_only, setCwp_only]

theorem rxDreqEff_only (p : Nat) (seq : BitVec 16) (t2 : Nat) (d : Dev) (hO : Only S e0 d) (h_cw : Part.cw ∈ S) :
    Only S e0 (rxDreqEff p seq t2 d) := by
  unfold rxDreqEff
  simp (maxDischargeDepth := 60) only [hO, h_cw, only_refl, only_ite, only_foldl, implies_true, only_cw, cwSend_only]

theorem delayIn_only (d : Dev) (p : Nat) (x : Int) (hO : Only S e0 d) (h_rcw : Part.regs .cw ∈ S) (h_cw : Part.cw ∈ S) :
    Only S e0 (Dev.delayIn d
    p x) := by
  unfold Dev.delayIn
  simp (maxDischargeDepth := 60) only [hO, h_rcw, h_cw, only_refl, only_ite, only_foldl, implies_true, only_cw, count_only,
      setCwp_only, setFld_only, blk_CW_PDELAY_D, blk_CW_PDELAY_REJ]

theorem rxDrespEff_only (p : Nat) (body : BitVec 192) (t4 : Nat) (d : Dev) (hO : Only S e0 d) (h_rcw : Part.regs .cw ∈ S) (h_cw : Part.cw ∈ S) :
    Only S e0 (rxDrespEff p body t4 d) := by
  unfold rxDrespEff
  (try dsimp only)
  (repeat' split) <;> simp (maxDischargeDepth := 60) only [hO, h_rcw, h_cw, only_refl, only_ite, only_foldl,
      implies_true, only_cw, delayIn_only]

theorem offsetIn_only (d : Dev) (o : Int) (hO : Only S e0 d) (h_cw : Part.cw ∈ S) :
    Only S e0 (Dev.offsetIn d o) := by
  unfold Dev.offsetIn
  simp (maxDischargeDepth := 60) only [hO, h_cw, only_refl, only_ite, only_foldl, implies_true, only_cw, blk_CW_TSTAT_LOCKED]

theorem rxSyncEff_only (p : Nat) (sender : BitVec 10) (body : BitVec 384) (tc : Nat) (d : Dev) (hO : Only S e0 d) (h_rsys : Part.regs .sys ∈ S)
    (h_rck : Part.regs .ck ∈ S) (h_rcw : Part.regs .cw ∈ S) (h_axes : Part.axes ∈ S) (h_sys : Part.sys ∈ S) (h_cw : Part.cw ∈ S) (h_sl : Part.sl ∈ S)
    (h_lg : Part.lg ∈ S) :
    Only S e0 (rxSyncEff p sender body tc d) := by
  unfold rxSyncEff
  simp (maxDischargeDepth := 60) only [hO, h_rsys, h_rck, h_rcw, h_axes, h_sys, h_cw, h_sl, h_lg, only_refl, only_ite, only_foldl,
      implies_true, only_axes, only_sys, only_cw, only_sl, only_lg, depthCheck_only, noteZero_only, offsetIn_only, raisePort_only, refuse_only,
      setCwp_only, setFlag_only, setFld_only, treeCheck_only, blk_CW_PSTAT_NB_DID, blk_CW_PSTAT_NB_HOPS, blk_CW_PSTAT_NB_MASTER,
      blk_CW_PSTAT_NB_STEADY]

theorem servo_only (d : Dev) (om : Int) (hO : Only S e0 d) (h_rcw : Part.regs .cw ∈ S) (h_cw : Part.cw ∈ S) (h_sl : Part.sl ∈ S) :
    Only S e0
    (Dev.servo d om) := by
  unfold Dev.servo
  simp (maxDischargeDepth := 60) only [hO, h_rcw, h_cw, h_sl, only_refl, only_ite, only_foldl, implies_true, only_cw, only_sl,
      raiseCw_only, setFlag_only, setFld_only, blk_CW_OFFSET_OFFSET, blk_CW_TSTAT_LOCKED, blk_CW_TSTAT_OFFSET_RANGE]

theorem servoRequest_only (d : Dev) (om : Int) (hO : Only S e0 d) (h_rax : Part.regs .ax ∈ S) (h_tb : Part.tb ∈ S) (h_cw : Part.cw ∈ S) (h_sl :
    Part.sl ∈ S) :
    Only S e0 (Dev.servoRequest d om) := by
  unfold Dev.servoRequest
  simp (maxDischargeDepth := 60) only [hO, h_rax, h_tb, h_cw, h_sl, only_refl, only_ite, only_foldl, implies_true, only_tb,
      only_cw, only_sl, discipline_only, blk_AX0_STATUS_STEP_COUNT, blk_CW_TSTAT_OFFSET_RANGE, blk_CW_TSTAT_UPPORT]

theorem servoIntervalEff_only (d : Dev) (hO : Only S e0 d) (h_rax : Part.regs .ax ∈ S) (h_rcw : Part.regs .cw ∈ S) (h_tb : Part.tb ∈ S) (h_cw :
    Part.cw ∈ S) (h_sl : Part.sl ∈ S) :
    Only S e0 (servoIntervalEff d) := by
  unfold servoIntervalEff
  simp (maxDischargeDepth := 60) only [hO, h_rax, h_rcw, h_tb, h_cw, h_sl, only_refl, only_ite, only_foldl, implies_true,
      only_tb, only_cw, only_sl, cwSent_only, servo_only, servoRequest_only, setFld_only, blk_CW_TSTAT_LOCKED]

theorem parentLossTimeoutEff_only (d : Dev) (hO : Only S e0 d) (h_rsys : Part.regs .sys ∈ S) (h_rck : Part.regs .ck ∈ S) (h_rcw : Part.regs .cw ∈ S)
    (h_axes : Part.axes ∈ S) (h_sys : Part.sys ∈ S) (h_cw : Part.cw ∈ S) (h_sl : Part.sl ∈ S) (h_lg : Part.lg ∈ S) :
    Only S e0
    (parentLossTimeoutEff d) := by
  unfold parentLossTimeoutEff
  (try dsimp only)
  (repeat' split) <;> simp (maxDischargeDepth := 60) only [hO, h_rsys, h_rck, h_rcw, h_axes, h_sys,
      h_cw, h_sl, h_lg, only_refl, only_ite, only_foldl, implies_true, only_axes, only_sys, only_cw, only_sl, only_lg, noteZero_only, setCwp_only,
      setFld_only, treeCheck_only, blk_CW_PSTAT_USABLE]

theorem masterLossTimeoutEff_only (d : Dev) (hO : Only S e0 d) (h_rsys : Part.regs .sys ∈ S) (h_rck : Part.regs .ck ∈ S) (h_rcw : Part.regs .cw ∈ S)
    (h_sys : Part.sys ∈ S) (h_cw : Part.cw ∈ S) (h_sl : Part.sl ∈ S) :
    Only S e0 (masterLossTimeoutEff d) := by
  unfold masterLossTimeoutEff
  simp (maxDischargeDepth := 60) only [hO, h_rsys, h_rck, h_rcw, h_sys, h_cw, h_sl, only_refl, only_ite, only_foldl,
      implies_true, only_sys, only_cw, only_sl, actMaster_only]

theorem candidateTimerEff_only (p : Nat) (d : Dev) (hO : Only S e0 d) (h_rsys : Part.regs .sys ∈ S) (h_rck : Part.regs .ck ∈ S) (h_rcw : Part.regs
    .cw ∈ S) (h_axes : Part.axes ∈ S) (h_sys : Part.sys ∈ S) (h_cw : Part.cw ∈ S) (h_sl : Part.sl ∈ S) (h_lg : Part.lg ∈ S) :
    Only S e0
    (candidateTimerEff p d) := by
  unfold candidateTimerEff
  simp (maxDischargeDepth := 60) only [hO, h_rsys, h_rck, h_rcw, h_axes, h_sys, h_cw, h_sl, h_lg, only_refl, only_ite,
      only_foldl, implies_true, only_axes, only_sys, only_cw, only_sl, only_lg, attach_only, noteZero_only]

theorem routeSendEff_only (d : Dev) (hO : Only S e0 d) (h_cw : Part.cw ∈ S) :
    Only S e0 (routeSendEff d) := by
  unfold routeSendEff
  simp (maxDischargeDepth := 60) only [hO, h_cw, only_refl, only_ite, only_foldl, implies_true, only_cw, cwSent_only,
      sendRoute_only]

theorem rxRouteEff_only (p : Nat) (sender : BitVec 10) (bitmap : BitVec 1024) (d : Dev) (hO : Only S e0 d) (h_rsys : Part.regs .sys ∈ S) (h_rck :
    Part.regs .ck ∈ S) (h_rcw : Part.regs .cw ∈ S) (h_axes : Part.axes ∈ S) (h_sys : Part.sys ∈ S) (h_cw : Part.cw ∈ S) (h_sl : Part.sl ∈ S) (h_lg :
    Part.lg ∈ S) :
    Only S e0 (rxRouteEff p sender bitmap d) := by
  unfold rxRouteEff
  simp (maxDischargeDepth := 60) only [hO, h_rsys, h_rck, h_rcw, h_axes, h_sys, h_cw, h_sl, h_lg, only_refl, only_ite,
      only_foldl, implies_true, only_axes, only_sys, only_cw, only_sl, only_lg, portRoles_only, refuse_only, setCwp_only]

theorem routeExpireEff_only (p : Nat) (did : BitVec 10) (d : Dev) (hO : Only S e0 d) (h_rcw : Part.regs .cw ∈ S) (h_cw : Part.cw ∈ S) :
    Only S e0
    (routeExpireEff p did d) := by
  unfold routeExpireEff
  simp (maxDischargeDepth := 60) only [hO, h_rcw, h_cw, only_refl, only_ite, only_foldl, implies_true, only_cw,
      portRoles_only, setCwp_only]

theorem snapSendEff_only (k : Nat) (d : Dev) (hO : Only S e0 d) (h_cw : Part.cw ∈ S) (h_freeCtr : Part.ctr ∈ S) :
    Only S e0 (snapSendEff k d) := by
  unfold snapSendEff
  simp (maxDischargeDepth := 60) only [hO, h_cw, h_freeCtr, only_refl, only_ite, only_foldl, implies_true, only_cw, only_ctr,
      cwCast_only, nextFree_only, blk_CW_PUB_AXIS, blk_CW_PUB_EN]

theorem writePub_only (d : Dev) (k v : Nat) (hO : Only S e0 d) (h_rcw : Part.regs .cw ∈ S) :
    Only S e0 (Dev.writePub d k v) := by
  unfold Dev.writePub
  simp (maxDischargeDepth := 60) only [hO, h_rcw, only_refl, only_ite, only_foldl, implies_true, setFld_only, blk_CW_PUB_AXIS,
      blk_CW_PUB_EN, blk_CW_PUB_REFUSED]

theorem subscribeSendEff_only (n : Nat) (d : Dev) (hO : Only S e0 d) (h_axes : Part.axes ∈ S) (h_cw : Part.cw ∈ S) (h_sl : Part.sl ∈ S) :
    Only S
    e0 (subscribeSendEff n d) := by
  unfold subscribeSendEff
  simp (maxDischargeDepth := 60) only [hO, h_axes, h_cw, h_sl, only_refl, only_ite, only_foldl, implies_true, only_axes,
      only_cw, only_sl, cwSent_only, sendSubscribe_only]

theorem addSub_only (d : Dev) (p did slot : Nat) (hO : Only S e0 d) (h_cw : Part.cw ∈ S) :
    Only S e0 (Dev.addSub d p did slot) := by
  unfold Dev.addSub
  simp (maxDischargeDepth := 60) only [hO, h_cw, only_refl, only_ite, only_foldl, implies_true, only_cw]

theorem rxSubscribeEff_only (p : Nat) (body : BitVec 32) (d : Dev) (hO : Only S e0 d) (h_axes : Part.axes ∈ S) (h_cw : Part.cw ∈ S) (h_sl : Part.sl ∈
    S) :
    Only S e0 (rxSubscribeEff p body d) := by
  unfold rxSubscribeEff
  (try dsimp only)
  (repeat' split) <;> simp (maxDischargeDepth := 60) only [hO, h_axes, h_cw, h_sl, only_refl, only_ite,
      only_foldl, implies_true, only_axes, only_cw, only_sl, addSub_only, cwSend_only, sendSubnak_only]

theorem rxSubnakEff_only (p : Nat) (dst : BitVec 10) (body : BitVec 64) (d : Dev) (hO : Only S e0 d) (h_axes : Part.axes ∈ S) (h_cw : Part.cw ∈ S)
    (h_sl : Part.sl ∈ S) :
    Only S e0 (rxSubnakEff p dst body d) := by
  unfold rxSubnakEff
  (try dsimp only)
  (repeat' split) <;> simp (maxDischargeDepth := 60) only [hO, h_axes, h_cw, h_sl, only_refl, only_ite,
      only_foldl, implies_true, only_axes, only_cw, only_sl, cwSend_only, subnakHere_only]

theorem subBitExpireEff_only (i p : Nat) (d : Dev) (hO : Only S e0 d) (h_cw : Part.cw ∈ S) :
    Only S e0 (subBitExpireEff i p d) := by
  unfold subBitExpireEff
  (try dsimp only)
  (repeat' split) <;> simp (maxDischargeDepth := 60) only [hO, h_cw, only_refl, only_ite, only_foldl,
      implies_true, only_cw]

theorem setRemote_only (d : Dev) (n : Nat) (r : Remote) (hO : Only S e0 d) (h_axes : Part.axes ∈ S) :
    Only S e0 (Dev.setRemote d n r) := by
  unfold Dev.setRemote
  simp (maxDischargeDepth := 60) only [hO, h_axes, only_refl, only_ite, only_foldl, implies_true, only_axes, setAxis_only]

theorem remoteMoved_only (d : Dev) (n old : Nat) (hO : Only S e0 d) (h_qy : Part.qy ∈ S) :
    Only S e0 (Dev.remoteMoved d n old) := by
  unfold Dev.remoteMoved
  simp (maxDischargeDepth := 60) only [hO, h_qy, only_refl, only_ite, only_foldl, implies_true, only_qy, jumpAxis_only]

theorem snapIn_only (d : Dev) (n b : Nat) (hO : Only S e0 d) (h_rhi : Part.regs .hi ∈ S) (h_rsl : Part.regs .sl ∈ S) (h_rqy : Part.regs .qy ∈ S)
    (h_axes : Part.axes ∈ S) (h_qy : Part.qy ∈ S) (h_pins : Part.pins ∈ S) (h_sl : Part.sl ∈ S) (h_hi : Part.hi ∈ S) (h_lg : Part.lg ∈ S) (h_pn :
    Part.pn ∈ S) :
    Only S e0 (Dev.snapIn d n b) := by
  unfold Dev.snapIn
  simp (maxDischargeDepth := 60) only [hO, h_rhi, h_rsl, h_rqy, h_axes, h_qy, h_pins, h_sl, h_hi, h_lg, h_pn, only_refl,
      only_ite, only_foldl, implies_true, only_axes, only_qy, only_pins, only_sl, only_hi, only_lg, only_pn, forwardAxis_only, remoteMoved_only,
      reverseAxis_only, setRemote_only]

theorem rxSnapEff_only (p : Nat) (sender : BitVec 10) (body : BitVec 256) (d : Dev) (hO : Only S e0 d) (h_rhi : Part.regs .hi ∈ S) (h_rsl : Part.regs
    .sl ∈ S) (h_rqy : Part.regs .qy ∈ S) (h_axes : Part.axes ∈ S) (h_qy : Part.qy ∈ S) (h_pins : Part.pins ∈ S) (h_cw : Part.cw ∈ S) (h_sl : Part.sl
    ∈ S) (h_hi : Part.hi ∈ S) (h_lg : Part.lg ∈ S) (h_pn : Part.pn ∈ S) :
    Only S e0 (rxSnapEff p sender body d) := by
  unfold rxSnapEff
  simp (maxDischargeDepth := 60) only [hO, h_rhi, h_rsl, h_rqy, h_axes, h_qy, h_pins, h_cw, h_sl, h_hi, h_lg, h_pn, only_refl,
      only_ite, only_foldl, implies_true, only_axes, only_qy, only_pins, only_cw, only_sl, only_hi, only_lg, only_pn, cwCast_only, snapIn_only]

theorem toothIn_only (d : Dev) (n b : Nat) (hO : Only S e0 d) (h_axes : Part.axes ∈ S) (h_qy : Part.qy ∈ S) :
    Only S e0 (Dev.toothIn d n b) := by
  unfold Dev.toothIn
  simp (maxDischargeDepth := 60) only [hO, h_axes, h_qy, only_refl, only_ite, only_foldl, implies_true, only_axes, only_qy,
      remoteMoved_only, setRemote_only]

theorem rxToothEff_only (p : Nat) (sender : BitVec 10) (body : BitVec 448) (d : Dev) (hO : Only S e0 d) (h_axes : Part.axes ∈ S) (h_qy : Part.qy ∈ S)
    (h_cw : Part.cw ∈ S) :
    Only S e0 (rxToothEff p sender body d) := by
  unfold rxToothEff
  simp (maxDischargeDepth := 60) only [hO, h_axes, h_qy, h_cw, only_refl, only_ite, only_foldl, implies_true, only_axes, only_qy,
      only_cw, cwCast_only, toothIn_only]

theorem remoteHoldoverEff_only (n : Nat) (d : Dev) (hO : Only S e0 d) (h_axes : Part.axes ∈ S) :
    Only S e0 (remoteHoldoverEff n d) := by
  unfold remoteHoldoverEff
  simp (maxDischargeDepth := 60) only [hO, h_axes, only_refl, only_ite, only_foldl, implies_true, only_axes,
      setRemote_only]

theorem remoteAbsentEff_only (n : Nat) (d : Dev) (hO : Only S e0 d) (h_axes : Part.axes ∈ S) (h_sl : Part.sl ∈ S) :
    Only S e0 (remoteAbsentEff n
    d) := by
  unfold remoteAbsentEff
  simp (maxDischargeDepth := 60) only [hO, h_axes, h_sl, only_refl, only_ite, only_foldl, implies_true, only_axes, only_sl,
      raiseCw_only, setRemote_only, blk_AX_CFG_SRC]

theorem rxRecEff_only (p : Nat) (body : BitVec 320) (d : Dev) (hO : Only S e0 d) (h_rcw : Part.regs .cw ∈ S) (h_cw : Part.cw ∈ S) (h_sl : Part.sl ∈
    S) (h_lg : Part.lg ∈ S) :
    Only S e0 (rxRecEff p body d) := by
  unfold rxRecEff
  simp (maxDischargeDepth := 60) only [hO, h_rcw, h_cw, h_sl, h_lg, only_refl, only_ite, only_foldl, implies_true, only_cw,
      only_sl, only_lg, cwSend_only, pushRec_only, recMaster_only, setCwp_only]

theorem rxAckEff_only (p : Nat) (seq : BitVec 16) (d : Dev) (hO : Only S e0 d) (h_cw : Part.cw ∈ S) :
    Only S e0 (rxAckEff p seq d) := by
  unfold rxAckEff
  simp (maxDischargeDepth := 60) only [hO, h_cw, only_refl, only_ite, only_foldl, implies_true, only_cw, setCwp_only]

theorem recRetransmitEff_only (p : Nat) (d : Dev) (hO : Only S e0 d) (h_rcw : Part.regs .cw ∈ S) (h_cw : Part.cw ∈ S) :
    Only S e0
    (recRetransmitEff p d) := by
  unfold recRetransmitEff
  (try dsimp only)
  (repeat' split) <;> simp (maxDischargeDepth := 60) only [hO, h_rcw, h_cw, only_refl, only_ite,
      only_foldl, implies_true, only_cw, count_only, cwSend_only, blk_CW_PCNT_RETX]

theorem gapTimeoutEff_only (did : BitVec 10) (d : Dev) (hO : Only S e0 d) (h_rcw : Part.regs .cw ∈ S) (h_cw : Part.cw ∈ S) (h_sl : Part.sl ∈ S) :
    Only S e0 (gapTimeoutEff did d) := by
  unfold gapTimeoutEff
  (try dsimp only)
  (repeat' split) <;> simp (maxDischargeDepth := 60) only [hO, h_rcw, h_cw, h_sl, only_refl, only_ite,
      only_foldl, implies_true, only_cw, only_sl, count_only, raiseCw_only, blk_CW_FCNT_GAPS]

theorem digestRecomputeEff_only (c : Nat) (d : Dev) (hO : Only S e0 d) (h_rcw : Part.regs .cw ∈ S) :
    Only S e0 (digestRecomputeEff c d) := by
  unfold digestRecomputeEff
  simp (maxDischargeDepth := 60) only [hO, h_rcw, only_refl, only_ite, only_foldl, implies_true, setFld_only,
      blk_CW_TLOCAL_DIGEST]

theorem setResult_only (d : Dev) (c r : Nat) (hO : Only S e0 d) (h_rcw : Part.regs .cw ∈ S) (h_sl : Part.sl ∈ S) :
    Only S e0 (Dev.setResult d c r) := by
  unfold Dev.setResult
  simp (maxDischargeDepth := 60) only [hO, h_rcw, h_sl, only_refl, only_ite, only_foldl, implies_true, only_sl, raiseCw_only,
      setFld_only, blk_CW_TLOCAL_RESULT]

theorem compareClass_only (d : Dev) (c : Nat) (hO : Only S e0 d) (h_rcw : Part.regs .cw ∈ S) (h_cw : Part.cw ∈ S) (h_sl : Part.sl ∈ S) :
    Only S
    e0 (Dev.compareClass d c) := by
  unfold Dev.compareClass
  simp (maxDischargeDepth := 60) only [hO, h_rcw, h_cw, h_sl, only_refl, only_ite, only_foldl, implies_true, only_cw,
      only_sl, setResult_only, blk_CW_TEXP_DIGEST, blk_CW_TEXP_EPOCH, blk_CW_TLOCAL_DIGEST]

theorem dropUncompared_only (d : Dev) (hO : Only S e0 d) (h_rcw : Part.regs .cw ∈ S) (h_sl : Part.sl ∈ S) :
    Only S e0 (Dev.dropUncompared d) := by
  unfold Dev.dropUncompared
  simp (maxDischargeDepth := 60) only [hO, h_rcw, h_sl, only_refl, only_ite, only_foldl, implies_true, only_sl,
      setResult_only]

theorem roundBegin_only (d : Dev) (round : Nat) (hO : Only S e0 d) (h_rcw : Part.regs .cw ∈ S) (h_cw : Part.cw ∈ S) :
    Only S e0 (Dev.roundBegin d
    round) := by
  unfold Dev.roundBegin
  simp (maxDischargeDepth := 60) only [hO, h_rcw, h_cw, only_refl, only_ite, only_foldl, implies_true, only_cw, setFld_only,
      blk_CW_TROUND_ROUND]

theorem addGroup_only (d : Dev) (c : Nat) (g : TallyGroup) (hO : Only S e0 d) (h_cw : Part.cw ∈ S) :
    Only S e0 (Dev.addGroup d c g) := by
  unfold Dev.addGroup
  simp (maxDischargeDepth := 60) only [hO, h_cw, only_refl, only_ite, only_foldl, implies_true, only_cw]

theorem addOwn_only (d : Dev) (hO : Only S e0 d) (h_rcw : Part.regs .cw ∈ S) (h_cw : Part.cw ∈ S) (h_sl : Part.sl ∈ S)  :
    Only S e0 d.addOwn := by
  unfold Dev.addOwn
  dsimp only
  apply only_cw _ h_cw
  apply only_foldl
  · intro x c
    split <;> simp (maxDischargeDepth := 60) only [only_refl, only_ite, only_foldl, implies_true, only_cw, only_sl, addGroup_only, dropUncompared_only, blk_CW_TLOCAL_RESULT, *]
  · simp (maxDischargeDepth := 60) only [only_refl, only_ite, only_foldl, implies_true, only_cw, only_sl, addGroup_only, dropUncompared_only, blk_CW_TLOCAL_RESULT, *]

theorem castTally_only (d : Dev) (body : Nat) (hO : Only S e0 d) (h_cw : Part.cw ∈ S) :
    Only S e0 (Dev.castTally d body) := by
  unfold Dev.castTally
  simp (maxDischargeDepth := 60) only [hO, h_cw, only_refl, only_ite, only_foldl, implies_true, only_cw, cwSend_only]

theorem rxTallyEff_only (p : Nat) (body : BitVec 160) (d : Dev) (hO : Only S e0 d) (h_rcw : Part.regs .cw ∈ S) (h_cw : Part.cw ∈ S) (h_sl : Part.sl ∈
    S) :
    Only S e0 (rxTallyEff p body d) := by
  unfold rxTallyEff
  simp (maxDischargeDepth := 60) only [hO, h_rcw, h_cw, h_sl, only_refl, only_ite, only_foldl, implies_true, only_cw, only_sl,
      castTally_only, compareClass_only, roundBegin_only, setFld_only, blk_CW_TEXP_DIGEST, blk_CW_TEXP_EPOCH, blk_CW_TEXP_SET, blk_CW_TROUND_ROUND]

theorem rxTreportEff_only (p : Nat) (body : BitVec 1088) (d : Dev) (hO : Only S e0 d) (h_cw : Part.cw ∈ S) :
    Only S e0 (rxTreportEff p body d) := by
  unfold rxTreportEff
  simp (maxDischargeDepth := 60) only [hO, h_cw, only_refl, only_ite, only_foldl, implies_true, only_cw, addGroup_only,
      blk_CW_TROUND_ROUND]

theorem treportWindowEff_only (d : Dev) (hO : Only S e0 d) (h_rcw : Part.regs .cw ∈ S) (h_cw : Part.cw ∈ S) (h_sl : Part.sl ∈ S) :
    Only S e0
    (treportWindowEff d) := by
  unfold treportWindowEff
  (try dsimp only)
  (repeat' split) <;> simp (maxDischargeDepth := 60) only [hO, h_rcw, h_cw, h_sl, only_refl, only_ite,
      only_foldl, implies_true, only_cw, only_sl, addOwn_only, cwSend_only, blk_CW_TSTAT_HOPS]

theorem applySets_only (d : Dev) (hO : Only S e0 d) (h_rcw : Part.regs .cw ∈ S) (h_cw : Part.cw ∈ S) :
    Only S e0 (Dev.applySets d) := by
  unfold Dev.applySets
  simp (maxDischargeDepth := 60) only [hO, h_rcw, h_cw, only_refl, only_ite, only_foldl, implies_true, only_cw, setFld_only,
      blk_CW_TEXP_DIGEST, blk_CW_TEXP_EPOCH, blk_CW_TEXP_SET]

theorem tallyRoundStartEff_only (d : Dev) (hO : Only S e0 d) (h_rcw : Part.regs .cw ∈ S) (h_cw : Part.cw ∈ S) (h_sl : Part.sl ∈ S) :
    Only S e0
    (tallyRoundStartEff d) := by
  unfold tallyRoundStartEff
  simp (maxDischargeDepth := 60) only [hO, h_rcw, h_cw, h_sl, only_refl, only_ite, only_foldl, implies_true, only_cw,
      only_sl, applySets_only, castTally_only, compareClass_only, cwSent_only, roundBegin_only, blk_CW_TALLY_PERIOD_MS, blk_CW_TEXP_SET,
      blk_CW_TROUND_ROUND]

theorem tallyRoundCloseEff_only (d : Dev) (hO : Only S e0 d) (h_rcw : Part.regs .cw ∈ S) (h_cw : Part.cw ∈ S) (h_sl : Part.sl ∈ S) :
    Only S e0
    (tallyRoundCloseEff d) := by
  unfold tallyRoundCloseEff
  simp (maxDischargeDepth := 60) only [hO, h_rcw, h_cw, h_sl, only_refl, only_ite, only_foldl, implies_true, only_cw,
      only_sl, addOwn_only, raiseCw_only, setFld_only, blk_CW_TREPORT_REPORTING, blk_CW_TRES_LOW_MISMATCH, blk_CW_TRES_LOW_STALE,
      blk_CW_TRES_MISMATCH_CNT, blk_CW_TRES_STALE_CNT, blk_CW_TROUND_ROUND]

end Sys2Proof.Machine
end

