-- ==== Sys2Proof/Laws/FrameLog.lean ====
section
/-! SUPPORT. Which parts of the state the operations of Machine/LogBase, Read, Log, SourceRise, Close, Power may change. -/

namespace Sys2Proof.Machine

open Sys2Proof

set_option linter.unusedSimpArgs false
set_option linter.unusedVariables false
set_option linter.unusedTactic false
set_option linter.unreachableTactic false

variable {S : List Part} {e0 : Dev}

theorem setLog_only (d : Dev) (l : Log) (hO : Only S e0 d) (h_lg : Part.lg ∈ S) :
    Only S e0 (Dev.setLog d l) := by
  unfold Dev.setLog
  simp (maxDischargeDepth := 60) only [hO, h_lg, only_refl, only_ite, only_foldl, implies_true, only_lg]

theorem writeHeader_only (d : Dev) (hO : Only S e0 d) (h_lg : Part.lg ∈ S) :
    Only S e0 (Dev.writeHeader d) := by
  unfold Dev.writeHeader
  simp (maxDischargeDepth := 60) only [hO, h_lg, only_refl, only_ite, only_foldl, implies_true, only_lg, setLog_only]

theorem keelCopy_only (d : Dev) (hO : Only S e0 d) (h_rhl : Part.regs .hl ∈ S) (h_sl : Part.sl ∈ S) (h_lg : Part.lg ∈ S) :
    Only S e0
    (Dev.keelCopy d) := by
  unfold Dev.keelCopy
  simp (maxDischargeDepth := 60) only [hO, h_rhl, h_sl, h_lg, only_refl, only_ite, only_foldl, implies_true, only_sl, only_lg,
      raiseSys_only, setFld_only, setLog_only, blk_HL_STAT_LOGFAIL]

theorem keelStart_only (d : Dev) (hO : Only S e0 d) (h_lg : Part.lg ∈ S) :
    Only S e0 (Dev.keelStart d) := by
  unfold Dev.keelStart
  simp (maxDischargeDepth := 60) only [hO, h_lg, only_refl, only_ite, only_foldl, implies_true, only_lg, setLog_only]

theorem keelAdd_only (d : Dev) (kind unit seq body : Nat) (hO : Only S e0 d) (h_lg : Part.lg ∈ S) :
    Only S e0 (Dev.keelAdd d kind unit seq body) := by
  unfold Dev.keelAdd
  simp (maxDischargeDepth := 60) only [hO, h_lg, only_refl, only_ite, only_foldl, implies_true, only_lg, keelStart_only,
      setLog_only]

theorem dropSnap_only (d : Dev) (hO : Only S e0 d) (h_rhl : Part.regs .hl ∈ S) (h_lg : Part.lg ∈ S) :
    Only S e0 (Dev.dropSnap d) := by
  unfold Dev.dropSnap
  simp (maxDischargeDepth := 60) only [hO, h_rhl, h_lg, only_refl, only_ite, only_foldl, implies_true, only_lg, count_only,
      setLog_only, blk_HL_CNT_DROPPED]

theorem recToKeel_only (d : Dev) (r : LogRec) (hO : Only S e0 d) (h_rhi : Part.regs .hi ∈ S) (h_rsl : Part.regs .sl ∈ S) (h_rhl : Part.regs .hl ∈ S)
    (h_sl : Part.sl ∈ S) (h_hi : Part.hi ∈ S) (h_lg : Part.lg ∈ S) :
    Only S e0 (Dev.recToKeel d r) := by
  unfold Dev.recToKeel
  (try dsimp only)
  (repeat' split) <;> simp (maxDischargeDepth := 60) only [hO, h_rhi, h_rsl, h_rhl, h_sl, h_hi, h_lg,
      only_refl, only_ite, only_foldl, implies_true, only_sl, only_hi, only_lg, dropSnap_only, finish_only, keelAdd_only, setLog_only]

theorem pushRecord_only (d : Dev) (r : LogRec) (hO : Only S e0 d) (h_rhi : Part.regs .hi ∈ S) (h_rsl : Part.regs .sl ∈ S) (h_rhl : Part.regs .hl ∈ S)
    (h_sl : Part.sl ∈ S) (h_hi : Part.hi ∈ S) (h_lg : Part.lg ∈ S) :
    Only S e0 (Dev.pushRecord d r) := by
  unfold Dev.pushRecord
  simp (maxDischargeDepth := 60) only [hO, h_rhi, h_rsl, h_rhl, h_sl, h_hi, h_lg, only_refl, only_ite, only_foldl,
      implies_true, only_sl, only_hi, only_lg, recToKeel_only, setLog_only]

theorem pushSmall_only (d : Dev) (cls ltype : Nat) (data : List (Nat × Nat × Nat)) (act : LogAct := .nothing) (hO : Only S e0 d) (h_rhi : Part.regs
    .hi ∈ S) (h_rsl : Part.regs .sl ∈ S) (h_rhl : Part.regs .hl ∈ S) (h_sl : Part.sl ∈ S) (h_hi : Part.hi ∈ S) (h_lg : Part.lg ∈ S) :
    Only S e0
    (Dev.pushSmall d cls ltype data act) := by
  unfold Dev.pushSmall
  simp (maxDischargeDepth := 60) only [hO, h_rhi, h_rsl, h_rhl, h_sl, h_hi, h_lg, only_refl, only_ite, only_foldl,
      implies_true, only_sl, only_hi, only_lg, pushRecord_only]

theorem lgFail_only (d : Dev) (hO : Only S e0 d) (h_rhi : Part.regs .hi ∈ S) (h_rsl : Part.regs .sl ∈ S) (h_rhl : Part.regs .hl ∈ S) (h_sl : Part.sl
    ∈ S) (h_hi : Part.hi ∈ S) (h_lg : Part.lg ∈ S) :
    Only S e0 (Dev.lgFail d) := by
  unfold Dev.lgFail
  simp (maxDischargeDepth := 60) only [hO, h_rhi, h_rsl, h_rhl, h_sl, h_hi, h_lg, only_refl, only_ite, only_foldl, implies_true,
      only_sl, only_hi, only_lg, keelAdd_only, recToKeel_only, setFld_only, setLog_only, blk_HL_STAT_LOGFAIL, blk_HL_STAT_STATE]

theorem addBad_only (d : Dev) (u : Nat) (hO : Only S e0 d) (h_rhi : Part.regs .hi ∈ S) (h_rsl : Part.regs .sl ∈ S) (h_rhl : Part.regs .hl ∈ S) (h_sl
    : Part.sl ∈ S) (h_hi : Part.hi ∈ S) (h_lg : Part.lg ∈ S) :
    Only S e0 (Dev.addBad d u) := by
  unfold Dev.addBad
  simp (maxDischargeDepth := 60) only [hO, h_rhi, h_rsl, h_rhl, h_sl, h_hi, h_lg, only_refl, only_ite, only_foldl, implies_true,
      only_sl, only_hi, only_lg, keelAdd_only, lgFail_only, setFld_only, setLog_only, writeHeader_only, blk_HL_STAT_BAD_UNITS]

theorem releaseOne_only (d : Dev) (hO : Only S e0 d) (h_rhl : Part.regs .hl ∈ S) :
    Only S e0 (Dev.releaseOne d) := by
  unfold Dev.releaseOne
  simp (maxDischargeDepth := 60) only [hO, h_rhl, only_refl, only_ite, only_foldl, implies_true, setFld_only,
      blk_HL_PTR_HEAD, blk_HL_SEQ_FIRST_SEQ]

theorem makeRoom_only (d : Dev) (n k : Nat) (hO : Only S e0 d) (h_rhl : Part.regs .hl ∈ S)  :
    Only S e0 (d.makeRoom n k) := by
  induction k generalizing d with
  | zero => unfold Dev.makeRoom; exact hO
  | succ k ih =>
    unfold Dev.makeRoom
    (try dsimp only)
    repeat' split
    all_goals first
      | exact hO
      | (apply ih; simp (maxDischargeDepth := 60) only [only_refl, only_ite, only_foldl, implies_true, count_only, releaseOne_only, blk_HL_CNT_OVERWRITTEN, *])
      | simp (maxDischargeDepth := 60) only [only_refl, only_ite, only_foldl, implies_true, count_only, releaseOne_only, blk_HL_CNT_OVERWRITTEN, *]

theorem badUnits_only (d : Dev) (k : Nat) (hO : Only S e0 d) (h_rhi : Part.regs .hi ∈ S) (h_rsl : Part.regs .sl ∈ S) (h_rhl : Part.regs .hl ∈ S) (h_sl : Part.sl ∈ S) (h_hi : Part.hi ∈ S) (h_lg : Part.lg ∈ S)  :
    Only S e0 (d.badUnits k) := by
  induction k generalizing d with
  | zero => unfold Dev.badUnits; exact hO
  | succ k ih =>
    unfold Dev.badUnits
    (try dsimp only)
    repeat' split
    all_goals first
      | exact hO
      | (apply ih; simp (maxDischargeDepth := 60) only [only_refl, only_ite, only_foldl, implies_true, only_sl, only_hi, only_lg, addBad_only, *])
      | simp (maxDischargeDepth := 60) only [only_refl, only_ite, only_foldl, implies_true, only_sl, only_hi, only_lg, addBad_only, *]

theorem recStart_only (d : Dev) (bad : Nat) (hO : Only S e0 d) (h_rhi : Part.regs .hi ∈ S) (h_rsl : Part.regs .sl ∈ S) (h_rhl : Part.regs .hl ∈ S)
    (h_sl : Part.sl ∈ S) (h_hi : Part.hi ∈ S) (h_lg : Part.lg ∈ S) :
    Only S e0 (Dev.recStart d bad) := by
  unfold Dev.recStart
  (try dsimp only)
  (repeat' split) <;> simp (maxDischargeDepth := 60) only [hO, h_rhi, h_rsl, h_rhl, h_sl, h_hi, h_lg,
      only_refl, only_ite, only_foldl, implies_true, only_sl, only_hi, only_lg, badUnits_only, makeRoom_only, recToKeel_only, setLog_only]

theorem composeStep_only (d : Dev) (hO : Only S e0 d) (h_rhi : Part.regs .hi ∈ S) (h_rsl : Part.regs .sl ∈ S) (h_rhl : Part.regs .hl ∈ S) (h_sl :
    Part.sl ∈ S) (h_hi : Part.hi ∈ S) (h_lg : Part.lg ∈ S) :
    Only S e0 (Dev.composeStep d) := by
  unfold Dev.composeStep
  (try dsimp only)
  (repeat' split) <;> simp (maxDischargeDepth := 60) only [hO, h_rhi, h_rsl, h_rhl, h_sl, h_hi, h_lg,
      only_refl, only_ite, only_foldl, implies_true, only_sl, only_hi, only_lg, pushSmall_only, setLog_only, blk_AX0_STATUS_STEP_COUNT]

theorem stepAccept_only (d : Dev) (r : StepReq) (hO : Only S e0 d) (h_rhi : Part.regs .hi ∈ S) (h_rsl : Part.regs .sl ∈ S) (h_rhl : Part.regs .hl ∈
    S) (h_sl : Part.sl ∈ S) (h_hi : Part.hi ∈ S) (h_lg : Part.lg ∈ S) :
    Only S e0 (Dev.stepAccept d r) := by
  unfold Dev.stepAccept
  simp (maxDischargeDepth := 60) only [hO, h_rhi, h_rsl, h_rhl, h_sl, h_hi, h_lg, only_refl, only_ite, only_foldl,
      implies_true, only_sl, only_hi, only_lg, composeStep_only, setLog_only]

theorem releaseTo_only (d : Dev) (n k : Nat) (hO : Only S e0 d) (h_rhl : Part.regs .hl ∈ S)  :
    Only S e0 (d.releaseTo n k) := by
  induction k generalizing d with
  | zero => unfold Dev.releaseTo; exact hO
  | succ k ih =>
    unfold Dev.releaseTo
    (try dsimp only)
    repeat' split
    all_goals first
      | exact hO
      | (apply ih; simp (maxDischargeDepth := 60) only [only_refl, only_ite, only_foldl, implies_true, releaseOne_only, *])
      | simp (maxDischargeDepth := 60) only [only_refl, only_ite, only_foldl, implies_true, releaseOne_only, *]

theorem clearLog_only (d : Dev) (c : Cmd) (upTo : Nat) (seq : Option Nat) (hO : Only S e0 d) (h_rhi : Part.regs .hi ∈ S) (h_rsl : Part.regs .sl ∈ S)
    (h_rhl : Part.regs .hl ∈ S) (h_sl : Part.sl ∈ S) (h_hi : Part.hi ∈ S) (h_lg : Part.lg ∈ S) (h_freeCtr : Part.ctr ∈ S) :
    Only S e0
    (Dev.clearLog d c upTo seq) := by
  unfold Dev.clearLog
  (try dsimp only)
  (repeat' split) <;> simp (maxDischargeDepth := 60) only [hO, h_rhi, h_rsl, h_rhl, h_sl, h_hi, h_lg,
      h_freeCtr, only_refl, only_ite, only_foldl, implies_true, only_sl, only_hi, only_lg, only_ctr, finish_only, keelCopy_only, nextFree_only,
      releaseTo_only, setFld_only, setLog_only, writeHeader_only, blk_HL_STAT_LOGFAIL]

theorem logAct_only (d : Dev) (a : LogAct) (seq : Option Nat) (hO : Only S e0 d) (h_rsys : Part.regs .sys ∈ S) (h_rhi : Part.regs .hi ∈ S) (h_rax :
    Part.regs .ax ∈ S) (h_rsl : Part.regs .sl ∈ S) (h_rhl : Part.regs .hl ∈ S) (h_tb : Part.tb ∈ S) (h_axes : Part.axes ∈ S) (h_trk : Part.trk ∈ S)
    (h_qy : Part.qy ∈ S) (h_pins : Part.pins ∈ S) (h_sl : Part.sl ∈ S) (h_hi : Part.hi ∈ S) (h_lg : Part.lg ∈ S) (h_freeCtr : Part.ctr ∈ S) :
    Only S e0 (Dev.logAct d a seq) := by
  unfold Dev.logAct
  (try dsimp only)
  (repeat' split) <;> simp (maxDischargeDepth := 60) only [hO, h_rsys, h_rhi, h_rax, h_rsl, h_rhl, h_tb,
      h_axes, h_trk, h_qy, h_pins, h_sl, h_hi, h_lg, h_freeCtr, only_refl, only_ite, only_foldl, implies_true, only_tb, only_axes, only_trk, only_qy,
      only_pins, only_sl, only_hi, only_lg, only_ctr, clearLog_only, composeStep_only, finish_only, setLog_only, stepApply_only]

theorem recMark_only (d : Dev) (hO : Only S e0 d) (h_rhl : Part.regs .hl ∈ S) (h_sl : Part.sl ∈ S) (h_lg : Part.lg ∈ S) :
    Only S e0 (Dev.recMark
    d) := by
  unfold Dev.recMark
  (try dsimp only)
  (repeat' split) <;> simp (maxDischargeDepth := 60) only [hO, h_rhl, h_sl, h_lg, only_refl, only_ite,
      only_foldl, implies_true, only_sl, only_lg, raiseSys_only, setFld_only, setLog_only, writeHeader_only, blk_HL_PTR_HEAD, blk_HL_PTR_TAIL,
      blk_HL_SEQ_LAST_SEQ]

theorem recDurable_only (d : Dev) (hO : Only S e0 d) (h_rsys : Part.regs .sys ∈ S) (h_rhi : Part.regs .hi ∈ S) (h_rax : Part.regs .ax ∈ S) (h_rsl :
    Part.regs .sl ∈ S) (h_rhl : Part.regs .hl ∈ S) (h_tb : Part.tb ∈ S) (h_axes : Part.axes ∈ S) (h_trk : Part.trk ∈ S) (h_qy : Part.qy ∈ S) (h_pins
    : Part.pins ∈ S) (h_sl : Part.sl ∈ S) (h_hi : Part.hi ∈ S) (h_lg : Part.lg ∈ S) (h_freeCtr : Part.ctr ∈ S) :
    Only S e0 (Dev.recDurable d) := by
  unfold Dev.recDurable
  (try dsimp only)
  (repeat' split) <;> simp (maxDischargeDepth := 60) only [hO, h_rsys, h_rhi, h_rax, h_rsl, h_rhl, h_tb,
      h_axes, h_trk, h_qy, h_pins, h_sl, h_hi, h_lg, h_freeCtr, only_refl, only_ite, only_foldl, implies_true, only_tb, only_axes, only_trk, only_qy,
      only_pins, only_sl, only_hi, only_lg, only_ctr, logAct_only, recMark_only]

theorem logRecordDurableEff_only (d : Dev) (hO : Only S e0 d) (h_rsys : Part.regs .sys ∈ S) (h_rhi : Part.regs .hi ∈ S) (h_rax : Part.regs .ax ∈ S)
    (h_rsl : Part.regs .sl ∈ S) (h_rhl : Part.regs .hl ∈ S) (h_tb : Part.tb ∈ S) (h_axes : Part.axes ∈ S) (h_trk : Part.trk ∈ S) (h_qy : Part.qy ∈ S)
    (h_pins : Part.pins ∈ S) (h_sl : Part.sl ∈ S) (h_hi : Part.hi ∈ S) (h_lg : Part.lg ∈ S) (h_freeCtr : Part.ctr ∈ S) :
    Only S e0
    (logRecordDurableEff d) := by
  unfold logRecordDurableEff
  simp (maxDischargeDepth := 60) only [hO, h_rsys, h_rhi, h_rax, h_rsl, h_rhl, h_tb, h_axes, h_trk, h_qy, h_pins, h_sl,
      h_hi, h_lg, h_freeCtr, only_refl, only_ite, only_foldl, implies_true, only_tb, only_axes, only_trk, only_qy, only_pins, only_sl, only_hi,
      only_lg, only_ctr, recDurable_only]

theorem logRecordStartEff_only (bad : Nat) (d : Dev) (hO : Only S e0 d) (h_rhi : Part.regs .hi ∈ S) (h_rsl : Part.regs .sl ∈ S) (h_rhl : Part.regs
    .hl ∈ S) (h_sl : Part.sl ∈ S) (h_hi : Part.hi ∈ S) (h_lg : Part.lg ∈ S) :
    Only S e0 (logRecordStartEff bad d) := by
  unfold logRecordStartEff
  simp (maxDischargeDepth := 60) only [hO, h_rhi, h_rsl, h_rhl, h_sl, h_hi, h_lg, only_refl, only_ite, only_foldl,
      implies_true, only_sl, only_hi, only_lg, recStart_only]

theorem keelWriteDoneEff_only (d : Dev) (hO : Only S e0 d) (h_rsys : Part.regs .sys ∈ S) (h_rhi : Part.regs .hi ∈ S) (h_rax : Part.regs .ax ∈ S)
    (h_rsl : Part.regs .sl ∈ S) (h_rhl : Part.regs .hl ∈ S) (h_tb : Part.tb ∈ S) (h_axes : Part.axes ∈ S) (h_trk : Part.trk ∈ S) (h_qy : Part.qy ∈ S)
    (h_pins : Part.pins ∈ S) (h_sl : Part.sl ∈ S) (h_hi : Part.hi ∈ S) (h_lg : Part.lg ∈ S) (h_freeCtr : Part.ctr ∈ S) :
    Only S e0
    (keelWriteDoneEff d) := by
  unfold keelWriteDoneEff
  simp (maxDischargeDepth := 60) only [hO, h_rsys, h_rhi, h_rax, h_rsl, h_rhl, h_tb, h_axes, h_trk, h_qy, h_pins, h_sl,
      h_hi, h_lg, h_freeCtr, only_refl, only_ite, only_foldl, implies_true, only_tb, only_axes, only_trk, only_qy, only_pins, only_sl, only_hi,
      only_lg, only_ctr, keelCopy_only, keelStart_only, logAct_only, setLog_only]

theorem packItems_only (d : Dev) (hO : Only S e0 d) (h_rhi : Part.regs .hi ∈ S) (h_rsl : Part.regs .sl ∈ S) (h_rhl : Part.regs .hl ∈ S) (h_sl :
    Part.sl ∈ S) (h_hi : Part.hi ∈ S) (h_lg : Part.lg ∈ S) :
    Only S e0 (Dev.packItems d) := by
  unfold Dev.packItems
  simp (maxDischargeDepth := 60) only [hO, h_rhi, h_rsl, h_rhl, h_sl, h_hi, h_lg, only_refl, only_ite, only_foldl,
      implies_true, only_sl, only_hi, only_lg, pushRecord_only, setLog_only]

theorem itemsPackCloseEff_only (d : Dev) (hO : Only S e0 d) (h_rhi : Part.regs .hi ∈ S) (h_rsl : Part.regs .sl ∈ S) (h_rhl : Part.regs .hl ∈ S) (h_sl
    : Part.sl ∈ S) (h_hi : Part.hi ∈ S) (h_lg : Part.lg ∈ S) :
    Only S e0 (itemsPackCloseEff d) := by
  unfold itemsPackCloseEff
  simp (maxDischargeDepth := 60) only [hO, h_rhi, h_rsl, h_rhl, h_sl, h_hi, h_lg, only_refl, only_ite, only_foldl,
      implies_true, only_sl, only_hi, only_lg, packItems_only]

theorem challengeFor_only (d : Dev) (f : Nat) (hO : Only S e0 d) (h_rhl : Part.regs .hl ∈ S) (h_lg : Part.lg ∈ S) (h_freeCtr : Part.ctr ∈ S) :
    Only S e0 (Dev.challengeFor d f) := by
  unfold Dev.challengeFor
  simp (maxDischargeDepth := 60) only [hO, h_rhl, h_lg, h_freeCtr, only_refl, only_ite, only_foldl, implies_true, only_lg,
      only_ctr, nextFree_only, setFld_only, setLog_only, blk_HL_STAT_CHALLENGE]

theorem endChallenge_only (d : Dev) (hO : Only S e0 d) (h_rhl : Part.regs .hl ∈ S) (h_lg : Part.lg ∈ S) :
    Only S e0 (Dev.endChallenge d) := by
  unfold Dev.endChallenge
  simp (maxDischargeDepth := 60) only [hO, h_rhl, h_lg, only_refl, only_ite, only_foldl, implies_true, only_lg,
      setFld_only, setLog_only, blk_HL_STAT_CHALLENGE]

theorem authFail_only (d : Dev) (c : Cmd) (cseq : Nat) (hO : Only S e0 d) (h_rhi : Part.regs .hi ∈ S) (h_rsl : Part.regs .sl ∈ S) (h_rhl : Part.regs
    .hl ∈ S) (h_sl : Part.sl ∈ S) (h_hi : Part.hi ∈ S) (h_lg : Part.lg ∈ S) :
    Only S e0 (Dev.authFail d c cseq) := by
  unfold Dev.authFail
  simp (maxDischargeDepth := 60) only [hO, h_rhi, h_rsl, h_rhl, h_sl, h_hi, h_lg, only_refl, only_ite, only_foldl,
      implies_true, only_sl, only_hi, only_lg, finish_only, pushSmall_only, setFld_only, setLog_only, writeHeader_only, blk_HL_STAT_LOCKOUT]

theorem logRespond_only (d : Dev) (c : Cmd) (hO : Only S e0 d) (h_rhi : Part.regs .hi ∈ S) (h_rsl : Part.regs .sl ∈ S) (h_rhl : Part.regs .hl ∈ S)
    (h_sl : Part.sl ∈ S) (h_hi : Part.hi ∈ S) (h_lg : Part.lg ∈ S) :
    Only S e0 (Dev.logRespond d c) := by
  unfold Dev.logRespond
  (try dsimp only)
  (repeat' split) <;> simp (maxDischargeDepth := 60) only [hO, h_rhi, h_rsl, h_rhl, h_sl, h_hi, h_lg,
      only_refl, only_ite, only_foldl, implies_true, only_sl, only_hi, only_lg, authFail_only, endChallenge_only, finish_only, pushSmall_only]

theorem logMark_only (d : Dev) (c : Cmd) (hO : Only S e0 d) (h_rhi : Part.regs .hi ∈ S) (h_rsl : Part.regs .sl ∈ S) (h_rhl : Part.regs .hl ∈ S) (h_sl
    : Part.sl ∈ S) (h_hi : Part.hi ∈ S) (h_lg : Part.lg ∈ S) :
    Only S e0 (Dev.logMark d c) := by
  unfold Dev.logMark
  simp (maxDischargeDepth := 60) only [hO, h_rhi, h_rsl, h_rhl, h_sl, h_hi, h_lg, only_refl, only_ite, only_foldl, implies_true,
      only_sl, only_hi, only_lg, pushSmall_only]

theorem challengeExpireEff_only (d : Dev) (hO : Only S e0 d) (h_rhl : Part.regs .hl ∈ S) (h_lg : Part.lg ∈ S) :
    Only S e0 (challengeExpireEff d) := by
  unfold challengeExpireEff
  (try dsimp only)
  (repeat' split) <;> simp (maxDischargeDepth := 60) only [hO, h_rhl, h_lg, only_refl, only_ite,
      only_foldl, implies_true, only_lg, endChallenge_only]

theorem lockoutEndEff_only (d : Dev) (hO : Only S e0 d) (h_rhl : Part.regs .hl ∈ S) :
    Only S e0 (lockoutEndEff d) := by
  unfold lockoutEndEff
  simp (maxDischargeDepth := 60) only [hO, h_rhl, only_refl, only_ite, only_foldl, implies_true, setFld_only,
      blk_HL_STAT_LOCKOUT]

theorem logScan_only (d : Dev) (last tail : Nat) (hO : Only S e0 d) (h_rhl : Part.regs .hl ∈ S) (h_lg : Part.lg ∈ S) :
    Only S e0 (Dev.logScan d
    last tail) := by
  unfold Dev.logScan
  simp (maxDischargeDepth := 60) only [hO, h_rhl, h_lg, only_refl, only_ite, only_foldl, implies_true, only_lg, setFlag_only,
      setFld_only, setLog_only, blk_HL_PTR_HEAD, blk_HL_PTR_TAIL, blk_HL_SEQ_FIRST_SEQ, blk_HL_SEQ_LAST_SEQ, blk_HL_STAT_BAD_UNITS,
      blk_HL_STAT_LOCKOUT, blk_HL_STAT_LOGFAIL]

theorem resumeLock_only (d : Dev) (hO : Only S e0 d) (h_rhl : Part.regs .hl ∈ S) (h_lg : Part.lg ∈ S) :
    Only S e0 (Dev.resumeLock d) := by
  unfold Dev.resumeLock
  simp (maxDischargeDepth := 60) only [hO, h_rhl, h_lg, only_refl, only_ite, only_foldl, implies_true, only_lg, setFld_only,
      setLog_only, blk_AX0_STATUS_STATE, blk_HL_STAT_LOCKOUT]

theorem logPowerup_only (d : Dev) (hO : Only S e0 d) (h_rhi : Part.regs .hi ∈ S) (h_rsl : Part.regs .sl ∈ S) (h_rhl : Part.regs .hl ∈ S) (h_sl :
    Part.sl ∈ S) (h_hi : Part.hi ∈ S) (h_lg : Part.lg ∈ S) :
    Only S e0 (Dev.logPowerup d) := by
  unfold Dev.logPowerup
  simp (maxDischargeDepth := 60) only [hO, h_rhi, h_rsl, h_rhl, h_sl, h_hi, h_lg, only_refl, only_ite, only_foldl,
      implies_true, only_sl, only_hi, only_lg, pushSmall_only, blk_AX0_STATUS_STATE, blk_SYS_RSTCAUSE_CAUSE]

theorem seenAs_only (d : Dev) (row : RegRow) (i : Nat) (hO : Only S e0 d) (h_rsys : Part.regs .sys ∈ S) (h_rck : Part.regs .ck ∈ S) (h_rhi :
    Part.regs .hi ∈ S) (h_rax : Part.regs .ax ∈ S) (h_rsl : Part.regs .sl ∈ S) (h_rqy : Part.regs .qy ∈ S) (h_rme : Part.regs .me ∈ S) (h_rpn :
    Part.regs .pn ∈ S) (h_rtio : Part.regs .tio ∈ S) (h_rlt : Part.regs .lt ∈ S) (h_rcw : Part.regs .cw ∈ S) (h_rhl : Part.regs .hl ∈ S) :
    Only S
    e0 (Dev.seenAs d row i) := by
  unfold Dev.seenAs
  (try dsimp only)
  (repeat' split) <;> simp (maxDischargeDepth := 60) only [hO, h_rsys, h_rck, h_rhi, h_rax, h_rsl, h_rqy,
      h_rme, h_rpn, h_rtio, h_rlt, h_rcw, h_rhl, only_refl, only_ite, only_foldl, implies_true, setFlag_only, setFld_only, blk_AX0_STATUS_SLEWING,
      blk_AX0_UNC_UNC, blk_BH_SPARE_SPARE, blk_CK_STAT_IN_OK, blk_CK_STAT_REC_OK, blk_CK_STAT_REF_OFS, blk_CQ_CFG_FUNC, blk_CW_PSTAT_USABLE,
      blk_CW_TREPORT_REPORTING, blk_CW_TRES_LOW_MISMATCH, blk_CW_TRES_LOW_STALE, blk_CW_TRES_MISMATCH_CNT, blk_CW_TRES_STALE_CNT,
      blk_HI_FSTAT_ASLEEP, blk_HI_FSTAT_BME, blk_HI_FSTAT_D3, blk_HI_FSTAT_WAKE_PEND, blk_HI_LINK_L1, blk_HI_LINK_RTT_RTT_MAX, blk_HI_LINK_WR_WR_MAX,
      blk_HL_STAT_KEEL_USED, blk_HL_STAT_STATE, blk_HL_WIN_DATA, blk_HQ_CFG_FUNC, blk_HQ_STAT_FULL, blk_HQ_STAT_PHASE, blk_HQ_STAT_QSTATE,
      blk_HQ_STAT_STAGED, blk_LT_STAT_FUNC, blk_LT_STAT_HELD, blk_LT_STAT_LSTATE, blk_ME_DSTAT_ACTIVE, blk_ME_DSTAT_BASE, blk_ME_DSTAT_CUR_FRAME,
      blk_ME_DSTAT_CUR_SRC, blk_ME_PC_PC, blk_ME_STATUS_DEPTH, blk_ME_STATUS_ROLE, blk_PN_FIFO_RX_LVL, blk_PN_FIFO_TX_LVL, blk_QY_STATUS_SLOTS_USED,
      blk_SL_GRP_RESIDUAL, blk_SL_STAT_ITEMS, blk_SL_STAT_STAGED, blk_SL_STAT_STAGE_FULL, blk_SYS_REPAIR_RELIEF_FREE, blk_SYS_REPAIR_SPARE_BERTHS,
      blk_SYS_REPAIR_SPARE_QUAYS, blk_SYS_TEMP_HOT, blk_SYS_TEMP_TEMP, blk_TIO_STAT_DRIVEN, blk_TIO_STAT_LEVEL]

theorem lsCount_only (d : Dev) (l : Nat) (hO : Only S e0 d) (h_rhl : Part.regs .hl ∈ S) (h_freeCtr : Part.ctr ∈ S) :
    Only S e0 (Dev.lsCount d l) := by
  unfold Dev.lsCount
  simp (maxDischargeDepth := 60) only [hO, h_rhl, h_freeCtr, only_refl, only_ite, only_foldl, implies_true, only_ctr,
      nextFree_only, setFld_only, blk_HL_LCFG_BYTES]

theorem writeLcfg_only (d : Dev) (l v : Nat) (hO : Only S e0 d) (h_rhl : Part.regs .hl ∈ S) (h_freeCtr : Part.ctr ∈ S) :
    Only S e0 (Dev.writeLcfg
    d l v) := by
  unfold Dev.writeLcfg
  simp (maxDischargeDepth := 60) only [hO, h_rhl, h_freeCtr, only_refl, only_ite, only_foldl, implies_true, only_ctr,
      lsCount_only, setFld_only, blk_HL_LCFG_EN, blk_HL_LCFG_ERR, blk_HL_LCFG_HOLD_US, blk_HL_LCFG_LEN]

theorem writeList_only (d : Dev) (l e v : Nat) (hO : Only S e0 d) (h_rhl : Part.regs .hl ∈ S) (h_freeCtr : Part.ctr ∈ S) :
    Only S e0
    (Dev.writeList d l e v) := by
  unfold Dev.writeList
  simp (maxDischargeDepth := 60) only [hO, h_rhl, h_freeCtr, only_refl, only_ite, only_foldl, implies_true, only_ctr,
      lsCount_only, setFld_only, blk_HL_LCFG_EN, blk_HL_LIST_KIND, blk_HL_LIST_SEL]

theorem trigger_only (d : Dev) (l src : Nat) (ev : Record) (hO : Only S e0 d) (h_rhl : Part.regs .hl ∈ S) (h_lg : Part.lg ∈ S) :
    Only S e0
    (Dev.trigger d l src ev) := by
  unfold Dev.trigger
  simp (maxDischargeDepth := 60) only [hO, h_rhl, h_lg, only_refl, only_ite, only_foldl, implies_true, only_lg, dropSnap_only,
      setLog_only, blk_HL_LCFG_EN, blk_HL_LCFG_HOLD_US]

theorem logRise_only (d : Dev) (x : Rise) (hO : Only S e0 d) (h_rhl : Part.regs .hl ∈ S) (h_lg : Part.lg ∈ S) :
    Only S e0 (Dev.logRise d x) := by
  unfold Dev.logRise
  simp (maxDischargeDepth := 60) only [hO, h_rhl, h_lg, only_refl, only_ite, only_foldl, implies_true, only_lg, logRecord_only,
      trigger_only, blk_HL_TRIG_TRIG, blk_SL_TGT_GROUP]

theorem sampleEntry_only (d : Dev) (ev : Record) (kind sel : Nat) (hO : Only S e0 d) (h_rsys : Part.regs .sys ∈ S) (h_rbh : Part.regs .bh ∈ S) (h_rdr
    : Part.regs .dr ∈ S) (h_dr : Part.dr ∈ S) (h_sl : Part.sl ∈ S) (h_freeCtr : Part.ctr ∈ S) :
    Only S e0 (Dev.sampleEntry d ev kind sel).2.2 := by
  unfold Dev.sampleEntry
  (try dsimp only)
  (repeat' split) <;> simp (maxDischargeDepth := 60) only [hO, h_rsys, h_rbh, h_rdr, h_dr, h_sl,
      h_freeCtr, only_refl, only_ite, only_foldl, implies_true, only_dr, only_sl, only_ctr, afterRead_only]

theorem sampleNow_only (d : Dev) (t : Trigger) (e : Nat × Nat) (hO : Only S e0 d) (h_rsys : Part.regs .sys ∈ S) (h_rbh : Part.regs .bh ∈ S) (h_rdr :
    Part.regs .dr ∈ S) (h_dr : Part.dr ∈ S) (h_sl : Part.sl ∈ S) (h_lg : Part.lg ∈ S) (h_freeCtr : Part.ctr ∈ S) :
    Only S e0 (Dev.sampleNow d t e) := by
  unfold Dev.sampleNow
  simp (maxDischargeDepth := 60) only [hO, h_rsys, h_rbh, h_rdr, h_dr, h_sl, h_lg, h_freeCtr, only_refl, only_ite, only_foldl,
      implies_true, only_dr, only_sl, only_lg, only_ctr, sampleEntry_only, setLog_only]

theorem sampleCycle_only (d : Dev) (hO : Only S e0 d) (h_rsys : Part.regs .sys ∈ S) (h_rbh : Part.regs .bh ∈ S) (h_rdr : Part.regs .dr ∈ S) (h_dr :
    Part.dr ∈ S) (h_sl : Part.sl ∈ S) (h_lg : Part.lg ∈ S) (h_freeCtr : Part.ctr ∈ S) :
    Only S e0 (Dev.sampleCycle d) := by
  unfold Dev.sampleCycle
  (try dsimp only)
  (repeat' split) <;> simp (maxDischargeDepth := 60) only [hO, h_rsys, h_rbh, h_rdr, h_dr, h_sl, h_lg,
      h_freeCtr, only_refl, only_ite, only_foldl, implies_true, only_dr, only_sl, only_lg, only_ctr, sampleNow_only, setLog_only]

theorem compose_only (d : Dev) (hO : Only S e0 d) (h_rhi : Part.regs .hi ∈ S) (h_rsl : Part.regs .sl ∈ S) (h_rhl : Part.regs .hl ∈ S) (h_sl : Part.sl
    ∈ S) (h_hi : Part.hi ∈ S) (h_lg : Part.lg ∈ S) :
    Only S e0 (Dev.compose d) := by
  unfold Dev.compose
  (try dsimp only)
  (repeat' split) <;> simp (maxDischargeDepth := 60) only [hO, h_rhi, h_rsl, h_rhl, h_sl, h_hi, h_lg,
      only_refl, only_ite, only_foldl, implies_true, only_sl, only_hi, only_lg, dropSnap_only, pushRecord_only, setLog_only]

theorem sampleHead_only (d : Dev) (hO : Only S e0 d) (h_rsys : Part.regs .sys ∈ S) (h_rhi : Part.regs .hi ∈ S) (h_rsl : Part.regs .sl ∈ S) (h_rbh :
    Part.regs .bh ∈ S) (h_rhl : Part.regs .hl ∈ S) (h_rdr : Part.regs .dr ∈ S) (h_dr : Part.dr ∈ S) (h_sl : Part.sl ∈ S) (h_hi : Part.hi ∈ S) (h_lg :
    Part.lg ∈ S) (h_freeCtr : Part.ctr ∈ S) :
    Only S e0 (Dev.sampleHead d) := by
  unfold Dev.sampleHead
  (try dsimp only)
  (repeat' split) <;> simp (maxDischargeDepth := 60) only [hO, h_rsys, h_rhi, h_rsl, h_rbh, h_rhl, h_rdr,
      h_dr, h_sl, h_hi, h_lg, h_freeCtr, only_refl, only_ite, only_foldl, implies_true, only_dr, only_sl, only_hi, only_lg, only_ctr, compose_only,
      sampleNow_only]

theorem snapshotSampledEff_only (d : Dev) (hO : Only S e0 d) (h_rhi : Part.regs .hi ∈ S) (h_rsl : Part.regs .sl ∈ S) (h_rhl : Part.regs .hl ∈ S)
    (h_sl : Part.sl ∈ S) (h_hi : Part.hi ∈ S) (h_lg : Part.lg ∈ S) :
    Only S e0 (snapshotSampledEff d) := by
  unfold snapshotSampledEff
  (try dsimp only)
  (repeat' split) <;> simp (maxDischargeDepth := 60) only [hO, h_rhi, h_rsl, h_rhl, h_sl, h_hi, h_lg,
      only_refl, only_ite, only_foldl, implies_true, only_sl, only_hi, only_lg, compose_only]

theorem riseAxes_only (d : Dev) (s : Nat) (hO : Only S e0 d) (h_axes : Part.axes ∈ S) :
    Only S e0 (Dev.riseAxes d s) := by
  unfold Dev.riseAxes
  simp (maxDischargeDepth := 60) only [hO, h_axes, only_refl, only_ite, only_foldl, implies_true, only_axes, axCount_only,
      blk_AX_CFG_SRC, blk_AX_CFG_SRC_IS_PIN]

theorem riseForward_only (d : Dev) (x : Rise) (hO : Only S e0 d) (h_rcw : Part.regs .cw ∈ S) (h_cw : Part.cw ∈ S) (h_sl : Part.sl ∈ S) (h_lg :
    Part.lg ∈ S) :
    Only S e0 (Dev.riseForward d x) := by
  unfold Dev.riseForward
  simp (maxDischargeDepth := 60) only [hO, h_rcw, h_cw, h_sl, h_lg, only_refl, only_ite, only_foldl, implies_true, only_cw,
      only_sl, only_lg, forward_only]

theorem takeRise_only (d : Dev) (x : Rise) (hO : Only S e0 d) (h_rsl : Part.regs .sl ∈ S) (h_rlt : Part.regs .lt ∈ S) (h_rcw : Part.regs .cw ∈ S)
    (h_rhl : Part.regs .hl ∈ S) (h_axes : Part.axes ∈ S) (h_cw : Part.cw ∈ S) (h_sl : Part.sl ∈ S) (h_hi : Part.hi ∈ S) (h_lg : Part.lg ∈ S) (h_pn :
    Part.pn ∈ S) :
    Only S e0 (Dev.takeRise d x) := by
  unfold Dev.takeRise
  simp (maxDischargeDepth := 60) only [hO, h_rsl, h_rlt, h_rcw, h_rhl, h_axes, h_cw, h_sl, h_hi, h_lg, h_pn, only_refl,
      only_ite, only_foldl, implies_true, only_axes, only_cw, only_sl, only_hi, only_lg, only_pn, latch_only, latchItem_only, logRise_only,
      ltLatch_only, pnLatch_only, riseAxes_only, riseForward_only]

theorem sourceRiseEff_only (d : Dev) (hO : Only S e0 d) (h_rhi : Part.regs .hi ∈ S) (h_rsl : Part.regs .sl ∈ S) (h_rlt : Part.regs .lt ∈ S) (h_rcw :
    Part.regs .cw ∈ S) (h_rhl : Part.regs .hl ∈ S) (h_axes : Part.axes ∈ S) (h_cw : Part.cw ∈ S) (h_sl : Part.sl ∈ S) (h_hi : Part.hi ∈ S) (h_lg :
    Part.lg ∈ S) (h_pn : Part.pn ∈ S) :
    Only S e0 (sourceRiseEff d) := by
  unfold sourceRiseEff
  (try dsimp only)
  (repeat' split) <;> simp (maxDischargeDepth := 60) only [hO, h_rhi, h_rsl, h_rlt, h_rcw, h_rhl, h_axes,
      h_cw, h_sl, h_hi, h_lg, h_pn, only_refl, only_ite, only_foldl, implies_true, only_axes, only_cw, only_sl, only_hi, only_lg, only_pn,
      completed_only, fences_only, takeRise_only]

theorem takeRises_only (d : Dev) (k : Nat) (hO : Only S e0 d) (h_rhi : Part.regs .hi ∈ S) (h_rsl : Part.regs .sl ∈ S) (h_rlt : Part.regs .lt ∈ S) (h_rcw : Part.regs .cw ∈ S) (h_rhl : Part.regs .hl ∈ S) (h_axes : Part.axes ∈ S) (h_cw : Part.cw ∈ S) (h_sl : Part.sl ∈ S) (h_hi : Part.hi ∈ S) (h_lg : Part.lg ∈ S) (h_pn : Part.pn ∈ S)  :
    Only S e0 (d.takeRises k) := by
  induction k generalizing d with
  | zero => unfold Dev.takeRises; exact hO
  | succ k ih =>
    unfold Dev.takeRises
    (try dsimp only)
    repeat' split
    all_goals first
      | exact hO
      | (apply ih; simp (maxDischargeDepth := 60) only [only_refl, only_ite, only_foldl, implies_true, only_axes, only_cw, only_sl, only_hi, only_lg, only_pn, sourceRiseEff_only, *])
      | simp (maxDischargeDepth := 60) only [only_refl, only_ite, only_foldl, implies_true, only_axes, only_cw, only_sl, only_hi, only_lg, only_pn, sourceRiseEff_only, *]

theorem closeChan_only (d : Dev) (c : Nat) (hO : Only S e0 d) (h_lg : Part.lg ∈ S) :
    Only S e0 (Dev.closeChan d c) := by
  unfold Dev.closeChan
  (try dsimp only)
  (repeat' split) <;> simp (maxDischargeDepth := 60) only [hO, h_lg, only_refl, only_ite, only_foldl,
      implies_true, only_lg, logItem_only]

theorem closePin_only (d : Dev) (n : Nat) (hO : Only S e0 d) (h_lg : Part.lg ∈ S) :
    Only S e0 (Dev.closePin d n) := by
  unfold Dev.closePin
  simp (maxDischargeDepth := 60) only [hO, h_lg, only_refl, only_ite, only_foldl, implies_true, only_lg, logItem_only,
      blk_PN_STATUS_PGEN, blk_PN_STATUS_SC]

theorem closeLt_only (d : Dev) (c : Nat) (hO : Only S e0 d) (h_rlt : Part.regs .lt ∈ S) (h_sl : Part.sl ∈ S) (h_lg : Part.lg ∈ S) :
    Only S e0
    (Dev.closeLt d c) := by
  unfold Dev.closeLt
  simp (maxDischargeDepth := 60) only [hO, h_rlt, h_sl, h_lg, only_refl, only_ite, only_foldl, implies_true, only_sl, only_lg,
      count_only, logItem_only, logRecord_only, ltError_only, blk_LT_CNT_ERR_CNT, blk_LT_STAT_LGEN]

theorem closeCmd_only (d : Dev) (ring op rgen tag status stage progress : Nat) (hO : Only S e0 d) (h_lg : Part.lg ∈ S) :
    Only S e0 (Dev.closeCmd
    d ring op rgen tag status stage progress) := by
  unfold Dev.closeCmd
  simp (maxDischargeDepth := 60) only [hO, h_lg, only_refl, only_ite, only_foldl, implies_true, only_lg, logItem_only]

theorem closeRing_only (d : Dev) (m : Nat) (hO : Only S e0 d) (h_lg : Part.lg ∈ S) :
    Only S e0 (Dev.closeRing d m) := by
  unfold Dev.closeRing
  simp (maxDischargeDepth := 60) only [hO, h_lg, only_refl, only_ite, only_foldl, implies_true, only_lg, closeCmd_only]

theorem closeDone_only (d : Dev) (r : Record) (hO : Only S e0 d) (h_lg : Part.lg ∈ S) :
    Only S e0 (Dev.closeDone d r) := by
  unfold Dev.closeDone
  simp (maxDischargeDepth := 60) only [hO, h_lg, only_refl, only_ite, only_foldl, implies_true, only_lg, closeCmd_only,
      blk_CQ_STAT_RGEN]

theorem closeQueue_only (d : Dev) (q : Nat) (hO : Only S e0 d) (h_lg : Part.lg ∈ S) :
    Only S e0 (Dev.closeQueue d q) := by
  unfold Dev.closeQueue
  simp (maxDischargeDepth := 60) only [hO, h_lg, only_refl, only_ite, only_foldl, implies_true, only_lg, closeDone_only,
      logItem_only, logRecord_only]

theorem closeEngine_only (d : Dev) (p : Nat) (hO : Only S e0 d) (h_rme : Part.regs .me ∈ S) (h_sl : Part.sl ∈ S) (h_lg : Part.lg ∈ S) (h_me : Part.me
    ∈ S) :
    Only S e0 (Dev.closeEngine d p) := by
  unfold Dev.closeEngine
  simp (maxDischargeDepth := 60) only [hO, h_rme, h_sl, h_lg, h_me, only_refl, only_ite, only_foldl, implies_true, only_sl,
      only_lg, only_me, logRecord_only, meAbandon_only]

theorem closeRecs_only (d : Dev) (hO : Only S e0 d) (h_lg : Part.lg ∈ S) :
    Only S e0 (Dev.closeRecs d) := by
  unfold Dev.closeRecs
  simp (maxDischargeDepth := 60) only [hO, h_lg, only_refl, only_ite, only_foldl, implies_true, only_lg, logRecord_only]

theorem closeVigil_only (d : Dev) (hO : Only S e0 d) (h_lg : Part.lg ∈ S)  :
    Only S e0 d.closeVigil := by
  unfold Dev.closeVigil
  split
  · exact hO
  · apply only_foldl _ hO
    intro x p
    split
    · apply only_foldl _ (only_refl _ _)
      intro y r
      simp (maxDischargeDepth := 60) only [only_refl, only_ite, only_foldl, implies_true, only_lg, closeDone_only, *]
    · simp (maxDischargeDepth := 60) only [only_refl, only_ite, only_foldl, implies_true, only_lg, closeDone_only, *]

theorem closeEntriesOf_only (d : Dev) (hO : Only S e0 d) (h_rme : Part.regs .me ∈ S) (h_rlt : Part.regs .lt ∈ S) (h_sl : Part.sl ∈ S) (h_lg : Part.lg
    ∈ S) (h_me : Part.me ∈ S) :
    Only S e0 (Dev.closeEntriesOf d) := by
  unfold Dev.closeEntriesOf
  simp (maxDischargeDepth := 60) only [hO, h_rme, h_rlt, h_sl, h_lg, h_me, only_refl, only_ite, only_foldl, implies_true,
      only_sl, only_lg, only_me, closeChan_only, closeEngine_only, closeLt_only, closePin_only, closeQueue_only, closeRecs_only, closeRing_only,
      closeVigil_only, logRecord_only]

theorem logWriteOut_only (d : Dev) (k : Nat) (hO : Only S e0 d) (h_rhi : Part.regs .hi ∈ S) (h_rsl : Part.regs .sl ∈ S) (h_rhl : Part.regs .hl ∈ S) (h_sl : Part.sl ∈ S) (h_hi : Part.hi ∈ S) (h_lg : Part.lg ∈ S)  :
    Only S e0 (d.logWriteOut k) := by
  induction k generalizing d with
  | zero => unfold Dev.logWriteOut; exact hO
  | succ k ih =>
    unfold Dev.logWriteOut
    (try dsimp only)
    repeat' split
    all_goals first
      | exact hO
      | (apply ih; simp (maxDischargeDepth := 60) only [only_refl, only_ite, only_foldl, implies_true, only_sl, only_hi, only_lg, recMark_only, recStart_only, *])
      | simp (maxDischargeDepth := 60) only [only_refl, only_ite, only_foldl, implies_true, only_sl, only_hi, only_lg, recMark_only, recStart_only, *]

theorem logPackOut_only (d : Dev) (k : Nat) (hO : Only S e0 d) (h_rhi : Part.regs .hi ∈ S) (h_rsl : Part.regs .sl ∈ S) (h_rhl : Part.regs .hl ∈ S) (h_sl : Part.sl ∈ S) (h_hi : Part.hi ∈ S) (h_lg : Part.lg ∈ S)  :
    Only S e0 (d.logPackOut k) := by
  induction k generalizing d with
  | zero => unfold Dev.logPackOut; exact hO
  | succ k ih =>
    unfold Dev.logPackOut
    (try dsimp only)
    repeat' split
    all_goals first
      | exact hO
      | (apply ih; simp (maxDischargeDepth := 60) only [only_refl, only_ite, only_foldl, implies_true, only_sl, only_hi, only_lg, logWriteOut_only, packItems_only, *])
      | simp (maxDischargeDepth := 60) only [only_refl, only_ite, only_foldl, implies_true, only_sl, only_hi, only_lg, logWriteOut_only, packItems_only, *]

theorem keelOut_only (d : Dev) (hO : Only S e0 d) (h_rhl : Part.regs .hl ∈ S) (h_sl : Part.sl ∈ S) (h_lg : Part.lg ∈ S) :
    Only S e0 (Dev.keelOut
    d) := by
  unfold Dev.keelOut
  simp (maxDischargeDepth := 60) only [hO, h_rhl, h_sl, h_lg, only_refl, only_ite, only_foldl, implies_true, only_sl, only_lg,
      keelCopy_only, keelStart_only, setLog_only]

theorem closeStart_only (d : Dev) (hO : Only S e0 d) (h_rsys : Part.regs .sys ∈ S) (h_rhi : Part.regs .hi ∈ S) (h_rax : Part.regs .ax ∈ S) (h_rsl :
    Part.regs .sl ∈ S) (h_rme : Part.regs .me ∈ S) (h_rlt : Part.regs .lt ∈ S) (h_rbh : Part.regs .bh ∈ S) (h_rcw : Part.regs .cw ∈ S) (h_rhl :
    Part.regs .hl ∈ S) (h_rdr : Part.regs .dr ∈ S) (h_tb : Part.tb ∈ S) (h_axes : Part.axes ∈ S) (h_trk : Part.trk ∈ S) (h_qy : Part.qy ∈ S) (h_pins
    : Part.pins ∈ S) (h_dr : Part.dr ∈ S) (h_cw : Part.cw ∈ S) (h_sl : Part.sl ∈ S) (h_hi : Part.hi ∈ S) (h_lg : Part.lg ∈ S) (h_pn : Part.pn ∈ S)
    (h_me : Part.me ∈ S) (h_freeCtr : Part.ctr ∈ S) :
    Only S e0 (Dev.closeStart d).2 := by
  unfold Dev.closeStart
  simp (maxDischargeDepth := 60) only [hO, h_rsys, h_rhi, h_rax, h_rsl, h_rme, h_rlt, h_rbh, h_rcw, h_rhl, h_rdr, h_tb,
      h_axes, h_trk, h_qy, h_pins, h_dr, h_cw, h_sl, h_hi, h_lg, h_pn, h_me, h_freeCtr, only_refl, only_ite, only_foldl, implies_true, only_tb,
      only_axes, only_trk, only_qy, only_pins, only_dr, only_cw, only_sl, only_hi, only_lg, only_pn, only_me, only_ctr, closeEntriesOf_only,
      keelOut_only, logPackOut_only, logWriteOut_only, recDurable_only, sampleHead_only, setLog_only, takeRises_only]

theorem closeEnd_only (d : Dev) (trigger discarded : Nat) (hO : Only S e0 d) (h_rhi : Part.regs .hi ∈ S) (h_rsl : Part.regs .sl ∈ S) (h_rhl :
    Part.regs .hl ∈ S) (h_sl : Part.sl ∈ S) (h_hi : Part.hi ∈ S) (h_lg : Part.lg ∈ S) :
    Only S e0 (Dev.closeEnd d trigger discarded) := by
  unfold Dev.closeEnd
  simp (maxDischargeDepth := 60) only [hO, h_rhi, h_rsl, h_rhl, h_sl, h_hi, h_lg, only_refl, only_ite, only_foldl,
      implies_true, only_sl, only_hi, only_lg, keelOut_only, logWriteOut_only, pushSmall_only, setLog_only, writeHeader_only]

theorem copyToVigil_only (d : Dev) (hO : Only S e0 d) (h_rvg : Part.regs .vg ∈ S) (h_vg : Part.vg ∈ S) :
    Only S e0 (Dev.copyToVigil d) := by
  unfold Dev.copyToVigil
  simp (maxDischargeDepth := 60) only [hO, h_rvg, h_vg, only_refl, only_ite, only_foldl, implies_true, only_vg,
      setFlag_only, setFld_only, blk_AX0_STATUS_STATE, blk_VG_OFF_UNC_OFF, blk_VG_STAT_VALID, blk_VG_STAT_XFAIL]

theorem tempSampleEff_only (temp : BitVec 10) (d : Dev) (hO : Only S e0 d) (h_rvg : Part.regs .vg ∈ S) (h_vg : Part.vg ∈ S) :
    Only S e0
    (tempSampleEff temp d) := by
  unfold tempSampleEff
  simp (maxDischargeDepth := 60) only [hO, h_rvg, h_vg, only_refl, only_ite, only_foldl, implies_true, only_vg, setFld_only,
      blk_VG_CAL_CAL, blk_VG_STAT_TEMP]

theorem vigilCalDoneEff_only (err : Int) (dtemp : Nat) (d0 : Dev) (hO : Only S e0 d0) (h_rvg : Part.regs .vg ∈ S) (h_tb : Part.tb ∈ S) (h_freeCtr :
    Part.ctr ∈ S) :
    Only S e0 (vigilCalDoneEff err dtemp d0) := by
  unfold vigilCalDoneEff
  simp (maxDischargeDepth := 60) only [hO, h_rvg, h_tb, h_freeCtr, only_refl, only_ite, only_foldl, implies_true, only_tb,
      only_ctr, nextFree_only, setFld_only, blk_AX0_STATUS_STATE, blk_VG_CAL_CAL]

theorem dark_only (d : Dev) (hO : Only S e0 d) (h_rvg : Part.regs .vg ∈ S) :
    Only S e0 (Dev.dark d) := by
  unfold Dev.dark
  simp (maxDischargeDepth := 60) only [hO, h_rvg, only_refl, only_ite, only_foldl, implies_true, setFld_only, blk_VG_STAT_VALID]

theorem crystalStopEff_only (d : Dev) (hO : Only S e0 d) (h_rvg : Part.regs .vg ∈ S) (h_vg : Part.vg ∈ S) :
    Only S e0 (crystalStopEff d) := by
  unfold crystalStopEff
  simp (maxDischargeDepth := 60) only [hO, h_rvg, h_vg, only_refl, only_ite, only_foldl, implies_true, only_vg, setFld_only,
      blk_VG_STAT_VALID, blk_VG_STAT_XFAIL]

theorem vigilSupplyFailEff_only (d : Dev) (hO : Only S e0 d) (h_rvg : Part.regs .vg ∈ S) :
    Only S e0 (vigilSupplyFailEff d) := by
  unfold vigilSupplyFailEff
  simp (maxDischargeDepth := 60) only [hO, h_rvg, only_refl, only_ite, only_foldl, implies_true, setFld_only,
      blk_VG_STAT_VALID]

theorem supplySwitchoverEff_only (onVbak : Bool) (d : Dev) (hO : Only S e0 d) (h_rvg : Part.regs .vg ∈ S) :
    Only S e0 (supplySwitchoverEff onVbak
    d) := by
  unfold supplySwitchoverEff
  simp (maxDischargeDepth := 60) only [hO, h_rvg, only_refl, only_ite, only_foldl, implies_true, setFlag_only,
      blk_VG_STAT_ON_VBAK]

theorem repairMapUpdateEff_only (d : Dev) (hO : Only S e0 d) (h_sys : Part.sys ∈ S) :
    Only S e0 (repairMapUpdateEff d) := by
  unfold repairMapUpdateEff
  simp (maxDischargeDepth := 60) only [hO, h_sys, only_refl, only_ite, only_foldl, implies_true, only_sys]

theorem applyMap_only (d : Dev) (hO : Only S e0 d) (h_regs : ∀ b, Part.regs b ∈ S) (h_sl : Part.sl ∈ S) (h_mo : Part.mo ∈ S) :
    Only S e0
    (Dev.applyMap d) := by
  unfold Dev.applyMap
  simp (maxDischargeDepth := 60) only [hO, h_regs, h_sl, h_mo, only_refl, only_ite, only_foldl, implies_true, only_regs,
      only_sl, only_mo, setFault_only, setFlag_only, setOps_only, blk_ME_STATUS_LOGICAL, blk_ME_STATUS_ROLE, blk_SYS_FAULT_BERTH_EXHAUSTED,
      blk_SYS_FAULT_ENGINE_EXHAUSTED, blk_SYS_FAULT_QUAY_EXHAUSTED, blk_SYS_FAULT_TB_DEGRADED, blk_SYS_REPAIR_MAP_VALID]

theorem coreReset_only (d : Dev) (retry : Bool) (hO : Only S e0 d) (h_regs : ∀ b, Part.regs b ∈ S) (h_tb : Part.tb ∈ S) (h_axes : Part.axes ∈ S) (h_trk : Part.trk ∈ S) (h_qy : Part.qy ∈ S) (h_pins : Part.pins ∈ S) (h_dr : Part.dr ∈ S) (h_sys : Part.sys ∈ S) (h_cw : Part.cw ∈ S) (h_sl : Part.sl ∈ S) (h_hi : Part.hi ∈ S) (h_lg : Part.lg ∈ S) (h_sf : Part.sf ∈ S) (h_pn : Part.pn ∈ S) (h_me : Part.me ∈ S) (h_mo : Part.mo ∈ S) (h_lt : Part.lt ∈ S) (h_boot : Part.boot ∈ S)  :
    Only S e0 (d.coreReset retry) := by
  unfold Dev.coreReset
  dsimp only
  apply setFld_only _ _ _ _ _ _ (by simp (maxDischargeDepth := 60) only [only_refl, only_ite, only_foldl, implies_true, only_regs, only_tb, only_axes, only_trk, only_qy, only_pins, only_dr, only_sys, only_cw, only_sl, only_hi, only_lg, only_sf, only_pn, only_me, only_mo, only_lt, only_boot, setFld_only, blk_HL_STAT_CHALLENGE, blk_HL_STAT_LOCKOUT, *])
  apply setFld_only _ _ _ _ _ _ (by simp (maxDischargeDepth := 60) only [only_refl, only_ite, only_foldl, implies_true, only_regs, only_tb, only_axes, only_trk, only_qy, only_pins, only_dr, only_sys, only_cw, only_sl, only_hi, only_lg, only_sf, only_pn, only_me, only_mo, only_lt, only_boot, setFld_only, blk_HL_STAT_CHALLENGE, blk_HL_STAT_LOCKOUT, *])
  intro p hp
  have k := hO p hp
  cases p <;> first | exact absurd ‹_› hp | exact absurd (h_regs _) hp | exact k

theorem closeAndCopy_only (d : Dev) (trigger : Nat) (hO : Only S e0 d) (h_rsys : Part.regs .sys ∈ S) (h_rvg : Part.regs .vg ∈ S) (h_rhi : Part.regs
    .hi ∈ S) (h_rax : Part.regs .ax ∈ S) (h_rsl : Part.regs .sl ∈ S) (h_rme : Part.regs .me ∈ S) (h_rlt : Part.regs .lt ∈ S) (h_rbh : Part.regs .bh ∈
    S) (h_rcw : Part.regs .cw ∈ S) (h_rhl : Part.regs .hl ∈ S) (h_rdr : Part.regs .dr ∈ S) (h_tb : Part.tb ∈ S) (h_axes : Part.axes ∈ S) (h_trk :
    Part.trk ∈ S) (h_qy : Part.qy ∈ S) (h_pins : Part.pins ∈ S) (h_dr : Part.dr ∈ S) (h_cw : Part.cw ∈ S) (h_sl : Part.sl ∈ S) (h_hi : Part.hi ∈ S)
    (h_lg : Part.lg ∈ S) (h_pn : Part.pn ∈ S) (h_me : Part.me ∈ S) (h_vg : Part.vg ∈ S) (h_freeCtr : Part.ctr ∈ S) :
    Only S e0 (Dev.closeAndCopy
    d trigger) := by
  unfold Dev.closeAndCopy
  simp (maxDischargeDepth := 60) only [hO, h_rsys, h_rvg, h_rhi, h_rax, h_rsl, h_rme, h_rlt, h_rbh, h_rcw, h_rhl, h_rdr,
      h_tb, h_axes, h_trk, h_qy, h_pins, h_dr, h_cw, h_sl, h_hi, h_lg, h_pn, h_me, h_vg, h_freeCtr, only_refl, only_ite, only_foldl, implies_true,
      only_tb, only_axes, only_trk, only_qy, only_pins, only_dr, only_cw, only_sl, only_hi, only_lg, only_pn, only_me, only_vg, only_ctr,
      closeEnd_only, closeStart_only, copyToVigil_only]

theorem corePowered_only (d : Dev) (hO : Only S e0 d) (h_regs : ∀ b, Part.regs b ∈ S) (h_tb : Part.tb ∈ S) (h_axes : Part.axes ∈ S) (h_trk : Part.trk ∈ S) (h_qy : Part.qy ∈ S) (h_pins : Part.pins ∈ S) (h_dr : Part.dr ∈ S) (h_sys : Part.sys ∈ S) (h_cw : Part.cw ∈ S) (h_sl : Part.sl ∈ S) (h_hi : Part.hi ∈ S) (h_lg : Part.lg ∈ S) (h_sf : Part.sf ∈ S) (h_pn : Part.pn ∈ S) (h_me : Part.me ∈ S) (h_mo : Part.mo ∈ S) (h_lt : Part.lt ∈ S) (h_boot : Part.boot ∈ S) (h_tap : Part.tap ∈ S)  :
    Only S e0 d.corePowered := by
  unfold Dev.corePowered
  dsimp only
  apply setFld_only _ _ _ _ _ _ (by simp (maxDischargeDepth := 60) only [only_refl, only_ite, only_foldl, implies_true, only_regs, only_tb, only_axes, only_trk, only_qy, only_pins, only_dr, only_sys, only_cw, only_sl, only_hi, only_lg, only_sf, only_pn, only_me, only_mo, only_lt, only_boot, only_tap, coreReset_only, setFld_only, blk_SYS_RSTCAUSE_CAUSE, *])
  have k0 := coreReset_only d false hO h_regs h_tb h_axes h_trk h_qy h_pins h_dr h_sys h_cw h_sl h_hi h_lg h_sf h_pn h_me h_mo h_lt h_boot
  intro p hp
  have k := k0 p hp
  cases p <;> first | exact absurd ‹_› hp | exact absurd (h_regs _) hp | exact k

theorem keyOnEff_only (vwake : Bool) (d : Dev) (hO : Only S e0 d) (h_regs : ∀ b, Part.regs b ∈ S) (h_tb : Part.tb ∈ S) (h_axes : Part.axes ∈ S)
    (h_trk : Part.trk ∈ S) (h_qy : Part.qy ∈ S) (h_pins : Part.pins ∈ S) (h_dr : Part.dr ∈ S) (h_sys : Part.sys ∈ S) (h_cw : Part.cw ∈ S) (h_sl :
    Part.sl ∈ S) (h_hi : Part.hi ∈ S) (h_lg : Part.lg ∈ S) (h_sf : Part.sf ∈ S) (h_pn : Part.pn ∈ S) (h_me : Part.me ∈ S) (h_mo : Part.mo ∈ S) (h_lt
    : Part.lt ∈ S) (h_boot : Part.boot ∈ S) (h_tap : Part.tap ∈ S) :
    Only S e0 (keyOnEff vwake d) := by
  unfold keyOnEff
  simp (maxDischargeDepth := 60) only [hO, h_regs, h_tb, h_axes, h_trk, h_qy, h_pins, h_dr, h_sys, h_cw, h_sl, h_hi, h_lg, h_sf,
      h_pn, h_me, h_mo, h_lt, h_boot, h_tap, only_refl, only_ite, only_foldl, implies_true, only_regs, only_tb, only_axes, only_trk, only_qy,
      only_pins, only_dr, only_sys, only_cw, only_sl, only_hi, only_lg, only_sf, only_pn, only_me, only_mo, only_lt, only_boot, only_tap,
      corePowered_only]

theorem corePowerGoodEff_only (va vb : Bool) (d : Dev) (hO : Only S e0 d) (h_regs : ∀ b, Part.regs b ∈ S) (h_tb : Part.tb ∈ S) (h_axes : Part.axes ∈
    S) (h_trk : Part.trk ∈ S) (h_qy : Part.qy ∈ S) (h_pins : Part.pins ∈ S) (h_dr : Part.dr ∈ S) (h_sys : Part.sys ∈ S) (h_cw : Part.cw ∈ S) (h_sl :
    Part.sl ∈ S) (h_hi : Part.hi ∈ S) (h_lg : Part.lg ∈ S) (h_sf : Part.sf ∈ S) (h_pn : Part.pn ∈ S) (h_me : Part.me ∈ S) (h_mo : Part.mo ∈ S) (h_lt
    : Part.lt ∈ S) (h_boot : Part.boot ∈ S) (h_tap : Part.tap ∈ S) :
    Only S e0 (corePowerGoodEff va vb d) := by
  unfold corePowerGoodEff
  simp (maxDischargeDepth := 60) only [hO, h_regs, h_tb, h_axes, h_trk, h_qy, h_pins, h_dr, h_sys, h_cw, h_sl, h_hi, h_lg,
      h_sf, h_pn, h_me, h_mo, h_lt, h_boot, h_tap, only_refl, only_ite, only_foldl, implies_true, only_regs, only_tb, only_axes, only_trk, only_qy,
      only_pins, only_dr, only_sys, only_cw, only_sl, only_hi, only_lg, only_sf, only_pn, only_me, only_mo, only_lt, only_boot, only_tap,
      corePowered_only, setFlag_only, blk_SYS_IOCFG_VA, blk_SYS_IOCFG_VB]

theorem keyOffEff_only (d : Dev) (hO : Only S e0 d) (h_regs : ∀ b, Part.regs b ∈ S) (h_tb : Part.tb ∈ S) (h_axes : Part.axes ∈ S) (h_trk : Part.trk ∈
    S) (h_qy : Part.qy ∈ S) (h_pins : Part.pins ∈ S) (h_dr : Part.dr ∈ S) (h_sys : Part.sys ∈ S) (h_cw : Part.cw ∈ S) (h_sl : Part.sl ∈ S) (h_hi :
    Part.hi ∈ S) (h_lg : Part.lg ∈ S) (h_sf : Part.sf ∈ S) (h_pn : Part.pn ∈ S) (h_me : Part.me ∈ S) (h_mo : Part.mo ∈ S) (h_lt : Part.lt ∈ S)
    (h_boot : Part.boot ∈ S) (h_vg : Part.vg ∈ S) (h_freeCtr : Part.ctr ∈ S) :
    Only S e0 (keyOffEff d) := by
  unfold keyOffEff
  simp (maxDischargeDepth := 60) only [hO, h_regs, h_tb, h_axes, h_trk, h_qy, h_pins, h_dr, h_sys, h_cw, h_sl, h_hi, h_lg, h_sf,
      h_pn, h_me, h_mo, h_lt, h_boot, h_vg, h_freeCtr, only_refl, only_ite, only_foldl, implies_true, only_regs, only_tb, only_axes, only_trk,
      only_qy, only_pins, only_dr, only_sys, only_cw, only_sl, only_hi, only_lg, only_sf, only_pn, only_me, only_mo, only_lt, only_boot, only_vg,
      only_ctr, closeAndCopy_only, coreReset_only, dark_only]

theorem resetPinEff_only (d : Dev) (hO : Only S e0 d) (h_regs : ∀ b, Part.regs b ∈ S) (h_tb : Part.tb ∈ S) (h_axes : Part.axes ∈ S) (h_trk : Part.trk
    ∈ S) (h_qy : Part.qy ∈ S) (h_pins : Part.pins ∈ S) (h_dr : Part.dr ∈ S) (h_sys : Part.sys ∈ S) (h_cw : Part.cw ∈ S) (h_sl : Part.sl ∈ S) (h_hi :
    Part.hi ∈ S) (h_lg : Part.lg ∈ S) (h_sf : Part.sf ∈ S) (h_pn : Part.pn ∈ S) (h_me : Part.me ∈ S) (h_mo : Part.mo ∈ S) (h_lt : Part.lt ∈ S)
    (h_boot : Part.boot ∈ S) (h_vg : Part.vg ∈ S) (h_freeCtr : Part.ctr ∈ S) :
    Only S e0 (resetPinEff d) := by
  unfold resetPinEff
  simp (maxDischargeDepth := 60) only [hO, h_regs, h_tb, h_axes, h_trk, h_qy, h_pins, h_dr, h_sys, h_cw, h_sl, h_hi, h_lg, h_sf,
      h_pn, h_me, h_mo, h_lt, h_boot, h_vg, h_freeCtr, only_refl, only_ite, only_foldl, implies_true, only_regs, only_tb, only_axes, only_trk,
      only_qy, only_pins, only_dr, only_sys, only_cw, only_sl, only_hi, only_lg, only_sf, only_pn, only_me, only_mo, only_lt, only_boot, only_vg,
      only_ctr, closeAndCopy_only, coreReset_only, setFld_only, blk_SYS_RSTCAUSE_CAUSE]

theorem resetReleaseEff_only (d : Dev) (hO : Only S e0 d) (h_sys : Part.sys ∈ S) :
    Only S e0 (resetReleaseEff d) := by
  unfold resetReleaseEff
  simp (maxDischargeDepth := 60) only [hO, h_sys, only_refl, only_ite, only_foldl, implies_true, only_sys]

theorem fullReset_only (d : Dev) (hO : Only S e0 d) (h_regs : ∀ b, Part.regs b ∈ S) (h_tb : Part.tb ∈ S) (h_axes : Part.axes ∈ S) (h_trk : Part.trk ∈
    S) (h_qy : Part.qy ∈ S) (h_pins : Part.pins ∈ S) (h_dr : Part.dr ∈ S) (h_sys : Part.sys ∈ S) (h_cw : Part.cw ∈ S) (h_sl : Part.sl ∈ S) (h_hi :
    Part.hi ∈ S) (h_lg : Part.lg ∈ S) (h_sf : Part.sf ∈ S) (h_pn : Part.pn ∈ S) (h_me : Part.me ∈ S) (h_mo : Part.mo ∈ S) (h_lt : Part.lt ∈ S)
    (h_boot : Part.boot ∈ S) (h_vg : Part.vg ∈ S) (h_freeCtr : Part.ctr ∈ S) :
    Only S e0 (Dev.fullReset d) := by
  unfold Dev.fullReset
  simp (maxDischargeDepth := 60) only [hO, h_regs, h_tb, h_axes, h_trk, h_qy, h_pins, h_dr, h_sys, h_cw, h_sl, h_hi, h_lg,
      h_sf, h_pn, h_me, h_mo, h_lt, h_boot, h_vg, h_freeCtr, only_refl, only_ite, only_foldl, implies_true, only_regs, only_tb, only_axes, only_trk,
      only_qy, only_pins, only_dr, only_sys, only_cw, only_sl, only_hi, only_lg, only_sf, only_pn, only_me, only_mo, only_lt, only_boot, only_vg,
      only_ctr, closeAndCopy_only, coreReset_only, setFld_only, blk_SYS_RSTCAUSE_CAUSE]

theorem powerLossEff_only (d : Dev) (hO : Only S e0 d) (h_regs : ∀ b, Part.regs b ∈ S) (h_tb : Part.tb ∈ S) (h_axes : Part.axes ∈ S) (h_trk :
    Part.trk ∈ S) (h_qy : Part.qy ∈ S) (h_pins : Part.pins ∈ S) (h_dr : Part.dr ∈ S) (h_sys : Part.sys ∈ S) (h_cw : Part.cw ∈ S) (h_sl : Part.sl ∈ S)
    (h_hi : Part.hi ∈ S) (h_lg : Part.lg ∈ S) (h_sf : Part.sf ∈ S) (h_pn : Part.pn ∈ S) (h_me : Part.me ∈ S) (h_mo : Part.mo ∈ S) (h_lt : Part.lt ∈
    S) (h_boot : Part.boot ∈ S) :
    Only S e0 (powerLossEff d) := by
  unfold powerLossEff
  simp (maxDischargeDepth := 60) only [hO, h_regs, h_tb, h_axes, h_trk, h_qy, h_pins, h_dr, h_sys, h_cw, h_sl, h_hi, h_lg,
      h_sf, h_pn, h_me, h_mo, h_lt, h_boot, only_refl, only_ite, only_foldl, implies_true, only_regs, only_tb, only_axes, only_trk, only_qy,
      only_pins, only_dr, only_sys, only_cw, only_sl, only_hi, only_lg, only_sf, only_pn, only_me, only_mo, only_lt, only_boot, coreReset_only,
      dark_only]

theorem coldPowerUpEff_only (d : Dev) (hO : Only S e0 d) (h_regs : ∀ b, Part.regs b ∈ S) (h_tb : Part.tb ∈ S) (h_axes : Part.axes ∈ S) (h_trk : Part.trk ∈ S) (h_qy : Part.qy ∈ S) (h_pins : Part.pins ∈ S) (h_dr : Part.dr ∈ S) (h_sys : Part.sys ∈ S) (h_cw : Part.cw ∈ S) (h_sl : Part.sl ∈ S) (h_hi : Part.hi ∈ S) (h_lg : Part.lg ∈ S) (h_sf : Part.sf ∈ S) (h_pn : Part.pn ∈ S) (h_me : Part.me ∈ S) (h_mo : Part.mo ∈ S) (h_lt : Part.lt ∈ S) (h_boot : Part.boot ∈ S) (h_vg : Part.vg ∈ S) (h_tap : Part.tap ∈ S)  :
    Only S e0 (coldPowerUpEff d) := by
  unfold coldPowerUpEff
  dsimp only
  apply setFld_only _ _ _ _ _ _ (by simp (maxDischargeDepth := 60) only [only_refl, only_ite, only_foldl, implies_true, only_regs, only_tb, only_axes, only_trk, only_qy, only_pins, only_dr, only_sys, only_cw, only_sl, only_hi, only_lg, only_sf, only_pn, only_me, only_mo, only_lt, only_boot, only_vg, only_tap, coreReset_only, setFld_only, blk_AX0_STATUS_STATE, blk_SYS_FAULT_AX0_INVALID, *])
  apply setFld_only _ _ _ _ _ _ (by simp (maxDischargeDepth := 60) only [only_refl, only_ite, only_foldl, implies_true, only_regs, only_tb, only_axes, only_trk, only_qy, only_pins, only_dr, only_sys, only_cw, only_sl, only_hi, only_lg, only_sf, only_pn, only_me, only_mo, only_lt, only_boot, only_vg, only_tap, coreReset_only, setFld_only, blk_AX0_STATUS_STATE, blk_SYS_FAULT_AX0_INVALID, *])
  have k0 := coreReset_only d false hO h_regs h_tb h_axes h_trk h_qy h_pins h_dr h_sys h_cw h_sl h_hi h_lg h_sf h_pn h_me h_mo h_lt h_boot
  intro p hp
  have k := k0 p hp
  cases p <;> first | exact absurd ‹_› hp | exact absurd (h_regs _) hp | exact k

end Sys2Proof.Machine
end

