-- ==== Sys2Proof/Laws/FrameBar.lean ====
section
/-! SUPPORT. Which parts of the state the operations of Machine/HostRing, Bar, Boot may change. -/

namespace Sys2Proof.Machine

open Sys2Proof

set_option linter.unusedSimpArgs false
set_option linter.unusedVariables false
set_option linter.unusedTactic false
set_option linter.unreachableTactic false

variable {S : List Part} {e0 : Dev}

theorem ringDrain_only (d : Dev) (m : Nat) (hO : Only S e0 d) (h_rhi : Part.regs .hi ∈ S) (h_rsl : Part.regs .sl ∈ S) (h_sl : Part.sl ∈ S) (h_hi :
    Part.hi ∈ S) (h_lg : Part.lg ∈ S) :
    Only S e0 (Dev.ringDrain d m) := by
  unfold Dev.ringDrain
  simp (maxDischargeDepth := 60) only [hO, h_rhi, h_rsl, h_sl, h_hi, h_lg, only_refl, only_ite, only_foldl, implies_true,
      only_sl, only_hi, only_lg, count_only, report_only, ringDrained_only, setFld_only, setRing_only, blk_CQ_ERR_ABORT_CNT, blk_CQ_STAT_RSTATE]

theorem ringEnable_only (d : Dev) (m : Nat) (en : Bool) (hO : Only S e0 d) (h_rhi : Part.regs .hi ∈ S) (h_rsl : Part.regs .sl ∈ S) (h_sl : Part.sl ∈
    S) (h_hi : Part.hi ∈ S) (h_lg : Part.lg ∈ S) :
    Only S e0 (Dev.ringEnable d m en) := by
  unfold Dev.ringEnable
  simp (maxDischargeDepth := 60) only [hO, h_rhi, h_rsl, h_sl, h_hi, h_lg, only_refl, only_ite, only_foldl, implies_true,
      only_sl, only_hi, only_lg, ringDrain_only, ringMode_only, setFld_only, setRing_only, blk_CQ_CFG_CQ_HQ, blk_CQ_CFG_EN, blk_CQ_CI_CI,
      blk_CQ_STAT_REEN_PEND, blk_CQ_STAT_RGEN, blk_CQ_STAT_RSTATE, blk_HQ_STAT_QSTATE]

theorem ringReset_only (d : Dev) (m : Nat) (hO : Only S e0 d) (h_rhi : Part.regs .hi ∈ S) (h_rsl : Part.regs .sl ∈ S) (h_sl : Part.sl ∈ S) (h_hi :
    Part.hi ∈ S) (h_lg : Part.lg ∈ S) :
    Only S e0 (Dev.ringReset d m) := by
  unfold Dev.ringReset
  simp (maxDischargeDepth := 60) only [hO, h_rhi, h_rsl, h_sl, h_hi, h_lg, only_refl, only_ite, only_foldl, implies_true,
      only_sl, only_hi, only_lg, ringDrain_only, setFld_only, blk_CQ_CFG_EN, blk_CQ_STAT_REEN_PEND]

theorem writeCqCfg_only (d : Dev) (m f v : Nat) (hO : Only S e0 d) (h_rhi : Part.regs .hi ∈ S) (h_rsl : Part.regs .sl ∈ S) (h_sl : Part.sl ∈ S) (h_hi
    : Part.hi ∈ S) (h_lg : Part.lg ∈ S) :
    Only S e0 (Dev.writeCqCfg d m f v) := by
  unfold Dev.writeCqCfg
  simp (maxDischargeDepth := 60) only [hO, h_rhi, h_rsl, h_sl, h_hi, h_lg, only_refl, only_ite, only_foldl, implies_true,
      only_sl, only_hi, only_lg, ringEnable_only, setFld_only, blk_CQ_CFG_CQ_HQ, blk_CQ_CFG_PREFETCH, blk_CQ_CFG_SIZE, blk_CQ_STAT_RSTATE]

theorem discardUnit_only (d : Dev) (q : Nat) (u : RecUnit) (hO : Only S e0 d) (h_rhi : Part.regs .hi ∈ S) (h_rsl : Part.regs .sl ∈ S) (h_sl : Part.sl
    ∈ S) (h_hi : Part.hi ∈ S) (h_lg : Part.lg ∈ S) :
    Only S e0 (Dev.discardUnit d q u) := by
  unfold Dev.discardUnit
  (try dsimp only)
  (repeat' split) <;> simp (maxDischargeDepth := 60) only [hO, h_rhi, h_rsl, h_sl, h_hi, h_lg, only_refl,
      only_ite, only_foldl, implies_true, only_sl, only_hi, only_lg, closeDone_only, count_only, lose_only, loseDone_only, ringServed_only,
      blk_CQ_ERR_LOGGED_CNT]

theorem hqDiscard_only (d : Dev) (q : Nat) (hO : Only S e0 d) (h_rhi : Part.regs .hi ∈ S) (h_rsl : Part.regs .sl ∈ S) (h_sl : Part.sl ∈ S) (h_hi :
    Part.hi ∈ S) (h_lg : Part.lg ∈ S) :
    Only S e0 (Dev.hqDiscard d q) := by
  unfold Dev.hqDiscard
  simp (maxDischargeDepth := 60) only [hO, h_rhi, h_rsl, h_sl, h_hi, h_lg, only_refl, only_ite, only_foldl, implies_true,
      only_sl, only_hi, only_lg, discardUnit_only, lose_only, setFld_only, setHq_only, blk_HQ_CFG_EN, blk_HQ_STAT_QSTATE]

theorem queueEnable_only (d : Dev) (q : Nat) (en : Bool) (hO : Only S e0 d) (h_rsl : Part.regs .sl ∈ S) (h_sl : Part.sl ∈ S) :
    Only S e0
    (Dev.queueEnable d q en) := by
  unfold Dev.queueEnable
  simp (maxDischargeDepth := 60) only [hO, h_rsl, h_sl, only_refl, only_ite, only_foldl, implies_true, only_sl,
      hqDrained_only, hqEnable_only, setFld_only, blk_HQ_CFG_EN, blk_HQ_STAT_QSTATE, blk_HQ_STAT_REEN_PEND]

theorem writeHqCfg_only (d : Dev) (q v : Nat) (hO : Only S e0 d) (h_rhi : Part.regs .hi ∈ S) (h_rsl : Part.regs .sl ∈ S) (h_sl : Part.sl ∈ S) (h_hi :
    Part.hi ∈ S) (h_lg : Part.lg ∈ S) :
    Only S e0 (Dev.writeHqCfg d q v) := by
  unfold Dev.writeHqCfg
  simp (maxDischargeDepth := 60) only [hO, h_rhi, h_rsl, h_sl, h_hi, h_lg, only_refl, only_ite, only_foldl, implies_true,
      only_sl, only_hi, only_lg, hqDiscard_only, queueEnable_only, setFld_only, blk_HQ_CFG_SIZE, blk_HQ_CFG_STG_MAX, blk_HQ_CFG_VECTOR,
      blk_HQ_STAT_QSTATE]

theorem hqRecordIssueEff_only (q : Nat) (d : Dev) (hO : Only S e0 d) (h_rhi : Part.regs .hi ∈ S) (h_rsl : Part.regs .sl ∈ S) (h_rbh : Part.regs .bh ∈
    S) (h_dr : Part.dr ∈ S) (h_sl : Part.sl ∈ S) (h_hi : Part.hi ∈ S) (h_lg : Part.lg ∈ S) :
    Only S e0 (hqRecordIssueEff q d) := by
  unfold hqRecordIssueEff
  (try dsimp only)
  (repeat' split) <;> simp (maxDischargeDepth := 60) only [hO, h_rhi, h_rsl, h_rbh, h_dr, h_sl, h_hi,
      h_lg, only_refl, only_ite, only_foldl, implies_true, only_dr, only_sl, only_hi, only_lg, fences_only, issueRec_only, startReturn_only]

theorem stagingDrainEff_only (q : Nat) (d : Dev) (hO : Only S e0 d) (h_rhi : Part.regs .hi ∈ S) (h_rsl : Part.regs .sl ∈ S) (h_rbh : Part.regs .bh ∈
    S) (h_dr : Part.dr ∈ S) (h_sl : Part.sl ∈ S) (h_hi : Part.hi ∈ S) (h_lg : Part.lg ∈ S) :
    Only S e0 (stagingDrainEff q d) := by
  unfold stagingDrainEff
  (try dsimp only)
  (repeat' split) <;> simp (maxDischargeDepth := 60) only [hO, h_rhi, h_rsl, h_rbh, h_dr, h_sl, h_hi,
      h_lg, only_refl, only_ite, only_foldl, implies_true, only_dr, only_sl, only_hi, only_lg, drainUnit_only, fences_only, startReturn_only,
      writeLoss_only]

theorem writePoll_only (d : Dev) (f v : Nat) (hO : Only S e0 d) (h_rhi : Part.regs .hi ∈ S) :
    Only S e0 (Dev.writePoll d f v) := by
  unfold Dev.writePoll
  simp (maxDischargeDepth := 60) only [hO, h_rhi, only_refl, only_ite, only_foldl, implies_true, setFld_only,
      blk_HI_POLL_OUTSTANDING, blk_HI_POLL_POLL]

theorem writeField_only (d : Dev) (row : RegRow) (i j v mask : Nat) (boot : Bool) (x : Fld × Acc) (hO : Only S e0 d) (h_regs : ∀ b, Part.regs b ∈ S)
    :
    Only S e0 (Dev.writeField d row i j v mask boot x) := by
  unfold Dev.writeField
  (try dsimp only)
  (repeat' split) <;> simp (maxDischargeDepth := 60) only [hO, h_regs, only_refl, only_ite, only_foldl,
      implies_true, only_regs, setFld_only]

theorem writeFields_only (d : Dev) (row : RegRow) (i j v mask : Nat) (boot : Bool) (hO : Only S e0 d) (h_regs : ∀ b, Part.regs b ∈ S) :
    Only S e0
    (Dev.writeFields d row i j v mask boot) := by
  unfold Dev.writeFields
  simp (maxDischargeDepth := 60) only [hO, h_regs, only_refl, only_ite, only_foldl, implies_true, only_regs, writeField_only]

theorem writeRanged_only (d : Dev) (f : Fld) (v lo hi : Nat) (i : Nat := 0) (hO : Only S e0 d)  (hb_f : Part.regs f.blk ∈ S) :
    Only S e0
    (Dev.writeRanged d f v lo hi i) := by
  unfold Dev.writeRanged
  simp (maxDischargeDepth := 60) only [hO, hb_f, only_refl, only_ite, only_foldl, implies_true, setFld_only]

theorem pushGo_only (d : Dev) (hO : Only S e0 d) (h_rsys : Part.regs .sys ∈ S) :
    Only S e0 (Dev.pushGo d) := by
  unfold Dev.pushGo
  simp (maxDischargeDepth := 60) only [hO, h_rsys, only_refl, only_ite, only_foldl, implies_true, setFld_only,
      blk_SYS_BOOT_BOOTSEL, blk_SYS_BOOT_SOURCE, blk_SYS_BOOT_STAGE]

theorem writeReset_only (d : Dev) (first : Bool) (v : Nat) (hO : Only S e0 d) (h_regs : ∀ b, Part.regs b ∈ S) (h_tb : Part.tb ∈ S) (h_axes :
    Part.axes ∈ S) (h_trk : Part.trk ∈ S) (h_qy : Part.qy ∈ S) (h_pins : Part.pins ∈ S) (h_dr : Part.dr ∈ S) (h_sys : Part.sys ∈ S) (h_cw : Part.cw ∈
    S) (h_sl : Part.sl ∈ S) (h_hi : Part.hi ∈ S) (h_lg : Part.lg ∈ S) (h_sf : Part.sf ∈ S) (h_pn : Part.pn ∈ S) (h_me : Part.me ∈ S) (h_mo : Part.mo
    ∈ S) (h_lt : Part.lt ∈ S) (h_boot : Part.boot ∈ S) (h_vg : Part.vg ∈ S) (h_freeCtr : Part.ctr ∈ S) :
    Only S e0 (Dev.writeReset d first v) := by
  unfold Dev.writeReset
  simp (maxDischargeDepth := 60) only [hO, h_regs, h_tb, h_axes, h_trk, h_qy, h_pins, h_dr, h_sys, h_cw, h_sl, h_hi, h_lg,
      h_sf, h_pn, h_me, h_mo, h_lt, h_boot, h_vg, h_freeCtr, only_refl, only_ite, only_foldl, implies_true, only_regs, only_tb, only_axes, only_trk,
      only_qy, only_pins, only_dr, only_sys, only_cw, only_sl, only_hi, only_lg, only_sf, only_pn, only_me, only_mo, only_lt, only_boot, only_vg,
      only_ctr, fullReset_only]

theorem writePnFifo_only (d : Dev) (n v : Nat) (hO : Only S e0 d) (h_rpn : Part.regs .pn ∈ S) (h_sl : Part.sl ∈ S) (h_pn : Part.pn ∈ S) :
    Only S
    e0 (Dev.writePnFifo d n v) := by
  unfold Dev.writePnFifo
  simp (maxDischargeDepth := 60) only [hO, h_rpn, h_sl, h_pn, only_refl, only_ite, only_foldl, implies_true, only_sl,
      only_pn, pnFlush_only, reqRises_only, setFld_only, blk_PN_FIFO_RX_WM, blk_PN_FIFO_TX_WM]

theorem writeWt_only (d : Dev) (row : RegRow) (i j v mask : Nat) (boot : Bool) (hO : Only S e0 d) (h_regs : ∀ b, Part.regs b ∈ S) (h_trk : Part.trk ∈
    S) :
    Only S e0 (Dev.writeWt d row i j v mask boot) := by
  unfold Dev.writeWt
  simp (maxDischargeDepth := 60) only [hO, h_regs, h_trk, only_refl, only_ite, only_foldl, implies_true, only_regs, only_trk,
      writeFields_only, wtDisable_only, wtEnable_only, blk_WT_CFG_EN]

theorem writeReg_only (d : Dev) (row : RegRow) (i j val mask : Nat) (boot first : Bool) (hO : Only S e0 d) (h_regs : ∀ b, Part.regs b ∈ S) (h_tb :
    Part.tb ∈ S) (h_axes : Part.axes ∈ S) (h_trk : Part.trk ∈ S) (h_qy : Part.qy ∈ S) (h_pins : Part.pins ∈ S) (h_dr : Part.dr ∈ S) (h_sys : Part.sys
    ∈ S) (h_cw : Part.cw ∈ S) (h_sl : Part.sl ∈ S) (h_hi : Part.hi ∈ S) (h_lg : Part.lg ∈ S) (h_sf : Part.sf ∈ S) (h_pn : Part.pn ∈ S) (h_me :
    Part.me ∈ S) (h_mo : Part.mo ∈ S) (h_lt : Part.lt ∈ S) (h_boot : Part.boot ∈ S) (h_vg : Part.vg ∈ S) (h_freeCtr : Part.ctr ∈ S) :
    Only S e0
    (Dev.writeReg d row i j val mask boot first) := by
  unfold Dev.writeReg
  (try dsimp only)
  (repeat' split) <;> simp (maxDischargeDepth := 60) only [hO, h_regs, h_tb, h_axes, h_trk, h_qy, h_pins,
      h_dr, h_sys, h_cw, h_sl, h_hi, h_lg, h_sf, h_pn, h_me, h_mo, h_lt, h_boot, h_vg, h_freeCtr, only_refl, only_ite, only_foldl, implies_true,
      only_regs, only_tb, only_axes, only_trk, only_qy, only_pins, only_dr, only_sys, only_cw, only_sl, only_hi, only_lg, only_sf, only_pn, only_me,
      only_mo, only_lt, only_boot, only_vg, only_ctr, cwStart_only, portRoles_only, pushGo_only, setFault_only, setFld_only, setLstate_only,
      writeAxCfg_only, writeAxPar_only, writeCqCfg_only, writeFields_only, writeGo_only, writeHold_only, writeHoldoff_only, writeHoldover_only,
      writeHqCfg_only, writeLcfg_only, writeList_only, writeLtCfg_only, writeMeRelief_only, writeModeHold_only, writeOwner_only, writePend_only,
      writePin_only, writePnFifo_only, writePoll_only, writePub_only, writeRanged_only, writeReloc_only, writeReset_only, writeSpare_only,
      writeTgt_only, writeWt_only, blk_AX0_SLEW_RSTEP_PPM, blk_AX0_SLEW_SLEW_PPM, blk_CK_REFSEL_SRC, blk_CQ_STAT_RSTATE, blk_CW_TALLY_PERIOD_MS,
      blk_CW_TLOCAL_DIGEST, blk_HL_TRIG_TRIG, blk_HQ_STAT_QSTATE, blk_ME_DCFG_PRIGRP, blk_SYS_FAULT_SW, blk_VG_CTRL_VDRIFT_PPB]

theorem writePart_only (d : Dev) (off size val : Nat) (boot first : Bool) (hO : Only S e0 d) (h_regs : ∀ b, Part.regs b ∈ S) (h_tb : Part.tb ∈ S)
    (h_axes : Part.axes ∈ S) (h_trk : Part.trk ∈ S) (h_qy : Part.qy ∈ S) (h_pins : Part.pins ∈ S) (h_dr : Part.dr ∈ S) (h_sys : Part.sys ∈ S) (h_cw :
    Part.cw ∈ S) (h_sl : Part.sl ∈ S) (h_hi : Part.hi ∈ S) (h_lg : Part.lg ∈ S) (h_sf : Part.sf ∈ S) (h_pn : Part.pn ∈ S) (h_me : Part.me ∈ S) (h_mo
    : Part.mo ∈ S) (h_lt : Part.lt ∈ S) (h_boot : Part.boot ∈ S) (h_vg : Part.vg ∈ S) (h_freeCtr : Part.ctr ∈ S) :
    Only S e0 (Dev.writePart d off
    size val boot first) := by
  unfold Dev.writePart
  (try dsimp only)
  (repeat' split) <;> simp (maxDischargeDepth := 60) only [hO, h_regs, h_tb, h_axes, h_trk, h_qy, h_pins,
      h_dr, h_sys, h_cw, h_sl, h_hi, h_lg, h_sf, h_pn, h_me, h_mo, h_lt, h_boot, h_vg, h_freeCtr, only_refl, only_ite, only_foldl, implies_true,
      only_regs, only_tb, only_axes, only_trk, only_qy, only_pins, only_dr, only_sys, only_cw, only_sl, only_hi, only_lg, only_sf, only_pn, only_me,
      only_mo, only_lt, only_boot, only_vg, only_ctr, writeReg_only]

theorem writeBar_only (d : Dev) (off size val : Nat) (boot first : Bool) (hO : Only S e0 d) (h_regs : ∀ b, Part.regs b ∈ S) (h_tb : Part.tb ∈ S)
    (h_axes : Part.axes ∈ S) (h_trk : Part.trk ∈ S) (h_qy : Part.qy ∈ S) (h_pins : Part.pins ∈ S) (h_dr : Part.dr ∈ S) (h_sys : Part.sys ∈ S) (h_cw :
    Part.cw ∈ S) (h_sl : Part.sl ∈ S) (h_hi : Part.hi ∈ S) (h_lg : Part.lg ∈ S) (h_sf : Part.sf ∈ S) (h_pn : Part.pn ∈ S) (h_me : Part.me ∈ S) (h_mo
    : Part.mo ∈ S) (h_lt : Part.lt ∈ S) (h_boot : Part.boot ∈ S) (h_vg : Part.vg ∈ S) (h_freeCtr : Part.ctr ∈ S) :
    Only S e0 (Dev.writeBar d off
    size val boot first) := by
  unfold Dev.writeBar
  simp (maxDischargeDepth := 60) only [hO, h_regs, h_tb, h_axes, h_trk, h_qy, h_pins, h_dr, h_sys, h_cw, h_sl, h_hi, h_lg,
      h_sf, h_pn, h_me, h_mo, h_lt, h_boot, h_vg, h_freeCtr, only_refl, only_ite, only_foldl, implies_true, only_regs, only_tb, only_axes, only_trk,
      only_qy, only_pins, only_dr, only_sys, only_cw, only_sl, only_hi, only_lg, only_sf, only_pn, only_me, only_mo, only_lt, only_boot, only_vg,
      only_ctr, writePart_only]

theorem bar2Write_only (d : Dev) (f off v : Nat) (hO : Only S e0 d) (h_hi : Part.hi ∈ S) :
    Only S e0 (Dev.bar2Write d f off v) := by
  unfold Dev.bar2Write
  simp (maxDischargeDepth := 60) only [hO, h_hi, only_refl, only_ite, only_foldl, implies_true, only_hi, msixFlush_only,
      setFunc_only]

theorem clearRc_only (d : Dev) (off size : Nat) (hO : Only S e0 d) (h_regs : ∀ b, Part.regs b ∈ S) :
    Only S e0 (Dev.clearRc d off size) := by
  unfold Dev.clearRc
  (try dsimp only)
  (repeat' split) <;> simp (maxDischargeDepth := 60) only [hO, h_regs, only_refl, only_ite, only_foldl,
      implies_true, only_regs, readClears_only]

theorem noteBar_only (d : Dev) (f off size : Nat) (hO : Only S e0 d)  :
    Only S e0 (Dev.noteBar d f off size) := by
  unfold Dev.noteBar
  simp (maxDischargeDepth := 60) only [hO, only_refl, only_ite, only_foldl, implies_true, only_cyc]

theorem hostWrite_only (d : Dev) (a : BarAcc) (hO : Only S e0 d) (h_regs : ∀ b, Part.regs b ∈ S) (h_tb : Part.tb ∈ S) (h_axes : Part.axes ∈ S) (h_trk
    : Part.trk ∈ S) (h_qy : Part.qy ∈ S) (h_pins : Part.pins ∈ S) (h_dr : Part.dr ∈ S) (h_sys : Part.sys ∈ S) (h_cw : Part.cw ∈ S) (h_sl : Part.sl ∈
    S) (h_hi : Part.hi ∈ S) (h_lg : Part.lg ∈ S) (h_sf : Part.sf ∈ S) (h_pn : Part.pn ∈ S) (h_me : Part.me ∈ S) (h_mo : Part.mo ∈ S) (h_lt : Part.lt
    ∈ S) (h_boot : Part.boot ∈ S) (h_vg : Part.vg ∈ S) (h_freeCtr : Part.ctr ∈ S) :
    Only S e0 (Dev.hostWrite d a) := by
  unfold Dev.hostWrite
  simp (maxDischargeDepth := 60) only [hO, h_regs, h_tb, h_axes, h_trk, h_qy, h_pins, h_dr, h_sys, h_cw, h_sl, h_hi, h_lg,
      h_sf, h_pn, h_me, h_mo, h_lt, h_boot, h_vg, h_freeCtr, only_refl, only_ite, only_foldl, implies_true, only_regs, only_tb, only_axes, only_trk,
      only_qy, only_pins, only_dr, only_sys, only_cw, only_sl, only_hi, only_lg, only_sf, only_pn, only_me, only_mo, only_lt, only_boot, only_vg,
      only_ctr, bar2Write_only, noteBar_only, writeBar_only]

theorem hostRead8_only (d : Dev) (fn off size : Nat) (hO : Only S e0 d) (h_regs : ∀ b, Part.regs b ∈ S) (h_freeCtr : Part.ctr ∈ S) :
    Only S e0
    (Dev.hostRead8 d fn off size).2 := by
  unfold Dev.hostRead8
  (try dsimp only)
  (repeat' split) <;> simp (maxDischargeDepth := 60) only [hO, h_regs, h_freeCtr, only_refl, only_ite,
      only_foldl, implies_true, only_regs, only_ctr, clearRc_only]

theorem hostReads_only (d : Dev) (fn off k : Nat) (hO : Only S e0 d) (h_regs : ∀ b, Part.regs b ∈ S) (h_freeCtr : Part.ctr ∈ S)  :
    Only S e0 (d.hostReads fn off k).2 := by
  induction k generalizing d off with
  | zero => unfold Dev.hostReads; exact hO
  | succ k ih =>
    unfold Dev.hostReads
    dsimp only
    apply ih
    simp (maxDischargeDepth := 60) only [only_refl, only_ite, only_foldl, implies_true, only_regs, only_ctr, hostRead8_only, *]

theorem rcReadEff_only (fn off size : Nat) (d : Dev) (hO : Only S e0 d) (h_regs : ∀ b, Part.regs b ∈ S) (h_hi : Part.hi ∈ S) (h_freeCtr : Part.ctr ∈
    S) :
    Only S e0 (rcReadEff fn off size d) := by
  unfold rcReadEff
  (try dsimp only)
  (repeat' split) <;> simp (maxDischargeDepth := 60) only [hO, h_regs, h_hi, h_freeCtr, only_refl, only_ite,
      only_foldl, implies_true, only_regs, only_hi, only_ctr, hostRead8_only, hostReads_only]

theorem hostWriteAt_only (d : Dev) (a : BarAcc) (bases : List Nat) (hO : Only S e0 d) (h_regs : ∀ b, Part.regs b ∈ S) (h_tb : Part.tb ∈ S) (h_axes :
    Part.axes ∈ S) (h_trk : Part.trk ∈ S) (h_qy : Part.qy ∈ S) (h_pins : Part.pins ∈ S) (h_dr : Part.dr ∈ S) (h_sys : Part.sys ∈ S) (h_cw : Part.cw ∈
    S) (h_sl : Part.sl ∈ S) (h_hi : Part.hi ∈ S) (h_lg : Part.lg ∈ S) (h_sf : Part.sf ∈ S) (h_pn : Part.pn ∈ S) (h_me : Part.me ∈ S) (h_mo : Part.mo
    ∈ S) (h_lt : Part.lt ∈ S) (h_boot : Part.boot ∈ S) (h_vg : Part.vg ∈ S) (h_freeCtr : Part.ctr ∈ S) :
    Only S e0 (Dev.hostWriteAt d a bases) := by
  unfold Dev.hostWriteAt
  (try dsimp only)
  (repeat' split) <;> simp (maxDischargeDepth := 60) only [hO, h_regs, h_tb, h_axes, h_trk, h_qy, h_pins,
      h_dr, h_sys, h_cw, h_sl, h_hi, h_lg, h_sf, h_pn, h_me, h_mo, h_lt, h_boot, h_vg, h_freeCtr, only_refl, only_ite, only_foldl, implies_true,
      only_regs, only_tb, only_axes, only_trk, only_qy, only_pins, only_dr, only_sys, only_cw, only_sl, only_hi, only_lg, only_sf, only_pn, only_me,
      only_mo, only_lt, only_boot, only_vg, only_ctr, hostWrite_only]

theorem sysModeGoEff_only (a : BarAcc) (d : Dev) (hO : Only S e0 d) (h_regs : ∀ b, Part.regs b ∈ S) (h_tb : Part.tb ∈ S) (h_axes : Part.axes ∈ S)
    (h_trk : Part.trk ∈ S) (h_qy : Part.qy ∈ S) (h_pins : Part.pins ∈ S) (h_dr : Part.dr ∈ S) (h_sys : Part.sys ∈ S) (h_cw : Part.cw ∈ S) (h_sl :
    Part.sl ∈ S) (h_hi : Part.hi ∈ S) (h_lg : Part.lg ∈ S) (h_sf : Part.sf ∈ S) (h_pn : Part.pn ∈ S) (h_me : Part.me ∈ S) (h_mo : Part.mo ∈ S) (h_lt
    : Part.lt ∈ S) (h_boot : Part.boot ∈ S) (h_vg : Part.vg ∈ S) (h_freeCtr : Part.ctr ∈ S) :
    Only S e0 (sysModeGoEff a d) := by
  unfold sysModeGoEff
  simp (maxDischargeDepth := 60) only [hO, h_regs, h_tb, h_axes, h_trk, h_qy, h_pins, h_dr, h_sys, h_cw, h_sl, h_hi, h_lg,
      h_sf, h_pn, h_me, h_mo, h_lt, h_boot, h_vg, h_freeCtr, only_refl, only_ite, only_foldl, implies_true, only_regs, only_tb, only_axes, only_trk,
      only_qy, only_pins, only_dr, only_sys, only_cw, only_sl, only_hi, only_lg, only_sf, only_pn, only_me, only_mo, only_lt, only_boot, only_vg,
      only_ctr, hostWriteAt_only]

theorem sysModeHoldEff_only (a : BarAcc) (d : Dev) (hO : Only S e0 d) (h_regs : ∀ b, Part.regs b ∈ S) (h_tb : Part.tb ∈ S) (h_axes : Part.axes ∈ S)
    (h_trk : Part.trk ∈ S) (h_qy : Part.qy ∈ S) (h_pins : Part.pins ∈ S) (h_dr : Part.dr ∈ S) (h_sys : Part.sys ∈ S) (h_cw : Part.cw ∈ S) (h_sl :
    Part.sl ∈ S) (h_hi : Part.hi ∈ S) (h_lg : Part.lg ∈ S) (h_sf : Part.sf ∈ S) (h_pn : Part.pn ∈ S) (h_me : Part.me ∈ S) (h_mo : Part.mo ∈ S) (h_lt
    : Part.lt ∈ S) (h_boot : Part.boot ∈ S) (h_vg : Part.vg ∈ S) (h_freeCtr : Part.ctr ∈ S) :
    Only S e0 (sysModeHoldEff a d) := by
  unfold sysModeHoldEff
  simp (maxDischargeDepth := 60) only [hO, h_regs, h_tb, h_axes, h_trk, h_qy, h_pins, h_dr, h_sys, h_cw, h_sl, h_hi, h_lg,
      h_sf, h_pn, h_me, h_mo, h_lt, h_boot, h_vg, h_freeCtr, only_refl, only_ite, only_foldl, implies_true, only_regs, only_tb, only_axes, only_trk,
      only_qy, only_pins, only_dr, only_sys, only_cw, only_sl, only_hi, only_lg, only_sf, only_pn, only_me, only_mo, only_lt, only_boot, only_vg,
      only_ctr, hostWriteAt_only]

theorem sysResetWriteEff_only (a : BarAcc) (d : Dev) (hO : Only S e0 d) (h_regs : ∀ b, Part.regs b ∈ S) (h_tb : Part.tb ∈ S) (h_axes : Part.axes ∈ S)
    (h_trk : Part.trk ∈ S) (h_qy : Part.qy ∈ S) (h_pins : Part.pins ∈ S) (h_dr : Part.dr ∈ S) (h_sys : Part.sys ∈ S) (h_cw : Part.cw ∈ S) (h_sl :
    Part.sl ∈ S) (h_hi : Part.hi ∈ S) (h_lg : Part.lg ∈ S) (h_sf : Part.sf ∈ S) (h_pn : Part.pn ∈ S) (h_me : Part.me ∈ S) (h_mo : Part.mo ∈ S) (h_lt
    : Part.lt ∈ S) (h_boot : Part.boot ∈ S) (h_vg : Part.vg ∈ S) (h_freeCtr : Part.ctr ∈ S) :
    Only S e0 (sysResetWriteEff a d) := by
  unfold sysResetWriteEff
  simp (maxDischargeDepth := 60) only [hO, h_regs, h_tb, h_axes, h_trk, h_qy, h_pins, h_dr, h_sys, h_cw, h_sl, h_hi, h_lg,
      h_sf, h_pn, h_me, h_mo, h_lt, h_boot, h_vg, h_freeCtr, only_refl, only_ite, only_foldl, implies_true, only_regs, only_tb, only_axes, only_trk,
      only_qy, only_pins, only_dr, only_sys, only_cw, only_sl, only_hi, only_lg, only_sf, only_pn, only_me, only_mo, only_lt, only_boot, only_vg,
      only_ctr, hostWriteAt_only]

theorem pushGoEff_only (a : BarAcc) (d : Dev) (hO : Only S e0 d) (h_regs : ∀ b, Part.regs b ∈ S) (h_tb : Part.tb ∈ S) (h_axes : Part.axes ∈ S) (h_trk
    : Part.trk ∈ S) (h_qy : Part.qy ∈ S) (h_pins : Part.pins ∈ S) (h_dr : Part.dr ∈ S) (h_sys : Part.sys ∈ S) (h_cw : Part.cw ∈ S) (h_sl : Part.sl ∈
    S) (h_hi : Part.hi ∈ S) (h_lg : Part.lg ∈ S) (h_sf : Part.sf ∈ S) (h_pn : Part.pn ∈ S) (h_me : Part.me ∈ S) (h_mo : Part.mo ∈ S) (h_lt : Part.lt
    ∈ S) (h_boot : Part.boot ∈ S) (h_vg : Part.vg ∈ S) (h_freeCtr : Part.ctr ∈ S) :
    Only S e0 (pushGoEff a d) := by
  unfold pushGoEff
  simp (maxDischargeDepth := 60) only [hO, h_regs, h_tb, h_axes, h_trk, h_qy, h_pins, h_dr, h_sys, h_cw, h_sl, h_hi, h_lg, h_sf,
      h_pn, h_me, h_mo, h_lt, h_boot, h_vg, h_freeCtr, only_refl, only_ite, only_foldl, implies_true, only_regs, only_tb, only_axes, only_trk,
      only_qy, only_pins, only_dr, only_sys, only_cw, only_sl, only_hi, only_lg, only_sf, only_pn, only_me, only_mo, only_lt, only_boot, only_vg,
      only_ctr, hostWriteAt_only]

theorem axCfgWriteEff_only (a : BarAcc) (d : Dev) (hO : Only S e0 d) (h_regs : ∀ b, Part.regs b ∈ S) (h_tb : Part.tb ∈ S) (h_axes : Part.axes ∈ S)
    (h_trk : Part.trk ∈ S) (h_qy : Part.qy ∈ S) (h_pins : Part.pins ∈ S) (h_dr : Part.dr ∈ S) (h_sys : Part.sys ∈ S) (h_cw : Part.cw ∈ S) (h_sl :
    Part.sl ∈ S) (h_hi : Part.hi ∈ S) (h_lg : Part.lg ∈ S) (h_sf : Part.sf ∈ S) (h_pn : Part.pn ∈ S) (h_me : Part.me ∈ S) (h_mo : Part.mo ∈ S) (h_lt
    : Part.lt ∈ S) (h_boot : Part.boot ∈ S) (h_vg : Part.vg ∈ S) (h_freeCtr : Part.ctr ∈ S) :
    Only S e0 (axCfgWriteEff a d) := by
  unfold axCfgWriteEff
  simp (maxDischargeDepth := 60) only [hO, h_regs, h_tb, h_axes, h_trk, h_qy, h_pins, h_dr, h_sys, h_cw, h_sl, h_hi, h_lg,
      h_sf, h_pn, h_me, h_mo, h_lt, h_boot, h_vg, h_freeCtr, only_refl, only_ite, only_foldl, implies_true, only_regs, only_tb, only_axes, only_trk,
      only_qy, only_pins, only_dr, only_sys, only_cw, only_sl, only_hi, only_lg, only_sf, only_pn, only_me, only_mo, only_lt, only_boot, only_vg,
      only_ctr, hostWriteAt_only]

theorem ax0HoldWriteEff_only (a : BarAcc) (d : Dev) (hO : Only S e0 d) (h_regs : ∀ b, Part.regs b ∈ S) (h_tb : Part.tb ∈ S) (h_axes : Part.axes ∈ S)
    (h_trk : Part.trk ∈ S) (h_qy : Part.qy ∈ S) (h_pins : Part.pins ∈ S) (h_dr : Part.dr ∈ S) (h_sys : Part.sys ∈ S) (h_cw : Part.cw ∈ S) (h_sl :
    Part.sl ∈ S) (h_hi : Part.hi ∈ S) (h_lg : Part.lg ∈ S) (h_sf : Part.sf ∈ S) (h_pn : Part.pn ∈ S) (h_me : Part.me ∈ S) (h_mo : Part.mo ∈ S) (h_lt
    : Part.lt ∈ S) (h_boot : Part.boot ∈ S) (h_vg : Part.vg ∈ S) (h_freeCtr : Part.ctr ∈ S) :
    Only S e0 (ax0HoldWriteEff a d) := by
  unfold ax0HoldWriteEff
  simp (maxDischargeDepth := 60) only [hO, h_regs, h_tb, h_axes, h_trk, h_qy, h_pins, h_dr, h_sys, h_cw, h_sl, h_hi, h_lg,
      h_sf, h_pn, h_me, h_mo, h_lt, h_boot, h_vg, h_freeCtr, only_refl, only_ite, only_foldl, implies_true, only_regs, only_tb, only_axes, only_trk,
      only_qy, only_pins, only_dr, only_sys, only_cw, only_sl, only_hi, only_lg, only_sf, only_pn, only_me, only_mo, only_lt, only_boot, only_vg,
      only_ctr, hostWriteAt_only]

theorem wtCfgWriteEff_only (a : BarAcc) (d : Dev) (hO : Only S e0 d) (h_regs : ∀ b, Part.regs b ∈ S) (h_tb : Part.tb ∈ S) (h_axes : Part.axes ∈ S)
    (h_trk : Part.trk ∈ S) (h_qy : Part.qy ∈ S) (h_pins : Part.pins ∈ S) (h_dr : Part.dr ∈ S) (h_sys : Part.sys ∈ S) (h_cw : Part.cw ∈ S) (h_sl :
    Part.sl ∈ S) (h_hi : Part.hi ∈ S) (h_lg : Part.lg ∈ S) (h_sf : Part.sf ∈ S) (h_pn : Part.pn ∈ S) (h_me : Part.me ∈ S) (h_mo : Part.mo ∈ S) (h_lt
    : Part.lt ∈ S) (h_boot : Part.boot ∈ S) (h_vg : Part.vg ∈ S) (h_freeCtr : Part.ctr ∈ S) :
    Only S e0 (wtCfgWriteEff a d) := by
  unfold wtCfgWriteEff
  simp (maxDischargeDepth := 60) only [hO, h_regs, h_tb, h_axes, h_trk, h_qy, h_pins, h_dr, h_sys, h_cw, h_sl, h_hi, h_lg,
      h_sf, h_pn, h_me, h_mo, h_lt, h_boot, h_vg, h_freeCtr, only_refl, only_ite, only_foldl, implies_true, only_regs, only_tb, only_axes, only_trk,
      only_qy, only_pins, only_dr, only_sys, only_cw, only_sl, only_hi, only_lg, only_sf, only_pn, only_me, only_mo, only_lt, only_boot, only_vg,
      only_ctr, hostWriteAt_only]

theorem tioPinWriteEff_only (a : BarAcc) (d : Dev) (hO : Only S e0 d) (h_regs : ∀ b, Part.regs b ∈ S) (h_tb : Part.tb ∈ S) (h_axes : Part.axes ∈ S)
    (h_trk : Part.trk ∈ S) (h_qy : Part.qy ∈ S) (h_pins : Part.pins ∈ S) (h_dr : Part.dr ∈ S) (h_sys : Part.sys ∈ S) (h_cw : Part.cw ∈ S) (h_sl :
    Part.sl ∈ S) (h_hi : Part.hi ∈ S) (h_lg : Part.lg ∈ S) (h_sf : Part.sf ∈ S) (h_pn : Part.pn ∈ S) (h_me : Part.me ∈ S) (h_mo : Part.mo ∈ S) (h_lt
    : Part.lt ∈ S) (h_boot : Part.boot ∈ S) (h_vg : Part.vg ∈ S) (h_freeCtr : Part.ctr ∈ S) :
    Only S e0 (tioPinWriteEff a d) := by
  unfold tioPinWriteEff
  simp (maxDischargeDepth := 60) only [hO, h_regs, h_tb, h_axes, h_trk, h_qy, h_pins, h_dr, h_sys, h_cw, h_sl, h_hi, h_lg,
      h_sf, h_pn, h_me, h_mo, h_lt, h_boot, h_vg, h_freeCtr, only_refl, only_ite, only_foldl, implies_true, only_regs, only_tb, only_axes, only_trk,
      only_qy, only_pins, only_dr, only_sys, only_cw, only_sl, only_hi, only_lg, only_sf, only_pn, only_me, only_mo, only_lt, only_boot, only_vg,
      only_ctr, hostWriteAt_only]

theorem flushTxEff_only (a : BarAcc) (d : Dev) (hO : Only S e0 d) (h_regs : ∀ b, Part.regs b ∈ S) (h_tb : Part.tb ∈ S) (h_axes : Part.axes ∈ S)
    (h_trk : Part.trk ∈ S) (h_qy : Part.qy ∈ S) (h_pins : Part.pins ∈ S) (h_dr : Part.dr ∈ S) (h_sys : Part.sys ∈ S) (h_cw : Part.cw ∈ S) (h_sl :
    Part.sl ∈ S) (h_hi : Part.hi ∈ S) (h_lg : Part.lg ∈ S) (h_sf : Part.sf ∈ S) (h_pn : Part.pn ∈ S) (h_me : Part.me ∈ S) (h_mo : Part.mo ∈ S) (h_lt
    : Part.lt ∈ S) (h_boot : Part.boot ∈ S) (h_vg : Part.vg ∈ S) (h_freeCtr : Part.ctr ∈ S) :
    Only S e0 (flushTxEff a d) := by
  unfold flushTxEff
  simp (maxDischargeDepth := 60) only [hO, h_regs, h_tb, h_axes, h_trk, h_qy, h_pins, h_dr, h_sys, h_cw, h_sl, h_hi, h_lg, h_sf,
      h_pn, h_me, h_mo, h_lt, h_boot, h_vg, h_freeCtr, only_refl, only_ite, only_foldl, implies_true, only_regs, only_tb, only_axes, only_trk,
      only_qy, only_pins, only_dr, only_sys, only_cw, only_sl, only_hi, only_lg, only_sf, only_pn, only_me, only_mo, only_lt, only_boot, only_vg,
      only_ctr, hostWriteAt_only]

theorem flushRxEff_only (a : BarAcc) (d : Dev) (hO : Only S e0 d) (h_regs : ∀ b, Part.regs b ∈ S) (h_tb : Part.tb ∈ S) (h_axes : Part.axes ∈ S)
    (h_trk : Part.trk ∈ S) (h_qy : Part.qy ∈ S) (h_pins : Part.pins ∈ S) (h_dr : Part.dr ∈ S) (h_sys : Part.sys ∈ S) (h_cw : Part.cw ∈ S) (h_sl :
    Part.sl ∈ S) (h_hi : Part.hi ∈ S) (h_lg : Part.lg ∈ S) (h_sf : Part.sf ∈ S) (h_pn : Part.pn ∈ S) (h_me : Part.me ∈ S) (h_mo : Part.mo ∈ S) (h_lt
    : Part.lt ∈ S) (h_boot : Part.boot ∈ S) (h_vg : Part.vg ∈ S) (h_freeCtr : Part.ctr ∈ S) :
    Only S e0 (flushRxEff a d) := by
  unfold flushRxEff
  simp (maxDischargeDepth := 60) only [hO, h_regs, h_tb, h_axes, h_trk, h_qy, h_pins, h_dr, h_sys, h_cw, h_sl, h_hi, h_lg, h_sf,
      h_pn, h_me, h_mo, h_lt, h_boot, h_vg, h_freeCtr, only_refl, only_ite, only_foldl, implies_true, only_regs, only_tb, only_axes, only_trk,
      only_qy, only_pins, only_dr, only_sys, only_cw, only_sl, only_hi, only_lg, only_sf, only_pn, only_me, only_mo, only_lt, only_boot, only_vg,
      only_ctr, hostWriteAt_only]

theorem slTgtWriteEff_only (a : BarAcc) (d : Dev) (hO : Only S e0 d) (h_regs : ∀ b, Part.regs b ∈ S) (h_tb : Part.tb ∈ S) (h_axes : Part.axes ∈ S)
    (h_trk : Part.trk ∈ S) (h_qy : Part.qy ∈ S) (h_pins : Part.pins ∈ S) (h_dr : Part.dr ∈ S) (h_sys : Part.sys ∈ S) (h_cw : Part.cw ∈ S) (h_sl :
    Part.sl ∈ S) (h_hi : Part.hi ∈ S) (h_lg : Part.lg ∈ S) (h_sf : Part.sf ∈ S) (h_pn : Part.pn ∈ S) (h_me : Part.me ∈ S) (h_mo : Part.mo ∈ S) (h_lt
    : Part.lt ∈ S) (h_boot : Part.boot ∈ S) (h_vg : Part.vg ∈ S) (h_freeCtr : Part.ctr ∈ S) :
    Only S e0 (slTgtWriteEff a d) := by
  unfold slTgtWriteEff
  simp (maxDischargeDepth := 60) only [hO, h_regs, h_tb, h_axes, h_trk, h_qy, h_pins, h_dr, h_sys, h_cw, h_sl, h_hi, h_lg,
      h_sf, h_pn, h_me, h_mo, h_lt, h_boot, h_vg, h_freeCtr, only_refl, only_ite, only_foldl, implies_true, only_regs, only_tb, only_axes, only_trk,
      only_qy, only_pins, only_dr, only_sys, only_cw, only_sl, only_hi, only_lg, only_sf, only_pn, only_me, only_mo, only_lt, only_boot, only_vg,
      only_ctr, hostWriteAt_only]

theorem slPendClearEff_only (a : BarAcc) (d : Dev) (hO : Only S e0 d) (h_regs : ∀ b, Part.regs b ∈ S) (h_tb : Part.tb ∈ S) (h_axes : Part.axes ∈ S)
    (h_trk : Part.trk ∈ S) (h_qy : Part.qy ∈ S) (h_pins : Part.pins ∈ S) (h_dr : Part.dr ∈ S) (h_sys : Part.sys ∈ S) (h_cw : Part.cw ∈ S) (h_sl :
    Part.sl ∈ S) (h_hi : Part.hi ∈ S) (h_lg : Part.lg ∈ S) (h_sf : Part.sf ∈ S) (h_pn : Part.pn ∈ S) (h_me : Part.me ∈ S) (h_mo : Part.mo ∈ S) (h_lt
    : Part.lt ∈ S) (h_boot : Part.boot ∈ S) (h_vg : Part.vg ∈ S) (h_freeCtr : Part.ctr ∈ S) :
    Only S e0 (slPendClearEff a d) := by
  unfold slPendClearEff
  simp (maxDischargeDepth := 60) only [hO, h_regs, h_tb, h_axes, h_trk, h_qy, h_pins, h_dr, h_sys, h_cw, h_sl, h_hi, h_lg,
      h_sf, h_pn, h_me, h_mo, h_lt, h_boot, h_vg, h_freeCtr, only_refl, only_ite, only_foldl, implies_true, only_regs, only_tb, only_axes, only_trk,
      only_qy, only_pins, only_dr, only_sys, only_cw, only_sl, only_hi, only_lg, only_sf, only_pn, only_me, only_mo, only_lt, only_boot, only_vg,
      only_ctr, hostWriteAt_only]

theorem sluiceHoldWriteEff_only (a : BarAcc) (d : Dev) (hO : Only S e0 d) (h_regs : ∀ b, Part.regs b ∈ S) (h_tb : Part.tb ∈ S) (h_axes : Part.axes ∈
    S) (h_trk : Part.trk ∈ S) (h_qy : Part.qy ∈ S) (h_pins : Part.pins ∈ S) (h_dr : Part.dr ∈ S) (h_sys : Part.sys ∈ S) (h_cw : Part.cw ∈ S) (h_sl :
    Part.sl ∈ S) (h_hi : Part.hi ∈ S) (h_lg : Part.lg ∈ S) (h_sf : Part.sf ∈ S) (h_pn : Part.pn ∈ S) (h_me : Part.me ∈ S) (h_mo : Part.mo ∈ S) (h_lt
    : Part.lt ∈ S) (h_boot : Part.boot ∈ S) (h_vg : Part.vg ∈ S) (h_freeCtr : Part.ctr ∈ S) :
    Only S e0 (sluiceHoldWriteEff a d) := by
  unfold sluiceHoldWriteEff
  simp (maxDischargeDepth := 60) only [hO, h_regs, h_tb, h_axes, h_trk, h_qy, h_pins, h_dr, h_sys, h_cw, h_sl, h_hi,
      h_lg, h_sf, h_pn, h_me, h_mo, h_lt, h_boot, h_vg, h_freeCtr, only_refl, only_ite, only_foldl, implies_true, only_regs, only_tb, only_axes,
      only_trk, only_qy, only_pins, only_dr, only_sys, only_cw, only_sl, only_hi, only_lg, only_sf, only_pn, only_me, only_mo, only_lt, only_boot,
      only_vg, only_ctr, hostWriteAt_only]

theorem holdoffWriteEff_only (a : BarAcc) (d : Dev) (hO : Only S e0 d) (h_regs : ∀ b, Part.regs b ∈ S) (h_tb : Part.tb ∈ S) (h_axes : Part.axes ∈ S)
    (h_trk : Part.trk ∈ S) (h_qy : Part.qy ∈ S) (h_pins : Part.pins ∈ S) (h_dr : Part.dr ∈ S) (h_sys : Part.sys ∈ S) (h_cw : Part.cw ∈ S) (h_sl :
    Part.sl ∈ S) (h_hi : Part.hi ∈ S) (h_lg : Part.lg ∈ S) (h_sf : Part.sf ∈ S) (h_pn : Part.pn ∈ S) (h_me : Part.me ∈ S) (h_mo : Part.mo ∈ S) (h_lt
    : Part.lt ∈ S) (h_boot : Part.boot ∈ S) (h_vg : Part.vg ∈ S) (h_freeCtr : Part.ctr ∈ S) :
    Only S e0 (holdoffWriteEff a d) := by
  unfold holdoffWriteEff
  simp (maxDischargeDepth := 60) only [hO, h_regs, h_tb, h_axes, h_trk, h_qy, h_pins, h_dr, h_sys, h_cw, h_sl, h_hi, h_lg,
      h_sf, h_pn, h_me, h_mo, h_lt, h_boot, h_vg, h_freeCtr, only_refl, only_ite, only_foldl, implies_true, only_regs, only_tb, only_axes, only_trk,
      only_qy, only_pins, only_dr, only_sys, only_cw, only_sl, only_hi, only_lg, only_sf, only_pn, only_me, only_mo, only_lt, only_boot, only_vg,
      only_ctr, hostWriteAt_only]

theorem hqEnWriteEff_only (a : BarAcc) (d : Dev) (hO : Only S e0 d) (h_regs : ∀ b, Part.regs b ∈ S) (h_tb : Part.tb ∈ S) (h_axes : Part.axes ∈ S)
    (h_trk : Part.trk ∈ S) (h_qy : Part.qy ∈ S) (h_pins : Part.pins ∈ S) (h_dr : Part.dr ∈ S) (h_sys : Part.sys ∈ S) (h_cw : Part.cw ∈ S) (h_sl :
    Part.sl ∈ S) (h_hi : Part.hi ∈ S) (h_lg : Part.lg ∈ S) (h_sf : Part.sf ∈ S) (h_pn : Part.pn ∈ S) (h_me : Part.me ∈ S) (h_mo : Part.mo ∈ S) (h_lt
    : Part.lt ∈ S) (h_boot : Part.boot ∈ S) (h_vg : Part.vg ∈ S) (h_freeCtr : Part.ctr ∈ S) :
    Only S e0 (hqEnWriteEff a d) := by
  unfold hqEnWriteEff
  simp (maxDischargeDepth := 60) only [hO, h_regs, h_tb, h_axes, h_trk, h_qy, h_pins, h_dr, h_sys, h_cw, h_sl, h_hi, h_lg,
      h_sf, h_pn, h_me, h_mo, h_lt, h_boot, h_vg, h_freeCtr, only_refl, only_ite, only_foldl, implies_true, only_regs, only_tb, only_axes, only_trk,
      only_qy, only_pins, only_dr, only_sys, only_cw, only_sl, only_hi, only_lg, only_sf, only_pn, only_me, only_mo, only_lt, only_boot, only_vg,
      only_ctr, hostWriteAt_only]

theorem hqDiscardEff_only (a : BarAcc) (d : Dev) (hO : Only S e0 d) (h_regs : ∀ b, Part.regs b ∈ S) (h_tb : Part.tb ∈ S) (h_axes : Part.axes ∈ S)
    (h_trk : Part.trk ∈ S) (h_qy : Part.qy ∈ S) (h_pins : Part.pins ∈ S) (h_dr : Part.dr ∈ S) (h_sys : Part.sys ∈ S) (h_cw : Part.cw ∈ S) (h_sl :
    Part.sl ∈ S) (h_hi : Part.hi ∈ S) (h_lg : Part.lg ∈ S) (h_sf : Part.sf ∈ S) (h_pn : Part.pn ∈ S) (h_me : Part.me ∈ S) (h_mo : Part.mo ∈ S) (h_lt
    : Part.lt ∈ S) (h_boot : Part.boot ∈ S) (h_vg : Part.vg ∈ S) (h_freeCtr : Part.ctr ∈ S) :
    Only S e0 (hqDiscardEff a d) := by
  unfold hqDiscardEff
  simp (maxDischargeDepth := 60) only [hO, h_regs, h_tb, h_axes, h_trk, h_qy, h_pins, h_dr, h_sys, h_cw, h_sl, h_hi, h_lg,
      h_sf, h_pn, h_me, h_mo, h_lt, h_boot, h_vg, h_freeCtr, only_refl, only_ite, only_foldl, implies_true, only_regs, only_tb, only_axes, only_trk,
      only_qy, only_pins, only_dr, only_sys, only_cw, only_sl, only_hi, only_lg, only_sf, only_pn, only_me, only_mo, only_lt, only_boot, only_vg,
      only_ctr, hostWriteAt_only]

theorem cqEnWriteEff_only (a : BarAcc) (d : Dev) (hO : Only S e0 d) (h_regs : ∀ b, Part.regs b ∈ S) (h_tb : Part.tb ∈ S) (h_axes : Part.axes ∈ S)
    (h_trk : Part.trk ∈ S) (h_qy : Part.qy ∈ S) (h_pins : Part.pins ∈ S) (h_dr : Part.dr ∈ S) (h_sys : Part.sys ∈ S) (h_cw : Part.cw ∈ S) (h_sl :
    Part.sl ∈ S) (h_hi : Part.hi ∈ S) (h_lg : Part.lg ∈ S) (h_sf : Part.sf ∈ S) (h_pn : Part.pn ∈ S) (h_me : Part.me ∈ S) (h_mo : Part.mo ∈ S) (h_lt
    : Part.lt ∈ S) (h_boot : Part.boot ∈ S) (h_vg : Part.vg ∈ S) (h_freeCtr : Part.ctr ∈ S) :
    Only S e0 (cqEnWriteEff a d) := by
  unfold cqEnWriteEff
  simp (maxDischargeDepth := 60) only [hO, h_regs, h_tb, h_axes, h_trk, h_qy, h_pins, h_dr, h_sys, h_cw, h_sl, h_hi, h_lg,
      h_sf, h_pn, h_me, h_mo, h_lt, h_boot, h_vg, h_freeCtr, only_refl, only_ite, only_foldl, implies_true, only_regs, only_tb, only_axes, only_trk,
      only_qy, only_pins, only_dr, only_sys, only_cw, only_sl, only_hi, only_lg, only_sf, only_pn, only_me, only_mo, only_lt, only_boot, only_vg,
      only_ctr, hostWriteAt_only]

theorem hiSlabWriteEff_only (a : BarAcc) (d : Dev) (hO : Only S e0 d) (h_regs : ∀ b, Part.regs b ∈ S) (h_tb : Part.tb ∈ S) (h_axes : Part.axes ∈ S)
    (h_trk : Part.trk ∈ S) (h_qy : Part.qy ∈ S) (h_pins : Part.pins ∈ S) (h_dr : Part.dr ∈ S) (h_sys : Part.sys ∈ S) (h_cw : Part.cw ∈ S) (h_sl :
    Part.sl ∈ S) (h_hi : Part.hi ∈ S) (h_lg : Part.lg ∈ S) (h_sf : Part.sf ∈ S) (h_pn : Part.pn ∈ S) (h_me : Part.me ∈ S) (h_mo : Part.mo ∈ S) (h_lt
    : Part.lt ∈ S) (h_boot : Part.boot ∈ S) (h_vg : Part.vg ∈ S) (h_freeCtr : Part.ctr ∈ S) :
    Only S e0 (hiSlabWriteEff a d) := by
  unfold hiSlabWriteEff
  simp (maxDischargeDepth := 60) only [hO, h_regs, h_tb, h_axes, h_trk, h_qy, h_pins, h_dr, h_sys, h_cw, h_sl, h_hi, h_lg,
      h_sf, h_pn, h_me, h_mo, h_lt, h_boot, h_vg, h_freeCtr, only_refl, only_ite, only_foldl, implies_true, only_regs, only_tb, only_axes, only_trk,
      only_qy, only_pins, only_dr, only_sys, only_cw, only_sl, only_hi, only_lg, only_sf, only_pn, only_me, only_mo, only_lt, only_boot, only_vg,
      only_ctr, hostWriteAt_only]

theorem bhOwnerWriteEff_only (a : BarAcc) (d : Dev) (hO : Only S e0 d) (h_regs : ∀ b, Part.regs b ∈ S) (h_tb : Part.tb ∈ S) (h_axes : Part.axes ∈ S)
    (h_trk : Part.trk ∈ S) (h_qy : Part.qy ∈ S) (h_pins : Part.pins ∈ S) (h_dr : Part.dr ∈ S) (h_sys : Part.sys ∈ S) (h_cw : Part.cw ∈ S) (h_sl :
    Part.sl ∈ S) (h_hi : Part.hi ∈ S) (h_lg : Part.lg ∈ S) (h_sf : Part.sf ∈ S) (h_pn : Part.pn ∈ S) (h_me : Part.me ∈ S) (h_mo : Part.mo ∈ S) (h_lt
    : Part.lt ∈ S) (h_boot : Part.boot ∈ S) (h_vg : Part.vg ∈ S) (h_freeCtr : Part.ctr ∈ S) :
    Only S e0 (bhOwnerWriteEff a d) := by
  unfold bhOwnerWriteEff
  simp (maxDischargeDepth := 60) only [hO, h_regs, h_tb, h_axes, h_trk, h_qy, h_pins, h_dr, h_sys, h_cw, h_sl, h_hi, h_lg,
      h_sf, h_pn, h_me, h_mo, h_lt, h_boot, h_vg, h_freeCtr, only_refl, only_ite, only_foldl, implies_true, only_regs, only_tb, only_axes, only_trk,
      only_qy, only_pins, only_dr, only_sys, only_cw, only_sl, only_hi, only_lg, only_sf, only_pn, only_me, only_mo, only_lt, only_boot, only_vg,
      only_ctr, hostWriteAt_only]

theorem relocWriteEff_only (a : BarAcc) (d : Dev) (hO : Only S e0 d) (h_regs : ∀ b, Part.regs b ∈ S) (h_tb : Part.tb ∈ S) (h_axes : Part.axes ∈ S)
    (h_trk : Part.trk ∈ S) (h_qy : Part.qy ∈ S) (h_pins : Part.pins ∈ S) (h_dr : Part.dr ∈ S) (h_sys : Part.sys ∈ S) (h_cw : Part.cw ∈ S) (h_sl :
    Part.sl ∈ S) (h_hi : Part.hi ∈ S) (h_lg : Part.lg ∈ S) (h_sf : Part.sf ∈ S) (h_pn : Part.pn ∈ S) (h_me : Part.me ∈ S) (h_mo : Part.mo ∈ S) (h_lt
    : Part.lt ∈ S) (h_boot : Part.boot ∈ S) (h_vg : Part.vg ∈ S) (h_freeCtr : Part.ctr ∈ S) :
    Only S e0 (relocWriteEff a d) := by
  unfold relocWriteEff
  simp (maxDischargeDepth := 60) only [hO, h_regs, h_tb, h_axes, h_trk, h_qy, h_pins, h_dr, h_sys, h_cw, h_sl, h_hi, h_lg,
      h_sf, h_pn, h_me, h_mo, h_lt, h_boot, h_vg, h_freeCtr, only_refl, only_ite, only_foldl, implies_true, only_regs, only_tb, only_axes, only_trk,
      only_qy, only_pins, only_dr, only_sys, only_cw, only_sl, only_hi, only_lg, only_sf, only_pn, only_me, only_mo, only_lt, only_boot, only_vg,
      only_ctr, hostWriteAt_only]

theorem cwPubWriteEff_only (a : BarAcc) (d : Dev) (hO : Only S e0 d) (h_regs : ∀ b, Part.regs b ∈ S) (h_tb : Part.tb ∈ S) (h_axes : Part.axes ∈ S)
    (h_trk : Part.trk ∈ S) (h_qy : Part.qy ∈ S) (h_pins : Part.pins ∈ S) (h_dr : Part.dr ∈ S) (h_sys : Part.sys ∈ S) (h_cw : Part.cw ∈ S) (h_sl :
    Part.sl ∈ S) (h_hi : Part.hi ∈ S) (h_lg : Part.lg ∈ S) (h_sf : Part.sf ∈ S) (h_pn : Part.pn ∈ S) (h_me : Part.me ∈ S) (h_mo : Part.mo ∈ S) (h_lt
    : Part.lt ∈ S) (h_boot : Part.boot ∈ S) (h_vg : Part.vg ∈ S) (h_freeCtr : Part.ctr ∈ S) :
    Only S e0 (cwPubWriteEff a d) := by
  unfold cwPubWriteEff
  simp (maxDischargeDepth := 60) only [hO, h_regs, h_tb, h_axes, h_trk, h_qy, h_pins, h_dr, h_sys, h_cw, h_sl, h_hi, h_lg,
      h_sf, h_pn, h_me, h_mo, h_lt, h_boot, h_vg, h_freeCtr, only_refl, only_ite, only_foldl, implies_true, only_regs, only_tb, only_axes, only_trk,
      only_qy, only_pins, only_dr, only_sys, only_cw, only_sl, only_hi, only_lg, only_sf, only_pn, only_me, only_mo, only_lt, only_boot, only_vg,
      only_ctr, hostWriteAt_only]

theorem hlLcfgWriteEff_only (a : BarAcc) (d : Dev) (hO : Only S e0 d) (h_regs : ∀ b, Part.regs b ∈ S) (h_tb : Part.tb ∈ S) (h_axes : Part.axes ∈ S)
    (h_trk : Part.trk ∈ S) (h_qy : Part.qy ∈ S) (h_pins : Part.pins ∈ S) (h_dr : Part.dr ∈ S) (h_sys : Part.sys ∈ S) (h_cw : Part.cw ∈ S) (h_sl :
    Part.sl ∈ S) (h_hi : Part.hi ∈ S) (h_lg : Part.lg ∈ S) (h_sf : Part.sf ∈ S) (h_pn : Part.pn ∈ S) (h_me : Part.me ∈ S) (h_mo : Part.mo ∈ S) (h_lt
    : Part.lt ∈ S) (h_boot : Part.boot ∈ S) (h_vg : Part.vg ∈ S) (h_freeCtr : Part.ctr ∈ S) :
    Only S e0 (hlLcfgWriteEff a d) := by
  unfold hlLcfgWriteEff
  simp (maxDischargeDepth := 60) only [hO, h_regs, h_tb, h_axes, h_trk, h_qy, h_pins, h_dr, h_sys, h_cw, h_sl, h_hi, h_lg,
      h_sf, h_pn, h_me, h_mo, h_lt, h_boot, h_vg, h_freeCtr, only_refl, only_ite, only_foldl, implies_true, only_regs, only_tb, only_axes, only_trk,
      only_qy, only_pins, only_dr, only_sys, only_cw, only_sl, only_hi, only_lg, only_sf, only_pn, only_me, only_mo, only_lt, only_boot, only_vg,
      only_ctr, hostWriteAt_only]

theorem loadAx0_only (d : Dev) (hO : Only S e0 d) (h_rsys : Part.regs .sys ∈ S) (h_rvg : Part.regs .vg ∈ S) (h_rax : Part.regs .ax ∈ S) (h_tb : Part.tb ∈ S) (h_sl : Part.sl ∈ S) (h_boot : Part.boot ∈ S)  :
    Only S e0 d.loadAx0 := by
  unfold Dev.loadAx0
  dsimp only
  have k := fun x y => only_tb_boot (x := x) (y := y) hO h_tb h_boot
  simp (maxDischargeDepth := 60) only [only_refl, only_ite, only_foldl, implies_true, only_tb, only_sl, only_boot, setFault_only, setFld_only, blk_AX0_STATUS_STATE, blk_SYS_FAULT_AX0_INVALID, blk_SYS_RSTCAUSE_CAUSE, blk_VG_CTRL_VDRIFT_PPB, blk_VG_OFF_T_OFF, blk_VG_OFF_UNC_OFF, blk_VG_STAT_VALID, *]

theorem romPrepare_only (d : Dev) (hO : Only S e0 d) (h_regs : ∀ b, Part.regs b ∈ S) (h_mem : Part.mem ∈ S) (h_dr : Part.dr ∈ S) (h_sl : Part.sl ∈ S) (h_lg : Part.lg ∈ S) (h_mo : Part.mo ∈ S) (h_boot : Part.boot ∈ S)  :
    Only S e0 d.romPrepare := by
  unfold Dev.romPrepare
  dsimp only
  have k0 : Only S e0 { d with mem := [], dr := {} } := by
    intro p hp
    have k := hO p hp
    cases p <;> first | exact absurd ‹_› hp | exact k
  simp (maxDischargeDepth := 60) only [only_refl, only_ite, only_foldl, implies_true, only_regs, only_mem, only_dr, only_sl, only_lg, only_mo, only_boot, applyMap_only, logScan_only, *]

theorem nextSource_only (d : Dev) (hO : Only S e0 d) (h_rsys : Part.regs .sys ∈ S) (h_boot : Part.boot ∈ S) :
    Only S e0 (Dev.nextSource d) := by
  unfold Dev.nextSource
  (try dsimp only)
  (repeat' split) <;> simp (maxDischargeDepth := 60) only [hO, h_rsys, h_boot, only_refl, only_ite,
      only_foldl, implies_true, only_boot, setFld_only, blk_SYS_BOOT_SOURCE, blk_SYS_BOOT_STAGE]

theorem romLocked_only (d : Dev) (hO : Only S e0 d) (h_rck : Part.regs .ck ∈ S) :
    Only S e0 (Dev.romLocked d) := by
  unfold Dev.romLocked
  simp (maxDischargeDepth := 60) only [hO, h_rck, only_refl, only_ite, only_foldl, implies_true, setFld_only,
      blk_CK_STAT_IN_OK, blk_CK_STAT_LOCKED]

theorem bootRomStartEff_only (d : Dev) (hO : Only S e0 d) (h_regs : ∀ b, Part.regs b ∈ S) (h_mem : Part.mem ∈ S) (h_tb : Part.tb ∈ S) (h_dr : Part.dr
    ∈ S) (h_sl : Part.sl ∈ S) (h_lg : Part.lg ∈ S) (h_mo : Part.mo ∈ S) (h_boot : Part.boot ∈ S) (h_freeCtr : Part.ctr ∈ S) :
    Only S e0
    (bootRomStartEff d) := by
  unfold bootRomStartEff
  simp (maxDischargeDepth := 60) only [hO, h_regs, h_mem, h_tb, h_dr, h_sl, h_lg, h_mo, h_boot, h_freeCtr, only_refl,
      only_ite, only_foldl, implies_true, only_regs, only_mem, only_tb, only_dr, only_sl, only_lg, only_mo, only_boot, only_ctr, loadAx0_only,
      nextFree_only, nextSource_only, romLocked_only, romPrepare_only, setFld_only, blk_SYS_BOOT_BOOTSEL]

theorem bootFail_only (d : Dev) (code op : Nat) (hO : Only S e0 d) (h_regs : ∀ b, Part.regs b ∈ S) (h_mem : Part.mem ∈ S) (h_tb : Part.tb ∈ S)
    (h_axes : Part.axes ∈ S) (h_trk : Part.trk ∈ S) (h_qy : Part.qy ∈ S) (h_pins : Part.pins ∈ S) (h_dr : Part.dr ∈ S) (h_sys : Part.sys ∈ S) (h_cw :
    Part.cw ∈ S) (h_sl : Part.sl ∈ S) (h_hi : Part.hi ∈ S) (h_lg : Part.lg ∈ S) (h_sf : Part.sf ∈ S) (h_pn : Part.pn ∈ S) (h_me : Part.me ∈ S) (h_mo
    : Part.mo ∈ S) (h_lt : Part.lt ∈ S) (h_boot : Part.boot ∈ S) :
    Only S e0 (Dev.bootFail d code op) := by
  unfold Dev.bootFail
  simp (maxDischargeDepth := 60) only [hO, h_regs, h_mem, h_tb, h_axes, h_trk, h_qy, h_pins, h_dr, h_sys, h_cw, h_sl, h_hi,
      h_lg, h_sf, h_pn, h_me, h_mo, h_lt, h_boot, only_refl, only_ite, only_foldl, implies_true, only_regs, only_mem, only_tb, only_axes, only_trk,
      only_qy, only_pins, only_dr, only_sys, only_cw, only_sl, only_hi, only_lg, only_sf, only_pn, only_me, only_mo, only_lt, only_boot,
      coreReset_only, nextSource_only, romLocked_only, romPrepare_only, setFld_only, blk_SYS_BOOT_BOOTSEL, blk_SYS_BOOT_ERR_OP,
      blk_SYS_BOOT_LAST_ERR, blk_SYS_BOOT_SOURCE, blk_SYS_RSTCAUSE_ATTEMPTS, blk_SYS_RSTCAUSE_CAUSE]

theorem bootReach_only (d : Dev) (hO : Only S e0 d) (h_regs : ∀ b, Part.regs b ∈ S) (h_mem : Part.mem ∈ S) (h_tb : Part.tb ∈ S) (h_axes : Part.axes ∈
    S) (h_trk : Part.trk ∈ S) (h_qy : Part.qy ∈ S) (h_pins : Part.pins ∈ S) (h_dr : Part.dr ∈ S) (h_sys : Part.sys ∈ S) (h_cw : Part.cw ∈ S) (h_sl :
    Part.sl ∈ S) (h_hi : Part.hi ∈ S) (h_lg : Part.lg ∈ S) (h_sf : Part.sf ∈ S) (h_pn : Part.pn ∈ S) (h_me : Part.me ∈ S) (h_mo : Part.mo ∈ S) (h_lt
    : Part.lt ∈ S) (h_boot : Part.boot ∈ S) :
    Only S e0 (Dev.bootReach d) := by
  unfold Dev.bootReach
  simp (maxDischargeDepth := 60) only [hO, h_regs, h_mem, h_tb, h_axes, h_trk, h_qy, h_pins, h_dr, h_sys, h_cw, h_sl, h_hi,
      h_lg, h_sf, h_pn, h_me, h_mo, h_lt, h_boot, only_refl, only_ite, only_foldl, implies_true, only_regs, only_mem, only_tb, only_axes, only_trk,
      only_qy, only_pins, only_dr, only_sys, only_cw, only_sl, only_hi, only_lg, only_sf, only_pn, only_me, only_mo, only_lt, only_boot,
      bootFail_only, blk_SYS_BOOT_STAGE]

theorem bootNext_only (d : Dev) (hO : Only S e0 d) (h_regs : ∀ b, Part.regs b ∈ S) (h_mem : Part.mem ∈ S) (h_tb : Part.tb ∈ S) (h_axes : Part.axes ∈
    S) (h_trk : Part.trk ∈ S) (h_qy : Part.qy ∈ S) (h_pins : Part.pins ∈ S) (h_dr : Part.dr ∈ S) (h_sys : Part.sys ∈ S) (h_cw : Part.cw ∈ S) (h_sl :
    Part.sl ∈ S) (h_hi : Part.hi ∈ S) (h_lg : Part.lg ∈ S) (h_sf : Part.sf ∈ S) (h_pn : Part.pn ∈ S) (h_me : Part.me ∈ S) (h_mo : Part.mo ∈ S) (h_lt
    : Part.lt ∈ S) (h_boot : Part.boot ∈ S) :
    Only S e0 (Dev.bootNext d) := by
  unfold Dev.bootNext
  simp (maxDischargeDepth := 60) only [hO, h_regs, h_mem, h_tb, h_axes, h_trk, h_qy, h_pins, h_dr, h_sys, h_cw, h_sl, h_hi,
      h_lg, h_sf, h_pn, h_me, h_mo, h_lt, h_boot, only_refl, only_ite, only_foldl, implies_true, only_regs, only_mem, only_tb, only_axes, only_trk,
      only_qy, only_pins, only_dr, only_sys, only_cw, only_sl, only_hi, only_lg, only_sf, only_pn, only_me, only_mo, only_lt, only_boot,
      bootReach_only, blk_SYS_BOOT_STAGE]

theorem bootError_only (d : Dev) (code : Nat) (hO : Only S e0 d) (h_regs : ∀ b, Part.regs b ∈ S) (h_mem : Part.mem ∈ S) (h_tb : Part.tb ∈ S) (h_axes
    : Part.axes ∈ S) (h_trk : Part.trk ∈ S) (h_qy : Part.qy ∈ S) (h_pins : Part.pins ∈ S) (h_dr : Part.dr ∈ S) (h_sys : Part.sys ∈ S) (h_cw : Part.cw
    ∈ S) (h_sl : Part.sl ∈ S) (h_hi : Part.hi ∈ S) (h_lg : Part.lg ∈ S) (h_sf : Part.sf ∈ S) (h_pn : Part.pn ∈ S) (h_me : Part.me ∈ S) (h_mo :
    Part.mo ∈ S) (h_lt : Part.lt ∈ S) (h_boot : Part.boot ∈ S) :
    Only S e0 (Dev.bootError d code) := by
  unfold Dev.bootError
  simp (maxDischargeDepth := 60) only [hO, h_regs, h_mem, h_tb, h_axes, h_trk, h_qy, h_pins, h_dr, h_sys, h_cw, h_sl, h_hi,
      h_lg, h_sf, h_pn, h_me, h_mo, h_lt, h_boot, only_refl, only_ite, only_foldl, implies_true, only_regs, only_mem, only_tb, only_axes, only_trk,
      only_qy, only_pins, only_dr, only_sys, only_cw, only_sl, only_hi, only_lg, only_sf, only_pn, only_me, only_mo, only_lt, only_boot,
      bootFail_only]

theorem bootFetchDoneEff_only (f : BootFetch) (d : Dev) (hO : Only S e0 d) (h_regs : ∀ b, Part.regs b ∈ S) (h_mem : Part.mem ∈ S) (h_tb : Part.tb ∈
    S) (h_axes : Part.axes ∈ S) (h_trk : Part.trk ∈ S) (h_qy : Part.qy ∈ S) (h_pins : Part.pins ∈ S) (h_dr : Part.dr ∈ S) (h_sys : Part.sys ∈ S)
    (h_cw : Part.cw ∈ S) (h_sl : Part.sl ∈ S) (h_hi : Part.hi ∈ S) (h_lg : Part.lg ∈ S) (h_sf : Part.sf ∈ S) (h_pn : Part.pn ∈ S) (h_me : Part.me ∈
    S) (h_mo : Part.mo ∈ S) (h_lt : Part.lt ∈ S) (h_boot : Part.boot ∈ S) :
    Only S e0 (bootFetchDoneEff f d) := by
  unfold bootFetchDoneEff
  (try dsimp only)
  (repeat' split) <;> simp (maxDischargeDepth := 60) only [hO, h_regs, h_mem, h_tb, h_axes, h_trk, h_qy,
      h_pins, h_dr, h_sys, h_cw, h_sl, h_hi, h_lg, h_sf, h_pn, h_me, h_mo, h_lt, h_boot, only_refl, only_ite, only_foldl, implies_true, only_regs,
      only_mem, only_tb, only_axes, only_trk, only_qy, only_pins, only_dr, only_sys, only_cw, only_sl, only_hi, only_lg, only_sf, only_pn, only_me,
      only_mo, only_lt, only_boot, bootFail_only, bootReach_only, count_only, setFld_only, blk_SYS_BOOT_STAGE, blk_SYS_RSTCAUSE_ATTEMPTS]

theorem bootWrite_only (d : Dev) (off size val : Nat) (hO : Only S e0 d) (h_regs : ∀ b, Part.regs b ∈ S) (h_mem : Part.mem ∈ S) (h_tb : Part.tb ∈ S)
    (h_axes : Part.axes ∈ S) (h_trk : Part.trk ∈ S) (h_qy : Part.qy ∈ S) (h_pins : Part.pins ∈ S) (h_dr : Part.dr ∈ S) (h_sys : Part.sys ∈ S) (h_cw :
    Part.cw ∈ S) (h_sl : Part.sl ∈ S) (h_hi : Part.hi ∈ S) (h_lg : Part.lg ∈ S) (h_sf : Part.sf ∈ S) (h_pn : Part.pn ∈ S) (h_me : Part.me ∈ S) (h_mo
    : Part.mo ∈ S) (h_lt : Part.lt ∈ S) (h_boot : Part.boot ∈ S) (h_vg : Part.vg ∈ S) (h_freeCtr : Part.ctr ∈ S) :
    Only S e0 (Dev.bootWrite d off
    size val) := by
  unfold Dev.bootWrite
  (try dsimp only)
  (repeat' split) <;> simp (maxDischargeDepth := 60) only [hO, h_regs, h_mem, h_tb, h_axes, h_trk, h_qy,
      h_pins, h_dr, h_sys, h_cw, h_sl, h_hi, h_lg, h_sf, h_pn, h_me, h_mo, h_lt, h_boot, h_vg, h_freeCtr, only_refl, only_ite, only_foldl,
      implies_true, only_regs, only_mem, only_tb, only_axes, only_trk, only_qy, only_pins, only_dr, only_sys, only_cw, only_sl, only_hi, only_lg,
      only_sf, only_pn, only_me, only_mo, only_lt, only_boot, only_vg, only_ctr, bootError_only, bootNext_only, writeBar_only]

theorem bootRead_only (d : Dev) (off : Nat) (hO : Only S e0 d) (h_regs : ∀ b, Part.regs b ∈ S) (h_freeCtr : Part.ctr ∈ S) :
    Only S e0
    (Dev.bootRead d off).2 := by
  unfold Dev.bootRead
  (try dsimp only)
  (repeat' split) <;> simp (maxDischargeDepth := 60) only [hO, h_regs, h_freeCtr, only_refl, only_ite,
      only_foldl, implies_true, only_regs, only_ctr, clearRc_only]

theorem bootWr32Eff_only (d : Dev) (hO : Only S e0 d) (h_regs : ∀ b, Part.regs b ∈ S) (h_mem : Part.mem ∈ S) (h_tb : Part.tb ∈ S) (h_axes : Part.axes
    ∈ S) (h_trk : Part.trk ∈ S) (h_qy : Part.qy ∈ S) (h_pins : Part.pins ∈ S) (h_dr : Part.dr ∈ S) (h_sys : Part.sys ∈ S) (h_cw : Part.cw ∈ S) (h_sl
    : Part.sl ∈ S) (h_hi : Part.hi ∈ S) (h_lg : Part.lg ∈ S) (h_sf : Part.sf ∈ S) (h_pn : Part.pn ∈ S) (h_me : Part.me ∈ S) (h_mo : Part.mo ∈ S)
    (h_lt : Part.lt ∈ S) (h_boot : Part.boot ∈ S) (h_vg : Part.vg ∈ S) (h_freeCtr : Part.ctr ∈ S) :
    Only S e0 (bootWr32Eff d) := by
  unfold bootWr32Eff
  simp (maxDischargeDepth := 60) only [hO, h_regs, h_mem, h_tb, h_axes, h_trk, h_qy, h_pins, h_dr, h_sys, h_cw, h_sl, h_hi,
      h_lg, h_sf, h_pn, h_me, h_mo, h_lt, h_boot, h_vg, h_freeCtr, only_refl, only_ite, only_foldl, implies_true, only_regs, only_mem, only_tb,
      only_axes, only_trk, only_qy, only_pins, only_dr, only_sys, only_cw, only_sl, only_hi, only_lg, only_sf, only_pn, only_me, only_mo, only_lt,
      only_boot, only_vg, only_ctr, bootWrite_only]

theorem bootWr64Eff_only (d : Dev) (hO : Only S e0 d) (h_regs : ∀ b, Part.regs b ∈ S) (h_mem : Part.mem ∈ S) (h_tb : Part.tb ∈ S) (h_axes : Part.axes
    ∈ S) (h_trk : Part.trk ∈ S) (h_qy : Part.qy ∈ S) (h_pins : Part.pins ∈ S) (h_dr : Part.dr ∈ S) (h_sys : Part.sys ∈ S) (h_cw : Part.cw ∈ S) (h_sl
    : Part.sl ∈ S) (h_hi : Part.hi ∈ S) (h_lg : Part.lg ∈ S) (h_sf : Part.sf ∈ S) (h_pn : Part.pn ∈ S) (h_me : Part.me ∈ S) (h_mo : Part.mo ∈ S)
    (h_lt : Part.lt ∈ S) (h_boot : Part.boot ∈ S) (h_vg : Part.vg ∈ S) (h_freeCtr : Part.ctr ∈ S) :
    Only S e0 (bootWr64Eff d) := by
  unfold bootWr64Eff
  simp (maxDischargeDepth := 60) only [hO, h_regs, h_mem, h_tb, h_axes, h_trk, h_qy, h_pins, h_dr, h_sys, h_cw, h_sl, h_hi,
      h_lg, h_sf, h_pn, h_me, h_mo, h_lt, h_boot, h_vg, h_freeCtr, only_refl, only_ite, only_foldl, implies_true, only_regs, only_mem, only_tb,
      only_axes, only_trk, only_qy, only_pins, only_dr, only_sys, only_cw, only_sl, only_hi, only_lg, only_sf, only_pn, only_me, only_mo, only_lt,
      only_boot, only_vg, only_ctr, bootWrite_only]

theorem bootRmw32Eff_only (d : Dev) (hO : Only S e0 d) (h_regs : ∀ b, Part.regs b ∈ S) (h_mem : Part.mem ∈ S) (h_tb : Part.tb ∈ S) (h_axes :
    Part.axes ∈ S) (h_trk : Part.trk ∈ S) (h_qy : Part.qy ∈ S) (h_pins : Part.pins ∈ S) (h_dr : Part.dr ∈ S) (h_sys : Part.sys ∈ S) (h_cw : Part.cw ∈
    S) (h_sl : Part.sl ∈ S) (h_hi : Part.hi ∈ S) (h_lg : Part.lg ∈ S) (h_sf : Part.sf ∈ S) (h_pn : Part.pn ∈ S) (h_me : Part.me ∈ S) (h_mo : Part.mo
    ∈ S) (h_lt : Part.lt ∈ S) (h_boot : Part.boot ∈ S) (h_vg : Part.vg ∈ S) (h_freeCtr : Part.ctr ∈ S) :
    Only S e0 (bootRmw32Eff d) := by
  unfold bootRmw32Eff
  simp (maxDischargeDepth := 60) only [hO, h_regs, h_mem, h_tb, h_axes, h_trk, h_qy, h_pins, h_dr, h_sys, h_cw, h_sl, h_hi,
      h_lg, h_sf, h_pn, h_me, h_mo, h_lt, h_boot, h_vg, h_freeCtr, only_refl, only_ite, only_foldl, implies_true, only_regs, only_mem, only_tb,
      only_axes, only_trk, only_qy, only_pins, only_dr, only_sys, only_cw, only_sl, only_hi, only_lg, only_sf, only_pn, only_me, only_mo, only_lt,
      only_boot, only_vg, only_ctr, bootRead_only, bootWrite_only]

theorem bootPoll32Eff_only (d : Dev) (hO : Only S e0 d) (h_regs : ∀ b, Part.regs b ∈ S) (h_mem : Part.mem ∈ S) (h_tb : Part.tb ∈ S) (h_axes :
    Part.axes ∈ S) (h_trk : Part.trk ∈ S) (h_qy : Part.qy ∈ S) (h_pins : Part.pins ∈ S) (h_dr : Part.dr ∈ S) (h_sys : Part.sys ∈ S) (h_cw : Part.cw ∈
    S) (h_sl : Part.sl ∈ S) (h_hi : Part.hi ∈ S) (h_lg : Part.lg ∈ S) (h_sf : Part.sf ∈ S) (h_pn : Part.pn ∈ S) (h_me : Part.me ∈ S) (h_mo : Part.mo
    ∈ S) (h_lt : Part.lt ∈ S) (h_boot : Part.boot ∈ S) (h_freeCtr : Part.ctr ∈ S) :
    Only S e0 (bootPoll32Eff d) := by
  unfold bootPoll32Eff
  simp (maxDischargeDepth := 60) only [hO, h_regs, h_mem, h_tb, h_axes, h_trk, h_qy, h_pins, h_dr, h_sys, h_cw, h_sl, h_hi,
      h_lg, h_sf, h_pn, h_me, h_mo, h_lt, h_boot, h_freeCtr, only_refl, only_ite, only_foldl, implies_true, only_regs, only_mem, only_tb, only_axes,
      only_trk, only_qy, only_pins, only_dr, only_sys, only_cw, only_sl, only_hi, only_lg, only_sf, only_pn, only_me, only_mo, only_lt, only_boot,
      only_ctr, bootNext_only, bootRead_only, blk_SYS_BOOT_STAGE]

theorem bootPollTimeoutEff_only (d : Dev) (hO : Only S e0 d) (h_regs : ∀ b, Part.regs b ∈ S) (h_mem : Part.mem ∈ S) (h_tb : Part.tb ∈ S) (h_axes :
    Part.axes ∈ S) (h_trk : Part.trk ∈ S) (h_qy : Part.qy ∈ S) (h_pins : Part.pins ∈ S) (h_dr : Part.dr ∈ S) (h_sys : Part.sys ∈ S) (h_cw : Part.cw ∈
    S) (h_sl : Part.sl ∈ S) (h_hi : Part.hi ∈ S) (h_lg : Part.lg ∈ S) (h_sf : Part.sf ∈ S) (h_pn : Part.pn ∈ S) (h_me : Part.me ∈ S) (h_mo : Part.mo
    ∈ S) (h_lt : Part.lt ∈ S) (h_boot : Part.boot ∈ S) :
    Only S e0 (bootPollTimeoutEff d) := by
  unfold bootPollTimeoutEff
  (try dsimp only)
  (repeat' split) <;> simp (maxDischargeDepth := 60) only [hO, h_regs, h_mem, h_tb, h_axes, h_trk,
      h_qy, h_pins, h_dr, h_sys, h_cw, h_sl, h_hi, h_lg, h_sf, h_pn, h_me, h_mo, h_lt, h_boot, only_refl, only_ite, only_foldl, implies_true,
      only_regs, only_mem, only_tb, only_axes, only_trk, only_qy, only_pins, only_dr, only_sys, only_cw, only_sl, only_hi, only_lg, only_sf, only_pn,
      only_me, only_mo, only_lt, only_boot, bootError_only, blk_SYS_BOOT_STAGE]

theorem bootDelayEff_only (d : Dev) (hO : Only S e0 d) (h_boot : Part.boot ∈ S) :
    Only S e0 (bootDelayEff d) := by
  unfold bootDelayEff
  simp (maxDischargeDepth := 60) only [hO, h_boot, only_refl, only_ite, only_foldl, implies_true, only_boot]

theorem bootDelayEndEff_only (d : Dev) (hO : Only S e0 d) (h_regs : ∀ b, Part.regs b ∈ S) (h_mem : Part.mem ∈ S) (h_tb : Part.tb ∈ S) (h_axes :
    Part.axes ∈ S) (h_trk : Part.trk ∈ S) (h_qy : Part.qy ∈ S) (h_pins : Part.pins ∈ S) (h_dr : Part.dr ∈ S) (h_sys : Part.sys ∈ S) (h_cw : Part.cw ∈
    S) (h_sl : Part.sl ∈ S) (h_hi : Part.hi ∈ S) (h_lg : Part.lg ∈ S) (h_sf : Part.sf ∈ S) (h_pn : Part.pn ∈ S) (h_me : Part.me ∈ S) (h_mo : Part.mo
    ∈ S) (h_lt : Part.lt ∈ S) (h_boot : Part.boot ∈ S) :
    Only S e0 (bootDelayEndEff d) := by
  unfold bootDelayEndEff
  (try dsimp only)
  (repeat' split) <;> simp (maxDischargeDepth := 60) only [hO, h_regs, h_mem, h_tb, h_axes, h_trk, h_qy,
      h_pins, h_dr, h_sys, h_cw, h_sl, h_hi, h_lg, h_sf, h_pn, h_me, h_mo, h_lt, h_boot, only_refl, only_ite, only_foldl, implies_true, only_regs,
      only_mem, only_tb, only_axes, only_trk, only_qy, only_pins, only_dr, only_sys, only_cw, only_sl, only_hi, only_lg, only_sf, only_pn, only_me,
      only_mo, only_lt, only_boot, bootNext_only, blk_SYS_BOOT_STAGE]

theorem hmkeyEff_only (d : Dev) (hO : Only S e0 d) (h_regs : ∀ b, Part.regs b ∈ S) (h_mem : Part.mem ∈ S) (h_tb : Part.tb ∈ S) (h_axes : Part.axes ∈
    S) (h_trk : Part.trk ∈ S) (h_qy : Part.qy ∈ S) (h_pins : Part.pins ∈ S) (h_dr : Part.dr ∈ S) (h_sys : Part.sys ∈ S) (h_cw : Part.cw ∈ S) (h_sl :
    Part.sl ∈ S) (h_hi : Part.hi ∈ S) (h_lg : Part.lg ∈ S) (h_sf : Part.sf ∈ S) (h_pn : Part.pn ∈ S) (h_me : Part.me ∈ S) (h_mo : Part.mo ∈ S) (h_lt
    : Part.lt ∈ S) (h_boot : Part.boot ∈ S) :
    Only S e0 (hmkeyEff d) := by
  unfold hmkeyEff
  simp (maxDischargeDepth := 60) only [hO, h_regs, h_mem, h_tb, h_axes, h_trk, h_qy, h_pins, h_dr, h_sys, h_cw, h_sl, h_hi, h_lg,
      h_sf, h_pn, h_me, h_mo, h_lt, h_boot, only_refl, only_ite, only_foldl, implies_true, only_regs, only_mem, only_tb, only_axes, only_trk,
      only_qy, only_pins, only_dr, only_sys, only_cw, only_sl, only_hi, only_lg, only_sf, only_pn, only_me, only_mo, only_lt, only_boot,
      bootNext_only, setBit_only, setFld_only, blk_HM_KEY_KEY, blk_HM_STATUS_KEYS_SET]

theorem logkeyEff_only (d : Dev) (hO : Only S e0 d) (h_regs : ∀ b, Part.regs b ∈ S) (h_mem : Part.mem ∈ S) (h_tb : Part.tb ∈ S) (h_axes : Part.axes ∈
    S) (h_trk : Part.trk ∈ S) (h_qy : Part.qy ∈ S) (h_pins : Part.pins ∈ S) (h_dr : Part.dr ∈ S) (h_sys : Part.sys ∈ S) (h_cw : Part.cw ∈ S) (h_sl :
    Part.sl ∈ S) (h_hi : Part.hi ∈ S) (h_lg : Part.lg ∈ S) (h_sf : Part.sf ∈ S) (h_pn : Part.pn ∈ S) (h_me : Part.me ∈ S) (h_mo : Part.mo ∈ S) (h_lt
    : Part.lt ∈ S) (h_boot : Part.boot ∈ S) :
    Only S e0 (logkeyEff d) := by
  unfold logkeyEff
  simp (maxDischargeDepth := 60) only [hO, h_regs, h_mem, h_tb, h_axes, h_trk, h_qy, h_pins, h_dr, h_sys, h_cw, h_sl, h_hi, h_lg,
      h_sf, h_pn, h_me, h_mo, h_lt, h_boot, only_refl, only_ite, only_foldl, implies_true, only_regs, only_mem, only_tb, only_axes, only_trk,
      only_qy, only_pins, only_dr, only_sys, only_cw, only_sl, only_hi, only_lg, only_sf, only_pn, only_me, only_mo, only_lt, only_boot,
      bootNext_only, setFld_only, blk_HM_STATUS_LOGKEY_SET]

theorem bootMeImageEff_only (d : Dev) (hO : Only S e0 d) (h_regs : ∀ b, Part.regs b ∈ S) (h_mem : Part.mem ∈ S) (h_tb : Part.tb ∈ S) (h_axes :
    Part.axes ∈ S) (h_trk : Part.trk ∈ S) (h_qy : Part.qy ∈ S) (h_pins : Part.pins ∈ S) (h_dr : Part.dr ∈ S) (h_sys : Part.sys ∈ S) (h_cw : Part.cw ∈
    S) (h_sl : Part.sl ∈ S) (h_hi : Part.hi ∈ S) (h_lg : Part.lg ∈ S) (h_sf : Part.sf ∈ S) (h_pn : Part.pn ∈ S) (h_me : Part.me ∈ S) (h_mo : Part.mo
    ∈ S) (h_lt : Part.lt ∈ S) (h_boot : Part.boot ∈ S) :
    Only S e0 (bootMeImageEff d) := by
  unfold bootMeImageEff
  simp (maxDischargeDepth := 60) only [hO, h_regs, h_mem, h_tb, h_axes, h_trk, h_qy, h_pins, h_dr, h_sys, h_cw, h_sl, h_hi,
      h_lg, h_sf, h_pn, h_me, h_mo, h_lt, h_boot, only_refl, only_ite, only_foldl, implies_true, only_regs, only_mem, only_tb, only_axes, only_trk,
      only_qy, only_pins, only_dr, only_sys, only_cw, only_sl, only_hi, only_lg, only_sf, only_pn, only_me, only_mo, only_lt, only_boot,
      bootError_only, bootNext_only, setFld_only, writeImage_only, blk_HM_KEY_KEY, blk_ME_IMAGE_LSTATE]

theorem pnProgEff_only (d : Dev) (hO : Only S e0 d) (h_regs : ∀ b, Part.regs b ∈ S) (h_mem : Part.mem ∈ S) (h_tb : Part.tb ∈ S) (h_axes : Part.axes ∈
    S) (h_trk : Part.trk ∈ S) (h_qy : Part.qy ∈ S) (h_pins : Part.pins ∈ S) (h_dr : Part.dr ∈ S) (h_sys : Part.sys ∈ S) (h_cw : Part.cw ∈ S) (h_sl :
    Part.sl ∈ S) (h_hi : Part.hi ∈ S) (h_lg : Part.lg ∈ S) (h_sf : Part.sf ∈ S) (h_pn : Part.pn ∈ S) (h_me : Part.me ∈ S) (h_mo : Part.mo ∈ S) (h_lt
    : Part.lt ∈ S) (h_boot : Part.boot ∈ S) :
    Only S e0 (pnProgEff d) := by
  unfold pnProgEff
  simp (maxDischargeDepth := 60) only [hO, h_regs, h_mem, h_tb, h_axes, h_trk, h_qy, h_pins, h_dr, h_sys, h_cw, h_sl, h_hi, h_lg,
      h_sf, h_pn, h_me, h_mo, h_lt, h_boot, only_refl, only_ite, only_foldl, implies_true, only_regs, only_mem, only_tb, only_axes, only_trk,
      only_qy, only_pins, only_dr, only_sys, only_cw, only_sl, only_hi, only_lg, only_sf, only_pn, only_me, only_mo, only_lt, only_boot,
      bootError_only, bootNext_only]

theorem fuseEff_only (d : Dev) (hO : Only S e0 d) (h_regs : ∀ b, Part.regs b ∈ S) (h_mem : Part.mem ∈ S) (h_tb : Part.tb ∈ S) (h_axes : Part.axes ∈
    S) (h_trk : Part.trk ∈ S) (h_qy : Part.qy ∈ S) (h_pins : Part.pins ∈ S) (h_dr : Part.dr ∈ S) (h_sys : Part.sys ∈ S) (h_cw : Part.cw ∈ S) (h_sl :
    Part.sl ∈ S) (h_hi : Part.hi ∈ S) (h_lg : Part.lg ∈ S) (h_sf : Part.sf ∈ S) (h_pn : Part.pn ∈ S) (h_me : Part.me ∈ S) (h_mo : Part.mo ∈ S) (h_lt
    : Part.lt ∈ S) (h_fuse : Part.fuse ∈ S) (h_boot : Part.boot ∈ S) :
    Only S e0 (fuseEff d) := by
  unfold fuseEff
  simp (maxDischargeDepth := 60) only [hO, h_regs, h_mem, h_tb, h_axes, h_trk, h_qy, h_pins, h_dr, h_sys, h_cw, h_sl, h_hi, h_lg,
      h_sf, h_pn, h_me, h_mo, h_lt, h_fuse, h_boot, only_refl, only_ite, only_foldl, implies_true, only_regs, only_mem, only_tb, only_axes, only_trk,
      only_qy, only_pins, only_dr, only_sys, only_cw, only_sl, only_hi, only_lg, only_sf, only_pn, only_me, only_mo, only_lt, only_fuse, only_boot,
      bootError_only, bootNext_only]

theorem sealEff_only (d : Dev) (hO : Only S e0 d) (h_rsys : Part.regs .sys ∈ S) (h_rhm : Part.regs .hm ∈ S) (h_rhi : Part.regs .hi ∈ S) (h_rsl :
    Part.regs .sl ∈ S) (h_rme : Part.regs .me ∈ S) (h_rpn : Part.regs .pn ∈ S) (h_rcw : Part.regs .cw ∈ S) (h_rhl : Part.regs .hl ∈ S) (h_dr :
    Part.dr ∈ S) (h_sl : Part.sl ∈ S) (h_hi : Part.hi ∈ S) (h_lg : Part.lg ∈ S) (h_pn : Part.pn ∈ S) (h_me : Part.me ∈ S) (h_mo : Part.mo ∈ S)
    (h_boot : Part.boot ∈ S) :
    Only S e0 (sealEff d) := by
  unfold sealEff
  simp (maxDischargeDepth := 60) only [hO, h_rsys, h_rhm, h_rhi, h_rsl, h_rme, h_rpn, h_rcw, h_rhl, h_dr, h_sl, h_hi, h_lg, h_pn,
      h_me, h_mo, h_boot, only_refl, only_ite, only_foldl, implies_true, only_dr, only_sl, only_hi, only_lg, only_pn, only_me, only_mo, only_boot,
      logPowerup_only, meStart_only, raiseMode_only, resumeLock_only, setFld_only, shadowLoad_only, warmStale_only, blk_CW_TLOCAL_DIGEST,
      blk_HM_SEAL_SEAL, blk_SYS_BOOT_STAGE, blk_SYS_MODE_CAUSE, blk_SYS_MODE_MODE]

end Sys2Proof.Machine
end

