-- ==== Sys2Proof/Laws/FrameLink.lean ====
section
/-! SUPPORT. Which parts of the state the operations of Machine/Rings, Link, Jtag, Scan, Tick may change. -/

namespace Sys2Proof.Machine

open Sys2Proof

set_option linter.unusedSimpArgs false
set_option linter.unusedVariables false
set_option linter.unusedTactic false
set_option linter.unreachableTactic false

variable {S : List Part} {e0 : Dev}

theorem endCmd_only (d : Dev) (c : Cmd) (status : Nat) (b : List (Nat × Nat × Nat) := []) (hO : Only S e0 d) (h_rhi : Part.regs .hi ∈ S) (h_rsl :
    Part.regs .sl ∈ S) (h_sl : Part.sl ∈ S) (h_hi : Part.hi ∈ S) (h_lg : Part.lg ∈ S) :
    Only S e0 (Dev.endCmd d c status b) := by
  unfold Dev.endCmd
  simp (maxDischargeDepth := 60) only [hO, h_rhi, h_rsl, h_sl, h_hi, h_lg, only_refl, only_ite, only_foldl, implies_true,
      only_sl, only_hi, only_lg, finishAt_only]

theorem writeResult_only (d : Dev) (c : Cmd) (v : Nat) (hO : Only S e0 d) (h_rbh : Part.regs .bh ∈ S) (h_mem : Part.mem ∈ S) (h_dr : Part.dr ∈ S)
    (h_hi : Part.hi ∈ S) :
    Only S e0 (Dev.writeResult d c v).2 := by
  unfold Dev.writeResult
  (try dsimp only)
  (repeat' split) <;> simp (maxDischargeDepth := 60) only [hO, h_rbh, h_mem, h_dr, h_hi, only_refl,
      only_ite, only_foldl, implies_true, only_mem, only_dr, only_hi, portWrite_only, post_only, startReturn_only]

theorem armCmd_only (d : Dev) (c : Cmd) (hO : Only S e0 d) (h_rsys : Part.regs .sys ∈ S) (h_rhi : Part.regs .hi ∈ S) (h_rsl : Part.regs .sl ∈ S)
    (h_rqy : Part.regs .qy ∈ S) (h_qy : Part.qy ∈ S) (h_pins : Part.pins ∈ S) (h_sl : Part.sl ∈ S) (h_hi : Part.hi ∈ S) (h_lg : Part.lg ∈ S) (h_pn :
    Part.pn ∈ S) :
    Only S e0 (Dev.armCmd d c) := by
  unfold Dev.armCmd
  simp (maxDischargeDepth := 60) only [hO, h_rsys, h_rhi, h_rsl, h_rqy, h_qy, h_pins, h_sl, h_hi, h_lg, h_pn, only_refl,
      only_ite, only_foldl, implies_true, only_qy, only_pins, only_sl, only_hi, only_lg, only_pn, arm_only, endCmd_only, finishAt_only]

theorem updateCmd_only (d : Dev) (c : Cmd) (hO : Only S e0 d) (h_rhi : Part.regs .hi ∈ S) (h_rsl : Part.regs .sl ∈ S) (h_qy : Part.qy ∈ S) (h_sl :
    Part.sl ∈ S) (h_hi : Part.hi ∈ S) (h_lg : Part.lg ∈ S) :
    Only S e0 (Dev.updateCmd d c) := by
  unfold Dev.updateCmd
  simp (maxDischargeDepth := 60) only [hO, h_rhi, h_rsl, h_qy, h_sl, h_hi, h_lg, only_refl, only_ite, only_foldl,
      implies_true, only_qy, only_sl, only_hi, only_lg, endCmd_only, finishAt_only, update_only]

theorem disarmCmd_only (d : Dev) (c : Cmd) (hO : Only S e0 d) (h_rhi : Part.regs .hi ∈ S) (h_rsl : Part.regs .sl ∈ S) (h_rqy : Part.regs .qy ∈ S)
    (h_qy : Part.qy ∈ S) (h_pins : Part.pins ∈ S) (h_sl : Part.sl ∈ S) (h_hi : Part.hi ∈ S) (h_lg : Part.lg ∈ S) (h_pn : Part.pn ∈ S) :
    Only S e0
    (Dev.disarmCmd d c) := by
  unfold Dev.disarmCmd
  simp (maxDischargeDepth := 60) only [hO, h_rhi, h_rsl, h_rqy, h_qy, h_pins, h_sl, h_hi, h_lg, h_pn, only_refl, only_ite,
      only_foldl, implies_true, only_qy, only_pins, only_sl, only_hi, only_lg, only_pn, disarmAny_only, disarmDone_only, setChan_only]

theorem readStateCmd_only (d : Dev) (c : Cmd) (hO : Only S e0 d) (h_rhi : Part.regs .hi ∈ S) (h_rsl : Part.regs .sl ∈ S) (h_rbh : Part.regs .bh ∈ S)
    (h_mem : Part.mem ∈ S) (h_dr : Part.dr ∈ S) (h_sl : Part.sl ∈ S) (h_hi : Part.hi ∈ S) (h_lg : Part.lg ∈ S) :
    Only S e0 (Dev.readStateCmd d c) := by
  unfold Dev.readStateCmd
  (try dsimp only)
  (repeat' split) <;> simp (maxDischargeDepth := 60) only [hO, h_rhi, h_rsl, h_rbh, h_mem, h_dr, h_sl,
      h_hi, h_lg, only_refl, only_ite, only_foldl, implies_true, only_mem, only_dr, only_sl, only_hi, only_lg, endCmd_only, writeResult_only]

theorem setAxisCmd_only (d : Dev) (c : Cmd) (hO : Only S e0 d) (h_rhi : Part.regs .hi ∈ S) (h_rsl : Part.regs .sl ∈ S) (h_axes : Part.axes ∈ S) (h_sl
    : Part.sl ∈ S) (h_hi : Part.hi ∈ S) (h_lg : Part.lg ∈ S) :
    Only S e0 (Dev.setAxisCmd d c) := by
  unfold Dev.setAxisCmd
  (try dsimp only)
  (repeat' split) <;> simp (maxDischargeDepth := 60) only [hO, h_rhi, h_rsl, h_axes, h_sl, h_hi, h_lg,
      only_refl, only_ite, only_foldl, implies_true, only_axes, only_sl, only_hi, only_lg, finish_only, setAxis_only]

theorem disciplineCmd_only (d : Dev) (c : Cmd) (hO : Only S e0 d) (h_rhi : Part.regs .hi ∈ S) (h_rax : Part.regs .ax ∈ S) (h_rsl : Part.regs .sl ∈ S)
    (h_tb : Part.tb ∈ S) (h_sl : Part.sl ∈ S) (h_hi : Part.hi ∈ S) (h_lg : Part.lg ∈ S) :
    Only S e0 (Dev.disciplineCmd d c) := by
  unfold Dev.disciplineCmd
  simp (maxDischargeDepth := 60) only [hO, h_rhi, h_rax, h_rsl, h_tb, h_sl, h_hi, h_lg, only_refl, only_ite, only_foldl,
      implies_true, only_tb, only_sl, only_hi, only_lg, discipline_only, finish_only, blk_AX0_STATUS_STEP_COUNT]

theorem stepTimeCmd_only (d : Dev) (c : Cmd) (hO : Only S e0 d) (h_rhi : Part.regs .hi ∈ S) (h_rsl : Part.regs .sl ∈ S) (h_rhl : Part.regs .hl ∈ S)
    (h_sl : Part.sl ∈ S) (h_hi : Part.hi ∈ S) (h_lg : Part.lg ∈ S) :
    Only S e0 (Dev.stepTimeCmd d c) := by
  unfold Dev.stepTimeCmd
  simp (maxDischargeDepth := 60) only [hO, h_rhi, h_rsl, h_rhl, h_sl, h_hi, h_lg, only_refl, only_ite, only_foldl,
      implies_true, only_sl, only_hi, only_lg, finish_only, stepAccept_only, blk_SYS_MODE_STEPPED]

theorem substituteCmd_only (d : Dev) (c : Cmd) (hO : Only S e0 d) (h_rhi : Part.regs .hi ∈ S) (h_rsl : Part.regs .sl ∈ S) (h_rqy : Part.regs .qy ∈ S)
    (h_qy : Part.qy ∈ S) (h_sl : Part.sl ∈ S) (h_hi : Part.hi ∈ S) (h_lg : Part.lg ∈ S) :
    Only S e0 (Dev.substituteCmd d c) := by
  unfold Dev.substituteCmd
  simp (maxDischargeDepth := 60) only [hO, h_rhi, h_rsl, h_rqy, h_qy, h_sl, h_hi, h_lg, only_refl, only_ite, only_foldl,
      implies_true, only_qy, only_sl, only_hi, only_lg, finish_only, subStart_only]

theorem swapGot_only (d : Dev) (c : Cmd) (data : Option (List Byte)) (hO : Only S e0 d) (h_rhm : Part.regs .hm ∈ S) (h_rhi : Part.regs .hi ∈ S)
    (h_rsl : Part.regs .sl ∈ S) (h_rpn : Part.regs .pn ∈ S) (h_sl : Part.sl ∈ S) (h_hi : Part.hi ∈ S) (h_lg : Part.lg ∈ S) (h_pn : Part.pn ∈ S) :
    Only S e0 (Dev.swapGot d c data) := by
  unfold Dev.swapGot
  (try dsimp only)
  (repeat' split) <;> simp (maxDischargeDepth := 60) only [hO, h_rhm, h_rhi, h_rsl, h_rpn, h_sl, h_hi, h_lg,
      h_pn, only_refl, only_ite, only_foldl, implies_true, only_sl, only_hi, only_lg, only_pn, deny_only, finish_only, shadowLoad_only]

theorem swapCmd_only (d : Dev) (c : Cmd) (hO : Only S e0 d) (h_rsys : Part.regs .sys ∈ S) (h_rhm : Part.regs .hm ∈ S) (h_rhi : Part.regs .hi ∈ S)
    (h_rsl : Part.regs .sl ∈ S) (h_rpn : Part.regs .pn ∈ S) (h_rbh : Part.regs .bh ∈ S) (h_rdr : Part.regs .dr ∈ S) (h_dr : Part.dr ∈ S) (h_sl :
    Part.sl ∈ S) (h_hi : Part.hi ∈ S) (h_lg : Part.lg ∈ S) (h_pn : Part.pn ∈ S) :
    Only S e0 (Dev.swapCmd d c) := by
  unfold Dev.swapCmd
  (try dsimp only)
  (repeat' split) <;> simp (maxDischargeDepth := 60) only [hO, h_rsys, h_rhm, h_rhi, h_rsl, h_rpn, h_rbh,
      h_rdr, h_dr, h_sl, h_hi, h_lg, h_pn, only_refl, only_ite, only_foldl, implies_true, only_dr, only_sl, only_hi, only_lg, only_pn, bodyRead_only,
      swapGot_only]

theorem challengeCmd_only (d : Dev) (c : Cmd) (hO : Only S e0 d) (h_rhi : Part.regs .hi ∈ S) (h_rsl : Part.regs .sl ∈ S) (h_rbh : Part.regs .bh ∈ S)
    (h_rhl : Part.regs .hl ∈ S) (h_mem : Part.mem ∈ S) (h_dr : Part.dr ∈ S) (h_sl : Part.sl ∈ S) (h_hi : Part.hi ∈ S) (h_lg : Part.lg ∈ S) (h_freeCtr
    : Part.ctr ∈ S) :
    Only S e0 (Dev.challengeCmd d c) := by
  unfold Dev.challengeCmd
  (try dsimp only)
  (repeat' split) <;> simp (maxDischargeDepth := 60) only [hO, h_rhi, h_rsl, h_rbh, h_rhl, h_mem, h_dr,
      h_sl, h_hi, h_lg, h_freeCtr, only_refl, only_ite, only_foldl, implies_true, only_mem, only_dr, only_sl, only_hi, only_lg, only_ctr,
      challengeFor_only, finish_only, writeResult_only]

theorem tallyCmd_only (d : Dev) (c : Cmd) (hO : Only S e0 d) (h_rhi : Part.regs .hi ∈ S) (h_rsl : Part.regs .sl ∈ S) (h_cw : Part.cw ∈ S) (h_sl :
    Part.sl ∈ S) (h_hi : Part.hi ∈ S) (h_lg : Part.lg ∈ S) :
    Only S e0 (Dev.tallyCmd d c) := by
  unfold Dev.tallyCmd
  simp (maxDischargeDepth := 60) only [hO, h_rhi, h_rsl, h_cw, h_sl, h_hi, h_lg, only_refl, only_ite, only_foldl, implies_true,
      only_cw, only_sl, only_hi, only_lg, finish_only]

theorem vigilCmd_only (d : Dev) (c : Cmd) (hO : Only S e0 d) (h_rhi : Part.regs .hi ∈ S) (h_rsl : Part.regs .sl ∈ S) (h_sl : Part.sl ∈ S) (h_hi :
    Part.hi ∈ S) (h_lg : Part.lg ∈ S) :
    Only S e0 (Dev.vigilCmd d c) := by
  unfold Dev.vigilCmd
  simp (maxDischargeDepth := 60) only [hO, h_rhi, h_rsl, h_sl, h_hi, h_lg, only_refl, only_ite, only_foldl, implies_true,
      only_sl, only_hi, only_lg, finish_only]

theorem awaitSlot_only (d : Dev) (c : Cmd) (hO : Only S e0 d) (h_qy : Part.qy ∈ S) :
    Only S e0 (Dev.awaitSlot d c) := by
  unfold Dev.awaitSlot
  simp (maxDischargeDepth := 60) only [hO, h_qy, only_refl, only_ite, only_foldl, implies_true, only_qy, setChan_only]

theorem runCmd_only (d : Dev) (c : Cmd) (hO : Only S e0 d) (h_rsys : Part.regs .sys ∈ S) (h_rhm : Part.regs .hm ∈ S) (h_rhi : Part.regs .hi ∈ S)
    (h_rax : Part.regs .ax ∈ S) (h_rsl : Part.regs .sl ∈ S) (h_rqy : Part.regs .qy ∈ S) (h_rme : Part.regs .me ∈ S) (h_rpn : Part.regs .pn ∈ S)
    (h_rlt : Part.regs .lt ∈ S) (h_rbh : Part.regs .bh ∈ S) (h_rhl : Part.regs .hl ∈ S) (h_rdr : Part.regs .dr ∈ S) (h_mem : Part.mem ∈ S) (h_tb :
    Part.tb ∈ S) (h_axes : Part.axes ∈ S) (h_qy : Part.qy ∈ S) (h_dr : Part.dr ∈ S) (h_cw : Part.cw ∈ S) (h_sl : Part.sl ∈ S) (h_hi : Part.hi ∈ S)
    (h_lg : Part.lg ∈ S) (h_pn : Part.pn ∈ S) (h_me : Part.me ∈ S) (h_mo : Part.mo ∈ S) (h_lt : Part.lt ∈ S) (h_freeCtr : Part.ctr ∈ S) :
    Only S
    e0 (Dev.runCmd d c) := by
  unfold Dev.runCmd
  (try dsimp only)
  (repeat' split) <;> simp (maxDischargeDepth := 60) only [hO, h_rsys, h_rhm, h_rhi, h_rax, h_rsl, h_rqy,
      h_rme, h_rpn, h_rlt, h_rbh, h_rhl, h_rdr, h_mem, h_tb, h_axes, h_qy, h_dr, h_cw, h_sl, h_hi, h_lg, h_pn, h_me, h_mo, h_lt, h_freeCtr,
      only_refl, only_ite, only_foldl, implies_true, only_mem, only_tb, only_axes, only_qy, only_dr, only_cw, only_sl, only_hi, only_lg, only_pn,
      only_me, only_mo, only_lt, only_ctr, activateCmd_only, awaitSlot_only, challengeCmd_only, disciplineCmd_only, fencePoll_only, finish_only,
      handoverCmd_only, loadCmd_only, logMark_only, logRespond_only, ltPauseCmd_only, ltResumeCmd_only, ltStartCmd_only, readStateCmd_only,
      relieveCmd_only, returnCmd_only, setAxisCmd_only, stepTimeCmd_only, substituteCmd_only, swapCmd_only, tallyCmd_only, vigilCmd_only]

theorem failCheck_only (d : Dev) (c : Cmd) (status : Nat) (hO : Only S e0 d) (h_rhm : Part.regs .hm ∈ S) (h_rhi : Part.regs .hi ∈ S) (h_rsl :
    Part.regs .sl ∈ S) (h_rhl : Part.regs .hl ∈ S) (h_sl : Part.sl ∈ S) (h_hi : Part.hi ∈ S) (h_lg : Part.lg ∈ S) :
    Only S e0 (Dev.failCheck d c
    status) := by
  unfold Dev.failCheck
  simp (maxDischargeDepth := 60) only [hO, h_rhm, h_rhi, h_rsl, h_rhl, h_sl, h_hi, h_lg, only_refl, only_ite, only_foldl,
      implies_true, only_sl, only_hi, only_lg, deny_only, endChallenge_only, endCmd_only]

theorem acceptEntry_only (d : Dev) (m : Nat) (f : Fetched) (hO : Only S e0 d) (h_rsys : Part.regs .sys ∈ S) (h_rhm : Part.regs .hm ∈ S) (h_rhi :
    Part.regs .hi ∈ S) (h_rax : Part.regs .ax ∈ S) (h_rsl : Part.regs .sl ∈ S) (h_rqy : Part.regs .qy ∈ S) (h_rme : Part.regs .me ∈ S) (h_rpn :
    Part.regs .pn ∈ S) (h_rlt : Part.regs .lt ∈ S) (h_rbh : Part.regs .bh ∈ S) (h_rhl : Part.regs .hl ∈ S) (h_rdr : Part.regs .dr ∈ S) (h_mem :
    Part.mem ∈ S) (h_tb : Part.tb ∈ S) (h_axes : Part.axes ∈ S) (h_qy : Part.qy ∈ S) (h_dr : Part.dr ∈ S) (h_cw : Part.cw ∈ S) (h_sl : Part.sl ∈ S)
    (h_hi : Part.hi ∈ S) (h_lg : Part.lg ∈ S) (h_pn : Part.pn ∈ S) (h_me : Part.me ∈ S) (h_mo : Part.mo ∈ S) (h_lt : Part.lt ∈ S) (h_freeCtr :
    Part.ctr ∈ S) :
    Only S e0 (Dev.acceptEntry d m f) := by
  unfold Dev.acceptEntry
  (try dsimp only)
  (repeat' split) <;> simp (maxDischargeDepth := 60) only [hO, h_rsys, h_rhm, h_rhi, h_rax, h_rsl, h_rqy,
      h_rme, h_rpn, h_rlt, h_rbh, h_rhl, h_rdr, h_mem, h_tb, h_axes, h_qy, h_dr, h_cw, h_sl, h_hi, h_lg, h_pn, h_me, h_mo, h_lt, h_freeCtr,
      only_refl, only_ite, only_foldl, implies_true, only_mem, only_tb, only_axes, only_qy, only_dr, only_cw, only_sl, only_hi, only_lg, only_pn,
      only_me, only_mo, only_lt, only_ctr, failCheck_only, finish_only, runCmd_only, setLong_only, setRing_only]

theorem entryAcceptEff_only (m : Nat) (d : Dev) (hO : Only S e0 d) (h_rsys : Part.regs .sys ∈ S) (h_rhm : Part.regs .hm ∈ S) (h_rhi : Part.regs .hi ∈
    S) (h_rax : Part.regs .ax ∈ S) (h_rsl : Part.regs .sl ∈ S) (h_rqy : Part.regs .qy ∈ S) (h_rme : Part.regs .me ∈ S) (h_rpn : Part.regs .pn ∈ S)
    (h_rlt : Part.regs .lt ∈ S) (h_rbh : Part.regs .bh ∈ S) (h_rhl : Part.regs .hl ∈ S) (h_rdr : Part.regs .dr ∈ S) (h_mem : Part.mem ∈ S) (h_tb :
    Part.tb ∈ S) (h_axes : Part.axes ∈ S) (h_qy : Part.qy ∈ S) (h_dr : Part.dr ∈ S) (h_cw : Part.cw ∈ S) (h_sl : Part.sl ∈ S) (h_hi : Part.hi ∈ S)
    (h_lg : Part.lg ∈ S) (h_pn : Part.pn ∈ S) (h_me : Part.me ∈ S) (h_mo : Part.mo ∈ S) (h_lt : Part.lt ∈ S) (h_freeCtr : Part.ctr ∈ S) :
    Only S
    e0 (entryAcceptEff m d) := by
  unfold entryAcceptEff
  (try dsimp only)
  (repeat' split) <;> simp (maxDischargeDepth := 60) only [hO, h_rsys, h_rhm, h_rhi, h_rax, h_rsl, h_rqy,
      h_rme, h_rpn, h_rlt, h_rbh, h_rhl, h_rdr, h_mem, h_tb, h_axes, h_qy, h_dr, h_cw, h_sl, h_hi, h_lg, h_pn, h_me, h_mo, h_lt, h_freeCtr,
      only_refl, only_ite, only_foldl, implies_true, only_mem, only_tb, only_axes, only_qy, only_dr, only_cw, only_sl, only_hi, only_lg, only_pn,
      only_me, only_mo, only_lt, only_ctr, acceptEntry_only, setRing_only]

theorem entry_only (d : Dev) (m : Nat) (w : Entry) (op : Nat) (opt : Option Bool) (hO : Only S e0 d) (h_rsys : Part.regs .sys ∈ S) (h_rhm : Part.regs
    .hm ∈ S) (h_rhi : Part.regs .hi ∈ S) (h_rax : Part.regs .ax ∈ S) (h_rsl : Part.regs .sl ∈ S) (h_rqy : Part.regs .qy ∈ S) (h_rme : Part.regs .me ∈
    S) (h_rpn : Part.regs .pn ∈ S) (h_rlt : Part.regs .lt ∈ S) (h_rbh : Part.regs .bh ∈ S) (h_rhl : Part.regs .hl ∈ S) (h_rdr : Part.regs .dr ∈ S)
    (h_mem : Part.mem ∈ S) (h_tb : Part.tb ∈ S) (h_axes : Part.axes ∈ S) (h_qy : Part.qy ∈ S) (h_dr : Part.dr ∈ S) (h_cw : Part.cw ∈ S) (h_sl :
    Part.sl ∈ S) (h_hi : Part.hi ∈ S) (h_lg : Part.lg ∈ S) (h_pn : Part.pn ∈ S) (h_me : Part.me ∈ S) (h_mo : Part.mo ∈ S) (h_lt : Part.lt ∈ S)
    (h_freeCtr : Part.ctr ∈ S) :
    Only S e0 (Dev.entry d m w op opt) := by
  unfold Dev.entry
  simp (maxDischargeDepth := 60) only [hO, h_rsys, h_rhm, h_rhi, h_rax, h_rsl, h_rqy, h_rme, h_rpn, h_rlt, h_rbh, h_rhl, h_rdr,
      h_mem, h_tb, h_axes, h_qy, h_dr, h_cw, h_sl, h_hi, h_lg, h_pn, h_me, h_mo, h_lt, h_freeCtr, only_refl, only_ite, only_foldl, implies_true,
      only_mem, only_tb, only_axes, only_qy, only_dr, only_cw, only_sl, only_hi, only_lg, only_pn, only_me, only_mo, only_lt, only_ctr,
      acceptEntry_only, setRing_only, blk_CQ_STAT_RGEN, blk_CQ_STAT_RSTATE]

theorem bodyReadDoneEff_only (m : Nat) (tag : BitVec 32) (data : Option (List (BitVec 8))) (d : Dev) (hO : Only S e0 d) (h_rhm : Part.regs .hm ∈ S)
    (h_rhi : Part.regs .hi ∈ S) (h_rsl : Part.regs .sl ∈ S) (h_rme : Part.regs .me ∈ S) (h_rpn : Part.regs .pn ∈ S) (h_sl : Part.sl ∈ S) (h_hi :
    Part.hi ∈ S) (h_lg : Part.lg ∈ S) (h_pn : Part.pn ∈ S) (h_me : Part.me ∈ S) (h_mo : Part.mo ∈ S) :
    Only S e0 (bodyReadDoneEff m tag data d) := by
  unfold bodyReadDoneEff
  (try dsimp only)
  (repeat' split) <;> simp (maxDischargeDepth := 60) only [hO, h_rhm, h_rhi, h_rsl, h_rme, h_rpn, h_sl,
      h_hi, h_lg, h_pn, h_me, h_mo, only_refl, only_ite, only_foldl, implies_true, only_sl, only_hi, only_lg, only_pn, only_me, only_mo,
      loadEnd_only, loadFeed_only, swapGot_only]

theorem nopEff_only (m : Nat) (w : Entry) (d : Dev) (hO : Only S e0 d) (h_rsys : Part.regs .sys ∈ S) (h_rhm : Part.regs .hm ∈ S) (h_rhi : Part.regs
    .hi ∈ S) (h_rax : Part.regs .ax ∈ S) (h_rsl : Part.regs .sl ∈ S) (h_rqy : Part.regs .qy ∈ S) (h_rme : Part.regs .me ∈ S) (h_rpn : Part.regs .pn ∈
    S) (h_rlt : Part.regs .lt ∈ S) (h_rbh : Part.regs .bh ∈ S) (h_rhl : Part.regs .hl ∈ S) (h_rdr : Part.regs .dr ∈ S) (h_mem : Part.mem ∈ S) (h_tb :
    Part.tb ∈ S) (h_axes : Part.axes ∈ S) (h_qy : Part.qy ∈ S) (h_dr : Part.dr ∈ S) (h_cw : Part.cw ∈ S) (h_sl : Part.sl ∈ S) (h_hi : Part.hi ∈ S)
    (h_lg : Part.lg ∈ S) (h_pn : Part.pn ∈ S) (h_me : Part.me ∈ S) (h_mo : Part.mo ∈ S) (h_lt : Part.lt ∈ S) (h_freeCtr : Part.ctr ∈ S) :
    Only S
    e0 (nopEff m w d) := by
  unfold nopEff
  simp (maxDischargeDepth := 60) only [hO, h_rsys, h_rhm, h_rhi, h_rax, h_rsl, h_rqy, h_rme, h_rpn, h_rlt, h_rbh, h_rhl, h_rdr,
      h_mem, h_tb, h_axes, h_qy, h_dr, h_cw, h_sl, h_hi, h_lg, h_pn, h_me, h_mo, h_lt, h_freeCtr, only_refl, only_ite, only_foldl, implies_true,
      only_mem, only_tb, only_axes, only_qy, only_dr, only_cw, only_sl, only_hi, only_lg, only_pn, only_me, only_mo, only_lt, only_ctr, entry_only]

theorem armEff_only (m : Nat) (w : Entry) (d : Dev) (hO : Only S e0 d) (h_rsys : Part.regs .sys ∈ S) (h_rhm : Part.regs .hm ∈ S) (h_rhi : Part.regs
    .hi ∈ S) (h_rax : Part.regs .ax ∈ S) (h_rsl : Part.regs .sl ∈ S) (h_rqy : Part.regs .qy ∈ S) (h_rme : Part.regs .me ∈ S) (h_rpn : Part.regs .pn ∈
    S) (h_rlt : Part.regs .lt ∈ S) (h_rbh : Part.regs .bh ∈ S) (h_rhl : Part.regs .hl ∈ S) (h_rdr : Part.regs .dr ∈ S) (h_mem : Part.mem ∈ S) (h_tb :
    Part.tb ∈ S) (h_axes : Part.axes ∈ S) (h_qy : Part.qy ∈ S) (h_dr : Part.dr ∈ S) (h_cw : Part.cw ∈ S) (h_sl : Part.sl ∈ S) (h_hi : Part.hi ∈ S)
    (h_lg : Part.lg ∈ S) (h_pn : Part.pn ∈ S) (h_me : Part.me ∈ S) (h_mo : Part.mo ∈ S) (h_lt : Part.lt ∈ S) (h_freeCtr : Part.ctr ∈ S) :
    Only S
    e0 (armEff m w d) := by
  unfold armEff
  simp (maxDischargeDepth := 60) only [hO, h_rsys, h_rhm, h_rhi, h_rax, h_rsl, h_rqy, h_rme, h_rpn, h_rlt, h_rbh, h_rhl, h_rdr,
      h_mem, h_tb, h_axes, h_qy, h_dr, h_cw, h_sl, h_hi, h_lg, h_pn, h_me, h_mo, h_lt, h_freeCtr, only_refl, only_ite, only_foldl, implies_true,
      only_mem, only_tb, only_axes, only_qy, only_dr, only_cw, only_sl, only_hi, only_lg, only_pn, only_me, only_mo, only_lt, only_ctr, entry_only]

theorem disarmEff_only (m : Nat) (w : Entry) (d : Dev) (hO : Only S e0 d) (h_rsys : Part.regs .sys ∈ S) (h_rhm : Part.regs .hm ∈ S) (h_rhi :
    Part.regs .hi ∈ S) (h_rax : Part.regs .ax ∈ S) (h_rsl : Part.regs .sl ∈ S) (h_rqy : Part.regs .qy ∈ S) (h_rme : Part.regs .me ∈ S) (h_rpn :
    Part.regs .pn ∈ S) (h_rlt : Part.regs .lt ∈ S) (h_rbh : Part.regs .bh ∈ S) (h_rhl : Part.regs .hl ∈ S) (h_rdr : Part.regs .dr ∈ S) (h_mem :
    Part.mem ∈ S) (h_tb : Part.tb ∈ S) (h_axes : Part.axes ∈ S) (h_qy : Part.qy ∈ S) (h_dr : Part.dr ∈ S) (h_cw : Part.cw ∈ S) (h_sl : Part.sl ∈ S)
    (h_hi : Part.hi ∈ S) (h_lg : Part.lg ∈ S) (h_pn : Part.pn ∈ S) (h_me : Part.me ∈ S) (h_mo : Part.mo ∈ S) (h_lt : Part.lt ∈ S) (h_freeCtr :
    Part.ctr ∈ S) :
    Only S e0 (disarmEff m w d) := by
  unfold disarmEff
  simp (maxDischargeDepth := 60) only [hO, h_rsys, h_rhm, h_rhi, h_rax, h_rsl, h_rqy, h_rme, h_rpn, h_rlt, h_rbh, h_rhl, h_rdr,
      h_mem, h_tb, h_axes, h_qy, h_dr, h_cw, h_sl, h_hi, h_lg, h_pn, h_me, h_mo, h_lt, h_freeCtr, only_refl, only_ite, only_foldl, implies_true,
      only_mem, only_tb, only_axes, only_qy, only_dr, only_cw, only_sl, only_hi, only_lg, only_pn, only_me, only_mo, only_lt, only_ctr, entry_only]

theorem updateEff_only (m : Nat) (w : Entry) (d : Dev) (hO : Only S e0 d) (h_rsys : Part.regs .sys ∈ S) (h_rhm : Part.regs .hm ∈ S) (h_rhi :
    Part.regs .hi ∈ S) (h_rax : Part.regs .ax ∈ S) (h_rsl : Part.regs .sl ∈ S) (h_rqy : Part.regs .qy ∈ S) (h_rme : Part.regs .me ∈ S) (h_rpn :
    Part.regs .pn ∈ S) (h_rlt : Part.regs .lt ∈ S) (h_rbh : Part.regs .bh ∈ S) (h_rhl : Part.regs .hl ∈ S) (h_rdr : Part.regs .dr ∈ S) (h_mem :
    Part.mem ∈ S) (h_tb : Part.tb ∈ S) (h_axes : Part.axes ∈ S) (h_qy : Part.qy ∈ S) (h_dr : Part.dr ∈ S) (h_cw : Part.cw ∈ S) (h_sl : Part.sl ∈ S)
    (h_hi : Part.hi ∈ S) (h_lg : Part.lg ∈ S) (h_pn : Part.pn ∈ S) (h_me : Part.me ∈ S) (h_mo : Part.mo ∈ S) (h_lt : Part.lt ∈ S) (h_freeCtr :
    Part.ctr ∈ S) :
    Only S e0 (updateEff m w d) := by
  unfold updateEff
  simp (maxDischargeDepth := 60) only [hO, h_rsys, h_rhm, h_rhi, h_rax, h_rsl, h_rqy, h_rme, h_rpn, h_rlt, h_rbh, h_rhl, h_rdr,
      h_mem, h_tb, h_axes, h_qy, h_dr, h_cw, h_sl, h_hi, h_lg, h_pn, h_me, h_mo, h_lt, h_freeCtr, only_refl, only_ite, only_foldl, implies_true,
      only_mem, only_tb, only_axes, only_qy, only_dr, only_cw, only_sl, only_hi, only_lg, only_pn, only_me, only_mo, only_lt, only_ctr, entry_only]

theorem readStateEff_only (m : Nat) (w : Entry) (d : Dev) (hO : Only S e0 d) (h_rsys : Part.regs .sys ∈ S) (h_rhm : Part.regs .hm ∈ S) (h_rhi :
    Part.regs .hi ∈ S) (h_rax : Part.regs .ax ∈ S) (h_rsl : Part.regs .sl ∈ S) (h_rqy : Part.regs .qy ∈ S) (h_rme : Part.regs .me ∈ S) (h_rpn :
    Part.regs .pn ∈ S) (h_rlt : Part.regs .lt ∈ S) (h_rbh : Part.regs .bh ∈ S) (h_rhl : Part.regs .hl ∈ S) (h_rdr : Part.regs .dr ∈ S) (h_mem :
    Part.mem ∈ S) (h_tb : Part.tb ∈ S) (h_axes : Part.axes ∈ S) (h_qy : Part.qy ∈ S) (h_dr : Part.dr ∈ S) (h_cw : Part.cw ∈ S) (h_sl : Part.sl ∈ S)
    (h_hi : Part.hi ∈ S) (h_lg : Part.lg ∈ S) (h_pn : Part.pn ∈ S) (h_me : Part.me ∈ S) (h_mo : Part.mo ∈ S) (h_lt : Part.lt ∈ S) (h_freeCtr :
    Part.ctr ∈ S) :
    Only S e0 (readStateEff m w d) := by
  unfold readStateEff
  simp (maxDischargeDepth := 60) only [hO, h_rsys, h_rhm, h_rhi, h_rax, h_rsl, h_rqy, h_rme, h_rpn, h_rlt, h_rbh, h_rhl, h_rdr,
      h_mem, h_tb, h_axes, h_qy, h_dr, h_cw, h_sl, h_hi, h_lg, h_pn, h_me, h_mo, h_lt, h_freeCtr, only_refl, only_ite, only_foldl, implies_true,
      only_mem, only_tb, only_axes, only_qy, only_dr, only_cw, only_sl, only_hi, only_lg, only_pn, only_me, only_mo, only_lt, only_ctr, entry_only]

theorem setAxisEff_only (m : Nat) (w : Entry) (d : Dev) (hO : Only S e0 d) (h_rsys : Part.regs .sys ∈ S) (h_rhm : Part.regs .hm ∈ S) (h_rhi :
    Part.regs .hi ∈ S) (h_rax : Part.regs .ax ∈ S) (h_rsl : Part.regs .sl ∈ S) (h_rqy : Part.regs .qy ∈ S) (h_rme : Part.regs .me ∈ S) (h_rpn :
    Part.regs .pn ∈ S) (h_rlt : Part.regs .lt ∈ S) (h_rbh : Part.regs .bh ∈ S) (h_rhl : Part.regs .hl ∈ S) (h_rdr : Part.regs .dr ∈ S) (h_mem :
    Part.mem ∈ S) (h_tb : Part.tb ∈ S) (h_axes : Part.axes ∈ S) (h_qy : Part.qy ∈ S) (h_dr : Part.dr ∈ S) (h_cw : Part.cw ∈ S) (h_sl : Part.sl ∈ S)
    (h_hi : Part.hi ∈ S) (h_lg : Part.lg ∈ S) (h_pn : Part.pn ∈ S) (h_me : Part.me ∈ S) (h_mo : Part.mo ∈ S) (h_lt : Part.lt ∈ S) (h_freeCtr :
    Part.ctr ∈ S) :
    Only S e0 (setAxisEff m w d) := by
  unfold setAxisEff
  simp (maxDischargeDepth := 60) only [hO, h_rsys, h_rhm, h_rhi, h_rax, h_rsl, h_rqy, h_rme, h_rpn, h_rlt, h_rbh, h_rhl, h_rdr,
      h_mem, h_tb, h_axes, h_qy, h_dr, h_cw, h_sl, h_hi, h_lg, h_pn, h_me, h_mo, h_lt, h_freeCtr, only_refl, only_ite, only_foldl, implies_true,
      only_mem, only_tb, only_axes, only_qy, only_dr, only_cw, only_sl, only_hi, only_lg, only_pn, only_me, only_mo, only_lt, only_ctr, entry_only]

theorem disciplineEff_only (m : Nat) (w : Entry) (d : Dev) (hO : Only S e0 d) (h_rsys : Part.regs .sys ∈ S) (h_rhm : Part.regs .hm ∈ S) (h_rhi :
    Part.regs .hi ∈ S) (h_rax : Part.regs .ax ∈ S) (h_rsl : Part.regs .sl ∈ S) (h_rqy : Part.regs .qy ∈ S) (h_rme : Part.regs .me ∈ S) (h_rpn :
    Part.regs .pn ∈ S) (h_rlt : Part.regs .lt ∈ S) (h_rbh : Part.regs .bh ∈ S) (h_rhl : Part.regs .hl ∈ S) (h_rdr : Part.regs .dr ∈ S) (h_mem :
    Part.mem ∈ S) (h_tb : Part.tb ∈ S) (h_axes : Part.axes ∈ S) (h_qy : Part.qy ∈ S) (h_dr : Part.dr ∈ S) (h_cw : Part.cw ∈ S) (h_sl : Part.sl ∈ S)
    (h_hi : Part.hi ∈ S) (h_lg : Part.lg ∈ S) (h_pn : Part.pn ∈ S) (h_me : Part.me ∈ S) (h_mo : Part.mo ∈ S) (h_lt : Part.lt ∈ S) (h_freeCtr :
    Part.ctr ∈ S) :
    Only S e0 (disciplineEff m w d) := by
  unfold disciplineEff
  simp (maxDischargeDepth := 60) only [hO, h_rsys, h_rhm, h_rhi, h_rax, h_rsl, h_rqy, h_rme, h_rpn, h_rlt, h_rbh, h_rhl,
      h_rdr, h_mem, h_tb, h_axes, h_qy, h_dr, h_cw, h_sl, h_hi, h_lg, h_pn, h_me, h_mo, h_lt, h_freeCtr, only_refl, only_ite, only_foldl,
      implies_true, only_mem, only_tb, only_axes, only_qy, only_dr, only_cw, only_sl, only_hi, only_lg, only_pn, only_me, only_mo, only_lt, only_ctr,
      entry_only]

theorem stepTimeEff_only (m : Nat) (w : Entry) (d : Dev) (hO : Only S e0 d) (h_rsys : Part.regs .sys ∈ S) (h_rhm : Part.regs .hm ∈ S) (h_rhi :
    Part.regs .hi ∈ S) (h_rax : Part.regs .ax ∈ S) (h_rsl : Part.regs .sl ∈ S) (h_rqy : Part.regs .qy ∈ S) (h_rme : Part.regs .me ∈ S) (h_rpn :
    Part.regs .pn ∈ S) (h_rlt : Part.regs .lt ∈ S) (h_rbh : Part.regs .bh ∈ S) (h_rhl : Part.regs .hl ∈ S) (h_rdr : Part.regs .dr ∈ S) (h_mem :
    Part.mem ∈ S) (h_tb : Part.tb ∈ S) (h_axes : Part.axes ∈ S) (h_qy : Part.qy ∈ S) (h_dr : Part.dr ∈ S) (h_cw : Part.cw ∈ S) (h_sl : Part.sl ∈ S)
    (h_hi : Part.hi ∈ S) (h_lg : Part.lg ∈ S) (h_pn : Part.pn ∈ S) (h_me : Part.me ∈ S) (h_mo : Part.mo ∈ S) (h_lt : Part.lt ∈ S) (h_freeCtr :
    Part.ctr ∈ S) :
    Only S e0 (stepTimeEff m w d) := by
  unfold stepTimeEff
  simp (maxDischargeDepth := 60) only [hO, h_rsys, h_rhm, h_rhi, h_rax, h_rsl, h_rqy, h_rme, h_rpn, h_rlt, h_rbh, h_rhl, h_rdr,
      h_mem, h_tb, h_axes, h_qy, h_dr, h_cw, h_sl, h_hi, h_lg, h_pn, h_me, h_mo, h_lt, h_freeCtr, only_refl, only_ite, only_foldl, implies_true,
      only_mem, only_tb, only_axes, only_qy, only_dr, only_cw, only_sl, only_hi, only_lg, only_pn, only_me, only_mo, only_lt, only_ctr, entry_only]

theorem loadImageEff_only (m : Nat) (w : Entry) (d : Dev) (hO : Only S e0 d) (h_rsys : Part.regs .sys ∈ S) (h_rhm : Part.regs .hm ∈ S) (h_rhi :
    Part.regs .hi ∈ S) (h_rax : Part.regs .ax ∈ S) (h_rsl : Part.regs .sl ∈ S) (h_rqy : Part.regs .qy ∈ S) (h_rme : Part.regs .me ∈ S) (h_rpn :
    Part.regs .pn ∈ S) (h_rlt : Part.regs .lt ∈ S) (h_rbh : Part.regs .bh ∈ S) (h_rhl : Part.regs .hl ∈ S) (h_rdr : Part.regs .dr ∈ S) (h_mem :
    Part.mem ∈ S) (h_tb : Part.tb ∈ S) (h_axes : Part.axes ∈ S) (h_qy : Part.qy ∈ S) (h_dr : Part.dr ∈ S) (h_cw : Part.cw ∈ S) (h_sl : Part.sl ∈ S)
    (h_hi : Part.hi ∈ S) (h_lg : Part.lg ∈ S) (h_pn : Part.pn ∈ S) (h_me : Part.me ∈ S) (h_mo : Part.mo ∈ S) (h_lt : Part.lt ∈ S) (h_freeCtr :
    Part.ctr ∈ S) :
    Only S e0 (loadImageEff m w d) := by
  unfold loadImageEff
  simp (maxDischargeDepth := 60) only [hO, h_rsys, h_rhm, h_rhi, h_rax, h_rsl, h_rqy, h_rme, h_rpn, h_rlt, h_rbh, h_rhl, h_rdr,
      h_mem, h_tb, h_axes, h_qy, h_dr, h_cw, h_sl, h_hi, h_lg, h_pn, h_me, h_mo, h_lt, h_freeCtr, only_refl, only_ite, only_foldl, implies_true,
      only_mem, only_tb, only_axes, only_qy, only_dr, only_cw, only_sl, only_hi, only_lg, only_pn, only_me, only_mo, only_lt, only_ctr, entry_only]

theorem activateImageEff_only (m : Nat) (w : Entry) (d : Dev) (hO : Only S e0 d) (h_rsys : Part.regs .sys ∈ S) (h_rhm : Part.regs .hm ∈ S) (h_rhi :
    Part.regs .hi ∈ S) (h_rax : Part.regs .ax ∈ S) (h_rsl : Part.regs .sl ∈ S) (h_rqy : Part.regs .qy ∈ S) (h_rme : Part.regs .me ∈ S) (h_rpn :
    Part.regs .pn ∈ S) (h_rlt : Part.regs .lt ∈ S) (h_rbh : Part.regs .bh ∈ S) (h_rhl : Part.regs .hl ∈ S) (h_rdr : Part.regs .dr ∈ S) (h_mem :
    Part.mem ∈ S) (h_tb : Part.tb ∈ S) (h_axes : Part.axes ∈ S) (h_qy : Part.qy ∈ S) (h_dr : Part.dr ∈ S) (h_cw : Part.cw ∈ S) (h_sl : Part.sl ∈ S)
    (h_hi : Part.hi ∈ S) (h_lg : Part.lg ∈ S) (h_pn : Part.pn ∈ S) (h_me : Part.me ∈ S) (h_mo : Part.mo ∈ S) (h_lt : Part.lt ∈ S) (h_freeCtr :
    Part.ctr ∈ S) :
    Only S e0 (activateImageEff m w d) := by
  unfold activateImageEff
  simp (maxDischargeDepth := 60) only [hO, h_rsys, h_rhm, h_rhi, h_rax, h_rsl, h_rqy, h_rme, h_rpn, h_rlt, h_rbh, h_rhl,
      h_rdr, h_mem, h_tb, h_axes, h_qy, h_dr, h_cw, h_sl, h_hi, h_lg, h_pn, h_me, h_mo, h_lt, h_freeCtr, only_refl, only_ite, only_foldl,
      implies_true, only_mem, only_tb, only_axes, only_qy, only_dr, only_cw, only_sl, only_hi, only_lg, only_pn, only_me, only_mo, only_lt, only_ctr,
      entry_only]

theorem substituteQuayEff_only (m : Nat) (w : Entry) (d : Dev) (hO : Only S e0 d) (h_rsys : Part.regs .sys ∈ S) (h_rhm : Part.regs .hm ∈ S) (h_rhi :
    Part.regs .hi ∈ S) (h_rax : Part.regs .ax ∈ S) (h_rsl : Part.regs .sl ∈ S) (h_rqy : Part.regs .qy ∈ S) (h_rme : Part.regs .me ∈ S) (h_rpn :
    Part.regs .pn ∈ S) (h_rlt : Part.regs .lt ∈ S) (h_rbh : Part.regs .bh ∈ S) (h_rhl : Part.regs .hl ∈ S) (h_rdr : Part.regs .dr ∈ S) (h_mem :
    Part.mem ∈ S) (h_tb : Part.tb ∈ S) (h_axes : Part.axes ∈ S) (h_qy : Part.qy ∈ S) (h_dr : Part.dr ∈ S) (h_cw : Part.cw ∈ S) (h_sl : Part.sl ∈ S)
    (h_hi : Part.hi ∈ S) (h_lg : Part.lg ∈ S) (h_pn : Part.pn ∈ S) (h_me : Part.me ∈ S) (h_mo : Part.mo ∈ S) (h_lt : Part.lt ∈ S) (h_freeCtr :
    Part.ctr ∈ S) :
    Only S e0 (substituteQuayEff m w d) := by
  unfold substituteQuayEff
  simp (maxDischargeDepth := 60) only [hO, h_rsys, h_rhm, h_rhi, h_rax, h_rsl, h_rqy, h_rme, h_rpn, h_rlt, h_rbh, h_rhl,
      h_rdr, h_mem, h_tb, h_axes, h_qy, h_dr, h_cw, h_sl, h_hi, h_lg, h_pn, h_me, h_mo, h_lt, h_freeCtr, only_refl, only_ite, only_foldl,
      implies_true, only_mem, only_tb, only_axes, only_qy, only_dr, only_cw, only_sl, only_hi, only_lg, only_pn, only_me, only_mo, only_lt, only_ctr,
      entry_only]

theorem relieveEngineEff_only (m : Nat) (w : Entry) (d : Dev) (hO : Only S e0 d) (h_rsys : Part.regs .sys ∈ S) (h_rhm : Part.regs .hm ∈ S) (h_rhi :
    Part.regs .hi ∈ S) (h_rax : Part.regs .ax ∈ S) (h_rsl : Part.regs .sl ∈ S) (h_rqy : Part.regs .qy ∈ S) (h_rme : Part.regs .me ∈ S) (h_rpn :
    Part.regs .pn ∈ S) (h_rlt : Part.regs .lt ∈ S) (h_rbh : Part.regs .bh ∈ S) (h_rhl : Part.regs .hl ∈ S) (h_rdr : Part.regs .dr ∈ S) (h_mem :
    Part.mem ∈ S) (h_tb : Part.tb ∈ S) (h_axes : Part.axes ∈ S) (h_qy : Part.qy ∈ S) (h_dr : Part.dr ∈ S) (h_cw : Part.cw ∈ S) (h_sl : Part.sl ∈ S)
    (h_hi : Part.hi ∈ S) (h_lg : Part.lg ∈ S) (h_pn : Part.pn ∈ S) (h_me : Part.me ∈ S) (h_mo : Part.mo ∈ S) (h_lt : Part.lt ∈ S) (h_freeCtr :
    Part.ctr ∈ S) :
    Only S e0 (relieveEngineEff m w d) := by
  unfold relieveEngineEff
  simp (maxDischargeDepth := 60) only [hO, h_rsys, h_rhm, h_rhi, h_rax, h_rsl, h_rqy, h_rme, h_rpn, h_rlt, h_rbh, h_rhl,
      h_rdr, h_mem, h_tb, h_axes, h_qy, h_dr, h_cw, h_sl, h_hi, h_lg, h_pn, h_me, h_mo, h_lt, h_freeCtr, only_refl, only_ite, only_foldl,
      implies_true, only_mem, only_tb, only_axes, only_qy, only_dr, only_cw, only_sl, only_hi, only_lg, only_pn, only_me, only_mo, only_lt, only_ctr,
      entry_only]

theorem relieveReturnEff_only (m : Nat) (w : Entry) (d : Dev) (hO : Only S e0 d) (h_rsys : Part.regs .sys ∈ S) (h_rhm : Part.regs .hm ∈ S) (h_rhi :
    Part.regs .hi ∈ S) (h_rax : Part.regs .ax ∈ S) (h_rsl : Part.regs .sl ∈ S) (h_rqy : Part.regs .qy ∈ S) (h_rme : Part.regs .me ∈ S) (h_rpn :
    Part.regs .pn ∈ S) (h_rlt : Part.regs .lt ∈ S) (h_rbh : Part.regs .bh ∈ S) (h_rhl : Part.regs .hl ∈ S) (h_rdr : Part.regs .dr ∈ S) (h_mem :
    Part.mem ∈ S) (h_tb : Part.tb ∈ S) (h_axes : Part.axes ∈ S) (h_qy : Part.qy ∈ S) (h_dr : Part.dr ∈ S) (h_cw : Part.cw ∈ S) (h_sl : Part.sl ∈ S)
    (h_hi : Part.hi ∈ S) (h_lg : Part.lg ∈ S) (h_pn : Part.pn ∈ S) (h_me : Part.me ∈ S) (h_mo : Part.mo ∈ S) (h_lt : Part.lt ∈ S) (h_freeCtr :
    Part.ctr ∈ S) :
    Only S e0 (relieveReturnEff m w d) := by
  unfold relieveReturnEff
  simp (maxDischargeDepth := 60) only [hO, h_rsys, h_rhm, h_rhi, h_rax, h_rsl, h_rqy, h_rme, h_rpn, h_rlt, h_rbh, h_rhl,
      h_rdr, h_mem, h_tb, h_axes, h_qy, h_dr, h_cw, h_sl, h_hi, h_lg, h_pn, h_me, h_mo, h_lt, h_freeCtr, only_refl, only_ite, only_foldl,
      implies_true, only_mem, only_tb, only_axes, only_qy, only_dr, only_cw, only_sl, only_hi, only_lg, only_pn, only_me, only_mo, only_lt, only_ctr,
      entry_only]

theorem startLighterEff_only (m : Nat) (w : Entry) (d : Dev) (hO : Only S e0 d) (h_rsys : Part.regs .sys ∈ S) (h_rhm : Part.regs .hm ∈ S) (h_rhi :
    Part.regs .hi ∈ S) (h_rax : Part.regs .ax ∈ S) (h_rsl : Part.regs .sl ∈ S) (h_rqy : Part.regs .qy ∈ S) (h_rme : Part.regs .me ∈ S) (h_rpn :
    Part.regs .pn ∈ S) (h_rlt : Part.regs .lt ∈ S) (h_rbh : Part.regs .bh ∈ S) (h_rhl : Part.regs .hl ∈ S) (h_rdr : Part.regs .dr ∈ S) (h_mem :
    Part.mem ∈ S) (h_tb : Part.tb ∈ S) (h_axes : Part.axes ∈ S) (h_qy : Part.qy ∈ S) (h_dr : Part.dr ∈ S) (h_cw : Part.cw ∈ S) (h_sl : Part.sl ∈ S)
    (h_hi : Part.hi ∈ S) (h_lg : Part.lg ∈ S) (h_pn : Part.pn ∈ S) (h_me : Part.me ∈ S) (h_mo : Part.mo ∈ S) (h_lt : Part.lt ∈ S) (h_freeCtr :
    Part.ctr ∈ S) :
    Only S e0 (startLighterEff m w d) := by
  unfold startLighterEff
  simp (maxDischargeDepth := 60) only [hO, h_rsys, h_rhm, h_rhi, h_rax, h_rsl, h_rqy, h_rme, h_rpn, h_rlt, h_rbh, h_rhl,
      h_rdr, h_mem, h_tb, h_axes, h_qy, h_dr, h_cw, h_sl, h_hi, h_lg, h_pn, h_me, h_mo, h_lt, h_freeCtr, only_refl, only_ite, only_foldl,
      implies_true, only_mem, only_tb, only_axes, only_qy, only_dr, only_cw, only_sl, only_hi, only_lg, only_pn, only_me, only_mo, only_lt, only_ctr,
      entry_only]

theorem pauseLighterEff_only (m : Nat) (w : Entry) (d : Dev) (hO : Only S e0 d) (h_rsys : Part.regs .sys ∈ S) (h_rhm : Part.regs .hm ∈ S) (h_rhi :
    Part.regs .hi ∈ S) (h_rax : Part.regs .ax ∈ S) (h_rsl : Part.regs .sl ∈ S) (h_rqy : Part.regs .qy ∈ S) (h_rme : Part.regs .me ∈ S) (h_rpn :
    Part.regs .pn ∈ S) (h_rlt : Part.regs .lt ∈ S) (h_rbh : Part.regs .bh ∈ S) (h_rhl : Part.regs .hl ∈ S) (h_rdr : Part.regs .dr ∈ S) (h_mem :
    Part.mem ∈ S) (h_tb : Part.tb ∈ S) (h_axes : Part.axes ∈ S) (h_qy : Part.qy ∈ S) (h_dr : Part.dr ∈ S) (h_cw : Part.cw ∈ S) (h_sl : Part.sl ∈ S)
    (h_hi : Part.hi ∈ S) (h_lg : Part.lg ∈ S) (h_pn : Part.pn ∈ S) (h_me : Part.me ∈ S) (h_mo : Part.mo ∈ S) (h_lt : Part.lt ∈ S) (h_freeCtr :
    Part.ctr ∈ S) :
    Only S e0 (pauseLighterEff m w d) := by
  unfold pauseLighterEff
  simp (maxDischargeDepth := 60) only [hO, h_rsys, h_rhm, h_rhi, h_rax, h_rsl, h_rqy, h_rme, h_rpn, h_rlt, h_rbh, h_rhl,
      h_rdr, h_mem, h_tb, h_axes, h_qy, h_dr, h_cw, h_sl, h_hi, h_lg, h_pn, h_me, h_mo, h_lt, h_freeCtr, only_refl, only_ite, only_foldl,
      implies_true, only_mem, only_tb, only_axes, only_qy, only_dr, only_cw, only_sl, only_hi, only_lg, only_pn, only_me, only_mo, only_lt, only_ctr,
      entry_only]

theorem resumeLighterEff_only (m : Nat) (w : Entry) (d : Dev) (hO : Only S e0 d) (h_rsys : Part.regs .sys ∈ S) (h_rhm : Part.regs .hm ∈ S) (h_rhi :
    Part.regs .hi ∈ S) (h_rax : Part.regs .ax ∈ S) (h_rsl : Part.regs .sl ∈ S) (h_rqy : Part.regs .qy ∈ S) (h_rme : Part.regs .me ∈ S) (h_rpn :
    Part.regs .pn ∈ S) (h_rlt : Part.regs .lt ∈ S) (h_rbh : Part.regs .bh ∈ S) (h_rhl : Part.regs .hl ∈ S) (h_rdr : Part.regs .dr ∈ S) (h_mem :
    Part.mem ∈ S) (h_tb : Part.tb ∈ S) (h_axes : Part.axes ∈ S) (h_qy : Part.qy ∈ S) (h_dr : Part.dr ∈ S) (h_cw : Part.cw ∈ S) (h_sl : Part.sl ∈ S)
    (h_hi : Part.hi ∈ S) (h_lg : Part.lg ∈ S) (h_pn : Part.pn ∈ S) (h_me : Part.me ∈ S) (h_mo : Part.mo ∈ S) (h_lt : Part.lt ∈ S) (h_freeCtr :
    Part.ctr ∈ S) :
    Only S e0 (resumeLighterEff m w d) := by
  unfold resumeLighterEff
  simp (maxDischargeDepth := 60) only [hO, h_rsys, h_rhm, h_rhi, h_rax, h_rsl, h_rqy, h_rme, h_rpn, h_rlt, h_rbh, h_rhl,
      h_rdr, h_mem, h_tb, h_axes, h_qy, h_dr, h_cw, h_sl, h_hi, h_lg, h_pn, h_me, h_mo, h_lt, h_freeCtr, only_refl, only_ite, only_foldl,
      implies_true, only_mem, only_tb, only_axes, only_qy, only_dr, only_cw, only_sl, only_hi, only_lg, only_pn, only_me, only_mo, only_lt, only_ctr,
      entry_only]

theorem berthHandoverEff_only (m : Nat) (w : Entry) (d : Dev) (hO : Only S e0 d) (h_rsys : Part.regs .sys ∈ S) (h_rhm : Part.regs .hm ∈ S) (h_rhi :
    Part.regs .hi ∈ S) (h_rax : Part.regs .ax ∈ S) (h_rsl : Part.regs .sl ∈ S) (h_rqy : Part.regs .qy ∈ S) (h_rme : Part.regs .me ∈ S) (h_rpn :
    Part.regs .pn ∈ S) (h_rlt : Part.regs .lt ∈ S) (h_rbh : Part.regs .bh ∈ S) (h_rhl : Part.regs .hl ∈ S) (h_rdr : Part.regs .dr ∈ S) (h_mem :
    Part.mem ∈ S) (h_tb : Part.tb ∈ S) (h_axes : Part.axes ∈ S) (h_qy : Part.qy ∈ S) (h_dr : Part.dr ∈ S) (h_cw : Part.cw ∈ S) (h_sl : Part.sl ∈ S)
    (h_hi : Part.hi ∈ S) (h_lg : Part.lg ∈ S) (h_pn : Part.pn ∈ S) (h_me : Part.me ∈ S) (h_mo : Part.mo ∈ S) (h_lt : Part.lt ∈ S) (h_freeCtr :
    Part.ctr ∈ S) :
    Only S e0 (berthHandoverEff m w d) := by
  unfold berthHandoverEff
  simp (maxDischargeDepth := 60) only [hO, h_rsys, h_rhm, h_rhi, h_rax, h_rsl, h_rqy, h_rme, h_rpn, h_rlt, h_rbh, h_rhl,
      h_rdr, h_mem, h_tb, h_axes, h_qy, h_dr, h_cw, h_sl, h_hi, h_lg, h_pn, h_me, h_mo, h_lt, h_freeCtr, only_refl, only_ite, only_foldl,
      implies_true, only_mem, only_tb, only_axes, only_qy, only_dr, only_cw, only_sl, only_hi, only_lg, only_pn, only_me, only_mo, only_lt, only_ctr,
      entry_only]

theorem swapProgramEff_only (m : Nat) (w : Entry) (d : Dev) (hO : Only S e0 d) (h_rsys : Part.regs .sys ∈ S) (h_rhm : Part.regs .hm ∈ S) (h_rhi :
    Part.regs .hi ∈ S) (h_rax : Part.regs .ax ∈ S) (h_rsl : Part.regs .sl ∈ S) (h_rqy : Part.regs .qy ∈ S) (h_rme : Part.regs .me ∈ S) (h_rpn :
    Part.regs .pn ∈ S) (h_rlt : Part.regs .lt ∈ S) (h_rbh : Part.regs .bh ∈ S) (h_rhl : Part.regs .hl ∈ S) (h_rdr : Part.regs .dr ∈ S) (h_mem :
    Part.mem ∈ S) (h_tb : Part.tb ∈ S) (h_axes : Part.axes ∈ S) (h_qy : Part.qy ∈ S) (h_dr : Part.dr ∈ S) (h_cw : Part.cw ∈ S) (h_sl : Part.sl ∈ S)
    (h_hi : Part.hi ∈ S) (h_lg : Part.lg ∈ S) (h_pn : Part.pn ∈ S) (h_me : Part.me ∈ S) (h_mo : Part.mo ∈ S) (h_lt : Part.lt ∈ S) (h_freeCtr :
    Part.ctr ∈ S) :
    Only S e0 (swapProgramEff m w d) := by
  unfold swapProgramEff
  simp (maxDischargeDepth := 60) only [hO, h_rsys, h_rhm, h_rhi, h_rax, h_rsl, h_rqy, h_rme, h_rpn, h_rlt, h_rbh, h_rhl,
      h_rdr, h_mem, h_tb, h_axes, h_qy, h_dr, h_cw, h_sl, h_hi, h_lg, h_pn, h_me, h_mo, h_lt, h_freeCtr, only_refl, only_ite, only_foldl,
      implies_true, only_mem, only_tb, only_axes, only_qy, only_dr, only_cw, only_sl, only_hi, only_lg, only_pn, only_me, only_mo, only_lt, only_ctr,
      entry_only]

theorem logMarkEff_only (m : Nat) (w : Entry) (d : Dev) (hO : Only S e0 d) (h_rsys : Part.regs .sys ∈ S) (h_rhm : Part.regs .hm ∈ S) (h_rhi :
    Part.regs .hi ∈ S) (h_rax : Part.regs .ax ∈ S) (h_rsl : Part.regs .sl ∈ S) (h_rqy : Part.regs .qy ∈ S) (h_rme : Part.regs .me ∈ S) (h_rpn :
    Part.regs .pn ∈ S) (h_rlt : Part.regs .lt ∈ S) (h_rbh : Part.regs .bh ∈ S) (h_rhl : Part.regs .hl ∈ S) (h_rdr : Part.regs .dr ∈ S) (h_mem :
    Part.mem ∈ S) (h_tb : Part.tb ∈ S) (h_axes : Part.axes ∈ S) (h_qy : Part.qy ∈ S) (h_dr : Part.dr ∈ S) (h_cw : Part.cw ∈ S) (h_sl : Part.sl ∈ S)
    (h_hi : Part.hi ∈ S) (h_lg : Part.lg ∈ S) (h_pn : Part.pn ∈ S) (h_me : Part.me ∈ S) (h_mo : Part.mo ∈ S) (h_lt : Part.lt ∈ S) (h_freeCtr :
    Part.ctr ∈ S) :
    Only S e0 (logMarkEff m w d) := by
  unfold logMarkEff
  simp (maxDischargeDepth := 60) only [hO, h_rsys, h_rhm, h_rhi, h_rax, h_rsl, h_rqy, h_rme, h_rpn, h_rlt, h_rbh, h_rhl, h_rdr,
      h_mem, h_tb, h_axes, h_qy, h_dr, h_cw, h_sl, h_hi, h_lg, h_pn, h_me, h_mo, h_lt, h_freeCtr, only_refl, only_ite, only_foldl, implies_true,
      only_mem, only_tb, only_axes, only_qy, only_dr, only_cw, only_sl, only_hi, only_lg, only_pn, only_me, only_mo, only_lt, only_ctr, entry_only]

theorem logClearChallengeEff_only (m : Nat) (w : Entry) (d : Dev) (hO : Only S e0 d) (h_rsys : Part.regs .sys ∈ S) (h_rhm : Part.regs .hm ∈ S) (h_rhi
    : Part.regs .hi ∈ S) (h_rax : Part.regs .ax ∈ S) (h_rsl : Part.regs .sl ∈ S) (h_rqy : Part.regs .qy ∈ S) (h_rme : Part.regs .me ∈ S) (h_rpn :
    Part.regs .pn ∈ S) (h_rlt : Part.regs .lt ∈ S) (h_rbh : Part.regs .bh ∈ S) (h_rhl : Part.regs .hl ∈ S) (h_rdr : Part.regs .dr ∈ S) (h_mem :
    Part.mem ∈ S) (h_tb : Part.tb ∈ S) (h_axes : Part.axes ∈ S) (h_qy : Part.qy ∈ S) (h_dr : Part.dr ∈ S) (h_cw : Part.cw ∈ S) (h_sl : Part.sl ∈ S)
    (h_hi : Part.hi ∈ S) (h_lg : Part.lg ∈ S) (h_pn : Part.pn ∈ S) (h_me : Part.me ∈ S) (h_mo : Part.mo ∈ S) (h_lt : Part.lt ∈ S) (h_freeCtr :
    Part.ctr ∈ S) :
    Only S e0 (logClearChallengeEff m w d) := by
  unfold logClearChallengeEff
  simp (maxDischargeDepth := 60) only [hO, h_rsys, h_rhm, h_rhi, h_rax, h_rsl, h_rqy, h_rme, h_rpn, h_rlt, h_rbh,
      h_rhl, h_rdr, h_mem, h_tb, h_axes, h_qy, h_dr, h_cw, h_sl, h_hi, h_lg, h_pn, h_me, h_mo, h_lt, h_freeCtr, only_refl, only_ite, only_foldl,
      implies_true, only_mem, only_tb, only_axes, only_qy, only_dr, only_cw, only_sl, only_hi, only_lg, only_pn, only_me, only_mo, only_lt, only_ctr,
      entry_only]

theorem logClearRespondEff_only (m : Nat) (w : Entry) (d : Dev) (hO : Only S e0 d) (h_rsys : Part.regs .sys ∈ S) (h_rhm : Part.regs .hm ∈ S) (h_rhi :
    Part.regs .hi ∈ S) (h_rax : Part.regs .ax ∈ S) (h_rsl : Part.regs .sl ∈ S) (h_rqy : Part.regs .qy ∈ S) (h_rme : Part.regs .me ∈ S) (h_rpn :
    Part.regs .pn ∈ S) (h_rlt : Part.regs .lt ∈ S) (h_rbh : Part.regs .bh ∈ S) (h_rhl : Part.regs .hl ∈ S) (h_rdr : Part.regs .dr ∈ S) (h_mem :
    Part.mem ∈ S) (h_tb : Part.tb ∈ S) (h_axes : Part.axes ∈ S) (h_qy : Part.qy ∈ S) (h_dr : Part.dr ∈ S) (h_cw : Part.cw ∈ S) (h_sl : Part.sl ∈ S)
    (h_hi : Part.hi ∈ S) (h_lg : Part.lg ∈ S) (h_pn : Part.pn ∈ S) (h_me : Part.me ∈ S) (h_mo : Part.mo ∈ S) (h_lt : Part.lt ∈ S) (h_freeCtr :
    Part.ctr ∈ S) :
    Only S e0 (logClearRespondEff m w d) := by
  unfold logClearRespondEff
  simp (maxDischargeDepth := 60) only [hO, h_rsys, h_rhm, h_rhi, h_rax, h_rsl, h_rqy, h_rme, h_rpn, h_rlt, h_rbh, h_rhl,
      h_rdr, h_mem, h_tb, h_axes, h_qy, h_dr, h_cw, h_sl, h_hi, h_lg, h_pn, h_me, h_mo, h_lt, h_freeCtr, only_refl, only_ite, only_foldl,
      implies_true, only_mem, only_tb, only_axes, only_qy, only_dr, only_cw, only_sl, only_hi, only_lg, only_pn, only_me, only_mo, only_lt, only_ctr,
      entry_only]

theorem tallySetEff_only (m : Nat) (w : Entry) (d : Dev) (hO : Only S e0 d) (h_rsys : Part.regs .sys ∈ S) (h_rhm : Part.regs .hm ∈ S) (h_rhi :
    Part.regs .hi ∈ S) (h_rax : Part.regs .ax ∈ S) (h_rsl : Part.regs .sl ∈ S) (h_rqy : Part.regs .qy ∈ S) (h_rme : Part.regs .me ∈ S) (h_rpn :
    Part.regs .pn ∈ S) (h_rlt : Part.regs .lt ∈ S) (h_rbh : Part.regs .bh ∈ S) (h_rhl : Part.regs .hl ∈ S) (h_rdr : Part.regs .dr ∈ S) (h_mem :
    Part.mem ∈ S) (h_tb : Part.tb ∈ S) (h_axes : Part.axes ∈ S) (h_qy : Part.qy ∈ S) (h_dr : Part.dr ∈ S) (h_cw : Part.cw ∈ S) (h_sl : Part.sl ∈ S)
    (h_hi : Part.hi ∈ S) (h_lg : Part.lg ∈ S) (h_pn : Part.pn ∈ S) (h_me : Part.me ∈ S) (h_mo : Part.mo ∈ S) (h_lt : Part.lt ∈ S) (h_freeCtr :
    Part.ctr ∈ S) :
    Only S e0 (tallySetEff m w d) := by
  unfold tallySetEff
  simp (maxDischargeDepth := 60) only [hO, h_rsys, h_rhm, h_rhi, h_rax, h_rsl, h_rqy, h_rme, h_rpn, h_rlt, h_rbh, h_rhl, h_rdr,
      h_mem, h_tb, h_axes, h_qy, h_dr, h_cw, h_sl, h_hi, h_lg, h_pn, h_me, h_mo, h_lt, h_freeCtr, only_refl, only_ite, only_foldl, implies_true,
      only_mem, only_tb, only_axes, only_qy, only_dr, only_cw, only_sl, only_hi, only_lg, only_pn, only_me, only_mo, only_lt, only_ctr, entry_only]

theorem fenceEff_only (m : Nat) (w : Entry) (d : Dev) (hO : Only S e0 d) (h_rsys : Part.regs .sys ∈ S) (h_rhm : Part.regs .hm ∈ S) (h_rhi : Part.regs
    .hi ∈ S) (h_rax : Part.regs .ax ∈ S) (h_rsl : Part.regs .sl ∈ S) (h_rqy : Part.regs .qy ∈ S) (h_rme : Part.regs .me ∈ S) (h_rpn : Part.regs .pn ∈
    S) (h_rlt : Part.regs .lt ∈ S) (h_rbh : Part.regs .bh ∈ S) (h_rhl : Part.regs .hl ∈ S) (h_rdr : Part.regs .dr ∈ S) (h_mem : Part.mem ∈ S) (h_tb :
    Part.tb ∈ S) (h_axes : Part.axes ∈ S) (h_qy : Part.qy ∈ S) (h_dr : Part.dr ∈ S) (h_cw : Part.cw ∈ S) (h_sl : Part.sl ∈ S) (h_hi : Part.hi ∈ S)
    (h_lg : Part.lg ∈ S) (h_pn : Part.pn ∈ S) (h_me : Part.me ∈ S) (h_mo : Part.mo ∈ S) (h_lt : Part.lt ∈ S) (h_freeCtr : Part.ctr ∈ S) :
    Only S
    e0 (fenceEff m w d) := by
  unfold fenceEff
  simp (maxDischargeDepth := 60) only [hO, h_rsys, h_rhm, h_rhi, h_rax, h_rsl, h_rqy, h_rme, h_rpn, h_rlt, h_rbh, h_rhl, h_rdr,
      h_mem, h_tb, h_axes, h_qy, h_dr, h_cw, h_sl, h_hi, h_lg, h_pn, h_me, h_mo, h_lt, h_freeCtr, only_refl, only_ite, only_foldl, implies_true,
      only_mem, only_tb, only_axes, only_qy, only_dr, only_cw, only_sl, only_hi, only_lg, only_pn, only_me, only_mo, only_lt, only_ctr, entry_only]

theorem enterVigilEff_only (m : Nat) (w : Entry) (d : Dev) (hO : Only S e0 d) (h_rsys : Part.regs .sys ∈ S) (h_rhm : Part.regs .hm ∈ S) (h_rhi :
    Part.regs .hi ∈ S) (h_rax : Part.regs .ax ∈ S) (h_rsl : Part.regs .sl ∈ S) (h_rqy : Part.regs .qy ∈ S) (h_rme : Part.regs .me ∈ S) (h_rpn :
    Part.regs .pn ∈ S) (h_rlt : Part.regs .lt ∈ S) (h_rbh : Part.regs .bh ∈ S) (h_rhl : Part.regs .hl ∈ S) (h_rdr : Part.regs .dr ∈ S) (h_mem :
    Part.mem ∈ S) (h_tb : Part.tb ∈ S) (h_axes : Part.axes ∈ S) (h_qy : Part.qy ∈ S) (h_dr : Part.dr ∈ S) (h_cw : Part.cw ∈ S) (h_sl : Part.sl ∈ S)
    (h_hi : Part.hi ∈ S) (h_lg : Part.lg ∈ S) (h_pn : Part.pn ∈ S) (h_me : Part.me ∈ S) (h_mo : Part.mo ∈ S) (h_lt : Part.lt ∈ S) (h_freeCtr :
    Part.ctr ∈ S) :
    Only S e0 (enterVigilEff m w d) := by
  unfold enterVigilEff
  simp (maxDischargeDepth := 60) only [hO, h_rsys, h_rhm, h_rhi, h_rax, h_rsl, h_rqy, h_rme, h_rpn, h_rlt, h_rbh, h_rhl,
      h_rdr, h_mem, h_tb, h_axes, h_qy, h_dr, h_cw, h_sl, h_hi, h_lg, h_pn, h_me, h_mo, h_lt, h_freeCtr, only_refl, only_ite, only_foldl,
      implies_true, only_mem, only_tb, only_axes, only_qy, only_dr, only_cw, only_sl, only_hi, only_lg, only_pn, only_me, only_mo, only_lt, only_ctr,
      entry_only]

theorem issueRead_only (d : Dev) (k : ReadKind) (f addr len : Nat) (hO : Only S e0 d) (h_hi : Part.hi ∈ S) :
    Only S e0 (Dev.issueRead d k f addr
    len) := by
  unfold Dev.issueRead
  simp (maxDischargeDepth := 60) only [hO, h_hi, only_refl, only_ite, only_foldl, implies_true, only_hi]

theorem endRead_only (d : Dev) (r : Read) (hO : Only S e0 d) (h_rhi : Part.regs .hi ∈ S) (h_hi : Part.hi ∈ S) :
    Only S e0 (Dev.endRead d r) := by
  unfold Dev.endRead
  simp (maxDischargeDepth := 60) only [hO, h_rhi, h_hi, only_refl, only_ite, only_foldl, implies_true, only_hi, setFld_only,
      blk_HI_LINK_RTT_RTT_LAST]

theorem pollIssueEff_only (f : Nat) (d : Dev) (hO : Only S e0 d) (h_hi : Part.hi ∈ S) :
    Only S e0 (pollIssueEff f d) := by
  unfold pollIssueEff
  simp (maxDischargeDepth := 60) only [hO, h_hi, only_refl, only_ite, only_foldl, implies_true, only_hi, issueRead_only]

theorem ringFetch_only (d : Dev) (m : Nat) (hO : Only S e0 d) (h_hi : Part.hi ∈ S) :
    Only S e0 (Dev.ringFetch d m) := by
  unfold Dev.ringFetch
  (try dsimp only)
  (repeat' split) <;> simp (maxDischargeDepth := 60) only [hO, h_hi, only_refl, only_ite, only_foldl,
      implies_true, only_hi, issueRead_only, blk_CQ_CI_CI, blk_CQ_STAT_RSTATE]

theorem takeEntry_only (d : Dev) (m : Nat) (w : Entry) (torn : Bool) (hO : Only S e0 d) (h_rhi : Part.regs .hi ∈ S) (h_hi : Part.hi ∈ S) :
    Only S
    e0 (Dev.takeEntry d m w torn) := by
  unfold Dev.takeEntry
  simp (maxDischargeDepth := 60) only [hO, h_rhi, h_hi, only_refl, only_ite, only_foldl, implies_true, only_hi, setFld_only,
      setRing_only, blk_CQ_CI_CI, blk_CQ_STAT_RGEN]

theorem writeCi_only (d : Dev) (m : Nat) (hO : Only S e0 d) (h_hi : Part.hi ∈ S) :
    Only S e0 (Dev.writeCi d m) := by
  unfold Dev.writeCi
  (try dsimp only)
  (repeat' split) <;> simp (maxDischargeDepth := 60) only [hO, h_hi, only_refl, only_ite, only_foldl,
      implies_true, only_hi, post_only, blk_CQ_CI_CI]

theorem takeEntries_only (d : Dev) (m : Nat) (l : List Entry) (hO : Only S e0 d) (h_rhi : Part.regs .hi ∈ S) (h_hi : Part.hi ∈ S)  :
    Only S e0 (d.takeEntries m l).1 := by
  induction l generalizing d with
  | nil => unfold Dev.takeEntries; exact hO
  | cons w t ih =>
    unfold Dev.takeEntries
    repeat' split
    all_goals first
      | exact hO
      | (apply ih; simp (maxDischargeDepth := 60) only [only_refl, only_ite, only_foldl, implies_true, only_hi, setRing_only, takeEntry_only, *])
      | simp (maxDischargeDepth := 60) only [only_refl, only_ite, only_foldl, implies_true, only_hi, setRing_only, takeEntry_only, *]

theorem fetched_only (d : Dev) (m : Nat) (l : List Entry) (waits : Bool) (hO : Only S e0 d) (h_rhi : Part.regs .hi ∈ S) (h_hi : Part.hi ∈ S) :
    Only S e0 (Dev.fetched d m l waits) := by
  unfold Dev.fetched
  simp (maxDischargeDepth := 60) only [hO, h_rhi, h_hi, only_refl, only_ite, only_foldl, implies_true, only_hi, ringFetch_only,
      setRing_only, takeEntries_only, writeCi_only, blk_CQ_CI_CI]

theorem entryFetchDoneEff_only (m first : Nat) (entries : List (BitVec 512)) (d : Dev) (hO : Only S e0 d) (h_rhi : Part.regs .hi ∈ S) (h_hi : Part.hi
    ∈ S) :
    Only S e0 (entryFetchDoneEff m first entries d) := by
  unfold entryFetchDoneEff
  (try dsimp only)
  (repeat' split) <;> simp (maxDischargeDepth := 60) only [hO, h_rhi, h_hi, only_refl, only_ite,
      only_foldl, implies_true, only_hi, endRead_only, fetched_only, ringFetch_only, blk_CQ_CI_CI, blk_CQ_STAT_RSTATE]

theorem phaseRereadEff_only (m : Nat) (w : BitVec 512) (d : Dev) (hO : Only S e0 d) (h_rhi : Part.regs .hi ∈ S) (h_hi : Part.hi ∈ S) :
    Only S e0
    (phaseRereadEff m w d) := by
  unfold phaseRereadEff
  simp (maxDischargeDepth := 60) only [hO, h_rhi, h_hi, only_refl, only_ite, only_foldl, implies_true, only_hi, count_only,
      ringFetch_only, setRing_only, takeEntry_only, writeCi_only, blk_CQ_ERR_PHASE_CNT, blk_CQ_STAT_RSTATE]

theorem summaryChange_only (d : Dev) (f : Nat) (hO : Only S e0 d) (h_hi : Part.hi ∈ S) :
    Only S e0 (Dev.summaryChange d f) := by
  unfold Dev.summaryChange
  simp (maxDischargeDepth := 60) only [hO, h_hi, only_refl, only_ite, only_foldl, implies_true, only_hi, issueRead_only,
      blk_CQ_CFG_PREFETCH, blk_CQ_CI_CI, blk_CQ_STAT_RSTATE]

theorem pollResponseEff_only (f : Nat) (summary : BitVec 64) (d : Dev) (hO : Only S e0 d) (h_rhi : Part.regs .hi ∈ S) (h_hi : Part.hi ∈ S) :
    Only
    S e0 (pollResponseEff f summary d) := by
  unfold pollResponseEff
  (try dsimp only)
  (repeat' split) <;> simp (maxDischargeDepth := 60) only [hO, h_rhi, h_hi, only_refl, only_ite,
      only_foldl, implies_true, only_hi, endRead_only, setFld_only, summaryChange_only, blk_HI_SUM_SUMMARY]

theorem newPi_only (d : Dev) (m v : Nat) (hO : Only S e0 d) (h_rhi : Part.regs .hi ∈ S) (h_hi : Part.hi ∈ S) :
    Only S e0 (Dev.newPi d m v) := by
  unfold Dev.newPi
  simp (maxDischargeDepth := 60) only [hO, h_rhi, h_hi, only_refl, only_ite, only_foldl, implies_true, only_hi, fetched_only,
      ringFetch_only, setRing_only, blk_CQ_CI_CI, blk_CQ_STAT_RSTATE]

theorem newCi_only (d : Dev) (q v : Nat) (hO : Only S e0 d) (h_rsl : Part.regs .sl ∈ S) (h_hi : Part.hi ∈ S) :
    Only S e0 (Dev.newCi d q v) := by
  unfold Dev.newCi
  simp (maxDischargeDepth := 60) only [hO, h_rsl, h_hi, only_refl, only_ite, only_foldl, implies_true, only_hi, notifyQueue_only,
      setFld_only, blk_HQ_CI_CI, blk_HQ_PI_PI, blk_HQ_STAT_QSTATE]

theorem indexLineDoneEff_only (f line : Nat) (data : BitVec 512) (d : Dev) (hO : Only S e0 d) (h_rhi : Part.regs .hi ∈ S) (h_rsl : Part.regs .sl ∈ S)
    (h_hi : Part.hi ∈ S) (h_lt : Part.lt ∈ S) :
    Only S e0 (indexLineDoneEff f line data d) := by
  unfold indexLineDoneEff
  (try dsimp only)
  (repeat' split) <;> simp (maxDischargeDepth := 60) only [hO, h_rhi, h_rsl, h_hi, h_lt, only_refl,
      only_ite, only_foldl, implies_true, only_hi, only_lt, endRead_only, ltNewPi_only, newCi_only, newPi_only]

theorem rttProbeEff_only (d : Dev) (hO : Only S e0 d) (h_hi : Part.hi ∈ S) :
    Only S e0 (rttProbeEff d) := by
  unfold rttProbeEff
  simp (maxDischargeDepth := 60) only [hO, h_hi, only_refl, only_ite, only_foldl, implies_true, only_hi, issueRead_only]

theorem wrProbeEff_only (d : Dev) (hO : Only S e0 d) (h_hi : Part.hi ∈ S) :
    Only S e0 (wrProbeEff d) := by
  unfold wrProbeEff
  simp (maxDischargeDepth := 60) only [hO, h_hi, only_refl, only_ite, only_foldl, implies_true, only_hi, issueRead_only]

theorem wrProbeDoneEff_only (d : Dev) (hO : Only S e0 d) (h_rhi : Part.regs .hi ∈ S) (h_hi : Part.hi ∈ S) :
    Only S e0 (wrProbeDoneEff d) := by
  unfold wrProbeDoneEff
  (try dsimp only)
  (repeat' split) <;> simp (maxDischargeDepth := 60) only [hO, h_rhi, h_hi, only_refl, only_ite,
      only_foldl, implies_true, only_hi, setFld_only, blk_HI_LINK_WR_WR_MAX]

theorem raiseLink_only (d : Dev) (event : Nat) (hO : Only S e0 d) (h_sl : Part.sl ∈ S) :
    Only S e0 (Dev.raiseLink d event) := by
  unfold Dev.raiseLink
  simp (maxDischargeDepth := 60) only [hO, h_sl, only_refl, only_ite, only_foldl, implies_true, only_sl, raiseSys_only]

theorem fallAsleep_only (d old : Dev) (hO : Only S e0 d) (h_hi : Part.hi ∈ S)  :
    Only S e0 (d.fallAsleep old) := by
  unfold Dev.fallAsleep
  apply only_foldl _ hO
  intro x a
  simp (maxDischargeDepth := 60) only [only_refl, only_ite, only_foldl, implies_true, only_hi, sleepCheck_only, *]

theorem awaken_only (d : Dev) (hO : Only S e0 d) (h_hi : Part.hi ∈ S) :
    Only S e0 (Dev.awaken d) := by
  unfold Dev.awaken
  simp (maxDischargeDepth := 60) only [hO, h_hi, only_refl, only_ite, only_foldl, implies_true, only_hi, msixFlush_only,
      setFunc_only]

theorem linkLost_only (d : Dev) (hO : Only S e0 d) (h_rhi : Part.regs .hi ∈ S) (h_rsl : Part.regs .sl ∈ S) (h_sl : Part.sl ∈ S) (h_hi : Part.hi ∈ S)
    :
    Only S e0 (Dev.linkLost d) := by
  unfold Dev.linkLost
  simp (maxDischargeDepth := 60) only [hO, h_rhi, h_rsl, h_sl, h_hi, only_refl, only_ite, only_foldl, implies_true, only_sl,
      only_hi, count_only, raiseLink_only, restageAll_only, setFld_only, setRing_only, blk_HI_LINK_DOWN_CNT, blk_HI_LINK_UP]

theorem fnReset_only (d : Dev) (f : Nat) (hO : Only S e0 d) (h_rhi : Part.regs .hi ∈ S) (h_rsl : Part.regs .sl ∈ S) (h_rlt : Part.regs .lt ∈ S) (h_sl
    : Part.sl ∈ S) (h_hi : Part.hi ∈ S) (h_lg : Part.lg ∈ S) (h_lt : Part.lt ∈ S) :
    Only S e0 (Dev.fnReset d f) := by
  unfold Dev.fnReset
  simp (maxDischargeDepth := 60) only [hO, h_rhi, h_rsl, h_rlt, h_sl, h_hi, h_lg, h_lt, only_refl, only_ite, only_foldl,
      implies_true, only_sl, only_hi, only_lg, only_lt, clearFld_only, hqHold_only, ltHostReset_only, ringReset_only, setFld_only, setFunc_only,
      blk_HI_POLL_OUTSTANDING, blk_HI_POLL_POLL, blk_HI_SLAB_BASE, blk_HQ_CFG_EN]

theorem setVFs_only (d : Dev) (n : Nat) (hO : Only S e0 d) (h_rhi : Part.regs .hi ∈ S) (h_rsl : Part.regs .sl ∈ S) (h_rlt : Part.regs .lt ∈ S) (h_sl
    : Part.sl ∈ S) (h_hi : Part.hi ∈ S) (h_lg : Part.lg ∈ S) (h_lt : Part.lt ∈ S) :
    Only S e0 (Dev.setVFs d n) := by
  unfold Dev.setVFs
  simp (maxDischargeDepth := 60) only [hO, h_rhi, h_rsl, h_rlt, h_sl, h_hi, h_lg, h_lt, only_refl, only_ite, only_foldl,
      implies_true, only_sl, only_hi, only_lg, only_lt, fnReset_only]

theorem hostReset_only (d : Dev) (hO : Only S e0 d) (h_rsys : Part.regs .sys ∈ S) (h_rhi : Part.regs .hi ∈ S) (h_rsl : Part.regs .sl ∈ S) (h_rlt :
    Part.regs .lt ∈ S) (h_sl : Part.sl ∈ S) (h_hi : Part.hi ∈ S) (h_lg : Part.lg ∈ S) (h_lt : Part.lt ∈ S) :
    Only S e0 (Dev.hostReset d) := by
  unfold Dev.hostReset
  simp (maxDischargeDepth := 60) only [hO, h_rsys, h_rhi, h_rsl, h_rlt, h_sl, h_hi, h_lg, h_lt, only_refl, only_ite,
      only_foldl, implies_true, only_sl, only_hi, only_lg, only_lt, fnReset_only, linkLost_only, setFld_only, setFunc_only, blk_SYS_BOOT_STAGE]

theorem perstEff_only (d : Dev) (hO : Only S e0 d) (h_rsys : Part.regs .sys ∈ S) (h_rhi : Part.regs .hi ∈ S) (h_rsl : Part.regs .sl ∈ S) (h_rlt :
    Part.regs .lt ∈ S) (h_sl : Part.sl ∈ S) (h_hi : Part.hi ∈ S) (h_lg : Part.lg ∈ S) (h_lt : Part.lt ∈ S) :
    Only S e0 (perstEff d) := by
  unfold perstEff
  simp (maxDischargeDepth := 60) only [hO, h_rsys, h_rhi, h_rsl, h_rlt, h_sl, h_hi, h_lg, h_lt, only_refl, only_ite, only_foldl,
      implies_true, only_sl, only_hi, only_lg, only_lt, fallAsleep_only, hostReset_only, raiseLink_only, setFld_only, blk_HI_LINK_PERST]

theorem perstReleaseEff_only (d : Dev) (hO : Only S e0 d) (h_rhi : Part.regs .hi ∈ S) (h_sl : Part.sl ∈ S) (h_hi : Part.hi ∈ S) :
    Only S e0
    (perstReleaseEff d) := by
  unfold perstReleaseEff
  simp (maxDischargeDepth := 60) only [hO, h_rhi, h_sl, h_hi, only_refl, only_ite, only_foldl, implies_true, only_sl,
      only_hi, awaken_only, raiseLink_only, setFld_only, blk_HI_LINK_PERST]

theorem hotResetEff_only (d : Dev) (hO : Only S e0 d) (h_rsys : Part.regs .sys ∈ S) (h_rhi : Part.regs .hi ∈ S) (h_rsl : Part.regs .sl ∈ S) (h_rlt :
    Part.regs .lt ∈ S) (h_sl : Part.sl ∈ S) (h_hi : Part.hi ∈ S) (h_lg : Part.lg ∈ S) (h_lt : Part.lt ∈ S) :
    Only S e0 (hotResetEff d) := by
  unfold hotResetEff
  simp (maxDischargeDepth := 60) only [hO, h_rsys, h_rhi, h_rsl, h_rlt, h_sl, h_hi, h_lg, h_lt, only_refl, only_ite, only_foldl,
      implies_true, only_sl, only_hi, only_lg, only_lt, fallAsleep_only, hostReset_only]

theorem flrEff_only (f : Nat) (d : Dev) (hO : Only S e0 d) (h_rhi : Part.regs .hi ∈ S) (h_rsl : Part.regs .sl ∈ S) (h_rlt : Part.regs .lt ∈ S) (h_sl
    : Part.sl ∈ S) (h_hi : Part.hi ∈ S) (h_lg : Part.lg ∈ S) (h_lt : Part.lt ∈ S) :
    Only S e0 (flrEff f d) := by
  unfold flrEff
  simp (maxDischargeDepth := 60) only [hO, h_rhi, h_rsl, h_rlt, h_sl, h_hi, h_lg, h_lt, only_refl, only_ite, only_foldl,
      implies_true, only_sl, only_hi, only_lg, only_lt, fnReset_only, setVFs_only]

theorem linkDownEff_only (d : Dev) (hO : Only S e0 d) (h_rhi : Part.regs .hi ∈ S) (h_rsl : Part.regs .sl ∈ S) (h_sl : Part.sl ∈ S) (h_hi : Part.hi ∈
    S) :
    Only S e0 (linkDownEff d) := by
  unfold linkDownEff
  simp (maxDischargeDepth := 60) only [hO, h_rhi, h_rsl, h_sl, h_hi, only_refl, only_ite, only_foldl, implies_true, only_sl,
      only_hi, fallAsleep_only, linkLost_only]

theorem linkUpEff_only (speed : BitVec 2) (width : BitVec 3) (d : Dev) (hO : Only S e0 d) (h_rhi : Part.regs .hi ∈ S) (h_sl : Part.sl ∈ S) (h_hi :
    Part.hi ∈ S) :
    Only S e0 (linkUpEff speed width d) := by
  unfold linkUpEff
  simp (maxDischargeDepth := 60) only [hO, h_rhi, h_sl, h_hi, only_refl, only_ite, only_foldl, implies_true, only_sl, only_hi,
      awaken_only, raiseLink_only, setFld_only, blk_HI_LINK_PERST, blk_HI_LINK_SPEED, blk_HI_LINK_UP, blk_HI_LINK_WIDTH]

theorem bmeChangeEff_only (f : Nat) (on : Bool) (d : Dev) (hO : Only S e0 d) (h_rhi : Part.regs .hi ∈ S) (h_hi : Part.hi ∈ S) :
    Only S e0
    (bmeChangeEff f on d) := by
  unfold bmeChangeEff
  simp (maxDischargeDepth := 60) only [hO, h_rhi, h_hi, only_refl, only_ite, only_foldl, implies_true, only_hi, msixFlush_only,
      ringFetch_only, ringMode_only, setFunc_only]

theorem setD3_only (d : Dev) (f : Nat) (on : Bool) (hO : Only S e0 d) (h_rhi : Part.regs .hi ∈ S) (h_hi : Part.hi ∈ S) :
    Only S e0 (Dev.setD3 d f
    on) := by
  unfold Dev.setD3
  simp (maxDischargeDepth := 60) only [hO, h_rhi, h_hi, only_refl, only_ite, only_foldl, implies_true, only_hi, ringFetch_only,
      ringMode_only, setFunc_only]

theorem powerStateChangeEff_only (ch : PowerChange) (d : Dev) (hO : Only S e0 d) (h_rhi : Part.regs .hi ∈ S) (h_hi : Part.hi ∈ S) :
    Only S e0
    (powerStateChangeEff ch d) := by
  unfold powerStateChangeEff
  (try dsimp only)
  (repeat' split) <;> simp (maxDischargeDepth := 60) only [hO, h_rhi, h_hi, only_refl, only_ite,
      only_foldl, implies_true, only_hi, awaken_only, fallAsleep_only, setD3_only, blk_HI_LINK_UP]

theorem msixUnmaskEff_only (f : Nat) (what : MsixOp) (d : Dev) (hO : Only S e0 d) (h_hi : Part.hi ∈ S) :
    Only S e0 (msixUnmaskEff f what d) := by
  unfold msixUnmaskEff
  simp (maxDischargeDepth := 60) only [hO, h_hi, only_refl, only_ite, only_foldl, implies_true, only_hi, msixFlush_only,
      setFunc_only]

theorem msixMaskEff_only (f : Nat) (what : MsixOp) (d : Dev) (hO : Only S e0 d) (h_hi : Part.hi ∈ S) :
    Only S e0 (msixMaskEff f what d) := by
  unfold msixMaskEff
  simp (maxDischargeDepth := 60) only [hO, h_hi, only_refl, only_ite, only_foldl, implies_true, only_hi, setFunc_only]

theorem pmeResendEff_only (f : Nat) (d : Dev) (hO : Only S e0 d) (h_hi : Part.hi ∈ S) :
    Only S e0 (pmeResendEff f d) := by
  unfold pmeResendEff
  simp (maxDischargeDepth := 60) only [hO, h_hi, only_refl, only_ite, only_foldl, implies_true, only_hi, post_only, setFunc_only]

theorem pmeControlWriteEff_only (f : Nat) (en clear : Bool) (d : Dev) (hO : Only S e0 d) (h_hi : Part.hi ∈ S) :
    Only S e0 (pmeControlWriteEff f
    en clear d) := by
  unfold pmeControlWriteEff
  simp (maxDischargeDepth := 60) only [hO, h_hi, only_refl, only_ite, only_foldl, implies_true, only_hi, setFunc_only]

theorem numvfsWriteEff_only (n : Nat) (d : Dev) (hO : Only S e0 d) (h_rhi : Part.regs .hi ∈ S) (h_rsl : Part.regs .sl ∈ S) (h_rlt : Part.regs .lt ∈
    S) (h_sl : Part.sl ∈ S) (h_hi : Part.hi ∈ S) (h_lg : Part.lg ∈ S) (h_lt : Part.lt ∈ S) :
    Only S e0 (numvfsWriteEff n d) := by
  unfold numvfsWriteEff
  simp (maxDischargeDepth := 60) only [hO, h_rhi, h_rsl, h_rlt, h_sl, h_hi, h_lg, h_lt, only_refl, only_ite, only_foldl,
      implies_true, only_sl, only_hi, only_lg, only_lt, setVFs_only]

theorem tapTest_only (d : Dev) (f : Tap → Tap) (hO : Only S e0 d) (h_tap : Part.tap ∈ S) :
    Only S e0 (Dev.tapTest d f) := by
  unfold Dev.tapTest
  simp (maxDischargeDepth := 60) only [hO, h_tap, only_refl, only_ite, only_foldl, implies_true, only_tap]

theorem tapAny_only (d : Dev) (f : Tap → Tap) (hO : Only S e0 d) (h_tap : Part.tap ∈ S) :
    Only S e0 (Dev.tapAny d f) := by
  unfold Dev.tapAny
  simp (maxDischargeDepth := 60) only [hO, h_tap, only_refl, only_ite, only_foldl, implies_true, only_tap]

theorem jtagTrstEff_only (d : Dev) (hO : Only S e0 d) (h_tap : Part.tap ∈ S) :
    Only S e0 (jtagTrstEff d) := by
  unfold jtagTrstEff
  simp (maxDischargeDepth := 60) only [hO, h_tap, only_refl, only_ite, only_foldl, implies_true, only_tap, tapAny_only]

theorem extestEff_only (lvl oe : BitVec 128) (d : Dev) (hO : Only S e0 d) (h_tap : Part.tap ∈ S) :
    Only S e0 (extestEff lvl oe d) := by
  unfold extestEff
  simp (maxDischargeDepth := 60) only [hO, h_tap, only_refl, only_ite, only_foldl, implies_true, only_tap, tapTest_only]

theorem clampEff_only (d : Dev) (hO : Only S e0 d) (h_tap : Part.tap ∈ S) :
    Only S e0 (clampEff d) := by
  unfold clampEff
  simp (maxDischargeDepth := 60) only [hO, h_tap, only_refl, only_ite, only_foldl, implies_true, only_tap, tapTest_only]

theorem highzEff_only (d : Dev) (hO : Only S e0 d) (h_tap : Part.tap ∈ S) :
    Only S e0 (highzEff d) := by
  unfold highzEff
  simp (maxDischargeDepth := 60) only [hO, h_tap, only_refl, only_ite, only_foldl, implies_true, only_tap, tapTest_only]

theorem intestEff_only (lvl : BitVec 128) (d : Dev) (hO : Only S e0 d) (h_tap : Part.tap ∈ S) :
    Only S e0 (intestEff lvl d) := by
  unfold intestEff
  simp (maxDischargeDepth := 60) only [hO, h_tap, only_refl, only_ite, only_foldl, implies_true, only_tap, tapTest_only]

theorem bypassEff_only (d : Dev) (hO : Only S e0 d) (h_tap : Part.tap ∈ S) :
    Only S e0 (bypassEff d) := by
  unfold bypassEff
  simp (maxDischargeDepth := 60) only [hO, h_tap, only_refl, only_ite, only_foldl, implies_true, only_tap, tapAny_only]

theorem idcodeEff_only (d : Dev) (hO : Only S e0 d) (h_tap : Part.tap ∈ S) :
    Only S e0 (idcodeEff d) := by
  unfold idcodeEff
  simp (maxDischargeDepth := 60) only [hO, h_tap, only_refl, only_ite, only_foldl, implies_true, only_tap, tapAny_only]

theorem sampleEff_only (d : Dev) (hO : Only S e0 d) (h_tap : Part.tap ∈ S) :
    Only S e0 (sampleEff d) := by
  unfold sampleEff
  simp (maxDischargeDepth := 60) only [hO, h_tap, only_refl, only_ite, only_foldl, implies_true, only_tap, tapAny_only]

theorem preloadEff_only (lvl oe : BitVec 128) (d : Dev) (hO : Only S e0 d) (h_tap : Part.tap ∈ S) :
    Only S e0 (preloadEff lvl oe d) := by
  unfold preloadEff
  simp (maxDischargeDepth := 60) only [hO, h_tap, only_refl, only_ite, only_foldl, implies_true, only_tap, tapAny_only]

theorem ringWrite_only (d : Dev) (c : Cmd) (hO : Only S e0 d) (h_rsys : Part.regs .sys ∈ S) (h_rhi : Part.regs .hi ∈ S) (h_rsl : Part.regs .sl ∈ S)
    (h_rqy : Part.regs .qy ∈ S) (h_qy : Part.qy ∈ S) (h_pins : Part.pins ∈ S) (h_sl : Part.sl ∈ S) (h_hi : Part.hi ∈ S) (h_lg : Part.lg ∈ S) (h_pn :
    Part.pn ∈ S) :
    Only S e0 (Dev.ringWrite d c) := by
  unfold Dev.ringWrite
  (try dsimp only)
  (repeat' split) <;> simp (maxDischargeDepth := 60) only [hO, h_rsys, h_rhi, h_rsl, h_rqy, h_qy, h_pins,
      h_sl, h_hi, h_lg, h_pn, only_refl, only_ite, only_foldl, implies_true, only_qy, only_pins, only_sl, only_hi, only_lg, only_pn, armCmd_only,
      disarmCmd_only, updateCmd_only]

theorem ringWrites_only (d : Dev) (c : Nat) (hO : Only S e0 d) (h_rsys : Part.regs .sys ∈ S) (h_rhi : Part.regs .hi ∈ S) (h_rsl : Part.regs .sl ∈ S)
    (h_rqy : Part.regs .qy ∈ S) (h_qy : Part.qy ∈ S) (h_pins : Part.pins ∈ S) (h_sl : Part.sl ∈ S) (h_hi : Part.hi ∈ S) (h_lg : Part.lg ∈ S) (h_pn :
    Part.pn ∈ S) :
    Only S e0 (Dev.ringWrites d c) := by
  unfold Dev.ringWrites
  simp (maxDischargeDepth := 60) only [hO, h_rsys, h_rhi, h_rsl, h_rqy, h_qy, h_pins, h_sl, h_hi, h_lg, h_pn, only_refl,
      only_ite, only_foldl, implies_true, only_qy, only_pins, only_sl, only_hi, only_lg, only_pn, ringWrite_only, setChan_only]

theorem slotTaken_only (d : Dev) (c : Nat) (hO : Only S e0 d) (h_qy : Part.qy ∈ S) :
    Only S e0 (Dev.slotTaken d c) := by
  unfold Dev.slotTaken
  simp (maxDischargeDepth := 60) only [hO, h_qy, only_refl, only_ite, only_foldl, implies_true, only_qy, setQuay_only]

theorem qpAccesses_only (d : Dev) (c : Nat) (hO : Only S e0 d) (h_rsys : Part.regs .sys ∈ S) (h_rhi : Part.regs .hi ∈ S) (h_rsl : Part.regs .sl ∈ S) (h_rqy : Part.regs .qy ∈ S) (h_rme : Part.regs .me ∈ S) (h_rbh : Part.regs .bh ∈ S) (h_rdr : Part.regs .dr ∈ S) (h_qy : Part.qy ∈ S) (h_pins : Part.pins ∈ S) (h_dr : Part.dr ∈ S) (h_sl : Part.sl ∈ S) (h_hi : Part.hi ∈ S) (h_lg : Part.lg ∈ S) (h_pn : Part.pn ∈ S) (h_me : Part.me ∈ S) (h_mo : Part.mo ∈ S)  :
    Only S e0 (d.qpAccesses c).1 := by
  unfold Dev.qpAccesses
  apply only_foldl2 _ hO
  intro x a
  split
  all_goals
    rename_i h
    exact only_fst (qpAccess_only _ _ (only_refl _ _) h_rsys h_rhi h_rsl h_rqy h_rme h_rbh h_rdr h_qy h_pins h_dr h_sl h_hi h_lg h_pn h_me h_mo) h

theorem slot_only (d : Dev) (c : Nat) (hO : Only S e0 d) (h_rsys : Part.regs .sys ∈ S) (h_rhi : Part.regs .hi ∈ S) (h_rax : Part.regs .ax ∈ S) (h_rsl
    : Part.regs .sl ∈ S) (h_rqy : Part.regs .qy ∈ S) (h_rme : Part.regs .me ∈ S) (h_rbh : Part.regs .bh ∈ S) (h_rdr : Part.regs .dr ∈ S) (h_mem :
    Part.mem ∈ S) (h_tb : Part.tb ∈ S) (h_axes : Part.axes ∈ S) (h_qy : Part.qy ∈ S) (h_pins : Part.pins ∈ S) (h_dr : Part.dr ∈ S) (h_cw : Part.cw ∈
    S) (h_sl : Part.sl ∈ S) (h_hi : Part.hi ∈ S) (h_lg : Part.lg ∈ S) (h_sf : Part.sf ∈ S) (h_pn : Part.pn ∈ S) (h_me : Part.me ∈ S) (h_mo : Part.mo
    ∈ S) (h_freeCtr : Part.ctr ∈ S) :
    Only S e0 (Dev.slot d c) := by
  unfold Dev.slot
  simp (maxDischargeDepth := 60) only [hO, h_rsys, h_rhi, h_rax, h_rsl, h_rqy, h_rme, h_rbh, h_rdr, h_mem, h_tb, h_axes, h_qy,
      h_pins, h_dr, h_cw, h_sl, h_hi, h_lg, h_sf, h_pn, h_me, h_mo, h_freeCtr, only_refl, only_ite, only_foldl, implies_true, only_mem, only_tb,
      only_axes, only_qy, only_pins, only_dr, only_cw, only_sl, only_hi, only_lg, only_sf, only_pn, only_me, only_mo, only_ctr, qpAccesses_only,
      qpCommit_only, ringWrites_only, slotTaken_only, visit_only]

theorem scanVisitEff_only (c : Nat) (parity : Bool) (d : Dev) (hO : Only S e0 d) (h_rsys : Part.regs .sys ∈ S) (h_rhi : Part.regs .hi ∈ S) (h_rax :
    Part.regs .ax ∈ S) (h_rsl : Part.regs .sl ∈ S) (h_rqy : Part.regs .qy ∈ S) (h_rme : Part.regs .me ∈ S) (h_rbh : Part.regs .bh ∈ S) (h_rdr :
    Part.regs .dr ∈ S) (h_mem : Part.mem ∈ S) (h_tb : Part.tb ∈ S) (h_axes : Part.axes ∈ S) (h_qy : Part.qy ∈ S) (h_pins : Part.pins ∈ S) (h_dr :
    Part.dr ∈ S) (h_cw : Part.cw ∈ S) (h_sl : Part.sl ∈ S) (h_hi : Part.hi ∈ S) (h_lg : Part.lg ∈ S) (h_sf : Part.sf ∈ S) (h_pn : Part.pn ∈ S) (h_me
    : Part.me ∈ S) (h_mo : Part.mo ∈ S) (h_freeCtr : Part.ctr ∈ S) :
    Only S e0 (scanVisitEff c parity d) := by
  unfold scanVisitEff
  simp (maxDischargeDepth := 60) only [hO, h_rsys, h_rhi, h_rax, h_rsl, h_rqy, h_rme, h_rbh, h_rdr, h_mem, h_tb, h_axes, h_qy,
      h_pins, h_dr, h_cw, h_sl, h_hi, h_lg, h_sf, h_pn, h_me, h_mo, h_freeCtr, only_refl, only_ite, only_foldl, implies_true, only_mem, only_tb,
      only_axes, only_qy, only_pins, only_dr, only_cw, only_sl, only_hi, only_lg, only_sf, only_pn, only_me, only_mo, only_ctr, setChan_only,
      slot_only, suspect_only]

theorem qpSlotEff_only (ops : List Nat) (p : Nat) (d : Dev) (hO : Only S e0 d) (h_rsys : Part.regs .sys ∈ S) (h_rhi : Part.regs .hi ∈ S) (h_rax :
    Part.regs .ax ∈ S) (h_rsl : Part.regs .sl ∈ S) (h_rqy : Part.regs .qy ∈ S) (h_rme : Part.regs .me ∈ S) (h_rbh : Part.regs .bh ∈ S) (h_rdr :
    Part.regs .dr ∈ S) (h_mem : Part.mem ∈ S) (h_tb : Part.tb ∈ S) (h_axes : Part.axes ∈ S) (h_qy : Part.qy ∈ S) (h_pins : Part.pins ∈ S) (h_dr :
    Part.dr ∈ S) (h_cw : Part.cw ∈ S) (h_sl : Part.sl ∈ S) (h_hi : Part.hi ∈ S) (h_lg : Part.lg ∈ S) (h_sf : Part.sf ∈ S) (h_pn : Part.pn ∈ S) (h_me
    : Part.me ∈ S) (h_mo : Part.mo ∈ S) (h_freeCtr : Part.ctr ∈ S) :
    Only S e0 (qpSlotEff ops p d) := by
  unfold qpSlotEff
  (try dsimp only)
  (repeat' split) <;> simp (maxDischargeDepth := 60) only [hO, h_rsys, h_rhi, h_rax, h_rsl, h_rqy, h_rme,
      h_rbh, h_rdr, h_mem, h_tb, h_axes, h_qy, h_pins, h_dr, h_cw, h_sl, h_hi, h_lg, h_sf, h_pn, h_me, h_mo, h_freeCtr, only_refl, only_ite,
      only_foldl, implies_true, only_mem, only_tb, only_axes, only_qy, only_pins, only_dr, only_cw, only_sl, only_hi, only_lg, only_sf, only_pn,
      only_me, only_mo, only_ctr, slot_only]

theorem vernierTick_only (d : Dev) (p : Nat) (hO : Only S e0 d) (h_rsys : Part.regs .sys ∈ S) (h_rhi : Part.regs .hi ∈ S) (h_rsl : Part.regs .sl ∈ S)
    (h_rqy : Part.regs .qy ∈ S) (h_qy : Part.qy ∈ S) (h_sl : Part.sl ∈ S) (h_hi : Part.hi ∈ S) (h_lg : Part.lg ∈ S) :
    Only S e0 (Dev.vernierTick
    d p) := by
  unfold Dev.vernierTick
  (try dsimp only)
  (repeat' split) <;> simp (maxDischargeDepth := 60) only [hO, h_rsys, h_rhi, h_rsl, h_rqy, h_qy, h_sl,
      h_hi, h_lg, only_refl, only_ite, only_foldl, implies_true, only_qy, only_sl, only_hi, only_lg, setFld_only, vernierBad_only,
      blk_QY_DIAG_VCAL_OK]

theorem coreTick_only (d : Dev) (hO : Only S e0 d) (h_rsys : Part.regs .sys ∈ S) (h_rhi : Part.regs .hi ∈ S) (h_rwt : Part.regs .wt ∈ S) (h_rsl :
    Part.regs .sl ∈ S) (h_rqy : Part.regs .qy ∈ S) (h_rbh : Part.regs .bh ∈ S) (h_rdr : Part.regs .dr ∈ S) (h_tb : Part.tb ∈ S) (h_trk : Part.trk ∈
    S) (h_qy : Part.qy ∈ S) (h_pins : Part.pins ∈ S) (h_dr : Part.dr ∈ S) (h_cw : Part.cw ∈ S) (h_sl : Part.sl ∈ S) (h_hi : Part.hi ∈ S) (h_lg :
    Part.lg ∈ S) (h_pn : Part.pn ∈ S) (h_me : Part.me ∈ S) (h_freeCtr : Part.ctr ∈ S) :
    Only S e0 (Dev.coreTick d) := by
  unfold Dev.coreTick
  simp (maxDischargeDepth := 60) only [hO, h_rsys, h_rhi, h_rwt, h_rsl, h_rqy, h_rbh, h_rdr, h_tb, h_trk, h_qy, h_pins, h_dr,
      h_cw, h_sl, h_hi, h_lg, h_pn, h_me, h_freeCtr, only_refl, only_ite, only_foldl, implies_true, only_tb, only_trk, only_qy, only_pins, only_dr,
      only_cw, only_sl, only_hi, only_lg, only_pn, only_me, only_ctr, autoTick_only, fences_only, meTick_only, pnTick_only, ringFetch_only,
      sampleCycle_only, tclk_only, vernierTick_only, wtCycle_only, blk_AX0_STATUS_STATE]

theorem tickEff_only (d : Dev) (hO : Only S e0 d) (h_rsys : Part.regs .sys ∈ S) (h_rhi : Part.regs .hi ∈ S) (h_rwt : Part.regs .wt ∈ S) (h_rsl :
    Part.regs .sl ∈ S) (h_rqy : Part.regs .qy ∈ S) (h_rbh : Part.regs .bh ∈ S) (h_rdr : Part.regs .dr ∈ S) (h_tb : Part.tb ∈ S) (h_trk : Part.trk ∈
    S) (h_qy : Part.qy ∈ S) (h_pins : Part.pins ∈ S) (h_dr : Part.dr ∈ S) (h_cw : Part.cw ∈ S) (h_sl : Part.sl ∈ S) (h_hi : Part.hi ∈ S) (h_lg :
    Part.lg ∈ S) (h_pn : Part.pn ∈ S) (h_me : Part.me ∈ S) (h_vg : Part.vg ∈ S) (h_freeCtr : Part.ctr ∈ S) :
    Only S e0 (tickEff d) := by
  unfold tickEff
  simp (maxDischargeDepth := 60) only [hO, h_rsys, h_rhi, h_rwt, h_rsl, h_rqy, h_rbh, h_rdr, h_tb, h_trk, h_qy, h_pins, h_dr, h_cw,
      h_sl, h_hi, h_lg, h_pn, h_me, h_vg, h_freeCtr, only_refl, only_ite, only_foldl, implies_true, only_tb, only_trk, only_qy, only_pins, only_dr,
      only_cw, only_sl, only_hi, only_lg, only_pn, only_me, only_vg, only_ctr, coreTick_only]

end Sys2Proof.Machine
end

