-- ==== Sys2Proof/Laws/FrameRows.lean ====
section
/-! SUPPORT. The rows: the opcode and OPT of a ring row's entry, what a ring row may change, and what the four kinds of meaning keep. -/

set_option linter.unusedVariables false
set_option linter.unusedTactic false
set_option linter.unreachableTactic false
set_option exponentiation.threshold 600

namespace Sys2Proof.Machine
open Sys2Proof

theorem cut_put_same (v lo len x : Nat) : cut (put v lo len x) lo len = x % 2 ^ len := by
  unfold put cut
  simp only [Nat.shiftRight_eq_div_pow, Nat.shiftLeft_eq]
  have h0 : 0 < 2 ^ lo := Nat.two_pow_pos lo
  have hv := Nat.div_add_mod v (2 ^ lo)
  have hq := Nat.div_add_mod (v / 2 ^ lo) (2 ^ len)
  set a := v % 2 ^ lo with ha
  set q := v / 2 ^ lo with hq'
  set r := q % 2 ^ len with hr
  set k := q / 2 ^ len with hk
  have ha' : a < 2 ^ lo := Nat.mod_lt _ h0
  have e : v - r * 2 ^ lo + x % 2 ^ len * 2 ^ lo = a + 2 ^ lo * (2 ^ len * k + x % 2 ^ len) := by
    have : v = a + 2 ^ lo * (2 ^ len * k + r) := by rw [hq]; omega
    rw [this]
    have h2 : r * 2 ^ lo = 2 ^ lo * r := Nat.mul_comm _ _
    rw [h2, Nat.mul_add, Nat.mul_add, Nat.mul_comm (x % 2 ^ len)]
    omega
  rw [e, Nat.add_mul_div_left _ _ h0, Nat.div_eq_of_lt ha', Nat.zero_add, Nat.mul_add_mod, Nat.mod_mod]

theorem cut_put_ne (v lo len x a n : Nat) (h : a + n ≤ lo ∨ lo + len ≤ a) : cut (put v lo len x) a n = cut v a n := by
  unfold put cut
  simp only [Nat.shiftRight_eq_div_pow, Nat.shiftLeft_eq]
  have h0 : 0 < 2 ^ lo := Nat.two_pow_pos lo
  have hv := Nat.div_add_mod v (2 ^ lo)
  have hq := Nat.div_add_mod (v / 2 ^ lo) (2 ^ len)
  set b := v % 2 ^ lo with hb
  set q := v / 2 ^ lo with hq'
  set r := q % 2 ^ len with hr
  set k := q / 2 ^ len with hk
  have hb' : b < 2 ^ lo := Nat.mod_lt _ h0
  have hr' : r < 2 ^ len := Nat.mod_lt _ (Nat.two_pow_pos len)
  have hx' : x % 2 ^ len < 2 ^ len := Nat.mod_lt _ (Nat.two_pow_pos len)
  have ev : v = b + 2 ^ lo * (2 ^ len * k + r) := by rw [hq]; omega
  have e : v - r * 2 ^ lo + x % 2 ^ len * 2 ^ lo = b + 2 ^ lo * (2 ^ len * k + x % 2 ^ len) := by
    rw [ev, Nat.mul_comm r, Nat.mul_add, Nat.mul_add, Nat.mul_comm (x % 2 ^ len)]
    omega
  rw [e]
  clear_value b q r k
  rw [ev]
  generalize x % 2 ^ len = y at hx'
  rcases h with h | h
  · obtain ⟨m, rfl⟩ := Nat.le.dest h
    have p : (2:Nat) ^ (a + n + m) = 2 ^ a * (2 ^ n * 2 ^ m) := by rw [Nat.pow_add, Nat.pow_add, Nat.mul_assoc]
    rw [p, Nat.mul_assoc, Nat.mul_assoc (2 ^ a), Nat.add_mul_div_left _ _ (Nat.two_pow_pos a), Nat.add_mul_div_left _ _ (Nat.two_pow_pos a),
      Nat.mul_assoc, Nat.mul_assoc (2 ^ n), Nat.add_mul_mod_self_left, Nat.add_mul_mod_self_left]
  · obtain ⟨m, rfl⟩ := Nat.le.dest h
    have p : (2:Nat) ^ (lo + len + m) = 2 ^ lo * 2 ^ len * 2 ^ m := by rw [Nat.pow_add, Nat.pow_add]
    have f : ∀ z, z < 2 ^ len → (b + 2 ^ lo * (2 ^ len * k + z)) / (2 ^ (lo + len + m)) = k / 2 ^ m := by
      intro z hz
      rw [p, ← Nat.div_div_eq_div_mul, ← Nat.div_div_eq_div_mul, Nat.add_mul_div_left _ _ h0, Nat.div_eq_of_lt hb', Nat.zero_add,
        Nat.mul_add_div (Nat.two_pow_pos len), Nat.div_eq_of_lt hz, Nat.add_zero]
    rw [f _ hx', f _ hr']

theorem put_lt (v lo len x N : Nat) (hv : v < 2 ^ N) (h : lo + len ≤ N) : put v lo len x < 2 ^ N := by
  by_contra hc
  have hc : 2 ^ N ≤ put v lo len x := Nat.not_lt.mp hc
  have k := cut_put_ne v lo len x N (put v lo len x) (Or.inr h)
  unfold cut at k
  simp only [Nat.shiftRight_eq_div_pow] at k
  rw [Nat.div_eq_of_lt hv, Nat.zero_mod] at k
  have p := Nat.div_pos hc (Nat.two_pow_pos N)
  rw [Nat.mod_eq_of_lt (lt_of_le_of_lt (Nat.div_le_self _ _) Nat.lt_two_pow_self)] at k
  omega

/-- The opcode byte of a row's entry. -/
theorem entryOf_op (op : Nat) (opt : Option Bool) (w : Entry) (h : op < 256) : bits (entryOf op opt w) 0 8 = op := by
  unfold bits entryOf
  have hw := w.isLt
  cases opt with
  | none =>
    dsimp only
    rw [BitVec.toNat_ofNat, Nat.mod_eq_of_lt (put_lt _ _ _ _ _ hw (by omega)), cut_put_same]
    exact Nat.mod_eq_of_lt h
  | some b =>
    dsimp only
    rw [BitVec.toNat_ofNat, Nat.mod_eq_of_lt (put_lt _ _ _ _ _ (put_lt _ _ _ _ _ hw (by omega)) (by omega)), cut_put_ne _ _ _ _ _ _ (Or.inl (by omega)),
      cut_put_same]
    exact Nat.mod_eq_of_lt h

/-- The OPT bit of a row's entry. -/
theorem entryOf_opt (op : Nat) (b : Bool) (w : Entry) : (entryOf op (some b) w).getLsbD 11 = b := by
  have hw := w.isLt
  have k := cut_put_same (put w.toNat 0 8 op) 11 1 b.toNat
  unfold entryOf
  dsimp only
  rw [BitVec.getLsbD_ofNat]
  unfold cut at k
  rw [Nat.testBit_eq_decide_div_mod_eq]
  rw [Nat.shiftRight_eq_div_pow] at k
  rw [show (2:Nat) ^ 1 = 2 from rfl] at k
  rw [k]
  cases b <;> rfl

/-- Every other bit of a row's entry is the word's. -/
theorem entryOf_bits (op : Nat) (opt : Option Bool) (w : Entry) (a n : Nat) (h : 12 ≤ a ∨ (8 ≤ a ∧ a + n ≤ 11)) :
    bits (entryOf op opt w) a n = bits w a n := by
  unfold bits entryOf
  have hw := w.isLt
  cases opt with
  | none =>
    dsimp only
    rw [BitVec.toNat_ofNat, Nat.mod_eq_of_lt (put_lt _ _ _ _ _ hw (by omega)), cut_put_ne _ _ _ _ _ _ (by omega)]
  | some b =>
    dsimp only
    rw [BitVec.toNat_ofNat, Nat.mod_eq_of_lt (put_lt _ _ _ _ _ (put_lt _ _ _ _ _ hw (by omega)) (by omega)),
      cut_put_ne _ _ _ _ _ _ (by omega), cut_put_ne _ _ _ _ _ _ (by omega)]

/-! ### A row of a ring -/

variable {S : List Part} {e0 : Dev}

/-- A command that fails a general check, but for a LOG_CLEAR response. -/
theorem failCheck_plain_only (d : Dev) (c : Cmd) (st : Nat) (hc : ¬ (c.op = 0x11 ∧ c.opt = true)) (hO : Only S e0 d) (h_rhm : Part.regs .hm ∈ S)
    (h_rhi : Part.regs .hi ∈ S) (h_rsl : Part.regs .sl ∈ S) (h_sl : Part.sl ∈ S) (h_hi : Part.hi ∈ S) (h_lg : Part.lg ∈ S) :
    Only S e0 (d.failCheck c st) := by
  have hn : ¬ (c.op = 0x11 ∧ c.opt = true ∧ c.force = false) := fun h => hc ⟨h.1, h.2.1⟩
  unfold Dev.failCheck
  dsimp only
  apply endCmd_only _ _ _ _ _ h_rhi h_rsl h_sl h_hi h_lg
  split
  · exact deny_only _ _ hO h_rhm
  · first
    | exact hO
    | (rw [if_neg hn]; exact hO)

/-- What a row of a ring changes, from what its command and its failures change. -/
theorem entry_row_only (d : Dev) (m : Nat) (w : Entry) (op : Nat) (opt : Option Bool) (hop : op < 256) (hO : Only S e0 d)
    (h_rhi : Part.regs .hi ∈ S) (h_hi : Part.hi ∈ S)
    (hr : ∀ x c, c.op = op → (∀ b, opt = some b → c.opt = b) → Only S e0 x → Only S e0 (Dev.runCmd x c))
    (hf : ∀ x c st, c.op = op → (∀ b, opt = some b → c.opt = b) → Only S e0 x → Only S e0 (Dev.failCheck x c st)) :
    Only S e0 (d.entry m w op opt) := by
  have h1 : ∀ c : Cmd, c.w = entryOf op opt w → c.op = op := fun c hc => by unfold Cmd.op; rw [hc]; exact entryOf_op op opt w hop
  have h2 : ∀ c : Cmd, c.w = entryOf op opt w → ∀ b, opt = some b → c.opt = b := fun c hc b hb => by
    unfold Cmd.opt; rw [hc, hb]; exact entryOf_opt op b w
  have e : d.entry m w op opt = (
      let f : Fetched := { w := entryOf op opt w, rgen := d.fld CQ_STAT.RGEN m, torn := false }
      let r := d.ring m
      if m < 64 ∧ d.fld CQ_STAT.RSTATE m = 1 ∧ (d.ringOwner m).isSome then
        let d1 := d.setRing m { r with fetched := r.fetched ++ [f] }
        if r.fetched.isEmpty ∧ d1.turn = some m then d.acceptEntry m f else d1
      else d) := rfl
  rw [e]
  generalize entryOf op opt w = v at h1 h2
  dsimp only
  split
  · split
    · unfold Dev.acceptEntry
      dsimp only
      rw [if_neg (by decide), if_neg (by decide)]
      have ho : ∀ x : Dev, Only S e0 x → Only S e0 (Dev.setLong x m) := fun x hx => setLong_only _ _ hx h_rhi
      split
      · exact hr _ _ (h1 _ rfl) (h2 _ rfl) (ho _ (setRing_only _ _ _ (only_hi hO h_hi) h_hi))
      · exact hf _ _ _ (h1 _ rfl) (h2 _ rfl) (ho _ (setRing_only _ _ _ (only_hi hO h_hi) h_hi))
    · exact setRing_only _ _ _ hO h_hi
  · exact hO

theorem nop_row_only (m : Nat) (w : Entry) (d : Dev) (hO : Only S e0 d) (h_rhm : Part.regs .hm ∈ S) (h_rhi : Part.regs .hi ∈ S) (h_rsl : Part.regs
    .sl ∈ S) (h_sl : Part.sl ∈ S) (h_hi : Part.hi ∈ S) (h_lg : Part.lg ∈ S) :
    Only S e0 (nopEff m w d) := by
  refine entry_row_only d m w 0x0 none (by decide) hO h_rhi h_hi (fun x c ho hp hx => ?_)
    (fun x c st ho _ hx => failCheck_plain_only _ _ _ (fun h => absurd (ho.symm.trans h.1) (by decide)) hx h_rhm h_rhi h_rsl h_sl h_hi h_lg)
  unfold Dev.runCmd
  rw [ho]
  apply finish_only <;> assumption

theorem arm_row_only (m : Nat) (w : Entry) (d : Dev) (hO : Only S e0 d) (h_rhm : Part.regs .hm ∈ S) (h_rhi : Part.regs .hi ∈ S) (h_rsl : Part.regs
    .sl ∈ S) (h_qy : Part.qy ∈ S) (h_sl : Part.sl ∈ S) (h_hi : Part.hi ∈ S) (h_lg : Part.lg ∈ S) :
    Only S e0 (armEff m w d) := by
  refine entry_row_only d m w 0x1 none (by decide) hO h_rhi h_hi (fun x c ho hp hx => ?_)
    (fun x c st ho _ hx => failCheck_plain_only _ _ _ (fun h => absurd (ho.symm.trans h.1) (by decide)) hx h_rhm h_rhi h_rsl h_sl h_hi h_lg)
  unfold Dev.runCmd
  rw [ho]
  apply awaitSlot_only <;> assumption

theorem disarm_row_only (m : Nat) (w : Entry) (d : Dev) (hO : Only S e0 d) (h_rhm : Part.regs .hm ∈ S) (h_rhi : Part.regs .hi ∈ S) (h_rsl : Part.regs
    .sl ∈ S) (h_qy : Part.qy ∈ S) (h_sl : Part.sl ∈ S) (h_hi : Part.hi ∈ S) (h_lg : Part.lg ∈ S) :
    Only S e0 (disarmEff m w d) := by
  refine entry_row_only d m w 0x2 none (by decide) hO h_rhi h_hi (fun x c ho hp hx => ?_)
    (fun x c st ho _ hx => failCheck_plain_only _ _ _ (fun h => absurd (ho.symm.trans h.1) (by decide)) hx h_rhm h_rhi h_rsl h_sl h_hi h_lg)
  unfold Dev.runCmd
  rw [ho]
  apply awaitSlot_only <;> assumption

theorem update_row_only (m : Nat) (w : Entry) (d : Dev) (hO : Only S e0 d) (h_rhm : Part.regs .hm ∈ S) (h_rhi : Part.regs .hi ∈ S) (h_rsl : Part.regs
    .sl ∈ S) (h_qy : Part.qy ∈ S) (h_sl : Part.sl ∈ S) (h_hi : Part.hi ∈ S) (h_lg : Part.lg ∈ S) :
    Only S e0 (updateEff m w d) := by
  refine entry_row_only d m w 0x3 none (by decide) hO h_rhi h_hi (fun x c ho hp hx => ?_)
    (fun x c st ho _ hx => failCheck_plain_only _ _ _ (fun h => absurd (ho.symm.trans h.1) (by decide)) hx h_rhm h_rhi h_rsl h_sl h_hi h_lg)
  unfold Dev.runCmd
  rw [ho]
  apply awaitSlot_only <;> assumption

theorem readState_row_only (m : Nat) (w : Entry) (d : Dev) (hO : Only S e0 d) (h_rhm : Part.regs .hm ∈ S) (h_rhi : Part.regs .hi ∈ S) (h_rsl :
    Part.regs .sl ∈ S) (h_rbh : Part.regs .bh ∈ S) (h_mem : Part.mem ∈ S) (h_dr : Part.dr ∈ S) (h_sl : Part.sl ∈ S) (h_hi : Part.hi ∈ S) (h_lg :
    Part.lg ∈ S) :
    Only S e0 (readStateEff m w d) := by
  refine entry_row_only d m w 0x4 none (by decide) hO h_rhi h_hi (fun x c ho hp hx => ?_)
    (fun x c st ho _ hx => failCheck_plain_only _ _ _ (fun h => absurd (ho.symm.trans h.1) (by decide)) hx h_rhm h_rhi h_rsl h_sl h_hi h_lg)
  unfold Dev.runCmd
  rw [ho]
  apply readStateCmd_only <;> assumption

theorem setAxis_row_only (m : Nat) (w : Entry) (d : Dev) (hO : Only S e0 d) (h_rhm : Part.regs .hm ∈ S) (h_rhi : Part.regs .hi ∈ S) (h_rsl :
    Part.regs .sl ∈ S) (h_axes : Part.axes ∈ S) (h_sl : Part.sl ∈ S) (h_hi : Part.hi ∈ S) (h_lg : Part.lg ∈ S) :
    Only S e0 (setAxisEff m w d) := by
  refine entry_row_only d m w 0x5 none (by decide) hO h_rhi h_hi (fun x c ho hp hx => ?_)
    (fun x c st ho _ hx => failCheck_plain_only _ _ _ (fun h => absurd (ho.symm.trans h.1) (by decide)) hx h_rhm h_rhi h_rsl h_sl h_hi h_lg)
  unfold Dev.runCmd
  rw [ho]
  apply setAxisCmd_only <;> assumption

theorem discipline_row_only (m : Nat) (w : Entry) (d : Dev) (hO : Only S e0 d) (h_rhm : Part.regs .hm ∈ S) (h_rhi : Part.regs .hi ∈ S) (h_rax :
    Part.regs .ax ∈ S) (h_rsl : Part.regs .sl ∈ S) (h_tb : Part.tb ∈ S) (h_sl : Part.sl ∈ S) (h_hi : Part.hi ∈ S) (h_lg : Part.lg ∈ S) :
    Only S
    e0 (disciplineEff m w d) := by
  refine entry_row_only d m w 0x6 none (by decide) hO h_rhi h_hi (fun x c ho hp hx => ?_)
    (fun x c st ho _ hx => failCheck_plain_only _ _ _ (fun h => absurd (ho.symm.trans h.1) (by decide)) hx h_rhm h_rhi h_rsl h_sl h_hi h_lg)
  unfold Dev.runCmd
  rw [ho]
  apply disciplineCmd_only <;> assumption

theorem stepTime_row_only (m : Nat) (w : Entry) (d : Dev) (hO : Only S e0 d) (h_rhm : Part.regs .hm ∈ S) (h_rhi : Part.regs .hi ∈ S) (h_rsl :
    Part.regs .sl ∈ S) (h_rhl : Part.regs .hl ∈ S) (h_sl : Part.sl ∈ S) (h_hi : Part.hi ∈ S) (h_lg : Part.lg ∈ S) :
    Only S e0 (stepTimeEff m w d) := by
  refine entry_row_only d m w 0x7 none (by decide) hO h_rhi h_hi (fun x c ho hp hx => ?_)
    (fun x c st ho _ hx => failCheck_plain_only _ _ _ (fun h => absurd (ho.symm.trans h.1) (by decide)) hx h_rhm h_rhi h_rsl h_sl h_hi h_lg)
  unfold Dev.runCmd
  rw [ho]
  apply stepTimeCmd_only <;> assumption

theorem loadImage_row_only (m : Nat) (w : Entry) (d : Dev) (hO : Only S e0 d) (h_rsys : Part.regs .sys ∈ S) (h_rhm : Part.regs .hm ∈ S) (h_rhi :
    Part.regs .hi ∈ S) (h_rsl : Part.regs .sl ∈ S) (h_rme : Part.regs .me ∈ S) (h_rbh : Part.regs .bh ∈ S) (h_rdr : Part.regs .dr ∈ S) (h_dr :
    Part.dr ∈ S) (h_sl : Part.sl ∈ S) (h_hi : Part.hi ∈ S) (h_lg : Part.lg ∈ S) (h_me : Part.me ∈ S) (h_mo : Part.mo ∈ S) :
    Only S e0
    (loadImageEff m w d) := by
  refine entry_row_only d m w 0x8 none (by decide) hO h_rhi h_hi (fun x c ho hp hx => ?_)
    (fun x c st ho _ hx => failCheck_plain_only _ _ _ (fun h => absurd (ho.symm.trans h.1) (by decide)) hx h_rhm h_rhi h_rsl h_sl h_hi h_lg)
  unfold Dev.runCmd
  rw [ho]
  apply loadCmd_only <;> assumption

theorem activateImage_row_only (m : Nat) (w : Entry) (d : Dev) (hO : Only S e0 d) (h_rhm : Part.regs .hm ∈ S) (h_rhi : Part.regs .hi ∈ S) (h_rsl :
    Part.regs .sl ∈ S) (h_rme : Part.regs .me ∈ S) (h_sl : Part.sl ∈ S) (h_hi : Part.hi ∈ S) (h_lg : Part.lg ∈ S) (h_mo : Part.mo ∈ S) :
    Only S
    e0 (activateImageEff m w d) := by
  refine entry_row_only d m w 0x9 none (by decide) hO h_rhi h_hi (fun x c ho hp hx => ?_)
    (fun x c st ho _ hx => failCheck_plain_only _ _ _ (fun h => absurd (ho.symm.trans h.1) (by decide)) hx h_rhm h_rhi h_rsl h_sl h_hi h_lg)
  unfold Dev.runCmd
  rw [ho]
  apply activateCmd_only <;> assumption

theorem substituteQuay_row_only (m : Nat) (w : Entry) (d : Dev) (hO : Only S e0 d) (h_rhm : Part.regs .hm ∈ S) (h_rhi : Part.regs .hi ∈ S) (h_rsl :
    Part.regs .sl ∈ S) (h_rqy : Part.regs .qy ∈ S) (h_qy : Part.qy ∈ S) (h_sl : Part.sl ∈ S) (h_hi : Part.hi ∈ S) (h_lg : Part.lg ∈ S) :
    Only S
    e0 (substituteQuayEff m w d) := by
  refine entry_row_only d m w 0xa none (by decide) hO h_rhi h_hi (fun x c ho hp hx => ?_)
    (fun x c st ho _ hx => failCheck_plain_only _ _ _ (fun h => absurd (ho.symm.trans h.1) (by decide)) hx h_rhm h_rhi h_rsl h_sl h_hi h_lg)
  unfold Dev.runCmd
  rw [ho]
  apply substituteCmd_only <;> assumption

theorem relieveEngine_row_only (m : Nat) (w : Entry) (d : Dev) (hO : Only S e0 d) (h_rhm : Part.regs .hm ∈ S) (h_rhi : Part.regs .hi ∈ S) (h_rsl :
    Part.regs .sl ∈ S) (h_rme : Part.regs .me ∈ S) (h_sl : Part.sl ∈ S) (h_hi : Part.hi ∈ S) (h_lg : Part.lg ∈ S) (h_mo : Part.mo ∈ S) :
    Only S
    e0 (relieveEngineEff m w d) := by
  refine entry_row_only d m w 0xb (some false) (by decide) hO h_rhi h_hi (fun x c ho hp hx => ?_)
    (fun x c st ho _ hx => failCheck_plain_only _ _ _ (fun h => absurd (ho.symm.trans h.1) (by decide)) hx h_rhm h_rhi h_rsl h_sl h_hi h_lg)
  unfold Dev.runCmd
  rw [ho, hp false rfl]
  apply relieveCmd_only <;> assumption

theorem relieveReturn_row_only (m : Nat) (w : Entry) (d : Dev) (hO : Only S e0 d) (h_rhm : Part.regs .hm ∈ S) (h_rhi : Part.regs .hi ∈ S) (h_rsl :
    Part.regs .sl ∈ S) (h_sl : Part.sl ∈ S) (h_hi : Part.hi ∈ S) (h_lg : Part.lg ∈ S) (h_mo : Part.mo ∈ S) :
    Only S e0 (relieveReturnEff m w d) := by
  refine entry_row_only d m w 0xb (some true) (by decide) hO h_rhi h_hi (fun x c ho hp hx => ?_)
    (fun x c st ho _ hx => failCheck_plain_only _ _ _ (fun h => absurd (ho.symm.trans h.1) (by decide)) hx h_rhm h_rhi h_rsl h_sl h_hi h_lg)
  unfold Dev.runCmd
  rw [ho, hp true rfl]
  apply returnCmd_only <;> assumption

theorem startLighter_row_only (m : Nat) (w : Entry) (d : Dev) (hO : Only S e0 d) (h_rhm : Part.regs .hm ∈ S) (h_rhi : Part.regs .hi ∈ S) (h_rsl :
    Part.regs .sl ∈ S) (h_rlt : Part.regs .lt ∈ S) (h_sl : Part.sl ∈ S) (h_hi : Part.hi ∈ S) (h_lg : Part.lg ∈ S) (h_lt : Part.lt ∈ S) :
    Only S
    e0 (startLighterEff m w d) := by
  refine entry_row_only d m w 0xc none (by decide) hO h_rhi h_hi (fun x c ho hp hx => ?_)
    (fun x c st ho _ hx => failCheck_plain_only _ _ _ (fun h => absurd (ho.symm.trans h.1) (by decide)) hx h_rhm h_rhi h_rsl h_sl h_hi h_lg)
  unfold Dev.runCmd
  rw [ho]
  apply ltStartCmd_only <;> assumption

theorem pauseLighter_row_only (m : Nat) (w : Entry) (d : Dev) (hO : Only S e0 d) (h_rhm : Part.regs .hm ∈ S) (h_rhi : Part.regs .hi ∈ S) (h_rsl :
    Part.regs .sl ∈ S) (h_rlt : Part.regs .lt ∈ S) (h_sl : Part.sl ∈ S) (h_hi : Part.hi ∈ S) (h_lg : Part.lg ∈ S) (h_lt : Part.lt ∈ S) :
    Only S
    e0 (pauseLighterEff m w d) := by
  refine entry_row_only d m w 0xd (some false) (by decide) hO h_rhi h_hi (fun x c ho hp hx => ?_)
    (fun x c st ho _ hx => failCheck_plain_only _ _ _ (fun h => absurd (ho.symm.trans h.1) (by decide)) hx h_rhm h_rhi h_rsl h_sl h_hi h_lg)
  unfold Dev.runCmd
  rw [ho, hp false rfl]
  apply ltPauseCmd_only <;> assumption

theorem resumeLighter_row_only (m : Nat) (w : Entry) (d : Dev) (hO : Only S e0 d) (h_rhm : Part.regs .hm ∈ S) (h_rhi : Part.regs .hi ∈ S) (h_rsl :
    Part.regs .sl ∈ S) (h_rlt : Part.regs .lt ∈ S) (h_sl : Part.sl ∈ S) (h_hi : Part.hi ∈ S) (h_lg : Part.lg ∈ S) (h_lt : Part.lt ∈ S) :
    Only S
    e0 (resumeLighterEff m w d) := by
  refine entry_row_only d m w 0xd (some true) (by decide) hO h_rhi h_hi (fun x c ho hp hx => ?_)
    (fun x c st ho _ hx => failCheck_plain_only _ _ _ (fun h => absurd (ho.symm.trans h.1) (by decide)) hx h_rhm h_rhi h_rsl h_sl h_hi h_lg)
  unfold Dev.runCmd
  rw [ho, hp true rfl]
  apply ltResumeCmd_only <;> assumption

theorem berthHandover_row_only (m : Nat) (w : Entry) (d : Dev) (hO : Only S e0 d) (h_rhm : Part.regs .hm ∈ S) (h_rhi : Part.regs .hi ∈ S) (h_rsl :
    Part.regs .sl ∈ S) (h_rbh : Part.regs .bh ∈ S) (h_dr : Part.dr ∈ S) (h_sl : Part.sl ∈ S) (h_hi : Part.hi ∈ S) (h_lg : Part.lg ∈ S) :
    Only S
    e0 (berthHandoverEff m w d) := by
  refine entry_row_only d m w 0xe none (by decide) hO h_rhi h_hi (fun x c ho hp hx => ?_)
    (fun x c st ho _ hx => failCheck_plain_only _ _ _ (fun h => absurd (ho.symm.trans h.1) (by decide)) hx h_rhm h_rhi h_rsl h_sl h_hi h_lg)
  unfold Dev.runCmd
  rw [ho]
  apply handoverCmd_only <;> assumption

theorem swapProgram_row_only (m : Nat) (w : Entry) (d : Dev) (hO : Only S e0 d) (h_rsys : Part.regs .sys ∈ S) (h_rhm : Part.regs .hm ∈ S) (h_rhi :
    Part.regs .hi ∈ S) (h_rsl : Part.regs .sl ∈ S) (h_rpn : Part.regs .pn ∈ S) (h_rbh : Part.regs .bh ∈ S) (h_rdr : Part.regs .dr ∈ S) (h_dr :
    Part.dr ∈ S) (h_sl : Part.sl ∈ S) (h_hi : Part.hi ∈ S) (h_lg : Part.lg ∈ S) (h_pn : Part.pn ∈ S) :
    Only S e0 (swapProgramEff m w d) := by
  refine entry_row_only d m w 0xf none (by decide) hO h_rhi h_hi (fun x c ho hp hx => ?_)
    (fun x c st ho _ hx => failCheck_plain_only _ _ _ (fun h => absurd (ho.symm.trans h.1) (by decide)) hx h_rhm h_rhi h_rsl h_sl h_hi h_lg)
  unfold Dev.runCmd
  rw [ho]
  apply swapCmd_only <;> assumption

theorem logMark_row_only (m : Nat) (w : Entry) (d : Dev) (hO : Only S e0 d) (h_rhm : Part.regs .hm ∈ S) (h_rhi : Part.regs .hi ∈ S) (h_rsl :
    Part.regs .sl ∈ S) (h_rhl : Part.regs .hl ∈ S) (h_sl : Part.sl ∈ S) (h_hi : Part.hi ∈ S) (h_lg : Part.lg ∈ S) :
    Only S e0 (logMarkEff m w d) := by
  refine entry_row_only d m w 0x10 none (by decide) hO h_rhi h_hi (fun x c ho hp hx => ?_)
    (fun x c st ho _ hx => failCheck_plain_only _ _ _ (fun h => absurd (ho.symm.trans h.1) (by decide)) hx h_rhm h_rhi h_rsl h_sl h_hi h_lg)
  unfold Dev.runCmd
  rw [ho]
  apply logMark_only <;> assumption

theorem logClearChallenge_row_only (m : Nat) (w : Entry) (d : Dev) (hO : Only S e0 d) (h_rhm : Part.regs .hm ∈ S) (h_rhi : Part.regs .hi ∈ S) (h_rsl
    : Part.regs .sl ∈ S) (h_rbh : Part.regs .bh ∈ S) (h_rhl : Part.regs .hl ∈ S) (h_mem : Part.mem ∈ S) (h_dr : Part.dr ∈ S) (h_sl : Part.sl ∈ S)
    (h_hi : Part.hi ∈ S) (h_lg : Part.lg ∈ S) (h_freeCtr : Part.ctr ∈ S) :
    Only S e0 (logClearChallengeEff m w d) := by
  refine entry_row_only d m w 0x11 (some false) (by decide) hO h_rhi h_hi (fun x c ho hp hx => ?_)
    (fun x c st _ hp hx => failCheck_plain_only _ _ _ (fun h => Bool.noConfusion ((hp false rfl).symm.trans h.2)) hx h_rhm h_rhi h_rsl h_sl h_hi h_lg)
  unfold Dev.runCmd
  rw [ho, hp false rfl]
  apply challengeCmd_only <;> assumption

theorem logClearRespond_row_only (m : Nat) (w : Entry) (d : Dev) (hO : Only S e0 d) (h_rhm : Part.regs .hm ∈ S) (h_rhi : Part.regs .hi ∈ S) (h_rsl :
    Part.regs .sl ∈ S) (h_rhl : Part.regs .hl ∈ S) (h_sl : Part.sl ∈ S) (h_hi : Part.hi ∈ S) (h_lg : Part.lg ∈ S) :
    Only S e0 (logClearRespondEff
    m w d) := by
  refine entry_row_only d m w 0x11 (some true) (by decide) hO h_rhi h_hi (fun x c ho hp hx => ?_)
    (fun x c st _ _ hx => failCheck_only _ _ _ hx h_rhm h_rhi h_rsl h_rhl h_sl h_hi h_lg)
  unfold Dev.runCmd
  rw [ho, hp true rfl]
  apply logRespond_only <;> assumption

theorem tallySet_row_only (m : Nat) (w : Entry) (d : Dev) (hO : Only S e0 d) (h_rhm : Part.regs .hm ∈ S) (h_rhi : Part.regs .hi ∈ S) (h_rsl :
    Part.regs .sl ∈ S) (h_cw : Part.cw ∈ S) (h_sl : Part.sl ∈ S) (h_hi : Part.hi ∈ S) (h_lg : Part.lg ∈ S) :
    Only S e0 (tallySetEff m w d) := by
  refine entry_row_only d m w 0x12 none (by decide) hO h_rhi h_hi (fun x c ho hp hx => ?_)
    (fun x c st ho _ hx => failCheck_plain_only _ _ _ (fun h => absurd (ho.symm.trans h.1) (by decide)) hx h_rhm h_rhi h_rsl h_sl h_hi h_lg)
  unfold Dev.runCmd
  rw [ho]
  apply tallyCmd_only <;> assumption

theorem fence_row_only (m : Nat) (w : Entry) (d : Dev) (hO : Only S e0 d) (h_rhm : Part.regs .hm ∈ S) (h_rhi : Part.regs .hi ∈ S) (h_rsl : Part.regs
    .sl ∈ S) (h_sl : Part.sl ∈ S) (h_hi : Part.hi ∈ S) (h_lg : Part.lg ∈ S) :
    Only S e0 (fenceEff m w d) := by
  refine entry_row_only d m w 0x13 none (by decide) hO h_rhi h_hi (fun x c ho hp hx => ?_)
    (fun x c st ho _ hx => failCheck_plain_only _ _ _ (fun h => absurd (ho.symm.trans h.1) (by decide)) hx h_rhm h_rhi h_rsl h_sl h_hi h_lg)
  unfold Dev.runCmd
  rw [ho]
  apply fencePoll_only <;> assumption

theorem enterVigil_row_only (m : Nat) (w : Entry) (d : Dev) (hO : Only S e0 d) (h_rhm : Part.regs .hm ∈ S) (h_rhi : Part.regs .hi ∈ S) (h_rsl :
    Part.regs .sl ∈ S) (h_sl : Part.sl ∈ S) (h_hi : Part.hi ∈ S) (h_lg : Part.lg ∈ S) :
    Only S e0 (enterVigilEff m w d) := by
  refine entry_row_only d m w 0x14 none (by decide) hO h_rhi h_hi (fun x c ho hp hx => ?_)
    (fun x c st ho _ hx => failCheck_plain_only _ _ _ (fun h => absurd (ho.symm.trans h.1) (by decide)) hx h_rhm h_rhi h_rsl h_sl h_hi h_lg)
  unfold Dev.runCmd
  rw [ho]
  apply vigilCmd_only <;> assumption

/-! ### The kinds of meaning -/

/-- `act` keeps the time base, berth memory and the fuses. -/
theorem act_only {s t : State} {f : Dev → Dev} (h : s.act f = .next t) (hf : Only (.tb :: .mem :: .fuse :: S) s.dev (f s.dev)) :
    Only S s.dev t.dev := by
  cases h
  intro p hp
  have k := hf p
  cases p <;> first | rfl | exact k (by simp [hp])

/-- `actMem` keeps the time base and the fuses. -/
theorem actMem_only {s t : State} {f : Dev → Dev} (h : s.actMem f = .next t) (hf : Only (.tb :: .fuse :: S) s.dev (f s.dev)) :
    Only S s.dev t.dev := by
  cases h
  intro p hp
  have k := hf p
  cases p <;> first | rfl | exact k (by simp [hp])

/-- `actTime` keeps berth memory and the fuses. -/
theorem actTime_only {s t : State} {f : Dev → Dev} (h : s.actTime f = .next t) (hf : Only (.mem :: .fuse :: S) s.dev (f s.dev)) :
    Only S s.dev t.dev := by
  cases h
  intro p hp
  have k := hf p
  cases p <;> first | rfl | exact k (by simp [hp])

/-- `actAll` keeps the fuses. -/
theorem actAll_only {s t : State} {f : Dev → Dev} (h : s.actAll f = .next t) (hf : Only (.fuse :: S) s.dev (f s.dev)) :
    Only S s.dev t.dev := by
  cases h
  intro p hp
  have k := hf p
  cases p <;> first | rfl | exact k (by simp [hp])

end Sys2Proof.Machine
end

