-- ==== Sys2Proof/Laws/Memory.lean ====
section
/-! SUPPORT. Stored bytes: every operation over berth memory (11 R370) and over the harbour log's store (14 R470) keeps the canonical
form, the state after reset has it, and what a byte reads as after a write. -/

namespace Sys2Proof.Laws

open Sys2Proof Sys2Proof.Machine

theorem memory_wf_iff (l : List Host.Cell) : Memory.wf l = true ↔ l.Pairwise (fun a b => a.1 < b.1) ∧ ∀ c ∈ l, c.2 ≠ 0 := by
  simp [Memory.wf]

/-- An entry of a table after one has been put in is that one or was there before. -/
theorem mem_ins {α : Type} (k : Nat) (v : α) : ∀ (t : Tbl α) (e : Nat × α), e ∈ ins k v t → e = (k, v) ∨ e ∈ t
  | [], e, h => by simp [ins] at h; exact .inl h
  | x :: t, e, h => by
    unfold ins at h
    split at h
    · simpa using h
    · split at h
      · rcases List.mem_cons.1 h with rfl | h
        · exact .inl rfl
        · exact .inr (List.mem_cons_of_mem _ h)
      · rcases List.mem_cons.1 h with rfl | h
        · exact .inr List.mem_cons_self
        · exact (mem_ins k v t e h).imp id (List.mem_cons_of_mem _)

theorem ins_pairwise {α : Type} (k : Nat) (v : α) : ∀ t : Tbl α, t.Pairwise (fun a b => a.1 < b.1) → (ins k v t).Pairwise (fun a b => a.1 < b.1)
  | [], _ => by simp [ins]
  | x :: t, h => by
    obtain ⟨hx, ht⟩ := List.pairwise_cons.1 h
    unfold ins
    split
    · rename_i hk
      refine List.pairwise_cons.2 ⟨fun e he => ?_, h⟩
      rcases List.mem_cons.1 he with rfl | he
      · exact hk
      · exact Nat.lt_trans hk (hx e he)
    · split
      · rename_i hk
        exact List.pairwise_cons.2 ⟨fun e he => hk ▸ hx e he, ht⟩
      · rename_i h1 h2
        refine List.pairwise_cons.2 ⟨fun e he => ?_, ins_pairwise k v t ht⟩
        rcases mem_ins k v t e he with rfl | he
        · show x.1 < k
          omega
        · exact hx e he

/-- A write keeps the canonical form, whatever value it writes. -/
theorem memory_wf_set (l : List Host.Cell) (a : Nat) (b : Byte) (h : Memory.wf l = true) : Memory.wf (Machine.set 0 l a b) = true := by
  rw [memory_wf_iff] at h ⊢
  unfold Machine.set
  split
  · exact ⟨h.1.filter _, fun c hc => h.2 c (List.mem_of_mem_filter hc)⟩
  · rename_i hb
    refine ⟨ins_pairwise a b l h.1, fun c hc => ?_⟩
    rcases mem_ins a b l c hc with rfl | hc
    · exact hb
    · exact h.2 c hc

theorem memory_wf_filter (l : List Host.Cell) (p : Host.Cell → Bool) (h : Memory.wf l = true) : Memory.wf (l.filter p) = true := by
  rw [memory_wf_iff] at h ⊢
  exact ⟨h.1.filter _, fun c hc => h.2 c (List.mem_of_mem_filter hc)⟩

@[simp] theorem memory_wf_nil : Memory.wf [] = true := rfl

theorem poke_wf (d : Dev) (a : Nat) (b : Byte) (h : Memory.wf d.mem = true) : Memory.wf (d.poke a b).mem = true :=
  memory_wf_set d.mem a b h

theorem pokeN_wf (bs : List Byte) : ∀ (d : Dev) (a : Nat), Memory.wf d.mem = true → Memory.wf (d.pokeN a bs).mem = true := by
  induction bs with
  | nil => exact fun _ _ h => h
  | cons b t ih => exact fun d a h => ih _ _ (poke_wf d a b h)

theorem berthWrite_wf (d : Dev) (a : Nat) (bs : List Byte) (h : Memory.wf d.mem = true) : Memory.wf (d.berthWrite a bs).mem = true :=
  pokeN_wf bs (d.touch (a / 65536)) a h

theorem portWrite_wf (d : Dev) (p1 : Bool) (a : Nat) (bs : List Byte) (h : Memory.wf d.mem = true) :
    Memory.wf (d.portWrite p1 a bs).2.mem = true := by
  unfold Dev.portWrite
  split
  · exact h
  · exact berthWrite_wf _ a bs h

/-- The log's store keeps the canonical form under a write of bytes. -/
theorem put_wf (l : Log) (a : Nat) (bs : List Byte) (h : Memory.wf l.store = true) : Memory.wf (l.put a bs).store = true := by
  unfold Log.put
  dsimp only
  generalize bs.zipIdx = z
  suffices ∀ (z : List (Byte × Nat)) (s : List Host.Cell), Memory.wf s = true →
      Memory.wf (z.foldl (fun s b => Machine.set 0 s (a + b.2) b.1) s) = true from this z l.store h
  intro z
  induction z with
  | nil => exact fun _ h => h
  | cons x t ih => exact fun s h => ih _ (memory_wf_set s _ _ h)

/-- The state after reset has the canonical form in both memories. -/
theorem reset_wf : Memory.wf State.reset.dev.mem = true ∧ Memory.wf State.reset.dev.lg.store = true := ⟨rfl, rfl⟩

@[simp] theorem peek_poke_same (d : Dev) (a : Nat) (b : Byte) : (d.poke a b).peek a = b := by simp [Dev.peek, Dev.poke]

theorem peek_poke_ne (d : Dev) {a q : Nat} (b : Byte) (h : q ≠ a) : (d.poke a b).peek q = d.peek q := by
  simp [Dev.peek, Dev.poke, get_set_ne, h]

/-- Bytes below the first one that is written stay. -/
theorem peek_pokeN_below (bs : List Byte) : ∀ (d : Dev) (a q : Nat), q < a → (d.pokeN a bs).peek q = d.peek q := by
  induction bs with
  | nil => exact fun _ _ _ _ => rfl
  | cons b t ih =>
    intro d a q h
    rw [Dev.pokeN, ih _ _ _ (by omega), peek_poke_ne d b (by omega)]

end Sys2Proof.Laws
end

