-- ==== Sys2Proof/Machine/ConfigSpace.lean ====
section
/-! DEFINITION. What the configuration space of a function reports (08 R290, 09 R296, R298, R299). The table of commands has no row that
reads configuration space; these are the values such a read answers, beside the bits of `Func` that the rows write. -/

namespace Sys2Proof.Machine

open Sys2Proof

/-- The fixed values of a function's configuration space (09 R296, 17 R567). -/
structure ConfigId where
  vendor     : Nat
  subVendor  : Nat
  subsystem  : Nat
  device     : Nat
  classCode  : Nat
  revision   : Nat
  maxPayload : Nat
  maxRead    : Nat
  flr        : Bool
  tags10     : Bool
deriving DecidableEq, Repr

/-- Device 0x8512 is the physical function, 0x8513 every virtual one. -/
def configId (f : Nat) : ConfigId :=
  { vendor := 0x1F8E, subVendor := 0x1F8E, subsystem := 1, device := if f = 0 then 0x8512 else 0x8513, classCode := 0x088000, revision := 1, maxPayload := 512, maxRead := 512, flr := true, tags10 := true }

/-- TotalVFs of the SR-IOV capability (09 R296). -/
def totalVFs : Nat := 7

/-- A power state that PME_Support names (09 R299): D1 and D2 are not among them. -/
inductive PmState where
  | d0 | d1 | d2 | d3hot | d3cold
deriving DecidableEq, Repr

def pmeSupport : PmState → Bool
  | .d0 | .d3hot | .d3cold => true
  | .d1 | .d2 => false

/-- Entries and bytes of the MSI-X capability's table (09 R297, R298). -/
def msixEntries : Nat := 64

/-- Power Management Control/Status of function f: PowerState [1:0], No_Soft_Reset [3] which is 1, PME_En [8] and PME_Status [15]
(08 R290; the places of the fields are the PCI family's: PRESUMED, log 64). -/
def Dev.pmcsr (d : Dev) (f : Nat) : Nat :=
  let x := d.func f
  (if x.d3 then 3 else 0) + 8 + (if x.pmeEn then 0x100 else 0) + (if x.pmeStat then 0x8000 else 0)

/-- CLKREQ# is driven low whenever the core is powered (09 R299). -/
def Dev.clkreqLow (d : Dev) : Bool := d.sys.powered

end Sys2Proof.Machine
end

