-- ==== Sys2Proof/WellFormed.lean ====
section
/-! DEFINITION. Which commands are well formed: every operand names something that the part has (17 R559, R560, 00 R4). -/

namespace Sys2Proof

/-- A BAR0 access: a function, an offset within the 1 MiB of BAR0 (09 R297), and a value of the size that is written. -/
def BarAcc.wf (a : BarAcc) : Bool :=
  decide (a.fn < 8) && decide (a.off < 0x101000) && decide (0 < a.size) && decide (a.size ≤ 8) && decide (a.val.toNat < 2 ^ (8 * a.size))

/-- A change of power state names one of the eight functions. -/
def PowerChange.wf : PowerChange → Bool
  | .d3 f => decide (f < 8)
  | .d0 f => decide (f < 8)
  | .linkL1 => true
  | .linkL23 => true
  | .linkL0 => true

/-- A vector is one of the 64 of the table (09 R298). -/
def MsixOp.wf : MsixOp → Bool
  | .vector v => decide (v < 64)
  | .functionMask => true
  | .enable => true

/-- A berth, or a physical engine with a bit of the 55-bit or 201-bit codeword (05 R153). -/
def ScrubFind.wf : ScrubFind → Bool
  | .berth b _ => decide (b < 32)
  | .upset w _ => decide (w < 32 * 8192)
  | .store p nano _ cell => decide (p < 26) && decide (cell < (if nano then 201 else 55))

/-- A word of a 64-word row, a bit of the 72-bit codeword and one of the backgrounds (11 R365, R385). -/
def MarchFail.wf (f : MarchFail) : Bool := decide (f.word < 64) && decide (f.cell < 72) && decide (f.background < 4)

/-- The cause of a failed read is a byte. -/
def HostData.wf : HostData → Bool
  | .bytes _ => true
  | .failed cause => decide (cause < 256)

/-- Every operand is within its range. -/
def Instr.wf : Instr → Bool
  | .nop ring _ => decide (ring < 64)
  | .arm ring _ => decide (ring < 64)
  | .disarm ring _ => decide (ring < 64)
  | .update ring _ => decide (ring < 64)
  | .readState ring _ => decide (ring < 64)
  | .setAxis ring _ => decide (ring < 64)
  | .setAxisApply n => decide (0 < n) && decide (n < 16)
  | .discipline ring _ => decide (ring < 64)
  | .stepTime ring _ => decide (ring < 64)
  | .loadImage ring _ => decide (ring < 64)
  | .loadVerifyDone n => decide (n < 24)
  | .activateImage ring _ => decide (ring < 64)
  | .activateDrainTimeout n => decide (n < 24)
  | .activateSwitch n => decide (n < 24)
  | .substituteQuay ring _ => decide (ring < 64)
  | .mirrorCopyDone parity => parity.all (fun k => decide (k < 16))
  | .mirrorCompareDone _ => true
  | .quaySwitch => true
  | .noQuietTimeout => true
  | .autoSubRetry => true
  | .relieveEngine ring _ => decide (ring < 64)
  | .relieveReturn ring _ => decide (ring < 64)
  | .reliefCopyDone n _ => decide (n < 24)
  | .reliefTakeover n _ => decide (n < 24)
  | .warmCopyDone p => decide (24 ≤ p) && decide (p < 26)
  | .startLighter ring _ => decide (ring < 64)
  | .pauseLighter ring _ => decide (ring < 64)
  | .resumeLighter ring _ => decide (ring < 64)
  | .ltPauseDrained c => decide (c < 32)
  | .berthHandover ring _ => decide (ring < 64)
  | .swapProgram ring _ => decide (ring < 64)
  | .logMark ring _ => decide (ring < 64)
  | .logClearChallenge ring _ => decide (ring < 64)
  | .logClearRespond ring _ => decide (ring < 64)
  | .tallySet ring _ => decide (ring < 64)
  | .fence ring _ => decide (ring < 64)
  | .enterVigil ring _ => decide (ring < 64)
  | .sysModeGo a => a.wf
  | .sysModeHold a => a.wf
  | .sysResetWrite a => a.wf
  | .pushGo a => a.wf
  | .axCfgWrite a => a.wf
  | .ax0HoldWrite a => a.wf
  | .wtCfgWrite a => a.wf
  | .tioPinWrite a => a.wf
  | .flushTx a => a.wf
  | .flushRx a => a.wf
  | .slTgtWrite a => a.wf
  | .slPendClear a => a.wf
  | .sluiceHoldWrite a => a.wf
  | .holdoffWrite a => a.wf
  | .hqEnWrite a => a.wf
  | .hqDiscard a => a.wf
  | .cqEnWrite a => a.wf
  | .hiSlabWrite a => a.wf
  | .bhOwnerWrite a => a.wf
  | .relocWrite a => a.wf
  | .cwPubWrite a => a.wf
  | .hlLcfgWrite a => a.wf
  | .rcRead fn off size => decide (fn < 8) && decide (off < 0x101000) && decide (0 < size) && decide (size ≤ 64)
  | .regWrite a => a.wf
  | .pollIssue f => decide (f < 8)
  | .pollResponse f _ => decide (f < 8)
  | .indexLineDone f line _ => decide (f < 8) && decide (line < 10)
  | .entryFetchDone ring first entries => decide (ring < 64) && decide (entries.length ≤ 16) && decide (first < 2 ^ 32)
  | .phaseReread ring _ => decide (ring < 64)
  | .entryAccept ring => decide (ring < 64)
  | .rttProbe => true
  | .wrProbe => true
  | .perst => true
  | .hotReset => true
  | .flr f => decide (f < 8)
  | .linkDown => true
  | .linkUp _ _ => true
  | .bmeChange f _ => decide (f < 8)
  | .powerStateChange ch => ch.wf
  | .msixUnmask f what => decide (f < 8) && what.wf
  | .pmeResend f => decide (f < 8)
  | .sourceRise => true
  | .holdoffExpire g => decide (g < 64)
  | .hqRecordIssue q => decide (q < 64)
  | .stagingDrain q => decide (q < 64)
  | .meDispatch p => decide (p < 26)
  | .meWord p _ => decide (p < 26)
  | .meWaitSatisfied p _ => decide (p < 26)
  | .meTimerExpire p => decide (p < 26)
  | .heartbeatExpire p => decide (p < 26)
  | .haltStop n => decide (n < 24)
  | .qpRead p => decide (p < 26)
  | .qpLoadslip p => decide (p < 26)
  | .qpArm p => decide (p < 26)
  | .qpUpdate p => decide (p < 26)
  | .qpDisarm p => decide (p < 26)
  | .scanVisit c _ => decide (c < 512)
  | .edgePlace p _ => decide (p < 34)
  | .auditNoTransition pin => decide (pin < 128)
  | .vernierCal p _ => decide (p < 34)
  | .measureTimeout c => decide (c < 512)
  | .pinTransition pin _ _ => decide (pin < 128)
  | .filterAccept pin => decide (pin < 128)
  | .wtStall n => decide (n < 8)
  | .axisStall n => decide (0 < n) && decide (n < 16)
  | .voteDisagree i _ => decide (i < 3)
  | .noMajority _ _ _ => true
  | .repairWatchEnd i => decide (i < 3)
  | .holdoverTimeout => true
  | .slewComplete => true
  | .refclkFail _ _ => true
  | .refclkRestore _ => true
  | .pllLockLoss => true
  | .pllRelock => true
  | .enterOperate => true
  | .selfTestDone => true
  | .pnDly n _ => decide (n < 32)
  | .pnJmp n _ => decide (n < 32)
  | .pnWaitp x => decide (x.n < 32)
  | .pnWaitf x => decide (x.n < 32)
  | .pnWaite x => decide (x.n < 32)
  | .pnWaitx x => decide (x.n < 32)
  | .pnPush x => decide (x.n < 32)
  | .pnPull x => decide (x.n < 32)
  | .pnOut n _ => decide (n < 32)
  | .pnIn n _ => decide (n < 32)
  | .pnLdi x => decide (x.n < 32)
  | .pnMov n _ => decide (n < 32)
  | .pnDjnz x => decide (x.n < 32)
  | .pnSig x => decide (x.n < 32)
  | .pnCapt x => decide (x.n < 32)
  | .pnEnd x => decide (x.n < 32)
  | .pnWaitSatisfied n => decide (n < 32)
  | .pnWaitTimeout n => decide (n < 32)
  | .pnBlockRelease n => decide (n < 32)
  | .pnSwap n => decide (n < 32)
  | .swapDeadlineExpire n => decide (n < 32)
  | .ltEnd c => decide (c < 32)
  | .ltMove c => decide (c < 32)
  | .ltMovei c => decide (c < 32)
  | .ltLoop c => decide (c < 32)
  | .ltEndl c => decide (c < 32)
  | .ltWait c => decide (c < 32)
  | .ltSignal c => decide (c < 32)
  | .ltFence c => decide (c < 32)
  | .ltLink c => decide (c < 32)
  | .ltFetchDone c _ => decide (c < 32)
  | .ltWaitSatisfied c => decide (c < 32)
  | .ltWaitTimeout c => decide (c < 32)
  | .ltBurstStart c => decide (c < 32)
  | .ltBurstData c data => decide (c < 32) && data.wf
  | .ltFenceDone c => decide (c < 32)
  | .ltTailRefetch c _ => decide (c < 32)
  | .ltTailTimer c => decide (c < 32)
  | .scrubTick finds => finds.all ScrubFind.wf
  | .loanStart b fail => decide (b < 32) && fail.all MarchFail.wf
  | .loanReturnDone badRows => decide (badRows ≤ 3)
  | .rowRepairDone b => decide (b < 32)
  | .relocDone => true
  | .selfTestPassDone => true
  | .berthZeroDone => true
  | .repairMapUpdate => true
  | .portLinkEvent p _ => decide (p < 4)
  | .portUpTimer p => decide (p < 4)
  | .frameTx p => decide (p < 4)
  | .frameDiscard p => decide (p < 4)
  | .syncSend => true
  | .dreqSend p => decide (p < 4)
  | .snapSend k => decide (k < 4)
  | .subscribeSend n => decide (0 < n) && decide (n < 16)
  | .routeSend => true
  | .rxSync p _ _ _ => decide (p < 4)
  | .rxDreq p _ _ => decide (p < 4)
  | .rxDresp p _ _ => decide (p < 4)
  | .rxTooth p _ _ => decide (p < 4)
  | .rxSnap p _ _ => decide (p < 4)
  | .rxSubscribe p _ => decide (p < 4)
  | .rxSubnak p _ _ => decide (p < 4)
  | .rxRoute p _ _ => decide (p < 4)
  | .rxTally p _ => decide (p < 4)
  | .rxTreport p _ => decide (p < 4)
  | .rxAck p _ => decide (p < 4)
  | .rxRec p _ => decide (p < 4)
  | .recRetransmit p => decide (p < 4)
  | .servoInterval => true
  | .parentLossTimeout => true
  | .masterLossTimeout => true
  | .candidateTimer p => decide (p < 4)
  | .subBitExpire _ p => decide (p < 4)
  | .routeExpire p _ => decide (p < 4)
  | .gapTimeout _ => true
  | .remoteHoldover n => decide (0 < n) && decide (n < 16)
  | .remoteAbsent n => decide (0 < n) && decide (n < 16)
  | .tallyRoundStart => true
  | .treportWindow => true
  | .tallyRoundClose => true
  | .digestRecompute c => decide (c < 16)
  | .snapshotSampled => true
  | .itemsPackClose => true
  | .logRecordStart _ => true
  | .logRecordDurable => true
  | .keelWriteDone => true
  | .lockoutEnd => true
  | .challengeExpire => true
  | .bootRomStart => true
  | .bootFetchDone _ => true
  | .bootWr32 => true
  | .bootWr64 => true
  | .bootRmw32 => true
  | .bootPoll32 => true
  | .bootPollTimeout => true
  | .bootDelay => true
  | .bootDelayEnd => true
  | .hmkey => true
  | .logkey => true
  | .bootMeImage => true
  | .pnProg => true
  | .fuse => true
  | .seal => true
  | .keyOn _ => true
  | .keyOff => true
  | .resetPin => true
  | .corePowerGood _ _ => true
  | .powerLoss => true
  | .coldPowerUp => true
  | .vigilSupplyFail => true
  | .crystalStop => true
  | .tempSample _ => true
  | .vigilCalDone _ dtemp => decide (dtemp < 1024)
  | .jtagTrst => true
  | .extest _ _ => true
  | .clamp => true
  | .highz => true
  | .intest _ => true
  | .bypass => true
  | .idcode => true
  | .sample => true
  | .preload _ _ => true
  | .perstRelease => true
  | .resetRelease => true
  | .dllAck _ => true
  | .bodyReadDone ring _ _ => decide (ring < 64)
  | .fifoTimeout c => decide (c < 32)
  | .wrProbeDone => true
  | .pmeControlWrite f _ _ => decide (f < 8)
  | .msixMask f what => decide (f < 8) && what.wf
  | .numvfsWrite n => decide (n < 65536)
  | .supplySwitchover _ => true

end Sys2Proof
end

