-- ==== Sys2Proof/Tests/Slice0.lean ====
section
/-! SUPPORT. Tests: ill-formed commands that `Instr.wf` refuses, worked examples of the spec, and for each statement states and operands
that meet the hypotheses of its clauses, with what the command then gives. -/

open Sys2Proof Sys2Proof.Machine

set_option maxRecDepth 100000
set_option Elab.async false

namespace Sys2Proof.Tests

/-! ### Well-formedness: one ill-formed command for each check -/

theorem test_wf_refuses_units : [Instr.nop 64 0, .setAxisApply 0, .setAxisApply 16, .loadVerifyDone 24, .mirrorCopyDone [3, 16],
    .warmCopyDone 23, .warmCopyDone 26, .ltPauseDrained 32, .holdoffExpire 64, .hqRecordIssue 64, .meDispatch 26, .haltStop 24,
    .scanVisit 512 false, .edgePlace 34 0, .auditNoTransition 128, .vernierCal 34 .good, .pinTransition 128 true 0, .wtStall 8, .axisStall 0,
    .axisStall 16, .voteDisagree 3 0, .repairWatchEnd 3, .pnEnd ⟨32, false⟩, .ltEnd 32, .relocDone, .rowRepairDone 32, .loanStart 32 [],
    .frameTx 4, .snapSend 4, .subscribeSend 0, .subscribeSend 16, .subBitExpire 0 4, .digestRecompute 16, .bodyReadDone 64 0 none,
    .fifoTimeout 32, .remoteAbsent 0, .remoteHoldover 16].map Instr.wf =
    List.replicate 24 false ++ [true] ++ List.replicate 12 false := by decide +kernel

theorem test_wf_refuses_host : [Instr.regWrite { fn := 8, off := 0, size := 4, val := 0 }, .regWrite { fn := 0, off := 0x101000, size := 4, val := 0 },
    .regWrite { fn := 0, off := 0, size := 0, val := 0 }, .regWrite { fn := 0, off := 0, size := 9, val := 0 },
    .regWrite { fn := 0, off := 0, size := 4, val := 0x100000000 }, .rcRead 8 0 4, .rcRead 0 0x101000 4, .rcRead 0 0 0, .rcRead 0 0 65,
    .pollIssue 8, .pollResponse 8 0, .indexLineDone 8 0 0, .indexLineDone 0 10 0, .entryFetchDone 64 0 [], .entryFetchDone 0 (2 ^ 32) [],
    .entryFetchDone 0 0 (List.replicate 17 0), .flr 8, .bmeChange 8 true, .powerStateChange (.d3 8), .powerStateChange (.d0 8),
    .msixUnmask 8 .enable, .msixMask 0 (.vector 64), .pmeResend 8, .pmeControlWrite 8 true true, .numvfsWrite 65536].any Instr.wf = false := by
  decide +kernel

theorem test_wf_refuses_findings : [Instr.scrubTick [.berth 32 false], .scrubTick [.store 26 false false 0], .scrubTick [.store 0 false false 55],
    .scrubTick [.store 0 true false 201], .loanStart 0 [{ word := 64, cell := 0, background := 0 }],
    .loanStart 0 [{ word := 0, cell := 72, background := 0 }], .loanStart 0 [{ word := 0, cell := 0, background := 4 }], .loanReturnDone 4, .scrubTick [.upset 262144 true],
    .ltBurstData 0 (.failed 256), .vigilCalDone 0 1024].any Instr.wf = false := by decide +kernel

/-! ### Worked examples of the spec -/

/-- 05, the example after R188: word 0x0404 of the CAM2 handler, microword and nano-word. -/
theorem test_microword_example :
    (uNano 0x014814120013, uNext 0x014814120013, uCond 0x014814120013, uSeq 0x014814120013, uAtom 0x014814120013) = (5, 0x40A, 2, 1, false) ∧
    ((uImm 0x014814120013).toNat, nAlu 0x00808053, nRa 0x00808053, nBsel 0x00808053, nFlWe 0x00808053) = (0x13, 0x13, 2, 1, 1) := by
  decide +kernel

/-- 17 R567: the IDCODE is composed of version, part, JEDEC_ID and 1. -/
theorem test_idcode_example : tapIdcode = 0x10000000 + 0x08512000 + 0xB5A + 1 := by decide +kernel

/-- 07, the NMEA block: WAITX 1 with touch 1, PULL, LDI, DLY, OUT, DJNZ, JMP. -/
theorem test_pin_words_example : [0x5201, 0x7004, 0xA108, 0x0004, 0x8000, 0xC004, 0x1004].map pnOp = [5, 7, 0xA, 0, 8, 0xC, 1] := by decide +kernel

/-- No row of the opcode table gives bits, so no word spells a command. -/
theorem test_no_word_spells : decodeTableWord 0 0 = none ∧ State.reset.withFetchWord 32 1 = State.reset := by decide +kernel

/-- FIPS 180-4, the example of one block: the digest of "abc", its bytes from the last to the first. -/
theorem test_sha256_abc : sha256 [0x61, 0x62, 0x63] = 0xad1500f261ff10b49c7a1796a36103b02322ae5dde404141eacf018fbf1678ba := by decide +kernel

/-- RFC 4231, test case 1: a key of 20 bytes 0x0B, which the padding follows with zeros, and "Hi There". -/
theorem test_hmac_hi_there : hmacSha256 (BitVec.ofNat 256 (ofBytes (List.replicate 20 0x0B)))
    [0x48, 0x69, 0x20, 0x54, 0x68, 0x65, 0x72, 0x65] =
    BitVec.ofNat 256 (ofBytes (bytesOf 0xb0344c61d8db38535ca8afceaf0bf12b881dc200c9833da726e9376c2e32cff7 32).reverse) := by decide +kernel

/-- The check value of CRC-32: the digits 1 to 9. -/
theorem test_crc32_check : crc32 (bytesOf 0x393837363534333231 9) = 0xCBF43926 := by decide +kernel

/-- 15 R510: a boot image of 384 bytes, its key and its signature made outside the package. -/
def signedImage : List Byte :=
  bytesOf 0x42544B5A 4 ++ bytesOf 1 2 ++ bytesOf 0 2 ++ bytesOf 0x180 4 ++ bytesOf 7 4 ++ bytesOf 0x100 4 ++ bytesOf 16 12 ++
    bytesOf 0x0b972e4406004e8a7b094161ebf1d15cdbab217e2f8abd6eea9ad580f0a572825d70238ea7e8614709f67efe63d100f4897949c1f4c3837a27e3055c3adcc967 64 ++
    bytesOf 0 160 ++ bytesOf 0x0F 64 ++
    bytesOf 0x3ed2086fda48325e6f66cf7bb64b475fa8cd5ac134dd00fdcd311caf2d61adbd5f03b4c3a6d05a51ca5d37bf97e9c10ccdfd547fcafed304b996e3b96e3d5c51 64

/-- A part whose KEY_HASH1 is the SHA-256 of that key (15 R511). -/
def fusedDev : Dev := { State.reset.dev with fuse := { State.reset.dev.fuse with hash := [(1, 0x5392974f3eea1f35f3e88735deeef98ce65618680a6f7ccf5ffe2115c4181cda)] } }

/-- 15 R512: the image passes every check; with another byte of its payload it fails SIGNATURE, and without the fuse KEY_HASH. -/
theorem test_boot_image_checks : fusedDev.imageError signedImage = 0 ∧ fusedDev.imageError (signedImage.set 0x110 1) = 7 ∧
    State.reset.dev.imageError signedImage = 4 := by decide +kernel

/-! ### Each statement's hypotheses met -/

/-- The state whose part is the one after reset, changed. -/
def st (f : Dev → Dev) : State := { State.reset with dev := f State.reset.dev }
/-- A part in which functions 0 and 4 may use everything, ring 0 and queue 0 are ACTIVE, and the link is up. -/
def ready (d : Dev) : Dev :=
  let e := ((((d.setFld HM_OWN.VALID 1).setFld (HM_OWN.VALID.nth 4 0) 1 8).setFld (HM_OWN.VALID.nth 4 0) 1 16).setFld CQ_STAT.RSTATE 1 0).setFld HQ_STAT.QSTATE 1 0
  let e := (((((e.setFld HI_LINK.UP 1).setFld HM_FQUAY.QUAY 0xFFFFFFFF).setFld HM_FRES.AXES 0xFFFF).setFld HM_FRES.TRK 0xFF).setFld HM_FPIN.PIN 0xFFFFFFFF).setFld HM_FBERTH.BERTH 0xFFFFFFFF
  let e := ((((e.setFld HM_FENG.ENG 0xFFFFFF).setFld HM_FRIGHTS.STEP_FORCE 1).setFld HM_FRIGHTS.LOG_CLEAR 1).setFld HM_FRIGHTS.TALLY 1).setFld HM_FRIGHTS.KEY_OFF 1
  { e with sys := { powered := true }, hi := { e.hi with fns := [(0, { bme := true })] } }
/-- A boot image with one operation and whatever bytes are added. -/
def bootImg (op arg val : Nat) (more : List (Nat × Nat × Nat)) : List Byte :=
  bytesOf (pack ([byt 8 4 0x400, byt 0x10 4 0x100, byt 0x14 4 0x20, byt 0x100 1 op, byt 0x104 4 arg, byt 0x108 8 val, byt 0x110 1 0xF] ++ more)) 0x400
/-- The part after a command. -/
def ran (i : Instr) (s : State) : Dev := match exec i s with | .next t => t.dev | _ => {}

theorem test_StepRunsTheCommandInFront_1 : (State.mk State.reset.dev [.coldPowerUp, .idcode]).pending = [.coldPowerUp, .idcode] :=
    by decide +kernel
theorem test_EmptyQueueIsOnePeriod_1 : State.reset.pending = [] := by decide +kernel
theorem test_EmptyQueueIsOnePeriod_2 : (st (fun d => { d with sys := { powered := true }, boot := { loaded := true } })).pending = [] :=
    by decide +kernel
theorem test_EveryCommandKeepsToItsParts_1 : (ran .idcode State.reset) = State.reset.dev := by decide +kernel
theorem test_ResetIsAColdPowerUpWithNoPower_1 : SYS_MODE.GO_REQ.key 0 0 ≠ SYS_FAULT.AX0_INVALID.key 0 0 ∧
    SYS_MODE.GO_REQ.key 0 0 ≠ AX0_STATUS.STATE.key 0 0 := by decide +kernel
def witJtagPortAlwaysActs1 : State := st (fun d => { d with sys := { d.sys with powered := true } })
def witJtagPortAlwaysActs2 : State := st (fun d => { d with sys := { d.sys with powered := true } })
def witJtagPortAlwaysActs3 : State := st (fun d => { d with sys := { d.sys with powered := true }, pins := [(3, { ball := true })] })
def witJtagPortAlwaysActs4 : State := st (fun d => { d with sys := { d.sys with powered := true } })
def witJtagPortAlwaysActs5 : State := st (fun d => { d with sys := { d.sys with powered := true }, tap := { op := .clamp, lvl := 3 } })
theorem test_JtagPortAlwaysActs_1 : (witJtagPortAlwaysActs1.dev.sys.powered = true) ∧ ((ran (.bypass) witJtagPortAlwaysActs1)
    = { witJtagPortAlwaysActs1.dev with tap := { witJtagPortAlwaysActs1.dev.tap with op := .bypass, dr := 0 } }) := by decide +kernel
theorem test_JtagPortAlwaysActs_2 : (witJtagPortAlwaysActs2.dev.sys.powered = true) ∧ ((ran (.idcode) witJtagPortAlwaysActs2)
    = { witJtagPortAlwaysActs2.dev with tap := { witJtagPortAlwaysActs2.dev.tap with op := .idcode, dr := 0x18512B5B } }) := by decide +kernel
theorem test_JtagPortAlwaysActs_3 : (witJtagPortAlwaysActs3.dev.sys.powered = true) ∧ ((ran (.sample) witJtagPortAlwaysActs3)
    = { witJtagPortAlwaysActs3.dev with tap := { witJtagPortAlwaysActs3.dev.tap with op := .sample, seen := witJtagPortAlwaysActs3.dev.ballBits } })
    := by decide +kernel
theorem test_JtagPortAlwaysActs_4 : (witJtagPortAlwaysActs4.dev.sys.powered = true) ∧ ((ran (.preload (5) (2 ^ 127)) witJtagPortAlwaysActs4)
    = { witJtagPortAlwaysActs4.dev with tap := { witJtagPortAlwaysActs4.dev.tap with op := .preload, lvl := (5), oe := (2 ^ 127) } }) :=
    by decide +kernel
theorem test_JtagPortAlwaysActs_5 : (witJtagPortAlwaysActs5.dev.sys.powered = true) ∧ ((ran (.jtagTrst) witJtagPortAlwaysActs5)
    = { witJtagPortAlwaysActs5.dev with tap := {} }) := by decide +kernel
def witJtagTestsNeedReset1 : State := st (fun d => { d with sys := { d.sys with powered := true, resetLow := true } })
def witJtagTestsNeedReset2 : State := st (fun d => { d with sys := { d.sys with powered := true, resetLow := true } })
def witJtagTestsNeedReset3 : State := st (fun d => { d with sys := { d.sys with powered := true, resetLow := true } })
def witJtagTestsNeedReset4 : State := st (fun d => { d with sys := { d.sys with powered := true, resetLow := true } })
def witJtagTestsNeedReset5 : State := st (fun d => { d with sys := { d.sys with powered := true } })
def witJtagTestsNeedReset6 : State := st (fun d => { d with sys := { d.sys with powered := true } })
def witJtagTestsNeedReset7 : State := st (fun d => { d with sys := { d.sys with powered := true } })
def witJtagTestsNeedReset8 : State := st (fun d => { d with sys := { d.sys with powered := true } })
theorem test_JtagTestsNeedReset_1 : (witJtagTestsNeedReset1.dev.sys.powered = true) ∧ (witJtagTestsNeedReset1.dev.sys.resetLow = true) ∧
    ((ran (.extest (5) (2 ^ 127)) witJtagTestsNeedReset1)
    = { witJtagTestsNeedReset1.dev with tap := { witJtagTestsNeedReset1.dev.tap with op := .extest, lvl := (5), oe := (2 ^ 127), seen := witJtagTestsNeedReset1.dev.ballBits } })
    := by decide +kernel
theorem test_JtagTestsNeedReset_2 : (witJtagTestsNeedReset2.dev.sys.powered = true) ∧ (witJtagTestsNeedReset2.dev.sys.resetLow = true) ∧
    ((ran (.clamp) witJtagTestsNeedReset2)
    = { witJtagTestsNeedReset2.dev with tap := { witJtagTestsNeedReset2.dev.tap with op := .clamp, dr := 0 } }) := by decide +kernel
theorem test_JtagTestsNeedReset_3 : (witJtagTestsNeedReset3.dev.sys.powered = true) ∧ (witJtagTestsNeedReset3.dev.sys.resetLow = true) ∧
    ((ran (.highz) witJtagTestsNeedReset3)
    = { witJtagTestsNeedReset3.dev with tap := { witJtagTestsNeedReset3.dev.tap with op := .highz, dr := 0 } }) := by decide +kernel
theorem test_JtagTestsNeedReset_4 : (witJtagTestsNeedReset4.dev.sys.powered = true) ∧ (witJtagTestsNeedReset4.dev.sys.resetLow = true) ∧
    ((ran (.intest (5)) witJtagTestsNeedReset4)
    = { witJtagTestsNeedReset4.dev with tap := { witJtagTestsNeedReset4.dev.tap with op := .intest, lvl := (5), seen := 0 } }) :=
    by decide +kernel
theorem test_JtagTestsNeedReset_5 : (witJtagTestsNeedReset5.dev.sys.powered = true) ∧ (witJtagTestsNeedReset5.dev.sys.resetLow = false) ∧
    ((ran (.extest (5) (2 ^ 127)) witJtagTestsNeedReset5)
    = { witJtagTestsNeedReset5.dev with tap := { witJtagTestsNeedReset5.dev.tap with op := .bypass, dr := 0 } }) := by decide +kernel
theorem test_JtagTestsNeedReset_6 : (witJtagTestsNeedReset6.dev.sys.powered = true) ∧ (witJtagTestsNeedReset6.dev.sys.resetLow = false) ∧
    ((ran (.clamp) witJtagTestsNeedReset6)
    = { witJtagTestsNeedReset6.dev with tap := { witJtagTestsNeedReset6.dev.tap with op := .bypass, dr := 0 } }) := by decide +kernel
theorem test_JtagTestsNeedReset_7 : (witJtagTestsNeedReset7.dev.sys.powered = true) ∧ (witJtagTestsNeedReset7.dev.sys.resetLow = false) ∧
    ((ran (.highz) witJtagTestsNeedReset7)
    = { witJtagTestsNeedReset7.dev with tap := { witJtagTestsNeedReset7.dev.tap with op := .bypass, dr := 0 } }) := by decide +kernel
theorem test_JtagTestsNeedReset_8 : (witJtagTestsNeedReset8.dev.sys.powered = true) ∧ (witJtagTestsNeedReset8.dev.sys.resetLow = false) ∧
    ((ran (.intest (5)) witJtagTestsNeedReset8)
    = { witJtagTestsNeedReset8.dev with tap := { witJtagTestsNeedReset8.dev.tap with op := .bypass, dr := 0 } }) := by decide +kernel
def witReferenceClockRowsAct1 : State := st (fun d => ((d.setFld CK_STAT.REC_OK 1).setFld CK_STAT.LOCKED 1))
def witReferenceClockRowsAct2 : State := st (fun d => (((d.setFld CK_REFSEL.FREQ_HOLD_EN 0).setFld CK_STAT.LOCKED 1).setFld SYS_MODE.MODE 2))
def witReferenceClockRowsAct3 : State := st (fun d => ((((d.setFld CK_STAT.REC_OK 1).setFld CK_STAT.LOCKED 1).setFld CK_REFSEL.ACTIVE 1).setFld CK_STAT.IN_OK 1))
def witReferenceClockRowsAct4 : State := st (fun d => (d.setFld CK_REFSEL.SRC 1))
def witReferenceClockRowsAct5 : State := st (fun d => (d.setFld CK_REFSEL.ACTIVE 1))
def witReferenceClockRowsAct6 : State := st (fun d => (((d.setFld CK_STAT.LOCKED 1).setFld SYS_MODE.MODE 2).setFld CK_STAT.LOCK_LOSS 255))
def witReferenceClockRowsAct7 : State := st (fun d => { (d.setFld CK_STAT.PLL_HOLD 1) with sys := { causes := [4, 3] } })
theorem test_ReferenceClockRowsAct_1 : (witReferenceClockRowsAct1.dev.fld CK_REFSEL.ACTIVE = 0) ∧
    (witReferenceClockRowsAct1.dev.fld CK_STAT.REC_OK = 1) ∧ ((ran (.refclkFail .refclkIn (false))
    witReferenceClockRowsAct1).fld CK_REFSEL.ACTIVE = 1 ∧ (ran (.refclkFail .refclkIn (false))
    witReferenceClockRowsAct1).fld CK_REFSEL.SWITCHED = 1 ∧ (ran (.refclkFail .refclkIn (false))
    witReferenceClockRowsAct1).fld CK_STAT.IN_OK = 0 ∧ (ran (.refclkFail .refclkIn (false))
    witReferenceClockRowsAct1).fld CK_STAT.LOCKED = witReferenceClockRowsAct1.dev.fld CK_STAT.LOCKED) := by decide +kernel
theorem test_ReferenceClockRowsAct_2 : (witReferenceClockRowsAct2.dev.fld CK_REFSEL.ACTIVE = 0) ∧
    (witReferenceClockRowsAct2.dev.fld CK_STAT.REC_OK = 0) ∧ (witReferenceClockRowsAct2.dev.fld CK_REFSEL.FREQ_HOLD_EN = 0) ∧
    (witReferenceClockRowsAct2.dev.fld CK_STAT.LOCKED = 1) ∧ (witReferenceClockRowsAct2.dev.fld SYS_MODE.MODE = 2) ∧
    ((ran (.refclkFail .refclkIn (true)) witReferenceClockRowsAct2).fld CK_REFSEL.ACTIVE = 0 ∧ (ran (.refclkFail .refclkIn (true))
    witReferenceClockRowsAct2).fld CK_REFSEL.SWITCHED = witReferenceClockRowsAct2.dev.fld CK_REFSEL.SWITCHED ∧ (ran (.refclkFail .refclkIn (true))
    witReferenceClockRowsAct2).fld CK_STAT.LOCKED = 0 ∧ (ran (.refclkFail .refclkIn (true)) witReferenceClockRowsAct2).fld SYS_MODE.MODE = 1 ∧
    (ran (.refclkFail .refclkIn (true)) witReferenceClockRowsAct2).fld SYS_MODE.CAUSE = 4) := by decide +kernel
theorem test_ReferenceClockRowsAct_3 : (witReferenceClockRowsAct3.dev.fld CK_REFSEL.ACTIVE = 1) ∧
    (witReferenceClockRowsAct3.dev.fld CK_STAT.IN_OK = 1) ∧ ((witReferenceClockRowsAct3.dev.fld CK_REFSEL.SRC = 0 ∨
    witReferenceClockRowsAct3.dev.fld CK_REFSEL.FALLBACK_EN = 1)) ∧ ((ran (.refclkFail .recovered (true))
    witReferenceClockRowsAct3).fld CK_REFSEL.ACTIVE = 0 ∧ (ran (.refclkFail .recovered (true))
    witReferenceClockRowsAct3).fld CK_REFSEL.SWITCHED = 1 ∧ (ran (.refclkFail .recovered (true))
    witReferenceClockRowsAct3).fld CK_STAT.REC_OK = 0 ∧ (ran (.refclkFail .recovered (true))
    witReferenceClockRowsAct3).fld CK_STAT.LOCKED = witReferenceClockRowsAct3.dev.fld CK_STAT.LOCKED) := by decide +kernel
theorem test_ReferenceClockRowsAct_4 : (witReferenceClockRowsAct4.dev.fld CK_REFSEL.SRC = 1) ∧
    (witReferenceClockRowsAct4.dev.fld CK_REFSEL.ACTIVE ≠ 1) ∧ ((ran (.refclkRestore .recovered)
    witReferenceClockRowsAct4).fld CK_REFSEL.ACTIVE = 1 ∧ (ran (.refclkRestore .recovered) witReferenceClockRowsAct4).fld CK_REFSEL.SWITCHED = 1 ∧
    (ran (.refclkRestore .recovered) witReferenceClockRowsAct4).fld CK_STAT.REC_OK = 1) := by decide +kernel
theorem test_ReferenceClockRowsAct_5 : (witReferenceClockRowsAct5.dev.fld CK_REFSEL.SRC = 0) ∧
    (witReferenceClockRowsAct5.dev.fld CK_REFSEL.ACTIVE ≠ 0) ∧ ((ran (.refclkRestore .refclkIn)
    witReferenceClockRowsAct5).fld CK_REFSEL.ACTIVE = 0 ∧ (ran (.refclkRestore .refclkIn) witReferenceClockRowsAct5).fld CK_REFSEL.SWITCHED = 1 ∧
    (ran (.refclkRestore .refclkIn) witReferenceClockRowsAct5).fld CK_STAT.IN_OK = 1) := by decide +kernel
theorem test_ReferenceClockRowsAct_6 : (witReferenceClockRowsAct6.dev.fld CK_STAT.LOCKED = 1) ∧
    (witReferenceClockRowsAct6.dev.fld SYS_MODE.MODE = 2) ∧ ((ran (.pllLockLoss) witReferenceClockRowsAct6).fld CK_STAT.LOCKED = 0 ∧
    (ran (.pllLockLoss) witReferenceClockRowsAct6).fld CK_STAT.PLL_HOLD = 1 ∧ (ran (.pllLockLoss)
    witReferenceClockRowsAct6).fld CK_STAT.LOCK_LOSS = min (witReferenceClockRowsAct6.dev.fld CK_STAT.LOCK_LOSS + 1) 255 ∧ (ran (.pllLockLoss)
    witReferenceClockRowsAct6).fld SYS_MODE.MODE = 1 ∧ (ran (.pllLockLoss) witReferenceClockRowsAct6).fld SYS_MODE.CAUSE = 4 ∧ (ran (.pllLockLoss)
    witReferenceClockRowsAct6).fld SYS_MODE.STEPPED = 0 ∧ (ran (.pllLockLoss) witReferenceClockRowsAct6).fld SYS_MODE.ARMED = 0 ∧
    (ran (.pllLockLoss) witReferenceClockRowsAct6).sys.causes = [4]) := by decide +kernel
theorem test_ReferenceClockRowsAct_7 : (witReferenceClockRowsAct7.dev.fld CK_STAT.LOCKED = 0) ∧ ((ran (.pllRelock)
    witReferenceClockRowsAct7).fld CK_STAT.LOCKED = 1 ∧ (ran (.pllRelock) witReferenceClockRowsAct7).fld CK_STAT.PLL_HOLD = 0 ∧ (ran (.pllRelock)
    witReferenceClockRowsAct7).sys.causes = witReferenceClockRowsAct7.dev.sys.causes.filter (· ≠ 4)) := by decide +kernel
def witVotingRepairsAndInvalidates1 : State := st (fun d => { d.setFld SYS_MODE.MODE 2 with tb := { d.tb with a1 := { attempts := 2, val := 7 }, a0 := { val := 7, rate := 3, rem := 9 }, a2 := { val := 7, rate := 3, rem := 9 }, eclk := 5 } })
def witVotingRepairsAndInvalidates2 : State := st (fun d => { d with tb := { d.tb with a2 := { attempts := 3 } } })
def witVotingRepairsAndInvalidates3 : State := st (fun d => d.setFld AX0_STATUS.STATE 1)
def witVotingRepairsAndInvalidates4 : State := st (fun d => { d.setFld AX0_REPAIR.REPAIRING 1 with tb := { d.tb with a1 := { watching := true, watchAt := 10 }, eclk := 2 ^ 23 + 5 }, sys := { causes := [3, 4] } })
theorem test_VotingRepairsAndInvalidates_1 : ((1) < 3) ∧ (witVotingRepairsAndInvalidates1.dev.fld AX0_REPAIR.RETIRED = 0) ∧ ((1)
    ≠ BitVec.ofNat 112 witVotingRepairsAndInvalidates1.dev.ax0) ∧ ((witVotingRepairsAndInvalidates1.dev.accum (1)).attempts < 3) ∧
    (witVotingRepairsAndInvalidates1.dev.fld SYS_MODE.MODE = 2) ∧ ((ran (.voteDisagree (1) (1)) witVotingRepairsAndInvalidates1).accum (1)
    = { val := BitVec.ofNat 112 witVotingRepairsAndInvalidates1.dev.ax0, rate := (witVotingRepairsAndInvalidates1.dev.accum (if (1) = 0 then 1 else 0)).rate, rem := (witVotingRepairsAndInvalidates1.dev.accum (if (1) = 0 then 1 else 0)).rem, watching := true, watchAt := 2 * witVotingRepairsAndInvalidates1.dev.tb.eclk, attempts := (witVotingRepairsAndInvalidates1.dev.accum (1)).attempts + 1 }
    ∧ (∀ j, j < 3 → j ≠ (1) → (ran (.voteDisagree (1) (1)) witVotingRepairsAndInvalidates1).accum j = witVotingRepairsAndInvalidates1.dev.accum j)
    ∧ bit ((ran (.voteDisagree (1) (1)) witVotingRepairsAndInvalidates1).fld AX0_STATUS.VOTE_FAULT) (1) = true ∧ (ran (.voteDisagree (1) (1))
    witVotingRepairsAndInvalidates1).fld AX0_REPAIR.REPAIRING = 1 ∧ (ran (.voteDisagree (1) (1))
    witVotingRepairsAndInvalidates1).fld AX0_REPAIR.ACC = (1) ∧ (ran (.voteDisagree (1) (1))
    witVotingRepairsAndInvalidates1).fld AX0_REPAIR.ATTEMPTS = (witVotingRepairsAndInvalidates1.dev.accum (1)).attempts + 1 ∧
    (ran (.voteDisagree (1) (1)) witVotingRepairsAndInvalidates1).fld SYS_MODE.MODE = 1 ∧ (ran (.voteDisagree (1) (1))
    witVotingRepairsAndInvalidates1).fld SYS_MODE.CAUSE = 3) := by decide +kernel
theorem test_VotingRepairsAndInvalidates_2 : ((2) < 3) ∧ (witVotingRepairsAndInvalidates2.dev.fld AX0_REPAIR.RETIRED = 0) ∧ ((1)
    ≠ BitVec.ofNat 112 witVotingRepairsAndInvalidates2.dev.ax0) ∧ (3 ≤ (witVotingRepairsAndInvalidates2.dev.accum (2)).attempts) ∧
    ((ran (.voteDisagree (2) (1)) witVotingRepairsAndInvalidates2).fld AX0_REPAIR.RETIRED = (2) + 1 ∧ (ran (.voteDisagree (2) (1))
    witVotingRepairsAndInvalidates2).fld SYS_FAULT.TB_DEGRADED = 1 ∧ ((ran (.voteDisagree (2) (1))
    witVotingRepairsAndInvalidates2).accum (2)).watching = false ∧ ∀ j, j < 3 → j ≠ (2) → (ran (.voteDisagree (2) (1))
    witVotingRepairsAndInvalidates2).accum j = witVotingRepairsAndInvalidates2.dev.accum j) := by decide +kernel
theorem test_VotingRepairsAndInvalidates_3 : (witVotingRepairsAndInvalidates3.dev.fld AX0_REPAIR.RETIRED = 0) ∧ ((6) ≠ (5)) ∧ ((6) ≠ (3)) ∧ ((5)
    ≠ (3)) ∧ ((ran (.noMajority (6) (5) (3)) witVotingRepairsAndInvalidates3).tb.a0.val = ((6) &&& (5)) ||| ((6) &&& (3)) ||| ((5) &&& (3)) ∧
    (ran (.noMajority (6) (5) (3)) witVotingRepairsAndInvalidates3).tb.a1.val = ((6) &&& (5)) ||| ((6) &&& (3)) ||| ((5) &&& (3)) ∧
    (ran (.noMajority (6) (5) (3)) witVotingRepairsAndInvalidates3).tb.a2.val = ((6) &&& (5)) ||| ((6) &&& (3)) ||| ((5) &&& (3)) ∧
    (ran (.noMajority (6) (5) (3)) witVotingRepairsAndInvalidates3).fld AX0_STATUS.STATE = 3 ∧ (ran (.noMajority (6) (5) (3))
    witVotingRepairsAndInvalidates3).fld SYS_FAULT.AX0_INVALID = 1) := by decide +kernel
theorem test_VotingRepairsAndInvalidates_4 : ((1) < 3) ∧ ((witVotingRepairsAndInvalidates4.dev.accum (1)).watching = true) ∧
    ((witVotingRepairsAndInvalidates4.dev.accum (1)).watchAt + 2 ^ 24 ≤ 2 * witVotingRepairsAndInvalidates4.dev.tb.eclk) ∧ ((∀ j, j < 3 → j ≠ (1)
    → (witVotingRepairsAndInvalidates4.dev.accum j).watching = false)) ∧ (witVotingRepairsAndInvalidates4.dev.tb.lost = false) ∧
    (witVotingRepairsAndInvalidates4.dev.fld AX0_REPAIR.RETIRED = 0) ∧ ((ran (.repairWatchEnd (1)) witVotingRepairsAndInvalidates4).accum (1)
    = { witVotingRepairsAndInvalidates4.dev.accum (1) with watching := false } ∧ (ran (.repairWatchEnd (1))
    witVotingRepairsAndInvalidates4).fld AX0_REPAIR.REPAIRING = 0 ∧ (ran (.repairWatchEnd (1))
    witVotingRepairsAndInvalidates4).sys.causes = witVotingRepairsAndInvalidates4.dev.sys.causes.filter (· ≠ 3)) := by decide +kernel
def witModesStartAndEnd1 : State := st (fun d => { ((((d.setFld SYS_MODE.MODE 1).setFld HM_SEAL.SEAL 1).setFld CK_STAT.LOCKED 1).setFld SYS_MODE.PENDING_GO 1) with sys := { tested := true } })
def witModesStartAndEnd2 : State := st (fun d => { ((((d.setFld SYS_MODE.MODE 1).setFld HM_SEAL.SEAL 1).setFld CK_STAT.LOCKED 1).setFld SYS_MODE.GO_REQ 1) with sys := { tested := true } })
def witModesStartAndEnd3 : State := st (fun d => d.setFld SYS_MODE.MODE 1)
def witModesStartAndEnd4 : State := st (fun d => { d.setFld AX0_STATUS.STATE 1 with tb := { d.tb with elapsed := 65535 * 1000000 * 2 ^ 48 } })
theorem test_ModesStartAndEnd_1 : (witModesStartAndEnd1.dev.fld SYS_MODE.MODE = 1) ∧ (witModesStartAndEnd1.dev.fld HM_SEAL.SEAL = 1) ∧
    (witModesStartAndEnd1.dev.sys.tested = true) ∧ (witModesStartAndEnd1.dev.fld CK_STAT.LOCKED = 1) ∧
    (witModesStartAndEnd1.dev.fld CK_REFSEL.ACTIVE ≠ 2) ∧ (witModesStartAndEnd1.dev.fld AX0_REPAIR.RETIRED = 0) ∧
    (witModesStartAndEnd1.dev.tb.a0.val = witModesStartAndEnd1.dev.tb.a1.val) ∧
    (witModesStartAndEnd1.dev.tb.a1.val = witModesStartAndEnd1.dev.tb.a2.val) ∧ (witModesStartAndEnd1.dev.tb.a0.watching = false ∧
    witModesStartAndEnd1.dev.tb.a1.watching = false ∧ witModesStartAndEnd1.dev.tb.a2.watching = false) ∧
    (witModesStartAndEnd1.dev.sys.causes = []) ∧ ((witModesStartAndEnd1.dev.fld SYS_MODE.PENDING_GO = 1 ∨
    (witModesStartAndEnd1.dev.fld SYS_MODE.GO_REQ = 0 ∧ witModesStartAndEnd1.dev.fld SYS_MODE.AUTO_RESUME = 1))) ∧ ((ran (.enterOperate)
    witModesStartAndEnd1).fld SYS_MODE.MODE = 2 ∧ (ran (.enterOperate) witModesStartAndEnd1).fld SYS_MODE.PENDING_GO = 0 ∧ (ran (.enterOperate)
    witModesStartAndEnd1).fld SYS_MODE.GO_REQ = 0) := by decide +kernel
theorem test_ModesStartAndEnd_2 : ((witModesStartAndEnd2.dev.fld SYS_MODE.MODE ≠ 1 ∨ witModesStartAndEnd2.dev.fld HM_SEAL.SEAL ≠ 1 ∨
    witModesStartAndEnd2.dev.sys.tested = false ∨ witModesStartAndEnd2.dev.fld CK_STAT.LOCKED ≠ 1 ∨
    witModesStartAndEnd2.dev.fld CK_REFSEL.ACTIVE = 2 ∨ witModesStartAndEnd2.dev.fld AX0_REPAIR.RETIRED ≠ 0 ∨
    witModesStartAndEnd2.dev.tb.a0.val ≠ witModesStartAndEnd2.dev.tb.a1.val ∨
    witModesStartAndEnd2.dev.tb.a1.val ≠ witModesStartAndEnd2.dev.tb.a2.val ∨ witModesStartAndEnd2.dev.tb.a0.watching = true ∨
    witModesStartAndEnd2.dev.tb.a1.watching = true ∨ witModesStartAndEnd2.dev.tb.a2.watching = true ∨ witModesStartAndEnd2.dev.sys.causes ≠ [] ∨
    (witModesStartAndEnd2.dev.fld SYS_MODE.PENDING_GO ≠ 1 ∧ (witModesStartAndEnd2.dev.fld SYS_MODE.GO_REQ = 1 ∨
    witModesStartAndEnd2.dev.fld SYS_MODE.AUTO_RESUME ≠ 1)))) ∧ ((ran (.enterOperate) witModesStartAndEnd2) = witModesStartAndEnd2.dev) :=
    by decide +kernel
theorem test_ModesStartAndEnd_3 : (witModesStartAndEnd3.dev.fld SYS_MODE.MODE = 1) ∧ (witModesStartAndEnd3.dev.sys.tested = false) ∧
    ((ran (.selfTestDone) witModesStartAndEnd3).sys.tested = true ∧ (upto 34).all (fun p => (ran (.selfTestDone)
    witModesStartAndEnd3).fld QY_DIAG.VCAL_OK p == 1) = true) := by decide +kernel
theorem test_ModesStartAndEnd_4 : (witModesStartAndEnd4.dev.fld AX0_STATUS.STATE = 1) ∧
    (witModesStartAndEnd4.dev.tb.ref + max 1 (witModesStartAndEnd4.dev.fld AX0_HOLD.TIMEOUT_MS)
    * 1000000 * 2 ^ 48 ≤ witModesStartAndEnd4.dev.tb.elapsed) ∧ ((ran (.holdoverTimeout) witModesStartAndEnd4).fld AX0_STATUS.STATE = 2 ∧
    (ran (.holdoverTimeout) witModesStartAndEnd4).tb = { witModesStartAndEnd4.dev.tb with uncAt := witModesStartAndEnd4.dev.tb.elapsed }) :=
    by decide +kernel
def witVigilRowsAct1 : State := st (fun d => d.setFld VG_STAT.VALID 1)
def witVigilRowsAct2 : State := st (fun d => d)
def witVigilRowsAct3 : State := st (fun d => { d with sys := { d.sys with powered := true } })
def witVigilRowsAct4 : State := st (fun d => d.setFld VG_STAT.VALID 1)
def witVigilRowsAct5 : State := st (fun d => ((d.setFld VG_CAL.CAL 1500).setFld VG_COMP.T0 100))
theorem test_VigilRowsAct_1 : ((ran (.vigilSupplyFail) witVigilRowsAct1) = witVigilRowsAct1.dev.setFld VG_STAT.VALID 0) := by decide +kernel
theorem test_VigilRowsAct_2 : ((ran (.supplySwitchover (true)) witVigilRowsAct2) = witVigilRowsAct2.dev.setFld VG_STAT.ON_VBAK (true).toNat) :=
    by decide +kernel
theorem test_VigilRowsAct_3 : (witVigilRowsAct3.dev.sys.powered = true) ∧ ((ran (.crystalStop) witVigilRowsAct3)
    = { witVigilRowsAct3.dev.setFld VG_STAT.XFAIL 1 with vg := { witVigilRowsAct3.dev.vg with stopped := true } }) := by decide +kernel
theorem test_VigilRowsAct_4 : (witVigilRowsAct4.dev.sys.powered = false) ∧ ((ran (.crystalStop) witVigilRowsAct4)
    = { witVigilRowsAct4.dev.setFld VG_STAT.VALID 0 with vg := { witVigilRowsAct4.dev.vg with stopped := true } }) := by decide +kernel
theorem test_VigilRowsAct_5 : (witVigilRowsAct5.dev.sampleTime = true) ∧ ((ran (.tempSample ((-80 : BitVec 10)))
    witVigilRowsAct5).fld VG_STAT.TEMP = ((-80 : BitVec 10)).toNat ∧ (ran (.tempSample ((-80 : BitVec 10)))
    witVigilRowsAct5).vg = { witVigilRowsAct5.dev.vg with sampled := some witVigilRowsAct5.dev.vg.el, inc := (131072000000000 - 131072 * toS 24 (witVigilRowsAct5.dev.fld VG_CAL.CAL) - 8192 * (toS 12 (witVigilRowsAct5.dev.fld VG_COMP.K2) * (((-80 : BitVec 10)).toInt - toS 10 (witVigilRowsAct5.dev.fld VG_COMP.T0)) ^ 2)).toNat })
    := by decide +kernel
theorem test_VigilRowsAct_6 : (({ phase := 999999999, cnt := 2 ^ 96 - 1, inc := 2 } : Vigil).pass 1).cnt = 1 := by decide +kernel
def witPowerRowsStartAndStopTheCore1 : State := st (fun d => d)
def witPowerRowsStartAndStopTheCore2 : State := st (fun d => { d.setFld SYS_MODE.MODE 2 with sys := { supplies := true } })
def witPowerRowsStartAndStopTheCore3 : State := st (fun d => { d with sys := { supplies := true } })
def witPowerRowsStartAndStopTheCore4 : State := st (fun d => { d with sys := { want := true, cold := false } })
def witPowerRowsStartAndStopTheCore5 : State := st (fun d => { d.setFld SYS_MODE.MODE 2 with sys := { powered := true } })
def witPowerRowsStartAndStopTheCore6 : State := st (fun d => { d with sys := { resetLow := true } })
def witPowerRowsStartAndStopTheCore7 : State := st (fun d => { d with sys := { powered := true } })
def witPowerRowsStartAndStopTheCore8 : State := st (fun d => { ((d.setFld HL_SEQ.LAST_SEQ 9)) with sys := { powered := true } })
theorem test_PowerRowsStartAndStopTheCore_1 : (witPowerRowsStartAndStopTheCore1.dev.sys.powered = false) ∧
    (witPowerRowsStartAndStopTheCore1.dev.sys.keyHigh = false) ∧ (witPowerRowsStartAndStopTheCore1.dev.sys.supplies = false) ∧
    ((ran (.keyOn false) witPowerRowsStartAndStopTheCore1)
    = { witPowerRowsStartAndStopTheCore1.dev with sys := { witPowerRowsStartAndStopTheCore1.dev.sys with keyHigh := true, want := true } }) :=
    by decide +kernel
theorem test_PowerRowsStartAndStopTheCore_2 : (witPowerRowsStartAndStopTheCore2.dev.sys.powered = false) ∧
    (witPowerRowsStartAndStopTheCore2.dev.sys.keyHigh = false) ∧ (witPowerRowsStartAndStopTheCore2.dev.sys.supplies = true) ∧ ((ran (.keyOn false)
    witPowerRowsStartAndStopTheCore2).sys.powered = true ∧ (ran (.keyOn false) witPowerRowsStartAndStopTheCore2).fld SYS_MODE.MODE = 0 ∧
    (ran (.keyOn false) witPowerRowsStartAndStopTheCore2).fld HM_SEAL.SEAL = 0 ∧ (ran (.keyOn false)
    witPowerRowsStartAndStopTheCore2).fld SYS_RSTCAUSE.CAUSE = (if witPowerRowsStartAndStopTheCore2.dev.sys.cold then 0 else 1) ∧
    (ran (.keyOn false) witPowerRowsStartAndStopTheCore2).vg = witPowerRowsStartAndStopTheCore2.dev.vg ∧ (ran (.keyOn false)
    witPowerRowsStartAndStopTheCore2).fuse = witPowerRowsStartAndStopTheCore2.dev.fuse) := by decide +kernel
theorem test_PowerRowsStartAndStopTheCore_3 : (witPowerRowsStartAndStopTheCore3.dev.sys.powered = false) ∧
    (witPowerRowsStartAndStopTheCore3.dev.sys.supplies = true) ∧ ((ran (.keyOn true) witPowerRowsStartAndStopTheCore3).sys.powered = true ∧
    (ran (.keyOn true) witPowerRowsStartAndStopTheCore3).fld SYS_MODE.MODE = 0 ∧ (ran (.keyOn true)
    witPowerRowsStartAndStopTheCore3).sys.keyHigh = witPowerRowsStartAndStopTheCore3.dev.sys.keyHigh) := by decide +kernel
theorem test_PowerRowsStartAndStopTheCore_4 : (witPowerRowsStartAndStopTheCore4.dev.sys.powered = false) ∧
    (witPowerRowsStartAndStopTheCore4.dev.sys.want = true) ∧ ((ran (.corePowerGood (true) (false))
    witPowerRowsStartAndStopTheCore4).sys.powered = true ∧ (ran (.corePowerGood (true) (false))
    witPowerRowsStartAndStopTheCore4).fld SYS_IOCFG.VA = (true).toNat ∧ (ran (.corePowerGood (true) (false))
    witPowerRowsStartAndStopTheCore4).fld SYS_IOCFG.VB = (false).toNat ∧ (ran (.corePowerGood (true) (false))
    witPowerRowsStartAndStopTheCore4).fld SYS_MODE.MODE = 0 ∧ (ran (.corePowerGood (true) (false))
    witPowerRowsStartAndStopTheCore4).fld SYS_RSTCAUSE.CAUSE = (if witPowerRowsStartAndStopTheCore4.dev.sys.cold then 0 else 1) ∧
    (ran (.corePowerGood (true) (false)) witPowerRowsStartAndStopTheCore4).vg = witPowerRowsStartAndStopTheCore4.dev.vg) := by decide +kernel
theorem test_PowerRowsStartAndStopTheCore_5 : (witPowerRowsStartAndStopTheCore5.dev.sys.powered = true) ∧
    (witPowerRowsStartAndStopTheCore5.dev.sys.resetLow = false) ∧ ((ran (.resetPin) witPowerRowsStartAndStopTheCore5).sys.resetLow = true ∧
    (ran (.resetPin) witPowerRowsStartAndStopTheCore5).sys.powered = true ∧ (ran (.resetPin)
    witPowerRowsStartAndStopTheCore5).fld SYS_MODE.MODE = 0 ∧ (ran (.resetPin) witPowerRowsStartAndStopTheCore5).fld HM_SEAL.SEAL = 0 ∧
    (ran (.resetPin) witPowerRowsStartAndStopTheCore5).fld SYS_RSTCAUSE.CAUSE = 2 ∧ (ran (.resetPin)
    witPowerRowsStartAndStopTheCore5).mem = witPowerRowsStartAndStopTheCore5.dev.mem ∧ (ran (.resetPin)
    witPowerRowsStartAndStopTheCore5).fuse = witPowerRowsStartAndStopTheCore5.dev.fuse) := by decide +kernel
theorem test_PowerRowsStartAndStopTheCore_6 : ((ran (.resetRelease) witPowerRowsStartAndStopTheCore6)
    = { witPowerRowsStartAndStopTheCore6.dev with sys := { witPowerRowsStartAndStopTheCore6.dev.sys with resetLow := false } }) :=
    by decide +kernel
theorem test_PowerRowsStartAndStopTheCore_7 : (witPowerRowsStartAndStopTheCore7.dev.sys.powered = true) ∧ ((ran (.powerLoss)
    witPowerRowsStartAndStopTheCore7).sys.powered = false ∧ (ran (.powerLoss) witPowerRowsStartAndStopTheCore7).sys.supplies = false ∧
    (ran (.powerLoss) witPowerRowsStartAndStopTheCore7).fld SYS_MODE.MODE = 0 ∧ (ran (.powerLoss)
    witPowerRowsStartAndStopTheCore7).vg = witPowerRowsStartAndStopTheCore7.dev.vg ∧ (witPowerRowsStartAndStopTheCore7.dev.vg.stopped = false →
    (ran (.powerLoss) witPowerRowsStartAndStopTheCore7).fld VG_STAT.VALID = witPowerRowsStartAndStopTheCore7.dev.fld VG_STAT.VALID) ∧
    (ran (.powerLoss) witPowerRowsStartAndStopTheCore7).sys.map = witPowerRowsStartAndStopTheCore7.dev.sys.map ∧ (ran (.powerLoss)
    witPowerRowsStartAndStopTheCore7).lg.store = witPowerRowsStartAndStopTheCore7.dev.lg.store) := by decide +kernel
theorem test_PowerRowsStartAndStopTheCore_8 : ((ran (.coldPowerUp) witPowerRowsStartAndStopTheCore8).fld AX0_STATUS.STATE = 3 ∧
    (ran (.coldPowerUp) witPowerRowsStartAndStopTheCore8).fld SYS_FAULT.AX0_INVALID = 1 ∧ (ran (.coldPowerUp)
    witPowerRowsStartAndStopTheCore8).vg = {} ∧ (ran (.coldPowerUp) witPowerRowsStartAndStopTheCore8).sys.powered = false ∧ (ran (.coldPowerUp)
    witPowerRowsStartAndStopTheCore8).fld SYS_MODE.MODE = 0 ∧ (ran (.coldPowerUp)
    witPowerRowsStartAndStopTheCore8).sys.map = witPowerRowsStartAndStopTheCore8.dev.sys.map ∧ (ran (.coldPowerUp)
    witPowerRowsStartAndStopTheCore8).fuse = witPowerRowsStartAndStopTheCore8.dev.fuse ∧ (ran (.coldPowerUp)
    witPowerRowsStartAndStopTheCore8).lg.store = witPowerRowsStartAndStopTheCore8.dev.lg.store ∧ (ran (.coldPowerUp)
    witPowerRowsStartAndStopTheCore8).fld HL_SEQ.LAST_SEQ = witPowerRowsStartAndStopTheCore8.dev.fld HL_SEQ.LAST_SEQ) := by decide +kernel
def witKeyOffKeepsTheTime1 : State := st (fun d => { d.setFld AX0_STATUS.STATE 1 with sys := { powered := true }, boot := { loaded := true }, vg := { phase := 77 } })
def witKeyOffKeepsTheTime2 : State := st (fun d => { d.setFld HM_SEAL.SEAL 1 with sys := { powered := true }, boot := { loaded := true } })
def witKeyOffKeepsTheTime3 : State := st (fun d => { d with sys := { want := true } })
def witKeyOffKeepsTheTime4 : State := st (fun d => { (d.setFld AX0_STATUS.STATE 1) with tb := { calEdges := 2 ^ 20 } })
def witKeyOffKeepsTheTime5 : State := st (fun d => { ((d.setFld AX0_STATUS.STATE 1).setFld VG_COMP.K2 0) with tb := { calEdges := 2 ^ 20 } })
def witKeyOffKeepsTheTime6 : State := st (fun d => (d.setFld AX0_STATUS.STATE 1))
theorem test_KeyOffKeepsTheTime_1 : (witKeyOffKeepsTheTime1.dev.sys.powered = true) ∧ (witKeyOffKeepsTheTime1.dev.boot.loaded = true) ∧
    (witKeyOffKeepsTheTime1.dev.vg.phase < 1000000000) ∧ (witKeyOffKeepsTheTime1.dev.fld HM_SEAL.SEAL = 0) ∧
    (witKeyOffKeepsTheTime1.dev.hi.vigilReq = none) ∧ ((ran (.keyOff) witKeyOffKeepsTheTime1).sys.powered = false ∧ (ran (.keyOff)
    witKeyOffKeepsTheTime1).sys.supplies = false ∧ (ran (.keyOff) witKeyOffKeepsTheTime1).sys.keyHigh = false ∧ ((ran (.keyOff)
    witKeyOffKeepsTheTime1).vg.cnt + (ran (.keyOff) witKeyOffKeepsTheTime1).vg.phase * 2 ^ 17)
    % 2 ^ 96 = witKeyOffKeepsTheTime1.dev.ax0 / 2 ^ 45 * 2 ^ 29 % 2 ^ 96 ∧ (ran (.keyOff) witKeyOffKeepsTheTime1).vg.offAt = (ran (.keyOff)
    witKeyOffKeepsTheTime1).vg.cnt ∧ (ran (.keyOff) witKeyOffKeepsTheTime1).fld VG_OFF.UNC_OFF = min (witKeyOffKeepsTheTime1.dev.unc + 100)
    0xFFFFFFFF ∧ ((ran (.keyOff) witKeyOffKeepsTheTime1).fld VG_STAT.VALID = 1 ↔ witKeyOffKeepsTheTime1.dev.fld VG_STAT.XFAIL ≠ 1 ∧
    witKeyOffKeepsTheTime1.dev.vg.stopped = false ∧ witKeyOffKeepsTheTime1.dev.fld AX0_STATUS.STATE ≠ 3) ∧ (ran (.keyOff)
    witKeyOffKeepsTheTime1).fuse = witKeyOffKeepsTheTime1.dev.fuse) := by decide +kernel
theorem test_KeyOffKeepsTheTime_2 : (witKeyOffKeepsTheTime2.dev.sys.powered = true) ∧ ((ran (.keyOff)
    witKeyOffKeepsTheTime2).sys.powered = false ∧ (ran (.keyOff) witKeyOffKeepsTheTime2).fld SYS_MODE.MODE = 0 ∧ (ran (.keyOff)
    witKeyOffKeepsTheTime2).fld HM_SEAL.SEAL = 0 ∧ (ran (.keyOff) witKeyOffKeepsTheTime2).tb.a0 = {} ∧ (ran (.keyOff)
    witKeyOffKeepsTheTime2).fuse = witKeyOffKeepsTheTime2.dev.fuse ∧ (ran (.keyOff) witKeyOffKeepsTheTime2).mem = witKeyOffKeepsTheTime2.dev.mem)
    := by decide +kernel
theorem test_KeyOffKeepsTheTime_3 : (witKeyOffKeepsTheTime3.dev.sys.powered = false) ∧ ((ran (.keyOff) witKeyOffKeepsTheTime3)
    = { witKeyOffKeepsTheTime3.dev with sys := { witKeyOffKeepsTheTime3.dev.sys with keyHigh := false, want := false } }) := by decide +kernel
theorem test_KeyOffKeepsTheTime_4 : (witKeyOffKeepsTheTime4.dev.fld VG_CTRL.AUTO_CAL = 1) ∧ (witKeyOffKeepsTheTime4.dev.fld AX0_STATUS.STATE = 1)
    ∧ (2 ^ 20 ≤ witKeyOffKeepsTheTime4.dev.tb.calEdges) ∧ (4 < (5)) ∧ ((ran (.vigilCalDone (3) (5)) witKeyOffKeepsTheTime4)
    = { witKeyOffKeepsTheTime4.dev with tb := { witKeyOffKeepsTheTime4.dev.tb with calEdges := 0 } }) := by decide +kernel
theorem test_KeyOffKeepsTheTime_5 : (witKeyOffKeepsTheTime5.dev.fld VG_CTRL.AUTO_CAL = 1) ∧ (witKeyOffKeepsTheTime5.dev.fld AX0_STATUS.STATE = 1)
    ∧ (2 ^ 20 ≤ witKeyOffKeepsTheTime5.dev.tb.calEdges) ∧ (witKeyOffKeepsTheTime5.dev.wroteNow 0x3018 = false) ∧ ((4) ≤ 4) ∧
    (witKeyOffKeepsTheTime5.dev.vgCurve % 16 = 0) ∧ (-8388608 ≤ ((-12)) - witKeyOffKeepsTheTime5.dev.vgCurve / 16) ∧ (((-12))
    - witKeyOffKeepsTheTime5.dev.vgCurve / 16 < 8388608) ∧ ((ran (.vigilCalDone ((-12)) (4)) witKeyOffKeepsTheTime5)
    = { witKeyOffKeepsTheTime5.dev.setFld VG_CAL.CAL (ofS 24 (((-12)) - witKeyOffKeepsTheTime5.dev.vgCurve / 16)) with tb := { witKeyOffKeepsTheTime5.dev.tb with calEdges := 0 } })
    := by decide +kernel
theorem test_KeyOffKeepsTheTime_6 : ((witKeyOffKeepsTheTime6.dev.fld VG_CTRL.AUTO_CAL = 0 ∨ witKeyOffKeepsTheTime6.dev.fld AX0_STATUS.STATE ≠ 1 ∨
    witKeyOffKeepsTheTime6.dev.tb.calEdges < 2 ^ 20)) ∧ ((ran (.vigilCalDone (3) (5)) witKeyOffKeepsTheTime6) = witKeyOffKeepsTheTime6.dev) :=
    by decide +kernel
def witRepairMapRecordsRetirements1 : State := st (fun d => { ((((d.setFld QY_STATUS.ROLE 3 5).setFld AX0_REPAIR.RETIRED 2).setFld SYS_FAULT.TB_DEGRADED 1)) with sys := { powered := true } })
theorem test_RepairMapRecordsRetirements_1 : (witRepairMapRecordsRetirements1.dev.sys.powered = true) ∧ ((ran (.repairMapUpdate)
    witRepairMapRecordsRetirements1).sys.map = witRepairMapRecordsRetirements1.dev.repairMap ∧ (QY_STATUS.ROLE.key 5 0, 3)
    ∈ (ran (.repairMapUpdate) witRepairMapRecordsRetirements1).sys.map ∧ (AX0_REPAIR.RETIRED.key 0 0, 2) ∈ (ran (.repairMapUpdate)
    witRepairMapRecordsRetirements1).sys.map ∧ (SYS_FAULT.TB_DEGRADED.key 0 0, 1) ∈ (ran (.repairMapUpdate)
    witRepairMapRecordsRetirements1).sys.map) := by decide +kernel
def witAxisRowsAct1 : State := st (fun d => (d).setAxis 3 { sched := [{ cmd := {}, cfg := 0x7A, para := 5, parb := 6, parc := 7, cont := false, at_ := 0 }] })
def witAxisRowsAct2 : State := st (fun d => ((((d.setFld AX_CFG.EN 1 3).setFld AX_CFG.TYPE 1 3).setFld AX_PARB.PARB 77 3)).setAxis 3 { sched := [{ cmd := {}, cfg := 9, para := 5, parb := 6, parc := 7, cont := true, at_ := 0 }] })
def witAxisRowsAct3 : State := st (fun d => (((d.setFld AX_CFG.EN 1 15).setFld AX_CFG.TYPE 3 15)).setAxis 15 { pulses := 2, pk := 0 })
def witAxisRowsAct4 : State := st (fun d => { ((d.setFld WT_STATUS.STATE 3 7).setFld WT_CFG.EN 1 7).setTrkr 7 { ps := 3, hist := [100, 100], tk := 0 } with tb := { d.tb with a0 := { val := 2 ^ 100 }, a1 := { val := 2 ^ 100 }, a2 := { val := 2 ^ 100 } } })
def witAxisRowsAct5 : State := st (fun d => { ((d.setFld WT_STATUS.STATE 5 7).setFld WT_CFG.EN 1 7).setTrkr 7 { ph := { angle := 5, intv := 5 } } with tb := { d.tb with a0 := { val := 2 ^ 100 }, a1 := { val := 2 ^ 100 }, a2 := { val := 2 ^ 100 } } })
def witAxisRowsAct6 : State := st (fun d => { (((d.setFld AX_CFG.EN 1 15).setFld AX_CFG.TYPE 5 15)).setAxis 15 { remote := { seen := true } } with tb := { d.tb with elapsed := 4000 * 2 ^ 48 } })
def witAxisRowsAct7 : State := st (fun d => { (((d.setFld AX_CFG.EN 1 15).setFld AX_CFG.TYPE 5 15)).setAxis 15 { remote := { seen := true } } with tb := { d.tb with elapsed := 2 ^ 16 * 1000000 * 2 ^ 48 } })
theorem test_AxisRowsAct_1 : (0 < (3)) ∧ ((3) < 16) ∧ ((witAxisRowsAct1.dev.axis (3)).sched.find? (fun x => x.at_ ≤ witAxisRowsAct1.dev.ns)
    = some ({ cmd := {}, cfg := 0x7A, para := 5, parb := 6, parc := 7, cont := false, at_ := 0 } : AxisReq)) ∧
    ((({ cmd := {}, cfg := 0x7A, para := 5, parb := 6, parc := 7, cont := false, at_ := 0 } : AxisReq).cont = false ∨
    witAxisRowsAct1.dev.fld AX_CFG.EN (3) = 0 ∨ witAxisRowsAct1.dev.fld AX_CFG.TYPE (3) ≠ 1 ∨
    cut ({ cmd := {}, cfg := 0x7A, para := 5, parb := 6, parc := 7, cont := false, at_ := 0 } : AxisReq).cfg 0 3 ≠ 1)) ∧
    (cut ({ cmd := {}, cfg := 0x7A, para := 5, parb := 6, parc := 7, cont := false, at_ := 0 } : AxisReq).cfg 0 3 ≠ 0) ∧
    (cut ({ cmd := {}, cfg := 0x7A, para := 5, parb := 6, parc := 7, cont := false, at_ := 0 } : AxisReq).cfg 0 3 ≠ 7) ∧
    (({ cmd := {}, cfg := 0x7A, para := 5, parb := 6, parc := 7, cont := false, at_ := 0 } : AxisReq).parb < 2 ^ 64 ∧
    ({ cmd := {}, cfg := 0x7A, para := 5, parb := 6, parc := 7, cont := false, at_ := 0 } : AxisReq).parc < 2 ^ 64) ∧ ((ran (.setAxisApply (3))
    witAxisRowsAct1).fld AX_CFG.TYPE (3) = cut ({ cmd := {}, cfg := 0x7A, para := 5, parb := 6, parc := 7, cont := false, at_ := 0 }
    : AxisReq).cfg 0 3 ∧ (ran (.setAxisApply (3)) witAxisRowsAct1).fld AX_CFG.EN (3)
    = cut ({ cmd := {}, cfg := 0x7A, para := 5, parb := 6, parc := 7, cont := false, at_ := 0 } : AxisReq).cfg 3 1 ∧ (ran (.setAxisApply (3))
    witAxisRowsAct1).fld AX_CFG.SRC (3) = cut ({ cmd := {}, cfg := 0x7A, para := 5, parb := 6, parc := 7, cont := false, at_ := 0 }
    : AxisReq).cfg 4 12 ∧ (ran (.setAxisApply (3)) witAxisRowsAct1).fld AX_PARA.PARA (3)
    = ({ cmd := {}, cfg := 0x7A, para := 5, parb := 6, parc := 7, cont := false, at_ := 0 } : AxisReq).para % 2 ^ 48 ∧ (ran (.setAxisApply (3))
    witAxisRowsAct1).fld AX_PARB.PARB (3) = ({ cmd := {}, cfg := 0x7A, para := 5, parb := 6, parc := 7, cont := false, at_ := 0 }
    : AxisReq).parb ∧ (ran (.setAxisApply (3)) witAxisRowsAct1).fld AX_PARC.PARC (3)
    = ({ cmd := {}, cfg := 0x7A, para := 5, parb := 6, parc := 7, cont := false, at_ := 0 } : AxisReq).parc ∧ ((ran (.setAxisApply (3))
    witAxisRowsAct1).axis (3)).sched = (witAxisRowsAct1.dev.axis (3)).sched.erase
    ({ cmd := {}, cfg := 0x7A, para := 5, parb := 6, parc := 7, cont := false, at_ := 0 } : AxisReq)) := by decide +kernel
theorem test_AxisRowsAct_2 : (0 < (3)) ∧ ((3) < 16) ∧ ((witAxisRowsAct2.dev.axis (3)).sched.find? (fun x => x.at_ ≤ witAxisRowsAct2.dev.ns)
    = some ({ cmd := {}, cfg := 9, para := 5, parb := 6, parc := 7, cont := true, at_ := 0 } : AxisReq)) ∧
    (({ cmd := {}, cfg := 9, para := 5, parb := 6, parc := 7, cont := true, at_ := 0 } : AxisReq).cont = true) ∧
    (witAxisRowsAct2.dev.fld AX_CFG.EN (3) = 1) ∧ (witAxisRowsAct2.dev.fld AX_CFG.TYPE (3) = 1) ∧
    (cut ({ cmd := {}, cfg := 9, para := 5, parb := 6, parc := 7, cont := true, at_ := 0 } : AxisReq).cfg 0 3 = 1) ∧ ((ran (.setAxisApply (3))
    witAxisRowsAct2).fld AX_CFG.TYPE (3) = 1 ∧ (ran (.setAxisApply (3)) witAxisRowsAct2).fld AX_CFG.EN (3)
    = cut ({ cmd := {}, cfg := 9, para := 5, parb := 6, parc := 7, cont := true, at_ := 0 } : AxisReq).cfg 3 1 ∧ (ran (.setAxisApply (3))
    witAxisRowsAct2).fld AX_CFG.SRC (3) = cut ({ cmd := {}, cfg := 9, para := 5, parb := 6, parc := 7, cont := true, at_ := 0 }
    : AxisReq).cfg 4 12 ∧ (ran (.setAxisApply (3)) witAxisRowsAct2).fld AX_PARA.PARA (3)
    = ({ cmd := {}, cfg := 9, para := 5, parb := 6, parc := 7, cont := true, at_ := 0 } : AxisReq).para % 2 ^ 48 ∧ (ran (.setAxisApply (3))
    witAxisRowsAct2).fld AX_PARB.PARB (3) = ofS 64 (witAxisRowsAct2.dev.axDerived (3) / 65536) ∧ (ran (.setAxisApply (3))
    witAxisRowsAct2).fld AX_PARC.PARC (3) = witAxisRowsAct2.dev.ns % 2 ^ 64 ∧ ((ran (.setAxisApply (3))
    witAxisRowsAct2).axis (3)).sched = (witAxisRowsAct2.dev.axis (3)).sched.erase
    ({ cmd := {}, cfg := 9, para := 5, parb := 6, parc := 7, cont := true, at_ := 0 } : AxisReq)) := by decide +kernel
theorem test_AxisRowsAct_3 : (0 < (15)) ∧ ((15) < 16) ∧ (witAxisRowsAct3.dev.fld AX_CFG.EN (15) = 1) ∧ ((witAxisRowsAct3.dev.fld AX_CFG.TYPE (15)
    = 3 ∨ witAxisRowsAct3.dev.fld AX_CFG.TYPE (15) = 4)) ∧ (2 ≤ (witAxisRowsAct3.dev.axis (15)).pulses) ∧
    ((witAxisRowsAct3.dev.axis (15)).tk + max 2 (witAxisRowsAct3.dev.fld AX_PARB.PARB (15) % 16)
    * (witAxisRowsAct3.dev.axis (15)).pk ≤ witAxisRowsAct3.dev.t8) ∧ ((ran (.axisStall (15)) witAxisRowsAct3) = witAxisRowsAct3.dev.setAxis (15)
    { witAxisRowsAct3.dev.axis (15) with stalled := true }) := by decide +kernel
theorem test_AxisRowsAct_4 : ((7) < 8) ∧ (witAxisRowsAct4.dev.wtStallDue (7) = true) ∧ (witAxisRowsAct4.dev.fld WT_STATUS.STALL (7) = 0) ∧
    (witAxisRowsAct4.dev.fld WT_STATUS.STATE (7) = 3) ∧ ((ran (.wtStall (7)) witAxisRowsAct4).fld WT_STATUS.STALL (7) = 1 ∧ ((ran (.wtStall (7))
    witAxisRowsAct4).trkr (7)).wait = 1 ∧ (ran (.wtStall (7)) witAxisRowsAct4).sl.rises.map (fun r => r.src)
    = witAxisRowsAct4.dev.sl.rises.map (fun r => r.src) ++ [0x604 + 8 * (7)]) := by decide +kernel
theorem test_AxisRowsAct_5 : ((7) < 8) ∧ (witAxisRowsAct5.dev.wtStallDue (7) = true) ∧ (witAxisRowsAct5.dev.fld WT_STATUS.STALL (7) = 0) ∧
    (witAxisRowsAct5.dev.fld WT_STATUS.STATE (7) = 5) ∧ ((ran (.wtStall (7)) witAxisRowsAct5).fld WT_STATUS.STALL (7) = 1 ∧ ((ran (.wtStall (7))
    witAxisRowsAct5).trkr (7)).ph.wait = 1 ∧ (ran (.wtStall (7)) witAxisRowsAct5).sl.rises.map (fun r => r.src)
    = witAxisRowsAct5.dev.sl.rises.map (fun r => r.src) ++ [0x604 + 8 * (7)]) := by decide +kernel
theorem test_AxisRowsAct_6 : ((15) ≠ 0) ∧ ((15) < 16) ∧ (witAxisRowsAct6.dev.fld AX_CFG.TYPE (15) = 5) ∧ (witAxisRowsAct6.dev.fld AX_CFG.EN (15)
    = 1) ∧ ((witAxisRowsAct6.dev.axis (15)).remote.seen = true) ∧ ((witAxisRowsAct6.dev.axis (15)).remote.absent = false) ∧
    ((witAxisRowsAct6.dev.axis (15)).remote.at_ + 4000 ≤ witAxisRowsAct6.dev.elNs) ∧ ((ran (.remoteHoldover (15)) witAxisRowsAct6)
    = witAxisRowsAct6.dev.setRemote (15) { (witAxisRowsAct6.dev.axis (15)).remote with holdover := true }) := by decide +kernel
theorem test_AxisRowsAct_7 : ((15) ≠ 0) ∧ ((15) < 16) ∧ (witAxisRowsAct7.dev.fld AX_CFG.TYPE (15) = 5) ∧ (witAxisRowsAct7.dev.fld AX_CFG.EN (15)
    = 1) ∧ ((witAxisRowsAct7.dev.axis (15)).remote.absent = false) ∧ ((witAxisRowsAct7.dev.axis (15)).remote.subnak = none) ∧
    ((witAxisRowsAct7.dev.axis (15)).remote.at_ + max 1 (witAxisRowsAct7.dev.fld CW_TIMING.PUB_TIMEOUT_MS) * 1000000 ≤ witAxisRowsAct7.dev.elNs) ∧
    ((ran (.remoteAbsent (15)) witAxisRowsAct7).axis (15)
    = { witAxisRowsAct7.dev.axis (15) with remote := { (witAxisRowsAct7.dev.axis (15)).remote with held := witAxisRowsAct7.dev.axValue (15), slew := 0, absent := true } }
    ∧ (ran (.remoteAbsent (15)) witAxisRowsAct7).sl.rises.dropLast = witAxisRowsAct7.dev.sl.rises ∧ (ran (.remoteAbsent (15))
    witAxisRowsAct7).sl.rises.length = witAxisRowsAct7.dev.sl.rises.length + 1) := by decide +kernel
def witPinRowsAct1 : State := st (fun d => d.setFld TIO_PIN.IN_INV 1 127 |>.setPin 127 { filt := true })
def witPinRowsAct2 : State := st (fun d => { d.setPin 5 { ball := true, window := [{ t := 0, el := 0, lvl := true, axs := [] }] } with tb := { d.tb with elapsed := 16 * 2 ^ 48 } })
def witPinRowsAct3 : State := st (fun d => { d.setPin 5 { expect := [{ by_ := .channel 17 3, t := 0, lvl := true }] } with tb := { d.tb with a0 := { val := 2 ^ 100 }, a1 := { val := 2 ^ 100 }, a2 := { val := 2 ^ 100 } } })
def witPinRowsAct4 : State := st (fun d => (((d.setFld TIO_PIN.OUT_SRC 1 127).setFld TIO_PIN.OUT_CH 17 127)).setQuay 1 { edges := [{ ch := 17, item := { io := 255 }, role := .tail, lvl := some true, t := 13 }] })
def witPinRowsAct5 : State := st (fun d => (d.setQuay 1 { edges := [{ ch := 17, item := { ctrl := 1, gen := 4 }, role := .first, t := 13 }] }).setChan 17 { cur := some { ctrl := 1, gen := 4 }, cstate := 2 })
def witPinRowsAct6 : State := st (fun d => ((d.setFld SYS_MODE.MODE 2).setChan 16 { cur := some { ctrl := 1, cmp := 100, gen := 4 }, cstate := 1 }).setQuay 1 { half := false })
def witPinRowsAct7 : State := st (fun d => (d.setChan 511 { inputs := [{ t := 0, el := 0, lvl := true, axs := [] }] }).setQuay 31 { next := 15 })
def witPinRowsAct8 : State := st (fun d => (d.setChan 511 { cur := some { ctrl := 1 } }).setQuay 31 { next := 15 })
def witPinRowsAct9 : State := st (fun d => { d.setChan 511 { cur := some { ctrl := 6, tcap := 1 } } with tb := { d.tb with elapsed := 16 * 2 ^ 48 } })
theorem test_PinRowsAct_1 : ((127) < 128) ∧ ((witPinRowsAct1.dev.pin (127)).ball ≠ (true)) ∧ ((witPinRowsAct1.dev.pin (127)).expect = []) ∧
    ((witPinRowsAct1.dev.pin (127)).window = []) ∧ ((witPinRowsAct1.dev.pin (127)).filt ≠ ((true)
    != witPinRowsAct1.dev.flag TIO_PIN.IN_INV (127))) ∧ (witPinRowsAct1.dev.fld TIO_PIN.OUT_SRC (127) ≠ 1) ∧
    (witPinRowsAct1.dev.fld TIO_PIN.IN_DIS (127) = 0) ∧ (((ran (.pinTransition (127) (true) ((7 : BitVec 4)))
    witPinRowsAct1).pin (127)).ball = (true) ∧ ((ran (.pinTransition (127) (true) ((7 : BitVec 4)))
    witPinRowsAct1).pin (127)).filt = (witPinRowsAct1.dev.pin (127)).filt ∧ ((ran (.pinTransition (127) (true) ((7 : BitVec 4)))
    witPinRowsAct1).pin (127)).window = [{ t := witPinRowsAct1.dev.t8 + ((7 : BitVec 4)).toNat, el := witPinRowsAct1.dev.el8 + ((7 : BitVec 4)).toNat, lvl := (true) != witPinRowsAct1.dev.flag TIO_PIN.IN_INV (127), axs := witPinRowsAct1.dev.sampleAxes ((7 : BitVec 4)).toNat }])
    := by decide +kernel
theorem test_PinRowsAct_2 : ((witPinRowsAct2.dev.pin (5)).window = ({ t := 0, el := 0, lvl := true, axs := [] } : InEdge) :: ([] : List InEdge)) ∧
    (({ t := 0, el := 0, lvl := true, axs := [] } : InEdge).due.getD
    (({ t := 0, el := 0, lvl := true, axs := [] } : InEdge).el + witPinRowsAct2.dev.filtLen (5) + 128) ≤ witPinRowsAct2.dev.el8) ∧
    (((ran (.filterAccept (5)) witPinRowsAct2).pin (5)).filt = ({ t := 0, el := 0, lvl := true, axs := [] } : InEdge).lvl ∧
    ((ran (.filterAccept (5)) witPinRowsAct2).pin (5)).window = ([] : List InEdge)) := by decide +kernel
theorem test_PinRowsAct_3 : ((witPinRowsAct3.dev.pin (5)).expect = ({ by_ := .channel 17 3, t := 0, lvl := true } : Expect) :: ([] : List Expect))
    ∧ (({ by_ := .channel 17 3, t := 0, lvl := true } : Expect).t + 64 ≤ witPinRowsAct3.dev.t8) ∧ (((ran (.auditNoTransition (5))
    witPinRowsAct3).pin (5)).expect = ([] : List Expect) ∧ (ran (.auditNoTransition (5)) witPinRowsAct3).fld QY_AUDIT.LAST_PIN 1 = 5 ∧
    (ran (.auditNoTransition (5)) witPinRowsAct3).fld QY_AUDIT.AUDIT_CNT 1 = 1 ∧ ((ran (.auditNoTransition (5))
    witPinRowsAct3).chan 17).auditErr = true) := by decide +kernel
theorem test_PinRowsAct_4 : ((1) < 34) ∧ (witPinRowsAct4.dev.fld QY_STATUS.ROLE (1) = 0) ∧
    ((witPinRowsAct4.dev.quay (witPinRowsAct4.dev.fld QY_STATUS.LOGICAL
    (1))).edges[(0)]? = some ({ ch := 17, item := { io := 255 }, role := .tail, lvl := some true, t := 13 } : Edge)) ∧
    (({ ch := 17, item := { io := 255 }, role := .tail, lvl := some true, t := 13 } : Edge).t < witPinRowsAct4.dev.t8 + 16) ∧
    ((witPinRowsAct4.dev.pin ({ ch := 17, item := { io := 255 }, role := .tail, lvl := some true, t := 13 } : Edge).item.outPin).early = none) ∧
    (({ ch := 17, item := { io := 255 }, role := .tail, lvl := some true, t := 13 } : Edge).role = .tail) ∧ (((ran (.edgePlace (1) (0))
    witPinRowsAct4).chan ({ ch := 17, item := { io := 255 }, role := .tail, lvl := some true, t := 13 }
    : Edge).ch).last = ({ ch := 17, item := { io := 255 }, role := .tail, lvl := some true, t := 13 } : Edge).t / 8 ∧ ((ran (.edgePlace (1) (0))
    witPinRowsAct4).chan ({ ch := 17, item := { io := 255 }, role := .tail, lvl := some true, t := 13 }
    : Edge).ch).lastSub = ({ ch := 17, item := { io := 255 }, role := .tail, lvl := some true, t := 13 } : Edge).t % 8 ∧ ((ran (.edgePlace (1)
    (0)) witPinRowsAct4).chan ({ ch := 17, item := { io := 255 }, role := .tail, lvl := some true, t := 13 }
    : Edge).ch).late = ({ ch := 17, item := { io := 255 }, role := .tail, lvl := some true, t := 13 } : Edge).late ∧ ((ran (.edgePlace (1) (0))
    witPinRowsAct4).quay (witPinRowsAct4.dev.fld QY_STATUS.LOGICAL (1))).edges = (witPinRowsAct4.dev.quay (witPinRowsAct4.dev.fld
    QY_STATUS.LOGICAL (1))).edges.eraseIdx (0) ∧ ((ran (.edgePlace (1) (0)) witPinRowsAct4).pin 127).chLvl = some true) := by decide +kernel
theorem test_PinRowsAct_5 : ((1) < 34) ∧ (witPinRowsAct5.dev.fld QY_STATUS.ROLE (1) = 0) ∧
    ((witPinRowsAct5.dev.quay (witPinRowsAct5.dev.fld QY_STATUS.LOGICAL
    (1))).edges[(0)]? = some ({ ch := 17, item := { ctrl := 1, gen := 4 }, role := .first, t := 13 } : Edge)) ∧
    (({ ch := 17, item := { ctrl := 1, gen := 4 }, role := .first, t := 13 } : Edge).t < witPinRowsAct5.dev.t8 + 16) ∧
    ((witPinRowsAct5.dev.pin ({ ch := 17, item := { ctrl := 1, gen := 4 }, role := .first, t := 13 } : Edge).item.outPin).early = none) ∧
    (({ ch := 17, item := { ctrl := 1, gen := 4 }, role := .first, t := 13 } : Edge).role = .first) ∧
    (({ ch := 17, item := { ctrl := 1, gen := 4 }, role := .first, t := 13 } : Edge).item.mode = 1) ∧
    ((witPinRowsAct5.dev.chan ({ ch := 17, item := { ctrl := 1, gen := 4 }, role := .first, t := 13 }
    : Edge).ch).cur = some ({ ctrl := 1, gen := 4 } : ChItem)) ∧
    (({ ctrl := 1, gen := 4 } : ChItem).gen = ({ ch := 17, item := { ctrl := 1, gen := 4 }, role := .first, t := 13 } : Edge).item.gen) ∧
    ((witPinRowsAct5.dev.chan ({ ch := 17, item := { ctrl := 1, gen := 4 }, role := .first, t := 13 } : Edge).ch).queued = none) ∧
    ((witPinRowsAct5.dev.chan ({ ch := 17, item := { ctrl := 1, gen := 4 }, role := .first, t := 13 } : Edge).ch).waits = []) ∧
    (((ran (.edgePlace (1) (0)) witPinRowsAct5).chan ({ ch := 17, item := { ctrl := 1, gen := 4 }, role := .first, t := 13 }
    : Edge).ch).cur = none ∧ ((ran (.edgePlace (1) (0))
    witPinRowsAct5).chan ({ ch := 17, item := { ctrl := 1, gen := 4 }, role := .first, t := 13 }
    : Edge).ch).last = ({ ch := 17, item := { ctrl := 1, gen := 4 }, role := .first, t := 13 } : Edge).t / 8 ∧ ((ran (.edgePlace (1) (0))
    witPinRowsAct5).chan ({ ch := 17, item := { ctrl := 1, gen := 4 }, role := .first, t := 13 }
    : Edge).ch).lastSub = ({ ch := 17, item := { ctrl := 1, gen := 4 }, role := .first, t := 13 } : Edge).t % 8 ∧ (ran (.edgePlace (1) (0))
    witPinRowsAct5).sl.rises.map (fun r => r.src) = witPinRowsAct5.dev.sl.rises.map (fun r => r.src)
    ++ [3 * ({ ch := 17, item := { ctrl := 1, gen := 4 }, role := .first, t := 13 } : Edge).ch]) := by decide +kernel
theorem test_PinRowsAct_6 : (witPinRowsAct6.dev.slotDue (16) = true) ∧ ((witPinRowsAct6.dev.chan (16)).cmds = []) ∧
    (witPinRowsAct6.dev.qpWaits (16) = []) ∧ ((witPinRowsAct6.dev.chan (16)).inputs = []) ∧ ((witPinRowsAct6.dev.chan (16)).frozen = false) ∧
    ((witPinRowsAct6.dev.chan (16)).owed = none) ∧ ((witPinRowsAct6.dev.chan (16)).tails = []) ∧
    ((witPinRowsAct6.dev.chan (16)).cur = some ({ ctrl := 1, cmp := 100, gen := 4 } : ChItem)) ∧
    (({ ctrl := 1, cmp := 100, gen := 4 } : ChItem).mode = 1) ∧ (({ ctrl := 1, cmp := 100, gen := 4 } : ChItem).axis = 0) ∧
    (({ ctrl := 1, cmp := 100, gen := 4 } : ChItem).gated = false) ∧ ((witPinRowsAct6.dev.chan (16)).cstate = 1) ∧
    ((witPinRowsAct6.dev.chan (16)).started = false) ∧ ((witPinRowsAct6.dev.chan (16)).jump = none) ∧
    ((witPinRowsAct6.dev.chan (16)).lastEdge = none) ∧ (witPinRowsAct6.dev.fld SYS_MODE.MODE = 2) ∧ ((witPinRowsAct6.dev.quay ((16)
    / 16)).half = false) ∧ ((witPinRowsAct6.dev.quay ((16) / 16)).round = false) ∧
    (witPinRowsAct6.dev.t8 + 768 + 8 * ({ ctrl := 1, cmp := 100, gen := 4 } : ChItem).adv ≤ 8 * ({ ctrl := 1, cmp := 100, gen := 4 } : ChItem).cmp
    + ({ ctrl := 1, cmp := 100, gen := 4 } : ChItem).sub) ∧
    (8 * ({ ctrl := 1, cmp := 100, gen := 4 } : ChItem).cmp + ({ ctrl := 1, cmp := 100, gen := 4 }
    : ChItem).sub < witPinRowsAct6.dev.t8 + 1024 + 8 * ({ ctrl := 1, cmp := 100, gen := 4 } : ChItem).adv) ∧ (witPinRowsAct6.dev.slotsUsed ((16)
    / 16) < 8) ∧ (((ran (.scanVisit (16) false) witPinRowsAct6).quay ((16) / 16)).edges.map (fun e => (e.ch, e.t, e.late)) = [(16, 800, false)] ∧
    ((ran (.scanVisit (16) false) witPinRowsAct6).chan (16)).started = true ∧ ((ran (.scanVisit (16) false) witPinRowsAct6).chan (16)).cstate = 2)
    := by decide +kernel
theorem test_PinRowsAct_7 : (witPinRowsAct7.dev.slotDue (511) = true) ∧ ((witPinRowsAct7.dev.chan (511)).cmds = []) ∧
    (witPinRowsAct7.dev.qpWaits (511) = []) ∧ ((witPinRowsAct7.dev.chan (511)).cur = none) ∧ ((witPinRowsAct7.dev.chan (511)).queued = none) ∧
    ((witPinRowsAct7.dev.chan (511)).ended = none) ∧ ((witPinRowsAct7.dev.chan (511)).owed = none) ∧ ((witPinRowsAct7.dev.chan (511)).tails = [])
    ∧ (((ran (.scanVisit (511) false) witPinRowsAct7).chan (511)).inputs = [] ∧ ((ran (.scanVisit (511) false)
    witPinRowsAct7).chan (511)).cur = none ∧ ((ran (.scanVisit (511) false) witPinRowsAct7).quay ((511) / 16)).next = ((511) + 1) % 16 ∧
    ((ran (.scanVisit (511) false) witPinRowsAct7).quay ((511) / 16)).at_ = some witPinRowsAct7.dev.tb.eclk) := by decide +kernel
theorem test_PinRowsAct_8 : (witPinRowsAct8.dev.slotDue (511) = true) ∧ ((witPinRowsAct8.dev.chan (511)).cmds = []) ∧
    (witPinRowsAct8.dev.qpWaits (511) = []) ∧ ((witPinRowsAct8.dev.chan (511)).cur = some ({ ctrl := 1 } : ChItem)) ∧
    (witPinRowsAct8.dev.fld QY_STATUS.SUSPECT (witPinRowsAct8.dev.physOf ((511) / 16)) = 0) ∧
    (witPinRowsAct8.dev.fld QY_STATUS.ROLE (witPinRowsAct8.dev.physOf ((511) / 16)) = 0) ∧ ((witPinRowsAct8.dev.chan (511)).inputs = []) ∧
    (((ran (.scanVisit (511) true) witPinRowsAct8).chan (511)).frozen = true ∧ (ran (.scanVisit (511) true)
    witPinRowsAct8).fld QY_STATUS.SUSPECT (witPinRowsAct8.dev.physOf ((511) / 16)) = 1) := by decide +kernel
theorem test_PinRowsAct_9 : ((witPinRowsAct9.dev.chan (511)).cur = some ({ ctrl := 6, tcap := 1 } : ChItem)) ∧
    (({ ctrl := 6, tcap := 1 } : ChItem).mode = 6) ∧ (({ ctrl := 6, tcap := 1 } : ChItem).tcap ≠ 0) ∧
    ((witPinRowsAct9.dev.chan (511)).mOut = false) ∧ ((witPinRowsAct9.dev.chan (511)).mFrom + 8 * ({ ctrl := 6, tcap := 1 }
    : ChItem).tcap ≤ witPinRowsAct9.dev.el8) ∧ ((witPinRowsAct9.dev.chan (511)).frozen = false) ∧ ((witPinRowsAct9.dev.chan (511)).inputs = []) ∧
    (((ran (.measureTimeout (511)) witPinRowsAct9).chan (511)).mOut = true ∧ ((ran (.measureTimeout (511))
    witPinRowsAct9).chan (511)).mSel = none ∧ (ran (.measureTimeout (511)) witPinRowsAct9).sl.rises.map (fun r => r.src)
    = witPinRowsAct9.dev.sl.rises.map (fun r => r.src) ++ [3 * (511) + 1]) := by decide +kernel
def witSubstitutionMovesAQuay1 : State := st (fun d => { d with qy := { d.qy with subst := some ({ q := 3, old := 3, new := 32, phase := 1, at_ := 0, cmd := none } : Subst) } })
def witSubstitutionMovesAQuay2 : State := st (fun d => { d with qy := { d.qy with subst := some ({ q := 3, old := 3, new := 32, phase := 2, at_ := 0, cmd := none } : Subst) } })
def witSubstitutionMovesAQuay3 : State := st (fun d => { d.setFld QY_STATUS.ROLE 2 32 with qy := { d.qy with subst := some ({ q := 3, old := 3, new := 32, phase := 2, at_ := 0, cmd := some {} } : Subst) } })
def witSubstitutionMovesAQuay4 : State := st (fun d => { d.setFld QY_STATUS.ROLE 2 32 with qy := { d.qy with subst := some ({ q := 3, old := 3, new := 32, phase := 3, at_ := 0, cmd := none } : Subst) } })
def witSubstitutionMovesAQuay5 : State := st (fun d => { { d.setFld QY_STATUS.ROLE 2 32 with qy := { d.qy with subst := some ({ q := 3, old := 3, new := 32, phase := 3, at_ := 0, cmd := none } : Subst) } } with tb := { d.tb with eclk := 5000 } })
def witSubstitutionMovesAQuay6 : State := st (fun d => { d with qy := { retry := [(4, 0)] } })
def witSubstitutionMovesAQuay7 : State := st (fun d => d)
def witSubstitutionMovesAQuay8 : State := st (fun d => d)
theorem test_SubstitutionMovesAQuay_1 : (witSubstitutionMovesAQuay1.dev.qy.subst
    = some ({ q := 3, old := 3, new := 32, phase := 1, at_ := 0, cmd := none } : Subst)) ∧
    (({ q := 3, old := 3, new := 32, phase := 1, at_ := 0, cmd := none } : Subst).phase = 1) ∧ ((upto 16).all (fun k =>
    !(witSubstitutionMovesAQuay1.dev.chan (16 * ({ q := 3, old := 3, new := 32, phase := 1, at_ := 0, cmd := none } : Subst).q + k)).frozen)
    = true) ∧ ((ran (.mirrorCopyDone []) witSubstitutionMovesAQuay1)
    = { witSubstitutionMovesAQuay1.dev with qy := { witSubstitutionMovesAQuay1.dev.qy with subst := some { ({ q := 3, old := 3, new := 32, phase := 1, at_ := 0, cmd := none } : Subst) with phase := 2, failed := 0 } } })
    := by decide +kernel
theorem test_SubstitutionMovesAQuay_2 : (witSubstitutionMovesAQuay2.dev.qy.subst
    = some ({ q := 3, old := 3, new := 32, phase := 2, at_ := 0, cmd := none } : Subst)) ∧
    (({ q := 3, old := 3, new := 32, phase := 2, at_ := 0, cmd := none } : Subst).phase = 2) ∧ ((ran (.mirrorCompareDone false)
    witSubstitutionMovesAQuay2)
    = { witSubstitutionMovesAQuay2.dev with qy := { witSubstitutionMovesAQuay2.dev.qy with subst := some { ({ q := 3, old := 3, new := 32, phase := 2, at_ := 0, cmd := none } : Subst) with phase := 3 } } })
    := by decide +kernel
theorem test_SubstitutionMovesAQuay_3 : (witSubstitutionMovesAQuay3.dev.qy.subst
    = some ({ q := 3, old := 3, new := 32, phase := 2, at_ := 0, cmd := some {} } : Subst)) ∧
    (({ q := 3, old := 3, new := 32, phase := 2, at_ := 0, cmd := some {} } : Subst).phase = 2) ∧
    (({ q := 3, old := 3, new := 32, phase := 2, at_ := 0, cmd := some {} } : Subst).cmd = some ({})) ∧
    (({ q := 3, old := 3, new := 32, phase := 2, at_ := 0, cmd := some {} } : Subst).new < 34) ∧
    (witSubstitutionMovesAQuay3.dev.fld QY_STATUS.ROLE ({ q := 3, old := 3, new := 32, phase := 2, at_ := 0, cmd := some {} } : Subst).new = 2) ∧
    (witSubstitutionMovesAQuay3.dev.qy.auto = []) ∧ ((ran (.mirrorCompareDone true) witSubstitutionMovesAQuay3).qy.subst = none ∧
    (ran (.mirrorCompareDone true)
    witSubstitutionMovesAQuay3).fld QY_STATUS.ROLE ({ q := 3, old := 3, new := 32, phase := 2, at_ := 0, cmd := some {} } : Subst).new = 1 ∧
    (ran (.mirrorCompareDone true)
    witSubstitutionMovesAQuay3).fld QY_STATUS.LOGICAL ({ q := 3, old := 3, new := 32, phase := 2, at_ := 0, cmd := some {} } : Subst).new = 0 ∧
    ((ran (.mirrorCompareDone true) witSubstitutionMovesAQuay3).physQ ({ q := 3, old := 3, new := 32, phase := 2, at_ := 0, cmd := some {} }
    : Subst).new).mismatches = (witSubstitutionMovesAQuay3.dev.physQ ({ q := 3, old := 3, new := 32, phase := 2, at_ := 0, cmd := some {} }
    : Subst).new).mismatches + 1) := by decide +kernel
theorem test_SubstitutionMovesAQuay_4 : (witSubstitutionMovesAQuay4.dev.qy.subst
    = some ({ q := 3, old := 3, new := 32, phase := 3, at_ := 0, cmd := none } : Subst)) ∧
    (({ q := 3, old := 3, new := 32, phase := 3, at_ := 0, cmd := none } : Subst).phase = 3) ∧
    (({ q := 3, old := 3, new := 32, phase := 3, at_ := 0, cmd := none } : Subst).old < 34) ∧
    (({ q := 3, old := 3, new := 32, phase := 3, at_ := 0, cmd := none } : Subst).new < 34) ∧
    (({ q := 3, old := 3, new := 32, phase := 3, at_ := 0, cmd := none } : Subst).q < 32) ∧
    (({ q := 3, old := 3, new := 32, phase := 3, at_ := 0, cmd := none }
    : Subst).old ≠ ({ q := 3, old := 3, new := 32, phase := 3, at_ := 0, cmd := none } : Subst).new) ∧
    (2 * witSubstitutionMovesAQuay4.dev.tb.eclk ≤ ({ q := 3, old := 3, new := 32, phase := 3, at_ := 0, cmd := none } : Subst).at_ + 10000) ∧
    (witSubstitutionMovesAQuay4.dev.quiet ({ q := 3, old := 3, new := 32, phase := 3, at_ := 0, cmd := none } : Subst).q = true) ∧
    (witSubstitutionMovesAQuay4.dev.qy.auto = []) ∧ ((ran (.quaySwitch)
    witSubstitutionMovesAQuay4).fld QY_STATUS.ROLE ({ q := 3, old := 3, new := 32, phase := 3, at_ := 0, cmd := none } : Subst).old = 3 ∧
    (ran (.quaySwitch) witSubstitutionMovesAQuay4).fld QY_STATUS.SUSPECT ({ q := 3, old := 3, new := 32, phase := 3, at_ := 0, cmd := none }
    : Subst).old = 0 ∧ (ran (.quaySwitch)
    witSubstitutionMovesAQuay4).fld QY_STATUS.ROLE ({ q := 3, old := 3, new := 32, phase := 3, at_ := 0, cmd := none } : Subst).new = 0 ∧
    (ran (.quaySwitch) witSubstitutionMovesAQuay4).fld QY_STATUS.LOGICAL ({ q := 3, old := 3, new := 32, phase := 3, at_ := 0, cmd := none }
    : Subst).new = ({ q := 3, old := 3, new := 32, phase := 3, at_ := 0, cmd := none } : Subst).q ∧ (ran (.quaySwitch)
    witSubstitutionMovesAQuay4).qy.subst = none ∧ (ran (.quaySwitch)
    witSubstitutionMovesAQuay4).qy.chans = witSubstitutionMovesAQuay4.dev.qy.chans ∧ (ran (.quaySwitch)
    witSubstitutionMovesAQuay4).qy.quays = witSubstitutionMovesAQuay4.dev.qy.quays) := by decide +kernel
theorem test_SubstitutionMovesAQuay_5 : (witSubstitutionMovesAQuay5.dev.qy.subst
    = some ({ q := 3, old := 3, new := 32, phase := 3, at_ := 0, cmd := none } : Subst)) ∧
    (({ q := 3, old := 3, new := 32, phase := 3, at_ := 0, cmd := none } : Subst).at_ + 10000 ≤ 2 * witSubstitutionMovesAQuay5.dev.tb.eclk) ∧
    (({ q := 3, old := 3, new := 32, phase := 3, at_ := 0, cmd := none } : Subst).cmd = none) ∧
    (({ q := 3, old := 3, new := 32, phase := 3, at_ := 0, cmd := none } : Subst).new < 34) ∧
    (witSubstitutionMovesAQuay5.dev.fld QY_STATUS.ROLE ({ q := 3, old := 3, new := 32, phase := 3, at_ := 0, cmd := none } : Subst).new = 2) ∧
    (witSubstitutionMovesAQuay5.dev.qy.auto = []) ∧ ((ran (.noQuietTimeout) witSubstitutionMovesAQuay5).qy.subst = none ∧ (ran (.noQuietTimeout)
    witSubstitutionMovesAQuay5).qy.retry = witSubstitutionMovesAQuay5.dev.qy.retry
    ++ [(({ q := 3, old := 3, new := 32, phase := 3, at_ := 0, cmd := none } : Subst).old, 2 * witSubstitutionMovesAQuay5.dev.tb.eclk + 100000)] ∧
    (ran (.noQuietTimeout) witSubstitutionMovesAQuay5).fld QY_STATUS.ROLE ({ q := 3, old := 3, new := 32, phase := 3, at_ := 0, cmd := none }
    : Subst).new = 1 ∧ (ran (.noQuietTimeout)
    witSubstitutionMovesAQuay5).fld QY_STATUS.LOGICAL ({ q := 3, old := 3, new := 32, phase := 3, at_ := 0, cmd := none } : Subst).new = 0) :=
    by decide +kernel
theorem test_SubstitutionMovesAQuay_6 : (witSubstitutionMovesAQuay6.dev.qy.retry = ((4), (0)) :: ([] : List (Nat × Nat))) ∧ ((0)
    ≤ 2 * witSubstitutionMovesAQuay6.dev.tb.eclk) ∧ ((4) < 34) ∧ (witSubstitutionMovesAQuay6.dev.fld QY_STATUS.ROLE (4) = 0) ∧
    (witSubstitutionMovesAQuay6.dev.qy.subst = none) ∧ (witSubstitutionMovesAQuay6.dev.spareQuays = (32) :: ([33])) ∧ ((ran (.autoSubRetry)
    witSubstitutionMovesAQuay6).qy.retry = ([] : List (Nat × Nat)) ∧ (ran (.autoSubRetry)
    witSubstitutionMovesAQuay6).qy.subst = some { q := witSubstitutionMovesAQuay6.dev.fld QY_STATUS.LOGICAL (4), old := witSubstitutionMovesAQuay6.dev.physOf (witSubstitutionMovesAQuay6.dev.fld QY_STATUS.LOGICAL (4)), new := (32), phase := 1, at_ := 2 * witSubstitutionMovesAQuay6.dev.tb.eclk, cmd := none }
    ∧ (ran (.autoSubRetry) witSubstitutionMovesAQuay6).fld QY_STATUS.ROLE (32) = 2 ∧ (ran (.autoSubRetry)
    witSubstitutionMovesAQuay6).fld QY_STATUS.LOGICAL (32) = witSubstitutionMovesAQuay6.dev.fld QY_STATUS.LOGICAL (4) % 32) := by decide +kernel
theorem test_SubstitutionMovesAQuay_7 : ((33) < 34) ∧ ((ran (.vernierCal (33) .good) witSubstitutionMovesAQuay7)
    = (witSubstitutionMovesAQuay7.dev.setFld QY_DIAG.VCAL_OK 1 (33)).setPhysQ (33)
    { witSubstitutionMovesAQuay7.dev.physQ (33) with calAt := some (2 * witSubstitutionMovesAQuay7.dev.tb.eclk) }) := by decide +kernel
theorem test_SubstitutionMovesAQuay_8 : ((31) < 34) ∧ (witSubstitutionMovesAQuay8.dev.fld QY_STATUS.ROLE (31) = 0) ∧
    (witSubstitutionMovesAQuay8.dev.fld QY_STATUS.SUSPECT (31) = 0) ∧ ((ran (.vernierCal (31) .bad)
    witSubstitutionMovesAQuay8).fld QY_STATUS.SUSPECT (31) = 1 ∧ (ran (.vernierCal (31) .bad) witSubstitutionMovesAQuay8).fld QY_STATUS.ROLE (31)
    = 0) := by decide +kernel
def witChannelCommandsAct1 : State := st (fun d => (ready d).setChan 17 { gen := 0xFFFF })
def witChannelCommandsAct2 : State := st (fun d => (ready d).setChan 17 { cur := some { ctrl := 1 }, cstate := 1, gen := 5 })
def witChannelCommandsAct3 : State := st (fun d => (ready d).setChan 17 { cur := some { gen := 9, ctrl := 1, cmp := 5 }, cstate := 1, gen := 9 })
def witChannelCommandsAct4 : State := st (fun d => ({ ready d with hi := { (ready d).hi with rings := [(0, { running := [{ w := BitVec.ofNat 512 (1 * 2 ^ 0 + 16 * 2 ^ 16 + 1 * 2 ^ 64 + 1000 * 2 ^ 128) }] })] } }).setChan 16 { gen := 0xFFFF, cmds := [{ w := BitVec.ofNat 512 (1 * 2 ^ 0 + 16 * 2 ^ 16 + 1 * 2 ^ 64 + 1000 * 2 ^ 128) }] })
def witChannelCommandsAct5 : State := st (fun d => ({ ready d with hi := { (ready d).hi with rings := [(0, { running := [{ w := BitVec.ofNat 512 (1 * 2 ^ 0 + 16 * 2 ^ 16 + 1 * 2 ^ 64 + 1000 * 2 ^ 128) }] })] } }).setChan 16 { cur := some { ctrl := 1 }, started := true, cstate := 2, gen := 5, cmds := [{ w := BitVec.ofNat 512 (1 * 2 ^ 0 + 16 * 2 ^ 16 + 1 * 2 ^ 64 + 1000 * 2 ^ 128) }] })
def witChannelCommandsAct6 : State := st (fun d => ({ ready d with hi := { (ready d).hi with rings := [(0, { running := [{ w := BitVec.ofNat 512 (3 * 2 ^ 0 + 16 * 2 ^ 16 + 1 * 2 ^ 64 + 1000 * 2 ^ 128 + 1 * 2 ^ 448) }] })] } }).setChan 16 { cur := some { gen := 9, ctrl := 1, cmp := 5 }, cstate := 1, gen := 9, cmds := [{ w := BitVec.ofNat 512 (3 * 2 ^ 0 + 16 * 2 ^ 16 + 1 * 2 ^ 64 + 1000 * 2 ^ 128 + 1 * 2 ^ 448) }] })
def witChannelCommandsAct7 : State := st (fun d => ({ ready d with hi := { (ready d).hi with rings := [(0, { running := [{ w := BitVec.ofNat 512 (2 * 2 ^ 0 + 16 * 2 ^ 16) }] })] } }).setChan 16 { cur := some { ctrl := 1 }, cstate := 1, gen := 5, cmds := [{ w := BitVec.ofNat 512 (2 * 2 ^ 0 + 16 * 2 ^ 16) }] })
theorem test_ChannelCommandsAct_1 : (witChannelCommandsAct1.dev.takes (0) 0x01 none ((BitVec.ofNat 512 (17 * 2 ^ 16 + 1 * 2 ^ 64 + 0 * 2
    ^ 80 + 1000 * 2 ^ 128) : Entry)) = true) ∧ (((ran (.arm (0) ((BitVec.ofNat 512 (17 * 2 ^ 16 + 1 * 2 ^ 64 + 0 * 2 ^ 80 + 1000 * 2 ^ 128)
    : Entry))) witChannelCommandsAct1).chan (witChannelCommandsAct1.dev.cmdFor (0) 0x01 none ((BitVec.ofNat 512 (17 * 2 ^ 16 + 1 * 2 ^ 64 + 0 * 2
    ^ 80 + 1000 * 2 ^ 128)
    : Entry))).target).cmds = [(witChannelCommandsAct1.dev.cmdFor (0) 0x01 none ((BitVec.ofNat 512 (17 * 2 ^ 16 + 1 * 2 ^ 64 + 0 * 2 ^ 80 + 1000 * 2 ^ 128) : Entry)))]
    ∧ ((ran (.arm (0) ((BitVec.ofNat 512 (17 * 2 ^ 16 + 1 * 2 ^ 64 + 0 * 2 ^ 80 + 1000 * 2 ^ 128) : Entry)))
    witChannelCommandsAct1).ring (0)).running = [(witChannelCommandsAct1.dev.cmdFor (0) 0x01 none ((BitVec.ofNat 512 (17 * 2 ^ 16 + 1 * 2 ^ 64 + 0 * 2 ^ 80 + 1000 * 2 ^ 128) : Entry)))])
    := by decide +kernel
theorem test_ChannelCommandsAct_2 : (witChannelCommandsAct2.dev.takes (0) 0x02 none ((BitVec.ofNat 512 (17 * 2 ^ 16) : Entry)) = true) ∧
    (((ran (.disarm (0) ((BitVec.ofNat 512 (17 * 2 ^ 16) : Entry))) witChannelCommandsAct2).chan (witChannelCommandsAct2.dev.cmdFor (0)
    0x02 none ((BitVec.ofNat 512 (17 * 2 ^ 16)
    : Entry))).target).cmds = [(witChannelCommandsAct2.dev.cmdFor (0) 0x02 none ((BitVec.ofNat 512 (17 * 2 ^ 16) : Entry)))] ∧ ((ran (.disarm (0)
    ((BitVec.ofNat 512 (17 * 2 ^ 16) : Entry)))
    witChannelCommandsAct2).ring (0)).running = [(witChannelCommandsAct2.dev.cmdFor (0) 0x02 none ((BitVec.ofNat 512 (17 * 2 ^ 16) : Entry)))]) :=
    by decide +kernel
theorem test_ChannelCommandsAct_3 : (witChannelCommandsAct3.dev.takes (0) 0x03 none ((BitVec.ofNat 512 (17 * 2 ^ 16 + 1 * 2 ^ 64 + 0 * 2
    ^ 80 + 1000 * 2 ^ 128 + 1 * 2 ^ 448) : Entry)) = true) ∧ (((ran (.update (0) ((BitVec.ofNat 512 (17 * 2 ^ 16 + 1 * 2 ^ 64 + 0 * 2 ^ 80 + 1000
    * 2 ^ 128 + 1 * 2 ^ 448) : Entry))) witChannelCommandsAct3).chan (witChannelCommandsAct3.dev.cmdFor (0)
    0x03 none ((BitVec.ofNat 512 (17 * 2 ^ 16 + 1 * 2 ^ 64 + 0 * 2 ^ 80 + 1000 * 2 ^ 128 + 1 * 2 ^ 448)
    : Entry))).target).cmds = [(witChannelCommandsAct3.dev.cmdFor (0) 0x03 none ((BitVec.ofNat 512 (17 * 2 ^ 16 + 1 * 2 ^ 64 + 0 * 2 ^ 80 + 1000 * 2 ^ 128 + 1 * 2 ^ 448) : Entry)))]
    ∧ ((ran (.update (0) ((BitVec.ofNat 512 (17 * 2 ^ 16 + 1 * 2 ^ 64 + 0 * 2 ^ 80 + 1000 * 2 ^ 128 + 1 * 2 ^ 448) : Entry)))
    witChannelCommandsAct3).ring (0)).running = [(witChannelCommandsAct3.dev.cmdFor (0) 0x03 none ((BitVec.ofNat 512 (17 * 2 ^ 16 + 1 * 2 ^ 64 + 0 * 2 ^ 80 + 1000 * 2 ^ 128 + 1 * 2 ^ 448) : Entry)))])
    := by decide +kernel
theorem test_ChannelCommandsAct_4 : (({ w := BitVec.ofNat 512 (1 * 2 ^ 0 + 16 * 2 ^ 16 + 1 * 2 ^ 64 + 1000 * 2 ^ 128) } : Cmd).op = 1) ∧
    (({ w := BitVec.ofNat 512 (1 * 2 ^ 0 + 16 * 2 ^ 16 + 1 * 2 ^ 64 + 1000 * 2 ^ 128) } : Cmd).target = (16)) ∧
    (witChannelCommandsAct4.dev.slotDue (16) = true) ∧ (witChannelCommandsAct4.dev.qpWaits (16) = []) ∧
    ((witChannelCommandsAct4.dev.chan (16)).cmds = [({ w := BitVec.ofNat 512 (1 * 2 ^ 0 + 16 * 2 ^ 16 + 1 * 2 ^ 64 + 1000 * 2 ^ 128) } : Cmd)]) ∧
    ((witChannelCommandsAct4.dev.chan (16)).inputs = []) ∧ ((witChannelCommandsAct4.dev.chan (16)).tails = []) ∧
    ((witChannelCommandsAct4.dev.chan (16)).owed = none) ∧ ((witChannelCommandsAct4.dev.chan (16)).frozen = false) ∧
    (witChannelCommandsAct4.dev.armCheck (16) ({ w := BitVec.ofNat 512 (1 * 2 ^ 0 + 16 * 2 ^ 16 + 1 * 2 ^ 64 + 1000 * 2 ^ 128) } : Cmd).item = 0)
    ∧ (({ w := BitVec.ofNat 512 (1 * 2 ^ 0 + 16 * 2 ^ 16 + 1 * 2 ^ 64 + 1000 * 2 ^ 128) } : Cmd).item.gated = false) ∧
    ((witChannelCommandsAct4.dev.chan (16)).cur = none) ∧ ((witChannelCommandsAct4.dev.chan (16)).queued = none) ∧
    ((witChannelCommandsAct4.dev.chan (16)).cstate ≠ 4) ∧ (((ran (.scanVisit (16) false)
    witChannelCommandsAct4).chan (16)).cur = some { ({ w := BitVec.ofNat 512 (1 * 2 ^ 0 + 16 * 2 ^ 16 + 1 * 2 ^ 64 + 1000 * 2 ^ 128) } : Cmd).item with gen := nextGen (witChannelCommandsAct4.dev.chan (16)).gen }
    ∧ ((ran (.scanVisit (16) false) witChannelCommandsAct4).chan (16)).gen = nextGen (witChannelCommandsAct4.dev.chan (16)).gen ∧
    ((ran (.scanVisit (16) false) witChannelCommandsAct4).chan (16)).queued = none ∧ ((ran (.scanVisit (16) false)
    witChannelCommandsAct4).chan (16)).cmds = [] ∧ (ran (.scanVisit (16) false) witChannelCommandsAct4).fld SYS_MODE.ARMED = 1) :=
    by decide +kernel
theorem test_ChannelCommandsAct_5 : (({ w := BitVec.ofNat 512 (1 * 2 ^ 0 + 16 * 2 ^ 16 + 1 * 2 ^ 64 + 1000 * 2 ^ 128) } : Cmd).op = 1) ∧
    (({ w := BitVec.ofNat 512 (1 * 2 ^ 0 + 16 * 2 ^ 16 + 1 * 2 ^ 64 + 1000 * 2 ^ 128) } : Cmd).target = (16)) ∧
    (witChannelCommandsAct5.dev.slotDue (16) = true) ∧ (witChannelCommandsAct5.dev.qpWaits (16) = []) ∧
    ((witChannelCommandsAct5.dev.chan (16)).cmds = [({ w := BitVec.ofNat 512 (1 * 2 ^ 0 + 16 * 2 ^ 16 + 1 * 2 ^ 64 + 1000 * 2 ^ 128) } : Cmd)]) ∧
    ((witChannelCommandsAct5.dev.chan (16)).inputs = []) ∧ ((witChannelCommandsAct5.dev.chan (16)).tails = []) ∧
    ((witChannelCommandsAct5.dev.chan (16)).owed = none) ∧ ((witChannelCommandsAct5.dev.chan (16)).frozen = false) ∧
    (witChannelCommandsAct5.dev.armCheck (16) ({ w := BitVec.ofNat 512 (1 * 2 ^ 0 + 16 * 2 ^ 16 + 1 * 2 ^ 64 + 1000 * 2 ^ 128) } : Cmd).item = 0)
    ∧ ((witChannelCommandsAct5.dev.chan (16)).cur = some ({ ctrl := 1 } : ChItem)) ∧ (({ ctrl := 1 } : ChItem).mode = 1) ∧
    ((witChannelCommandsAct5.dev.chan (16)).started = true) ∧ ((witChannelCommandsAct5.dev.chan (16)).cstate = 2) ∧
    ((witChannelCommandsAct5.dev.chan (16)).queued = none) ∧ (((ran (.scanVisit (16) false)
    witChannelCommandsAct5).chan (16)).cur = some ({ ctrl := 1 } : ChItem) ∧ ((ran (.scanVisit (16) false)
    witChannelCommandsAct5).chan (16)).queued = some { ({ w := BitVec.ofNat 512 (1 * 2 ^ 0 + 16 * 2 ^ 16 + 1 * 2 ^ 64 + 1000 * 2 ^ 128) } : Cmd).item with gen := nextGen (witChannelCommandsAct5.dev.chan (16)).gen }
    ∧ ((ran (.scanVisit (16) false) witChannelCommandsAct5).chan (16)).gen = nextGen (witChannelCommandsAct5.dev.chan (16)).gen ∧
    (ran (.scanVisit (16) false) witChannelCommandsAct5).fld SYS_MODE.ARMED = 1) := by decide +kernel
theorem test_ChannelCommandsAct_6 : (({ w := BitVec.ofNat 512 (3 * 2 ^ 0 + 16 * 2 ^ 16 + 1 * 2 ^ 64 + 1000 * 2 ^ 128 + 1 * 2 ^ 448) }
    : Cmd).op = 3) ∧ (({ w := BitVec.ofNat 512 (3 * 2 ^ 0 + 16 * 2 ^ 16 + 1 * 2 ^ 64 + 1000 * 2 ^ 128 + 1 * 2 ^ 448) } : Cmd).target = (16)) ∧
    (witChannelCommandsAct6.dev.slotDue (16) = true) ∧ (witChannelCommandsAct6.dev.qpWaits (16) = []) ∧
    ((witChannelCommandsAct6.dev.chan (16)).cmds = [({ w := BitVec.ofNat 512 (3 * 2 ^ 0 + 16 * 2 ^ 16 + 1 * 2 ^ 64 + 1000 * 2 ^ 128 + 1 * 2 ^ 448) } : Cmd)])
    ∧ ((witChannelCommandsAct6.dev.chan (16)).inputs = []) ∧ ((witChannelCommandsAct6.dev.chan (16)).tails = []) ∧
    ((witChannelCommandsAct6.dev.chan (16)).owed = none) ∧ ((witChannelCommandsAct6.dev.chan (16)).frozen = false) ∧
    ((witChannelCommandsAct6.dev.chan (16)).cur = some ({ gen := 9, ctrl := 1, cmp := 5 } : ChItem)) ∧
    (({ gen := 9, ctrl := 1, cmp := 5 } : ChItem).mode = 1) ∧ (({ gen := 9, ctrl := 1, cmp := 5 } : ChItem).gated = false) ∧
    (bits ({ w := BitVec.ofNat 512 (3 * 2 ^ 0 + 16 * 2 ^ 16 + 1 * 2 ^ 64 + 1000 * 2 ^ 128 + 1 * 2 ^ 448) } : Cmd).w 448 16 ≠ 0) ∧
    (bits ({ w := BitVec.ofNat 512 (3 * 2 ^ 0 + 16 * 2 ^ 16 + 1 * 2 ^ 64 + 1000 * 2 ^ 128 + 1 * 2 ^ 448) } : Cmd).w 448 16 < 128) ∧
    (witChannelCommandsAct6.dev.rangeBad (({ gen := 9, ctrl := 1, cmp := 5 }
    : ChItem).updated ({ w := BitVec.ofNat 512 (3 * 2 ^ 0 + 16 * 2 ^ 16 + 1 * 2 ^ 64 + 1000 * 2 ^ 128 + 1 * 2 ^ 448) }
    : Cmd).item (bits ({ w := BitVec.ofNat 512 (3 * 2 ^ 0 + 16 * 2 ^ 16 + 1 * 2 ^ 64 + 1000 * 2 ^ 128 + 1 * 2 ^ 448) } : Cmd).w 448 16)) = false)
    ∧ (((ran (.scanVisit (16) false) witChannelCommandsAct6).chan (16)).cur.map (fun y => (y.gen, y.cmp)) = some (9, 1000)) := by decide +kernel
theorem test_ChannelCommandsAct_7 : (({ w := BitVec.ofNat 512 (2 * 2 ^ 0 + 16 * 2 ^ 16) } : Cmd).op = 2) ∧
    (({ w := BitVec.ofNat 512 (2 * 2 ^ 0 + 16 * 2 ^ 16) } : Cmd).target = (16)) ∧ (witChannelCommandsAct7.dev.slotDue (16) = true) ∧
    (witChannelCommandsAct7.dev.qpWaits (16) = []) ∧
    ((witChannelCommandsAct7.dev.chan (16)).cmds = [({ w := BitVec.ofNat 512 (2 * 2 ^ 0 + 16 * 2 ^ 16) } : Cmd)]) ∧
    ((witChannelCommandsAct7.dev.chan (16)).inputs = []) ∧ ((witChannelCommandsAct7.dev.chan (16)).tails = []) ∧
    ((witChannelCommandsAct7.dev.chan (16)).owed = none) ∧ ((witChannelCommandsAct7.dev.chan (16)).frozen = false) ∧
    ((witChannelCommandsAct7.dev.chan (16)).cur = some ({ ctrl := 1 } : ChItem)) ∧ (({ ctrl := 1 } : ChItem).mode = 1) ∧
    ((witChannelCommandsAct7.dev.chan (16)).started = false) ∧ ((witChannelCommandsAct7.dev.chan (16)).queued = none) ∧
    (witChannelCommandsAct7.dev.hasEdges (16) = false) ∧ (((ran (.scanVisit (16) false) witChannelCommandsAct7).chan (16)).cur = none ∧
    ((ran (.scanVisit (16) false) witChannelCommandsAct7).chan (16)).cstate = 0 ∧ ((ran (.scanVisit (16) false)
    witChannelCommandsAct7).chan (16)).gen = (witChannelCommandsAct7.dev.chan (16)).gen) := by decide +kernel
def witCommandsReportWhatTheyDid1 : State := st (fun d => ready d)
def witCommandsReportWhatTheyDid2 : State := st (fun d => ready d)
def witCommandsReportWhatTheyDid3 : State := st (fun d => (ready d).setFld CW_TSTAT.ROLE 2)
def witCommandsReportWhatTheyDid4 : State := st (fun d => (ready d).setFld CW_TSTAT.ROLE 3)
def witCommandsReportWhatTheyDid5 : State := st (fun d => ready d)
def witCommandsReportWhatTheyDid6 : State := st (fun d => ready d)
theorem test_CommandsReportWhatTheyDid_1 : (witCommandsReportWhatTheyDid1.dev.takes (0) 0x00 none ((BitVec.ofNat 512 (77 * 2 ^ 32) : Entry))
    = true) ∧ (witCommandsReportWhatTheyDid1.dev.reports (0) ((BitVec.ofNat 512 (77 * 2 ^ 32) : Entry)) = true) ∧
    (witCommandsReportWhatTheyDid1.dev.completedIn (ran (.nop (0) ((BitVec.ofNat 512 (77 * 2 ^ 32) : Entry))) witCommandsReportWhatTheyDid1)
    (witCommandsReportWhatTheyDid1.dev.cmdFor (0) 0x00 none ((BitVec.ofNat 512 (77 * 2 ^ 32) : Entry)))
    0 (witCommandsReportWhatTheyDid1.dev.cmdFor (0) 0x00 none ((BitVec.ofNat 512 (77 * 2 ^ 32) : Entry))).rgen ([]) ∧ ((ran (.nop (0)
    ((BitVec.ofNat 512 (77 * 2 ^ 32) : Entry))) witCommandsReportWhatTheyDid1).ring (0)).running = (witCommandsReportWhatTheyDid1.dev.ring
    (0)).running.filter (fun x => x.uid ≠ witCommandsReportWhatTheyDid1.dev.hi.uid) ∧ (ran (.nop (0) ((BitVec.ofNat 512 (77 * 2 ^ 32) : Entry)))
    witCommandsReportWhatTheyDid1).qy = witCommandsReportWhatTheyDid1.dev.qy ∧ (ran (.nop (0) ((BitVec.ofNat 512 (77 * 2 ^ 32) : Entry)))
    witCommandsReportWhatTheyDid1).axes = witCommandsReportWhatTheyDid1.dev.axes) := by decide +kernel
theorem test_CommandsReportWhatTheyDid_2 : (witCommandsReportWhatTheyDid2.dev.takes (0) 0x00 none ((BitVec.ofNat 512 (1 * 2 ^ 10) : Entry))
    = true) ∧ (((BitVec.ofNat 512 (1 * 2 ^ 10) : Entry)).getLsbD 10 = true) ∧ ((ran (.nop (0) ((BitVec.ofNat 512 (1 * 2 ^ 10) : Entry)))
    witCommandsReportWhatTheyDid2).sl = witCommandsReportWhatTheyDid2.dev.sl ∧ ((ran (.nop (0) ((BitVec.ofNat 512 (1 * 2 ^ 10) : Entry)))
    witCommandsReportWhatTheyDid2).ring (0)).running = (witCommandsReportWhatTheyDid2.dev.ring (0)).running.filter (fun x =>
    x.uid ≠ witCommandsReportWhatTheyDid2.dev.hi.uid)) := by decide +kernel
theorem test_CommandsReportWhatTheyDid_3 : (witCommandsReportWhatTheyDid3.dev.takes (0)
    0x12 none ((BitVec.ofNat 512 (15 * 2 ^ 16 + 5 * 2 ^ 64 + 6 * 2 ^ 128) : Entry)) = true) ∧ (witCommandsReportWhatTheyDid3.dev.cwMaster = true)
    ∧ (witCommandsReportWhatTheyDid3.dev.reports (0) ((BitVec.ofNat 512 (15 * 2 ^ 16 + 5 * 2 ^ 64 + 6 * 2 ^ 128) : Entry)) = true) ∧
    ((ran (.tallySet (0) ((BitVec.ofNat 512 (15 * 2 ^ 16 + 5 * 2 ^ 64 + 6 * 2 ^ 128) : Entry)))
    witCommandsReportWhatTheyDid3).cw = { witCommandsReportWhatTheyDid3.dev.cw with nextSet := ins (witCommandsReportWhatTheyDid3.dev.cmdFor (0) 0x12 none ((BitVec.ofNat 512 (15 * 2 ^ 16 + 5 * 2 ^ 64 + 6 * 2 ^ 128) : Entry))).target (bits (witCommandsReportWhatTheyDid3.dev.cmdFor (0) 0x12 none ((BitVec.ofNat 512 (15 * 2 ^ 16 + 5 * 2 ^ 64 + 6 * 2 ^ 128) : Entry))).w 64 32, bits (witCommandsReportWhatTheyDid3.dev.cmdFor (0) 0x12 none ((BitVec.ofNat 512 (15 * 2 ^ 16 + 5 * 2 ^ 64 + 6 * 2 ^ 128) : Entry))).w 128 64, witCommandsReportWhatTheyDid3.dev.tb.eclk) witCommandsReportWhatTheyDid3.dev.cw.nextSet }
    ∧ witCommandsReportWhatTheyDid3.dev.completedIn (ran (.tallySet (0) ((BitVec.ofNat 512 (15 * 2 ^ 16 + 5 * 2 ^ 64 + 6 * 2 ^ 128) : Entry)))
    witCommandsReportWhatTheyDid3) (witCommandsReportWhatTheyDid3.dev.cmdFor (0) 0x12 none ((BitVec.ofNat 512 (15 * 2 ^ 16 + 5 * 2 ^ 64 + 6 * 2
    ^ 128) : Entry))) 0 (witCommandsReportWhatTheyDid3.dev.cmdFor (0) 0x12 none ((BitVec.ofNat 512 (15 * 2 ^ 16 + 5 * 2 ^ 64 + 6 * 2 ^ 128)
    : Entry))).rgen ([byt 22 4 (bits (witCommandsReportWhatTheyDid3.dev.cmdFor (0) 0x12 none ((BitVec.ofNat 512 (15 * 2 ^ 16 + 5 * 2 ^ 64 + 6 * 2 ^ 128) : Entry))).w 64 32)]))
    := by decide +kernel
theorem test_CommandsReportWhatTheyDid_4 : (witCommandsReportWhatTheyDid4.dev.takes (0) 0x12 none ((BitVec.ofNat 512 (15 * 2 ^ 16) : Entry))
    = true) ∧ (witCommandsReportWhatTheyDid4.dev.cwMaster = false) ∧ (witCommandsReportWhatTheyDid4.dev.reports (0)
    ((BitVec.ofNat 512 (15 * 2 ^ 16) : Entry)) = true) ∧ ((ran (.tallySet (0) ((BitVec.ofNat 512 (15 * 2 ^ 16) : Entry)))
    witCommandsReportWhatTheyDid4).cw = witCommandsReportWhatTheyDid4.dev.cw ∧ witCommandsReportWhatTheyDid4.dev.completedIn (ran (.tallySet (0)
    ((BitVec.ofNat 512 (15 * 2 ^ 16) : Entry))) witCommandsReportWhatTheyDid4) (witCommandsReportWhatTheyDid4.dev.cmdFor (0)
    0x12 none ((BitVec.ofNat 512 (15 * 2 ^ 16) : Entry))) 0x13 (witCommandsReportWhatTheyDid4.dev.cmdFor (0)
    0x12 none ((BitVec.ofNat 512 (15 * 2 ^ 16) : Entry))).rgen ([])) := by decide +kernel
theorem test_CommandsReportWhatTheyDid_5 : (witCommandsReportWhatTheyDid5.dev.takes (0)
    0x05 none ((BitVec.ofNat 512 (6 * 2 ^ 16 + 14 * 2 ^ 64 + 1 * 2 ^ 128 + 99 * 2 ^ 320) : Entry)) = true) ∧
    ((witCommandsReportWhatTheyDid5.dev.begun (0) (witCommandsReportWhatTheyDid5.dev.cmdFor (0)
    0x05 none ((BitVec.ofNat 512 (6 * 2 ^ 16 + 14 * 2 ^ 64 + 1 * 2 ^ 128 + 99 * 2 ^ 320)
    : Entry)))).setAxisCheck (witCommandsReportWhatTheyDid5.dev.cmdFor (0) 0x05 none ((BitVec.ofNat 512 (6 * 2 ^ 16 + 14 * 2 ^ 64 + 1 * 2
    ^ 128 + 99 * 2 ^ 320) : Entry))).target (bits (witCommandsReportWhatTheyDid5.dev.cmdFor (0)
    0x05 none ((BitVec.ofNat 512 (6 * 2 ^ 16 + 14 * 2 ^ 64 + 1 * 2 ^ 128 + 99 * 2 ^ 320) : Entry))).w 64 32)
    (witCommandsReportWhatTheyDid5.dev.cmdFor (0) 0x05 none ((BitVec.ofNat 512 (6 * 2 ^ 16 + 14 * 2 ^ 64 + 1 * 2 ^ 128 + 99 * 2 ^ 320)
    : Entry))).opt = 0) ∧ ((ran (.setAxis (0) ((BitVec.ofNat 512 (6 * 2 ^ 16 + 14 * 2 ^ 64 + 1 * 2 ^ 128 + 99 * 2 ^ 320) : Entry)))
    witCommandsReportWhatTheyDid5).axis (witCommandsReportWhatTheyDid5.dev.cmdFor (0)
    0x05 none ((BitVec.ofNat 512 (6 * 2 ^ 16 + 14 * 2 ^ 64 + 1 * 2 ^ 128 + 99 * 2 ^ 320)
    : Entry))).target = { witCommandsReportWhatTheyDid5.dev.axis (witCommandsReportWhatTheyDid5.dev.cmdFor (0) 0x05 none ((BitVec.ofNat 512 (6 * 2 ^ 16 + 14 * 2 ^ 64 + 1 * 2 ^ 128 + 99 * 2 ^ 320) : Entry))).target with sched := (witCommandsReportWhatTheyDid5.dev.axis (witCommandsReportWhatTheyDid5.dev.cmdFor (0) 0x05 none ((BitVec.ofNat 512 (6 * 2 ^ 16 + 14 * 2 ^ 64 + 1 * 2 ^ 128 + 99 * 2 ^ 320) : Entry))).target).sched ++ [{ cmd := (witCommandsReportWhatTheyDid5.dev.cmdFor (0) 0x05 none ((BitVec.ofNat 512 (6 * 2 ^ 16 + 14 * 2 ^ 64 + 1 * 2 ^ 128 + 99 * 2 ^ 320) : Entry))), cfg := bits (witCommandsReportWhatTheyDid5.dev.cmdFor (0) 0x05 none ((BitVec.ofNat 512 (6 * 2 ^ 16 + 14 * 2 ^ 64 + 1 * 2 ^ 128 + 99 * 2 ^ 320) : Entry))).w 64 32, para := bits (witCommandsReportWhatTheyDid5.dev.cmdFor (0) 0x05 none ((BitVec.ofNat 512 (6 * 2 ^ 16 + 14 * 2 ^ 64 + 1 * 2 ^ 128 + 99 * 2 ^ 320) : Entry))).w 128 64, parb := bits (witCommandsReportWhatTheyDid5.dev.cmdFor (0) 0x05 none ((BitVec.ofNat 512 (6 * 2 ^ 16 + 14 * 2 ^ 64 + 1 * 2 ^ 128 + 99 * 2 ^ 320) : Entry))).w 192 64, parc := bits (witCommandsReportWhatTheyDid5.dev.cmdFor (0) 0x05 none ((BitVec.ofNat 512 (6 * 2 ^ 16 + 14 * 2 ^ 64 + 1 * 2 ^ 128 + 99 * 2 ^ 320) : Entry))).w 256 64, cont := (witCommandsReportWhatTheyDid5.dev.cmdFor (0) 0x05 none ((BitVec.ofNat 512 (6 * 2 ^ 16 + 14 * 2 ^ 64 + 1 * 2 ^ 128 + 99 * 2 ^ 320) : Entry))).opt, at_ := bits (witCommandsReportWhatTheyDid5.dev.cmdFor (0) 0x05 none ((BitVec.ofNat 512 (6 * 2 ^ 16 + 14 * 2 ^ 64 + 1 * 2 ^ 128 + 99 * 2 ^ 320) : Entry))).w 320 64 }] }
    ∧ ((ran (.setAxis (0) ((BitVec.ofNat 512 (6 * 2 ^ 16 + 14 * 2 ^ 64 + 1 * 2 ^ 128 + 99 * 2 ^ 320) : Entry)))
    witCommandsReportWhatTheyDid5).ring (0)).running = (witCommandsReportWhatTheyDid5.dev.ring
    (0)).running ++ [(witCommandsReportWhatTheyDid5.dev.cmdFor (0) 0x05 none ((BitVec.ofNat 512 (6 * 2 ^ 16 + 14 * 2 ^ 64 + 1 * 2 ^ 128 + 99 * 2 ^ 320) : Entry)))])
    := by decide +kernel
theorem test_CommandsReportWhatTheyDid_6 : (witCommandsReportWhatTheyDid6.dev.takes (0) 0x14 none ((BitVec.ofNat 512 (0) : Entry)) = true) ∧
    (witCommandsReportWhatTheyDid6.dev.reports (0) ((BitVec.ofNat 512 (0) : Entry)) = true) ∧ ((ran (.enterVigil (0) ((BitVec.ofNat 512 (0)
    : Entry))) witCommandsReportWhatTheyDid6).hi.vigilReq = some (witCommandsReportWhatTheyDid6.dev.cmdFor (0) 0x14 none ((BitVec.ofNat 512 (0)
    : Entry))) ∧ witCommandsReportWhatTheyDid6.dev.completedIn (ran (.enterVigil (0) ((BitVec.ofNat 512 (0) : Entry)))
    witCommandsReportWhatTheyDid6) (witCommandsReportWhatTheyDid6.dev.cmdFor (0) 0x14 none ((BitVec.ofNat 512 (0) : Entry)))
    0 (witCommandsReportWhatTheyDid6.dev.cmdFor (0) 0x14 none ((BitVec.ofNat 512 (0) : Entry))).rgen ([])) := by decide +kernel
def witTimeCommandsSetAx01 : State := st (fun d => ((ready d).setFld AX0_SLEW.RSTEP_PPM 100).setFld AX0_STATUS.STATE 0)
def witTimeCommandsSetAx02 : State := st (fun d => (ready d).setFld SYS_MODE.MODE 1)
def witTimeCommandsSetAx03 : State := st (fun d => ((ready d).setFld SYS_MODE.MODE 1).setFld SYS_MODE.STEPPED 1)
theorem test_TimeCommandsSetAx0_1 : (witTimeCommandsSetAx01.dev.takes (0) 0x06 none ((BitVec.ofNat 512 (1 * 2 ^ 65 + 1000 * 2 ^ 128 + 5
    * 2 ^ 192 + 7 * 2 ^ 256) : Entry)) = true) ∧ (witTimeCommandsSetAx01.dev.dsrcDriver = true) ∧
    (witTimeCommandsSetAx01.dev.fld AX0_STATUS.STATE ≠ 3) ∧ (bits (witTimeCommandsSetAx01.dev.cmdFor (0)
    0x06 none ((BitVec.ofNat 512 (1 * 2 ^ 65 + 1000 * 2 ^ 128 + 5 * 2 ^ 192 + 7 * 2 ^ 256)
    : Entry))).w 72 8 = witTimeCommandsSetAx01.dev.fld AX0_STATUS.STEP_COUNT) ∧ (bits (witTimeCommandsSetAx01.dev.cmdFor (0)
    0x06 none ((BitVec.ofNat 512 (1 * 2 ^ 65 + 1000 * 2 ^ 128 + 5 * 2 ^ 192 + 7 * 2 ^ 256) : Entry))).w 65 2 ≠ 3) ∧
    (((if bits (witTimeCommandsSetAx01.dev.cmdFor (0) 0x06 none ((BitVec.ofNat 512 (1 * 2 ^ 65 + 1000 * 2 ^ 128 + 5 * 2 ^ 192 + 7 * 2 ^ 256)
    : Entry))).w 64 1 = 1 then witTimeCommandsSetAx01.dev.rate else 0) + toS 48 (bits (witTimeCommandsSetAx01.dev.cmdFor (0)
    0x06 none ((BitVec.ofNat 512 (1 * 2 ^ 65 + 1000 * 2 ^ 128 + 5 * 2 ^ 192 + 7 * 2 ^ 256) : Entry))).w 128 48)).natAbs ≤ 140737488355) ∧
    ((((if bits (witTimeCommandsSetAx01.dev.cmdFor (0) 0x06 none ((BitVec.ofNat 512 (1 * 2 ^ 65 + 1000 * 2 ^ 128 + 5 * 2 ^ 192 + 7 * 2 ^ 256)
    : Entry))).w 64 1 = 1 then witTimeCommandsSetAx01.dev.rate else 0) + toS 48 (bits (witTimeCommandsSetAx01.dev.cmdFor (0)
    0x06 none ((BitVec.ofNat 512 (1 * 2 ^ 65 + 1000 * 2 ^ 128 + 5 * 2 ^ 192 + 7 * 2 ^ 256) : Entry))).w 128 48))
    - witTimeCommandsSetAx01.dev.rate).natAbs * 1000000 ≤ witTimeCommandsSetAx01.dev.fld AX0_SLEW.RSTEP_PPM * 2 ^ 48) ∧
    ((if bits (witTimeCommandsSetAx01.dev.cmdFor (0) 0x06 none ((BitVec.ofNat 512 (1 * 2 ^ 65 + 1000 * 2 ^ 128 + 5 * 2 ^ 192 + 7 * 2 ^ 256)
    : Entry))).w 65 2 = 1 then (toS 48 (bits (witTimeCommandsSetAx01.dev.cmdFor (0) 0x06 none ((BitVec.ofNat 512 (1 * 2 ^ 65 + 1000 * 2 ^ 128 + 5
    * 2 ^ 192 + 7 * 2 ^ 256) : Entry))).w 192 48) * 2 ^ 32) else if bits (witTimeCommandsSetAx01.dev.cmdFor (0)
    0x06 none ((BitVec.ofNat 512 (1 * 2 ^ 65 + 1000 * 2 ^ 128 + 5 * 2 ^ 192 + 7 * 2 ^ 256) : Entry))).w 65 2 = 2 then
    witTimeCommandsSetAx01.dev.rem + (toS 48 (bits (witTimeCommandsSetAx01.dev.cmdFor (0)
    0x06 none ((BitVec.ofNat 512 (1 * 2 ^ 65 + 1000 * 2 ^ 128 + 5 * 2 ^ 192 + 7 * 2 ^ 256) : Entry))).w 192 48) * 2 ^ 32) else
    witTimeCommandsSetAx01.dev.rem).natAbs ≤ 2 ^ 79) ∧ ((ran (.discipline (0) ((BitVec.ofNat 512 (1 * 2 ^ 65 + 1000 * 2 ^ 128 + 5 * 2 ^ 192
    + 7 * 2 ^ 256) : Entry)))
    witTimeCommandsSetAx01).tb = { witTimeCommandsSetAx01.dev.tb with a0 := { witTimeCommandsSetAx01.dev.tb.a0 with rate := BitVec.ofInt 48 ((if bits (witTimeCommandsSetAx01.dev.cmdFor (0) 0x06 none ((BitVec.ofNat 512 (1 * 2 ^ 65 + 1000 * 2 ^ 128 + 5 * 2 ^ 192 + 7 * 2 ^ 256) : Entry))).w 64 1 = 1 then witTimeCommandsSetAx01.dev.rate else 0) + toS 48 (bits (witTimeCommandsSetAx01.dev.cmdFor (0) 0x06 none ((BitVec.ofNat 512 (1 * 2 ^ 65 + 1000 * 2 ^ 128 + 5 * 2 ^ 192 + 7 * 2 ^ 256) : Entry))).w 128 48)), rem := (if bits (witTimeCommandsSetAx01.dev.cmdFor (0) 0x06 none ((BitVec.ofNat 512 (1 * 2 ^ 65 + 1000 * 2 ^ 128 + 5 * 2 ^ 192 + 7 * 2 ^ 256) : Entry))).w 65 2 = 1 then (toS 48 (bits (witTimeCommandsSetAx01.dev.cmdFor (0) 0x06 none ((BitVec.ofNat 512 (1 * 2 ^ 65 + 1000 * 2 ^ 128 + 5 * 2 ^ 192 + 7 * 2 ^ 256) : Entry))).w 192 48) * 2 ^ 32) else if bits (witTimeCommandsSetAx01.dev.cmdFor (0) 0x06 none ((BitVec.ofNat 512 (1 * 2 ^ 65 + 1000 * 2 ^ 128 + 5 * 2 ^ 192 + 7 * 2 ^ 256) : Entry))).w 65 2 = 2 then witTimeCommandsSetAx01.dev.rem + (toS 48 (bits (witTimeCommandsSetAx01.dev.cmdFor (0) 0x06 none ((BitVec.ofNat 512 (1 * 2 ^ 65 + 1000 * 2 ^ 128 + 5 * 2 ^ 192 + 7 * 2 ^ 256) : Entry))).w 192 48) * 2 ^ 32) else witTimeCommandsSetAx01.dev.rem) }, a1 := { witTimeCommandsSetAx01.dev.tb.a1 with rate := BitVec.ofInt 48 ((if bits (witTimeCommandsSetAx01.dev.cmdFor (0) 0x06 none ((BitVec.ofNat 512 (1 * 2 ^ 65 + 1000 * 2 ^ 128 + 5 * 2 ^ 192 + 7 * 2 ^ 256) : Entry))).w 64 1 = 1 then witTimeCommandsSetAx01.dev.rate else 0) + toS 48 (bits (witTimeCommandsSetAx01.dev.cmdFor (0) 0x06 none ((BitVec.ofNat 512 (1 * 2 ^ 65 + 1000 * 2 ^ 128 + 5 * 2 ^ 192 + 7 * 2 ^ 256) : Entry))).w 128 48)), rem := (if bits (witTimeCommandsSetAx01.dev.cmdFor (0) 0x06 none ((BitVec.ofNat 512 (1 * 2 ^ 65 + 1000 * 2 ^ 128 + 5 * 2 ^ 192 + 7 * 2 ^ 256) : Entry))).w 65 2 = 1 then (toS 48 (bits (witTimeCommandsSetAx01.dev.cmdFor (0) 0x06 none ((BitVec.ofNat 512 (1 * 2 ^ 65 + 1000 * 2 ^ 128 + 5 * 2 ^ 192 + 7 * 2 ^ 256) : Entry))).w 192 48) * 2 ^ 32) else if bits (witTimeCommandsSetAx01.dev.cmdFor (0) 0x06 none ((BitVec.ofNat 512 (1 * 2 ^ 65 + 1000 * 2 ^ 128 + 5 * 2 ^ 192 + 7 * 2 ^ 256) : Entry))).w 65 2 = 2 then witTimeCommandsSetAx01.dev.rem + (toS 48 (bits (witTimeCommandsSetAx01.dev.cmdFor (0) 0x06 none ((BitVec.ofNat 512 (1 * 2 ^ 65 + 1000 * 2 ^ 128 + 5 * 2 ^ 192 + 7 * 2 ^ 256) : Entry))).w 192 48) * 2 ^ 32) else witTimeCommandsSetAx01.dev.rem) }, a2 := { witTimeCommandsSetAx01.dev.tb.a2 with rate := BitVec.ofInt 48 ((if bits (witTimeCommandsSetAx01.dev.cmdFor (0) 0x06 none ((BitVec.ofNat 512 (1 * 2 ^ 65 + 1000 * 2 ^ 128 + 5 * 2 ^ 192 + 7 * 2 ^ 256) : Entry))).w 64 1 = 1 then witTimeCommandsSetAx01.dev.rate else 0) + toS 48 (bits (witTimeCommandsSetAx01.dev.cmdFor (0) 0x06 none ((BitVec.ofNat 512 (1 * 2 ^ 65 + 1000 * 2 ^ 128 + 5 * 2 ^ 192 + 7 * 2 ^ 256) : Entry))).w 128 48)), rem := (if bits (witTimeCommandsSetAx01.dev.cmdFor (0) 0x06 none ((BitVec.ofNat 512 (1 * 2 ^ 65 + 1000 * 2 ^ 128 + 5 * 2 ^ 192 + 7 * 2 ^ 256) : Entry))).w 65 2 = 1 then (toS 48 (bits (witTimeCommandsSetAx01.dev.cmdFor (0) 0x06 none ((BitVec.ofNat 512 (1 * 2 ^ 65 + 1000 * 2 ^ 128 + 5 * 2 ^ 192 + 7 * 2 ^ 256) : Entry))).w 192 48) * 2 ^ 32) else if bits (witTimeCommandsSetAx01.dev.cmdFor (0) 0x06 none ((BitVec.ofNat 512 (1 * 2 ^ 65 + 1000 * 2 ^ 128 + 5 * 2 ^ 192 + 7 * 2 ^ 256) : Entry))).w 65 2 = 2 then witTimeCommandsSetAx01.dev.rem + (toS 48 (bits (witTimeCommandsSetAx01.dev.cmdFor (0) 0x06 none ((BitVec.ofNat 512 (1 * 2 ^ 65 + 1000 * 2 ^ 128 + 5 * 2 ^ 192 + 7 * 2 ^ 256) : Entry))).w 192 48) * 2 ^ 32) else witTimeCommandsSetAx01.dev.rem) }, ref := witTimeCommandsSetAx01.dev.tb.elapsed, uncBase := bits (witTimeCommandsSetAx01.dev.cmdFor (0) 0x06 none ((BitVec.ofNat 512 (1 * 2 ^ 65 + 1000 * 2 ^ 128 + 5 * 2 ^ 192 + 7 * 2 ^ 256) : Entry))).w 256 32, uncAt := witTimeCommandsSetAx01.dev.tb.elapsed }
    ∧ (ran (.discipline (0) ((BitVec.ofNat 512 (1 * 2 ^ 65 + 1000 * 2 ^ 128 + 5 * 2 ^ 192 + 7 * 2 ^ 256) : Entry)))
    witTimeCommandsSetAx01).fld AX0_STATUS.STATE = 1) := by decide +kernel
theorem test_TimeCommandsSetAx0_2 : (witTimeCommandsSetAx02.dev.takes (0) 0x07 none ((BitVec.ofNat 512 (1000 * 2 ^ 64) : Entry)) = true) ∧
    (((BitVec.ofNat 512 (1000 * 2 ^ 64) : Entry)).getLsbD 8 = false) ∧ (witTimeCommandsSetAx02.dev.fld SYS_MODE.MODE = 1) ∧
    (witTimeCommandsSetAx02.dev.fld SYS_MODE.STEPPED = 0) ∧ (witTimeCommandsSetAx02.dev.lg.steps = []) ∧
    (witTimeCommandsSetAx02.dev.armedOnTime = false) ∧ ((ran (.stepTime (0) ((BitVec.ofNat 512 (1000 * 2 ^ 64) : Entry)))
    witTimeCommandsSetAx02).lg.steps = [{ cmd := (witTimeCommandsSetAx02.dev.cmdFor (0) 0x07 none ((BitVec.ofNat 512 (1000 * 2 ^ 64) : Entry))), value := bits (witTimeCommandsSetAx02.dev.cmdFor (0) 0x07 none ((BitVec.ofNat 512 (1000 * 2 ^ 64) : Entry))).w 64 64 * 65536 + bits (witTimeCommandsSetAx02.dev.cmdFor (0) 0x07 none ((BitVec.ofNat 512 (1000 * 2 ^ 64) : Entry))).w 128 16, rel := (witTimeCommandsSetAx02.dev.cmdFor (0) 0x07 none ((BitVec.ofNat 512 (1000 * 2 ^ 64) : Entry))).opt, unc := bits (witTimeCommandsSetAx02.dev.cmdFor (0) 0x07 none ((BitVec.ofNat 512 (1000 * 2 ^ 64) : Entry))).w 160 32, force := false, old := witTimeCommandsSetAx02.dev.ax0, new := if (witTimeCommandsSetAx02.dev.cmdFor (0) 0x07 none ((BitVec.ofNat 512 (1000 * 2 ^ 64) : Entry))).opt then ofS 80 ((witTimeCommandsSetAx02.dev.ax0 / 2 ^ 32 : Nat) + toS 80 (bits (witTimeCommandsSetAx02.dev.cmdFor (0) 0x07 none ((BitVec.ofNat 512 (1000 * 2 ^ 64) : Entry))).w 64 64 * 65536 + bits (witTimeCommandsSetAx02.dev.cmdFor (0) 0x07 none ((BitVec.ofNat 512 (1000 * 2 ^ 64) : Entry))).w 128 16)) * 2 ^ 32 else (bits (witTimeCommandsSetAx02.dev.cmdFor (0) 0x07 none ((BitVec.ofNat 512 (1000 * 2 ^ 64) : Entry))).w 64 64 * 65536 + bits (witTimeCommandsSetAx02.dev.cmdFor (0) 0x07 none ((BitVec.ofNat 512 (1000 * 2 ^ 64) : Entry))).w 128 16) * 2 ^ 32 }]
    ∧ (ran (.stepTime (0) ((BitVec.ofNat 512 (1000 * 2 ^ 64) : Entry))) witTimeCommandsSetAx02).tb = witTimeCommandsSetAx02.dev.tb ∧
    ((ran (.stepTime (0) ((BitVec.ofNat 512 (1000 * 2 ^ 64) : Entry)))
    witTimeCommandsSetAx02).ring (0)).running = (witTimeCommandsSetAx02.dev.ring
    (0)).running ++ [(witTimeCommandsSetAx02.dev.cmdFor (0) 0x07 none ((BitVec.ofNat 512 (1000 * 2 ^ 64) : Entry)))]) := by decide +kernel
theorem test_TimeCommandsSetAx0_3 : (witTimeCommandsSetAx03.dev.takes (0) 0x07 none ((BitVec.ofNat 512 (1000 * 2 ^ 64) : Entry)) = true) ∧
    (((BitVec.ofNat 512 (1000 * 2 ^ 64) : Entry)).getLsbD 8 = false) ∧ (witTimeCommandsSetAx03.dev.fld SYS_MODE.MODE = 1) ∧
    (witTimeCommandsSetAx03.dev.fld SYS_MODE.STEPPED = 1) ∧ (witTimeCommandsSetAx03.dev.reports (0) ((BitVec.ofNat 512 (1000 * 2 ^ 64) : Entry))
    = true) ∧ ((ran (.stepTime (0) ((BitVec.ofNat 512 (1000 * 2 ^ 64) : Entry))) witTimeCommandsSetAx03).tb = witTimeCommandsSetAx03.dev.tb ∧
    (ran (.stepTime (0) ((BitVec.ofNat 512 (1000 * 2 ^ 64) : Entry))) witTimeCommandsSetAx03).lg.steps = witTimeCommandsSetAx03.dev.lg.steps ∧
    witTimeCommandsSetAx03.dev.completedIn (ran (.stepTime (0) ((BitVec.ofNat 512 (1000 * 2 ^ 64) : Entry))) witTimeCommandsSetAx03)
    (witTimeCommandsSetAx03.dev.cmdFor (0) 0x07 none ((BitVec.ofNat 512 (1000 * 2 ^ 64) : Entry))) 0x0B (witTimeCommandsSetAx03.dev.cmdFor (0)
    0x07 none ((BitVec.ofNat 512 (1000 * 2 ^ 64) : Entry))).rgen ([])) := by decide +kernel
def witEngineAndQuayCommandsStart1 : State := st (fun d => ready d)
def witEngineAndQuayCommandsStart2 : State := st (fun d => (ready d).setFld ME_IMAGE.LSTATE 2 23)
def witEngineAndQuayCommandsStart3 : State := st (fun d => ready d)
def witEngineAndQuayCommandsStart4 : State := st (fun d => { ready d with mo := [(23, { serv := some 24 })] })
def witEngineAndQuayCommandsStart5 : State := st (fun d => ready d)
theorem test_EngineAndQuayCommandsStart_1 : (witEngineAndQuayCommandsStart1.dev.takes (0)
    0x08 none ((BitVec.ofNat 512 (23 * 2 ^ 16 + 4096 * 2 ^ 64 + 90432 * 2 ^ 128) : Entry)) = true) ∧
    ((witEngineAndQuayCommandsStart1.dev.ops (witEngineAndQuayCommandsStart1.dev.cmdFor (0)
    0x08 none ((BitVec.ofNat 512 (23 * 2 ^ 16 + 4096 * 2 ^ 64 + 90432 * 2 ^ 128) : Entry))).target).load = none) ∧
    ((witEngineAndQuayCommandsStart1.dev.ops (witEngineAndQuayCommandsStart1.dev.cmdFor (0)
    0x08 none ((BitVec.ofNat 512 (23 * 2 ^ 16 + 4096 * 2 ^ 64 + 90432 * 2 ^ 128) : Entry))).target).relief = none) ∧
    ((witEngineAndQuayCommandsStart1.dev.ops (witEngineAndQuayCommandsStart1.dev.cmdFor (0)
    0x08 none ((BitVec.ofNat 512 (23 * 2 ^ 16 + 4096 * 2 ^ 64 + 90432 * 2 ^ 128) : Entry))).target).act = none) ∧
    (0 < bits (witEngineAndQuayCommandsStart1.dev.cmdFor (0) 0x08 none ((BitVec.ofNat 512 (23 * 2 ^ 16 + 4096 * 2 ^ 64 + 90432 * 2 ^ 128)
    : Entry))).w 128 32) ∧ (bits (witEngineAndQuayCommandsStart1.dev.cmdFor (0) 0x08 none ((BitVec.ofNat 512 (23 * 2 ^ 16 + 4096 * 2 ^ 64 + 90432
    * 2 ^ 128) : Entry))).w 128 32 ≤ 90432) ∧ (bits (witEngineAndQuayCommandsStart1.dev.cmdFor (0)
    0x08 none ((BitVec.ofNat 512 (23 * 2 ^ 16 + 4096 * 2 ^ 64 + 90432 * 2 ^ 128) : Entry))).w 160 1 = 0) ∧
    (witEngineAndQuayCommandsStart1.dev.fld ME_STATUS.RUNNING (witEngineAndQuayCommandsStart1.dev.meHome
    (witEngineAndQuayCommandsStart1.dev.cmdFor (0) 0x08 none ((BitVec.ofNat 512 (23 * 2 ^ 16 + 4096 * 2 ^ 64 + 90432 * 2 ^ 128) : Entry))).target)
    = 0) ∧ ((ran (.loadImage (0) ((BitVec.ofNat 512 (23 * 2 ^ 16 + 4096 * 2 ^ 64 + 90432 * 2 ^ 128) : Entry)))
    witEngineAndQuayCommandsStart1).fld ME_IMAGE.LSTATE (witEngineAndQuayCommandsStart1.dev.meHome (witEngineAndQuayCommandsStart1.dev.cmdFor (0)
    0x08 none ((BitVec.ofNat 512 (23 * 2 ^ 16 + 4096 * 2 ^ 64 + 90432 * 2 ^ 128) : Entry))).target) = 1 ∧ (ran (.loadImage (0)
    ((BitVec.ofNat 512 (23 * 2 ^ 16 + 4096 * 2 ^ 64 + 90432 * 2 ^ 128) : Entry)))
    witEngineAndQuayCommandsStart1).fld ME_IMAGE.ACT (witEngineAndQuayCommandsStart1.dev.meHome (witEngineAndQuayCommandsStart1.dev.cmdFor (0)
    0x08 none ((BitVec.ofNat 512 (23 * 2 ^ 16 + 4096 * 2 ^ 64 + 90432 * 2 ^ 128) : Entry))).target) = 0 ∧ ((ran (.loadImage (0)
    ((BitVec.ofNat 512 (23 * 2 ^ 16 + 4096 * 2 ^ 64 + 90432 * 2 ^ 128) : Entry)))
    witEngineAndQuayCommandsStart1).ops (witEngineAndQuayCommandsStart1.dev.cmdFor (0)
    0x08 none ((BitVec.ofNat 512 (23 * 2 ^ 16 + 4096 * 2 ^ 64 + 90432 * 2 ^ 128)
    : Entry))).target).load = some { cmd := (witEngineAndQuayCommandsStart1.dev.cmdFor (0) 0x08 none ((BitVec.ofNat 512 (23 * 2 ^ 16 + 4096 * 2 ^ 64 + 90432 * 2 ^ 128) : Entry))), target := (witEngineAndQuayCommandsStart1.dev.meHome (witEngineAndQuayCommandsStart1.dev.cmdFor (0) 0x08 none ((BitVec.ofNat 512 (23 * 2 ^ 16 + 4096 * 2 ^ 64 + 90432 * 2 ^ 128) : Entry))).target), space := 0, addr := bits (witEngineAndQuayCommandsStart1.dev.cmdFor (0) 0x08 none ((BitVec.ofNat 512 (23 * 2 ^ 16 + 4096 * 2 ^ 64 + 90432 * 2 ^ 128) : Entry))).w 64 64, len := bits (witEngineAndQuayCommandsStart1.dev.cmdFor (0) 0x08 none ((BitVec.ofNat 512 (23 * 2 ^ 16 + 4096 * 2 ^ 64 + 90432 * 2 ^ 128) : Entry))).w 128 32 }
    ∧ ((ran (.loadImage (0) ((BitVec.ofNat 512 (23 * 2 ^ 16 + 4096 * 2 ^ 64 + 90432 * 2 ^ 128) : Entry)))
    witEngineAndQuayCommandsStart1).ops (witEngineAndQuayCommandsStart1.dev.cmdFor (0)
    0x08 none ((BitVec.ofNat 512 (23 * 2 ^ 16 + 4096 * 2 ^ 64 + 90432 * 2 ^ 128) : Entry))).target).loaded = true ∧ ((ran (.loadImage (0)
    ((BitVec.ofNat 512 (23 * 2 ^ 16 + 4096 * 2 ^ 64 + 90432 * 2 ^ 128) : Entry)))
    witEngineAndQuayCommandsStart1).ring (0)).running = (witEngineAndQuayCommandsStart1.dev.ring
    (0)).running ++ [(witEngineAndQuayCommandsStart1.dev.cmdFor (0) 0x08 none ((BitVec.ofNat 512 (23 * 2 ^ 16 + 4096 * 2 ^ 64 + 90432 * 2 ^ 128) : Entry)))])
    := by decide +kernel
theorem test_EngineAndQuayCommandsStart_2 : (witEngineAndQuayCommandsStart2.dev.takes (0) 0x09 none ((BitVec.ofNat 512 (23 * 2 ^ 16) : Entry))
    = true) ∧ ((witEngineAndQuayCommandsStart2.dev.ops (witEngineAndQuayCommandsStart2.dev.cmdFor (0) 0x09 none ((BitVec.ofNat 512 (23 * 2 ^ 16)
    : Entry))).target).relief = none) ∧ ((witEngineAndQuayCommandsStart2.dev.ops (witEngineAndQuayCommandsStart2.dev.cmdFor (0)
    0x09 none ((BitVec.ofNat 512 (23 * 2 ^ 16) : Entry))).target).act = none) ∧
    (witEngineAndQuayCommandsStart2.dev.fld ME_STATUS.RUNNING (witEngineAndQuayCommandsStart2.dev.meHome
    (witEngineAndQuayCommandsStart2.dev.cmdFor (0) 0x09 none ((BitVec.ofNat 512 (23 * 2 ^ 16) : Entry))).target) = 0) ∧
    (witEngineAndQuayCommandsStart2.dev.fld ME_IMAGE.LSTATE (witEngineAndQuayCommandsStart2.dev.meHome
    (witEngineAndQuayCommandsStart2.dev.cmdFor (0) 0x09 none ((BitVec.ofNat 512 (23 * 2 ^ 16) : Entry))).target) = 2) ∧ (((ran (.activateImage (0)
    ((BitVec.ofNat 512 (23 * 2 ^ 16) : Entry))) witEngineAndQuayCommandsStart2).ops (witEngineAndQuayCommandsStart2.dev.cmdFor (0)
    0x09 none ((BitVec.ofNat 512 (23 * 2 ^ 16)
    : Entry))).target).act = some { cmd := (witEngineAndQuayCommandsStart2.dev.cmdFor (0) 0x09 none ((BitVec.ofNat 512 (23 * 2 ^ 16) : Entry))), keep := (witEngineAndQuayCommandsStart2.dev.cmdFor (0) 0x09 none ((BitVec.ofNat 512 (23 * 2 ^ 16) : Entry))).opt, due := 2 * witEngineAndQuayCommandsStart2.dev.tb.eclk + 1000 * (if bits (witEngineAndQuayCommandsStart2.dev.cmdFor (0) 0x09 none ((BitVec.ofNat 512 (23 * 2 ^ 16) : Entry))).w 64 16 = 0 then 100 else bits (witEngineAndQuayCommandsStart2.dev.cmdFor (0) 0x09 none ((BitVec.ofNat 512 (23 * 2 ^ 16) : Entry))).w 64 16) }
    ∧ (ran (.activateImage (0) ((BitVec.ofNat 512 (23 * 2 ^ 16) : Entry)))
    witEngineAndQuayCommandsStart2).fld ME_DSTAT.HELD (witEngineAndQuayCommandsStart2.dev.meServ (witEngineAndQuayCommandsStart2.dev.cmdFor (0)
    0x09 none ((BitVec.ofNat 512 (23 * 2 ^ 16) : Entry))).target) = 1 ∧ ((ran (.activateImage (0) ((BitVec.ofNat 512 (23 * 2 ^ 16) : Entry)))
    witEngineAndQuayCommandsStart2).ring (0)).running = (witEngineAndQuayCommandsStart2.dev.ring
    (0)).running ++ [(witEngineAndQuayCommandsStart2.dev.cmdFor (0) 0x09 none ((BitVec.ofNat 512 (23 * 2 ^ 16) : Entry)))]) := by decide +kernel
theorem test_EngineAndQuayCommandsStart_3 : (witEngineAndQuayCommandsStart3.dev.takes (0) 0x0B (some false)
    ((BitVec.ofNat 512 (23 * 2 ^ 16 + 25 * 2 ^ 64) : Entry)) = true) ∧
    ((witEngineAndQuayCommandsStart3.dev.ops (witEngineAndQuayCommandsStart3.dev.cmdFor (0) 0x0B (some false)
    ((BitVec.ofNat 512 (23 * 2 ^ 16 + 25 * 2 ^ 64) : Entry))).target).load = none) ∧
    ((witEngineAndQuayCommandsStart3.dev.ops (witEngineAndQuayCommandsStart3.dev.cmdFor (0) 0x0B (some false)
    ((BitVec.ofNat 512 (23 * 2 ^ 16 + 25 * 2 ^ 64) : Entry))).target).relief = none) ∧
    ((witEngineAndQuayCommandsStart3.dev.ops (witEngineAndQuayCommandsStart3.dev.cmdFor (0) 0x0B (some false)
    ((BitVec.ofNat 512 (23 * 2 ^ 16 + 25 * 2 ^ 64) : Entry))).target).act = none) ∧ (bits (witEngineAndQuayCommandsStart3.dev.cmdFor (0)
    0x0B (some false) ((BitVec.ofNat 512 (23 * 2 ^ 16 + 25 * 2 ^ 64) : Entry))).w 64 8 = (25)) ∧ ((25) = 24 ∨ (25) = 25) ∧
    (witEngineAndQuayCommandsStart3.dev.reliefFree (25) = true) ∧ (witEngineAndQuayCommandsStart3.dev.isWarm (25)
    (witEngineAndQuayCommandsStart3.dev.cmdFor (0) 0x0B (some false) ((BitVec.ofNat 512 (23 * 2 ^ 16 + 25 * 2 ^ 64) : Entry))).target = false) ∧
    (((ran (.relieveEngine (0) ((BitVec.ofNat 512 (23 * 2 ^ 16 + 25 * 2 ^ 64) : Entry)))
    witEngineAndQuayCommandsStart3).ops (witEngineAndQuayCommandsStart3.dev.cmdFor (0) 0x0B (some false)
    ((BitVec.ofNat 512 (23 * 2 ^ 16 + 25 * 2 ^ 64)
    : Entry))).target).relief = some { old := witEngineAndQuayCommandsStart3.dev.meServ (witEngineAndQuayCommandsStart3.dev.cmdFor (0) 0x0B (some false) ((BitVec.ofNat 512 (23 * 2 ^ 16 + 25 * 2 ^ 64) : Entry))).target, new := (25), cmd := some (witEngineAndQuayCommandsStart3.dev.cmdFor (0) 0x0B (some false) ((BitVec.ofNat 512 (23 * 2 ^ 16 + 25 * 2 ^ 64) : Entry))) }
    ∧ (ran (.relieveEngine (0) ((BitVec.ofNat 512 (23 * 2 ^ 16 + 25 * 2 ^ 64) : Entry)))
    witEngineAndQuayCommandsStart3).fld ME_RELIEF.COPYING ((25) - 24) = 1 ∧ ((ran (.relieveEngine (0)
    ((BitVec.ofNat 512 (23 * 2 ^ 16 + 25 * 2 ^ 64) : Entry)))
    witEngineAndQuayCommandsStart3).ring (0)).running = (witEngineAndQuayCommandsStart3.dev.ring
    (0)).running ++ [(witEngineAndQuayCommandsStart3.dev.cmdFor (0) 0x0B (some false) ((BitVec.ofNat 512 (23 * 2 ^ 16 + 25 * 2 ^ 64) : Entry)))])
    := by decide +kernel
theorem test_EngineAndQuayCommandsStart_4 : (witEngineAndQuayCommandsStart4.dev.takes (0) 0x0B (some true) ((BitVec.ofNat 512 (23 * 2 ^ 16)
    : Entry)) = true) ∧ ((witEngineAndQuayCommandsStart4.dev.ops (witEngineAndQuayCommandsStart4.dev.cmdFor (0) 0x0B (some true)
    ((BitVec.ofNat 512 (23 * 2 ^ 16) : Entry))).target).load = none) ∧
    ((witEngineAndQuayCommandsStart4.dev.ops (witEngineAndQuayCommandsStart4.dev.cmdFor (0) 0x0B (some true) ((BitVec.ofNat 512 (23 * 2 ^ 16)
    : Entry))).target).relief = none) ∧ ((witEngineAndQuayCommandsStart4.dev.ops (witEngineAndQuayCommandsStart4.dev.cmdFor (0) 0x0B (some true)
    ((BitVec.ofNat 512 (23 * 2 ^ 16) : Entry))).target).act = none) ∧
    (witEngineAndQuayCommandsStart4.dev.meServ (witEngineAndQuayCommandsStart4.dev.cmdFor (0) 0x0B (some true) ((BitVec.ofNat 512 (23 * 2 ^ 16)
    : Entry))).target ≠ (witEngineAndQuayCommandsStart4.dev.meHome (witEngineAndQuayCommandsStart4.dev.cmdFor (0) 0x0B (some true)
    ((BitVec.ofNat 512 (23 * 2 ^ 16) : Entry))).target)) ∧ ((witEngineAndQuayCommandsStart4.dev.ops (witEngineAndQuayCommandsStart4.dev.cmdFor (0)
    0x0B (some true) ((BitVec.ofNat 512 (23 * 2 ^ 16) : Entry))).target).loaded = false) ∧ (((ran (.relieveReturn (0)
    ((BitVec.ofNat 512 (23 * 2 ^ 16) : Entry))) witEngineAndQuayCommandsStart4).ops (witEngineAndQuayCommandsStart4.dev.cmdFor (0)
    0x0B (some true) ((BitVec.ofNat 512 (23 * 2 ^ 16)
    : Entry))).target).relief = some { old := witEngineAndQuayCommandsStart4.dev.meServ (witEngineAndQuayCommandsStart4.dev.cmdFor (0) 0x0B (some true) ((BitVec.ofNat 512 (23 * 2 ^ 16) : Entry))).target, new := (witEngineAndQuayCommandsStart4.dev.meHome (witEngineAndQuayCommandsStart4.dev.cmdFor (0) 0x0B (some true) ((BitVec.ofNat 512 (23 * 2 ^ 16) : Entry))).target), cmd := some (witEngineAndQuayCommandsStart4.dev.cmdFor (0) 0x0B (some true) ((BitVec.ofNat 512 (23 * 2 ^ 16) : Entry))), ret := true, copied := true }
    ∧ ((ran (.relieveReturn (0) ((BitVec.ofNat 512 (23 * 2 ^ 16) : Entry)))
    witEngineAndQuayCommandsStart4).ring (0)).running = (witEngineAndQuayCommandsStart4.dev.ring
    (0)).running ++ [(witEngineAndQuayCommandsStart4.dev.cmdFor (0) 0x0B (some true) ((BitVec.ofNat 512 (23 * 2 ^ 16) : Entry)))]) :=
    by decide +kernel
theorem test_EngineAndQuayCommandsStart_5 : (witEngineAndQuayCommandsStart5.dev.takes (0) 0x0A none ((BitVec.ofNat 512 (31 * 2 ^ 16 + 33 * 2 ^ 64)
    : Entry)) = true) ∧ (bits (witEngineAndQuayCommandsStart5.dev.cmdFor (0) 0x0A none ((BitVec.ofNat 512 (31 * 2 ^ 16 + 33 * 2 ^ 64)
    : Entry))).w 64 8 = (33)) ∧ ((33) = 32 ∨ (33) = 33) ∧ (witEngineAndQuayCommandsStart5.dev.fld QY_STATUS.ROLE (33) = 1) ∧
    (witEngineAndQuayCommandsStart5.dev.qy.subst = none) ∧ ((ran (.substituteQuay (0) ((BitVec.ofNat 512 (31 * 2 ^ 16 + 33 * 2 ^ 64) : Entry)))
    witEngineAndQuayCommandsStart5).qy = { witEngineAndQuayCommandsStart5.dev.qy with subst := some { q := (witEngineAndQuayCommandsStart5.dev.cmdFor (0) 0x0A none ((BitVec.ofNat 512 (31 * 2 ^ 16 + 33 * 2 ^ 64) : Entry))).target, old := witEngineAndQuayCommandsStart5.dev.physOf (witEngineAndQuayCommandsStart5.dev.cmdFor (0) 0x0A none ((BitVec.ofNat 512 (31 * 2 ^ 16 + 33 * 2 ^ 64) : Entry))).target, new := (33), phase := 1, at_ := 2 * witEngineAndQuayCommandsStart5.dev.tb.eclk, cmd := some (witEngineAndQuayCommandsStart5.dev.cmdFor (0) 0x0A none ((BitVec.ofNat 512 (31 * 2 ^ 16 + 33 * 2 ^ 64) : Entry))) } }
    ∧ (ran (.substituteQuay (0) ((BitVec.ofNat 512 (31 * 2 ^ 16 + 33 * 2 ^ 64) : Entry))) witEngineAndQuayCommandsStart5).fld QY_STATUS.ROLE (33)
    = 2 ∧ (ran (.substituteQuay (0) ((BitVec.ofNat 512 (31 * 2 ^ 16 + 33 * 2 ^ 64) : Entry)))
    witEngineAndQuayCommandsStart5).fld QY_STATUS.LOGICAL (33) = (witEngineAndQuayCommandsStart5.dev.cmdFor (0)
    0x0A none ((BitVec.ofNat 512 (31 * 2 ^ 16 + 33 * 2 ^ 64) : Entry))).target ∧ ((ran (.substituteQuay (0)
    ((BitVec.ofNat 512 (31 * 2 ^ 16 + 33 * 2 ^ 64) : Entry)))
    witEngineAndQuayCommandsStart5).ring (0)).running = (witEngineAndQuayCommandsStart5.dev.ring
    (0)).running ++ [(witEngineAndQuayCommandsStart5.dev.cmdFor (0) 0x0A none ((BitVec.ofNat 512 (31 * 2 ^ 16 + 33 * 2 ^ 64) : Entry)))]) :=
    by decide +kernel
def witLighterBerthAndSwapCommandsAct1 : State := st (fun d => ((ready d).setFld (HM_OWN.VALID.nth 4 7) 1 19).setFld LT_STAT.LGEN 0xFFFF 31)
def witLighterBerthAndSwapCommandsAct2 : State := st (fun d => ((ready d).setFld (HM_OWN.VALID.nth 4 7) 1 19).setFld LT_STAT.LSTATE 1 31)
def witLighterBerthAndSwapCommandsAct3 : State := st (fun d => ((ready d).setFld (HM_OWN.VALID.nth 4 7) 1 19).setFld LT_STAT.LSTATE 5 31)
def witLighterBerthAndSwapCommandsAct4 : State := st (fun d => ready d)
def witLighterBerthAndSwapCommandsAct5 : State := st (fun d => ready d)
def witLighterBerthAndSwapCommandsAct6 : State := st (fun d => { (ready d).setFld PN_STATUS.STATE 1 31 with hi := { (ready d).hi with rings := [(0, { running := [{ w := BitVec.ofNat 512 (15 + 31 * 2 ^ 16 + 7 * 2 ^ 32) }] })] } })
theorem test_LighterBerthAndSwapCommandsAct_1 : (witLighterBerthAndSwapCommandsAct1.dev.takes (0)
    0x0C none ((BitVec.ofNat 512 (31 * 2 ^ 16 + 4152 * 2 ^ 64) : Entry)) = true) ∧ (bits (witLighterBerthAndSwapCommandsAct1.dev.cmdFor (0)
    0x0C none ((BitVec.ofNat 512 (31 * 2 ^ 16 + 4152 * 2 ^ 64) : Entry))).w 64 64 = (4152)) ∧ ((4152) % 8 = 0) ∧ (cut (4152) 62 2 < 2) ∧
    (witLighterBerthAndSwapCommandsAct1.dev.fld LT_STAT.LSTATE (witLighterBerthAndSwapCommandsAct1.dev.cmdFor (0)
    0x0C none ((BitVec.ofNat 512 (31 * 2 ^ 16 + 4152 * 2 ^ 64) : Entry))).target = 0) ∧ ((ran (.startLighter (0)
    ((BitVec.ofNat 512 (31 * 2 ^ 16 + 4152 * 2 ^ 64) : Entry)))
    witLighterBerthAndSwapCommandsAct1).fld LT_STAT.LSTATE (witLighterBerthAndSwapCommandsAct1.dev.cmdFor (0)
    0x0C none ((BitVec.ofNat 512 (31 * 2 ^ 16 + 4152 * 2 ^ 64) : Entry))).target = 1 ∧ (ran (.startLighter (0)
    ((BitVec.ofNat 512 (31 * 2 ^ 16 + 4152 * 2 ^ 64) : Entry)))
    witLighterBerthAndSwapCommandsAct1).fld LT_PC.PC (witLighterBerthAndSwapCommandsAct1.dev.cmdFor (0)
    0x0C none ((BitVec.ofNat 512 (31 * 2 ^ 16 + 4152 * 2 ^ 64) : Entry))).target = (4152) ∧ (ran (.startLighter (0)
    ((BitVec.ofNat 512 (31 * 2 ^ 16 + 4152 * 2 ^ 64) : Entry)))
    witLighterBerthAndSwapCommandsAct1).fld LT_STAT.PRIO (witLighterBerthAndSwapCommandsAct1.dev.cmdFor (0)
    0x0C none ((BitVec.ofNat 512 (31 * 2 ^ 16 + 4152 * 2 ^ 64) : Entry))).target = bits (witLighterBerthAndSwapCommandsAct1.dev.cmdFor (0)
    0x0C none ((BitVec.ofNat 512 (31 * 2 ^ 16 + 4152 * 2 ^ 64) : Entry))).w 128 2 ∧ (ran (.startLighter (0)
    ((BitVec.ofNat 512 (31 * 2 ^ 16 + 4152 * 2 ^ 64) : Entry)))
    witLighterBerthAndSwapCommandsAct1).fld LT_STAT.LGEN (witLighterBerthAndSwapCommandsAct1.dev.cmdFor (0)
    0x0C none ((BitVec.ofNat 512 (31 * 2 ^ 16 + 4152 * 2 ^ 64) : Entry))).target = (if witLighterBerthAndSwapCommandsAct1.dev.fld
    LT_STAT.LGEN (witLighterBerthAndSwapCommandsAct1.dev.cmdFor (0) 0x0C none ((BitVec.ofNat 512 (31 * 2 ^ 16 + 4152 * 2 ^ 64)
    : Entry))).target = 0xFFFF then 1 else (witLighterBerthAndSwapCommandsAct1.dev.fld LT_STAT.LGEN (witLighterBerthAndSwapCommandsAct1.dev.cmdFor
    (0) 0x0C none ((BitVec.ofNat 512 (31 * 2 ^ 16 + 4152 * 2 ^ 64) : Entry))).target + 1) % 65536) ∧ (ran (.startLighter (0)
    ((BitVec.ofNat 512 (31 * 2 ^ 16 + 4152 * 2 ^ 64) : Entry)))
    witLighterBerthAndSwapCommandsAct1).fld LT_STAT.LATCH (witLighterBerthAndSwapCommandsAct1.dev.cmdFor (0)
    0x0C none ((BitVec.ofNat 512 (31 * 2 ^ 16 + 4152 * 2 ^ 64) : Entry))).target = 0 ∧ (ran (.startLighter (0)
    ((BitVec.ofNat 512 (31 * 2 ^ 16 + 4152 * 2 ^ 64) : Entry)))
    witLighterBerthAndSwapCommandsAct1).fld LT_BYTES.BYTES (witLighterBerthAndSwapCommandsAct1.dev.cmdFor (0)
    0x0C none ((BitVec.ofNat 512 (31 * 2 ^ 16 + 4152 * 2 ^ 64) : Entry))).target = 0 ∧ ((ran (.startLighter (0)
    ((BitVec.ofNat 512 (31 * 2 ^ 16 + 4152 * 2 ^ 64) : Entry)))
    witLighterBerthAndSwapCommandsAct1).ltc (witLighterBerthAndSwapCommandsAct1.dev.cmdFor (0)
    0x0C none ((BitVec.ofNat 512 (31 * 2 ^ 16 + 4152 * 2 ^ 64)
    : Entry))).target).fetches = [(ltLineOf (4152), (witLighterBerthAndSwapCommandsAct1.dev.ltc (witLighterBerthAndSwapCommandsAct1.dev.cmdFor (0) 0x0C none ((BitVec.ofNat 512 (31 * 2 ^ 16 + 4152 * 2 ^ 64) : Entry))).target).pi), (ltLineNext (ltLineOf (4152)), (witLighterBerthAndSwapCommandsAct1.dev.ltc (witLighterBerthAndSwapCommandsAct1.dev.cmdFor (0) 0x0C none ((BitVec.ofNat 512 (31 * 2 ^ 16 + 4152 * 2 ^ 64) : Entry))).target).pi)])
    := by decide +kernel
theorem test_LighterBerthAndSwapCommandsAct_2 : (witLighterBerthAndSwapCommandsAct2.dev.takes (0) 0x0D (some false)
    ((BitVec.ofNat 512 (31 * 2 ^ 16) : Entry)) = true) ∧
    (witLighterBerthAndSwapCommandsAct2.dev.fld LT_STAT.LSTATE (witLighterBerthAndSwapCommandsAct2.dev.cmdFor (0) 0x0D (some false)
    ((BitVec.ofNat 512 (31 * 2 ^ 16) : Entry))).target = 1) ∧ ((ran (.pauseLighter (0) ((BitVec.ofNat 512 (31 * 2 ^ 16) : Entry)))
    witLighterBerthAndSwapCommandsAct2).fld LT_STAT.LSTATE (witLighterBerthAndSwapCommandsAct2.dev.cmdFor (0) 0x0D (some false)
    ((BitVec.ofNat 512 (31 * 2 ^ 16) : Entry))).target = 4 ∧ (ran (.pauseLighter (0) ((BitVec.ofNat 512 (31 * 2 ^ 16) : Entry)))
    witLighterBerthAndSwapCommandsAct2).fld LT_DIAG.PAUSE_CAUSE (witLighterBerthAndSwapCommandsAct2.dev.cmdFor (0) 0x0D (some false)
    ((BitVec.ofNat 512 (31 * 2 ^ 16) : Entry))).target = 1 ∧ ((ran (.pauseLighter (0) ((BitVec.ofNat 512 (31 * 2 ^ 16) : Entry)))
    witLighterBerthAndSwapCommandsAct2).ltc (witLighterBerthAndSwapCommandsAct2.dev.cmdFor (0) 0x0D (some false) ((BitVec.ofNat 512 (31 * 2 ^ 16)
    : Entry))).target)
    = { (witLighterBerthAndSwapCommandsAct2.dev.ltc (witLighterBerthAndSwapCommandsAct2.dev.cmdFor (0) 0x0D (some false) ((BitVec.ofNat 512 (31 * 2 ^ 16) : Entry))).target) with pause := some (witLighterBerthAndSwapCommandsAct2.dev.cmdFor (0) 0x0D (some false) ((BitVec.ofNat 512 (31 * 2 ^ 16) : Entry))), wait := none, refetch := none }
    ∧ ((ran (.pauseLighter (0) ((BitVec.ofNat 512 (31 * 2 ^ 16) : Entry)))
    witLighterBerthAndSwapCommandsAct2).ring (0)).running = (witLighterBerthAndSwapCommandsAct2.dev.ring
    (0)).running ++ [(witLighterBerthAndSwapCommandsAct2.dev.cmdFor (0) 0x0D (some false) ((BitVec.ofNat 512 (31 * 2 ^ 16) : Entry)))]) :=
    by decide +kernel
theorem test_LighterBerthAndSwapCommandsAct_3 : (witLighterBerthAndSwapCommandsAct3.dev.takes (0) 0x0D (some true)
    ((BitVec.ofNat 512 (31 * 2 ^ 16) : Entry)) = true) ∧
    (witLighterBerthAndSwapCommandsAct3.dev.fld LT_STAT.LSTATE (witLighterBerthAndSwapCommandsAct3.dev.cmdFor (0) 0x0D (some true)
    ((BitVec.ofNat 512 (31 * 2 ^ 16) : Entry))).target = 5) ∧ (witLighterBerthAndSwapCommandsAct3.dev.reports (0) ((BitVec.ofNat 512 (31 * 2 ^ 16)
    : Entry)) = true) ∧ ((ran (.resumeLighter (0) ((BitVec.ofNat 512 (31 * 2 ^ 16) : Entry)))
    witLighterBerthAndSwapCommandsAct3).fld LT_STAT.LSTATE (witLighterBerthAndSwapCommandsAct3.dev.cmdFor (0) 0x0D (some true)
    ((BitVec.ofNat 512 (31 * 2 ^ 16) : Entry))).target = 1 ∧ (ran (.resumeLighter (0) ((BitVec.ofNat 512 (31 * 2 ^ 16) : Entry)))
    witLighterBerthAndSwapCommandsAct3).fld LT_DIAG.PAUSE_CAUSE (witLighterBerthAndSwapCommandsAct3.dev.cmdFor (0) 0x0D (some true)
    ((BitVec.ofNat 512 (31 * 2 ^ 16) : Entry))).target = 0 ∧ witLighterBerthAndSwapCommandsAct3.dev.completedIn (ran (.resumeLighter (0)
    ((BitVec.ofNat 512 (31 * 2 ^ 16) : Entry))) witLighterBerthAndSwapCommandsAct3) (witLighterBerthAndSwapCommandsAct3.dev.cmdFor (0)
    0x0D (some true) ((BitVec.ofNat 512 (31 * 2 ^ 16) : Entry))) 0 (witLighterBerthAndSwapCommandsAct3.dev.cmdFor (0) 0x0D (some true)
    ((BitVec.ofNat 512 (31 * 2 ^ 16)
    : Entry))).rgen ([byt 22 4 (witLighterBerthAndSwapCommandsAct3.dev.fld LT_PC.PC (witLighterBerthAndSwapCommandsAct3.dev.cmdFor (0) 0x0D (some true) ((BitVec.ofNat 512 (31 * 2 ^ 16) : Entry))).target)]))
    := by decide +kernel
theorem test_LighterBerthAndSwapCommandsAct_4 : (witLighterBerthAndSwapCommandsAct4.dev.takes (0)
    0x0E none ((BitVec.ofNat 512 (5 * 2 ^ 16 + 2 * 2 ^ 64 + 0 * 2 ^ 72) : Entry)) = true) ∧ ((witLighterBerthAndSwapCommandsAct4.dev.begun (0)
    (witLighterBerthAndSwapCommandsAct4.dev.cmdFor (0) 0x0E none ((BitVec.ofNat 512 (5 * 2 ^ 16 + 2 * 2 ^ 64 + 0 * 2 ^ 72)
    : Entry)))).handoverCheck (witLighterBerthAndSwapCommandsAct4.dev.cmdFor (0) 0x0E none ((BitVec.ofNat 512 (5 * 2 ^ 16 + 2 * 2 ^ 64 + 0 * 2
    ^ 72) : Entry))) = 0) ∧ (witLighterBerthAndSwapCommandsAct4.dev.fld BH_STAT.BSTATE (witLighterBerthAndSwapCommandsAct4.dev.cmdFor (0)
    0x0E none ((BitVec.ofNat 512 (5 * 2 ^ 16 + 2 * 2 ^ 64 + 0 * 2 ^ 72) : Entry))).target ≠ 1) ∧
    (witLighterBerthAndSwapCommandsAct4.dev.fld BH_STAT.BSTATE (witLighterBerthAndSwapCommandsAct4.dev.cmdFor (0)
    0x0E none ((BitVec.ofNat 512 (5 * 2 ^ 16 + 2 * 2 ^ 64 + 0 * 2 ^ 72) : Entry))).target ≠ 2) ∧
    ((witLighterBerthAndSwapCommandsAct4.dev.cmdFor (0) 0x0E none ((BitVec.ofNat 512 (5 * 2 ^ 16 + 2 * 2 ^ 64 + 0 * 2 ^ 72)
    : Entry))).opt = false) ∧ ((ran (.berthHandover (0) ((BitVec.ofNat 512 (5 * 2 ^ 16 + 2 * 2 ^ 64 + 0 * 2 ^ 72) : Entry)))
    witLighterBerthAndSwapCommandsAct4).fld BH_OWNER.CUR_KIND (witLighterBerthAndSwapCommandsAct4.dev.cmdFor (0)
    0x0E none ((BitVec.ofNat 512 (5 * 2 ^ 16 + 2 * 2 ^ 64 + 0 * 2 ^ 72) : Entry))).target = bits (witLighterBerthAndSwapCommandsAct4.dev.cmdFor
    (0) 0x0E none ((BitVec.ofNat 512 (5 * 2 ^ 16 + 2 * 2 ^ 64 + 0 * 2 ^ 72) : Entry))).w 64 2 ∧ (ran (.berthHandover (0)
    ((BitVec.ofNat 512 (5 * 2 ^ 16 + 2 * 2 ^ 64 + 0 * 2 ^ 72) : Entry)))
    witLighterBerthAndSwapCommandsAct4).fld BH_OWNER.CUR_INDEX (witLighterBerthAndSwapCommandsAct4.dev.cmdFor (0)
    0x0E none ((BitVec.ofNat 512 (5 * 2 ^ 16 + 2 * 2 ^ 64 + 0 * 2 ^ 72) : Entry))).target = bits (witLighterBerthAndSwapCommandsAct4.dev.cmdFor
    (0) 0x0E none ((BitVec.ofNat 512 (5 * 2 ^ 16 + 2 * 2 ^ 64 + 0 * 2 ^ 72) : Entry))).w 72 8 % 2 ^ BH_OWNER.CUR_INDEX.len ∧
    (ran (.berthHandover (0) ((BitVec.ofNat 512 (5 * 2 ^ 16 + 2 * 2 ^ 64 + 0 * 2 ^ 72) : Entry)))
    witLighterBerthAndSwapCommandsAct4).fld BH_OWNER.HOME_KIND (witLighterBerthAndSwapCommandsAct4.dev.cmdFor (0)
    0x0E none ((BitVec.ofNat 512 (5 * 2 ^ 16 + 2 * 2 ^ 64 + 0 * 2 ^ 72) : Entry))).target = witLighterBerthAndSwapCommandsAct4.dev.fld
    BH_OWNER.HOME_KIND (witLighterBerthAndSwapCommandsAct4.dev.cmdFor (0) 0x0E none ((BitVec.ofNat 512 (5 * 2 ^ 16 + 2 * 2 ^ 64 + 0 * 2 ^ 72)
    : Entry))).target ∧ (ran (.berthHandover (0) ((BitVec.ofNat 512 (5 * 2 ^ 16 + 2 * 2 ^ 64 + 0 * 2 ^ 72) : Entry)))
    witLighterBerthAndSwapCommandsAct4).mem = witLighterBerthAndSwapCommandsAct4.dev.mem) := by decide +kernel
theorem test_LighterBerthAndSwapCommandsAct_5 : (witLighterBerthAndSwapCommandsAct5.dev.takes (0)
    0x0F none ((BitVec.ofNat 512 (31 * 2 ^ 16 + 7 * 2 ^ 32) : Entry)) = true) ∧ (bits (witLighterBerthAndSwapCommandsAct5.dev.cmdFor (0)
    0x0F none ((BitVec.ofNat 512 (31 * 2 ^ 16 + 7 * 2 ^ 32) : Entry))).w 128 1 = 0) ∧ ((ran (.swapProgram (0)
    ((BitVec.ofNat 512 (31 * 2 ^ 16 + 7 * 2 ^ 32) : Entry))) witLighterBerthAndSwapCommandsAct5).pn = witLighterBerthAndSwapCommandsAct5.dev.pn ∧
    ((ran (.swapProgram (0) ((BitVec.ofNat 512 (31 * 2 ^ 16 + 7 * 2 ^ 32) : Entry)))
    witLighterBerthAndSwapCommandsAct5).ring (0)).running = (witLighterBerthAndSwapCommandsAct5.dev.ring
    (0)).running ++ [(witLighterBerthAndSwapCommandsAct5.dev.cmdFor (0) 0x0F none ((BitVec.ofNat 512 (31 * 2 ^ 16 + 7 * 2 ^ 32) : Entry)))]) :=
    by decide +kernel
theorem test_LighterBerthAndSwapCommandsAct_6 : ((witLighterBerthAndSwapCommandsAct6.dev.ring (0)).running.find? (fun x =>
    (x.op == 0x08 || x.op == 0x0F) && x.tag == ((7 : BitVec 32)).toNat && x.berthBody.isNone)
    = some ({ w := BitVec.ofNat 512 (15 + 31 * 2 ^ 16 + 7 * 2 ^ 32) } : Cmd)) ∧ (({ w := BitVec.ofNat 512 (15 + 31 * 2 ^ 16 + 7 * 2 ^ 32) } :
    Cmd).op = 0x0F) ∧ (((bytesOf (2 ^ 776) 128)).length = 128) ∧ ((blockQuays (BitVec.ofNat 1024 (ofBytes ((bytesOf (2 ^ 776)
    128))))).all (fun q => witLighterBerthAndSwapCommandsAct6.dev.fbit HM_FQUAY.QUAY ({ w := BitVec.ofNat 512 (15 + 31 * 2 ^ 16 + 7 * 2 ^ 32) }
    : Cmd).fn q) = true) ∧ (blockBad (BitVec.ofNat 1024 (ofBytes ((bytesOf (2 ^ 776) 128)))) = false) ∧
    ((witLighterBerthAndSwapCommandsAct6.dev.pne ({ w := BitVec.ofNat 512 (15 + 31 * 2 ^ 16 + 7 * 2 ^ 32) } : Cmd).target).shadow = none) ∧
    (witLighterBerthAndSwapCommandsAct6.dev.fld PN_STATUS.STATE ({ w := BitVec.ofNat 512 (15 + 31 * 2 ^ 16 + 7 * 2 ^ 32) } : Cmd).target = 1) ∧
    ((ran (.bodyReadDone (0) ((7 : BitVec 32)) (some ((bytesOf (2 ^ 776) 128))))
    witLighterBerthAndSwapCommandsAct6).pne ({ w := BitVec.ofNat 512 (15 + 31 * 2 ^ 16 + 7 * 2 ^ 32) }
    : Cmd).target = { witLighterBerthAndSwapCommandsAct6.dev.pne ({ w := BitVec.ofNat 512 (15 + 31 * 2 ^ 16 + 7 * 2 ^ 32) } : Cmd).target with shadow := some { prog := BitVec.ofNat 1024 (ofBytes ((bytesOf (2 ^ 776) 128))), cmd := some ({ w := BitVec.ofNat 512 (15 + 31 * 2 ^ 16 + 7 * 2 ^ 32) } : Cmd), due := if witLighterBerthAndSwapCommandsAct6.dev.fld SYS_MODE.MODE = 2 then some (witLighterBerthAndSwapCommandsAct6.dev.swapDue ({ w := BitVec.ofNat 512 (15 + 31 * 2 ^ 16 + 7 * 2 ^ 32) } : Cmd).target) else none } }
    ∧ (ran (.bodyReadDone (0) ((7 : BitVec 32)) (some ((bytesOf (2 ^ 776) 128))))
    witLighterBerthAndSwapCommandsAct6).fld PN_STATUS.SWAP_PEND ({ w := BitVec.ofNat 512 (15 + 31 * 2 ^ 16 + 7 * 2 ^ 32) } : Cmd).target = 1) :=
    by decide +kernel
def witLogAndStateCommandsAct1 : State := st (fun d => ready d)
def witLogAndStateCommandsAct2 : State := st (fun d => (ready d).setFld HM_STATUS.LOGKEY_SET 1)
def witLogAndStateCommandsAct3 : State := st (fun d => { ready d with lg := { challenge := some { fn := 0, nonce := 5, cseq := 3, clearTo := 9, first := 2, at_ := 0 } } })
def witLogAndStateCommandsAct4 : State := st (fun d => ready d)
def witLogAndStateCommandsAct5 : State := st (fun d => { ready d with hi := { (ready d).hi with rings := [(0, { fenced := 9 })] } })
def witLogAndStateCommandsAct6 : State := st (fun d => ready d)
def witLogAndStateCommandsAct7 : State := st (fun d => { ready d with hi := { (ready d).hi with rings := [(0, { fetched := [{ w := 0, rgen := 1, torn := false }] })] } })
theorem test_LogAndStateCommandsAct_1 : (witLogAndStateCommandsAct1.dev.takes (0)
    0x10 none ((BitVec.ofNat 512 (170141183460469231731687303715884105729 * 2 ^ 64) : Entry)) = true) ∧
    (witLogAndStateCommandsAct1.dev.fld HL_STAT.STATE ≠ 2) ∧ (witLogAndStateCommandsAct1.dev.lg.queued + 64 ≤ 32768) ∧ ((ran (.logMark (0)
    ((BitVec.ofNat 512 (170141183460469231731687303715884105729 * 2 ^ 64) : Entry)))
    witLogAndStateCommandsAct1).lg = { witLogAndStateCommandsAct1.dev.lg with dropped := 0, queue := witLogAndStateCommandsAct1.dev.lg.queue ++ [{ cls := 1, ltype := 4, units := 1, act := .mark (witLogAndStateCommandsAct1.dev.cmdFor (0) 0x10 none ((BitVec.ofNat 512 (170141183460469231731687303715884105729 * 2 ^ 64) : Entry))), img := witLogAndStateCommandsAct1.dev.recHead 4 1 0xFF 0 0 witLogAndStateCommandsAct1.dev.ns 0 0 false witLogAndStateCommandsAct1.dev.steady + pack [byt 32 16 (bits (witLogAndStateCommandsAct1.dev.cmdFor (0) 0x10 none ((BitVec.ofNat 512 (170141183460469231731687303715884105729 * 2 ^ 64) : Entry))).w 64 128), byt 48 1 (witLogAndStateCommandsAct1.dev.cmdFor (0) 0x10 none ((BitVec.ofNat 512 (170141183460469231731687303715884105729 * 2 ^ 64) : Entry))).fn, byt 49 1 (witLogAndStateCommandsAct1.dev.cmdFor (0) 0x10 none ((BitVec.ofNat 512 (170141183460469231731687303715884105729 * 2 ^ 64) : Entry))).ring, byt 50 4 (witLogAndStateCommandsAct1.dev.cmdFor (0) 0x10 none ((BitVec.ofNat 512 (170141183460469231731687303715884105729 * 2 ^ 64) : Entry))).tag] }] }
    ∧ ((ran (.logMark (0) ((BitVec.ofNat 512 (170141183460469231731687303715884105729 * 2 ^ 64) : Entry)))
    witLogAndStateCommandsAct1).ring (0)).running = (witLogAndStateCommandsAct1.dev.ring
    (0)).running ++ [(witLogAndStateCommandsAct1.dev.cmdFor (0) 0x10 none ((BitVec.ofNat 512 (170141183460469231731687303715884105729 * 2 ^ 64) : Entry)))])
    := by decide +kernel
theorem test_LogAndStateCommandsAct_2 : (witLogAndStateCommandsAct2.dev.takes (0) 0x11 (some false) ((BitVec.ofNat 512 (4096 * 2 ^ 64) : Entry))
    = true) ∧ (witLogAndStateCommandsAct2.dev.fld HM_STATUS.LOGKEY_SET = 1) ∧ (witLogAndStateCommandsAct2.dev.fld HL_STAT.LOCKOUT = 0) ∧
    (bits (witLogAndStateCommandsAct2.dev.cmdFor (0) 0x11 (some false) ((BitVec.ofNat 512 (4096 * 2 ^ 64) : Entry))).w 64 64 % 64 = 0) ∧
    (bits (witLogAndStateCommandsAct2.dev.cmdFor (0) 0x11 (some false) ((BitVec.ofNat 512 (4096 * 2 ^ 64) : Entry))).w 128 1 = 0) ∧
    ((ran (.logClearChallenge (0) ((BitVec.ofNat 512 (4096 * 2 ^ 64) : Entry)))
    witLogAndStateCommandsAct2).lg.cseq = (witLogAndStateCommandsAct2.dev.lg.cseq + 1) % 2 ^ 32 ∧ (ran (.logClearChallenge (0)
    ((BitVec.ofNat 512 (4096 * 2 ^ 64) : Entry))) witLogAndStateCommandsAct2).fld HL_STAT.CHALLENGE = 1) := by decide +kernel
theorem test_LogAndStateCommandsAct_3 : (witLogAndStateCommandsAct3.dev.takes (0) 0x11 (some true) ((BitVec.ofNat 512 (77 * 2 ^ 64 + 3 * 2 ^ 192)
    : Entry)) = true) ∧
    (witLogAndStateCommandsAct3.dev.lg.challenge = some ({ fn := 0, nonce := 5, cseq := 3, clearTo := 9, first := 2, at_ := 0 } : Challenge)) ∧
    (({ fn := 0, nonce := 5, cseq := 3, clearTo := 9, first := 2, at_ := 0 } : Challenge).fn = (witLogAndStateCommandsAct3.dev.cmdFor (0)
    0x11 (some true) ((BitVec.ofNat 512 (77 * 2 ^ 64 + 3 * 2 ^ 192) : Entry))).fn) ∧
    (({ fn := 0, nonce := 5, cseq := 3, clearTo := 9, first := 2, at_ := 0 } : Challenge).cseq = bits (witLogAndStateCommandsAct3.dev.cmdFor (0)
    0x11 (some true) ((BitVec.ofNat 512 (77 * 2 ^ 64 + 3 * 2 ^ 192) : Entry))).w 192 32) ∧
    (witLogAndStateCommandsAct3.dev.challengeOld ({ fn := 0, nonce := 5, cseq := 3, clearTo := 9, first := 2, at_ := 0 } : Challenge) = false) ∧
    (True) := by decide +kernel
theorem test_LogAndStateCommandsAct_4 : (witLogAndStateCommandsAct4.dev.takes (0) 0x11 (some true) ((BitVec.ofNat 512 (77 * 2 ^ 64) : Entry))
    = true) ∧ (witLogAndStateCommandsAct4.dev.lg.challenge = none) ∧ (witLogAndStateCommandsAct4.dev.reports (0) ((BitVec.ofNat 512 (77 * 2 ^ 64)
    : Entry)) = true) ∧ ((ran (.logClearRespond (0) ((BitVec.ofNat 512 (77 * 2 ^ 64) : Entry))) witLogAndStateCommandsAct4).lg.challenge = none ∧
    witLogAndStateCommandsAct4.dev.completedIn (ran (.logClearRespond (0) ((BitVec.ofNat 512 (77 * 2 ^ 64) : Entry))) witLogAndStateCommandsAct4)
    (witLogAndStateCommandsAct4.dev.cmdFor (0) 0x11 (some true) ((BitVec.ofNat 512 (77 * 2 ^ 64) : Entry)))
    0x13 (witLogAndStateCommandsAct4.dev.cmdFor (0) 0x11 (some true) ((BitVec.ofNat 512 (77 * 2 ^ 64) : Entry))).rgen ([])) := by decide +kernel
theorem test_LogAndStateCommandsAct_5 : (witLogAndStateCommandsAct5.dev.takes (0) 0x13 none ((BitVec.ofNat 512 (0) : Entry)) = true) ∧
    ((witLogAndStateCommandsAct5.dev.ring (0)).running = []) ∧ (witLogAndStateCommandsAct5.dev.sl.rises = []) ∧ ((upto 64).all (fun q =>
    witLogAndStateCommandsAct5.dev.queueOwner q != some (witLogAndStateCommandsAct5.dev.cmdFor (0) 0x13 none ((BitVec.ofNat 512 (0)
    : Entry))).fn || !witLogAndStateCommandsAct5.dev.hqWaiting q) = true) ∧ (witLogAndStateCommandsAct5.dev.reports (0) ((BitVec.ofNat 512 (0)
    : Entry)) = true) ∧ (witLogAndStateCommandsAct5.dev.completedIn (ran (.fence (0) ((BitVec.ofNat 512 (0) : Entry))) witLogAndStateCommandsAct5)
    (witLogAndStateCommandsAct5.dev.cmdFor (0) 0x13 none ((BitVec.ofNat 512 (0) : Entry))) 0 (witLogAndStateCommandsAct5.dev.cmdFor (0)
    0x13 none ((BitVec.ofNat 512 (0) : Entry))).rgen ([byt 22 2 (witLogAndStateCommandsAct5.dev.ring (0)).fenced]) ∧ ((ran (.fence (0)
    ((BitVec.ofNat 512 (0) : Entry))) witLogAndStateCommandsAct5).ring (0)).fenced = 0 ∧ ((ran (.fence (0) ((BitVec.ofNat 512 (0) : Entry)))
    witLogAndStateCommandsAct5).ring (0)).running = []) := by decide +kernel
theorem test_LogAndStateCommandsAct_6 : (witLogAndStateCommandsAct6.dev.takes (0) 0x04 none ((BitVec.ofNat 512 (20511 * 2 ^ 16 + 4096 * 2 ^ 64)
    : Entry)) = true) ∧ ((witLogAndStateCommandsAct6.dev.begun (0) (witLogAndStateCommandsAct6.dev.cmdFor (0)
    0x04 none ((BitVec.ofNat 512 (20511 * 2 ^ 16 + 4096 * 2 ^ 64) : Entry)))).stateBytes (witLogAndStateCommandsAct6.dev.cmdFor (0)
    0x04 none ((BitVec.ofNat 512 (20511 * 2 ^ 16 + 4096 * 2 ^ 64) : Entry))).cls (witLogAndStateCommandsAct6.dev.cmdFor (0)
    0x04 none ((BitVec.ofNat 512 (20511 * 2 ^ 16 + 4096 * 2 ^ 64) : Entry))).idx = some (((ready State.reset.dev).berthState 31))) ∧
    (bits (witLogAndStateCommandsAct6.dev.cmdFor (0) 0x04 none ((BitVec.ofNat 512 (20511 * 2 ^ 16 + 4096 * 2 ^ 64) : Entry))).w 64 64 % 64 = 0) ∧
    (bits (witLogAndStateCommandsAct6.dev.cmdFor (0) 0x04 none ((BitVec.ofNat 512 (20511 * 2 ^ 16 + 4096 * 2 ^ 64) : Entry))).w 128 1 = 0) ∧
    (.write (witLogAndStateCommandsAct6.dev.cmdFor (0) 0x04 none ((BitVec.ofNat 512 (20511 * 2 ^ 16 + 4096 * 2 ^ 64)
    : Entry))).fn (bits (witLogAndStateCommandsAct6.dev.cmdFor (0) 0x04 none ((BitVec.ofNat 512 (20511 * 2 ^ 16 + 4096 * 2 ^ 64)
    : Entry))).w 64 64) (bytesOf (((ready State.reset.dev).berthState 31)) 64) ∈ (ran (.readState (0)
    ((BitVec.ofNat 512 (20511 * 2 ^ 16 + 4096 * 2 ^ 64) : Entry))) witLogAndStateCommandsAct6).hi.posted ∧ (ran (.readState (0)
    ((BitVec.ofNat 512 (20511 * 2 ^ 16 + 4096 * 2 ^ 64) : Entry))) witLogAndStateCommandsAct6).mem = witLogAndStateCommandsAct6.dev.mem) :=
    by decide +kernel
theorem test_LogAndStateCommandsAct_7 : ((witLogAndStateCommandsAct7.dev.ring (0)).fetched = ({ w := 0, rgen := 1, torn := false } : Fetched)
    :: ([] : List Fetched)) ∧ (witLogAndStateCommandsAct7.dev.turn = some (0)) ∧ (((ran (.entryAccept (0))
    witLogAndStateCommandsAct7).ring (0)).fetched = ([] : List Fetched) ∧ (((ran (.entryAccept (0))
    witLogAndStateCommandsAct7).hq 0).gen.map (fun u => u.recs.length)) = [1]) := by decide +kernel
def witBarWritesReachTheirRegister3 : State := st (fun d => d)
theorem test_BarWritesReachTheirRegister_1 : [0x10, 0x18, 0x8000, 0x8008, 0x8010, 0x8018, 0x8210, 0x9000, 0x3D000, 0x3C010, 0xB000, 0xA800, 0xA000, 0xA100, 0xF008, 0x5008, 0x4000, 0x3F000, 0x45010, 0x40200, 0x44040, 0x9100].all
    (fun o => (regAt o).isSome && (st (fun d => { (ready d).setFld HM_SEAL.SEAL 1 with boot := { loaded := true } })).dev.admits
    { fn := 0, off := o, size := 4, val := 0 }) = true := by decide +kernel
theorem test_BarWritesReachTheirRegister_2 : (regAt 0x50).isSome = true := by decide +kernel
theorem test_BarWritesReachTheirRegister_3 : (witBarWritesReachTheirRegister3.dev.admits
    ({ fn := 0, off := 0x8210, size := 4, val := 7 } : BarAcc) = false) ∧ (({ fn := 0, off := 0x8210, size := 4, val := 7 } : BarAcc).off
    < 0x100000) ∧ ((ran (.regWrite ({ fn := 0, off := 0x8210, size := 4, val := 7 } : BarAcc))
    witBarWritesReachTheirRegister3).regs = witBarWritesReachTheirRegister3.dev.regs ∧
    (ran (.regWrite ({ fn := 0, off := 0x8210, size := 4, val := 7 } : BarAcc))
    witBarWritesReachTheirRegister3).tb = witBarWritesReachTheirRegister3.dev.tb ∧
    (ran (.regWrite ({ fn := 0, off := 0x8210, size := 4, val := 7 } : BarAcc))
    witBarWritesReachTheirRegister3).mem = witBarWritesReachTheirRegister3.dev.mem ∧
    (ran (.regWrite ({ fn := 0, off := 0x8210, size := 4, val := 7 } : BarAcc))
    witBarWritesReachTheirRegister3).hi = { witBarWritesReachTheirRegister3.dev.hi with key1 := (ran (.regWrite ({ fn := 0, off := 0x8210, size := 4, val := 7 } : BarAcc)) witBarWritesReachTheirRegister3).hi.key1 })
    := by decide +kernel
def witModeAndPowerWritesAct1 : State := st (fun d => { (((ready d).setFld HM_SEAL.SEAL 1).setFld SYS_MODE.MODE 1) with boot := { loaded := true } })
def witModeAndPowerWritesAct2 : State := st (fun d => { ((((ready d).setFld HM_SEAL.SEAL 1).setFld SYS_MODE.MODE 2).setFld SYS_MODE.ARMED 1) with boot := { loaded := true } })
def witModeAndPowerWritesAct3 : State := st (fun d => { (((ready d).setFld HM_SEAL.SEAL 1).setFld HM_FRIGHTS.FULL_RESET 1) with boot := { loaded := true } })
def witModeAndPowerWritesAct4 : State := st (fun d => { (((ready d).setFld HM_SEAL.SEAL 1).setFld HM_FRIGHTS.FULL_RESET 1) with boot := { loaded := true } })
def witModeAndPowerWritesAct5 : State := st (fun d => { { ((((ready d).setFld HM_SEAL.SEAL 1).setFld HM_FRIGHTS.FULL_RESET 1).setFld SYS_MODE.MODE 2) with boot := { loaded := true } } with hi := { key1 := true } })
def witModeAndPowerWritesAct6 : State := st (fun d => { (ready d).setFld SYS_BOOT.STAGE 3 with boot := { loaded := true } })
def witModeAndPowerWritesAct7 : State := st (fun d => { ((ready d).setFld HM_SEAL.SEAL 1) with boot := { loaded := true } })
theorem test_ModeAndPowerWritesAct_1 : (witModeAndPowerWritesAct1.dev.open0) ∧ (witModeAndPowerWritesAct1.dev.fld SYS_MODE.MODE = 1) ∧
    ((ran (.sysModeGo { fn := 0, off := 0x10, size := 4, val := 0x10 }) witModeAndPowerWritesAct1).fld SYS_MODE.PENDING_GO = 1 ∧
    (ran (.sysModeGo { fn := 0, off := 0x10, size := 4, val := 0x10 }) witModeAndPowerWritesAct1).fld SYS_MODE.MODE = 1 ∧
    (ran (.sysModeGo { fn := 0, off := 0x10, size := 4, val := 0x10 })
    witModeAndPowerWritesAct1).fld SYS_MODE.GO_REQ = witModeAndPowerWritesAct1.dev.fld SYS_MODE.GO_REQ) := by decide +kernel
theorem test_ModeAndPowerWritesAct_2 : (witModeAndPowerWritesAct2.dev.open0) ∧ (witModeAndPowerWritesAct2.dev.fld SYS_MODE.MODE = 2) ∧
    ((ran (.sysModeHold { fn := 0, off := 0x10, size := 4, val := 0x20 }) witModeAndPowerWritesAct2).fld SYS_MODE.PENDING_GO = 0 ∧
    (ran (.sysModeHold { fn := 0, off := 0x10, size := 4, val := 0x20 }) witModeAndPowerWritesAct2).fld SYS_MODE.MODE = 1 ∧
    (ran (.sysModeHold { fn := 0, off := 0x10, size := 4, val := 0x20 }) witModeAndPowerWritesAct2).fld SYS_MODE.CAUSE = 2 ∧
    (ran (.sysModeHold { fn := 0, off := 0x10, size := 4, val := 0x20 }) witModeAndPowerWritesAct2).fld SYS_MODE.GO_REQ = 1 ∧
    (ran (.sysModeHold { fn := 0, off := 0x10, size := 4, val := 0x20 }) witModeAndPowerWritesAct2).fld SYS_MODE.ARMED = 0) := by decide +kernel
theorem test_ModeAndPowerWritesAct_3 : (witModeAndPowerWritesAct3.dev.open0) ∧ (witModeAndPowerWritesAct3.dev.fld HM_FRIGHTS.FULL_RESET = 1) ∧
    ((ran (.sysResetWrite { fn := 0, off := 0x18, size := 4, val := 0x5A17 }) witModeAndPowerWritesAct3)
    = { witModeAndPowerWritesAct3.dev with hi := { witModeAndPowerWritesAct3.dev.hi with key1 := true }, cyc := (ran (.sysResetWrite { fn := 0, off := 0x18, size := 4, val := 0x5A17 }) witModeAndPowerWritesAct3).cyc })
    := by decide +kernel
theorem test_ModeAndPowerWritesAct_4 : (witModeAndPowerWritesAct4.dev.open0) ∧ (witModeAndPowerWritesAct4.dev.fld HM_FRIGHTS.FULL_RESET = 1) ∧
    (witModeAndPowerWritesAct4.dev.hi.key1 = false) ∧ ((ran (.sysResetWrite { fn := 0, off := 0x18, size := 4, val := 0xA5E8 })
    witModeAndPowerWritesAct4)
    = { witModeAndPowerWritesAct4.dev with cyc := (ran (.sysResetWrite { fn := 0, off := 0x18, size := 4, val := 0xA5E8 }) witModeAndPowerWritesAct4).cyc })
    := by decide +kernel
theorem test_ModeAndPowerWritesAct_5 : (witModeAndPowerWritesAct5.dev.open0) ∧ (witModeAndPowerWritesAct5.dev.fld HM_FRIGHTS.FULL_RESET = 1) ∧
    (witModeAndPowerWritesAct5.dev.hi.key1 = true) ∧ ((ran (.sysResetWrite { fn := 0, off := 0x18, size := 4, val := 0xA5E8 })
    witModeAndPowerWritesAct5).fld SYS_MODE.MODE = 0 ∧ (ran (.sysResetWrite { fn := 0, off := 0x18, size := 4, val := 0xA5E8 })
    witModeAndPowerWritesAct5).fld HM_SEAL.SEAL = 0 ∧ (ran (.sysResetWrite { fn := 0, off := 0x18, size := 4, val := 0xA5E8 })
    witModeAndPowerWritesAct5).fld SYS_RSTCAUSE.CAUSE = 3 ∧ (ran (.sysResetWrite { fn := 0, off := 0x18, size := 4, val := 0xA5E8 })
    witModeAndPowerWritesAct5).sys.powered = true ∧ (ran (.sysResetWrite { fn := 0, off := 0x18, size := 4, val := 0xA5E8 })
    witModeAndPowerWritesAct5).boot.loaded = false ∧ (ran (.sysResetWrite { fn := 0, off := 0x18, size := 4, val := 0xA5E8 })
    witModeAndPowerWritesAct5).mem = witModeAndPowerWritesAct5.dev.mem ∧ (ran (.sysResetWrite { fn := 0, off := 0x18, size := 4, val := 0xA5E8 })
    witModeAndPowerWritesAct5).fuse = witModeAndPowerWritesAct5.dev.fuse) := by decide +kernel
theorem test_ModeAndPowerWritesAct_6 : (witModeAndPowerWritesAct6.dev.barUp = true) ∧ (witModeAndPowerWritesAct6.dev.fld HM_SEAL.SEAL = 0) ∧
    (witModeAndPowerWritesAct6.dev.fld SYS_BOOT.STAGE = 3) ∧ ((witModeAndPowerWritesAct6.dev.func 0).bme = true) ∧
    ((ran (.pushGo { fn := 0, off := 0x50, size := 4, val := 0x80001000 }) witModeAndPowerWritesAct6).fld SYS_BOOT.STAGE = 4 ∧
    (ran (.pushGo { fn := 0, off := 0x50, size := 4, val := 0x80001000 }) witModeAndPowerWritesAct6).fld SYS_BOOT.SOURCE = 2 ∧
    (ran (.pushGo { fn := 0, off := 0x50, size := 4, val := 0x80001000 }) witModeAndPowerWritesAct6).fld SYS_PUSHLEN.LEN = 0x1000) :=
    by decide +kernel
theorem test_ModeAndPowerWritesAct_7 : (witModeAndPowerWritesAct7.dev.open0) ∧ (witModeAndPowerWritesAct7.dev.fld AX0_STATUS.STATE ≠ 1) ∧
    ((ran (.ax0HoldWrite { fn := 0, off := 0x8210, size := 4, val := ((0xABCD1234 : BitVec 32)).setWidth 64 })
    witModeAndPowerWritesAct7).fld AX0_HOLD.TIMEOUT_MS = ((0xABCD1234 : BitVec 32)).toNat % 65536 ∧
    (ran (.ax0HoldWrite { fn := 0, off := 0x8210, size := 4, val := ((0xABCD1234 : BitVec 32)).setWidth 64 })
    witModeAndPowerWritesAct7).fld AX0_HOLD.DRIFT_PPB = ((0xABCD1234 : BitVec 32)).toNat / 65536 ∧
    (ran (.ax0HoldWrite { fn := 0, off := 0x8210, size := 4, val := ((0xABCD1234 : BitVec 32)).setWidth 64 })
    witModeAndPowerWritesAct7).fld AX0_STATUS.STATE = witModeAndPowerWritesAct7.dev.fld AX0_STATUS.STATE ∧
    (ran (.ax0HoldWrite { fn := 0, off := 0x8210, size := 4, val := ((0xABCD1234 : BitVec 32)).setWidth 64 })
    witModeAndPowerWritesAct7).tb = witModeAndPowerWritesAct7.dev.tb) := by decide +kernel
def witUnitWritesAct1 : State := st (fun d => { (((ready d).setFld HM_SEAL.SEAL 1).setFld AX_CFG.TYPE 3 15) with boot := { loaded := true } })
def witUnitWritesAct2 : State := st (fun d => { ((((ready d).setFld HM_SEAL.SEAL 1).setFld WT_WHEEL.SLOTS 60 7).setFld WT_WHEEL.GAP_TEETH 2 7) with boot := { loaded := true } })
def witUnitWritesAct3 : State := st (fun d => ({ ((ready d).setFld HM_SEAL.SEAL 1) with boot := { loaded := true } } : Dev).setPin 127 { chLvl := some true })
def witUnitWritesAct4 : State := st (fun d => ({ ((ready d).setFld HM_SEAL.SEAL 1) with boot := { loaded := true } } : Dev).setPne 31 { tx := [1], rx := [2] })
def witUnitWritesAct5 : State := st (fun d => ({ ((ready d).setFld HM_SEAL.SEAL 1) with boot := { loaded := true } } : Dev).setPne 31 { tx := [1], rx := [2] })
def witUnitWritesAct6 : State := st (fun d => { ((((ready d).setFld HM_SEAL.SEAL 1).setFld SL_TGT.KIND 2 4095).setFld SL_TGT.GROUP 63 4095) with boot := { loaded := true } })
def witUnitWritesAct7 : State := st (fun d => ({ ((ready d).setFld HM_SEAL.SEAL 1) with boot := { loaded := true } } : Dev).setPend 4095 true)
def witUnitWritesAct8 : State := st (fun d => { ((ready d).setFld HM_SEAL.SEAL 1) with boot := { loaded := true } })
def witUnitWritesAct9 : State := st (fun d => { ((ready d).setFld HM_SEAL.SEAL 1) with boot := { loaded := true } })
def witUnitWritesAct10 : State := st (fun d => { ((((ready d).setFld HM_SEAL.SEAL 1).setFld HQ_STAT.QSTATE 0).setFld HQ_PI.PI 9) with boot := { loaded := true } })
def witUnitWritesAct11 : State := st (fun d => ({ (((ready d).setFld HM_SEAL.SEAL 1).setFld HQ_STAT.QSTATE 3) with boot := { loaded := true } } : Dev).setHq 0 { staged := [{ recs := [7] }] })
def witUnitWritesAct12 : State := st (fun d => { ((((ready d).setFld HM_SEAL.SEAL 1).setFld CQ_STAT.RSTATE 0).setFld CQ_STAT.RGEN 65535) with boot := { loaded := true } })
def witUnitWritesAct13 : State := st (fun d => { ((((ready d).setFld HM_SEAL.SEAL 1).setFld CQ_STAT.RSTATE 0).setFld HQ_STAT.QSTATE 0) with boot := { loaded := true } })
def witUnitWritesAct14 : State := st (fun d => { (((ready d).setFld HM_SEAL.SEAL 1).setFld BH_OWNER.CUR_KIND 2 5) with boot := { loaded := true } })
def witUnitWritesAct15 : State := st (fun d => { ((((ready d).setFld HM_SEAL.SEAL 1).setFld BH_SPARE.SPARE 0x80000000).setFld BH_STAT.BSTATE 5 31) with boot := { loaded := true } })
def witUnitWritesAct16 : State := st (fun d => { ((ready d).setFld HM_SEAL.SEAL 1) with boot := { loaded := true } })
def witUnitWritesAct17 : State := st (fun d => { (((((ready d).setFld HM_SEAL.SEAL 1).setFld AX_CFG.EN 1 15).setFld AX_CFG.TYPE 3 15).setFld CW_PUB.REFUSED 1 3) with boot := { loaded := true } })
def witUnitWritesAct18 : State := st (fun d => { (((ready d).setFld HM_SEAL.SEAL 1).setFld HL_LCFG.LEN 5 7) with boot := { loaded := true } })
theorem test_UnitWritesAct_1 : (witUnitWritesAct1.dev.open0) ∧ (witUnitWritesAct1.dev.fld AX_CFG.EN 15 = 0) ∧
    (witUnitWritesAct1.dev.fld AX_CFG.TYPE 15 = 3) ∧ ((ran (.axCfgWrite { fn := 0, off := 0x81E0, size := 4, val := 0x0B })
    witUnitWritesAct1).fld AX_CFG.EN 15 = 1 ∧ (ran (.axCfgWrite { fn := 0, off := 0x81E0, size := 4, val := 0x0B })
    witUnitWritesAct1).fld AX_CFG.TYPE 15 = 3 ∧ ((ran (.axCfgWrite { fn := 0, off := 0x81E0, size := 4, val := 0x0B })
    witUnitWritesAct1).axis 15).v = 0 ∧ ((ran (.axCfgWrite { fn := 0, off := 0x81E0, size := 4, val := 0x0B })
    witUnitWritesAct1).axis 15).pulses = 0 ∧ ((ran (.axCfgWrite { fn := 0, off := 0x81E0, size := 4, val := 0x0B })
    witUnitWritesAct1).axis 15).sched = (witUnitWritesAct1.dev.axis 15).sched) := by decide +kernel
theorem test_UnitWritesAct_2 : (witUnitWritesAct2.dev.open0) ∧ (witUnitWritesAct2.dev.fld WT_CFG.EN 7 = 0) ∧
    (witUnitWritesAct2.dev.wtCfgOk 7 = true) ∧ ((ran (.wtCfgWrite { fn := 0, off := 0x9E00, size := 4, val := 1 })
    witUnitWritesAct2).fld WT_CFG.EN 7 = 1 ∧ (ran (.wtCfgWrite { fn := 0, off := 0x9E00, size := 4, val := 1 })
    witUnitWritesAct2).fld WT_STATUS.STATE 7 = 1 ∧ (ran (.wtCfgWrite { fn := 0, off := 0x9E00, size := 4, val := 1 })
    witUnitWritesAct2).fld WT_STATUS.CFG_ERR 7 = 0 ∧ ((ran (.wtCfgWrite { fn := 0, off := 0x9E00, size := 4, val := 1 })
    witUnitWritesAct2).trkr 7).ps = 1 ∧ ((ran (.wtCfgWrite { fn := 0, off := 0x9E00, size := 4, val := 1 })
    witUnitWritesAct2).trkr 7).held = (witUnitWritesAct2.dev.trkr 7).held) := by decide +kernel
theorem test_UnitWritesAct_3 : (witUnitWritesAct3.dev.open0) ∧ (witUnitWritesAct3.dev.pinBusy 127 = false) ∧
    (witUnitWritesAct3.dev.fld TIO_PIN.IN_DIS 127 = 0) ∧ (witUnitWritesAct3.dev.fld TIO_PIN.OUT_SRC 127 ≠ 1) ∧
    ((ran (.tioPinWrite { fn := 0, off := 0x3D1FC, size := 4, val := 0x2A7FD }) witUnitWritesAct3).fld TIO_PIN.OUT_SRC 127 = 1 ∧
    (ran (.tioPinWrite { fn := 0, off := 0x3D1FC, size := 4, val := 0x2A7FD }) witUnitWritesAct3).fld TIO_PIN.OUT_CH 127 = 511 ∧
    (ran (.tioPinWrite { fn := 0, off := 0x3D1FC, size := 4, val := 0x2A7FD }) witUnitWritesAct3).fld TIO_PIN.FILT 127 = 21 ∧
    (ran (.tioPinWrite { fn := 0, off := 0x3D1FC, size := 4, val := 0x2A7FD }) witUnitWritesAct3).fld TIO_PIN.FUNIT 127 = 0 ∧
    (ran (.tioPinWrite { fn := 0, off := 0x3D1FC, size := 4, val := 0x2A7FD }) witUnitWritesAct3).fld TIO_PIN.IN_INV 127 = 0 ∧
    ((ran (.tioPinWrite { fn := 0, off := 0x3D1FC, size := 4, val := 0x2A7FD }) witUnitWritesAct3).pin 127).chLvl = none ∧
    ((ran (.tioPinWrite { fn := 0, off := 0x3D1FC, size := 4, val := 0x2A7FD }) witUnitWritesAct3).pin 127).ball = (witUnitWritesAct3.dev.pin
    127).ball) := by decide +kernel
theorem test_UnitWritesAct_4 : (witUnitWritesAct4.dev.open0) ∧ (((ran (.flushTx { fn := 0, off := 0x3CF90, size := 4, val := 0x10000 })
    witUnitWritesAct4).pne 31).tx = [] ∧ ((ran (.flushTx { fn := 0, off := 0x3CF90, size := 4, val := 0x10000 })
    witUnitWritesAct4).pne 31).rx = (witUnitWritesAct4.dev.pne 31).rx) := by decide +kernel
theorem test_UnitWritesAct_5 : (witUnitWritesAct5.dev.open0) ∧ (((ran (.flushRx { fn := 0, off := 0x3CF90, size := 4, val := 0x20000 })
    witUnitWritesAct5).pne 31).rx = [] ∧ ((ran (.flushRx { fn := 0, off := 0x3CF90, size := 4, val := 0x20000 })
    witUnitWritesAct5).pne 31).tx = (witUnitWritesAct5.dev.pne 31).tx) := by decide +kernel
theorem test_UnitWritesAct_6 : (witUnitWritesAct6.dev.open0) ∧ (witUnitWritesAct6.dev.fld SL_TGT.KIND 4095 = 2) ∧
    (witUnitWritesAct6.dev.fld SL_TGT.GROUP 4095 = 63) ∧ ((ran (.slTgtWrite { fn := 0, off := 0xEFFC, size := 4, val := 0x3F075D })
    witUnitWritesAct6).fld SL_TGT.KIND 4095 = 1 ∧ (ran (.slTgtWrite { fn := 0, off := 0xEFFC, size := 4, val := 0x3F075D })
    witUnitWritesAct6).fld SL_TGT.TARGET 4095 = 23 ∧ (ran (.slTgtWrite { fn := 0, off := 0xEFFC, size := 4, val := 0x3F075D })
    witUnitWritesAct6).fld SL_TGT.PRIO 4095 = 7 ∧ (ran (.slTgtWrite { fn := 0, off := 0xEFFC, size := 4, val := 0x3F075D })
    witUnitWritesAct6).fld SL_TGT.GROUP 4095 = 63 ∧ (ran (.slTgtWrite { fn := 0, off := 0xEFFC, size := 4, val := 0x3F075D })
    witUnitWritesAct6).sl = witUnitWritesAct6.dev.sl) := by decide +kernel
theorem test_UnitWritesAct_7 : (witUnitWritesAct7.dev.open0) ∧ (witUnitWritesAct7.dev.hasItem 4095 = false) ∧
    (witUnitWritesAct7.dev.pend 4095 = true) ∧ (witUnitWritesAct7.dev.cycle.w1c = []) ∧
    ((ran (.slPendClear { fn := 0, off := 0xA9FC, size := 4, val := 0x80000000 }) witUnitWritesAct7).pend 4095 = false ∧
    (ran (.slPendClear { fn := 0, off := 0xA9FC, size := 4, val := 0x80000000 }) witUnitWritesAct7).src 4095 = {} ∧
    (ran (.slPendClear { fn := 0, off := 0xA9FC, size := 4, val := 0x80000000 }) witUnitWritesAct7).pend 4094 = witUnitWritesAct7.dev.pend 4094)
    := by decide +kernel
theorem test_UnitWritesAct_8 : (witUnitWritesAct8.dev.open0) ∧ ((ran (.sluiceHoldWrite { fn := 0, off := 0xA000, size := 4, val := 1 })
    witUnitWritesAct8).fld SL_CTRL.HOLD = 1 ∧ (ran (.sluiceHoldWrite { fn := 0, off := 0xA000, size := 4, val := 1 })
    witUnitWritesAct8).sl = witUnitWritesAct8.dev.sl) := by decide +kernel
theorem test_UnitWritesAct_9 : (witUnitWritesAct9.dev.open0) ∧ ((witUnitWritesAct9.dev.grp 63).running = false) ∧
    ((ran (.holdoffWrite { fn := 0, off := 0xA1FC, size := 4, val := 777 }) witUnitWritesAct9).fld SL_GRP.HOLDOFF 63 = 777 ∧
    (ran (.holdoffWrite { fn := 0, off := 0xA1FC, size := 4, val := 777 }) witUnitWritesAct9).sl = witUnitWritesAct9.dev.sl) := by decide +kernel
theorem test_UnitWritesAct_10 : (witUnitWritesAct10.dev.open0) ∧ (witUnitWritesAct10.dev.queueOwner 0 = some 0) ∧
    (witUnitWritesAct10.dev.fld HQ_STAT.QSTATE 0 = 0) ∧ ((ran (.hqEnWrite { fn := 0, off := 0xF008, size := 4, val := 0x804 })
    witUnitWritesAct10).fld HQ_STAT.QSTATE 0 = 1 ∧ (ran (.hqEnWrite { fn := 0, off := 0xF008, size := 4, val := 0x804 })
    witUnitWritesAct10).fld HQ_CFG.EN 0 = 1 ∧ (ran (.hqEnWrite { fn := 0, off := 0xF008, size := 4, val := 0x804 })
    witUnitWritesAct10).fld HQ_CFG.SIZE 0 = 4 ∧ (ran (.hqEnWrite { fn := 0, off := 0xF008, size := 4, val := 0x804 })
    witUnitWritesAct10).fld HQ_PI.PI 0 = 0 ∧ (ran (.hqEnWrite { fn := 0, off := 0xF008, size := 4, val := 0x804 })
    witUnitWritesAct10).fld HQ_CI.CI 0 = 0) := by decide +kernel
theorem test_UnitWritesAct_11 : (witUnitWritesAct11.dev.open0) ∧ (witUnitWritesAct11.dev.queueOwner 0 = some 0) ∧
    (witUnitWritesAct11.dev.fld HQ_STAT.QSTATE 0 = 3) ∧ ((ran (.hqDiscard { fn := 0, off := 0xF008, size := 4, val := 0x1004 })
    witUnitWritesAct11).fld HQ_STAT.QSTATE 0 = 0 ∧ (ran (.hqDiscard { fn := 0, off := 0xF008, size := 4, val := 0x1004 })
    witUnitWritesAct11).fld HQ_CFG.EN 0 = 0 ∧ ((ran (.hqDiscard { fn := 0, off := 0xF008, size := 4, val := 0x1004 })
    witUnitWritesAct11).hq 0).staged = []) := by decide +kernel
theorem test_UnitWritesAct_12 : (witUnitWritesAct12.dev.open0) ∧ (witUnitWritesAct12.dev.ringOwner 0 = some 0) ∧
    (witUnitWritesAct12.dev.queueOwner 0 = some 0) ∧ (witUnitWritesAct12.dev.fld CQ_STAT.RSTATE 0 = 0) ∧
    (witUnitWritesAct12.dev.fld HQ_STAT.QSTATE 0 = 1) ∧ ((witUnitWritesAct12.dev.func 0).bme = true) ∧
    ((witUnitWritesAct12.dev.func 0).d3 = false) ∧ (witUnitWritesAct12.dev.ringHeld 0 = false) ∧
    ((ran (.cqEnWrite { fn := 0, off := 0x5008, size := 4, val := 0x24 }) witUnitWritesAct12).fld CQ_STAT.RSTATE 0 = 1 ∧
    (ran (.cqEnWrite { fn := 0, off := 0x5008, size := 4, val := 0x24 }) witUnitWritesAct12).fld CQ_CFG.EN 0 = 1 ∧
    (ran (.cqEnWrite { fn := 0, off := 0x5008, size := 4, val := 0x24 }) witUnitWritesAct12).fld CQ_CI.CI 0 = 0 ∧
    (ran (.cqEnWrite { fn := 0, off := 0x5008, size := 4, val := 0x24 }) witUnitWritesAct12).fld CQ_STAT.RGEN 0 = (if witUnitWritesAct12.dev.fld
    CQ_STAT.RGEN 0 = 0xFFFF then 1 else (witUnitWritesAct12.dev.fld CQ_STAT.RGEN 0 + 1) % 65536) ∧
    (ran (.cqEnWrite { fn := 0, off := 0x5008, size := 4, val := 0x24 }) witUnitWritesAct12).ring 0 = {}) := by decide +kernel
theorem test_UnitWritesAct_13 : (witUnitWritesAct13.dev.open0) ∧ (witUnitWritesAct13.dev.slabIdle 0 = true) ∧
    (((0xFFFFFFFFFFFFF000 : BitVec 64)).toNat % 4096 = 0) ∧
    ((ran (.hiSlabWrite { fn := 0, off := 0x4000, size := 8, val := ((0xFFFFFFFFFFFFF000 : BitVec 64)) })
    witUnitWritesAct13).fld HI_SLAB.BASE 0 = ((0xFFFFFFFFFFFFF000 : BitVec 64)).toNat / 4096 ∧
    (ran (.hiSlabWrite { fn := 0, off := 0x4000, size := 8, val := ((0xFFFFFFFFFFFFF000 : BitVec 64)) })
    witUnitWritesAct13).sl = witUnitWritesAct13.dev.sl) := by decide +kernel
theorem test_UnitWritesAct_14 : (witUnitWritesAct14.dev.open0) ∧ (witUnitWritesAct14.dev.ownerAllowed 5 0 23 = true) ∧
    (witUnitWritesAct14.dev.staging 5 = false) ∧ (witUnitWritesAct14.dev.fld BH_STAT.BSTATE 5 = 0) ∧
    ((ran (.bhOwnerWrite { fn := 0, off := 0x3F0A0, size := 4, val := 0x5C5C }) witUnitWritesAct14).fld BH_OWNER.CUR_KIND 5 = 0 ∧
    (ran (.bhOwnerWrite { fn := 0, off := 0x3F0A0, size := 4, val := 0x5C5C }) witUnitWritesAct14).fld BH_OWNER.CUR_INDEX 5 = 23 ∧
    (ran (.bhOwnerWrite { fn := 0, off := 0x3F0A0, size := 4, val := 0x5C5C }) witUnitWritesAct14).fld BH_OWNER.HOME_KIND 5 = 0 ∧
    (ran (.bhOwnerWrite { fn := 0, off := 0x3F0A0, size := 4, val := 0x5C5C }) witUnitWritesAct14).fld BH_OWNER.HOME_INDEX 5 = 23 ∧
    (ran (.bhOwnerWrite { fn := 0, off := 0x3F0A0, size := 4, val := 0x5C5C }) witUnitWritesAct14).mem = witUnitWritesAct14.dev.mem ∧
    (ran (.bhOwnerWrite { fn := 0, off := 0x3F0A0, size := 4, val := 0x5C5C }) witUnitWritesAct14).dr.loan = witUnitWritesAct14.dev.dr.loan) :=
    by decide +kernel
theorem test_UnitWritesAct_15 : (witUnitWritesAct15.dev.open0) ∧ (witUnitWritesAct15.dev.fld BH_STAT.BSTATE 5 = 0) ∧
    (witUnitWritesAct15.dev.dr.reloc = none) ∧ (witUnitWritesAct15.dev.dr.loan = none) ∧ (witUnitWritesAct15.dev.spareFor 5 = some (31)) ∧
    ((ran (.relocWrite { fn := 0, off := 0x45010, size := 4, val := 0x25 }) witUnitWritesAct15).fld BH_STAT.BSTATE 5 = 4 ∧
    (ran (.relocWrite { fn := 0, off := 0x45010, size := 4, val := 0x25 }) witUnitWritesAct15).dr.reloc = some (5, (31)) ∧
    (ran (.relocWrite { fn := 0, off := 0x45010, size := 4, val := 0x25 }) witUnitWritesAct15).fld DR_STAT.RELOCATING = 1 ∧
    (ran (.relocWrite { fn := 0, off := 0x45010, size := 4, val := 0x25 }) witUnitWritesAct15).fld DR_STAT.RELOC_SRC = 5 ∧
    (ran (.relocWrite { fn := 0, off := 0x45010, size := 4, val := 0x25 }) witUnitWritesAct15).mem = witUnitWritesAct15.dev.mem) :=
    by decide +kernel
theorem test_UnitWritesAct_16 : (witUnitWritesAct16.dev.open0) ∧ (witUnitWritesAct16.dev.fld BH_STAT.BSTATE 5 = 0) ∧
    (witUnitWritesAct16.dev.dr.reloc = none) ∧ (witUnitWritesAct16.dev.spareFor 5 = none) ∧
    ((ran (.relocWrite { fn := 0, off := 0x45010, size := 4, val := 0x25 }) witUnitWritesAct16).fld SYS_FAULT.BERTH_EXHAUSTED = 1 ∧
    (ran (.relocWrite { fn := 0, off := 0x45010, size := 4, val := 0x25 }) witUnitWritesAct16).dr = witUnitWritesAct16.dev.dr ∧
    (ran (.relocWrite { fn := 0, off := 0x45010, size := 4, val := 0x25 }) witUnitWritesAct16).fld BH_STAT.BSTATE 5 = 0) := by decide +kernel
theorem test_UnitWritesAct_17 : (witUnitWritesAct17.dev.open0) ∧ (witUnitWritesAct17.dev.fld AX_CFG.EN 15 = 1) ∧
    (witUnitWritesAct17.dev.fld AX_CFG.TYPE 15 = 3) ∧ ((ran (.cwPubWrite { fn := 0, off := 0x40218, size := 4, val := 0x1F })
    witUnitWritesAct17).fld CW_PUB.AXIS 3 = 15 ∧ (ran (.cwPubWrite { fn := 0, off := 0x40218, size := 4, val := 0x1F })
    witUnitWritesAct17).fld CW_PUB.EN 3 = 1 ∧ (ran (.cwPubWrite { fn := 0, off := 0x40218, size := 4, val := 0x1F })
    witUnitWritesAct17).fld CW_PUB.REFUSED 3 = 0 ∧ (ran (.cwPubWrite { fn := 0, off := 0x40218, size := 4, val := 0x1F })
    witUnitWritesAct17).cw = witUnitWritesAct17.dev.cw) := by decide +kernel
theorem test_UnitWritesAct_18 : (witUnitWritesAct18.dev.open0) ∧ (witUnitWritesAct18.dev.fld HL_LCFG.EN 7 = 0) ∧
    ((ran (.hlLcfgWrite { fn := 0, off := 0x44078, size := 8, val := 0x012300000000 }) witUnitWritesAct18).fld HL_LCFG.HOLD_US 7 = 0x123 ∧
    (ran (.hlLcfgWrite { fn := 0, off := 0x44078, size := 8, val := 0x012300000000 }) witUnitWritesAct18).fld HL_LCFG.LEN 7 = 0 ∧
    (ran (.hlLcfgWrite { fn := 0, off := 0x44078, size := 8, val := 0x012300000000 }) witUnitWritesAct18).fld HL_LCFG.EN 7 = 0 ∧
    (ran (.hlLcfgWrite { fn := 0, off := 0x44078, size := 8, val := 0x012300000000 }) witUnitWritesAct18).lg = witUnitWritesAct18.dev.lg) :=
    by decide +kernel
def witUnnamedOffsetsAreInert2 : State := st (fun d => { { ((ready d).setFld HM_SEAL.SEAL 1) with boot := { loaded := true } } with boot := { loaded := true }, hi := { lastRead := 7 } })
def witUnnamedOffsetsAreInert3 : State := st (fun d => { ((ready d).setFld HM_SEAL.SEAL 1) with boot := { loaded := true } })
theorem test_UnnamedOffsetsAreInert_1 : regAt 0x18800 = none ∧ regAt 0x3BFFF = none ∧ regAt 0xFFFFF = none ∧ (regAt 0x45010).isSome = true :=
    by decide +kernel
theorem test_UnnamedOffsetsAreInert_2 : (regAt (0x1F000) = none) ∧ ((0x1F000) < 0x100000) ∧ (((8) = 4 ∨ (8) = 8 ∧ regAt ((0x1F000) + 4) = none)) ∧
    ((ran (.rcRead (0) (0x1F000) (8)) witUnnamedOffsetsAreInert2)
    = { witUnnamedOffsetsAreInert2.dev with hi := { witUnnamedOffsetsAreInert2.dev.hi with lastRead := 0 } }) := by decide +kernel
theorem test_UnnamedOffsetsAreInert_3 : (witUnnamedOffsetsAreInert3.dev.barUp = true) ∧
    (({ fn := 0, off := 0x1F000, size := 8, val := 7 } : BarAcc).fn < 8 ∧
    witUnnamedOffsetsAreInert3.dev.fnOn ({ fn := 0, off := 0x1F000, size := 8, val := 7 } : BarAcc).fn = true) ∧
    (({ fn := 0, off := 0x1F000, size := 8, val := 7 } : BarAcc).off < 0x100000) ∧
    (regAt ({ fn := 0, off := 0x1F000, size := 8, val := 7 } : BarAcc).off = none) ∧
    ((({ fn := 0, off := 0x1F000, size := 8, val := 7 } : BarAcc).size = 8 →
    regAt (({ fn := 0, off := 0x1F000, size := 8, val := 7 } : BarAcc).off + 4) = none)) ∧
    ((ran (.regWrite ({ fn := 0, off := 0x1F000, size := 8, val := 7 } : BarAcc)) witUnnamedOffsetsAreInert3)
    = { witUnnamedOffsetsAreInert3.dev with hi := { witUnnamedOffsetsAreInert3.dev.hi with key1 := false }, cyc := (ran (.regWrite ({ fn := 0, off := 0x1F000, size := 8, val := 7 } : BarAcc)) witUnnamedOffsetsAreInert3).cyc })
    := by decide +kernel
def witReadsReturnTheRegister1 : State := st (fun d => { (((ready d).setFld HM_SEAL.SEAL 1).setFld AX0_HOLD.TIMEOUT_MS 77) with boot := { loaded := true } })
def witReadsReturnTheRegister2 : State := st (fun d => { { (((ready d).setFld HM_SEAL.SEAL 1).setFld AX0_HOLD.TIMEOUT_MS 77) with boot := { loaded := true } } with boot := { loaded := true }, cyc := { wr := [(1, 0x8210, 5)] } })
def witReadsReturnTheRegister3 : State := st (fun d => { ((((ready d).setFld HM_SEAL.SEAL 1).setFld WT_STATUS.LOSS_CNT 9 7).setFld WT_STATUS.STATE 3 7) with boot := { loaded := true } })
def witReadsReturnTheRegister4 : State := st (fun d => { ((ready d).setFld HM_SEAL.SEAL 1) with boot := { loaded := true } })
theorem test_ReadsReturnTheRegister_1 : (witReadsReturnTheRegister1.dev.barUp = true) ∧ ((0) < 8 ∧ witReadsReturnTheRegister1.dev.fnOn (0) = true)
    ∧ ((4) = 4 ∨ (4) = 8) ∧ (served (0x8210) (4) = true) ∧ (witReadsReturnTheRegister1.dev.mayRead (0) (0x8210) = true) ∧
    (witReadsReturnTheRegister1.dev.cycle.rc = []) ∧ (witReadsReturnTheRegister1.dev.cycle.wr = []) ∧ ((ran (.rcRead (0) (0x8210) (4))
    witReadsReturnTheRegister1).hi = { witReadsReturnTheRegister1.dev.hi with lastRead := witReadsReturnTheRegister1.dev.readBar (0x8210) (4) } ∧
    (ran (.rcRead (0) (0x8210) (4)) witReadsReturnTheRegister1).sl = witReadsReturnTheRegister1.dev.sl ∧ (ran (.rcRead (0) (0x8210) (4))
    witReadsReturnTheRegister1).qy = witReadsReturnTheRegister1.dev.qy) := by decide +kernel
theorem test_ReadsReturnTheRegister_2 : (witReadsReturnTheRegister2.dev.barUp = true) ∧ ((0) < 8 ∧ witReadsReturnTheRegister2.dev.fnOn (0) = true)
    ∧ (served (0x8210) 4 = true) ∧ (witReadsReturnTheRegister2.dev.mayRead (0) (0x8210) = true) ∧ (regAt (0x8210) ≠ none) ∧
    (witReadsReturnTheRegister2.dev.cycle.wr.find? (fun x => x.1 != (0) && x.2.1 == (0x8210)) = some (((1, 0x8210, 5) : Nat × Nat × Nat))) ∧
    ((ran (.rcRead (0) (0x8210) 4)
    witReadsReturnTheRegister2).hi = { witReadsReturnTheRegister2.dev.hi with lastRead := (((1, 0x8210, 5) : Nat × Nat × Nat)).2.2 }) :=
    by decide +kernel
theorem test_ReadsReturnTheRegister_3 : (witReadsReturnTheRegister3.dev.open0) ∧ (witReadsReturnTheRegister3.dev.cycle.rc = []) ∧
    (witReadsReturnTheRegister3.dev.cycle.wr = []) ∧ ((ran (.rcRead 0 0x9E40 4) witReadsReturnTheRegister3).fld WT_STATUS.LOSS_CNT 7 = 0 ∧
    (ran (.rcRead 0 0x9E40 4) witReadsReturnTheRegister3).fld WT_STATUS.REJ_CNT 7 = 0 ∧ (ran (.rcRead 0 0x9E40 4)
    witReadsReturnTheRegister3).fld WT_STATUS.PH_MIS_CNT 7 = 0 ∧ (ran (.rcRead 0 0x9E40 4)
    witReadsReturnTheRegister3).fld WT_STATUS.STATE 7 = witReadsReturnTheRegister3.dev.fld WT_STATUS.STATE 7 ∧ (ran (.rcRead 0 0x9E40 4)
    witReadsReturnTheRegister3).hi.lastRead = witReadsReturnTheRegister3.dev.word32 0x9E40) := by decide +kernel
theorem test_ReadsReturnTheRegister_4 : (witReadsReturnTheRegister4.dev.barUp = true) ∧ ((0) < 8 ∧ witReadsReturnTheRegister4.dev.fnOn (0) = true)
    ∧ ((4) = 4 ∨ (4) = 8) ∧ ((0x9E42) < 0x100000) ∧ ((served (0x9E42) (4) = false ∨ witReadsReturnTheRegister4.dev.mayRead (0) (0x9E42) = false))
    ∧ ((ran (.rcRead (0) (0x9E42) (4)) witReadsReturnTheRegister4)
    = { witReadsReturnTheRegister4.dev with hi := { witReadsReturnTheRegister4.dev.hi with lastRead := 0 } }) := by decide +kernel
def witAxisRegistersTakeEffectWhileDisabled1 : State := st (fun d => { ((ready d).setFld HM_SEAL.SEAL 1) with boot := { loaded := true } })
def witAxisRegistersTakeEffectWhileDisabled2 : State := st (fun d => { ((ready d).setFld HM_SEAL.SEAL 1) with boot := { loaded := true } })
def witAxisRegistersTakeEffectWhileDisabled3 : State := st (fun d => { ((ready d).setFld HM_SEAL.SEAL 1) with boot := { loaded := true } })
def witAxisRegistersTakeEffectWhileDisabled4 : State := st (fun d => { ((ready d).setFld HM_SEAL.SEAL 1) with boot := { loaded := true } })
def witAxisRegistersTakeEffectWhileDisabled5 : State := st (fun d => { ((ready d).setFld HM_SEAL.SEAL 1) with boot := { loaded := true } })
def witAxisRegistersTakeEffectWhileDisabled6 : State := st (fun d => { (((ready d).setFld HM_SEAL.SEAL 1).setFld AX_CFG.EN 1 15) with boot := { loaded := true } })
def witAxisRegistersTakeEffectWhileDisabled7 : State := st (fun d => { ((ready d).setFld HM_SEAL.SEAL 1) with boot := { loaded := true } })
theorem test_AxisRegistersTakeEffectWhileDisabled_1 : (witAxisRegistersTakeEffectWhileDisabled1.dev.open0) ∧ (0 < (15) ∧ (15) < 16) ∧
    (witAxisRegistersTakeEffectWhileDisabled1.dev.fld AX_CFG.EN (15) = 0) ∧ (((0x3FFFFFF3 : BitVec 32)).getLsbD 3 = false) ∧
    (((0x3FFFFFF3 : BitVec 32)).toNat % 8 ≠ 0 ∧ ((0x3FFFFFF3 : BitVec 32)).toNat % 8 ≠ 7) ∧
    ((ran (.axCfgWrite { fn := 0, off := 0x8000 + 0x20 * (15), size := 4, val := ((0x3FFFFFF3 : BitVec 32)).setWidth 64 })
    witAxisRegistersTakeEffectWhileDisabled1).fld AX_CFG.TYPE (15) = bits ((0x3FFFFFF3 : BitVec 32)) 0 3 ∧
    (ran (.axCfgWrite { fn := 0, off := 0x8000 + 0x20 * (15), size := 4, val := ((0x3FFFFFF3 : BitVec 32)).setWidth 64 })
    witAxisRegistersTakeEffectWhileDisabled1).fld AX_CFG.SRC (15) = bits ((0x3FFFFFF3 : BitVec 32)) 4 12 ∧
    (ran (.axCfgWrite { fn := 0, off := 0x8000 + 0x20 * (15), size := 4, val := ((0x3FFFFFF3 : BitVec 32)).setWidth 64 })
    witAxisRegistersTakeEffectWhileDisabled1).fld AX_CFG.SRC_IS_PIN (15) = bits ((0x3FFFFFF3 : BitVec 32)) 16 1 ∧
    (ran (.axCfgWrite { fn := 0, off := 0x8000 + 0x20 * (15), size := 4, val := ((0x3FFFFFF3 : BitVec 32)).setWidth 64 })
    witAxisRegistersTakeEffectWhileDisabled1).fld AX_CFG.EDGE (15) = bits ((0x3FFFFFF3 : BitVec 32)) 17 2 ∧
    (ran (.axCfgWrite { fn := 0, off := 0x8000 + 0x20 * (15), size := 4, val := ((0x3FFFFFF3 : BitVec 32)).setWidth 64 })
    witAxisRegistersTakeEffectWhileDisabled1).fld AX_CFG.DMODE (15) = bits ((0x3FFFFFF3 : BitVec 32)) 19 1 ∧
    (ran (.axCfgWrite { fn := 0, off := 0x8000 + 0x20 * (15), size := 4, val := ((0x3FFFFFF3 : BitVec 32)).setWidth 64 })
    witAxisRegistersTakeEffectWhileDisabled1).fld AX_CFG.INTERP (15) = bits ((0x3FFFFFF3 : BitVec 32)) 20 1 ∧
    (ran (.axCfgWrite { fn := 0, off := 0x8000 + 0x20 * (15), size := 4, val := ((0x3FFFFFF3 : BitVec 32)).setWidth 64 })
    witAxisRegistersTakeEffectWhileDisabled1).fld AX_CFG.DIR_EN (15) = bits ((0x3FFFFFF3 : BitVec 32)) 21 1 ∧
    (ran (.axCfgWrite { fn := 0, off := 0x8000 + 0x20 * (15), size := 4, val := ((0x3FFFFFF3 : BitVec 32)).setWidth 64 })
    witAxisRegistersTakeEffectWhileDisabled1).fld AX_CFG.DIR_POL (15) = bits ((0x3FFFFFF3 : BitVec 32)) 22 1 ∧
    (ran (.axCfgWrite { fn := 0, off := 0x8000 + 0x20 * (15), size := 4, val := ((0x3FFFFFF3 : BitVec 32)).setWidth 64 })
    witAxisRegistersTakeEffectWhileDisabled1).fld AX_CFG.DIR_PIN (15) = bits ((0x3FFFFFF3 : BitVec 32)) 23 7 ∧
    (ran (.axCfgWrite { fn := 0, off := 0x8000 + 0x20 * (15), size := 4, val := ((0x3FFFFFF3 : BitVec 32)).setWidth 64 })
    witAxisRegistersTakeEffectWhileDisabled1).fld AX_CFG.EN (15) = 0) := by decide +kernel
theorem test_AxisRegistersTakeEffectWhileDisabled_2 : (witAxisRegistersTakeEffectWhileDisabled2.dev.open0) ∧ (0 < (15) ∧ (15) < 16) ∧
    (witAxisRegistersTakeEffectWhileDisabled2.dev.fld AX_CFG.EN (15) = 0) ∧
    ((ran (.axCfgWrite { fn := 0, off := 0x8008 + 0x20 * (15), size := 8, val := ((0xFEDCBA9876543210 : BitVec 64)) })
    witAxisRegistersTakeEffectWhileDisabled2).fld AX_PARA.PARA (15) = ((0xFEDCBA9876543210 : BitVec 64)).toNat % 2 ^ 48) := by decide +kernel
theorem test_AxisRegistersTakeEffectWhileDisabled_3 : (witAxisRegistersTakeEffectWhileDisabled3.dev.open0) ∧ (0 < (15) ∧ (15) < 16) ∧
    (witAxisRegistersTakeEffectWhileDisabled3.dev.fld AX_CFG.EN (15) = 0) ∧
    ((ran (.axCfgWrite { fn := 0, off := 0x8010 + 0x20 * (15), size := 8, val := ((0xFEDCBA9876543210 : BitVec 64)) })
    witAxisRegistersTakeEffectWhileDisabled3).fld AX_PARB.PARB (15) = ((0xFEDCBA9876543210 : BitVec 64)).toNat) := by decide +kernel
theorem test_AxisRegistersTakeEffectWhileDisabled_4 : (witAxisRegistersTakeEffectWhileDisabled4.dev.open0) ∧ (0 < (15) ∧ (15) < 16) ∧
    (witAxisRegistersTakeEffectWhileDisabled4.dev.fld AX_CFG.EN (15) = 0) ∧
    ((ran (.axCfgWrite { fn := 0, off := 0x8018 + 0x20 * (15), size := 8, val := ((0xFEDCBA9876543210 : BitVec 64)) })
    witAxisRegistersTakeEffectWhileDisabled4).fld AX_PARC.PARC (15) = ((0xFEDCBA9876543210 : BitVec 64)).toNat) := by decide +kernel
theorem test_AxisRegistersTakeEffectWhileDisabled_5 : (witAxisRegistersTakeEffectWhileDisabled5.dev.open0) ∧ (0 < (15) ∧ (15) < 16) ∧
    (witAxisRegistersTakeEffectWhileDisabled5.dev.fld AX_CFG.EN (15) = 0) ∧ (((0xFFFFFFFF : BitVec 32)).getLsbD 3 = true) ∧
    ((ran (.axCfgWrite { fn := 0, off := 0x8000 + 0x20 * (15), size := 4, val := ((0xFFFFFFFF : BitVec 32)).setWidth 64 })
    witAxisRegistersTakeEffectWhileDisabled5).regs = (witAxisRegistersTakeEffectWhileDisabled5.dev.setFld AX_CFG.EN 1 (15)).regs) :=
    by decide +kernel
theorem test_AxisRegistersTakeEffectWhileDisabled_6 : (witAxisRegistersTakeEffectWhileDisabled6.dev.open0) ∧ (0 < (15) ∧ (15) < 16) ∧
    (witAxisRegistersTakeEffectWhileDisabled6.dev.fld AX_CFG.EN (15) = 1) ∧ (0x8000 + 0x20 * (15)
    ≤ ({ fn := 0, off := 0x81E0, size := 4, val := 0 } : BarAcc).off ∧ ({ fn := 0, off := 0x81E0, size := 4, val := 0 } : BarAcc).off
    < 0x8020 + 0x20 * (15)) ∧ ((ran (.regWrite ({ fn := 0, off := 0x81E0, size := 4, val := 0 } : BarAcc))
    witAxisRegistersTakeEffectWhileDisabled6).regs = witAxisRegistersTakeEffectWhileDisabled6.dev.regs ∧
    (ran (.regWrite ({ fn := 0, off := 0x81E0, size := 4, val := 0 } : BarAcc))
    witAxisRegistersTakeEffectWhileDisabled6).axes = witAxisRegistersTakeEffectWhileDisabled6.dev.axes) := by decide +kernel
theorem test_AxisRegistersTakeEffectWhileDisabled_7 : (witAxisRegistersTakeEffectWhileDisabled7.dev.open0) ∧ (0 < (15) ∧ (15) < 16) ∧
    (({ fn := 7, off := 0x81E0, size := 4, val := 1 } : BarAcc).fn ≠ 0) ∧ (0x8000 + 0x20 * (15)
    ≤ ({ fn := 7, off := 0x81E0, size := 4, val := 1 } : BarAcc).off ∧ ({ fn := 7, off := 0x81E0, size := 4, val := 1 } : BarAcc).off
    < 0x8020 + 0x20 * (15)) ∧ ((ran (.regWrite ({ fn := 7, off := 0x81E0, size := 4, val := 1 } : BarAcc))
    witAxisRegistersTakeEffectWhileDisabled7).regs = witAxisRegistersTakeEffectWhileDisabled7.dev.regs ∧
    (ran (.regWrite ({ fn := 7, off := 0x81E0, size := 4, val := 1 } : BarAcc))
    witAxisRegistersTakeEffectWhileDisabled7).axes = witAxisRegistersTakeEffectWhileDisabled7.dev.axes) := by decide +kernel
theorem test_AddressesWrap_1 : ltAdd 0xC00000000000003C 6 8 = 0xC000000000000004 := by decide +kernel
def witReadsOfTheHostReturn1 : State := st (fun d => { ready d with hi := { (ready d).hi with uid := 3 }, boot := { loaded := true } })
def witReadsOfTheHostReturn2 : State := st (fun d => { ready d with hi := { (ready d).hi with reads := [{ kind := .poll, fn := 0, addr := 0, len := 8, at_ := 0 }] }, boot := { loaded := true } })
def witReadsOfTheHostReturn3 : State := st (fun d => { (ready d).setFld CQ_CFG.SIZE 4 0 with hi := { ((ready d).setFld CQ_CFG.SIZE 4 0).hi with reads := [{ kind := .index 0, fn := 0, addr := 0x100, len := 64, at_ := 0 }] }, boot := { loaded := true } })
def witReadsOfTheHostReturn4 : State := st (fun d => { (ready d).setFld HQ_PI.PI 9 0 with hi := { ((ready d).setFld HQ_PI.PI 9 0).hi with reads := [{ kind := .index 4, fn := 0, addr := 0x200, len := 64, at_ := 0 }] }, boot := { loaded := true } })
def witReadsOfTheHostReturn5 : State := st (fun d => { (ready d).setFld CQ_CFG.SIZE 4 0 with hi := { ((ready d).setFld CQ_CFG.SIZE 4 0).hi with reads := [{ kind := .entries 0 0 1, fn := 0, addr := 0, len := 64, at_ := 0 }], rings := [(0, { pi := 1 })] }, boot := { loaded := true } })
def witReadsOfTheHostReturn6 : State := st (fun d => { ready d with hi := { (ready d).hi with rings := [(0, { wrong := 15 })] }, boot := { loaded := true } })
def witReadsOfTheHostReturn7 : State := st (fun d => { ready d with hi := { (ready d).hi with rings := [(0, { wrong := 16 })] }, boot := { loaded := true } })
def witReadsOfTheHostReturn8 : State := st (fun d => { ready d with hi := { (ready d).hi with rtts := [(0, 5)] }, boot := { loaded := true } })
def witReadsOfTheHostReturn9 : State := st (fun d => { ready d with hi := { (ready d).hi with uid := 3 }, boot := { loaded := true } })
def witReadsOfTheHostReturn10 : State := st (fun d => { ready d with hi := { (ready d).hi with reads := [{ kind := .wrProbe, fn := 0, addr := 0, len := 0, at_ := 0 }], wrts := [(0, 5)] }, boot := { loaded := true } })
theorem test_ReadsOfTheHostReturn_1 : (witReadsOfTheHostReturn1.dev.mastering (0) = true) ∧ (witReadsOfTheHostReturn1.dev.slabUsed (0) = true) ∧
    (witReadsOfTheHostReturn1.dev.pollsOut (0) < witReadsOfTheHostReturn1.dev.pollsMax (0)) ∧ ((ran (.pollIssue (0)) witReadsOfTheHostReturn1)
    = { witReadsOfTheHostReturn1.dev with hi := { witReadsOfTheHostReturn1.dev.hi with reads := witReadsOfTheHostReturn1.dev.hi.reads ++ [{ kind := .poll, fn := (0), addr := witReadsOfTheHostReturn1.dev.fld HI_SLAB.BASE (0) * 4096, len := 8, at_ := witReadsOfTheHostReturn1.dev.ecNs }], l1 := false, ownRead := some witReadsOfTheHostReturn1.dev.ecNs } })
    := by decide +kernel
theorem test_ReadsOfTheHostReturn_2 : (witReadsOfTheHostReturn2.dev.hi.reads.find? (fun x => x.fn == (0)
    && (x.kind == .poll || x.kind == .rttProbe)) = some ({ kind := .poll, fn := 0, addr := 0, len := 8, at_ := 0 } : Read)) ∧
    (({ kind := .poll, fn := 0, addr := 0, len := 8, at_ := 0 } : Read).kind = .poll) ∧ (witReadsOfTheHostReturn2.dev.mastering (0) = true) ∧
    (witReadsOfTheHostReturn2.dev.fld HI_SUM.SUMMARY (0) ≠ ((5 : BitVec 64)).toNat) ∧ ((ran (.pollResponse (0) ((5 : BitVec 64)))
    witReadsOfTheHostReturn2).fld HI_SUM.SUMMARY (0) = ((5 : BitVec 64)).toNat ∧ (ran (.pollResponse (0) ((5 : BitVec 64)))
    witReadsOfTheHostReturn2).hi.reads.map (fun x => (x.kind, x.addr)) = [(.index 0, 0x100), (.index 4, 0x200), (.index 8, 0x300)]) :=
    by decide +kernel
theorem test_ReadsOfTheHostReturn_3 : (witReadsOfTheHostReturn3.dev.hi.reads.find? (fun x => x.fn == (0) && x.kind == .index ((0) / 16))
    = some ({ kind := .index 0, fn := 0, addr := 0x100, len := 64, at_ := 0 } : Read)) ∧ ((0) < 64) ∧ (witReadsOfTheHostReturn3.dev.ringOwner (0)
    = some (0)) ∧ (witReadsOfTheHostReturn3.dev.fld CQ_STAT.RSTATE (0) = 1) ∧ (witReadsOfTheHostReturn3.dev.ringLevel (0)
    ≤ (bits ((3 : BitVec 512)) (32 * ((0) % 16)) 32 + 2 ^ 32 - witReadsOfTheHostReturn3.dev.fld CQ_CI.CI (0)) % 2 ^ 32) ∧
    ((bits ((3 : BitVec 512)) (32 * ((0) % 16)) 32 + 2 ^ 32 - witReadsOfTheHostReturn3.dev.fld CQ_CI.CI (0))
    % 2 ^ 32 ≤ witReadsOfTheHostReturn3.dev.ringSize (0)) ∧ ((witReadsOfTheHostReturn3.dev.ring (0)).prefetch = []) ∧ (((ran (.indexLineDone (0)
    ((0) / 16) ((3 : BitVec 512))) witReadsOfTheHostReturn3).ring (0)).pi = bits ((3 : BitVec 512)) (32 * ((0) % 16)) 32) := by decide +kernel
theorem test_ReadsOfTheHostReturn_4 : (witReadsOfTheHostReturn4.dev.hi.reads.find? (fun x => x.fn == (0) && x.kind == .index (4 + (0) / 16))
    = some ({ kind := .index 4, fn := 0, addr := 0x200, len := 64, at_ := 0 } : Read)) ∧ ((0) < 64) ∧ (witReadsOfTheHostReturn4.dev.queueOwner (0)
    = some (0)) ∧ (witReadsOfTheHostReturn4.dev.fld HQ_STAT.QSTATE (0) = 1) ∧ ((witReadsOfTheHostReturn4.dev.fld HQ_PI.PI (0)
    + 2 ^ 32 - bits ((8 : BitVec 512)) (32 * ((0) % 16)) 32) % 2 ^ 32 < witReadsOfTheHostReturn4.dev.hqLevel (0)) ∧ ((ran (.indexLineDone (0)
    (4 + (0) / 16) ((8 : BitVec 512))) witReadsOfTheHostReturn4).fld HQ_CI.CI (0) = bits ((8 : BitVec 512)) (32 * ((0) % 16)) 32 ∧
    (ran (.indexLineDone (0) (4 + (0) / 16) ((8 : BitVec 512))) witReadsOfTheHostReturn4).fld HQ_PI.PI (0)
    = witReadsOfTheHostReturn4.dev.fld HQ_PI.PI (0)) := by decide +kernel
theorem test_ReadsOfTheHostReturn_5 : (witReadsOfTheHostReturn5.dev.hi.reads.find? (Read.ofEntry (0)
    (witReadsOfTheHostReturn5.dev.fld CQ_CI.CI (0))) = some ({ kind := .entries 0 0 1, fn := 0, addr := 0, len := 64, at_ := 0 } : Read)) ∧
    (({ kind := .entries 0 0 1, fn := 0, addr := 0, len := 64, at_ := 0 } : Read).len = 64) ∧ ((0) < 64) ∧
    (witReadsOfTheHostReturn5.dev.ringOwner (0) = some (0)) ∧ (witReadsOfTheHostReturn5.dev.fld CQ_STAT.RSTATE (0) = 1) ∧
    ((witReadsOfTheHostReturn5.dev.ring (0)).wrong = 0) ∧ (witReadsOfTheHostReturn5.dev.ringLevel (0) = 1) ∧
    ((((2 ^ 15 : Entry)).getLsbD 15).toNat = witReadsOfTheHostReturn5.dev.ringPhase (0)) ∧ (((ran (.entryFetchDone (0)
    (witReadsOfTheHostReturn5.dev.fld CQ_CI.CI (0)) [((2 ^ 15 : Entry))])
    witReadsOfTheHostReturn5).ring (0)).fetched = (witReadsOfTheHostReturn5.dev.ring
    (0)).fetched ++ [{ w := ((2 ^ 15 : Entry)), rgen := witReadsOfTheHostReturn5.dev.fld CQ_STAT.RGEN (0), torn := false }] ∧
    (ran (.entryFetchDone (0) (witReadsOfTheHostReturn5.dev.fld CQ_CI.CI (0)) [((2 ^ 15 : Entry))]) witReadsOfTheHostReturn5).fld CQ_CI.CI (0)
    = (witReadsOfTheHostReturn5.dev.fld CQ_CI.CI (0) + 1) % 2 ^ 32 ∧ .write (0) (witReadsOfTheHostReturn5.dev.slab (0) + 0x800 + 4 * (0))
    (bytesOf ((witReadsOfTheHostReturn5.dev.fld CQ_CI.CI (0) + 1) % 2 ^ 32) 4) ∈ (ran (.entryFetchDone (0)
    (witReadsOfTheHostReturn5.dev.fld CQ_CI.CI (0)) [((2 ^ 15 : Entry))]) witReadsOfTheHostReturn5).hi.posted) := by decide +kernel
theorem test_ReadsOfTheHostReturn_6 : ((0) < 64) ∧ ((witReadsOfTheHostReturn6.dev.ring (0)).wrong ≠ 0) ∧
    (witReadsOfTheHostReturn6.dev.fld CQ_STAT.RSTATE (0) = 1) ∧ ((((0 : Entry)).getLsbD 15).toNat ≠ witReadsOfTheHostReturn6.dev.ringPhase (0)) ∧
    ((witReadsOfTheHostReturn6.dev.ring (0)).wrong < 16) ∧ ((ran (.phaseReread (0) ((0 : Entry))) witReadsOfTheHostReturn6).ring (0)
    = { witReadsOfTheHostReturn6.dev.ring (0) with wrong := (witReadsOfTheHostReturn6.dev.ring (0)).wrong + 1 } ∧ (ran (.phaseReread (0)
    ((0 : Entry))) witReadsOfTheHostReturn6).fld CQ_CI.CI (0) = witReadsOfTheHostReturn6.dev.fld CQ_CI.CI (0) ∧ (ran (.phaseReread (0)
    ((0 : Entry))) witReadsOfTheHostReturn6).fld CQ_ERR.PHASE_CNT (0) = min (witReadsOfTheHostReturn6.dev.fld CQ_ERR.PHASE_CNT (0) + 1)
    (2 ^ CQ_ERR.PHASE_CNT.len - 1)) := by decide +kernel
theorem test_ReadsOfTheHostReturn_7 : ((0) < 64) ∧ ((witReadsOfTheHostReturn7.dev.ring (0)).wrong ≠ 0) ∧
    (witReadsOfTheHostReturn7.dev.fld CQ_STAT.RSTATE (0) = 1) ∧ ((((0 : Entry)).getLsbD 15).toNat ≠ witReadsOfTheHostReturn7.dev.ringPhase (0)) ∧
    (16 ≤ (witReadsOfTheHostReturn7.dev.ring (0)).wrong) ∧ (((ran (.phaseReread (0) ((0 : Entry)))
    witReadsOfTheHostReturn7).ring (0)).fetched = (witReadsOfTheHostReturn7.dev.ring
    (0)).fetched ++ [{ w := ((0 : Entry)), rgen := witReadsOfTheHostReturn7.dev.fld CQ_STAT.RGEN (0), torn := true }] ∧ ((ran (.phaseReread (0)
    ((0 : Entry))) witReadsOfTheHostReturn7).ring (0)).wrong = 0 ∧ (ran (.phaseReread (0) ((0 : Entry)))
    witReadsOfTheHostReturn7).fld CQ_CI.CI (0) = (witReadsOfTheHostReturn7.dev.fld CQ_CI.CI (0) + 1) % 2 ^ 32) := by decide +kernel
theorem test_ReadsOfTheHostReturn_8 : (witReadsOfTheHostReturn8.dev.mastering 0 = true) ∧ (witReadsOfTheHostReturn8.dev.hi.ownRead.all (fun x =>
    decide (x + 1000000 ≤ witReadsOfTheHostReturn8.dev.ecNs)) = true) ∧ (witReadsOfTheHostReturn8.dev.hi.probed.all (fun x =>
    decide (x + 100000 ≤ witReadsOfTheHostReturn8.dev.ecNs)) = true) ∧ ((ran (.rttProbe) witReadsOfTheHostReturn8)
    = { witReadsOfTheHostReturn8.dev with hi := { witReadsOfTheHostReturn8.dev.hi with reads := witReadsOfTheHostReturn8.dev.hi.reads ++ [{ kind := .rttProbe, fn := 0, addr := witReadsOfTheHostReturn8.dev.fld HI_SLAB.BASE * 4096, len := 8, at_ := witReadsOfTheHostReturn8.dev.ecNs }], l1 := false, probed := some witReadsOfTheHostReturn8.dev.ecNs } })
    := by decide +kernel
theorem test_ReadsOfTheHostReturn_9 : (witReadsOfTheHostReturn9.dev.mastering 0 = true) ∧ (witReadsOfTheHostReturn9.dev.hi.posted = []) ∧
    ((ran (.wrProbe) witReadsOfTheHostReturn9)
    = { witReadsOfTheHostReturn9.dev with hi := { witReadsOfTheHostReturn9.dev.hi with reads := witReadsOfTheHostReturn9.dev.hi.reads ++ [{ kind := .wrProbe, fn := 0, addr := 0, len := 0, at_ := witReadsOfTheHostReturn9.dev.ecNs }], l1 := false } })
    := by decide +kernel
theorem test_ReadsOfTheHostReturn_10 : (witReadsOfTheHostReturn10.dev.hi.reads.find? (fun x => x.kind == .wrProbe)
    = some ({ kind := .wrProbe, fn := 0, addr := 0, len := 0, at_ := 0 } : Read)) ∧ ((ran (.wrProbeDone)
    witReadsOfTheHostReturn10).hi.reads = witReadsOfTheHostReturn10.dev.hi.reads.erase
    ({ kind := .wrProbe, fn := 0, addr := 0, len := 0, at_ := 0 } : Read) ∧ (ran (.wrProbeDone)
    witReadsOfTheHostReturn10).hi.wrts = witReadsOfTheHostReturn10.dev.hi.wrts.filter (fun e =>
    decide (witReadsOfTheHostReturn10.dev.ecNs < e.1 + 1000000))
    ++ [(witReadsOfTheHostReturn10.dev.ecNs, min (witReadsOfTheHostReturn10.dev.ecNs - ({ kind := .wrProbe, fn := 0, addr := 0, len := 0, at_ := 0 } : Read).at_) 0xFFFF)])
    := by decide +kernel
def witLinkAndFunctionsComeAndGo1 : State := st (fun d => { ready d with hi := { (ready d).hi with uid := 3 }, boot := { loaded := true } })
def witLinkAndFunctionsComeAndGo2 : State := st (fun d => { ready d with hi := { (ready d).hi with uid := 3 }, boot := { loaded := true } })
def witLinkAndFunctionsComeAndGo3 : State := st (fun d => { (ready d).setFld HI_LINK.PERST 1 with hi := { ((ready d).setFld HI_LINK.PERST 1).hi with wakeLow := true }, boot := { loaded := true } })
def witLinkAndFunctionsComeAndGo4 : State := st (fun d => { (ready d).setFld HI_SLAB.BASE 9 7 with hi := { ((ready d).setFld HI_SLAB.BASE 9 7).hi with numVFs := 7, fns := [(7, { bme := true, msixEn := true, pmeEn := true })] }, boot := { loaded := true } })
def witLinkAndFunctionsComeAndGo5 : State := st (fun d => { ready d with hi := { (ready d).hi with posted := [.record 0 0 0 0 0 { recs := [7] }, .write 0 64 [1]] }, boot := { loaded := true } })
def witLinkAndFunctionsComeAndGo6 : State := st (fun d => { (ready d).setFld HI_LINK.UP 0 with hi := { ((ready d).setFld HI_LINK.UP 0).hi with uid := 3 }, boot := { loaded := true } })
def witLinkAndFunctionsComeAndGo7 : State := st (fun d => { ready d with hi := { (ready d).hi with uid := 3 }, boot := { loaded := true } })
def witLinkAndFunctionsComeAndGo8 : State := st (fun d => { ready d with hi := { (ready d).hi with uid := 3 }, boot := { loaded := true } })
def witLinkAndFunctionsComeAndGo9 : State := st (fun d => { ready d with hi := { (ready d).hi with uid := 3 }, boot := { loaded := true } })
def witLinkAndFunctionsComeAndGo10 : State := st (fun d => { ready d with hi := { (ready d).hi with fns := [(0, { bme := true, msixEn := true, pba := [63] })] }, boot := { loaded := true } })
def witLinkAndFunctionsComeAndGo11 : State := st (fun d => { ready d with hi := { (ready d).hi with fns := [(0, { unmasked := [63, 2] })] }, boot := { loaded := true } })
def witLinkAndFunctionsComeAndGo12 : State := st (fun d => { ({ ready d with tb := { (ready d).tb with eclk := 50000000 } } : Dev) with hi := { (({ ready d with tb := { (ready d).tb with eclk := 50000000 } } : Dev)).hi with fns := [(0, { d3 := true, pmeStat := true, pba := [1] })] }, boot := { loaded := true } })
def witLinkAndFunctionsComeAndGo13 : State := st (fun d => { ready d with hi := { (ready d).hi with fns := [(0, { pmeStat := true })] }, boot := { loaded := true } })
def witLinkAndFunctionsComeAndGo14 : State := st (fun d => { ready d with hi := { (ready d).hi with numVFs := 2 }, boot := { loaded := true } })
def witLinkAndFunctionsComeAndGo15 : State := st (fun d => { ready d with hi := { (ready d).hi with numVFs := 7 }, boot := { loaded := true } })
def witLinkAndFunctionsComeAndGo16 : State := st (fun d => { ready d with hi := { (ready d).hi with posted := [.pme 0, .pme 0] }, boot := { loaded := true } })
theorem test_LinkAndFunctionsComeAndGo_1 : (witLinkAndFunctionsComeAndGo1.dev.barUp = true) ∧
    (witLinkAndFunctionsComeAndGo1.dev.fld HI_LINK.UP = 1) ∧ (witLinkAndFunctionsComeAndGo1.dev.fld HI_LINK.PERST = 0) ∧ ((0) < 64) ∧ ((0) < 8 ∧
    witLinkAndFunctionsComeAndGo1.dev.fnOn (0) = true) ∧ (witLinkAndFunctionsComeAndGo1.dev.queueOwner (0) = some (0)) ∧
    ((witLinkAndFunctionsComeAndGo1.dev.fld HQ_STAT.QSTATE (0) = 1 ∨ witLinkAndFunctionsComeAndGo1.dev.fld HQ_STAT.QSTATE (0) = 2)) ∧
    ((ran (.perst) witLinkAndFunctionsComeAndGo1).fld HI_LINK.PERST = 1 ∧ (ran (.perst) witLinkAndFunctionsComeAndGo1).fld HI_LINK.UP = 0 ∧
    (ran (.perst) witLinkAndFunctionsComeAndGo1).fld HQ_STAT.QSTATE (0) = 3 ∧ (ran (.perst) witLinkAndFunctionsComeAndGo1).hi.numVFs = 0 ∧
    (ran (.perst) witLinkAndFunctionsComeAndGo1).sl.grps = witLinkAndFunctionsComeAndGo1.dev.sl.grps ∧ (ran (.perst)
    witLinkAndFunctionsComeAndGo1).sl.items = witLinkAndFunctionsComeAndGo1.dev.sl.items) := by decide +kernel
theorem test_LinkAndFunctionsComeAndGo_2 : (witLinkAndFunctionsComeAndGo2.dev.barUp = true) ∧
    (witLinkAndFunctionsComeAndGo2.dev.fld HI_LINK.UP = 1) ∧ ((0) < 64) ∧ ((0) < 8 ∧ witLinkAndFunctionsComeAndGo2.dev.fnOn (0) = true) ∧
    (witLinkAndFunctionsComeAndGo2.dev.queueOwner (0) = some (0)) ∧ ((witLinkAndFunctionsComeAndGo2.dev.fld HQ_STAT.QSTATE (0) = 1 ∨
    witLinkAndFunctionsComeAndGo2.dev.fld HQ_STAT.QSTATE (0) = 2)) ∧ ((ran (.hotReset)
    witLinkAndFunctionsComeAndGo2).fld HI_LINK.PERST = witLinkAndFunctionsComeAndGo2.dev.fld HI_LINK.PERST ∧ (ran (.hotReset)
    witLinkAndFunctionsComeAndGo2).fld HI_LINK.UP = 0 ∧ (ran (.hotReset) witLinkAndFunctionsComeAndGo2).fld HQ_STAT.QSTATE (0) = 3 ∧
    (ran (.hotReset) witLinkAndFunctionsComeAndGo2).hi.numVFs = 0 ∧ (ran (.hotReset)
    witLinkAndFunctionsComeAndGo2).sl.grps = witLinkAndFunctionsComeAndGo2.dev.sl.grps ∧ (ran (.hotReset)
    witLinkAndFunctionsComeAndGo2).sl.items = witLinkAndFunctionsComeAndGo2.dev.sl.items) := by decide +kernel
theorem test_LinkAndFunctionsComeAndGo_3 : (witLinkAndFunctionsComeAndGo3.dev.fld HI_LINK.PERST = 1) ∧ ((ran (.perstRelease)
    witLinkAndFunctionsComeAndGo3).fld HI_LINK.PERST = 0 ∧ (ran (.perstRelease) witLinkAndFunctionsComeAndGo3).hi.wakeLow = false) :=
    by decide +kernel
theorem test_LinkAndFunctionsComeAndGo_4 : (witLinkAndFunctionsComeAndGo4.dev.barUp = true) ∧ ((7) < 8 ∧
    witLinkAndFunctionsComeAndGo4.dev.fnOn (7) = true) ∧ ((7) ≠ 0) ∧ ((ran (.flr (7)) witLinkAndFunctionsComeAndGo4).fld HI_SLAB.BASE (7) = 0 ∧
    (ran (.flr (7)) witLinkAndFunctionsComeAndGo4).func (7)
    = { pmeEn := (witLinkAndFunctionsComeAndGo4.dev.func (7)).pmeEn, pmeStat := (witLinkAndFunctionsComeAndGo4.dev.func (7)).pmeStat, wakePend := (witLinkAndFunctionsComeAndGo4.dev.func (7)).wakePend, pmeAt := (witLinkAndFunctionsComeAndGo4.dev.func (7)).pmeAt }
    ∧ (ran (.flr (7)) witLinkAndFunctionsComeAndGo4).hi.numVFs = witLinkAndFunctionsComeAndGo4.dev.hi.numVFs) := by decide +kernel
theorem test_LinkAndFunctionsComeAndGo_5 : (witLinkAndFunctionsComeAndGo5.dev.barUp = true) ∧
    (witLinkAndFunctionsComeAndGo5.dev.fld HI_LINK.UP = 1) ∧ ((0) < 64) ∧ ((ran (.linkDown) witLinkAndFunctionsComeAndGo5).fld HI_LINK.UP = 0 ∧
    (ran (.linkDown) witLinkAndFunctionsComeAndGo5).hi.posted = witLinkAndFunctionsComeAndGo5.dev.hi.posted.filter Posted.replayed ∧
    (ran (.linkDown) witLinkAndFunctionsComeAndGo5).hi.reads = [] ∧ ((ran (.linkDown)
    witLinkAndFunctionsComeAndGo5).hq (0)).staged = joinUnits (witLinkAndFunctionsComeAndGo5.dev.hi.posted.filterMap (Posted.unstaged (0))
    ++ (witLinkAndFunctionsComeAndGo5.dev.hq (0)).staged) ∧ (ran (.linkDown)
    witLinkAndFunctionsComeAndGo5).fld HI_LINK.DOWN_CNT = min (witLinkAndFunctionsComeAndGo5.dev.fld HI_LINK.DOWN_CNT + 1)
    (2 ^ HI_LINK.DOWN_CNT.len - 1)) := by decide +kernel
theorem test_LinkAndFunctionsComeAndGo_6 : (witLinkAndFunctionsComeAndGo6.dev.barUp = true) ∧
    (witLinkAndFunctionsComeAndGo6.dev.fld HI_LINK.PERST = 0) ∧ (witLinkAndFunctionsComeAndGo6.dev.fld HI_LINK.UP = 0) ∧
    ((ran (.linkUp ((2 : BitVec 2)) ((4 : BitVec 3))) witLinkAndFunctionsComeAndGo6).fld HI_LINK.UP = 1 ∧ (ran (.linkUp ((2 : BitVec 2))
    ((4 : BitVec 3))) witLinkAndFunctionsComeAndGo6).fld HI_LINK.SPEED = ((2 : BitVec 2)).toNat ∧ (ran (.linkUp ((2 : BitVec 2)) ((4 : BitVec 3)))
    witLinkAndFunctionsComeAndGo6).fld HI_LINK.WIDTH = ((4 : BitVec 3)).toNat) := by decide +kernel
theorem test_LinkAndFunctionsComeAndGo_7 : (witLinkAndFunctionsComeAndGo7.dev.barUp = true) ∧ ((0) < 8 ∧
    witLinkAndFunctionsComeAndGo7.dev.fnOn (0) = true) ∧ ((0) < 64) ∧ (witLinkAndFunctionsComeAndGo7.dev.ringOwner (0) = some (0)) ∧
    (witLinkAndFunctionsComeAndGo7.dev.fld CQ_STAT.RSTATE (0) = 1) ∧ (((ran (.bmeChange (0) false)
    witLinkAndFunctionsComeAndGo7).func (0)).bme = false ∧ (ran (.bmeChange (0) false) witLinkAndFunctionsComeAndGo7).fld CQ_STAT.RSTATE (0) = 3)
    := by decide +kernel
theorem test_LinkAndFunctionsComeAndGo_8 : (witLinkAndFunctionsComeAndGo8.dev.barUp = true) ∧
    (witLinkAndFunctionsComeAndGo8.dev.fld HI_LINK.UP = 1) ∧ ((ran (.powerStateChange .linkL1) witLinkAndFunctionsComeAndGo8)
    = { witLinkAndFunctionsComeAndGo8.dev with hi := { witLinkAndFunctionsComeAndGo8.dev.hi with l1 := true } }) := by decide +kernel
theorem test_LinkAndFunctionsComeAndGo_9 : (witLinkAndFunctionsComeAndGo9.dev.barUp = true) ∧ ((0) < 8 ∧
    witLinkAndFunctionsComeAndGo9.dev.fnOn (0) = true) ∧ ((0) < 64) ∧ (witLinkAndFunctionsComeAndGo9.dev.ringOwner (0) = some (0)) ∧
    (witLinkAndFunctionsComeAndGo9.dev.fld CQ_STAT.RSTATE (0) = 1) ∧ (((ran (.powerStateChange (.d3 (0)))
    witLinkAndFunctionsComeAndGo9).func (0)).d3 = true ∧ (ran (.powerStateChange (.d3 (0))) witLinkAndFunctionsComeAndGo9).fld CQ_STAT.RSTATE (0)
    = 3) := by decide +kernel
theorem test_LinkAndFunctionsComeAndGo_10 : (witLinkAndFunctionsComeAndGo10.dev.barUp = true) ∧ ((0) < 8 ∧
    witLinkAndFunctionsComeAndGo10.dev.fnOn (0) = true) ∧ ((63) < 64) ∧ ((witLinkAndFunctionsComeAndGo10.dev.func (0)).msixEn = true) ∧
    ((witLinkAndFunctionsComeAndGo10.dev.func (0)).fmask = false) ∧ ((witLinkAndFunctionsComeAndGo10.dev.func (0)).bme = true) ∧
    ((witLinkAndFunctionsComeAndGo10.dev.func (0)).d3 = false) ∧ (witLinkAndFunctionsComeAndGo10.dev.linkUsable = true) ∧ ((63)
    ∉ (witLinkAndFunctionsComeAndGo10.dev.func (0)).unmasked) ∧ ((witLinkAndFunctionsComeAndGo10.dev.func (0)).pba = [(63)]) ∧
    ((ran (.msixUnmask (0) (.vector (63))) witLinkAndFunctionsComeAndGo10).func (0)
    = { witLinkAndFunctionsComeAndGo10.dev.func (0) with unmasked := (63) :: (witLinkAndFunctionsComeAndGo10.dev.func (0)).unmasked, pba := [] } ∧
    (ran (.msixUnmask (0) (.vector (63))) witLinkAndFunctionsComeAndGo10).hi.posted = witLinkAndFunctionsComeAndGo10.dev.hi.posted
    ++ [.msix (0) (63) ((get 0 (witLinkAndFunctionsComeAndGo10.dev.func (0)).msix (63)).toNat % 2 ^ 64) ((get 0 (witLinkAndFunctionsComeAndGo10.dev.func (0)).msix (63)).toNat / 2 ^ 64)]
    ∧ (ran (.msixUnmask (0) (.vector (63))) witLinkAndFunctionsComeAndGo10).regs = witLinkAndFunctionsComeAndGo10.dev.regs ∧ (ran (.msixUnmask (0)
    (.vector (63))) witLinkAndFunctionsComeAndGo10).sl = witLinkAndFunctionsComeAndGo10.dev.sl) := by decide +kernel
theorem test_LinkAndFunctionsComeAndGo_11 : (witLinkAndFunctionsComeAndGo11.dev.barUp = true) ∧ ((0) < 8 ∧
    witLinkAndFunctionsComeAndGo11.dev.fnOn (0) = true) ∧ ((ran (.msixMask (0) (.vector (63))) witLinkAndFunctionsComeAndGo11)
    = witLinkAndFunctionsComeAndGo11.dev.setFunc (0)
    { witLinkAndFunctionsComeAndGo11.dev.func (0) with unmasked := (witLinkAndFunctionsComeAndGo11.dev.func (0)).unmasked.filter (· ≠ (63)) }) :=
    by decide +kernel
theorem test_LinkAndFunctionsComeAndGo_12 : (witLinkAndFunctionsComeAndGo12.dev.barUp = true) ∧ ((0) < 8 ∧
    witLinkAndFunctionsComeAndGo12.dev.fnOn (0) = true) ∧ ((witLinkAndFunctionsComeAndGo12.dev.func (0)).pmeStat = true) ∧
    (witLinkAndFunctionsComeAndGo12.dev.linkUsable = true) ∧ (witLinkAndFunctionsComeAndGo12.dev.wakeCause (0) = true) ∧
    ((witLinkAndFunctionsComeAndGo12.dev.func (0)).pmeAt + 100000000 ≤ witLinkAndFunctionsComeAndGo12.dev.ecNs) ∧ ((ran (.pmeResend (0))
    witLinkAndFunctionsComeAndGo12) = (witLinkAndFunctionsComeAndGo12.dev.setFunc (0)
    { witLinkAndFunctionsComeAndGo12.dev.func (0) with pmeAt := witLinkAndFunctionsComeAndGo12.dev.ecNs }).post (.pme (0))) := by decide +kernel
theorem test_LinkAndFunctionsComeAndGo_13 : (witLinkAndFunctionsComeAndGo13.dev.barUp = true) ∧ ((0) < 8 ∧
    witLinkAndFunctionsComeAndGo13.dev.fnOn (0) = true) ∧ ((ran (.pmeControlWrite (0) (true) (true)) witLinkAndFunctionsComeAndGo13)
    = witLinkAndFunctionsComeAndGo13.dev.setFunc (0)
    { witLinkAndFunctionsComeAndGo13.dev.func (0) with pmeEn := (true), pmeStat := (witLinkAndFunctionsComeAndGo13.dev.func (0)).pmeStat && !(true), wakePend := (witLinkAndFunctionsComeAndGo13.dev.func (0)).wakePend && !(true) })
    := by decide +kernel
theorem test_LinkAndFunctionsComeAndGo_14 : (witLinkAndFunctionsComeAndGo14.dev.barUp = true) ∧ ((7) ≤ 7) ∧
    (witLinkAndFunctionsComeAndGo14.dev.hi.numVFs ≤ (7)) ∧ ((ran (.numvfsWrite (7)) witLinkAndFunctionsComeAndGo14)
    = { witLinkAndFunctionsComeAndGo14.dev with hi := { witLinkAndFunctionsComeAndGo14.dev.hi with numVFs := (7) } }) := by decide +kernel
theorem test_LinkAndFunctionsComeAndGo_15 : (witLinkAndFunctionsComeAndGo15.dev.barUp = true) ∧ ((2) ≤ 7) ∧ ((ran (.numvfsWrite (2))
    witLinkAndFunctionsComeAndGo15).hi.numVFs = (2) ∧ (ran (.numvfsWrite (2)) witLinkAndFunctionsComeAndGo15).fnOn 3 = false) := by decide +kernel
theorem test_LinkAndFunctionsComeAndGo_16 : ((ran (.dllAck (1)) witLinkAndFunctionsComeAndGo16)
    = { witLinkAndFunctionsComeAndGo16.dev with hi := { witLinkAndFunctionsComeAndGo16.dev.hi with posted := witLinkAndFunctionsComeAndGo16.dev.hi.posted.drop (1) } })
    := by decide +kernel
def witSluiceDelivers1 : State := st (fun d => { ready d with sl := { rises := [{ src := 5, recs := [7], item := false }, { src := 4, recs := [8], item := false }], srcs := [(4, { count := 1, recs := [3] })] } })
def witSluiceDelivers2 : State := st (fun d => { (((ready d).setFld SL_TGT.KIND 2 5).setFld SL_TGT.TARGET 63 5).setFld HQ_STAT.QSTATE 3 63 with sl := { rises := [{ src := 5, recs := [7], item := false }] } })
def witSluiceDelivers3 : State := st (fun d => { (ready d).setFld SL_TGT.KIND 1 2 with sl := { rises := [{ src := 2, recs := [7], item := true }] } })
def witSluiceDelivers4 : State := st (fun d => { ready d with sl := { rises := [{ src := 0, recs := [7], item := false, comp := some ({}, 0, 1) }] } })
def witSluiceDelivers5 : State := st (fun d => { d with tb := { d.tb with eclk := 5 }, sl := { grps := [(63, { running := true, until_ := 9 })] } })
def witSluiceDelivers6 : State := st (fun d => { (((((ready d).setFld SL_TGT.KIND 2 5).setFld SL_TGT.TARGET 63 5).setFld HQ_STAT.QSTATE 3 63).setFld SL_GRP.HOLDOFF 7 0).setPend 5 true with tb := { d.tb with eclk := 5 }, sl := { srcs := [(5, { count := 2, recs := [9] })], grps := [(0, { running := true, until_ := 9 })] } })
def witSluiceDelivers7 : State := st (fun d => { ((((ready d).setFld HQ_CFG.SIZE 4 0).setFld HQ_PI.PI 17 0).setFld HQ_CI.CI 9 0).setFld HQ_BASE.BASE 3 0 with sl := { hqs := [(0, { gen := [{ recs := [7] }] })] } })
def witSluiceDelivers8 : State := st (fun d => { ((ready d).setFld HI_LINK.UP 0).setFld SL_STAGE.BERTHS 2 with sl := { hqs := [(63, { gen := [{ recs := [7, 9] }] })] } })
def witSluiceDelivers9 : State := st (fun d => { ((((ready d).setFld HQ_CFG.SIZE 4 0).setFld HQ_PI.PI 17 0).setFld HQ_CI.CI 9 0).setFld HQ_BASE.BASE 3 0 with sl := { hqs := [(0, { staged := [{ recs := [7] }] })] } })
theorem test_SluiceDelivers_1 : (witSluiceDelivers1.dev.sl.rises.head? = some ({ src := 5, recs := [7], item := false } : Rise)) ∧
    (witSluiceDelivers1.dev.nextRise ({ src := 5, recs := [7], item := false } : Rise) = ({ src := 4, recs := [8], item := false } : Rise)) ∧
    (({ src := 4, recs := [8], item := false } : Rise).comp = none ∧ ({ src := 4, recs := [8], item := false } : Rise).item = false ∧
    ({ src := 4, recs := [8], item := false } : Rise).bare = false) ∧ (witSluiceDelivers1.dev.kind ({ src := 4, recs := [8], item := false }
    : Rise).src = 0) ∧ ((ran (.sourceRise) witSluiceDelivers1).pend ({ src := 4, recs := [8], item := false } : Rise).src = true ∧
    (ran (.sourceRise) witSluiceDelivers1).src ({ src := 4, recs := [8], item := false }
    : Rise).src = { count := (witSluiceDelivers1.dev.src ({ src := 4, recs := [8], item := false } : Rise).src).count + 1, recs := ({ src := 4, recs := [8], item := false } : Rise).recs })
    := by decide +kernel
theorem test_SluiceDelivers_2 : (witSluiceDelivers2.dev.sl.rises.head? = some ({ src := 5, recs := [7], item := false } : Rise)) ∧
    (witSluiceDelivers2.dev.nextRise ({ src := 5, recs := [7], item := false } : Rise) = ({ src := 5, recs := [7], item := false } : Rise)) ∧
    (({ src := 5, recs := [7], item := false } : Rise).comp = none ∧ ({ src := 5, recs := [7], item := false } : Rise).item = false ∧
    ({ src := 5, recs := [7], item := false } : Rise).bare = false) ∧ (witSluiceDelivers2.dev.kind ({ src := 5, recs := [7], item := false }
    : Rise).src = 2 ∧ witSluiceDelivers2.dev.tgt ({ src := 5, recs := [7], item := false } : Rise).src = (63)) ∧
    (witSluiceDelivers2.dev.held = false) ∧ (witSluiceDelivers2.dev.grpReady (witSluiceDelivers2.dev.grpOf
    ({ src := 5, recs := [7], item := false } : Rise).src) = true) ∧ ((witSluiceDelivers2.dev.src ({ src := 5, recs := [7], item := false }
    : Rise).src).count = 0) ∧ ((witSluiceDelivers2.dev.fld HQ_STAT.QSTATE (63) = 1 ∨ witSluiceDelivers2.dev.fld HQ_STAT.QSTATE (63) = 3)) ∧
    ((ran (.sourceRise) witSluiceDelivers2).pend ({ src := 5, recs := [7], item := false } : Rise).src = false ∧ (ran (.sourceRise)
    witSluiceDelivers2).src ({ src := 5, recs := [7], item := false } : Rise).src = {} ∧ ((ran (.sourceRise)
    witSluiceDelivers2).hq (63)).gen = (witSluiceDelivers2.dev.hq
    (63)).gen ++ [{ recs := ({ src := 5, recs := [7], item := false } : Rise).recs }]) := by decide +kernel
theorem test_SluiceDelivers_3 : (witSluiceDelivers3.dev.sl.rises.head? = some ({ src := 2, recs := [7], item := true } : Rise)) ∧
    (witSluiceDelivers3.dev.nextRise ({ src := 2, recs := [7], item := true } : Rise) = ({ src := 2, recs := [7], item := true } : Rise)) ∧
    (({ src := 2, recs := [7], item := true } : Rise).comp = none ∧ ({ src := 2, recs := [7], item := true } : Rise).item = true ∧
    ({ src := 2, recs := [7], item := true } : Rise).bare = false) ∧ (witSluiceDelivers3.dev.kind ({ src := 2, recs := [7], item := true }
    : Rise).src = 1) ∧ (witSluiceDelivers3.dev.sl.items.length < 1024) ∧ ((ran (.sourceRise)
    witSluiceDelivers3).pend ({ src := 2, recs := [7], item := true } : Rise).src = true ∧ (ran (.sourceRise)
    witSluiceDelivers3).sl.items = witSluiceDelivers3.dev.sl.items
    ++ [{ src := ({ src := 2, recs := [7], item := true } : Rise).src, recs := ({ src := 2, recs := [7], item := true } : Rise).recs.map markItem }])
    := by decide +kernel
theorem test_SluiceDelivers_4 : (witSluiceDelivers4.dev.sl.rises.head? = some ({ src := 0, recs := [7], item := false, comp := some ({}, 0, 1) }
    : Rise)) ∧ (witSluiceDelivers4.dev.nextRise ({ src := 0, recs := [7], item := false, comp := some ({}, 0, 1) } : Rise)
    = ({ src := 0, recs := [7], item := false, comp := some ({}, 0, 1) } : Rise)) ∧
    (({ src := 0, recs := [7], item := false, comp := some ({}, 0, 1) } : Rise).comp = some (({} : Cmd), (0), (1))) ∧
    (witSluiceDelivers4.dev.fld CQ_CFG.CQ_HQ ({} : Cmd).ring = (0)) ∧ ((witSluiceDelivers4.dev.fld HQ_STAT.QSTATE (0) = 1 ∨
    witSluiceDelivers4.dev.fld HQ_STAT.QSTATE (0) = 3)) ∧ (((ran (.sourceRise) witSluiceDelivers4).hq 0).gen = [{ recs := [7], ring := some 0 }])
    := by decide +kernel
theorem test_SluiceDelivers_5 : ((witSluiceDelivers5.dev.grp (63)).running = true) ∧
    ((witSluiceDelivers5.dev.grp (63)).until_ ≤ witSluiceDelivers5.dev.ecNs) ∧ (witSluiceDelivers5.dev.pendingOf (63) 2 = []) ∧
    ((ran (.holdoffExpire (63)) witSluiceDelivers5) = witSluiceDelivers5.dev.setGrp (63)
    { witSluiceDelivers5.dev.grp (63) with running := false, elig := witSluiceDelivers5.dev.pendingOf (63) 1 }) := by decide +kernel
theorem test_SluiceDelivers_6 : ((witSluiceDelivers6.dev.grp (0)).running = true) ∧
    ((witSluiceDelivers6.dev.grp (0)).until_ ≤ witSluiceDelivers6.dev.ecNs) ∧ (witSluiceDelivers6.dev.held = false) ∧
    (witSluiceDelivers6.dev.pendingOf (0) 2 = [(5)]) ∧ (witSluiceDelivers6.dev.tgt (5) = (63)) ∧ ((witSluiceDelivers6.dev.fld HQ_STAT.QSTATE (63)
    = 1 ∨ witSluiceDelivers6.dev.fld HQ_STAT.QSTATE (63) = 3)) ∧ (witSluiceDelivers6.dev.fld SL_GRP.HOLDOFF (0) ≠ 0) ∧ ((ran (.holdoffExpire (0))
    witSluiceDelivers6).pend (5) = false ∧ (ran (.holdoffExpire (0)) witSluiceDelivers6).src (5) = {} ∧ ((ran (.holdoffExpire (0))
    witSluiceDelivers6).hq (63)).gen = (witSluiceDelivers6.dev.hq (63)).gen ++ [{ recs := witSluiceDelivers6.dev.deliverable (5) }] ∧
    ((ran (.holdoffExpire (0)) witSluiceDelivers6).grp (0)).running = true ∧ ((ran (.holdoffExpire (0))
    witSluiceDelivers6).grp (0)).until_ = witSluiceDelivers6.dev.ecNs + 256 * witSluiceDelivers6.dev.fld SL_GRP.HOLDOFF (0) ∧
    ((ran (.holdoffExpire (0)) witSluiceDelivers6).grp (0)).elig = (witSluiceDelivers6.dev.pendingOf (0) 1).filter (· ≠ (5))) := by decide +kernel
theorem test_SluiceDelivers_7 : ((0) < 64) ∧ (witSluiceDelivers7.dev.writesOver = false) ∧ ((witSluiceDelivers7.dev.hq (0)).held = []) ∧
    ((witSluiceDelivers7.dev.hq (0)).gen = ({ recs := [7] } : RecUnit) :: ([] : List RecUnit)) ∧
    (({ recs := [7] } : RecUnit).recs = [((7 : Record))]) ∧ (witSluiceDelivers7.dev.hqBlocked (0) = false) ∧ (witSluiceDelivers7.dev.hqLevel (0)
    < 2 ^ witSluiceDelivers7.dev.fld HQ_CFG.SIZE (0)) ∧ ((witSluiceDelivers7.dev.hq (0)).lost = 0) ∧ ((witSluiceDelivers7.dev.hq (0)).staged = [])
    ∧ (witSluiceDelivers7.dev.fld HQ_STAT.QSTATE (0) = 1) ∧ ((ran (.hqRecordIssue (0)) witSluiceDelivers7).fld HQ_PI.PI (0)
    = (witSluiceDelivers7.dev.fld HQ_PI.PI (0) + 1) % 2 ^ 32 ∧ .record (0) (witSluiceDelivers7.dev.fld HQ_PI.PI (0)
    % 2 ^ witSluiceDelivers7.dev.fld HQ_CFG.SIZE (0)) ((witSluiceDelivers7.dev.queueOwner (0)).getD 0)
    (witSluiceDelivers7.dev.fld HQ_BASE.BASE (0) * 4096 + 32 * (witSluiceDelivers7.dev.fld HQ_PI.PI (0)
    % 2 ^ witSluiceDelivers7.dev.fld HQ_CFG.SIZE (0)))
    (witSluiceDelivers7.dev.hq (0)).epoch { ({ recs := [7] } : RecUnit) with recs := [BitVec.ofNat 256 (put ((7 : Record)).toNat 255 1 (witSluiceDelivers7.dev.hqPhase (0)))], more := false }
    ∈ (ran (.hqRecordIssue (0)) witSluiceDelivers7).hi.posted) := by decide +kernel
theorem test_SluiceDelivers_8 : ((63) < 64) ∧ (witSluiceDelivers8.dev.writesOver = false) ∧ ((witSluiceDelivers8.dev.hq (63)).held = []) ∧
    ((witSluiceDelivers8.dev.hq (63)).gen = ({ recs := [7, 9] } : RecUnit) :: ([] : List RecUnit)) ∧ (witSluiceDelivers8.dev.hqBlocked (63)
    = true) ∧ (witSluiceDelivers8.dev.stageRefuses (63) ({ recs := [7, 9] } : RecUnit).recs.length = none) ∧
    (witSluiceDelivers8.dev.stageLent witSluiceDelivers8.dev.stagedTotal = none) ∧ (((ran (.hqRecordIssue (63))
    witSluiceDelivers8).hq (63)).staged = (witSluiceDelivers8.dev.hq
    (63)).staged ++ [{ ({ recs := [7, 9] } : RecUnit) with recs := ({ recs := [7, 9] } : RecUnit).recs.map markStaged }] ∧
    (ran (.hqRecordIssue (63)) witSluiceDelivers8).fld HQ_PI.PI (63) = witSluiceDelivers8.dev.fld HQ_PI.PI (63)) := by decide +kernel
theorem test_SluiceDelivers_9 : (witSluiceDelivers9.dev.nextDrain = some (0)) ∧ (witSluiceDelivers9.dev.writesOver = false) ∧
    (witSluiceDelivers9.dev.stageLent 0 = none) ∧ ((witSluiceDelivers9.dev.hq (0)).staged = ({ recs := [7] } : RecUnit) :: ([] : List RecUnit)) ∧
    (({ recs := [7] } : RecUnit).recs = [((7 : Record))]) ∧ (witSluiceDelivers9.dev.hqLevel (0) < 2 ^ witSluiceDelivers9.dev.fld HQ_CFG.SIZE (0))
    ∧ ((witSluiceDelivers9.dev.hq (0)).lost = 0) ∧ (witSluiceDelivers9.dev.fld HQ_STAT.QSTATE (0) = 1) ∧ ((ran (.stagingDrain (0))
    witSluiceDelivers9).fld HQ_PI.PI (0) = (witSluiceDelivers9.dev.fld HQ_PI.PI (0) + 1) % 2 ^ 32 ∧ .record (0)
    (witSluiceDelivers9.dev.fld HQ_PI.PI (0) % 2 ^ witSluiceDelivers9.dev.fld HQ_CFG.SIZE (0)) ((witSluiceDelivers9.dev.queueOwner (0)).getD 0)
    (witSluiceDelivers9.dev.fld HQ_BASE.BASE (0) * 4096 + 32 * (witSluiceDelivers9.dev.fld HQ_PI.PI (0)
    % 2 ^ witSluiceDelivers9.dev.fld HQ_CFG.SIZE (0)))
    (witSluiceDelivers9.dev.hq (0)).epoch { ({ recs := [7] } : RecUnit) with recs := [BitVec.ofNat 256 (put ((7 : Record)).toNat 255 1 (witSluiceDelivers9.dev.hqPhase (0)))], more := false }
    ∈ (ran (.stagingDrain (0)) witSluiceDelivers9).hi.posted ∧ (ran (.stagingDrain (0)) witSluiceDelivers9).sl.rr = (0) ∧
    ((ran (.stagingDrain (0)) witSluiceDelivers9).hq (0)).staged = ([] : List RecUnit)) := by decide +kernel
def witMicrowordsAct1 : State := st (fun d => { ((ready d).setFld ME_STATUS.RUNNING 1) with boot := { loaded := true }, me := [(0, { gpr := [(1, 2)], micro := [0, 0x12000003], nano := [0xfe8020], frames := [{ pc := 1 }] })] })
def witMicrowordsAct2 : State := st (fun d => { ((ready d).setFld ME_STATUS.RUNNING 1) with boot := { loaded := true }, me := [(0, { micro := [0, 0x12000000], nano := [0x70400000000000000000000], frames := [{ pc := 1 }] })] })
def witMicrowordsAct3 : State := st (fun d => { (((ready d).setFld ME_STATUS.RUNNING 1).setFld (HM_ENG.QUAY) 0xFFFFFFFF) with boot := { loaded := true }, me := [(0, { micro := [0, 0x12000000], nano := [0x5000000000000], frames := [{ pc := 1 }] })] })
def witMicrowordsAct4 : State := st (fun d => { ((ready d).setFld ME_STATUS.RUNNING 1) with boot := { loaded := true }, me := [(0, { micro := [0, 0x129c0000], nano := [0], frames := [{ pc := 1 }] })] })
def witMicrowordsAct5 : State := st (fun d => { (((ready d).setFld ME_STATUS.RUNNING 1).setFld ME_DCFG.AUTO_RELIEF 0) with boot := { loaded := true }, me := [(0, { frames := [{ pc := 77 }] })] })
def witMicrowordsAct6 : State := st (fun d => { (((ready d).setFld ME_STATUS.RUNNING 1).setFld ME_STATUS.WAITING 1) with boot := { loaded := true }, me := [(0, { micro := [0, 0x12a40000], nano := [0x10000000000000000000000000000], frames := [{ pc := 1, be := true }] })] })
theorem test_MicrowordsAct_1 : (witMicrowordsAct1.dev.meCanIssue (0) = true) ∧ (witMicrowordsAct1.dev.flag ME_STATUS.WAITING (0) = false) ∧
    ((witMicrowordsAct1.dev.eng (0)).bpWait = none) ∧ ((witMicrowordsAct1.dev.eng (0)).micro[(witMicrowordsAct1.dev.eng (0)).top.pc]?
    = some ((0x12000003 : BitVec 48))) ∧ ((witMicrowordsAct1.dev.eng (0)).nano[uNano ((0x12000003 : BitVec 48))]?
    = some ((0xfe8020 : BitVec 192))) ∧ (nIllegal ((0xfe8020 : BitVec 192)) = false) ∧ (nQp ((0xfe8020 : BitVec 192)) = 0 ∧
    nBp ((0xfe8020 : BitVec 192)) = 0 ∧ nSp ((0xfe8020 : BitVec 192)) = 0 ∧ nAp ((0xfe8020 : BitVec 192)) = 0 ∧ nAxOp ((0xfe8020 : BitVec 192))
    = 0 ∧ nCtl ((0xfe8020 : BitVec 192)) = 0 ∧ nHb ((0xfe8020 : BitVec 192)) = false) ∧ (uSeq ((0x12000003 : BitVec 48)) = 0 ∧
    uAtom ((0x12000003 : BitVec 48)) = false ∧ nWb ((0xfe8020 : BitVec 192)) = 0) ∧ (alu (nAlu ((0xfe8020 : BitVec 192)))
    ((witMicrowordsAct1.dev.eng (0)).reg (nRa ((0xfe8020 : BitVec 192)))) ((witMicrowordsAct1.dev.eng (0)).opB ((0x12000003 : BitVec 48))
    ((0xfe8020 : BitVec 192))) (witMicrowordsAct1.dev.eng (0)).top.nzcv = (some ((5 : BitVec 32)),
    ({ z := false, n := false, c := false, v := false } : NZCV))) ∧ (((ran (.meWord (0) {})
    witMicrowordsAct1).eng (0)).gpr = (if nRdWe ((0xfe8020 : BitVec 192)) then (witMicrowordsAct1.dev.eng (0)).setReg (nRd ((0xfe8020 : BitVec
    192))) ((5 : BitVec 32)) else (witMicrowordsAct1.dev.eng (0))).gpr ∧ ((ran (.meWord (0) {})
    witMicrowordsAct1).eng (0)).ar = (witMicrowordsAct1.dev.eng (0)).ar ∧ ((ran (.meWord (0) {})
    witMicrowordsAct1).eng (0)).top = { (witMicrowordsAct1.dev.eng (0)).top with pc := uNext ((0x12000003 : BitVec 48)), z := (if nFlWe ((0xfe8020 : BitVec 192)) = 1 then ({ z := false, n := false, c := false, v := false } : NZCV) else (witMicrowordsAct1.dev.eng (0)).top.nzcv).z, n := (if nFlWe ((0xfe8020 : BitVec 192)) = 1 then ({ z := false, n := false, c := false, v := false } : NZCV) else (witMicrowordsAct1.dev.eng (0)).top.nzcv).n, c := (if nFlWe ((0xfe8020 : BitVec 192)) = 1 then ({ z := false, n := false, c := false, v := false } : NZCV) else (witMicrowordsAct1.dev.eng (0)).top.nzcv).c, v := (if nFlWe ((0xfe8020 : BitVec 192)) = 1 then ({ z := false, n := false, c := false, v := false } : NZCV) else (witMicrowordsAct1.dev.eng (0)).top.nzcv).v }
    ∧ (ran (.meWord (0) {}) witMicrowordsAct1).mem = witMicrowordsAct1.dev.mem) := by decide +kernel
theorem test_MicrowordsAct_2 : (witMicrowordsAct2.dev.meCanIssue (0) = true) ∧ (witMicrowordsAct2.dev.flag ME_STATUS.WAITING (0) = false) ∧
    ((witMicrowordsAct2.dev.eng (0)).bpWait = none) ∧ ((witMicrowordsAct2.dev.eng (0)).micro[(witMicrowordsAct2.dev.eng (0)).top.pc]?
    = some ((0x12000000 : BitVec 48))) ∧ ((witMicrowordsAct2.dev.eng (0)).nano[uNano ((0x12000000 : BitVec 48))]?
    = some ((0x70400000000000000000000 : BitVec 192))) ∧ (nIllegal ((0x70400000000000000000000 : BitVec 192)) = false) ∧
    ((witMicrowordsAct2.dev.eng (0)).runBroken ((0x70400000000000000000000 : BitVec 192)) = false) ∧ (¬ (uSeq ((0x12000000 : BitVec 48)) = 2 ∧
    (witMicrowordsAct2.dev.meCond (0) (uCond ((0x12000000 : BitVec 48)))) = false)) ∧ (nChannel ((0x70400000000000000000000 : BitVec 192))
    = false) ∧ (witMicrowordsAct2.dev.meCause (0) ((0x12000000 : BitVec 48)) ((0x70400000000000000000000 : BitVec 192))
    (witMicrowordsAct2.dev.meCond (0) (uCond ((0x12000000 : BitVec 48)))) = 0) ∧ (witMicrowordsAct2.dev.berthMeets (0) ((0x12000000 : BitVec 48))
    ((0x70400000000000000000000 : BitVec 192)) = .served) ∧ ((witMicrowordsAct2.dev.meNext (witMicrowordsAct2.dev.eng (0))
    ((0x12000000 : BitVec 48)) ((0x70400000000000000000000 : BitVec 192)) (witMicrowordsAct2.dev.meCond (0) (uCond ((0x12000000 : BitVec 48)))))
    = .ok ({ pc := 9, stack := [] } : MeSeq)) ∧ ((ran (.meWord (0) {}) witMicrowordsAct2).sf = 0x80 ∧ ((ran (.meWord (0) {})
    witMicrowordsAct2).eng (0)).top.pc = 9) := by decide +kernel
theorem test_MicrowordsAct_3 : (witMicrowordsAct3.dev.meCanIssue (0) = true) ∧ (witMicrowordsAct3.dev.flag ME_STATUS.WAITING (0) = false) ∧
    ((witMicrowordsAct3.dev.eng (0)).bpWait = none) ∧ ((witMicrowordsAct3.dev.eng (0)).micro[(witMicrowordsAct3.dev.eng (0)).top.pc]?
    = some ((0x12000000 : BitVec 48))) ∧ ((witMicrowordsAct3.dev.eng (0)).nano[uNano ((0x12000000 : BitVec 48))]?
    = some ((0x5000000000000 : BitVec 192))) ∧ (nIllegal ((0x5000000000000 : BitVec 192)) = false) ∧
    ((witMicrowordsAct3.dev.eng (0)).runBroken ((0x5000000000000 : BitVec 192)) = false) ∧ (¬ (uSeq ((0x12000000 : BitVec 48)) = 2 ∧
    (witMicrowordsAct3.dev.meCond (0) (uCond ((0x12000000 : BitVec 48)))) = false)) ∧ (nChannel ((0x5000000000000 : BitVec 192)) = true) ∧
    (witMicrowordsAct3.dev.meCause (0) ((0x12000000 : BitVec 48)) ((0x5000000000000 : BitVec 192)) (witMicrowordsAct3.dev.meCond (0)
    (uCond ((0x12000000 : BitVec 48)))) = 0) ∧ (witMicrowordsAct3.dev.berthMeets (0) ((0x12000000 : BitVec 48)) ((0x5000000000000 : BitVec 192))
    = .served) ∧ ((ran (.meWord (0) {}) witMicrowordsAct3).eng (0)
    = { (witMicrowordsAct3.dev.eng (0)) with qpWait := some ((witMicrowordsAct3.dev.meCond (0) (uCond ((0x12000000 : BitVec 48)))), witMicrowordsAct3.dev.axisPort (witMicrowordsAct3.dev.eng (0)) ((0x5000000000000 : BitVec 192))) }
    ∧ (ran (.meWord (0) {}) witMicrowordsAct3).mem = witMicrowordsAct3.dev.mem ∧ (ran (.meWord (0) {})
    witMicrowordsAct3).qy = witMicrowordsAct3.dev.qy) := by decide +kernel
theorem test_MicrowordsAct_4 : (witMicrowordsAct4.dev.meCanIssue (0) = true) ∧ (witMicrowordsAct4.dev.flag ME_STATUS.WAITING (0) = false) ∧
    ((witMicrowordsAct4.dev.eng (0)).bpWait = none) ∧ ((witMicrowordsAct4.dev.eng (0)).micro[(witMicrowordsAct4.dev.eng (0)).top.pc]?
    = some ((0x129c0000 : BitVec 48))) ∧ ((witMicrowordsAct4.dev.eng (0)).nano[uNano ((0x129c0000 : BitVec 48))]? = some ((0 : BitVec 192))) ∧
    (nIllegal ((0 : BitVec 192)) = false) ∧ ((witMicrowordsAct4.dev.eng (0)).runBroken ((0 : BitVec 192)) = false) ∧
    (uSeq ((0x129c0000 : BitVec 48)) = 2) ∧ ((witMicrowordsAct4.dev.meCond (0) (uCond ((0x129c0000 : BitVec 48)))) = false) ∧ ((ran (.meWord (0)
    {}) witMicrowordsAct4).fld ME_STATUS.WAITING (0) = 1 ∧ (ran (.meWord (0) {}) witMicrowordsAct4).eng (0)
    = (witMicrowordsAct4.dev.eng (0)).fresh ∧ (ran (.meWord (0) {}) witMicrowordsAct4).mem = witMicrowordsAct4.dev.mem) := by decide +kernel
theorem test_MicrowordsAct_5 : (witMicrowordsAct5.dev.meCanIssue (0) = true) ∧ (witMicrowordsAct5.dev.flag ME_STATUS.WAITING (0) = false) ∧
    (witMicrowordsAct5.dev.flag ME_DCFG.AUTO_RELIEF (0) = false) ∧ (witMicrowordsAct5.dev.ops (witMicrowordsAct5.dev.meLogical (0)) = {}) ∧
    ((ran (.meWord (0) { micro := .bad }) witMicrowordsAct5).fld ME_FAULT.CAUSE (0) = 1 ∧ (ran (.meWord (0) { micro := .bad })
    witMicrowordsAct5).fld ME_FAULT.VALID (0) = 1 ∧ (ran (.meWord (0) { micro := .bad }) witMicrowordsAct5).fld ME_FAULT.FPC (0)
    = (witMicrowordsAct5.dev.eng (0)).top.pc % 2 ^ ME_FAULT.FPC.len ∧ (ran (.meWord (0) { micro := .bad })
    witMicrowordsAct5).fld ME_STATUS.RUNNING (0) = 0 ∧ (ran (.meWord (0) { micro := .bad }) witMicrowordsAct5).fld ME_STATUS.FAULT (0) = 1 ∧
    ((ran (.meWord (0) { micro := .bad }) witMicrowordsAct5).eng (0)).frames = [] ∧ ((ran (.meWord (0) { micro := .bad })
    witMicrowordsAct5).eng (0)).active = [] ∧ ((ran (.meWord (0) { micro := .bad })
    witMicrowordsAct5).eng (0)).pc = (witMicrowordsAct5.dev.eng (0)).top.pc ∧ ((ran (.meWord (0) { micro := .bad })
    witMicrowordsAct5).eng (0)).gpr = (witMicrowordsAct5.dev.eng (0)).gpr) := by decide +kernel
theorem test_MicrowordsAct_6 : (witMicrowordsAct6.dev.meCanIssue (0) = true) ∧ (witMicrowordsAct6.dev.flag ME_STATUS.WAITING (0) = true) ∧
    ((witMicrowordsAct6.dev.eng (0)).micro[(witMicrowordsAct6.dev.eng (0)).top.pc]? = some ((0x12a40000 : BitVec 48))) ∧
    ((witMicrowordsAct6.dev.meCond (0) (uCond ((0x12a40000 : BitVec 48)))) = true) ∧
    ((witMicrowordsAct6.dev.eng (0)).nano[uNano ((0x12a40000 : BitVec 48))]? = some ((0x10000000000000000000000000000 : BitVec 192))) ∧
    (nIllegal ((0x10000000000000000000000000000 : BitVec 192)) = false) ∧ ((witMicrowordsAct6.dev.setFld ME_STATUS.WAITING 0 (0)).meCause (0)
    ((0x12a40000 : BitVec 48)) ((0x10000000000000000000000000000 : BitVec 192)) true = 0) ∧
    ((witMicrowordsAct6.dev.setFld ME_STATUS.WAITING 0 (0)).berthMeets (0) ((0x12a40000 : BitVec 48))
    ((0x10000000000000000000000000000 : BitVec 192)) = .served) ∧ (nChannel ((0x10000000000000000000000000000 : BitVec 192)) = false) ∧
    ((witMicrowordsAct6.dev.setFld ME_STATUS.WAITING 0 (0)).meNext (witMicrowordsAct6.dev.eng (0)) ((0x12a40000 : BitVec 48))
    ((0x10000000000000000000000000000 : BitVec 192)) true = .ok ({ pc := 9, stack := [] } : MeSeq)) ∧ ((ran (.meWaitSatisfied (0) {})
    witMicrowordsAct6).fld ME_STATUS.WAITING (0) = 0 ∧ ((ran (.meWaitSatisfied (0) {}) witMicrowordsAct6).eng (0)).top.pc = 9) :=
    by decide +kernel
def witChannelWordsActInTheirScanSlot1 : State := st (fun d => let e : Dev := { (((ready d).setFld ME_STATUS.RUNNING 1).setFld (HM_ENG.QUAY) 0xFFFFFFFF) with boot := { loaded := true }, me := [(0, { qpWait := some (true, {}), micro := [0, 0x12000000], nano := [0x250000067e0000], frames := [{ pc := 1 }] })] }; e.setChan 0 { shown := { gen := 5, cmp := 77 } })
def witChannelWordsActInTheirScanSlot2 : State := st (fun d => let e : Dev := { (((ready d).setFld ME_STATUS.RUNNING 1).setFld (HM_ENG.QUAY) 0xFFFFFFFF) with boot := { loaded := true }, me := [(0, { qpWait := some (true, {}), micro := [0, 0x12000000], nano := [0x6016000000000000], frames := [{ pc := 1 }] })] }; e.setChan 0 { shown := { gen := 5, cmp := 77 } })
def witChannelWordsActInTheirScanSlot3 : State := st (fun d => let e : Dev := { (((ready d).setFld ME_STATUS.RUNNING 1).setFld (HM_ENG.QUAY) 0xFFFFFFFF) with boot := { loaded := true }, me := [(0, { qpWait := some (true, {}), micro := [0, 0x12000000], nano := [0x7000000000000], frames := [{ pc := 1 }] })] }; e.setChan 0 { shown := { gen := 5, cmp := 77 } })
def witChannelWordsActInTheirScanSlot4 : State := st (fun d => let e : Dev := { (((ready d).setFld ME_STATUS.RUNNING 1).setFld (HM_ENG.QUAY) 0xFFFFFFFF) with boot := { loaded := true }, me := [(0, { qpWait := some (true, {}), micro := [0, 0x12000000], nano := [0x8000000000000], frames := [{ pc := 1, slip := 7 }] })] }; e)
def witChannelWordsActInTheirScanSlot5 : State := st (fun d => let e : Dev := { (((ready d).setFld ME_STATUS.RUNNING 1).setFld (HM_ENG.QUAY) 0xFFFFFFFF) with boot := { loaded := true }, me := [(0, { qpWait := some (true, {}), micro := [0, 0x12000000], nano := [0x80000067e0000], frames := [{ pc := 1, slip := 1 + 1000 * 2 ^ 64 }] })] }; e.setChan 0 { gen := 0xFFFF })
def witChannelWordsActInTheirScanSlot6 : State := st (fun d => let e : Dev := { (((ready d).setFld ME_STATUS.RUNNING 1).setFld (HM_ENG.QUAY) 0xFFFFFFFF) with boot := { loaded := true }, me := [(0, { qpWait := some (true, {}), micro := [0, 0x12000000], nano := [0x9000000000000], frames := [{ pc := 1, slip := 7 }] })] }; e.setChan 0 { cur := some { gen := 9, ctrl := 1 }, cstate := 1, gen := 9 })
def witChannelWordsActInTheirScanSlot7 : State := st (fun d => let e : Dev := { (((ready d).setFld ME_STATUS.RUNNING 1).setFld (HM_ENG.QUAY) 0xFFFFFFFF) with boot := { loaded := true }, me := [(0, { qpWait := some (true, {}), micro := [0, 0x12000000], nano := [0x90000067e0000], frames := [{ pc := 1, slip := 1 + 5 * 2 ^ 64 }] })] }; e.setChan 0 { cur := some { gen := 9, ctrl := 1 }, cstate := 1, gen := 9 })
def witChannelWordsActInTheirScanSlot8 : State := st (fun d => let e : Dev := { (((ready d).setFld ME_STATUS.RUNNING 1).setFld (HM_ENG.QUAY) 0xFFFFFFFF) with boot := { loaded := true }, me := [(0, { qpWait := some (true, {}), micro := [0, 0x12000000], nano := [0xa000000000000], frames := [{ pc := 1 }] })] }; e.setChan 0 { cur := some { gen := 9, ctrl := 1 }, cstate := 1, gen := 9 })
def witChannelWordsActInTheirScanSlot9 : State := st (fun d => let e : Dev := { (((ready d).setFld ME_STATUS.RUNNING 1).setFld (HM_ENG.QUAY) 0xFFFFFFFF) with boot := { loaded := true }, me := [(0, { qpWait := some (true, {}), micro := [0, 0x12000000], nano := [0xa0000067e0000], frames := [{ pc := 1 }] })] }; e.setChan 0 { cur := some { gen := 9, ctrl := 1 }, cstate := 1, gen := 9 })
theorem test_ChannelWordsActInTheirScanSlot_1 : ((witChannelWordsActInTheirScanSlot1.dev.eng (0)).qpWait = some ((true), ({} : ApResult))) ∧
    (witChannelWordsActInTheirScanSlot1.dev.qpWord (0) = some (((0x12000000 : BitVec 48)), ((0x250000067e0000 : BitVec 192)))) ∧
    (witChannelWordsActInTheirScanSlot1.dev.meCause (0) ((0x12000000 : BitVec 48)) ((0x250000067e0000 : BitVec 192)) (true) = 0) ∧
    (witChannelWordsActInTheirScanSlot1.dev.berthMeets (0) ((0x12000000 : BitVec 48)) ((0x250000067e0000 : BitVec 192)) = .served) ∧
    (witChannelWordsActInTheirScanSlot1.dev.meNext (witChannelWordsActInTheirScanSlot1.dev.eng (0)) ((0x12000000 : BitVec 48))
    ((0x250000067e0000 : BitVec 192)) (true) = .ok ({ pc := 9, stack := [] } : MeSeq)) ∧ (nBp ((0x250000067e0000 : BitVec 192)) = 0 ∧
    nSp ((0x250000067e0000 : BitVec 192)) = 0 ∧ nAp ((0x250000067e0000 : BitVec 192)) = 0) ∧
    ((witChannelWordsActInTheirScanSlot1.dev.eng (0)).channel ((0x12000000 : BitVec 48)) ((0x250000067e0000 : BitVec 192)) = (0)) ∧
    (witChannelWordsActInTheirScanSlot1.dev.slotDue (0) = true) ∧ (witChannelWordsActInTheirScanSlot1.dev.qpWaits (0) = [(0)]) ∧
    ((witChannelWordsActInTheirScanSlot1.dev.chan (0)).cmds = []) ∧ (nQp ((0x250000067e0000 : BitVec 192)) = 5) ∧
    (nRdWe ((0x250000067e0000 : BitVec 192)) = true ∧ nWb ((0x250000067e0000 : BitVec 192)) = 3 ∧ nRd ((0x250000067e0000 : BitVec 192)) ≠ 0) ∧
    (((ran (.qpRead (0)) witChannelWordsActInTheirScanSlot1).eng (0)).reg (nRd ((0x250000067e0000 : BitVec 192)))
    = BitVec.ofNat 32 (cut (witChannelWordsActInTheirScanSlot1.dev.chBytes (0)) (32 * nQpWord ((0x250000067e0000 : BitVec 192))) 32) ∧
    ((ran (.qpRead (0)) witChannelWordsActInTheirScanSlot1).eng (0)).qpWait = none) := by decide +kernel
theorem test_ChannelWordsActInTheirScanSlot_2 : ((witChannelWordsActInTheirScanSlot2.dev.eng (0)).qpWait = some ((true), ({} : ApResult))) ∧
    (witChannelWordsActInTheirScanSlot2.dev.qpWord (0) = some (((0x12000000 : BitVec 48)), ((0x6016000000000000 : BitVec 192)))) ∧
    (witChannelWordsActInTheirScanSlot2.dev.meCause (0) ((0x12000000 : BitVec 48)) ((0x6016000000000000 : BitVec 192)) (true) = 0) ∧
    (witChannelWordsActInTheirScanSlot2.dev.berthMeets (0) ((0x12000000 : BitVec 48)) ((0x6016000000000000 : BitVec 192)) = .served) ∧
    (witChannelWordsActInTheirScanSlot2.dev.meNext (witChannelWordsActInTheirScanSlot2.dev.eng (0)) ((0x12000000 : BitVec 48))
    ((0x6016000000000000 : BitVec 192)) (true) = .ok ({ pc := 9, stack := [] } : MeSeq)) ∧ (nBp ((0x6016000000000000 : BitVec 192)) = 0 ∧
    nSp ((0x6016000000000000 : BitVec 192)) = 0 ∧ nAp ((0x6016000000000000 : BitVec 192)) = 0) ∧
    ((witChannelWordsActInTheirScanSlot2.dev.eng (0)).channel ((0x12000000 : BitVec 48)) ((0x6016000000000000 : BitVec 192)) = (0)) ∧
    (witChannelWordsActInTheirScanSlot2.dev.slotDue (0) = true) ∧ (witChannelWordsActInTheirScanSlot2.dev.qpWaits (0) = [(0)]) ∧
    ((witChannelWordsActInTheirScanSlot2.dev.chan (0)).cmds = []) ∧ (nQp ((0x6016000000000000 : BitVec 192)) = 6) ∧
    (nAxOp ((0x6016000000000000 : BitVec 192)) = 0) ∧ (((ran (.qpRead (0))
    witChannelWordsActInTheirScanSlot2).eng (0)).areg (nQpAr ((0x6016000000000000 : BitVec 192)))
    = BitVec.ofNat 64 (cut (witChannelWordsActInTheirScanSlot2.dev.chBytes (0)) (32 * nQpWord ((0x6016000000000000 : BitVec 192))) 64) ∧
    ((ran (.qpRead (0)) witChannelWordsActInTheirScanSlot2).eng (0)).qpWait = none) := by decide +kernel
theorem test_ChannelWordsActInTheirScanSlot_3 : ((witChannelWordsActInTheirScanSlot3.dev.eng (0)).qpWait = some ((true), ({} : ApResult))) ∧
    (witChannelWordsActInTheirScanSlot3.dev.qpWord (0) = some (((0x12000000 : BitVec 48)), ((0x7000000000000 : BitVec 192)))) ∧
    (witChannelWordsActInTheirScanSlot3.dev.meCause (0) ((0x12000000 : BitVec 48)) ((0x7000000000000 : BitVec 192)) (true) = 0) ∧
    (witChannelWordsActInTheirScanSlot3.dev.berthMeets (0) ((0x12000000 : BitVec 48)) ((0x7000000000000 : BitVec 192)) = .served) ∧
    (witChannelWordsActInTheirScanSlot3.dev.meNext (witChannelWordsActInTheirScanSlot3.dev.eng (0)) ((0x12000000 : BitVec 48))
    ((0x7000000000000 : BitVec 192)) (true) = .ok ({ pc := 9, stack := [] } : MeSeq)) ∧ (nBp ((0x7000000000000 : BitVec 192)) = 0 ∧
    nSp ((0x7000000000000 : BitVec 192)) = 0 ∧ nAp ((0x7000000000000 : BitVec 192)) = 0) ∧
    ((witChannelWordsActInTheirScanSlot3.dev.eng (0)).channel ((0x12000000 : BitVec 48)) ((0x7000000000000 : BitVec 192)) = (0)) ∧
    (witChannelWordsActInTheirScanSlot3.dev.slotDue (0) = true) ∧ (witChannelWordsActInTheirScanSlot3.dev.qpWaits (0) = [(0)]) ∧
    ((witChannelWordsActInTheirScanSlot3.dev.chan (0)).cmds = []) ∧ (nQp ((0x7000000000000 : BitVec 192)) = 7) ∧
    (({ pc := 9, stack := [] } : MeSeq).exit = false) ∧ (((ran (.qpLoadslip (0))
    witChannelWordsActInTheirScanSlot3).eng (0)).top.slip = BitVec.ofNat 384 (witChannelWordsActInTheirScanSlot3.dev.chBytes (0)) ∧
    ((ran (.qpLoadslip (0)) witChannelWordsActInTheirScanSlot3).eng (0)).top.qe = false ∧ ((ran (.qpLoadslip (0))
    witChannelWordsActInTheirScanSlot3).eng (0)).qpWait = none) := by decide +kernel
theorem test_ChannelWordsActInTheirScanSlot_4 : ((witChannelWordsActInTheirScanSlot4.dev.eng (0)).qpWait = some ((true), ({} : ApResult))) ∧
    (witChannelWordsActInTheirScanSlot4.dev.qpWord (0) = some (((0x12000000 : BitVec 48)), ((0x8000000000000 : BitVec 192)))) ∧
    (witChannelWordsActInTheirScanSlot4.dev.meCause (0) ((0x12000000 : BitVec 48)) ((0x8000000000000 : BitVec 192)) (true) = 0) ∧
    (witChannelWordsActInTheirScanSlot4.dev.berthMeets (0) ((0x12000000 : BitVec 48)) ((0x8000000000000 : BitVec 192)) = .served) ∧
    (witChannelWordsActInTheirScanSlot4.dev.meNext (witChannelWordsActInTheirScanSlot4.dev.eng (0)) ((0x12000000 : BitVec 48))
    ((0x8000000000000 : BitVec 192)) (true) = .ok ({ pc := 9, stack := [] } : MeSeq)) ∧ (nBp ((0x8000000000000 : BitVec 192)) = 0 ∧
    nSp ((0x8000000000000 : BitVec 192)) = 0 ∧ nAp ((0x8000000000000 : BitVec 192)) = 0) ∧
    ((witChannelWordsActInTheirScanSlot4.dev.eng (0)).channel ((0x12000000 : BitVec 48)) ((0x8000000000000 : BitVec 192)) = (0)) ∧
    (witChannelWordsActInTheirScanSlot4.dev.slotDue (0) = true) ∧ (witChannelWordsActInTheirScanSlot4.dev.qpWaits (0) = [(0)]) ∧
    ((witChannelWordsActInTheirScanSlot4.dev.chan (0)).cmds = []) ∧ (nQp ((0x8000000000000 : BitVec 192)) = 8) ∧
    (({ pc := 9, stack := [] } : MeSeq).exit = false) ∧ (((ran (.qpArm (0))
    witChannelWordsActInTheirScanSlot4).eng (0)).top.qe = decide (witChannelWordsActInTheirScanSlot4.dev.armCheck (0)
    (ChItem.ofBytes (witChannelWordsActInTheirScanSlot4.dev.eng (0)).top.slip.toNat 0) ≠ 0) ∧ ((ran (.qpArm (0))
    witChannelWordsActInTheirScanSlot4).eng (0)).qpWait = none) := by decide +kernel
theorem test_ChannelWordsActInTheirScanSlot_5 : ((witChannelWordsActInTheirScanSlot5.dev.eng (0)).qpWait = some ((true), ({} : ApResult))) ∧
    (witChannelWordsActInTheirScanSlot5.dev.qpWord (0) = some (((0x12000000 : BitVec 48)), ((0x80000067e0000 : BitVec 192)))) ∧
    (witChannelWordsActInTheirScanSlot5.dev.meCause (0) ((0x12000000 : BitVec 48)) ((0x80000067e0000 : BitVec 192)) (true) = 0) ∧
    (witChannelWordsActInTheirScanSlot5.dev.berthMeets (0) ((0x12000000 : BitVec 48)) ((0x80000067e0000 : BitVec 192)) = .served) ∧
    (witChannelWordsActInTheirScanSlot5.dev.meNext (witChannelWordsActInTheirScanSlot5.dev.eng (0)) ((0x12000000 : BitVec 48))
    ((0x80000067e0000 : BitVec 192)) (true) = .ok ({ pc := 9, stack := [] } : MeSeq)) ∧ (nBp ((0x80000067e0000 : BitVec 192)) = 0 ∧
    nSp ((0x80000067e0000 : BitVec 192)) = 0 ∧ nAp ((0x80000067e0000 : BitVec 192)) = 0) ∧
    ((witChannelWordsActInTheirScanSlot5.dev.eng (0)).channel ((0x12000000 : BitVec 48)) ((0x80000067e0000 : BitVec 192)) = (0)) ∧
    (witChannelWordsActInTheirScanSlot5.dev.slotDue (0) = true) ∧ (witChannelWordsActInTheirScanSlot5.dev.qpWaits (0) = [(0)]) ∧
    ((witChannelWordsActInTheirScanSlot5.dev.chan (0)).cmds = []) ∧ (nQp ((0x80000067e0000 : BitVec 192)) = 8) ∧
    (nRdWe ((0x80000067e0000 : BitVec 192)) = true ∧ nWb ((0x80000067e0000 : BitVec 192)) = 3 ∧ nRd ((0x80000067e0000 : BitVec 192)) ≠ 0) ∧
    ((witChannelWordsActInTheirScanSlot5.dev.chan (0)).inputs = []) ∧ ((witChannelWordsActInTheirScanSlot5.dev.chan (0)).tails = []) ∧
    ((witChannelWordsActInTheirScanSlot5.dev.chan (0)).owed = none) ∧ ((witChannelWordsActInTheirScanSlot5.dev.chan (0)).frozen = false) ∧
    (witChannelWordsActInTheirScanSlot5.dev.armCheck (0) (ChItem.ofBytes (witChannelWordsActInTheirScanSlot5.dev.eng (0)).top.slip.toNat 0) = 0) ∧
    ((ChItem.ofBytes (witChannelWordsActInTheirScanSlot5.dev.eng (0)).top.slip.toNat 0).gated = false) ∧
    ((witChannelWordsActInTheirScanSlot5.dev.chan (0)).cur = none) ∧ ((witChannelWordsActInTheirScanSlot5.dev.chan (0)).queued = none) ∧
    ((witChannelWordsActInTheirScanSlot5.dev.chan (0)).cstate ≠ 4) ∧ (((ran (.qpArm (0))
    witChannelWordsActInTheirScanSlot5).chan (0)).cur = some { (ChItem.ofBytes (witChannelWordsActInTheirScanSlot5.dev.eng (0)).top.slip.toNat 0) with gen := nextGen (witChannelWordsActInTheirScanSlot5.dev.chan (0)).gen }
    ∧ ((ran (.qpArm (0)) witChannelWordsActInTheirScanSlot5).chan (0)).gen = nextGen (witChannelWordsActInTheirScanSlot5.dev.chan (0)).gen ∧
    ((ran (.qpArm (0)) witChannelWordsActInTheirScanSlot5).eng (0)).reg (nRd ((0x80000067e0000 : BitVec 192)))
    = BitVec.ofNat 32 (pack [(0, 16, nextGen (witChannelWordsActInTheirScanSlot5.dev.chan (0)).gen), (16, 8, 0), (24, 3, ((ran (.qpArm (0)) witChannelWordsActInTheirScanSlot5).chan (0)).cstate)]))
    := by decide +kernel
theorem test_ChannelWordsActInTheirScanSlot_6 : ((witChannelWordsActInTheirScanSlot6.dev.eng (0)).qpWait = some ((true), ({} : ApResult))) ∧
    (witChannelWordsActInTheirScanSlot6.dev.qpWord (0) = some (((0x12000000 : BitVec 48)), ((0x9000000000000 : BitVec 192)))) ∧
    (witChannelWordsActInTheirScanSlot6.dev.meCause (0) ((0x12000000 : BitVec 48)) ((0x9000000000000 : BitVec 192)) (true) = 0) ∧
    (witChannelWordsActInTheirScanSlot6.dev.berthMeets (0) ((0x12000000 : BitVec 48)) ((0x9000000000000 : BitVec 192)) = .served) ∧
    (witChannelWordsActInTheirScanSlot6.dev.meNext (witChannelWordsActInTheirScanSlot6.dev.eng (0)) ((0x12000000 : BitVec 48))
    ((0x9000000000000 : BitVec 192)) (true) = .ok ({ pc := 9, stack := [] } : MeSeq)) ∧ (nBp ((0x9000000000000 : BitVec 192)) = 0 ∧
    nSp ((0x9000000000000 : BitVec 192)) = 0 ∧ nAp ((0x9000000000000 : BitVec 192)) = 0) ∧
    ((witChannelWordsActInTheirScanSlot6.dev.eng (0)).channel ((0x12000000 : BitVec 48)) ((0x9000000000000 : BitVec 192)) = (0)) ∧
    (witChannelWordsActInTheirScanSlot6.dev.slotDue (0) = true) ∧ (witChannelWordsActInTheirScanSlot6.dev.qpWaits (0) = [(0)]) ∧
    ((witChannelWordsActInTheirScanSlot6.dev.chan (0)).cmds = []) ∧ (nQp ((0x9000000000000 : BitVec 192)) = 9) ∧
    (({ pc := 9, stack := [] } : MeSeq).exit = false) ∧ ((witChannelWordsActInTheirScanSlot6.dev.chan (0)).cur = some
    ({ gen := 9, ctrl := 1 } : ChItem)) ∧ (((ran (.qpUpdate (0))
    witChannelWordsActInTheirScanSlot6).eng (0)).top.qe = witChannelWordsActInTheirScanSlot6.dev.rangeBad
    (({ gen := 9, ctrl := 1 } : ChItem).updated (ChItem.ofBytes (witChannelWordsActInTheirScanSlot6.dev.eng (0)).top.slip.toNat 0) 0x7F) ∧
    ((ran (.qpUpdate (0)) witChannelWordsActInTheirScanSlot6).eng (0)).qpWait = none) := by decide +kernel
theorem test_ChannelWordsActInTheirScanSlot_7 : ((witChannelWordsActInTheirScanSlot7.dev.eng (0)).qpWait = some ((true), ({} : ApResult))) ∧
    (witChannelWordsActInTheirScanSlot7.dev.qpWord (0) = some (((0x12000000 : BitVec 48)), ((0x90000067e0000 : BitVec 192)))) ∧
    (witChannelWordsActInTheirScanSlot7.dev.meCause (0) ((0x12000000 : BitVec 48)) ((0x90000067e0000 : BitVec 192)) (true) = 0) ∧
    (witChannelWordsActInTheirScanSlot7.dev.berthMeets (0) ((0x12000000 : BitVec 48)) ((0x90000067e0000 : BitVec 192)) = .served) ∧
    (witChannelWordsActInTheirScanSlot7.dev.meNext (witChannelWordsActInTheirScanSlot7.dev.eng (0)) ((0x12000000 : BitVec 48))
    ((0x90000067e0000 : BitVec 192)) (true) = .ok ({ pc := 9, stack := [] } : MeSeq)) ∧ (nBp ((0x90000067e0000 : BitVec 192)) = 0 ∧
    nSp ((0x90000067e0000 : BitVec 192)) = 0 ∧ nAp ((0x90000067e0000 : BitVec 192)) = 0) ∧
    ((witChannelWordsActInTheirScanSlot7.dev.eng (0)).channel ((0x12000000 : BitVec 48)) ((0x90000067e0000 : BitVec 192)) = (0)) ∧
    (witChannelWordsActInTheirScanSlot7.dev.slotDue (0) = true) ∧ (witChannelWordsActInTheirScanSlot7.dev.qpWaits (0) = [(0)]) ∧
    ((witChannelWordsActInTheirScanSlot7.dev.chan (0)).cmds = []) ∧ (nQp ((0x90000067e0000 : BitVec 192)) = 9) ∧
    (nRdWe ((0x90000067e0000 : BitVec 192)) = true ∧ nWb ((0x90000067e0000 : BitVec 192)) = 3 ∧ nRd ((0x90000067e0000 : BitVec 192)) ≠ 0) ∧
    ((witChannelWordsActInTheirScanSlot7.dev.chan (0)).inputs = []) ∧ ((witChannelWordsActInTheirScanSlot7.dev.chan (0)).tails = []) ∧
    ((witChannelWordsActInTheirScanSlot7.dev.chan (0)).owed = none) ∧ ((witChannelWordsActInTheirScanSlot7.dev.chan (0)).frozen = false) ∧
    ((witChannelWordsActInTheirScanSlot7.dev.chan (0)).cur = some ({ gen := 9, ctrl := 1 } : ChItem)) ∧
    (({ gen := 9, ctrl := 1 } : ChItem).mode = 1) ∧ (({ gen := 9, ctrl := 1 } : ChItem).gated = false) ∧
    (({ gen := 9, ctrl := 1 } : ChItem).gen < 65536) ∧ (witChannelWordsActInTheirScanSlot7.dev.rangeBad (({ gen := 9, ctrl := 1 }
    : ChItem).updated (ChItem.ofBytes (witChannelWordsActInTheirScanSlot7.dev.eng (0)).top.slip.toNat 0) 0x7F) = false) ∧ (((ran (.qpUpdate (0))
    witChannelWordsActInTheirScanSlot7).chan (0)).cur = some (({ gen := 9, ctrl := 1 }
    : ChItem).updated (ChItem.ofBytes (witChannelWordsActInTheirScanSlot7.dev.eng (0)).top.slip.toNat 0) 0x7F) ∧ ((ran (.qpUpdate (0))
    witChannelWordsActInTheirScanSlot7).chan (0)).gen = (witChannelWordsActInTheirScanSlot7.dev.chan (0)).gen ∧ ((ran (.qpUpdate (0))
    witChannelWordsActInTheirScanSlot7).eng (0)).reg (nRd ((0x90000067e0000 : BitVec 192)))
    = BitVec.ofNat 32 (pack [(0, 16, ({ gen := 9, ctrl := 1 } : ChItem).gen), (16, 8, 0), (24, 3, ((ran (.qpUpdate (0)) witChannelWordsActInTheirScanSlot7).chan (0)).cstate)]))
    := by decide +kernel
theorem test_ChannelWordsActInTheirScanSlot_8 : ((witChannelWordsActInTheirScanSlot8.dev.eng (0)).qpWait = some ((true), ({} : ApResult))) ∧
    (witChannelWordsActInTheirScanSlot8.dev.qpWord (0) = some (((0x12000000 : BitVec 48)), ((0xa000000000000 : BitVec 192)))) ∧
    (witChannelWordsActInTheirScanSlot8.dev.meCause (0) ((0x12000000 : BitVec 48)) ((0xa000000000000 : BitVec 192)) (true) = 0) ∧
    (witChannelWordsActInTheirScanSlot8.dev.berthMeets (0) ((0x12000000 : BitVec 48)) ((0xa000000000000 : BitVec 192)) = .served) ∧
    (witChannelWordsActInTheirScanSlot8.dev.meNext (witChannelWordsActInTheirScanSlot8.dev.eng (0)) ((0x12000000 : BitVec 48))
    ((0xa000000000000 : BitVec 192)) (true) = .ok ({ pc := 9, stack := [] } : MeSeq)) ∧ (nBp ((0xa000000000000 : BitVec 192)) = 0 ∧
    nSp ((0xa000000000000 : BitVec 192)) = 0 ∧ nAp ((0xa000000000000 : BitVec 192)) = 0) ∧
    ((witChannelWordsActInTheirScanSlot8.dev.eng (0)).channel ((0x12000000 : BitVec 48)) ((0xa000000000000 : BitVec 192)) = (0)) ∧
    (witChannelWordsActInTheirScanSlot8.dev.slotDue (0) = true) ∧ (witChannelWordsActInTheirScanSlot8.dev.qpWaits (0) = [(0)]) ∧
    ((witChannelWordsActInTheirScanSlot8.dev.chan (0)).cmds = []) ∧ (nQp ((0xa000000000000 : BitVec 192)) = 10) ∧
    (({ pc := 9, stack := [] } : MeSeq).exit = false) ∧ (((ran (.qpDisarm (0)) witChannelWordsActInTheirScanSlot8).eng (0)).top.qe = false ∧
    ((ran (.qpDisarm (0)) witChannelWordsActInTheirScanSlot8).eng (0)).qpWait = none) := by decide +kernel
theorem test_ChannelWordsActInTheirScanSlot_9 : ((witChannelWordsActInTheirScanSlot9.dev.eng (0)).qpWait = some ((true), ({} : ApResult))) ∧
    (witChannelWordsActInTheirScanSlot9.dev.qpWord (0) = some (((0x12000000 : BitVec 48)), ((0xa0000067e0000 : BitVec 192)))) ∧
    (witChannelWordsActInTheirScanSlot9.dev.meCause (0) ((0x12000000 : BitVec 48)) ((0xa0000067e0000 : BitVec 192)) (true) = 0) ∧
    (witChannelWordsActInTheirScanSlot9.dev.berthMeets (0) ((0x12000000 : BitVec 48)) ((0xa0000067e0000 : BitVec 192)) = .served) ∧
    (witChannelWordsActInTheirScanSlot9.dev.meNext (witChannelWordsActInTheirScanSlot9.dev.eng (0)) ((0x12000000 : BitVec 48))
    ((0xa0000067e0000 : BitVec 192)) (true) = .ok ({ pc := 9, stack := [] } : MeSeq)) ∧ (nBp ((0xa0000067e0000 : BitVec 192)) = 0 ∧
    nSp ((0xa0000067e0000 : BitVec 192)) = 0 ∧ nAp ((0xa0000067e0000 : BitVec 192)) = 0) ∧
    ((witChannelWordsActInTheirScanSlot9.dev.eng (0)).channel ((0x12000000 : BitVec 48)) ((0xa0000067e0000 : BitVec 192)) = (0)) ∧
    (witChannelWordsActInTheirScanSlot9.dev.slotDue (0) = true) ∧ (witChannelWordsActInTheirScanSlot9.dev.qpWaits (0) = [(0)]) ∧
    ((witChannelWordsActInTheirScanSlot9.dev.chan (0)).cmds = []) ∧ (nQp ((0xa0000067e0000 : BitVec 192)) = 10) ∧
    (nRdWe ((0xa0000067e0000 : BitVec 192)) = true ∧ nWb ((0xa0000067e0000 : BitVec 192)) = 3 ∧ nRd ((0xa0000067e0000 : BitVec 192)) ≠ 0) ∧
    ((witChannelWordsActInTheirScanSlot9.dev.chan (0)).inputs = []) ∧ ((witChannelWordsActInTheirScanSlot9.dev.chan (0)).tails = []) ∧
    ((witChannelWordsActInTheirScanSlot9.dev.chan (0)).owed = none) ∧ ((witChannelWordsActInTheirScanSlot9.dev.chan (0)).frozen = false) ∧
    ((witChannelWordsActInTheirScanSlot9.dev.chan (0)).cur = some ({ gen := 9, ctrl := 1 } : ChItem)) ∧
    (({ gen := 9, ctrl := 1 } : ChItem).mode = 1) ∧ (({ gen := 9, ctrl := 1 } : ChItem).gen < 65536) ∧
    ((witChannelWordsActInTheirScanSlot9.dev.chan (0)).started = false) ∧ ((witChannelWordsActInTheirScanSlot9.dev.chan (0)).queued = none) ∧
    (witChannelWordsActInTheirScanSlot9.dev.hasEdges (0) = false) ∧ (((ran (.qpDisarm (0))
    witChannelWordsActInTheirScanSlot9).chan (0)).cur = none ∧ ((ran (.qpDisarm (0)) witChannelWordsActInTheirScanSlot9).chan (0)).cstate = 0 ∧
    ((ran (.qpDisarm (0)) witChannelWordsActInTheirScanSlot9).chan (0)).gen = (witChannelWordsActInTheirScanSlot9.dev.chan (0)).gen ∧
    ((ran (.qpDisarm (0)) witChannelWordsActInTheirScanSlot9).eng (0)).reg (nRd ((0xa0000067e0000 : BitVec 192)))
    = BitVec.ofNat 32 (pack [(0, 16, ({ gen := 9, ctrl := 1 } : ChItem).gen), (16, 8, 0), (24, 3, ((ran (.qpDisarm (0)) witChannelWordsActInTheirScanSlot9).chan (0)).cstate)]))
    := by decide +kernel
def witEnginesDispatchFailAndAreRelieved1 : State := st (fun d => let e := (((ready d).setFld ME_STATUS.RUNNING 1).setFld SL_TGT.KIND 1 5).setPend 5 true; { e with boot := { loaded := true }, me := [(0, { vectors := [100] })], sl := { srcs := [(5, { count := 1, recs := [7] })] } })
def witEnginesDispatchFailAndAreRelieved2 : State := st (fun d => let e := (((ready d).setFld ME_STATUS.RUNNING 1).setFld SL_TGT.KIND 1 5).setPend 5 true; { e with boot := { loaded := true }, me := [(0, { vectors := [] })], sl := { srcs := [(5, { count := 1, recs := [7] })] } })
def witEnginesDispatchFailAndAreRelieved3 : State := st (fun d => { d with me := [(25, { timer := 1 })] })
def witEnginesDispatchFailAndAreRelieved4 : State := st (fun d => { ((((ready d).setFld ME_STATUS.RUNNING 1).setFld ME_WDOG.WD_US 1).setFld ME_DCFG.AUTO_RELIEF 0) with boot := { loaded := true }, me := [(0, { frames := [{}] })], tb := { eclk := 500 } })
def witEnginesDispatchFailAndAreRelieved5 : State := st (fun d => { d.setFld ME_RELIEF.COPYING 1 with me := [(23, { micro := [5], gpr := [(2, 2)] })], mo := [(23, { relief := some { old := 23, new := 24, cmd := some {} } })] })
def witEnginesDispatchFailAndAreRelieved6 : State := st (fun d => { d with me := [(3, { recover_ := 8, frames := [{}] })], mo := [(3, { relief := some { old := 3, new := 24, cmd := none, cause := some 1 } })] })
def witEnginesDispatchFailAndAreRelieved7 : State := st (fun d => { (d.setFld ME_STATUS.RUNNING 1 3).setFld ME_IMAGE.ACT 1 3 with me := [(3, { recover_ := 8, frames := [{}], gpr := [(4, 4)] })], mo := [(3, { relief := some { old := 3, new := 24, cmd := some {}, copied := true } })] })
def witEnginesDispatchFailAndAreRelieved8 : State := st (fun d => { ((d.setFld ME_RELIEF.WARM_EN 1 1).setFld ME_RELIEF.COPYING 1 1).setFld ME_RELIEF.WARM_FOR 7 1 with me := [(7, { micro := [5], frames := [{}] })] })
def witEnginesDispatchFailAndAreRelieved9 : State := st (fun d => { d.setFld ME_STATUS.RUNNING 1 3 with me := [(3, { frames := [{}] })], mo := [(3, { load := some { cmd := {}, target := 3, space := 0, addr := 0, len := 99, halting := true } })] })
def witEnginesDispatchFailAndAreRelieved10 : State := st (fun d => { d with mo := [(3, { load := some { cmd := {}, target := 3, space := 0, addr := 0, len := 0 } })] })
def witEnginesDispatchFailAndAreRelieved11 : State := st (fun d => { d with me := [(3, { frames := [{}, { src := some (5, 0) }] })], mo := [(3, { act := some { cmd := {}, keep := false, due := 0 } })] })
def witEnginesDispatchFailAndAreRelieved12 : State := st (fun d => { d with me := [(23, { base_ := 6 }), (24, { gpr := [(2, 2)] })], mo := [(23, { serv := some 24, act := some { cmd := {}, keep := true, due := 0 } })] })
theorem test_EnginesDispatchFailAndAreRelieved_1 : (witEnginesDispatchFailAndAreRelieved1.dev.meServes (0) = true) ∧
    (witEnginesDispatchFailAndAreRelieved1.dev.flag ME_STATUS.RUNNING (0) = true) ∧
    (witEnginesDispatchFailAndAreRelieved1.dev.flag ME_STATUS.FAULT (0) = false) ∧ (witEnginesDispatchFailAndAreRelieved1.dev.flag ME_DSTAT.HELD
    (0) = false) ∧ ((witEnginesDispatchFailAndAreRelieved1.dev.eng (0)).sampled = true) ∧
    ((witEnginesDispatchFailAndAreRelieved1.dev.eng (0)).qpWait = none) ∧ (witEnginesDispatchFailAndAreRelieved1.dev.meWinner (0) = some (5)) ∧
    ((witEnginesDispatchFailAndAreRelieved1.dev.eng (0)).frames.length < 8) ∧ ((witEnginesDispatchFailAndAreRelieved1.dev.eng (0)).vectors.getD
    (witEnginesDispatchFailAndAreRelieved1.dev.grpOf (5)) 0xFFFF = (100)) ∧ ((100) ≠ 0xFFFF) ∧ (((ran (.meDispatch (0))
    witEnginesDispatchFailAndAreRelieved1).eng (0)).frames = (witEnginesDispatchFailAndAreRelieved1.dev.eng
    (0)).frames ++ [{ pc := (100), ev := (witEnginesDispatchFailAndAreRelieved1.dev.meTake (5)).1.take 3, src := some ((5), recsGen (witEnginesDispatchFailAndAreRelieved1.dev.meTake (5)).1), grp := witEnginesDispatchFailAndAreRelieved1.dev.meGroup (0) (5) }]
    ∧ ((ran (.meDispatch (0)) witEnginesDispatchFailAndAreRelieved1).eng (0)).active = (witEnginesDispatchFailAndAreRelieved1.dev.eng
    (0)).active ++ [{ src := (5), gen := recsGen (witEnginesDispatchFailAndAreRelieved1.dev.meTake (5)).1, frame := (witEnginesDispatchFailAndAreRelieved1.dev.eng (0)).frames.length }]
    ∧ (ran (.meDispatch (0)) witEnginesDispatchFailAndAreRelieved1).fld ME_STATUS.WAITING (0) = 0 ∧
    (witEnginesDispatchFailAndAreRelieved1.dev.hasItem (5) = false → (ran (.meDispatch (0)) witEnginesDispatchFailAndAreRelieved1).pend (5)
    = false)) := by decide +kernel
theorem test_EnginesDispatchFailAndAreRelieved_2 : (witEnginesDispatchFailAndAreRelieved2.dev.meServes (0) = true) ∧
    (witEnginesDispatchFailAndAreRelieved2.dev.flag ME_STATUS.RUNNING (0) = true) ∧
    (witEnginesDispatchFailAndAreRelieved2.dev.flag ME_STATUS.FAULT (0) = false) ∧ (witEnginesDispatchFailAndAreRelieved2.dev.flag ME_DSTAT.HELD
    (0) = false) ∧ ((witEnginesDispatchFailAndAreRelieved2.dev.eng (0)).sampled = true) ∧
    ((witEnginesDispatchFailAndAreRelieved2.dev.eng (0)).qpWait = none) ∧ (witEnginesDispatchFailAndAreRelieved2.dev.meWinner (0) = some (5)) ∧
    ((witEnginesDispatchFailAndAreRelieved2.dev.eng (0)).frames.length < 8) ∧ ((witEnginesDispatchFailAndAreRelieved2.dev.eng (0)).vectors.getD
    (witEnginesDispatchFailAndAreRelieved2.dev.grpOf (5)) 0xFFFF = (0xFFFF)) ∧ ((0xFFFF) = 0xFFFF) ∧ ((ran (.meDispatch (0))
    witEnginesDispatchFailAndAreRelieved2).eng (0) = (witEnginesDispatchFailAndAreRelieved2.dev.eng (0)) ∧ (ran (.meDispatch (0))
    witEnginesDispatchFailAndAreRelieved2).sl.rises.map (fun r => r.src) = [0x7C0]) := by decide +kernel
theorem test_EnginesDispatchFailAndAreRelieved_3 : ((25) < 26) ∧ ((witEnginesDispatchFailAndAreRelieved3.dev.eng (25)).timer = 1) ∧
    ((ran (.meTimerExpire (25)) witEnginesDispatchFailAndAreRelieved3) = witEnginesDispatchFailAndAreRelieved3.dev.setEng (25)
    { (witEnginesDispatchFailAndAreRelieved3.dev.eng (25)) with timer := 0 }) := by decide +kernel
theorem test_EnginesDispatchFailAndAreRelieved_4 : (witEnginesDispatchFailAndAreRelieved4.dev.meServes (0) = true) ∧
    (witEnginesDispatchFailAndAreRelieved4.dev.flag ME_STATUS.RUNNING (0) = true) ∧ ((witEnginesDispatchFailAndAreRelieved4.dev.eng (0)).frames ≠
    []) ∧ (witEnginesDispatchFailAndAreRelieved4.dev.fld ME_WDOG.WD_US (0) ≠ 0) ∧
    (witEnginesDispatchFailAndAreRelieved4.dev.ops (witEnginesDispatchFailAndAreRelieved4.dev.meLogical (0)) = {}) ∧
    ((witEnginesDispatchFailAndAreRelieved4.dev.eng (0)).beat + 1000 * witEnginesDispatchFailAndAreRelieved4.dev.fld ME_WDOG.WD_US (0)
    ≤ 2 * witEnginesDispatchFailAndAreRelieved4.dev.tb.eclk) ∧ (witEnginesDispatchFailAndAreRelieved4.dev.flag ME_DCFG.AUTO_RELIEF (0) = false) ∧
    ((ran (.heartbeatExpire (0)) witEnginesDispatchFailAndAreRelieved4).fld ME_FAULT.CAUSE (0) = 0x10 ∧ (ran (.heartbeatExpire (0))
    witEnginesDispatchFailAndAreRelieved4).fld ME_FAULT.VALID (0) = 1 ∧ (ran (.heartbeatExpire (0))
    witEnginesDispatchFailAndAreRelieved4).fld ME_STATUS.RUNNING (0) = 0 ∧ (ran (.heartbeatExpire (0))
    witEnginesDispatchFailAndAreRelieved4).fld ME_STATUS.FAULT (0) = 1 ∧ ((ran (.heartbeatExpire (0))
    witEnginesDispatchFailAndAreRelieved4).eng (0)).frames = []) := by decide +kernel
theorem test_EnginesDispatchFailAndAreRelieved_5 : ((witEnginesDispatchFailAndAreRelieved5.dev.ops
    (23)).relief = some ({ old := 23, new := 24, cmd := some {} } : MeRelief)) ∧ (({ old := 23, new := 24, cmd := some {} } : MeRelief).copied
    = false) ∧ (({ old := 23, new := 24, cmd := some {} } : MeRelief).cause = none) ∧
    (24 ≤ ({ old := 23, new := 24, cmd := some {} } : MeRelief).new) ∧ ((ran (.reliefCopyDone (23) false)
    witEnginesDispatchFailAndAreRelieved5).eng ({ old := 23, new := 24, cmd := some {} }
    : MeRelief).new = (witEnginesDispatchFailAndAreRelieved5.dev.eng ({ old := 23, new := 24, cmd := some {} } : MeRelief).old).storesOnly ∧
    ((ran (.reliefCopyDone (23) false) witEnginesDispatchFailAndAreRelieved5).ops (23)).relief = some
    { ({ old := 23, new := 24, cmd := some {} } : MeRelief) with copied := true } ∧ ((ran (.reliefCopyDone (23) false)
    witEnginesDispatchFailAndAreRelieved5).ops (23)).serv = (witEnginesDispatchFailAndAreRelieved5.dev.ops (23)).serv ∧ (ran (.reliefCopyDone (23)
    false) witEnginesDispatchFailAndAreRelieved5).fld ME_RELIEF.COPYING (({ old := 23, new := 24, cmd := some {} } : MeRelief).new - 24) = 0) :=
    by decide +kernel
theorem test_EnginesDispatchFailAndAreRelieved_6 : ((witEnginesDispatchFailAndAreRelieved6.dev.ops
    (3)).relief = some ({ old := 3, new := 24, cmd := none, cause := some 1 } : MeRelief)) ∧
    (({ old := 3, new := 24, cmd := none, cause := some 1 } : MeRelief).copied = false) ∧
    (({ old := 3, new := 24, cmd := none, cause := some 1 } : MeRelief).cause = some (1)) ∧
    (({ old := 3, new := 24, cmd := none, cause := some 1 } : MeRelief).old
    ≠ ({ old := 3, new := 24, cmd := none, cause := some 1 } : MeRelief).new) ∧ (((ran (.reliefCopyDone (3) false)
    witEnginesDispatchFailAndAreRelieved6).eng ({ old := 3, new := 24, cmd := none, cause := some 1 }
    : MeRelief).new).frames = [{ pc := (witEnginesDispatchFailAndAreRelieved6.dev.eng ({ old := 3, new := 24, cmd := none, cause := some 1 } : MeRelief).old).recover_ }]
    ∧ ((ran (.reliefCopyDone (3) false) witEnginesDispatchFailAndAreRelieved6).eng ({ old := 3, new := 24, cmd := none, cause := some 1 }
    : MeRelief).new).micro = (witEnginesDispatchFailAndAreRelieved6.dev.eng
    ({ old := 3, new := 24, cmd := none, cause := some 1 } : MeRelief).old).micro ∧ ((ran (.reliefCopyDone (3) false)
    witEnginesDispatchFailAndAreRelieved6).eng ({ old := 3, new := 24, cmd := none, cause := some 1 } : MeRelief).old).frames = [] ∧
    (ran (.reliefCopyDone (3) false)
    witEnginesDispatchFailAndAreRelieved6).fld ME_STATUS.RUNNING ({ old := 3, new := 24, cmd := none, cause := some 1 } : MeRelief).new = 1 ∧
    (ran (.reliefCopyDone (3) false)
    witEnginesDispatchFailAndAreRelieved6).fld ME_STATUS.RUNNING ({ old := 3, new := 24, cmd := none, cause := some 1 } : MeRelief).old = 0 ∧
    (ran (.reliefCopyDone (3) false)
    witEnginesDispatchFailAndAreRelieved6).fld ME_STATUS.ROLE ({ old := 3, new := 24, cmd := none, cause := some 1 } : MeRelief).old = 3 ∧
    ((ran (.reliefCopyDone (3) false)
    witEnginesDispatchFailAndAreRelieved6).ops (3)).serv = some ({ old := 3, new := 24, cmd := none, cause := some 1 } : MeRelief).new ∧
    ((ran (.reliefCopyDone (3) false) witEnginesDispatchFailAndAreRelieved6).ops (3)).relief = none ∧ ((ran (.reliefCopyDone (3) false)
    witEnginesDispatchFailAndAreRelieved6).ops (3)).home = (if witEnginesDispatchFailAndAreRelieved6.dev.meHome (3)
    = ({ old := 3, new := 24, cmd := none, cause := some 1 } : MeRelief).old then some ({ old := 3, new := 24, cmd := none, cause := some 1 } :
    MeRelief).new else (witEnginesDispatchFailAndAreRelieved6.dev.ops (3)).home)) := by decide +kernel
theorem test_EnginesDispatchFailAndAreRelieved_7 : ((witEnginesDispatchFailAndAreRelieved7.dev.ops
    (3)).relief = some ({ old := 3, new := 24, cmd := some {}, copied := true } : MeRelief)) ∧
    (({ old := 3, new := 24, cmd := some {}, copied := true } : MeRelief).cmd = some ({} : Cmd)) ∧
    (({ old := 3, new := 24, cmd := some {}, copied := true } : MeRelief).copied = true) ∧
    (witEnginesDispatchFailAndAreRelieved7.dev.meBoundary ({ old := 3, new := 24, cmd := some {}, copied := true } : MeRelief).old = true) ∧
    (({ old := 3, new := 24, cmd := some {}, copied := true } : MeRelief).old
    ≠ ({ old := 3, new := 24, cmd := some {}, copied := true } : MeRelief).new) ∧ ((ran (.reliefTakeover (3) false)
    witEnginesDispatchFailAndAreRelieved7).eng ({ old := 3, new := 24, cmd := some {}, copied := true }
    : MeRelief).new = { witEnginesDispatchFailAndAreRelieved7.dev.eng ({ old := 3, new := 24, cmd := some {}, copied := true } : MeRelief).old with beat := 2 * witEnginesDispatchFailAndAreRelieved7.dev.tb.eclk }
    ∧ (ran (.reliefTakeover (3) false) witEnginesDispatchFailAndAreRelieved7).eng ({ old := 3, new := 24, cmd := some {}, copied := true }
    : MeRelief).old = (witEnginesDispatchFailAndAreRelieved7.dev.eng
    ({ old := 3, new := 24, cmd := some {}, copied := true } : MeRelief).old).storesOnly ∧ (ran (.reliefTakeover (3) false)
    witEnginesDispatchFailAndAreRelieved7).fld ME_STATUS.RUNNING ({ old := 3, new := 24, cmd := some {}, copied := true }
    : MeRelief).new = (witEnginesDispatchFailAndAreRelieved7.dev.flag ME_IMAGE.ACT ({ old := 3, new := 24, cmd := some {}, copied := true }
    : MeRelief).old).toNat ∧ (ran (.reliefTakeover (3) false)
    witEnginesDispatchFailAndAreRelieved7).fld ME_STATUS.RUNNING ({ old := 3, new := 24, cmd := some {}, copied := true } : MeRelief).old = 0 ∧
    ((ran (.reliefTakeover (3) false)
    witEnginesDispatchFailAndAreRelieved7).ops (3)).serv = some ({ old := 3, new := 24, cmd := some {}, copied := true } : MeRelief).new ∧
    ((ran (.reliefTakeover (3) false) witEnginesDispatchFailAndAreRelieved7).ops (3)).relief = none) := by decide +kernel
theorem test_EnginesDispatchFailAndAreRelieved_8 : (24 ≤ (25) ∧ (25) < 26) ∧ (witEnginesDispatchFailAndAreRelieved8.dev.reliefFree (25) = true) ∧
    (witEnginesDispatchFailAndAreRelieved8.dev.flag ME_RELIEF.WARM_EN ((25) - 24) = true) ∧
    (witEnginesDispatchFailAndAreRelieved8.dev.flag ME_RELIEF.COPYING ((25) - 24) = true) ∧
    (witEnginesDispatchFailAndAreRelieved8.dev.fld ME_RELIEF.WARM_FOR ((25) - 24) < 24) ∧ ((ran (.warmCopyDone (25))
    witEnginesDispatchFailAndAreRelieved8).eng (25)
    = (witEnginesDispatchFailAndAreRelieved8.dev.eng (witEnginesDispatchFailAndAreRelieved8.dev.meServ
    (witEnginesDispatchFailAndAreRelieved8.dev.fld ME_RELIEF.WARM_FOR ((25) - 24)))).storesOnly ∧ (ran (.warmCopyDone (25))
    witEnginesDispatchFailAndAreRelieved8).fld ME_RELIEF.WARM ((25) - 24) = 1 ∧ (ran (.warmCopyDone (25))
    witEnginesDispatchFailAndAreRelieved8).fld ME_RELIEF.COPYING ((25) - 24) = 0) := by decide +kernel
theorem test_EnginesDispatchFailAndAreRelieved_9 : ((witEnginesDispatchFailAndAreRelieved9.dev.ops
    (3)).load = some ({ cmd := {}, target := 3, space := 0, addr := 0, len := 99, halting := true } : MeLoad)) ∧
    (({ cmd := {}, target := 3, space := 0, addr := 0, len := 99, halting := true } : MeLoad).halting = true) ∧
    (witEnginesDispatchFailAndAreRelieved9.dev.flag ME_STATUS.RUNNING
    ({ cmd := {}, target := 3, space := 0, addr := 0, len := 99, halting := true } : MeLoad).target = true) ∧
    (witEnginesDispatchFailAndAreRelieved9.dev.meBoundary ({ cmd := {}, target := 3, space := 0, addr := 0, len := 99, halting := true }
    : MeLoad).target = true) ∧ (({ cmd := {}, target := 3, space := 0, addr := 0, len := 99, halting := true } : MeLoad).space = 0 ∧
    ({ cmd := {}, target := 3, space := 0, addr := 0, len := 99, halting := true } : MeLoad).len ≠ 0) ∧ ((ran (.haltStop (3))
    witEnginesDispatchFailAndAreRelieved9).fld ME_STATUS.RUNNING ({ cmd := {}, target := 3, space := 0, addr := 0, len := 99, halting := true }
    : MeLoad).target = 0 ∧ ((ran (.haltStop (3))
    witEnginesDispatchFailAndAreRelieved9).eng ({ cmd := {}, target := 3, space := 0, addr := 0, len := 99, halting := true }
    : MeLoad).target).frames = [] ∧ (ran (.haltStop (3))
    witEnginesDispatchFailAndAreRelieved9).fld ME_IMAGE.LSTATE ({ cmd := {}, target := 3, space := 0, addr := 0, len := 99, halting := true }
    : MeLoad).target = 1 ∧ (ran (.haltStop (3))
    witEnginesDispatchFailAndAreRelieved9).fld ME_IMAGE.ACT ({ cmd := {}, target := 3, space := 0, addr := 0, len := 99, halting := true }
    : MeLoad).target = 0 ∧ ((ran (.haltStop (3))
    witEnginesDispatchFailAndAreRelieved9).ops (3)).load = some { ({ cmd := {}, target := 3, space := 0, addr := 0, len := 99, halting := true } : MeLoad) with halting := false })
    := by decide +kernel
theorem test_EnginesDispatchFailAndAreRelieved_10 : ((witEnginesDispatchFailAndAreRelieved10.dev.ops
    (3)).load = some ({ cmd := {}, target := 3, space := 0, addr := 0, len := 0 } : MeLoad)) ∧
    (({ cmd := {}, target := 3, space := 0, addr := 0, len := 0 } : MeLoad).halting = false) ∧
    (({ cmd := {}, target := 3, space := 0, addr := 0, len := 0 } : MeLoad).len ≤ ({ cmd := {}, target := 3, space := 0, addr := 0, len := 0 }
    : MeLoad).bytes.length) ∧ (True) := by decide +kernel
theorem test_EnginesDispatchFailAndAreRelieved_11 : ((witEnginesDispatchFailAndAreRelieved11.dev.ops
    (3)).act = some ({ cmd := {}, keep := false, due := 0 } : MeAct)) ∧
    (({ cmd := {}, keep := false, due := 0 } : MeAct).due ≤ 2 * witEnginesDispatchFailAndAreRelieved11.dev.tb.eclk) ∧
    (((ran (.activateDrainTimeout (3)) witEnginesDispatchFailAndAreRelieved11).eng (witEnginesDispatchFailAndAreRelieved11.dev.meServ
    (3))).frames = (witEnginesDispatchFailAndAreRelieved11.dev.eng (witEnginesDispatchFailAndAreRelieved11.dev.meServ (3))).frames.filter
    (fun f => f.src.isNone) ∧ ((ran (.activateDrainTimeout (3))
    witEnginesDispatchFailAndAreRelieved11).ops (3)).act = some { ({ cmd := {}, keep := false, due := 0 } : MeAct) with lost := ({ cmd := {}, keep := false, due := 0 } : MeAct).lost + ((witEnginesDispatchFailAndAreRelieved11.dev.eng (witEnginesDispatchFailAndAreRelieved11.dev.meServ (3))).frames.filter (fun f => f.src.isSome)).length }
    ∧ (ran (.activateDrainTimeout (3)) witEnginesDispatchFailAndAreRelieved11).fld ME_STATUS.WAITING
    (witEnginesDispatchFailAndAreRelieved11.dev.meServ (3)) = 0) := by decide +kernel
theorem test_EnginesDispatchFailAndAreRelieved_12 : ((23) < 24) ∧ ((witEnginesDispatchFailAndAreRelieved12.dev.ops (23)).act = some
    ({ cmd := {}, keep := true, due := 0 } : MeAct)) ∧ ((witEnginesDispatchFailAndAreRelieved12.dev.ops (23)).relief = none) ∧
    (witEnginesDispatchFailAndAreRelieved12.dev.atBase (witEnginesDispatchFailAndAreRelieved12.dev.meServ (23)) = true) ∧
    (((ran (.activateSwitch (23)) witEnginesDispatchFailAndAreRelieved12).eng (witEnginesDispatchFailAndAreRelieved12.dev.meHome
    (23))).frames = [{ pc := (witEnginesDispatchFailAndAreRelieved12.dev.eng (witEnginesDispatchFailAndAreRelieved12.dev.meHome (23))).base_ }] ∧
    ((ran (.activateSwitch (23)) witEnginesDispatchFailAndAreRelieved12).eng (witEnginesDispatchFailAndAreRelieved12.dev.meHome
    (23))).gpr = (if ({ cmd := {}, keep := true, due := 0 } : MeAct).keep then
    (witEnginesDispatchFailAndAreRelieved12.dev.eng (witEnginesDispatchFailAndAreRelieved12.dev.meServ (23))).gpr else []) ∧
    (ran (.activateSwitch (23)) witEnginesDispatchFailAndAreRelieved12).fld ME_STATUS.RUNNING
    (witEnginesDispatchFailAndAreRelieved12.dev.meHome (23)) = 1 ∧ (ran (.activateSwitch (23))
    witEnginesDispatchFailAndAreRelieved12).fld ME_IMAGE.ACT (witEnginesDispatchFailAndAreRelieved12.dev.meHome (23)) = 1 ∧
    (ran (.activateSwitch (23)) witEnginesDispatchFailAndAreRelieved12).fld ME_STATUS.LOGICAL
    (witEnginesDispatchFailAndAreRelieved12.dev.meHome (23)) = (23) ∧ (ran (.activateSwitch (23))
    witEnginesDispatchFailAndAreRelieved12).fld ME_DSTAT.HELD (witEnginesDispatchFailAndAreRelieved12.dev.meHome (23)) = 0 ∧
    ((ran (.activateSwitch (23)) witEnginesDispatchFailAndAreRelieved12).ops (23)).serv = some
    (witEnginesDispatchFailAndAreRelieved12.dev.meHome (23)) ∧ ((ran (.activateSwitch (23))
    witEnginesDispatchFailAndAreRelieved12).ops (23)).act = none ∧ ((witEnginesDispatchFailAndAreRelieved12.dev.meServ (23))
    ≠ (witEnginesDispatchFailAndAreRelieved12.dev.meHome (23)) → (ran (.activateSwitch (23))
    witEnginesDispatchFailAndAreRelieved12).eng (witEnginesDispatchFailAndAreRelieved12.dev.meServ (23))
    = (witEnginesDispatchFailAndAreRelieved12.dev.eng (witEnginesDispatchFailAndAreRelieved12.dev.meServ (23))).storesOnly)) := by decide +kernel
def witPinInstructionsAct1 : State := st (fun d => { ((ready d).setFld PN_STATUS.STATE 1) with pn := [(0, { prog := 0x0083 })] })
def witPinInstructionsAct2 : State := st (fun d => { ((ready d).setFld PN_STATUS.STATE 1) with pn := [(0, { prog := 0xF000 })] })
def witPinInstructionsAct3 : State := st (fun d => { ((ready d).setFld PN_STATUS.STATE 1) with pn := [(0, { prog := 0x1031 })] })
def witPinInstructionsAct4 : State := st (fun d => { ((ready d).setFld PN_STATUS.STATE 1) with pn := [(0, { prog := 0x2003, edge := true })] })
def witPinInstructionsAct5 : State := st (fun d => { ((ready d).setFld PN_STATUS.STATE 1) with pn := [(0, { prog := 0x3003, edge := true })] })
def witPinInstructionsAct6 : State := st (fun d => { ((ready d).setFld PN_STATUS.STATE 1) with pn := [(0, { prog := 0x4003, edge := true })] })
def witPinInstructionsAct7 : State := st (fun d => { ((ready d).setFld PN_STATUS.STATE 1) with pn := [(0, { prog := 0x5003, edge := true })] })
def witPinInstructionsAct8 : State := st (fun d => { (((ready d).setFld PN_STATUS.STATE 1).setFld PN_STATUS.SC 5) with pn := [(0, { prog := 0x6004, sr := 9 })] })
def witPinInstructionsAct9 : State := st (fun d => { ((ready d).setFld PN_STATUS.STATE 1) with pn := [(0, { prog := 0x6001, rx := [1, 2, 3, 4, 5, 6, 7, 8] })] })
def witPinInstructionsAct10 : State := st (fun d => { ((ready d).setFld PN_STATUS.STATE 1) with pn := [(0, { prog := 0x6000, rx := [1, 2, 3, 4, 5, 6, 7, 8] })] })
def witPinInstructionsAct11 : State := st (fun d => { ((ready d).setFld PN_STATUS.STATE 1) with pn := [(0, { prog := 0x7006, tx := [0x12345, 7] })] })
def witPinInstructionsAct12 : State := st (fun d => { ((ready d).setFld PN_STATUS.STATE 1) with pn := [(0, { prog := 0x7000 })] })
def witPinInstructionsAct13 : State := st (fun d => { (((ready d).setFld PN_STATUS.STATE 1).setFld PN_STATUS.SC 32) with pn := [(0, { prog := 0x8008, sr := 0x80000001 })] })
def witPinInstructionsAct14 : State := st (fun d => { ((((((ready d).setFld PN_STATUS.STATE 1).setFld PN_STATUS.SC 3).setFld (PN_LANE.EN.nth 8 7) 1).setFld (PN_LANE.PIN.nth 8 7) 9).setFld TIO_PIN.OUT_SRC 2 9) with pn := [(0, { prog := 0x8007, sr := 1 })] })
def witPinInstructionsAct15 : State := st (fun d => { ((ready d).setFld PN_STATUS.STATE 1) with pn := [(0, { prog := 0x8008, sr := 5 })] })
def witPinInstructionsAct16 : State := st (fun d => { (((ready d).setFld PN_STATUS.STATE 1).setFld PN_STATUS.SC 32) with pn := [(0, { prog := 0x9000, sr := 0x80000001 })] })
def witPinInstructionsAct17 : State := st (fun d => { ((ready d).setFld PN_STATUS.STATE 1) with pn := [(0, { prog := 0xa17f })] })
def witPinInstructionsAct18 : State := st (fun d => { ((ready d).setFld PN_STATUS.STATE 1) with pn := [(0, { prog := 0xb0c5, wa := 3, cnt := 0xFFFF })] })
def witPinInstructionsAct19 : State := st (fun d => { ((ready d).setFld PN_STATUS.STATE 1) with pn := [(0, { prog := 0xb100, wa := 3, cnt := 0xFFFF })] })
def witPinInstructionsAct20 : State := st (fun d => { ((ready d).setFld PN_STATUS.STATE 1) with pn := [(0, { prog := 0xc01e, cnt := 1 })] })
def witPinInstructionsAct21 : State := st (fun d => { ((ready d).setFld PN_STATUS.STATE 1) with pn := [(0, { prog := 0xd1f2 })] })
def witPinInstructionsAct22 : State := st (fun d => { ((ready d).setFld PN_STATUS.STATE 1) with pn := [(0, { prog := 0xd000 })] })
def witPinInstructionsAct23 : State := st (fun d => { ((ready d).setFld PN_STATUS.STATE 1) with pn := [(0, { prog := 0xe001, rx := [1, 2, 3, 4, 5], caps := [(2, { n := 3, t := 17 })] })] })
def witPinInstructionsAct24 : State := st (fun d => { ((ready d).setFld PN_STATUS.STATE 1) with pn := [(0, { prog := 0xe001, rx := [1, 2, 3, 4, 5, 6], caps := [(2, { n := 3, t := 17 })] })] })
def witPinInstructionsAct25 : State := st (fun d => { ((ready d).setFld PN_STATUS.STATE 1) with pn := [(0, { prog := 0xf001 })] })
theorem test_PinInstructionsAct_1 : ((0) < 32) ∧ (witPinInstructionsAct1.dev.pnState (0) = 1) ∧ ((witPinInstructionsAct1.dev.pne (0)).slack = 0) ∧
    (pnOp (witPinInstructionsAct1.dev.pnWord (0)) = 0) ∧ ((ran (.pnDly (0) false) witPinInstructionsAct1).fld PN_STATUS.PC (0)
    = (witPinInstructionsAct1.dev.fld PN_STATUS.PC (0) + 1) % 32 ∧ ((ran (.pnDly (0) false)
    witPinInstructionsAct1).pne (0)).slack = cut (witPinInstructionsAct1.dev.pnWord (0)) 0 9 + 1 ∧ ((ran (.pnDly (0) false)
    witPinInstructionsAct1).pne (0)).sr = (witPinInstructionsAct1.dev.pne (0)).sr) := by decide +kernel
theorem test_PinInstructionsAct_2 : ((0) < 32) ∧ (witPinInstructionsAct2.dev.pnState (0) = 1) ∧ ((witPinInstructionsAct2.dev.pne (0)).slack = 0) ∧
    ((witPinInstructionsAct2.dev.pne (0)).shadow = none) ∧ ((pnOp (witPinInstructionsAct2.dev.pnWord (0)), (.pnEnd ⟨0, true⟩ : Instr))
    ∈ ([(0, .pnDly (0) true), (1, .pnJmp (0) true), (2, .pnWaitp ⟨(0), true⟩), (3, .pnWaitf ⟨(0), true⟩), (4, .pnWaite ⟨(0), true⟩), (5, .pnWaitx ⟨(0), true⟩), (6, .pnPush ⟨(0), true⟩), (7, .pnPull ⟨(0), true⟩), (8, .pnOut (0) true), (9, .pnIn (0) true), (10, .pnLdi ⟨(0), true⟩), (11, .pnMov (0) true), (12, .pnDjnz ⟨(0), true⟩), (13, .pnSig ⟨(0), true⟩), (14, .pnCapt ⟨(0), true⟩), (15, .pnEnd ⟨(0), true⟩)]
    : List (Nat × Instr))) ∧ ((ran ((.pnEnd ⟨0, true⟩ : Instr)) witPinInstructionsAct2).fld PN_STATUS.STATE (0) = 3 ∧ (ran ((.pnEnd ⟨0,
    true⟩ : Instr)) witPinInstructionsAct2).fld PN_STATUS.PC (0) = witPinInstructionsAct2.dev.fld PN_STATUS.PC (0) ∧ (ran ((.pnEnd ⟨0,
    true⟩ : Instr)) witPinInstructionsAct2).fld PN_ERR.LAST_CAUSE (0) = 3 ∧ (ran ((.pnEnd ⟨0, true⟩ : Instr))
    witPinInstructionsAct2).pn = witPinInstructionsAct2.dev.pn) := by decide +kernel
theorem test_PinInstructionsAct_3 : ((0) < 32) ∧ (witPinInstructionsAct3.dev.pnState (0) = 1) ∧ ((witPinInstructionsAct3.dev.pne (0)).slack = 0) ∧
    (pnOp (witPinInstructionsAct3.dev.pnWord (0)) = 0x1) ∧ ((ran (.pnJmp (0) false) witPinInstructionsAct3).fld PN_STATUS.PC (0)
    = (if witPinInstructionsAct3.dev.pnCond (0) (cut (witPinInstructionsAct3.dev.pnWord (0)) 5 4) then cut (witPinInstructionsAct3.dev.pnWord (0))
    0 5 else (witPinInstructionsAct3.dev.fld PN_STATUS.PC (0) + 1) % 32) ∧ ((ran (.pnJmp (0) false) witPinInstructionsAct3).pne (0)).slack = 1) :=
    by decide +kernel
theorem test_PinInstructionsAct_4 : ((0) < 32) ∧ (witPinInstructionsAct4.dev.pnState (0) = 1) ∧ ((witPinInstructionsAct4.dev.pne (0)).slack = 0) ∧
    (pnOp (witPinInstructionsAct4.dev.pnWord (0)) = 0x2) ∧ ((ran (.pnWaitp ⟨(0), false⟩) witPinInstructionsAct4).fld PN_STATUS.STATE (0) = 2 ∧
    (ran (.pnWaitp ⟨(0), false⟩) witPinInstructionsAct4).fld PN_STATUS.PC (0) = witPinInstructionsAct4.dev.fld PN_STATUS.PC (0) ∧
    (ran (.pnWaitp ⟨(0), false⟩) witPinInstructionsAct4).pne (0)
    = { (witPinInstructionsAct4.dev.pne (0)) with edge := false, tmo := false, bound := none, wxDone := false }) := by decide +kernel
theorem test_PinInstructionsAct_5 : ((0) < 32) ∧ (witPinInstructionsAct5.dev.pnState (0) = 1) ∧ ((witPinInstructionsAct5.dev.pne (0)).slack = 0) ∧
    (pnOp (witPinInstructionsAct5.dev.pnWord (0)) = 0x3) ∧ ((ran (.pnWaitf ⟨(0), false⟩) witPinInstructionsAct5).fld PN_STATUS.STATE (0) = 2 ∧
    (ran (.pnWaitf ⟨(0), false⟩) witPinInstructionsAct5).fld PN_STATUS.PC (0) = witPinInstructionsAct5.dev.fld PN_STATUS.PC (0) ∧
    (ran (.pnWaitf ⟨(0), false⟩) witPinInstructionsAct5).pne (0)
    = { (witPinInstructionsAct5.dev.pne (0)) with edge := false, tmo := false, bound := none, wxDone := false }) := by decide +kernel
theorem test_PinInstructionsAct_6 : ((0) < 32) ∧ (witPinInstructionsAct6.dev.pnState (0) = 1) ∧ ((witPinInstructionsAct6.dev.pne (0)).slack = 0) ∧
    (pnOp (witPinInstructionsAct6.dev.pnWord (0)) = 0x4) ∧ ((ran (.pnWaite ⟨(0), false⟩) witPinInstructionsAct6).fld PN_STATUS.STATE (0) = 2 ∧
    (ran (.pnWaite ⟨(0), false⟩) witPinInstructionsAct6).fld PN_STATUS.PC (0) = witPinInstructionsAct6.dev.fld PN_STATUS.PC (0) ∧
    (ran (.pnWaite ⟨(0), false⟩) witPinInstructionsAct6).pne (0)
    = { (witPinInstructionsAct6.dev.pne (0)) with edge := false, tmo := false, bound := none, wxDone := false }) := by decide +kernel
theorem test_PinInstructionsAct_7 : ((0) < 32) ∧ (witPinInstructionsAct7.dev.pnState (0) = 1) ∧ ((witPinInstructionsAct7.dev.pne (0)).slack = 0) ∧
    (pnOp (witPinInstructionsAct7.dev.pnWord (0)) = 0x5) ∧ ((ran (.pnWaitx ⟨(0), false⟩) witPinInstructionsAct7).fld PN_STATUS.STATE (0) = 2 ∧
    (ran (.pnWaitx ⟨(0), false⟩) witPinInstructionsAct7).fld PN_STATUS.PC (0) = witPinInstructionsAct7.dev.fld PN_STATUS.PC (0) ∧
    (ran (.pnWaitx ⟨(0), false⟩) witPinInstructionsAct7).pne (0)
    = { (witPinInstructionsAct7.dev.pne (0)) with edge := false, tmo := false, bound := none, wxDone := false }) := by decide +kernel
theorem test_PinInstructionsAct_8 : ((0) < 32) ∧ (witPinInstructionsAct8.dev.pnState (0) = 1) ∧ ((witPinInstructionsAct8.dev.pne (0)).slack = 0) ∧
    (pnOp (witPinInstructionsAct8.dev.pnWord (0)) = 0x6) ∧ ((witPinInstructionsAct8.dev.pne (0)).rx.length < 8) ∧ (((ran (.pnPush ⟨(0), false⟩)
    witPinInstructionsAct8).pne (0)).rx = (witPinInstructionsAct8.dev.pne
    (0)).rx ++ [(witPinInstructionsAct8.dev.pne (0)).reg (cut (witPinInstructionsAct8.dev.pnWord (0)) 1 2)] ∧ (ran (.pnPush ⟨(0), false⟩)
    witPinInstructionsAct8).fld PN_STATUS.SC (0) = (if cut (witPinInstructionsAct8.dev.pnWord (0)) 1 2 = 2 then 0 else
    witPinInstructionsAct8.dev.fld PN_STATUS.SC (0)) ∧ (ran (.pnPush ⟨(0), false⟩) witPinInstructionsAct8).fld PN_STATUS.PC (0)
    = (witPinInstructionsAct8.dev.fld PN_STATUS.PC (0) + 1) % 32 ∧ ((ran (.pnPush ⟨(0), false⟩) witPinInstructionsAct8).pne (0)).slack = 1) :=
    by decide +kernel
theorem test_PinInstructionsAct_9 : ((0) < 32) ∧ (witPinInstructionsAct9.dev.pnState (0) = 1) ∧ ((witPinInstructionsAct9.dev.pne (0)).slack = 0) ∧
    (pnOp (witPinInstructionsAct9.dev.pnWord (0)) = 0x6) ∧ (8 ≤ (witPinInstructionsAct9.dev.pne (0)).rx.length) ∧
    (bit (witPinInstructionsAct9.dev.pnWord (0)) 0 = true) ∧ (((ran (.pnPush ⟨(0), false⟩)
    witPinInstructionsAct9).pne (0)).rx = (witPinInstructionsAct9.dev.pne (0)).rx ∧ (ran (.pnPush ⟨(0), false⟩)
    witPinInstructionsAct9).fld PN_CNT.DROP_CNT (0) = min (witPinInstructionsAct9.dev.fld PN_CNT.DROP_CNT (0) + 1) (2 ^ PN_CNT.DROP_CNT.len - 1) ∧
    (ran (.pnPush ⟨(0), false⟩) witPinInstructionsAct9).fld PN_STATUS.PC (0) = (witPinInstructionsAct9.dev.fld PN_STATUS.PC (0) + 1) % 32 ∧
    ((ran (.pnPush ⟨(0), false⟩) witPinInstructionsAct9).pne (0)).slack = 1) := by decide +kernel
theorem test_PinInstructionsAct_10 : ((0) < 32) ∧ (witPinInstructionsAct10.dev.pnState (0) = 1) ∧
    ((witPinInstructionsAct10.dev.pne (0)).slack = 0) ∧ (pnOp (witPinInstructionsAct10.dev.pnWord (0)) = 0x6) ∧
    (8 ≤ (witPinInstructionsAct10.dev.pne (0)).rx.length) ∧ (bit (witPinInstructionsAct10.dev.pnWord (0)) 0 = false) ∧ (((ran (.pnPush ⟨(0),
    false⟩) witPinInstructionsAct10).pne (0)).rx = (witPinInstructionsAct10.dev.pne (0)).rx ∧ (ran (.pnPush ⟨(0), false⟩)
    witPinInstructionsAct10).fld PN_STATUS.STATE (0) = 2 ∧ (ran (.pnPush ⟨(0), false⟩) witPinInstructionsAct10).fld PN_STATUS.PC (0)
    = witPinInstructionsAct10.dev.fld PN_STATUS.PC (0)) := by decide +kernel
theorem test_PinInstructionsAct_11 : ((0) < 32) ∧ (witPinInstructionsAct11.dev.pnState (0) = 1) ∧
    ((witPinInstructionsAct11.dev.pne (0)).slack = 0) ∧ (pnOp (witPinInstructionsAct11.dev.pnWord (0)) = 7) ∧
    ((witPinInstructionsAct11.dev.pne (0)).tx = ((0x12345 : BitVec 32)) :: ([7] : List (BitVec 32))) ∧ (((ran (.pnPull ⟨(0), false⟩)
    witPinInstructionsAct11).pne (0)).tx = ([7] : List (BitVec 32)) ∧ ((ran (.pnPull ⟨(0), false⟩)
    witPinInstructionsAct11).pne (0)).reg (cut (witPinInstructionsAct11.dev.pnWord (0)) 1 2)
    = ((witPinInstructionsAct11.dev.pne (0)).setReg (cut (witPinInstructionsAct11.dev.pnWord (0)) 1 2)
    ((0x12345 : BitVec 32))).reg (cut (witPinInstructionsAct11.dev.pnWord (0)) 1 2) ∧ (ran (.pnPull ⟨(0), false⟩)
    witPinInstructionsAct11).fld PN_STATUS.SC (0) = (if cut (witPinInstructionsAct11.dev.pnWord (0)) 1 2 = 2 then
    blkShift (witPinInstructionsAct11.dev.pne (0)).prog % 64 else witPinInstructionsAct11.dev.fld PN_STATUS.SC (0)) ∧ (ran (.pnPull ⟨(0), false⟩)
    witPinInstructionsAct11).fld PN_STATUS.PC (0) = (witPinInstructionsAct11.dev.fld PN_STATUS.PC (0) + 1) % 32 ∧ ((ran (.pnPull ⟨(0), false⟩)
    witPinInstructionsAct11).pne (0)).slack = 1) := by decide +kernel
theorem test_PinInstructionsAct_12 : ((0) < 32) ∧ (witPinInstructionsAct12.dev.pnState (0) = 1) ∧
    ((witPinInstructionsAct12.dev.pne (0)).slack = 0) ∧ (pnOp (witPinInstructionsAct12.dev.pnWord (0)) = 0x7) ∧
    ((witPinInstructionsAct12.dev.pne (0)).tx = []) ∧ (bit (witPinInstructionsAct12.dev.pnWord (0)) 0 = false) ∧ ((ran (.pnPull ⟨(0), false⟩)
    witPinInstructionsAct12).fld PN_STATUS.STATE (0) = 2 ∧ (ran (.pnPull ⟨(0), false⟩) witPinInstructionsAct12).fld PN_STATUS.PC (0)
    = witPinInstructionsAct12.dev.fld PN_STATUS.PC (0)) := by decide +kernel
theorem test_PinInstructionsAct_13 : ((0) < 32) ∧ (witPinInstructionsAct13.dev.pnState (0) = 1) ∧
    ((witPinInstructionsAct13.dev.pne (0)).slack = 0) ∧ (pnOp (witPinInstructionsAct13.dev.pnWord (0)) = 0x8) ∧
    (witPinInstructionsAct13.dev.fld PN_STATUS.SC (0) ≠ 0) ∧ (witPinInstructionsAct13.dev.fld PN_STATUS.SC (0) ≤ 32) ∧ (((ran (.pnOut (0) false)
    witPinInstructionsAct13).pne (0)).sr = (if bit (witPinInstructionsAct13.dev.pnWord (0)) 3 then
    (witPinInstructionsAct13.dev.pne (0)).sr <<< 1 else (witPinInstructionsAct13.dev.pne (0)).sr >>> 1) ∧ (ran (.pnOut (0) false)
    witPinInstructionsAct13).fld PN_STATUS.SC (0) = witPinInstructionsAct13.dev.fld PN_STATUS.SC (0) - 1 ∧ (ran (.pnOut (0) false)
    witPinInstructionsAct13).fld PN_STATUS.PC (0) = (witPinInstructionsAct13.dev.fld PN_STATUS.PC (0) + 1) % 32 ∧ ((ran (.pnOut (0) false)
    witPinInstructionsAct13).pne (0)).slack = 1) := by decide +kernel
theorem test_PinInstructionsAct_14 : ((0) < 32) ∧ (witPinInstructionsAct14.dev.pnState (0) = 1) ∧
    ((witPinInstructionsAct14.dev.pne (0)).slack = 0) ∧ (pnOp (witPinInstructionsAct14.dev.pnWord (0)) = 8) ∧
    (pnTouch (witPinInstructionsAct14.dev.pnWord (0)) = 0) ∧ (witPinInstructionsAct14.dev.fld PN_STATUS.SC (0) ≠ 0) ∧
    (witPinInstructionsAct14.dev.lanePin (0) (cut (witPinInstructionsAct14.dev.pnWord (0)) 0 3) = some (9)) ∧
    (witPinInstructionsAct14.dev.fld TIO_PIN.OUT_SRC (9) = 2) ∧ (((ran (.pnOut (0) false)
    witPinInstructionsAct14).pne (0)).lvl.getLsbD (cut (witPinInstructionsAct14.dev.pnWord (0)) 0 3)
    = (if bit (witPinInstructionsAct14.dev.pnWord (0)) 3 then (witPinInstructionsAct14.dev.pne (0)).sr.getLsbD 31 else
    (witPinInstructionsAct14.dev.pne (0)).sr.getLsbD 0)) := by decide +kernel
theorem test_PinInstructionsAct_15 : ((0) < 32) ∧ (witPinInstructionsAct15.dev.pnState (0) = 1) ∧
    ((witPinInstructionsAct15.dev.pne (0)).slack = 0) ∧ (pnOp (witPinInstructionsAct15.dev.pnWord (0)) = 0x8) ∧
    (witPinInstructionsAct15.dev.fld PN_STATUS.SC (0) = 0) ∧ (((ran (.pnOut (0) false)
    witPinInstructionsAct15).pne (0)).sr = (witPinInstructionsAct15.dev.pne (0)).sr ∧ (ran (.pnOut (0) false)
    witPinInstructionsAct15).fld PN_STATUS.SC (0) = 0 ∧ (ran (.pnOut (0) false) witPinInstructionsAct15).fld PN_STATUS.PC (0)
    = (witPinInstructionsAct15.dev.fld PN_STATUS.PC (0) + 1) % 32 ∧ ((ran (.pnOut (0) false) witPinInstructionsAct15).pne (0)).slack = 1) :=
    by decide +kernel
theorem test_PinInstructionsAct_16 : ((0) < 32) ∧ (witPinInstructionsAct16.dev.pnState (0) = 1) ∧
    ((witPinInstructionsAct16.dev.pne (0)).slack = 0) ∧ (pnOp (witPinInstructionsAct16.dev.pnWord (0)) = 0x9) ∧ (((ran (.pnIn (0) false)
    witPinInstructionsAct16).pne (0)).sr = (if bit (witPinInstructionsAct16.dev.pnWord (0)) 3 then
    (witPinInstructionsAct16.dev.pne (0)).sr <<< 1 ||| (BitVec.ofNat 32 (witPinInstructionsAct16.dev.laneLvl (0)
    (cut (witPinInstructionsAct16.dev.pnWord (0)) 0 3)).toNat) else (witPinInstructionsAct16.dev.pne (0)).sr >>> 1 ||| (BitVec.ofNat
    32 (witPinInstructionsAct16.dev.laneLvl (0) (cut (witPinInstructionsAct16.dev.pnWord (0)) 0 3)).toNat) <<< 31) ∧ (ran (.pnIn (0) false)
    witPinInstructionsAct16).fld PN_STATUS.SC (0) = min 32 (witPinInstructionsAct16.dev.fld PN_STATUS.SC (0) + 1) ∧ (ran (.pnIn (0) false)
    witPinInstructionsAct16).fld PN_STATUS.PC (0) = (witPinInstructionsAct16.dev.fld PN_STATUS.PC (0) + 1) % 32 ∧ ((ran (.pnIn (0) false)
    witPinInstructionsAct16).pne (0)).slack = 1) := by decide +kernel
theorem test_PinInstructionsAct_17 : ((0) < 32) ∧ (witPinInstructionsAct17.dev.pnState (0) = 1) ∧
    ((witPinInstructionsAct17.dev.pne (0)).slack = 0) ∧ (pnOp (witPinInstructionsAct17.dev.pnWord (0)) = 0xA) ∧ (((ran (.pnLdi ⟨(0), false⟩)
    witPinInstructionsAct17).pne (0)).reg ([0, 1, 3, 2].getD (cut (witPinInstructionsAct17.dev.pnWord (0)) 7 2) 0)
    = BitVec.ofNat 32 (cut (witPinInstructionsAct17.dev.pnWord (0)) 0 7) ∧ (ran (.pnLdi ⟨(0), false⟩)
    witPinInstructionsAct17).fld PN_STATUS.PC (0) = (witPinInstructionsAct17.dev.fld PN_STATUS.PC (0) + 1) % 32 ∧ ((ran (.pnLdi ⟨(0), false⟩)
    witPinInstructionsAct17).pne (0)).slack = 1) := by decide +kernel
theorem test_PinInstructionsAct_18 : ((0) < 32) ∧ (witPinInstructionsAct18.dev.pnState (0) = 1) ∧
    ((witPinInstructionsAct18.dev.pne (0)).slack = 0) ∧ (pnOp (witPinInstructionsAct18.dev.pnWord (0)) = 0xB) ∧
    (cut (witPinInstructionsAct18.dev.pnWord (0)) 6 3 < 4) ∧ (((ran (.pnMov (0) false)
    witPinInstructionsAct18).pne (0)).reg (cut (witPinInstructionsAct18.dev.pnWord (0)) 6 3)
    = ((witPinInstructionsAct18.dev.pne (0)).setReg (cut (witPinInstructionsAct18.dev.pnWord (0)) 6 3)
    (movOp (witPinInstructionsAct18.dev.pne (0)).wa (witPinInstructionsAct18.dev.movSrc (0) (cut (witPinInstructionsAct18.dev.pnWord (0)) 3 3))
    (cut (witPinInstructionsAct18.dev.pnWord (0)) 0 3))).reg (cut (witPinInstructionsAct18.dev.pnWord (0)) 6 3) ∧ (ran (.pnMov (0) false)
    witPinInstructionsAct18).fld PN_STATUS.PC (0) = (witPinInstructionsAct18.dev.fld PN_STATUS.PC (0) + 1) % 32 ∧ ((ran (.pnMov (0) false)
    witPinInstructionsAct18).pne (0)).slack = 1) := by decide +kernel
theorem test_PinInstructionsAct_19 : ((0) < 32) ∧ (witPinInstructionsAct19.dev.pnState (0) = 1) ∧
    ((witPinInstructionsAct19.dev.pne (0)).slack = 0) ∧ (pnOp (witPinInstructionsAct19.dev.pnWord (0)) = 0xB) ∧
    (4 ≤ cut (witPinInstructionsAct19.dev.pnWord (0)) 6 3) ∧ (((ran (.pnMov (0) false)
    witPinInstructionsAct19).pne (0)).wa = (witPinInstructionsAct19.dev.pne (0)).wa ∧ ((ran (.pnMov (0) false)
    witPinInstructionsAct19).pne (0)).wb = (witPinInstructionsAct19.dev.pne (0)).wb ∧ ((ran (.pnMov (0) false)
    witPinInstructionsAct19).pne (0)).sr = (witPinInstructionsAct19.dev.pne (0)).sr ∧ ((ran (.pnMov (0) false)
    witPinInstructionsAct19).pne (0)).cnt = (witPinInstructionsAct19.dev.pne (0)).cnt ∧ (ran (.pnMov (0) false)
    witPinInstructionsAct19).fld PN_STATUS.PC (0) = (witPinInstructionsAct19.dev.fld PN_STATUS.PC (0) + 1) % 32 ∧ ((ran (.pnMov (0) false)
    witPinInstructionsAct19).pne (0)).slack = 1) := by decide +kernel
theorem test_PinInstructionsAct_20 : ((0) < 32) ∧ (witPinInstructionsAct20.dev.pnState (0) = 1) ∧
    ((witPinInstructionsAct20.dev.pne (0)).slack = 0) ∧ (pnOp (witPinInstructionsAct20.dev.pnWord (0)) = 0xC) ∧ (((ran (.pnDjnz ⟨(0), false⟩)
    witPinInstructionsAct20).pne (0)).reg (if bit (witPinInstructionsAct20.dev.pnWord (0)) 5 then 1 else 3)
    = ((witPinInstructionsAct20.dev.pne (0)).setReg (if bit (witPinInstructionsAct20.dev.pnWord (0)) 5 then 1 else 3)
    ((witPinInstructionsAct20.dev.pne (0)).reg (if bit (witPinInstructionsAct20.dev.pnWord (0)) 5 then 1 else 3)
    - 1)).reg (if bit (witPinInstructionsAct20.dev.pnWord (0)) 5 then 1 else 3) ∧ (ran (.pnDjnz ⟨(0), false⟩)
    witPinInstructionsAct20).fld PN_STATUS.PC (0) = (if ((witPinInstructionsAct20.dev.pne (0)).setReg (if bit (witPinInstructionsAct20.dev.pnWord
    (0)) 5 then 1 else 3) ((witPinInstructionsAct20.dev.pne (0)).reg (if bit (witPinInstructionsAct20.dev.pnWord (0)) 5 then 1 else 3)
    - 1)).reg (if bit (witPinInstructionsAct20.dev.pnWord (0)) 5 then 1 else 3) = 0 then (witPinInstructionsAct20.dev.fld PN_STATUS.PC (0) + 1)
    % 32 else cut (witPinInstructionsAct20.dev.pnWord (0)) 0 5) ∧ ((ran (.pnDjnz ⟨(0), false⟩) witPinInstructionsAct20).pne (0)).slack = 1) :=
    by decide +kernel
theorem test_PinInstructionsAct_21 : ((0) < 32) ∧ (witPinInstructionsAct21.dev.pnState (0) = 1) ∧
    ((witPinInstructionsAct21.dev.pne (0)).slack = 0) ∧ (pnOp (witPinInstructionsAct21.dev.pnWord (0)) = 0xD) ∧
    (2 ≤ cut (witPinInstructionsAct21.dev.pnWord (0)) 0 2) ∧ ((ran (.pnSig ⟨(0), false⟩)
    witPinInstructionsAct21).flagOn (cut (witPinInstructionsAct21.dev.pnWord (0)) 4 5) = !bit (witPinInstructionsAct21.dev.pnWord (0)) 0 ∧
    (ran (.pnSig ⟨(0), false⟩) witPinInstructionsAct21).fld PN_STATUS.PC (0) = (witPinInstructionsAct21.dev.fld PN_STATUS.PC (0) + 1) % 32 ∧
    ((ran (.pnSig ⟨(0), false⟩) witPinInstructionsAct21).pne (0)).slack = 1) := by decide +kernel
theorem test_PinInstructionsAct_22 : ((0) < 32) ∧ (witPinInstructionsAct22.dev.pnState (0) = 1) ∧
    ((witPinInstructionsAct22.dev.pne (0)).slack = 0) ∧ (pnOp (witPinInstructionsAct22.dev.pnWord (0)) = 0xD) ∧
    (cut (witPinInstructionsAct22.dev.pnWord (0)) 0 2 = 0) ∧ ((ran (.pnSig ⟨(0), false⟩)
    witPinInstructionsAct22).sf = witPinInstructionsAct22.dev.sf ∧ ∃ r ∈ (ran (.pnSig ⟨(0), false⟩) witPinInstructionsAct22).sl.rises,
    r.src = 0x640 + 4 * (0) ∧ (ran (.pnSig ⟨(0), false⟩) witPinInstructionsAct22).fld PN_STATUS.PC (0)
    = (witPinInstructionsAct22.dev.fld PN_STATUS.PC (0) + 1) % 32 ∧ ((ran (.pnSig ⟨(0), false⟩) witPinInstructionsAct22).pne (0)).slack = 1) :=
    by decide +kernel
theorem test_PinInstructionsAct_23 : ((0) < 32) ∧ (witPinInstructionsAct23.dev.pnState (0) = 1) ∧
    ((witPinInstructionsAct23.dev.pne (0)).slack = 0) ∧ (pnOp (witPinInstructionsAct23.dev.pnWord (0)) = 0xE) ∧
    ((witPinInstructionsAct23.dev.pne (0)).rx.length ≤ 5) ∧ (((ran (.pnCapt ⟨(0), false⟩)
    witPinInstructionsAct23).pne (0)).rx = (witPinInstructionsAct23.dev.pne (0)).rx ++ witPinInstructionsAct23.dev.captWords (0)
    (witPinInstructionsAct23.dev.pnWord (0)) ∧ (ran (.pnCapt ⟨(0), false⟩) witPinInstructionsAct23).fld PN_STATUS.PC (0)
    = (witPinInstructionsAct23.dev.fld PN_STATUS.PC (0) + 1) % 32 ∧ ((ran (.pnCapt ⟨(0), false⟩) witPinInstructionsAct23).pne (0)).slack = 1) :=
    by decide +kernel
theorem test_PinInstructionsAct_24 : ((0) < 32) ∧ (witPinInstructionsAct24.dev.pnState (0) = 1) ∧
    ((witPinInstructionsAct24.dev.pne (0)).slack = 0) ∧ (pnOp (witPinInstructionsAct24.dev.pnWord (0)) = 0xE) ∧
    (5 < (witPinInstructionsAct24.dev.pne (0)).rx.length) ∧ (bit (witPinInstructionsAct24.dev.pnWord (0)) 3 = false) ∧ ((ran (.pnCapt ⟨(0),
    false⟩) witPinInstructionsAct24).fld PN_STATUS.STATE (0) = 2 ∧ (ran (.pnCapt ⟨(0), false⟩) witPinInstructionsAct24).fld PN_STATUS.PC (0)
    = witPinInstructionsAct24.dev.fld PN_STATUS.PC (0) ∧ ((ran (.pnCapt ⟨(0), false⟩)
    witPinInstructionsAct24).pne (0)).rx = (witPinInstructionsAct24.dev.pne (0)).rx ∧ ((ran (.pnCapt ⟨(0), false⟩)
    witPinInstructionsAct24).pne (0)).capt = witPinInstructionsAct24.dev.captWords (0) (witPinInstructionsAct24.dev.pnWord (0))) :=
    by decide +kernel
theorem test_PinInstructionsAct_25 : ((0) < 32) ∧ (witPinInstructionsAct25.dev.pnState (0) = 1) ∧
    ((witPinInstructionsAct25.dev.pne (0)).slack = 0) ∧ (pnOp (witPinInstructionsAct25.dev.pnWord (0)) = 0xF) ∧
    ((witPinInstructionsAct25.dev.pne (0)).shadow = none) ∧ ((ran (.pnEnd ⟨(0), false⟩) witPinInstructionsAct25).fld PN_STATUS.STATE (0) = 0 ∧
    (ran (.pnEnd ⟨(0), false⟩) witPinInstructionsAct25).fld PN_STATUS.PC (0) = witPinInstructionsAct25.dev.fld PN_STATUS.PC (0) ∧
    (bit (witPinInstructionsAct25.dev.pnWord (0)) 0 = true → ∃ r ∈ (ran (.pnEnd ⟨(0), false⟩) witPinInstructionsAct25).sl.rises,
    r.src = 0x640 + 4 * (0))) := by decide +kernel
def witPinWaitsEndAndProgramsSwap1 : State := st (fun d => { ((ready d).setFld PN_STATUS.STATE 2) with pn := [(0, { prog := 0x307F, acc := 9 })], sf := 0x80000000 })
def witPinWaitsEndAndProgramsSwap2 : State := st (fun d => { ((ready d).setFld PN_STATUS.STATE 2) with pn := [(0, { prog := 0x2110, acc := 9, tmo := true, edge := true })] })
def witPinWaitsEndAndProgramsSwap3 : State := st (fun d => { ((ready d).setFld PN_STATUS.STATE 2) with pn := [(0, { prog := 0x2110, acc := 9, tmo := true })] })
def witPinWaitsEndAndProgramsSwap4 : State := st (fun d => { ((ready d).setFld PN_STATUS.STATE 2) with pn := [(0, { prog := 0x6002, acc := 9, wb := 6 })] })
def witPinWaitsEndAndProgramsSwap5 : State := st (fun d => { ((ready d).setFld PN_STATUS.STATE 2) with pn := [(0, { prog := 0x7002, tx := [5], acc := 9 })] })
def witPinWaitsEndAndProgramsSwap6 : State := st (fun d => { ((ready d).setFld PN_STATUS.STATE 2) with pn := [(0, { prog := 0xE002, acc := 9, capt := [4, 5, 6] })] })
def witPinWaitsEndAndProgramsSwap7 : State := st (fun d => { ((((ready d).setFld PN_STATUS.STATE 1).setFld SYS_MODE.MODE 2).setFld PN_STATUS.PGEN 0xFFFF) with pn := [(0, { prog := 0, shadow := some { prog := 0x15 <<< 768, cmd := none, due := some 4 } })] })
def witPinWaitsEndAndProgramsSwap8 : State := st (fun d => { ((((ready d).setFld PN_STATUS.STATE 2).setFld SYS_MODE.MODE 2).setFld PN_STATUS.SC 3) with pn := [(0, { prog := 0x4000, shadow := some { prog := 0x15 <<< 768, cmd := none, due := some 4 } })], tb := { eclk := 2 } })
theorem test_PinWaitsEndAndProgramsSwap_1 : ((0) < 32) ∧ (witPinWaitsEndAndProgramsSwap1.dev.pnState (0) = 2) ∧
    (witPinWaitsEndAndProgramsSwap1.dev.pnMet (0) (witPinWaitsEndAndProgramsSwap1.dev.pnWord (0)) = true) ∧ ((ran (.pnWaitSatisfied (0))
    witPinWaitsEndAndProgramsSwap1).fld PN_STATUS.STATE (0) = 1 ∧ (ran (.pnWaitSatisfied (0)) witPinWaitsEndAndProgramsSwap1).fld PN_STATUS.PC (0)
    = (witPinWaitsEndAndProgramsSwap1.dev.fld PN_STATUS.PC (0) + 1) % 32 ∧ ((ran (.pnWaitSatisfied (0))
    witPinWaitsEndAndProgramsSwap1).pne (0)).slack = 1 ∧ ((ran (.pnWaitSatisfied (0)) witPinWaitsEndAndProgramsSwap1).pne (0)).acc = 0 ∧
    (pnOp (witPinWaitsEndAndProgramsSwap1.dev.pnWord (0)) = 3 → bit (witPinWaitsEndAndProgramsSwap1.dev.pnWord (0)) 6 = true →
    (ran (.pnWaitSatisfied (0)) witPinWaitsEndAndProgramsSwap1).flagOn (cut (witPinWaitsEndAndProgramsSwap1.dev.pnWord (0)) 0 5) = false) ∧
    (pnOp (witPinWaitsEndAndProgramsSwap1.dev.pnWord (0)) = 4 → ((ran (.pnWaitSatisfied (0))
    witPinWaitsEndAndProgramsSwap1).pne (0)).latch.getLsbD (cut (witPinWaitsEndAndProgramsSwap1.dev.pnWord (0)) 0 2) = false)) :=
    by decide +kernel
theorem test_PinWaitsEndAndProgramsSwap_2 : ((0) < 32) ∧ (witPinWaitsEndAndProgramsSwap2.dev.pnState (0) = 2) ∧
    ((pnOp (witPinWaitsEndAndProgramsSwap2.dev.pnWord (0)) = 2 ∨ pnOp (witPinWaitsEndAndProgramsSwap2.dev.pnWord (0)) = 3 ∨
    pnOp (witPinWaitsEndAndProgramsSwap2.dev.pnWord (0)) = 4)) ∧ (bit (witPinWaitsEndAndProgramsSwap2.dev.pnWord (0)) 8 = true) ∧
    ((witPinWaitsEndAndProgramsSwap2.dev.pne (0)).tmo = true) ∧ (witPinWaitsEndAndProgramsSwap2.dev.pnMet (0)
    (witPinWaitsEndAndProgramsSwap2.dev.pnWord (0)) = true) ∧ ((ran (.pnWaitTimeout (0)) witPinWaitsEndAndProgramsSwap2).fld PN_STATUS.STATE (0)
    = 1 ∧ (ran (.pnWaitTimeout (0)) witPinWaitsEndAndProgramsSwap2).fld PN_STATUS.PC (0)
    = (witPinWaitsEndAndProgramsSwap2.dev.fld PN_STATUS.PC (0) + 1) % 32 ∧ ((ran (.pnWaitTimeout (0))
    witPinWaitsEndAndProgramsSwap2).pne (0)).slack = 1 ∧ ((ran (.pnWaitTimeout (0)) witPinWaitsEndAndProgramsSwap2).pne (0)).acc = 0) :=
    by decide +kernel
theorem test_PinWaitsEndAndProgramsSwap_3 : ((0) < 32) ∧ (witPinWaitsEndAndProgramsSwap3.dev.pnState (0) = 2) ∧
    ((pnOp (witPinWaitsEndAndProgramsSwap3.dev.pnWord (0)) = 2 ∨ pnOp (witPinWaitsEndAndProgramsSwap3.dev.pnWord (0)) = 3 ∨
    pnOp (witPinWaitsEndAndProgramsSwap3.dev.pnWord (0)) = 4)) ∧ (bit (witPinWaitsEndAndProgramsSwap3.dev.pnWord (0)) 8 = true) ∧
    ((witPinWaitsEndAndProgramsSwap3.dev.pne (0)).tmo = true) ∧ (witPinWaitsEndAndProgramsSwap3.dev.pnMet (0)
    (witPinWaitsEndAndProgramsSwap3.dev.pnWord (0)) = false) ∧ ((ran (.pnWaitTimeout (0)) witPinWaitsEndAndProgramsSwap3).fld PN_STATUS.STATE (0)
    = 1 ∧ (ran (.pnWaitTimeout (0)) witPinWaitsEndAndProgramsSwap3).fld PN_STATUS.PC (0)
    = (witPinWaitsEndAndProgramsSwap3.dev.fld PN_STATUS.PC (0) + 1) % 32 ∧ ((ran (.pnWaitTimeout (0))
    witPinWaitsEndAndProgramsSwap3).pne (0)).slack = 1 ∧ ((ran (.pnWaitTimeout (0)) witPinWaitsEndAndProgramsSwap3).pne (0)).acc = 0 ∧
    ((ran (.pnWaitTimeout (0)) witPinWaitsEndAndProgramsSwap3).pne (0)).oe = (witPinWaitsEndAndProgramsSwap3.dev.pne (0)).oe ∧
    ((ran (.pnWaitTimeout (0)) witPinWaitsEndAndProgramsSwap3).pne (0)).lvl = (witPinWaitsEndAndProgramsSwap3.dev.pne (0)).lvl) :=
    by decide +kernel
theorem test_PinWaitsEndAndProgramsSwap_4 : ((0) < 32) ∧ (witPinWaitsEndAndProgramsSwap4.dev.pnState (0) = 2) ∧
    (pnOp (witPinWaitsEndAndProgramsSwap4.dev.pnWord (0)) = 6) ∧ ((witPinWaitsEndAndProgramsSwap4.dev.pne (0)).rx.length < 8) ∧
    ((ran (.pnBlockRelease (0)) witPinWaitsEndAndProgramsSwap4).fld PN_STATUS.STATE (0) = 1 ∧ (ran (.pnBlockRelease (0))
    witPinWaitsEndAndProgramsSwap4).fld PN_STATUS.PC (0) = (witPinWaitsEndAndProgramsSwap4.dev.fld PN_STATUS.PC (0) + 1) % 32 ∧
    ((ran (.pnBlockRelease (0)) witPinWaitsEndAndProgramsSwap4).pne (0)).slack = 1 ∧ ((ran (.pnBlockRelease (0))
    witPinWaitsEndAndProgramsSwap4).pne (0)).acc = 0 ∧ ((ran (.pnBlockRelease (0))
    witPinWaitsEndAndProgramsSwap4).pne (0)).rx = (witPinWaitsEndAndProgramsSwap4.dev.pne
    (0)).rx ++ [(witPinWaitsEndAndProgramsSwap4.dev.pne (0)).reg (cut (witPinWaitsEndAndProgramsSwap4.dev.pnWord (0)) 1 2)]) := by decide +kernel
theorem test_PinWaitsEndAndProgramsSwap_5 : ((0) < 32) ∧ (witPinWaitsEndAndProgramsSwap5.dev.pnState (0) = 2) ∧
    (pnOp (witPinWaitsEndAndProgramsSwap5.dev.pnWord (0)) = 7) ∧ ((witPinWaitsEndAndProgramsSwap5.dev.pne (0)).tx = ((5 : BitVec 32))
    :: ([] : List (BitVec 32))) ∧ ((ran (.pnBlockRelease (0)) witPinWaitsEndAndProgramsSwap5).fld PN_STATUS.STATE (0) = 1 ∧
    (ran (.pnBlockRelease (0)) witPinWaitsEndAndProgramsSwap5).fld PN_STATUS.PC (0) = (witPinWaitsEndAndProgramsSwap5.dev.fld PN_STATUS.PC (0)
    + 1) % 32 ∧ ((ran (.pnBlockRelease (0)) witPinWaitsEndAndProgramsSwap5).pne (0)).slack = 1 ∧ ((ran (.pnBlockRelease (0))
    witPinWaitsEndAndProgramsSwap5).pne (0)).acc = 0 ∧ ((ran (.pnBlockRelease (0))
    witPinWaitsEndAndProgramsSwap5).pne (0)).tx = ([] : List (BitVec 32)) ∧ ((ran (.pnBlockRelease (0))
    witPinWaitsEndAndProgramsSwap5).pne (0)).reg (cut (witPinWaitsEndAndProgramsSwap5.dev.pnWord (0)) 1 2)
    = ((witPinWaitsEndAndProgramsSwap5.dev.pne (0)).setReg (cut (witPinWaitsEndAndProgramsSwap5.dev.pnWord (0)) 1 2)
    ((5 : BitVec 32))).reg (cut (witPinWaitsEndAndProgramsSwap5.dev.pnWord (0)) 1 2)) := by decide +kernel
theorem test_PinWaitsEndAndProgramsSwap_6 : ((0) < 32) ∧ (witPinWaitsEndAndProgramsSwap6.dev.pnState (0) = 2) ∧
    (pnOp (witPinWaitsEndAndProgramsSwap6.dev.pnWord (0)) = 14) ∧ ((witPinWaitsEndAndProgramsSwap6.dev.pne (0)).rx.length ≤ 5) ∧
    ((ran (.pnBlockRelease (0)) witPinWaitsEndAndProgramsSwap6).fld PN_STATUS.STATE (0) = 1 ∧ (ran (.pnBlockRelease (0))
    witPinWaitsEndAndProgramsSwap6).fld PN_STATUS.PC (0) = (witPinWaitsEndAndProgramsSwap6.dev.fld PN_STATUS.PC (0) + 1) % 32 ∧
    ((ran (.pnBlockRelease (0)) witPinWaitsEndAndProgramsSwap6).pne (0)).slack = 1 ∧ ((ran (.pnBlockRelease (0))
    witPinWaitsEndAndProgramsSwap6).pne (0)).acc = 0 ∧ ((ran (.pnBlockRelease (0))
    witPinWaitsEndAndProgramsSwap6).pne (0)).rx = (witPinWaitsEndAndProgramsSwap6.dev.pne
    (0)).rx ++ (witPinWaitsEndAndProgramsSwap6.dev.pne (0)).capt) := by decide +kernel
theorem test_PinWaitsEndAndProgramsSwap_7 : ((0) < 32) ∧
    ((witPinWaitsEndAndProgramsSwap7.dev.pne (0)).shadow = some ({ prog := 0x15 <<< 768, cmd := none, due := some 4 } : Shadow)) ∧
    ((witPinWaitsEndAndProgramsSwap7.dev.pnState (0) = 0 ∨ witPinWaitsEndAndProgramsSwap7.dev.pnState (0) = 3 ∨
    (witPinWaitsEndAndProgramsSwap7.dev.pnState (0) = 1 ∧ witPinWaitsEndAndProgramsSwap7.dev.operate = true ∧
    (witPinWaitsEndAndProgramsSwap7.dev.pne (0)).slack = 0 ∧ witPinWaitsEndAndProgramsSwap7.dev.fld PN_STATUS.SC (0) = 0 ∧
    blkBarred (witPinWaitsEndAndProgramsSwap7.dev.pne (0)).prog (witPinWaitsEndAndProgramsSwap7.dev.fld PN_STATUS.PC (0)) = false))) ∧
    (((ran (.pnSwap (0)) witPinWaitsEndAndProgramsSwap7).pne (0)).prog = ({ prog := 0x15 <<< 768, cmd := none, due := some 4 } : Shadow).prog ∧
    ((ran (.pnSwap (0)) witPinWaitsEndAndProgramsSwap7).pne (0)).shadow = none ∧ ((ran (.pnSwap (0))
    witPinWaitsEndAndProgramsSwap7).pne (0)).slack = 0 ∧ (ran (.pnSwap (0)) witPinWaitsEndAndProgramsSwap7).fld PN_STATUS.STATE (0) = 1 ∧
    (ran (.pnSwap (0)) witPinWaitsEndAndProgramsSwap7).fld PN_STATUS.SWAP_PEND (0) = 0 ∧ (ran (.pnSwap (0))
    witPinWaitsEndAndProgramsSwap7).fld PN_STATUS.PC (0) = blkStart ({ prog := 0x15 <<< 768, cmd := none, due := some 4 } : Shadow).prog ∧
    (ran (.pnSwap (0)) witPinWaitsEndAndProgramsSwap7).fld PN_STATUS.PGEN (0) = nextGen (witPinWaitsEndAndProgramsSwap7.dev.fld PN_STATUS.PGEN
    (0)) ∧ (ran (.pnSwap (0)) witPinWaitsEndAndProgramsSwap7).fld PN_STATUS.SC (0) = witPinWaitsEndAndProgramsSwap7.dev.fld PN_STATUS.SC (0)) :=
    by decide +kernel
theorem test_PinWaitsEndAndProgramsSwap_8 : ((0) < 32) ∧
    ((witPinWaitsEndAndProgramsSwap8.dev.pne (0)).shadow = some ({ prog := 0x15 <<< 768, cmd := none, due := some 4 } : Shadow)) ∧
    (({ prog := 0x15 <<< 768, cmd := none, due := some 4 } : Shadow).due = some (4)) ∧ (witPinWaitsEndAndProgramsSwap8.dev.operate = true) ∧ ((4)
    ≤ 2 * witPinWaitsEndAndProgramsSwap8.dev.tb.eclk) ∧ ((witPinWaitsEndAndProgramsSwap8.dev.pne (0)).bound = none) ∧
    (((ran (.swapDeadlineExpire (0)) witPinWaitsEndAndProgramsSwap8).pne (0)).prog = ({ prog := 0x15 <<< 768, cmd := none, due := some 4 }
    : Shadow).prog ∧ ((ran (.swapDeadlineExpire (0)) witPinWaitsEndAndProgramsSwap8).pne (0)).shadow = none ∧ ((ran (.swapDeadlineExpire (0))
    witPinWaitsEndAndProgramsSwap8).pne (0)).slack = 0 ∧ (ran (.swapDeadlineExpire (0)) witPinWaitsEndAndProgramsSwap8).fld PN_STATUS.STATE (0)
    = 1 ∧ (ran (.swapDeadlineExpire (0)) witPinWaitsEndAndProgramsSwap8).fld PN_STATUS.SWAP_PEND (0) = 0 ∧ (ran (.swapDeadlineExpire (0))
    witPinWaitsEndAndProgramsSwap8).fld PN_STATUS.PC (0) = blkStart ({ prog := 0x15 <<< 768, cmd := none, due := some 4 } : Shadow).prog ∧
    (ran (.swapDeadlineExpire (0)) witPinWaitsEndAndProgramsSwap8).fld PN_STATUS.PGEN (0)
    = nextGen (witPinWaitsEndAndProgramsSwap8.dev.fld PN_STATUS.PGEN (0)) ∧ (ran (.swapDeadlineExpire (0))
    witPinWaitsEndAndProgramsSwap8).fld PN_STATUS.SC (0) = 0 ∧ (ran (.swapDeadlineExpire (0))
    witPinWaitsEndAndProgramsSwap8).fld PN_ERR.ABANDON_CNT (0) = (if witPinWaitsEndAndProgramsSwap8.dev.fld PN_STATUS.SC (0) = 0 then
    witPinWaitsEndAndProgramsSwap8.dev.fld PN_ERR.ABANDON_CNT (0) else min (witPinWaitsEndAndProgramsSwap8.dev.fld PN_ERR.ABANDON_CNT (0) + 1)
    (2 ^ PN_ERR.ABANDON_CNT.len - 1))) := by decide +kernel
theorem test_PinWaitsEndAndProgramsSwap_9 : (((({ ((((ready {}).setFld (PN_LANE.EN.nth 8 0) 1).setFld (PN_LANE.EN.nth 8 1) 1).setFld (PN_LANE.PIN.nth 8 1) 5).setFld TIO_PIN.OUT_SRC 2 5 with pn := [(0, { prog := 0xF0030000 <<< 512, oe := 0xC0 })] }
    : Dev).laneAndTouch 0 1 8 0 0).pne 0).oe = 0xC2) := by decide +kernel
def witLighterInstructionsAct1 : State := st (fun d => { ((ready d).setFld LT_STAT.LSTATE 1) with lt := { chans := [(0, { lines := [{ addr := 0, data := 0x400000000000000, pi := 0 }] })] } })
def witLighterInstructionsAct2 : State := st (fun d => { ((ready d).setFld LT_STAT.LSTATE 1) with lt := { chans := [(0, { lines := [{ addr := 0, data := 0x800000000000000, pi := 3 }], pi := 3 })] } })
def witLighterInstructionsAct3 : State := st (fun d => { ((ready d).setFld LT_STAT.LSTATE 1) with lt := { chans := [(0, { lines := [{ addr := 0, data := 0x80000000fffffff8, pi := 0 }] })] } })
def witLighterInstructionsAct4 : State := st (fun d => { ((ready d).setFld LT_STAT.LSTATE 1) with lt := { chans := [(0, { lines := [{ addr := 0, data := 0x8000000000000004, pi := 0 }] })] } })
def witLighterInstructionsAct5 : State := st (fun d => { ((ready d).setFld LT_STAT.LSTATE 1) with lt := { chans := [(0, { lines := [{ addr := 0, data := 0x30000000ffffffff, pi := 0 }] })] } })
def witLighterInstructionsAct6 : State := st (fun d => { ((ready d).setFld LT_STAT.LSTATE 1) with lt := { chans := [(0, { lines := [{ addr := 0, data := 0x4000000000000000, pi := 0 }], loops := [{ count := none, body := 24 }] })] } })
def witLighterInstructionsAct7 : State := st (fun d => { ((ready d).setFld LT_STAT.LSTATE 1) with lt := { chans := [(0, { lines := [{ addr := 0, data := 0x4000000000000000, pi := 0 }], loops := [{ count := some 2, body := 24 }] })] } })
def witLighterInstructionsAct8 : State := st (fun d => { ((ready d).setFld LT_STAT.LSTATE 1) with lt := { chans := [(0, { lines := [{ addr := 0, data := 0x4000000000000000, pi := 0 }], loops := [{ count := some 1, body := 24 }] })] } })
def witLighterInstructionsAct9 : State := st (fun d => { ((ready d).setFld LT_STAT.LSTATE 1) with lt := { chans := [(0, { lines := [{ addr := 0, data := 0x6c1f000000000005, pi := 0 }] })] } })
def witLighterInstructionsAct10 : State := st (fun d => { ((ready d).setFld LT_STAT.LSTATE 1) with lt := { chans := [(0, { lines := [{ addr := 0, data := 0x27000000ffffffff, pi := 0 }], areg := [(3, 5)] })] } })
def witLighterInstructionsAct11 : State := st (fun d => { ((((ready d).setFld LT_STAT.LSTATE 1).setFld BH_OWNER.CUR_KIND 1 1).setFld BH_OWNER.CUR_INDEX 0 1) with lt := { chans := [(0, { lines := [{ addr := 0, data := 0x2a00000012345678, pi := 0 }], areg := [(2, 0x4000000000010008)] })] } })
def witLighterInstructionsAct12 : State := st (fun d => { ((ready d).setFld LT_STAT.LSTATE 1) with lt := { chans := [(0, { lines := [{ addr := 0, data := 0x1000000000000004, pi := 0 }] })] } })
def witLighterInstructionsAct13 : State := st (fun d => { ((ready d).setFld LT_STAT.LSTATE 1) with lt := { chans := [(0, { lines := [{ addr := 0, data := 0x1002000800000004, pi := 0 }] })] } })
def witLighterInstructionsAct14 : State := st (fun d => { ((ready d).setFld LT_STAT.LSTATE 1) with lt := { chans := [(0, { lines := [{ addr := 0, data := 0x5800000000000000, pi := 0 }] })] } })
def witLighterInstructionsAct15 : State := st (fun d => { ((ready d).setFld LT_STAT.LSTATE 1) with lt := { chans := [(0, { lines := [{ addr := 0, data := 0x7000000000000000, pi := 0 }] })] } })
def witLighterInstructionsAct16 : State := st (fun d => { ((ready d).setFld LT_STAT.LSTATE 1) with lt := { chans := [(0, { lines := [{ addr := 0, data := 0x7000000000000000, pi := 0 }], hostDirty := some 3 })] } })
theorem test_LighterInstructionsAct_1 : ((0) < 32) ∧ (witLighterInstructionsAct1.dev.ltState (0) = 1) ∧
    ((witLighterInstructionsAct1.dev.ltc (0)).move = none) ∧ ((witLighterInstructionsAct1.dev.ltc (0)).fence = false) ∧
    ((witLighterInstructionsAct1.dev.ltc (0)).refetch = none) ∧ (witLighterInstructionsAct1.dev.ltWord (0)
    = some ((0x400000000000000 : BitVec 64))) ∧ (bits ((0x400000000000000 : BitVec 64)) 60 4 = 0) ∧ (bits ((0x400000000000000 : BitVec 64))
    0 58 = 0) ∧ (((0x400000000000000 : BitVec 64)).getLsbD 59 = false) ∧ ((ran (.ltEnd (0)) witLighterInstructionsAct1).fld LT_STAT.LSTATE (0)
    = 0 ∧ (ran (.ltEnd (0)) witLighterInstructionsAct1).fld LT_PC.PC (0) = witLighterInstructionsAct1.dev.fld LT_PC.PC (0) ∧
    (((0x400000000000000 : BitVec 64)).getLsbD 58 = true → ∃ y ∈ (ran (.ltEnd (0)) witLighterInstructionsAct1).sl.rises, y.src = 0x6C0 + 2 * (0)))
    := by decide +kernel
theorem test_LighterInstructionsAct_2 : ((0) < 32) ∧ (witLighterInstructionsAct2.dev.ltState (0) = 1) ∧
    ((witLighterInstructionsAct2.dev.ltc (0)).move = none) ∧ ((witLighterInstructionsAct2.dev.ltc (0)).fence = false) ∧
    ((witLighterInstructionsAct2.dev.ltc (0)).refetch = none) ∧ (witLighterInstructionsAct2.dev.ltWord (0)
    = some ((0x800000000000000 : BitVec 64))) ∧ (bits ((0x800000000000000 : BitVec 64)) 60 4 = 0) ∧ (bits ((0x800000000000000 : BitVec 64))
    0 58 = 0) ∧ (((0x800000000000000 : BitVec 64)).getLsbD 59 = true) ∧ (witLighterInstructionsAct2.dev.ltHeldLine (0)
    = some ({ addr := 0, data := 0x800000000000000, pi := 3 } : LtLine)) ∧ (({ addr := 0, data := 0x800000000000000, pi := 3 } : LtLine).piOf
    (witLighterInstructionsAct2.dev.ltPc (0)) = (witLighterInstructionsAct2.dev.ltc (0)).pi) ∧ ((ran (.ltEnd (0))
    witLighterInstructionsAct2).fld LT_STAT.LSTATE (0) = 3 ∧ (ran (.ltEnd (0)) witLighterInstructionsAct2).fld LT_PC.PC (0)
    = witLighterInstructionsAct2.dev.fld LT_PC.PC (0) ∧ ((ran (.ltEnd (0)) witLighterInstructionsAct2).ltc (0)).refetch = none ∧
    ((ran (.ltEnd (0)) witLighterInstructionsAct2).ltc (0)).tailAt = 2 * witLighterInstructionsAct2.dev.tb.eclk ∧ (ran (.ltEnd (0))
    witLighterInstructionsAct2).fld LT_DIAG.PARK_CNT (0) = min (witLighterInstructionsAct2.dev.fld LT_DIAG.PARK_CNT (0) + 1)
    (2 ^ LT_DIAG.PARK_CNT.len - 1)) := by decide +kernel
theorem test_LighterInstructionsAct_3 : ((0) < 32) ∧ (witLighterInstructionsAct3.dev.ltState (0) = 1) ∧
    ((witLighterInstructionsAct3.dev.ltc (0)).move = none) ∧ ((witLighterInstructionsAct3.dev.ltc (0)).fence = false) ∧
    ((witLighterInstructionsAct3.dev.ltc (0)).refetch = none) ∧ (witLighterInstructionsAct3.dev.ltWord (0)
    = some ((0x80000000fffffff8 : BitVec 64))) ∧ (bits ((0x80000000fffffff8 : BitVec 64)) 60 4 = 8) ∧ (bits ((0x80000000fffffff8 : BitVec 64))
    32 28 = 0 ∧ bits ((0x80000000fffffff8 : BitVec 64)) 0 3 = 0) ∧ ((ran (.ltLink (0)) witLighterInstructionsAct3).fld LT_STAT.LSTATE (0) = 1 ∧
    (ran (.ltLink (0)) witLighterInstructionsAct3).fld LT_PC.PC (0) = put (witLighterInstructionsAct3.dev.fld LT_PC.PC (0))
    0 32 (bits ((0x80000000fffffff8 : BitVec 64)) 0 32) % 2 ^ LT_PC.PC.len) := by decide +kernel
theorem test_LighterInstructionsAct_4 : ((0) < 32) ∧ (witLighterInstructionsAct4.dev.ltState (0) = 1) ∧
    ((witLighterInstructionsAct4.dev.ltc (0)).move = none) ∧ ((witLighterInstructionsAct4.dev.ltc (0)).fence = false) ∧
    ((witLighterInstructionsAct4.dev.ltc (0)).refetch = none) ∧ (witLighterInstructionsAct4.dev.ltWord (0)
    = some ((0x8000000000000004 : BitVec 64))) ∧ ((bits ((0x8000000000000004 : BitVec 64)) 60 4, (.ltLink 0 : Instr), true)
    ∈ ([(0, .ltEnd (0), bits ((0x8000000000000004 : BitVec 64)) 0 58 != 0), (2, .ltMovei (0), bits ((0x8000000000000004 : BitVec 64)) 32 22 != 0 || bits ((0x8000000000000004 : BitVec 64)) 58 2 == 3), (3, .ltLoop (0), bits ((0x8000000000000004 : BitVec 64)) 32 28 != 0), (4, .ltEndl (0), bits ((0x8000000000000004 : BitVec 64)) 0 60 != 0), (5, .ltWait (0), bits ((0x8000000000000004 : BitVec 64)) 58 2 == 3 || bits ((0x8000000000000004 : BitVec 64)) 32 14 != 0), (6, .ltSignal (0), bits ((0x8000000000000004 : BitVec 64)) 53 5 != 0 || bits ((0x8000000000000004 : BitVec 64)) 16 31 != 0), (7, .ltFence (0), bits ((0x8000000000000004 : BitVec 64)) 0 60 != 0), (8, .ltLink (0), bits ((0x8000000000000004 : BitVec 64)) 32 28 != 0 || bits ((0x8000000000000004 : BitVec 64)) 0 3 != 0)]
    : List (Nat × Instr × Bool))) ∧ ((ran ((.ltLink 0 : Instr)) witLighterInstructionsAct4).fld LT_STAT.LSTATE (0) = 6 ∧
    (ran ((.ltLink 0 : Instr)) witLighterInstructionsAct4).fld LT_PC.PC (0) = witLighterInstructionsAct4.dev.fld LT_PC.PC (0) ∧
    ∃ y ∈ (ran ((.ltLink 0 : Instr)) witLighterInstructionsAct4).sl.rises, y.src = 0x6C1 + 2 * (0) ∧ (ran ((.ltLink 0 : Instr))
    witLighterInstructionsAct4).fld LT_CNT.ERR_CNT (0) = min (witLighterInstructionsAct4.dev.fld LT_CNT.ERR_CNT (0) + 1)
    (2 ^ LT_CNT.ERR_CNT.len - 1) ∧ (ran ((.ltLink 0 : Instr)) witLighterInstructionsAct4).mem = witLighterInstructionsAct4.dev.mem) :=
    by decide +kernel
theorem test_LighterInstructionsAct_5 : ((0) < 32) ∧ (witLighterInstructionsAct5.dev.ltState (0) = 1) ∧
    ((witLighterInstructionsAct5.dev.ltc (0)).move = none) ∧ ((witLighterInstructionsAct5.dev.ltc (0)).fence = false) ∧
    ((witLighterInstructionsAct5.dev.ltc (0)).refetch = none) ∧ (witLighterInstructionsAct5.dev.ltWord (0)
    = some ((0x30000000ffffffff : BitVec 64))) ∧ (bits ((0x30000000ffffffff : BitVec 64)) 60 4 = 3) ∧ (bits ((0x30000000ffffffff : BitVec 64))
    32 28 = 0) ∧ ((witLighterInstructionsAct5.dev.ltc (0)).loops.length < 2) ∧ ((ran (.ltLoop (0)) witLighterInstructionsAct5).fld LT_PC.PC (0)
    = put (witLighterInstructionsAct5.dev.fld LT_PC.PC (0)) 0 32 (witLighterInstructionsAct5.dev.fld LT_PC.PC (0) % 2 ^ 32 + 8)
    % 2 ^ LT_PC.PC.len ∧ ((ran (.ltLoop (0))
    witLighterInstructionsAct5).ltc (0)).loops = { count := if bits ((0x30000000ffffffff : BitVec 64)) 0 32 = 0 then none else some (bits ((0x30000000ffffffff : BitVec 64)) 0 32), body := (ran (.ltLoop (0)) witLighterInstructionsAct5).fld LT_PC.PC (0) % 2 ^ 32 }
    :: (witLighterInstructionsAct5.dev.ltc (0)).loops) := by decide +kernel
theorem test_LighterInstructionsAct_6 : ((0) < 32) ∧ (witLighterInstructionsAct6.dev.ltState (0) = 1) ∧
    ((witLighterInstructionsAct6.dev.ltc (0)).move = none) ∧ ((witLighterInstructionsAct6.dev.ltc (0)).fence = false) ∧
    ((witLighterInstructionsAct6.dev.ltc (0)).refetch = none) ∧ (witLighterInstructionsAct6.dev.ltWord (0)
    = some ((0x4000000000000000 : BitVec 64))) ∧ (bits ((0x4000000000000000 : BitVec 64)) 60 4 = 4) ∧ (bits ((0x4000000000000000 : BitVec 64))
    0 60 = 0) ∧ ((witLighterInstructionsAct6.dev.ltc (0)).loops = ({ count := none, body := 24 } : LtLoop) :: ([] : List LtLoop)) ∧
    (({ count := none, body := 24 } : LtLoop).count = none) ∧ ((ran (.ltEndl (0)) witLighterInstructionsAct6).fld LT_PC.PC (0)
    = put (witLighterInstructionsAct6.dev.fld LT_PC.PC (0)) 0 32 (({ count := none, body := 24 } : LtLoop).body) % 2 ^ LT_PC.PC.len ∧
    ((ran (.ltEndl (0)) witLighterInstructionsAct6).ltc (0)).loops = ({ count := none, body := 24 } : LtLoop) :: ([] : List LtLoop)) :=
    by decide +kernel
theorem test_LighterInstructionsAct_7 : ((0) < 32) ∧ (witLighterInstructionsAct7.dev.ltState (0) = 1) ∧
    ((witLighterInstructionsAct7.dev.ltc (0)).move = none) ∧ ((witLighterInstructionsAct7.dev.ltc (0)).fence = false) ∧
    ((witLighterInstructionsAct7.dev.ltc (0)).refetch = none) ∧ (witLighterInstructionsAct7.dev.ltWord (0)
    = some ((0x4000000000000000 : BitVec 64))) ∧ (bits ((0x4000000000000000 : BitVec 64)) 60 4 = 4) ∧ (bits ((0x4000000000000000 : BitVec 64))
    0 60 = 0) ∧ ((witLighterInstructionsAct7.dev.ltc (0)).loops = ({ count := some 2, body := 24 } : LtLoop) :: ([] : List LtLoop)) ∧
    (({ count := some 2, body := 24 } : LtLoop).count = some (2)) ∧ (1 < (2)) ∧ ((ran (.ltEndl (0)) witLighterInstructionsAct7).fld LT_PC.PC (0)
    = put (witLighterInstructionsAct7.dev.fld LT_PC.PC (0)) 0 32 (({ count := some 2, body := 24 } : LtLoop).body) % 2 ^ LT_PC.PC.len ∧
    ((ran (.ltEndl (0)) witLighterInstructionsAct7).ltc (0)).loops = { ({ count := some 2, body := 24 } : LtLoop) with count := some ((2) - 1) }
    :: ([] : List LtLoop)) := by decide +kernel
theorem test_LighterInstructionsAct_8 : ((0) < 32) ∧ (witLighterInstructionsAct8.dev.ltState (0) = 1) ∧
    ((witLighterInstructionsAct8.dev.ltc (0)).move = none) ∧ ((witLighterInstructionsAct8.dev.ltc (0)).fence = false) ∧
    ((witLighterInstructionsAct8.dev.ltc (0)).refetch = none) ∧ (witLighterInstructionsAct8.dev.ltWord (0)
    = some ((0x4000000000000000 : BitVec 64))) ∧ (bits ((0x4000000000000000 : BitVec 64)) 60 4 = 4) ∧ (bits ((0x4000000000000000 : BitVec 64))
    0 60 = 0) ∧ ((witLighterInstructionsAct8.dev.ltc (0)).loops = ({ count := some 1, body := 24 } : LtLoop) :: ([] : List LtLoop)) ∧
    (({ count := some 1, body := 24 } : LtLoop).count = some (1)) ∧ ((1) ≤ 1) ∧ ((ran (.ltEndl (0)) witLighterInstructionsAct8).fld LT_PC.PC (0)
    = put (witLighterInstructionsAct8.dev.fld LT_PC.PC (0)) 0 32 (witLighterInstructionsAct8.dev.fld LT_PC.PC (0) % 2 ^ 32 + 8)
    % 2 ^ LT_PC.PC.len ∧ ((ran (.ltEndl (0)) witLighterInstructionsAct8).ltc (0)).loops = ([] : List LtLoop)) := by decide +kernel
theorem test_LighterInstructionsAct_9 : ((0) < 32) ∧ (witLighterInstructionsAct9.dev.ltState (0) = 1) ∧
    ((witLighterInstructionsAct9.dev.ltc (0)).move = none) ∧ ((witLighterInstructionsAct9.dev.ltc (0)).fence = false) ∧
    ((witLighterInstructionsAct9.dev.ltc (0)).refetch = none) ∧ (witLighterInstructionsAct9.dev.ltWord (0)
    = some ((0x6c1f000000000005 : BitVec 64))) ∧ (bits ((0x6c1f000000000005 : BitVec 64)) 60 4 = 6) ∧ (bits ((0x6c1f000000000005 : BitVec 64))
    53 5 = 0 ∧ bits ((0x6c1f000000000005 : BitVec 64)) 16 31 = 0) ∧ ((ran (.ltSignal (0)) witLighterInstructionsAct9).fld LT_PC.PC (0)
    = put (witLighterInstructionsAct9.dev.fld LT_PC.PC (0)) 0 32 (witLighterInstructionsAct9.dev.fld LT_PC.PC (0) % 2 ^ 32 + 8)
    % 2 ^ LT_PC.PC.len ∧ (((0x6c1f000000000005 : BitVec 64)).getLsbD 47 = false → ∃ y ∈ (ran (.ltSignal (0)) witLighterInstructionsAct9).sl.rises,
    y.src = 0x6C0 + 2 * (0)) ∧ (ran (.ltSignal (0)) witLighterInstructionsAct9).sf = (if ((0x6c1f000000000005 : BitVec 64)).getLsbD 59 then
    BitVec.ofNat 32 (put witLighterInstructionsAct9.dev.sf.toNat (bits ((0x6c1f000000000005 : BitVec 64)) 48 5)
    1 (((0x6c1f000000000005 : BitVec 64)).getLsbD 58).toNat) else witLighterInstructionsAct9.dev.sf)) := by decide +kernel
theorem test_LighterInstructionsAct_10 : ((0) < 32) ∧ (witLighterInstructionsAct10.dev.ltState (0) = 1) ∧
    ((witLighterInstructionsAct10.dev.ltc (0)).move = none) ∧ ((witLighterInstructionsAct10.dev.ltc (0)).fence = false) ∧
    ((witLighterInstructionsAct10.dev.ltc (0)).refetch = none) ∧ (witLighterInstructionsAct10.dev.ltWord (0)
    = some ((0x27000000ffffffff : BitVec 64))) ∧ (bits ((0x27000000ffffffff : BitVec 64)) 60 4 = 2) ∧ (bits ((0x27000000ffffffff : BitVec 64))
    32 22 = 0) ∧ (bits ((0x27000000ffffffff : BitVec 64)) 58 2 < 2) ∧ ((ran (.ltMovei (0)) witLighterInstructionsAct10).fld LT_PC.PC (0)
    = put (witLighterInstructionsAct10.dev.fld LT_PC.PC (0)) 0 32 (witLighterInstructionsAct10.dev.fld LT_PC.PC (0) % 2 ^ 32 + 8)
    % 2 ^ LT_PC.PC.len ∧ ((ran (.ltMovei (0)) witLighterInstructionsAct10).ltc (0)).a (bits ((0x27000000ffffffff : BitVec 64)) 56 2)
    = put ((witLighterInstructionsAct10.dev.ltc (0)).a (bits ((0x27000000ffffffff : BitVec 64)) 56 2))
    (32 * bits ((0x27000000ffffffff : BitVec 64)) 58 2) 32 (bits ((0x27000000ffffffff : BitVec 64)) 0 32) ∧ (ran (.ltMovei (0))
    witLighterInstructionsAct10).mem = witLighterInstructionsAct10.dev.mem) := by decide +kernel
theorem test_LighterInstructionsAct_11 : ((0) < 32) ∧ (witLighterInstructionsAct11.dev.ltState (0) = 1) ∧
    ((witLighterInstructionsAct11.dev.ltc (0)).move = none) ∧ ((witLighterInstructionsAct11.dev.ltc (0)).fence = false) ∧
    ((witLighterInstructionsAct11.dev.ltc (0)).refetch = none) ∧ (witLighterInstructionsAct11.dev.ltWord (0)
    = some ((0x2a00000012345678 : BitVec 64))) ∧ (bits ((0x2a00000012345678 : BitVec 64)) 60 4 = 2) ∧ (bits ((0x2a00000012345678 : BitVec 64))
    32 22 = 0) ∧ (bits ((0x2a00000012345678 : BitVec 64)) 58 2 = 2) ∧ (mvBad ((0x2a00000012345678 : BitVec 64)) = false) ∧
    (ltTarget ((witLighterInstructionsAct11.dev.ltc (0)).a (bits ((0x2a00000012345678 : BitVec 64)) 56 2)) = .berth (0x10008)) ∧ ((0x10008)
    % 4 = 0) ∧ ((witLighterInstructionsAct11.dev.ltc (0)).a (bits ((0x2a00000012345678 : BitVec 64)) 56 2) % 4 = 0) ∧
    (witLighterInstructionsAct11.dev.ltAccess (0) ((0x10008) / 65536) = .served) ∧ (witLighterInstructionsAct11.dev.onP1 ((0x10008) / 65536) 1 (0)
    = false) ∧ (witLighterInstructionsAct11.dev.writeBad (0x10008) 4 = false) ∧
    (witLighterInstructionsAct11.dev.ltFlying < witLighterInstructionsAct11.dev.ltMaxBursts) ∧ ((ran (.ltMovei (0))
    witLighterInstructionsAct11).fld LT_PC.PC (0) = put (witLighterInstructionsAct11.dev.fld LT_PC.PC (0))
    0 32 (witLighterInstructionsAct11.dev.fld LT_PC.PC (0) % 2 ^ 32 + 8) % 2 ^ LT_PC.PC.len ∧ (ran (.ltMovei (0))
    witLighterInstructionsAct11).mem = (witLighterInstructionsAct11.dev.berthWrite (0x10008) (bytesOf (bits ((0x2a00000012345678 : BitVec 64))
    0 32) 4)).mem ∧ ((ran (.ltMovei (0)) witLighterInstructionsAct11).ltc (0)).move = none ∧ ((ran (.ltMovei (0))
    witLighterInstructionsAct11).ltc (0)).hold = [] ∧ (ran (.ltMovei (0)) witLighterInstructionsAct11).fld LT_BYTES.BYTES (0)
    = (witLighterInstructionsAct11.dev.fld LT_BYTES.BYTES (0) + 4) % 2 ^ 64) := by decide +kernel
theorem test_LighterInstructionsAct_12 : ((0) < 32) ∧ (witLighterInstructionsAct12.dev.ltState (0) = 1) ∧
    ((witLighterInstructionsAct12.dev.ltc (0)).move = none) ∧ ((witLighterInstructionsAct12.dev.ltc (0)).fence = false) ∧
    ((witLighterInstructionsAct12.dev.ltc (0)).refetch = none) ∧ (witLighterInstructionsAct12.dev.ltWord (0)
    = some ((0x1000000000000004 : BitVec 64))) ∧ (bits ((0x1000000000000004 : BitVec 64)) 60 4 = 1) ∧ (mvBad ((0x1000000000000004 : BitVec 64))
    = false) ∧ (witLighterInstructionsAct12.dev.mvBadFields (0) ((0x1000000000000004 : BitVec 64))
    ((witLighterInstructionsAct12.dev.ltc (0)).a (mvSA ((0x1000000000000004 : BitVec 64))))
    ((witLighterInstructionsAct12.dev.ltc (0)).a (mvDA ((0x1000000000000004 : BitVec 64)))) = false) ∧ ((ran (.ltMove (0))
    witLighterInstructionsAct12).fld LT_PC.PC (0) = put (witLighterInstructionsAct12.dev.fld LT_PC.PC (0))
    0 32 (witLighterInstructionsAct12.dev.fld LT_PC.PC (0) % 2 ^ 32 + 8) % 2 ^ LT_PC.PC.len ∧ ((ran (.ltMove (0))
    witLighterInstructionsAct12).ltc (0)).move = some { word := ((0x1000000000000004 : BitVec 64)), pc := witLighterInstructionsAct12.dev.fld LT_PC.PC (0), rd := mvCount ((0x1000000000000004 : BitVec 64)), wr := mvCount ((0x1000000000000004 : BitVec 64)) }
    ∧ ((ran (.ltMove (0)) witLighterInstructionsAct12).ltc (0)).hold = [] ∧ ((ran (.ltMove (0))
    witLighterInstructionsAct12).ltc (0)).bursts = [] ∧ (ran (.ltMove (0)) witLighterInstructionsAct12).mem = witLighterInstructionsAct12.dev.mem)
    := by decide +kernel
theorem test_LighterInstructionsAct_13 : ((0) < 32) ∧ (witLighterInstructionsAct13.dev.ltState (0) = 1) ∧
    ((witLighterInstructionsAct13.dev.ltc (0)).move = none) ∧ ((witLighterInstructionsAct13.dev.ltc (0)).fence = false) ∧
    ((witLighterInstructionsAct13.dev.ltc (0)).refetch = none) ∧ (witLighterInstructionsAct13.dev.ltWord (0)
    = some ((0x1002000800000004 : BitVec 64))) ∧ (bits ((0x1002000800000004 : BitVec 64)) 60 4 = 1) ∧ (mvBad ((0x1002000800000004 : BitVec 64))
    = true) ∧ ((ran (.ltMove (0)) witLighterInstructionsAct13).fld LT_PC.PC (0) = put (witLighterInstructionsAct13.dev.fld LT_PC.PC (0))
    0 32 (witLighterInstructionsAct13.dev.fld LT_PC.PC (0) % 2 ^ 32 + 8) % 2 ^ LT_PC.PC.len ∧ ((ran (.ltMove (0))
    witLighterInstructionsAct13).ltc (0)).move = none ∧ ((ran (.ltMove (0))
    witLighterInstructionsAct13).ltc (0)).areg = ((witLighterInstructionsAct13.dev.ltc
    (0)).skip (({ word := ((0x1002000800000004 : BitVec 64)), pc := witLighterInstructionsAct13.dev.fld LT_PC.PC (0), rd := mvCount ((0x1002000800000004 : BitVec 64)), wr := mvCount ((0x1002000800000004 : BitVec 64)) }
    : LtMove))).areg ∧ (ran (.ltMove (0)) witLighterInstructionsAct13).fld LT_CNT.SKIP_CNT (0)
    = min (witLighterInstructionsAct13.dev.fld LT_CNT.SKIP_CNT (0) + 1) (2 ^ LT_CNT.SKIP_CNT.len - 1) ∧ (ran (.ltMove (0))
    witLighterInstructionsAct13).mem = witLighterInstructionsAct13.dev.mem) := by decide +kernel
theorem test_LighterInstructionsAct_14 : ((0) < 32) ∧ (witLighterInstructionsAct14.dev.ltState (0) = 1) ∧
    ((witLighterInstructionsAct14.dev.ltc (0)).move = none) ∧ ((witLighterInstructionsAct14.dev.ltc (0)).fence = false) ∧
    ((witLighterInstructionsAct14.dev.ltc (0)).refetch = none) ∧ (witLighterInstructionsAct14.dev.ltWord (0)
    = some ((0x5800000000000000 : BitVec 64))) ∧ (bits ((0x5800000000000000 : BitVec 64)) 60 4 = 5) ∧ (bits ((0x5800000000000000 : BitVec 64))
    58 2 ≠ 3 ∧ bits ((0x5800000000000000 : BitVec 64)) 32 14 = 0) ∧ ((ran (.ltWait (0)) witLighterInstructionsAct14).fld LT_STAT.LSTATE (0) = 2 ∧
    (ran (.ltWait (0)) witLighterInstructionsAct14).fld LT_PC.PC (0) = witLighterInstructionsAct14.dev.fld LT_PC.PC (0) ∧ ((ran (.ltWait (0))
    witLighterInstructionsAct14).ltc (0)).wait = some (2 * witLighterInstructionsAct14.dev.tb.eclk)) := by decide +kernel
theorem test_LighterInstructionsAct_15 : ((0) < 32) ∧ (witLighterInstructionsAct15.dev.ltState (0) = 1) ∧
    ((witLighterInstructionsAct15.dev.ltc (0)).move = none) ∧ ((witLighterInstructionsAct15.dev.ltc (0)).fence = false) ∧
    ((witLighterInstructionsAct15.dev.ltc (0)).refetch = none) ∧ (witLighterInstructionsAct15.dev.ltWord (0)
    = some ((0x7000000000000000 : BitVec 64))) ∧ (bits ((0x7000000000000000 : BitVec 64)) 60 4 = 7) ∧ (bits ((0x7000000000000000 : BitVec 64))
    0 60 = 0) ∧ ((witLighterInstructionsAct15.dev.ltc (0)).hostDirty = none) ∧ ((witLighterInstructionsAct15.dev.ltc (0)).berthDirty = []) ∧
    ((ran (.ltFence (0)) witLighterInstructionsAct15).fld LT_PC.PC (0) = put (witLighterInstructionsAct15.dev.fld LT_PC.PC (0))
    0 32 (witLighterInstructionsAct15.dev.fld LT_PC.PC (0) % 2 ^ 32 + 8) % 2 ^ LT_PC.PC.len ∧ ((ran (.ltFence (0))
    witLighterInstructionsAct15).ltc (0)).fence = false) := by decide +kernel
theorem test_LighterInstructionsAct_16 : ((0) < 32) ∧ (witLighterInstructionsAct16.dev.ltState (0) = 1) ∧
    ((witLighterInstructionsAct16.dev.ltc (0)).move = none) ∧ ((witLighterInstructionsAct16.dev.ltc (0)).fence = false) ∧
    ((witLighterInstructionsAct16.dev.ltc (0)).refetch = none) ∧ (witLighterInstructionsAct16.dev.ltWord (0)
    = some ((0x7000000000000000 : BitVec 64))) ∧ (bits ((0x7000000000000000 : BitVec 64)) 60 4 = 7) ∧ (bits ((0x7000000000000000 : BitVec 64))
    0 60 = 0) ∧ (((witLighterInstructionsAct16.dev.ltc (0)).hostDirty ≠ none ∨ (witLighterInstructionsAct16.dev.ltc (0)).berthDirty ≠ [])) ∧
    ((ran (.ltFence (0)) witLighterInstructionsAct16).fld LT_PC.PC (0) = witLighterInstructionsAct16.dev.fld LT_PC.PC (0) ∧ ((ran (.ltFence (0))
    witLighterInstructionsAct16).ltc (0)).fence = true ∧ (ran (.ltFence (0))
    witLighterInstructionsAct16).mem = witLighterInstructionsAct16.dev.mem) := by decide +kernel
def witLighterReadsAndWaitsEnd1 : State := st (fun d => { ((ready d).setFld LT_STAT.LSTATE 1) with lt := { chans := [(0, { lines := [], fetches := [(64, 7)] })] } })
def witLighterReadsAndWaitsEnd2 : State := st (fun d => { ((ready d).setFld LT_STAT.LSTATE 1) with lt := { chans := [(0, { lines := [], fetches := [(0, 7)] })] } })
def witLighterReadsAndWaitsEnd3 : State := st (fun d => { ((ready d).setFld LT_STAT.LSTATE 1) with lt := { chans := [(0, { lines := [], move := some { word := 0x10000000000000FC, pc := 0, rd := 0xFC, wr := 0xFC } })] } })
def witLighterReadsAndWaitsEnd4 : State := st (fun d => { ((((ready d).setFld LT_STAT.LSTATE 1).setFld BH_OWNER.CUR_KIND 1 1).setFld BH_OWNER.CUR_INDEX 0 1) with lt := { chans := [(0, { lines := [], move := some { word := 0x10020000000000FC, pc := 0, rd := 0xFC, wr := 0xFC }, areg := [(0, 0x4000000000010000)] })] } })
def witLighterReadsAndWaitsEnd5 : State := st (fun d => { ((ready d).setFld LT_STAT.LSTATE 1) with lt := { chans := [(0, { lines := [], areg := [(1, 8)], bursts := [{ src := 0, len := 4, out := 4 }], move := some { word := 0x1148000000000008, pc := 0, rd := 4, wr := 8 } })] } })
def witLighterReadsAndWaitsEnd6 : State := st (fun d => { ((ready d).setFld LT_STAT.LSTATE 1) with lt := { chans := [(0, { lines := [], areg := [(1, 8)], bursts := [{ src := 0, len := 4, out := 4 }], move := some { word := 0x1149000000000008, pc := 0, rd := 0, wr := 4 } })] } })
def witLighterReadsAndWaitsEnd7 : State := st (fun d => { ((ready d).setFld LT_STAT.LSTATE 1) with lt := { chans := [(0, { lines := [], bursts := [{ src := 0, len := 4, out := 4 }], move := some { word := 0x10000000000000FC, pc := 0, rd := 0xFC, wr := 0xFC } })] } })
def witLighterReadsAndWaitsEnd8 : State := st (fun d => { ((ready d).setFld LT_STAT.LSTATE 2) with lt := { chans := [(0, { lines := [{ addr := 0, data := 0x58000000FFFF0000, pi := 0 }], wait := some 3, areg := [(0, 0)] })] } })
def witLighterReadsAndWaitsEnd9 : State := st (fun d => { ((ready d).setFld LT_STAT.LSTATE 2) with lt := { chans := [(0, { lines := [{ addr := 0, data := 0x5000000000000001, pi := 0 }], wait := some 0 })] }, tb := { eclk := 500 } })
def witLighterReadsAndWaitsEnd10 : State := st (fun d => { ((ready d).setFld LT_STAT.LSTATE 1) with lt := { chans := [(0, { lines := [], fence := true, hostDirty := some 3 })] } })
def witLighterReadsAndWaitsEnd11 : State := st (fun d => { ((ready d).setFld LT_STAT.LSTATE 3) with lt := { chans := [(0, { lines := [{ addr := 0, data := 0x800000000000000, pi := 0 }], refetch := some 1 })] } })
def witLighterReadsAndWaitsEnd12 : State := st (fun d => { ((ready d).setFld LT_STAT.LSTATE 3) with lt := { chans := [(0, { lines := [{ addr := 0, data := 0x800000000000000, pi := 0 }], refetch := some 0 })] } })
def witLighterReadsAndWaitsEnd13 : State := st (fun d => { ((ready d).setFld LT_STAT.LSTATE 3) with lt := { chans := [(0, { lines := [{ addr := 0, data := 0x800000000000000, pi := 0 }], refetch := some 0 })] } })
def witLighterReadsAndWaitsEnd14 : State := st (fun d => { (((ready d).setFld LT_STAT.LSTATE 3).setFld LT_CFG.TAIL_US 1) with lt := { chans := [(0, { lines := [], pi := 4 })] }, tb := { eclk := 500 } })
def witLighterReadsAndWaitsEnd15 : State := st (fun d => { ((ready d).setFld LT_STAT.LSTATE 4) with lt := { chans := [(0, { lines := [], pause := some {} })] } })
def witLighterReadsAndWaitsEnd16 : State := st (fun d => { ((ready d).setFld LT_STAT.LSTATE 1) with lt := { chans := [(0, { lines := [], wrHeld := some 0, move := some { word := 0x10000000000000FC, pc := 0, rd := 0xFC, wr := 0xFC } })] }, tb := { eclk := 500 } })
def witLighterReadsAndWaitsEnd17 : State := st (fun d => { ((ready d).setFld LT_STAT.LSTATE 1) with lt := { chans := [(0, { lines := [], rdHeld := some 0, move := some { word := 0x10000000000000FC, pc := 0, rd := 0xFC, wr := 0xFC } })] }, tb := { eclk := 500 } })
theorem test_LighterReadsAndWaitsEnd_1 : ((0) < 32) ∧ ((witLighterReadsAndWaitsEnd1.dev.ltc (0)).fetches = ((64), (7)) :: ([] : List (Nat × Nat)))
    ∧ (ltTarget (64) = .host (64)) ∧ (((ran (.ltFetchDone (0) (some ((9 : BitVec 512))))
    witLighterReadsAndWaitsEnd1).ltc (0)).fetches = ([] : List (Nat × Nat)) ∧ { addr := (64), data := ((9 : BitVec 512)), pi := (7) } ∈ ((ran
    (.ltFetchDone (0) (some ((9 : BitVec 512)))) witLighterReadsAndWaitsEnd1).ltc (0)).lines ∧ (ran (.ltFetchDone (0) (some ((9 : BitVec 512))))
    witLighterReadsAndWaitsEnd1).fld LT_STAT.LSTATE (0) = witLighterReadsAndWaitsEnd1.dev.fld LT_STAT.LSTATE (0)) := by decide +kernel
theorem test_LighterReadsAndWaitsEnd_2 : ((0) < 32) ∧ ((witLighterReadsAndWaitsEnd2.dev.ltc (0)).fetches = (ltLineOf
    (witLighterReadsAndWaitsEnd2.dev.ltPc (0)), (7)) :: ([] : List (Nat × Nat))) ∧ (ltTarget (ltLineOf (witLighterReadsAndWaitsEnd2.dev.ltPc (0)))
    = .host (0)) ∧ (witLighterReadsAndWaitsEnd2.dev.ltState (0) = 1) ∧ ((ran (.ltFetchDone (0) none)
    witLighterReadsAndWaitsEnd2).fld LT_STAT.LSTATE (0) = 6 ∧ (ran (.ltFetchDone (0) none) witLighterReadsAndWaitsEnd2).fld LT_PC.PC (0)
    = witLighterReadsAndWaitsEnd2.dev.fld LT_PC.PC (0) ∧ ((ran (.ltFetchDone (0) none)
    witLighterReadsAndWaitsEnd2).ltc (0)).fetches = ([] : List (Nat × Nat)) ∧ (ran (.ltFetchDone (0) none)
    witLighterReadsAndWaitsEnd2).fld LT_CNT.ERR_CNT (0) = min (witLighterReadsAndWaitsEnd2.dev.fld LT_CNT.ERR_CNT (0) + 1)
    (2 ^ LT_CNT.ERR_CNT.len - 1) ∧ ∃ y ∈ (ran (.ltFetchDone (0) none) witLighterReadsAndWaitsEnd2).sl.rises, y.src = 0x6C1 + 2 * (0)) :=
    by decide +kernel
theorem test_LighterReadsAndWaitsEnd_3 : (witLighterReadsAndWaitsEnd3.dev.ltCanGo (0) = false) ∧
    (witLighterReadsAndWaitsEnd3.dev.ltWinner = some (0)) ∧
    ((witLighterReadsAndWaitsEnd3.dev.ltc (0)).move = some ({ word := 0x10000000000000FC, pc := 0, rd := 0xFC, wr := 0xFC } : LtMove)) ∧
    (mvI ({ word := 0x10000000000000FC, pc := 0, rd := 0xFC, wr := 0xFC } : LtMove).word = false) ∧
    (ltTarget ((witLighterReadsAndWaitsEnd3.dev.ltc (0)).a (mvSA ({ word := 0x10000000000000FC, pc := 0, rd := 0xFC, wr := 0xFC } : LtMove).word))
    = .host (0)) ∧ (witLighterReadsAndWaitsEnd3.dev.ltPlan (0) ({ word := 0x10000000000000FC, pc := 0, rd := 0xFC, wr := 0xFC } : LtMove)
    = ((0xFC), (0xFC))) ∧ ((0xFC) ≠ 0) ∧ (((ran (.ltBurstStart (0))
    witLighterReadsAndWaitsEnd3).ltc (0)).bursts = (witLighterReadsAndWaitsEnd3.dev.ltc
    (0)).bursts ++ [{ src := ((witLighterReadsAndWaitsEnd3.dev.ltc (0)).a (mvSA ({ word := 0x10000000000000FC, pc := 0, rd := 0xFC, wr := 0xFC } : LtMove).word)), len := (0xFC), out := (0xFC), data := none }]
    ∧ ((ran (.ltBurstStart (0))
    witLighterReadsAndWaitsEnd3).ltc (0)).move = some { ({ word := 0x10000000000000FC, pc := 0, rd := 0xFC, wr := 0xFC } : LtMove) with rd := ({ word := 0x10000000000000FC, pc := 0, rd := 0xFC, wr := 0xFC } : LtMove).rd - (0xFC) }
    ∧ ((ran (.ltBurstStart (0)) witLighterReadsAndWaitsEnd3).ltc (0)).a (mvSA ({ word := 0x10000000000000FC, pc := 0, rd := 0xFC, wr := 0xFC }
    : LtMove).word) = (if mvSI ({ word := 0x10000000000000FC, pc := 0, rd := 0xFC, wr := 0xFC } : LtMove).word then
    ltAdd ((witLighterReadsAndWaitsEnd3.dev.ltc (0)).a (mvSA ({ word := 0x10000000000000FC, pc := 0, rd := 0xFC, wr := 0xFC } : LtMove).word))
    (mvSWrap ({ word := 0x10000000000000FC, pc := 0, rd := 0xFC, wr := 0xFC } : LtMove).word) (0xFC) else
    ((witLighterReadsAndWaitsEnd3.dev.ltc (0)).a (mvSA ({ word := 0x10000000000000FC, pc := 0, rd := 0xFC, wr := 0xFC } : LtMove).word))) ∧
    (ran (.ltBurstStart (0)) witLighterReadsAndWaitsEnd3).mem = witLighterReadsAndWaitsEnd3.dev.mem) := by decide +kernel
theorem test_LighterReadsAndWaitsEnd_4 : (witLighterReadsAndWaitsEnd4.dev.ltCanGo (0) = false) ∧
    (witLighterReadsAndWaitsEnd4.dev.ltWinner = some (0)) ∧
    ((witLighterReadsAndWaitsEnd4.dev.ltc (0)).move = some ({ word := 0x10020000000000FC, pc := 0, rd := 0xFC, wr := 0xFC } : LtMove)) ∧
    (mvSI ({ word := 0x10020000000000FC, pc := 0, rd := 0xFC, wr := 0xFC } : LtMove).word = true) ∧
    (mvI ({ word := 0x10020000000000FC, pc := 0, rd := 0xFC, wr := 0xFC } : LtMove).word = false) ∧
    (ltTarget ((witLighterReadsAndWaitsEnd4.dev.ltc (0)).a (mvSA ({ word := 0x10020000000000FC, pc := 0, rd := 0xFC, wr := 0xFC } : LtMove).word))
    = .berth (0x10000)) ∧ (witLighterReadsAndWaitsEnd4.dev.ltPlan (0) ({ word := 0x10020000000000FC, pc := 0, rd := 0xFC, wr := 0xFC } : LtMove)
    = ((0xFC), (0xFC))) ∧ ((0xFC) ≠ 0) ∧ (witLighterReadsAndWaitsEnd4.dev.ltAccess (0) ((0x10000) / 65536) = .served) ∧
    (witLighterReadsAndWaitsEnd4.dev.wordBad (0x10000) (0xFC) = false) ∧ (((ran (.ltBurstStart (0))
    witLighterReadsAndWaitsEnd4).ltc (0)).bursts = (witLighterReadsAndWaitsEnd4.dev.ltc
    (0)).bursts ++ [{ src := ((witLighterReadsAndWaitsEnd4.dev.ltc (0)).a (mvSA ({ word := 0x10020000000000FC, pc := 0, rd := 0xFC, wr := 0xFC } : LtMove).word)), len := (0xFC), out := (0xFC), data := some (.bytes (witLighterReadsAndWaitsEnd4.dev.portRead (witLighterReadsAndWaitsEnd4.dev.onP1 ((0x10000) / 65536) 1 (0)) (0x10000) (0xFC))) }]
    ∧ ((ran (.ltBurstStart (0))
    witLighterReadsAndWaitsEnd4).ltc (0)).move = some { ({ word := 0x10020000000000FC, pc := 0, rd := 0xFC, wr := 0xFC } : LtMove) with rd := ({ word := 0x10020000000000FC, pc := 0, rd := 0xFC, wr := 0xFC } : LtMove).rd - (0xFC) }
    ∧ (ran (.ltBurstStart (0)) witLighterReadsAndWaitsEnd4).mem = witLighterReadsAndWaitsEnd4.dev.mem) := by decide +kernel
theorem test_LighterReadsAndWaitsEnd_5 : ((0) < 32) ∧ ((witLighterReadsAndWaitsEnd5.dev.ltc (0)).bursts = ({ src := 0, len := 4, out := 4 }
    : LtBurst) :: ([] : List LtBurst)) ∧
    ((witLighterReadsAndWaitsEnd5.dev.ltc (0)).move = some ({ word := 0x1148000000000008, pc := 0, rd := 4, wr := 8 } : LtMove)) ∧
    (({ src := 0, len := 4, out := 4 } : LtBurst).back = false) ∧ (({ src := 0, len := 4, out := 4 } : LtBurst).data = none) ∧
    (({ src := 0, len := 4, out := 4 } : LtBurst).need = 0) ∧ (([1, 2, 3, 4] : List (BitVec 8)).length = ({ src := 0, len := 4, out := 4 }
    : LtBurst).len) ∧ ((ran (.ltBurstData (0) (.bytes ([1, 2, 3, 4] : List (BitVec 8))))
    witLighterReadsAndWaitsEnd5).hi.posted = [.write 0 8 [1, 2, 3, 4]] ∧ ((ran (.ltBurstData (0) (.bytes ([1, 2, 3, 4] : List (BitVec 8))))
    witLighterReadsAndWaitsEnd5).ltc (0)).move.map (·.wr) = some 4 ∧ ((ran (.ltBurstData (0) (.bytes ([1, 2, 3, 4] : List (BitVec 8))))
    witLighterReadsAndWaitsEnd5).ltc (0)).hold = []) := by decide +kernel
theorem test_LighterReadsAndWaitsEnd_6 : ((0) < 32) ∧
    ((witLighterReadsAndWaitsEnd6.dev.ltc (0)).bursts = [({ src := 0, len := 4, out := 4 } : LtBurst)]) ∧
    ((witLighterReadsAndWaitsEnd6.dev.ltc (0)).move = some ({ word := 0x1149000000000008, pc := 0, rd := 0, wr := 4 } : LtMove)) ∧
    (({ src := 0, len := 4, out := 4 } : LtBurst).back = false) ∧ (({ src := 0, len := 4, out := 4 } : LtBurst).data = none) ∧
    (({ src := 0, len := 4, out := 4 } : LtBurst).need = 0) ∧ (([1, 2, 3, 4] : List (BitVec 8)).length = ({ src := 0, len := 4, out := 4 }
    : LtBurst).len) ∧ (({ src := 0, len := 4, out := 4 } : LtBurst).out ≠ 0) ∧ (({ word := 0x1149000000000008, pc := 0, rd := 0, wr := 4 } :
    LtMove).wr = ({ src := 0, len := 4, out := 4 } : LtBurst).out) ∧ (mvDI ({ word := 0x1149000000000008, pc := 0, rd := 0, wr := 4 }
    : LtMove).word = true) ∧
    (ltTarget ((witLighterReadsAndWaitsEnd6.dev.ltc (0)).a (mvDA ({ word := 0x1149000000000008, pc := 0, rd := 0, wr := 4 } : LtMove).word))
    = .host (8)) ∧ (witLighterReadsAndWaitsEnd6.dev.ltLink (0) = true) ∧ (((ran (.ltBurstData (0) (.bytes ([1, 2, 3, 4] : List (BitVec 8))))
    witLighterReadsAndWaitsEnd6).ltc (0)).move = none ∧ ((ran (.ltBurstData (0) (.bytes ([1, 2, 3, 4] : List (BitVec 8))))
    witLighterReadsAndWaitsEnd6).ltc (0)).bursts = [] ∧ ((ran (.ltBurstData (0) (.bytes ([1, 2, 3, 4] : List (BitVec 8))))
    witLighterReadsAndWaitsEnd6).ltc (0)).hold = [] ∧ (ran (.ltBurstData (0) (.bytes ([1, 2, 3, 4] : List (BitVec 8))))
    witLighterReadsAndWaitsEnd6).fld LT_BYTES.BYTES (0) = (witLighterReadsAndWaitsEnd6.dev.fld LT_BYTES.BYTES (0)
    + ({ src := 0, len := 4, out := 4 } : LtBurst).out) % 2 ^ 64 ∧ (ran (.ltBurstData (0) (.bytes ([1, 2, 3, 4] : List (BitVec 8))))
    witLighterReadsAndWaitsEnd6).hi.posted = (witLighterReadsAndWaitsEnd6.dev.post (.write (witLighterReadsAndWaitsEnd6.dev.ltFn (0)) (8)
    (((witLighterReadsAndWaitsEnd6.dev.ltc (0)).hold ++ ([1, 2, 3, 4]
    : List (BitVec 8))).take ({ src := 0, len := 4, out := 4 } : LtBurst).out))).hi.posted ∧ ((ran (.ltBurstData (0)
    (.bytes ([1, 2, 3, 4] : List (BitVec 8))))
    witLighterReadsAndWaitsEnd6).ltc (0)).a (mvDA ({ word := 0x1149000000000008, pc := 0, rd := 0, wr := 4 } : LtMove).word)
    = ltAdd ((witLighterReadsAndWaitsEnd6.dev.ltc (0)).a (mvDA ({ word := 0x1149000000000008, pc := 0, rd := 0, wr := 4 } : LtMove).word))
    (mvDWrap ({ word := 0x1149000000000008, pc := 0, rd := 0, wr := 4 } : LtMove).word) ({ src := 0, len := 4, out := 4 } : LtBurst).out) :=
    by decide +kernel
theorem test_LighterReadsAndWaitsEnd_7 : ((0) < 32) ∧ ((witLighterReadsAndWaitsEnd7.dev.ltc (0)).bursts = ({ src := 0, len := 4, out := 4 }
    : LtBurst) :: ([] : List LtBurst)) ∧
    ((witLighterReadsAndWaitsEnd7.dev.ltc (0)).move = some ({ word := 0x10000000000000FC, pc := 0, rd := 0xFC, wr := 0xFC } : LtMove)) ∧
    (({ src := 0, len := 4, out := 4 } : LtBurst).back = false) ∧ (({ src := 0, len := 4, out := 4 } : LtBurst).data = none) ∧
    (({ src := 0, len := 4, out := 4 } : LtBurst).need = 0) ∧ (ltTarget ({ word := 0x10000000000000FC, pc := 0, rd := 0xFC, wr := 0xFC }
    : LtMove).pc = .host (0)) ∧ (witLighterReadsAndWaitsEnd7.dev.ltLink (0) = true) ∧ (((ran (.ltBurstData (0) (.failed (1)))
    witLighterReadsAndWaitsEnd7).ltc (0)).move = none ∧ ((ran (.ltBurstData (0) (.failed (1))) witLighterReadsAndWaitsEnd7).ltc (0)).bursts = [] ∧
    ((ran (.ltBurstData (0) (.failed (1))) witLighterReadsAndWaitsEnd7).ltc (0)).hold = [] ∧ ((ran (.ltBurstData (0) (.failed (1)))
    witLighterReadsAndWaitsEnd7).ltc (0)).fail = none ∧ (ran (.ltBurstData (0) (.failed (1))) witLighterReadsAndWaitsEnd7).fld LT_CNT.ERR_CNT (0)
    = min (witLighterReadsAndWaitsEnd7.dev.fld LT_CNT.ERR_CNT (0) + 1) (2 ^ LT_CNT.ERR_CNT.len - 1) ∧ ∃ y ∈ (ran (.ltBurstData (0) (.failed (1)))
    witLighterReadsAndWaitsEnd7).sl.rises, y.src = 0x6C1 + 2 * (0)) := by decide +kernel
theorem test_LighterReadsAndWaitsEnd_8 : ((0) < 32) ∧ (witLighterReadsAndWaitsEnd8.dev.ltState (0) = 2) ∧
    ((witLighterReadsAndWaitsEnd8.dev.ltc (0)).wait = some (3)) ∧ (witLighterReadsAndWaitsEnd8.dev.ltWord (0)
    = some ((0x58000000FFFF0000 : BitVec 64))) ∧ (witLighterReadsAndWaitsEnd8.dev.ltWaitMet (0) ((0x58000000FFFF0000 : BitVec 64)) = true) ∧
    ((ran (.ltWaitSatisfied (0)) witLighterReadsAndWaitsEnd8).fld LT_STAT.LSTATE (0) = 1 ∧ (ran (.ltWaitSatisfied (0))
    witLighterReadsAndWaitsEnd8).fld LT_PC.PC (0) = put (witLighterReadsAndWaitsEnd8.dev.fld LT_PC.PC (0))
    0 32 (witLighterReadsAndWaitsEnd8.dev.fld LT_PC.PC (0) % 2 ^ 32 + 8) % 2 ^ LT_PC.PC.len ∧ ((ran (.ltWaitSatisfied (0))
    witLighterReadsAndWaitsEnd8).ltc (0)).wait = none ∧ (bits ((0x58000000FFFF0000 : BitVec 64)) 58 2 = 0 → (ran (.ltWaitSatisfied (0))
    witLighterReadsAndWaitsEnd8).fld LT_STAT.LATCH (0) = 0) ∧ ((ran (.ltWaitSatisfied (0))
    witLighterReadsAndWaitsEnd8).ltc (0)).a (bits ((0x58000000FFFF0000 : BitVec 64)) 56 2) = (if 2 ≤ bits ((0x58000000FFFF0000 : BitVec 64))
    58 2 then ((witLighterReadsAndWaitsEnd8.dev.ltc (0)).a (bits ((0x58000000FFFF0000 : BitVec 64)) 56 2)
    + bits ((0x58000000FFFF0000 : BitVec 64)) 16 16) % 2 ^ 64 else (witLighterReadsAndWaitsEnd8.dev.ltc (0)).a (bits ((0x58000000FFFF0000
    : BitVec 64)) 56 2))) := by decide +kernel
theorem test_LighterReadsAndWaitsEnd_9 : ((0) < 32) ∧ (witLighterReadsAndWaitsEnd9.dev.ltState (0) = 2) ∧
    ((witLighterReadsAndWaitsEnd9.dev.ltc (0)).wait = some (0)) ∧ (witLighterReadsAndWaitsEnd9.dev.ltWord (0)
    = some ((0x5000000000000001 : BitVec 64))) ∧ (bits ((0x5000000000000001 : BitVec 64)) 0 16 ≠ 0) ∧ ((0)
    + 1000 * bits ((0x5000000000000001 : BitVec 64)) 0 16 ≤ 2 * witLighterReadsAndWaitsEnd9.dev.tb.eclk) ∧ ((ran (.ltWaitTimeout (0))
    witLighterReadsAndWaitsEnd9).fld LT_STAT.LSTATE (0) = 2 ∧ (ran (.ltWaitTimeout (0)) witLighterReadsAndWaitsEnd9).fld LT_PC.PC (0)
    = witLighterReadsAndWaitsEnd9.dev.fld LT_PC.PC (0) ∧ ((ran (.ltWaitTimeout (0))
    witLighterReadsAndWaitsEnd9).ltc (0)).wait = some (2 * witLighterReadsAndWaitsEnd9.dev.tb.eclk) ∧ ∃ y ∈ (ran (.ltWaitTimeout (0))
    witLighterReadsAndWaitsEnd9).sl.rises, y.src = 0x6C1 + 2 * (0)) := by decide +kernel
theorem test_LighterReadsAndWaitsEnd_10 : ((0) < 32) ∧ ((witLighterReadsAndWaitsEnd10.dev.ltc (0)).fence = true) ∧
    (((witLighterReadsAndWaitsEnd10.dev.ltc (0)).hostDirty = none ∨ witLighterReadsAndWaitsEnd10.dev.ltLink (0) = true)) ∧
    ((witLighterReadsAndWaitsEnd10.dev.ltc (0)).berthDirty.any (fun z => witLighterReadsAndWaitsEnd10.dev.ltAccess (0) z.1 == .stall) = false) ∧
    ((ran (.ltFenceDone (0)) witLighterReadsAndWaitsEnd10).fld LT_PC.PC (0) = put (witLighterReadsAndWaitsEnd10.dev.fld LT_PC.PC (0))
    0 32 (witLighterReadsAndWaitsEnd10.dev.fld LT_PC.PC (0) % 2 ^ 32 + 8) % 2 ^ LT_PC.PC.len ∧ ((ran (.ltFenceDone (0))
    witLighterReadsAndWaitsEnd10).ltc (0)).fence = false ∧ ((ran (.ltFenceDone (0)) witLighterReadsAndWaitsEnd10).ltc (0)).hostDirty = none ∧
    ((ran (.ltFenceDone (0)) witLighterReadsAndWaitsEnd10).ltc (0)).berthDirty = []) := by decide +kernel
theorem test_LighterReadsAndWaitsEnd_11 : ((0) < 32) ∧ ((witLighterReadsAndWaitsEnd11.dev.ltState (0) = 1 ∨
    witLighterReadsAndWaitsEnd11.dev.ltState (0) = 3)) ∧ ((witLighterReadsAndWaitsEnd11.dev.ltc (0)).refetch = some (1)) ∧
    (ltTarget (witLighterReadsAndWaitsEnd11.dev.ltPc (0)) = .host (0)) ∧ (¬ (bits ((5 : BitVec 64)) 60 4 = 0 ∧
    ((5 : BitVec 64)).getLsbD 59 = true ∧ bits ((5 : BitVec 64)) 0 58 = 0)) ∧ ((ran (.ltTailRefetch (0) (some ((5 : BitVec 64))))
    witLighterReadsAndWaitsEnd11).fld LT_STAT.LSTATE (0) = 1 ∧ (ran (.ltTailRefetch (0) (some ((5 : BitVec 64))))
    witLighterReadsAndWaitsEnd11).fld LT_PC.PC (0) = witLighterReadsAndWaitsEnd11.dev.fld LT_PC.PC (0) ∧ ((ran (.ltTailRefetch (0)
    (some ((5 : BitVec 64)))) witLighterReadsAndWaitsEnd11).ltc (0)).refetch = none) := by decide +kernel
theorem test_LighterReadsAndWaitsEnd_12 : ((0) < 32) ∧ (witLighterReadsAndWaitsEnd12.dev.ltState (0) = 3) ∧
    ((witLighterReadsAndWaitsEnd12.dev.ltc (0)).refetch = some (0)) ∧ ((0) = (witLighterReadsAndWaitsEnd12.dev.ltc (0)).pi) ∧
    (ltTarget (witLighterReadsAndWaitsEnd12.dev.ltPc (0)) = .host (0)) ∧ (bits ((0x800000000000000 : BitVec 64)) 60 4 = 0 ∧
    ((0x800000000000000 : BitVec 64)).getLsbD 59 = true ∧ bits ((0x800000000000000 : BitVec 64)) 0 58 = 0) ∧ ((ran (.ltTailRefetch (0)
    (some ((0x800000000000000 : BitVec 64)))) witLighterReadsAndWaitsEnd12).fld LT_STAT.LSTATE (0) = 3 ∧ (ran (.ltTailRefetch (0)
    (some ((0x800000000000000 : BitVec 64)))) witLighterReadsAndWaitsEnd12).fld LT_PC.PC (0) = witLighterReadsAndWaitsEnd12.dev.fld LT_PC.PC (0) ∧
    ((ran (.ltTailRefetch (0) (some ((0x800000000000000 : BitVec 64)))) witLighterReadsAndWaitsEnd12).ltc (0)).refetch = none) :=
    by decide +kernel
theorem test_LighterReadsAndWaitsEnd_13 : ((0) < 32) ∧ ((witLighterReadsAndWaitsEnd13.dev.ltState (0) = 1 ∨
    witLighterReadsAndWaitsEnd13.dev.ltState (0) = 3)) ∧ ((witLighterReadsAndWaitsEnd13.dev.ltc (0)).refetch = some (0)) ∧
    (ltTarget (witLighterReadsAndWaitsEnd13.dev.ltPc (0)) = .host (0)) ∧ ((ran (.ltTailRefetch (0) none)
    witLighterReadsAndWaitsEnd13).fld LT_STAT.LSTATE (0) = 6 ∧ ((ran (.ltTailRefetch (0) none)
    witLighterReadsAndWaitsEnd13).ltc (0)).refetch = none ∧ ∃ y ∈ (ran (.ltTailRefetch (0) none) witLighterReadsAndWaitsEnd13).sl.rises,
    y.src = 0x6C1 + 2 * (0)) := by decide +kernel
theorem test_LighterReadsAndWaitsEnd_14 : ((0) < 32) ∧ (witLighterReadsAndWaitsEnd14.dev.ltState (0) = 3) ∧
    (witLighterReadsAndWaitsEnd14.dev.fld LT_CFG.TAIL_US (0) ≠ 0) ∧
    ((witLighterReadsAndWaitsEnd14.dev.ltc (0)).tailAt + 1000 * witLighterReadsAndWaitsEnd14.dev.fld LT_CFG.TAIL_US (0)
    ≤ 2 * witLighterReadsAndWaitsEnd14.dev.tb.eclk) ∧ ((witLighterReadsAndWaitsEnd14.dev.ltc (0)).refetch = none) ∧ ((ran (.ltTailTimer (0))
    witLighterReadsAndWaitsEnd14) = witLighterReadsAndWaitsEnd14.dev.setLt (0)
    { (witLighterReadsAndWaitsEnd14.dev.ltc (0)) with tailAt := 2 * witLighterReadsAndWaitsEnd14.dev.tb.eclk, refetch := some (witLighterReadsAndWaitsEnd14.dev.ltc (0)).pi })
    := by decide +kernel
theorem test_LighterReadsAndWaitsEnd_15 : ((0) < 32) ∧ (witLighterReadsAndWaitsEnd15.dev.ltState (0) = 4) ∧
    (witLighterReadsAndWaitsEnd15.dev.ltQuiet (0) = true) ∧ ((ran (.ltPauseDrained (0)) witLighterReadsAndWaitsEnd15).fld LT_STAT.LSTATE (0) = 5 ∧
    (ran (.ltPauseDrained (0)) witLighterReadsAndWaitsEnd15).fld LT_PC.PC (0) = witLighterReadsAndWaitsEnd15.dev.fld LT_PC.PC (0) ∧
    ((ran (.ltPauseDrained (0)) witLighterReadsAndWaitsEnd15).ltc (0)).pause = none ∧ ((ran (.ltPauseDrained (0))
    witLighterReadsAndWaitsEnd15).ltc (0)).areg = (witLighterReadsAndWaitsEnd15.dev.ltc (0)).areg) := by decide +kernel
theorem test_LighterReadsAndWaitsEnd_16 : ((0) < 32) ∧ ((witLighterReadsAndWaitsEnd16.dev.ltc (0)).wrHeld = some (0)) ∧
    ((witLighterReadsAndWaitsEnd16.dev.ltc (0)).move = some ({ word := 0x10000000000000FC, pc := 0, rd := 0xFC, wr := 0xFC } : LtMove)) ∧ ((0)
    + 1000 ≤ 2 * witLighterReadsAndWaitsEnd16.dev.tb.eclk) ∧ (ltTarget ({ word := 0x10000000000000FC, pc := 0, rd := 0xFC, wr := 0xFC }
    : LtMove).pc = .host (0)) ∧ (witLighterReadsAndWaitsEnd16.dev.ltLink (0) = true) ∧ (((ran (.fifoTimeout (0))
    witLighterReadsAndWaitsEnd16).ltc (0)).move = none ∧ ((ran (.fifoTimeout (0)) witLighterReadsAndWaitsEnd16).ltc (0)).bursts = [] ∧
    ((ran (.fifoTimeout (0)) witLighterReadsAndWaitsEnd16).ltc (0)).hold = [] ∧ ((ran (.fifoTimeout (0))
    witLighterReadsAndWaitsEnd16).ltc (0)).wrHeld = none ∧ ((ran (.fifoTimeout (0)) witLighterReadsAndWaitsEnd16).ltc (0)).rdHeld = none ∧
    (ran (.fifoTimeout (0)) witLighterReadsAndWaitsEnd16).fld LT_CNT.ERR_CNT (0) = min (witLighterReadsAndWaitsEnd16.dev.fld LT_CNT.ERR_CNT (0)
    + 1) (2 ^ LT_CNT.ERR_CNT.len - 1) ∧ ∃ y ∈ (ran (.fifoTimeout (0)) witLighterReadsAndWaitsEnd16).sl.rises, y.src = 0x6C1 + 2 * (0)) :=
    by decide +kernel
theorem test_LighterReadsAndWaitsEnd_17 : ((0) < 32) ∧ ((witLighterReadsAndWaitsEnd17.dev.ltc (0)).wrHeld = none) ∧
    ((witLighterReadsAndWaitsEnd17.dev.ltc (0)).rdHeld = some (0)) ∧
    ((witLighterReadsAndWaitsEnd17.dev.ltc (0)).move = some ({ word := 0x10000000000000FC, pc := 0, rd := 0xFC, wr := 0xFC } : LtMove)) ∧ ((0)
    + 1000 ≤ 2 * witLighterReadsAndWaitsEnd17.dev.tb.eclk) ∧ (ltTarget ({ word := 0x10000000000000FC, pc := 0, rd := 0xFC, wr := 0xFC }
    : LtMove).pc = .host (0)) ∧ (witLighterReadsAndWaitsEnd17.dev.ltLink (0) = true) ∧ (((ran (.fifoTimeout (0))
    witLighterReadsAndWaitsEnd17).ltc (0)).move = none ∧ ((ran (.fifoTimeout (0)) witLighterReadsAndWaitsEnd17).ltc (0)).bursts = [] ∧
    ((ran (.fifoTimeout (0)) witLighterReadsAndWaitsEnd17).ltc (0)).hold = [] ∧ ((ran (.fifoTimeout (0))
    witLighterReadsAndWaitsEnd17).ltc (0)).wrHeld = none ∧ ((ran (.fifoTimeout (0)) witLighterReadsAndWaitsEnd17).ltc (0)).rdHeld = none ∧
    (ran (.fifoTimeout (0)) witLighterReadsAndWaitsEnd17).fld LT_CNT.ERR_CNT (0) = min (witLighterReadsAndWaitsEnd17.dev.fld LT_CNT.ERR_CNT (0)
    + 1) (2 ^ LT_CNT.ERR_CNT.len - 1) ∧ ∃ y ∈ (ran (.fifoTimeout (0)) witLighterReadsAndWaitsEnd17).sl.rises, y.src = 0x6C1 + 2 * (0)) :=
    by decide +kernel
def witBerthsAndDredgerAct1 : State := st (fun d => { (d.setFld DR_CFG.SCRUB_EN 1) with dr := { word := 8191, sword := 5, ces := [(1, 1)] }, tb := { eclk := 500000 } })
def witBerthsAndDredgerAct2 : State := st (fun d => { (d.setFld DR_CFG.SCRUB_EN 1) with dr := { word := 8191 }, tb := { eclk := 500000 } })
def witBerthsAndDredgerAct3 : State := st (fun d => { (d.setFld DR_CFG.SCRUB_EN 1) with dr := { word := 8191 }, tb := { eclk := 500000 } })
def witBerthsAndDredgerAct4 : State := st (fun d => { ((d.setFld DR_CFG.MARCH_EN 1).setFld DR_LOAN.LOANABLE 0x80000000) with tb := { eclk := 100000000 } })
def witBerthsAndDredgerAct5 : State := st (fun d => { ((d.setFld BH_STAT.BSTATE 1 31).setFld BH_OWNER.CUR_KIND 3 31) with dr := { loan := some { b := 31, chunk := 127 } } })
def witBerthsAndDredgerAct6 : State := st (fun d => { (d.setFld BH_STAT.BSTATE 3 31) with dr := { repair := [(31, [5, 6])] } })
def witBerthsAndDredgerAct7 : State := st (fun d => { ((((d.setFld BH_STAT.BSTATE 4 2).setFld BH_STAT.BSTATE 5 31).setFld BH_SPARE.SPARE 0x80000000).setFld BH_STAT.BANK 31 31) with dr := { reloc := some (2, 31) } })
def witBerthsAndDredgerAct8 : State := st (fun d => { d with dr := { again := true }, sys := { causes := [6] } })
def witBerthsAndDredgerAct9 : State := st (fun d => { d with dr := { zeroing := true, bad := [3, 131072] }, mem := [(5, 1), (0x100000, 7)] })
theorem test_BerthsAndDredgerAct_1 : (witBerthsAndDredgerAct1.dev.flag DR_CFG.SCRUB_EN = true) ∧
    (witBerthsAndDredgerAct1.dev.dr.scrubAt + witBerthsAndDredgerAct1.dev.scrubPeriod ≤ witBerthsAndDredgerAct1.dev.ecNs) ∧
    (witBerthsAndDredgerAct1.dev.dr.bad = []) ∧ (witBerthsAndDredgerAct1.dev.dr.soft = []) ∧ ((ran (.scrubTick [])
    witBerthsAndDredgerAct1).dr = { witBerthsAndDredgerAct1.dev.dr with word := (witBerthsAndDredgerAct1.dev.dr.word + 1) % 8192, sword := (witBerthsAndDredgerAct1.dev.dr.sword + 1) % 8192, ces := if (witBerthsAndDredgerAct1.dev.dr.word + 1) % 8192 = 0 then [] else witBerthsAndDredgerAct1.dev.dr.ces, scrubAt := witBerthsAndDredgerAct1.dev.ecNs }
    ∧ (ran (.scrubTick []) witBerthsAndDredgerAct1).regs = witBerthsAndDredgerAct1.dev.regs) := by decide +kernel
theorem test_BerthsAndDredgerAct_2 : (witBerthsAndDredgerAct2.dev.flag DR_CFG.SCRUB_EN = true) ∧
    (witBerthsAndDredgerAct2.dev.dr.scrubAt + witBerthsAndDredgerAct2.dev.scrubPeriod ≤ witBerthsAndDredgerAct2.dev.ecNs) ∧
    (witBerthsAndDredgerAct2.dev.dr.bad = []) ∧ (witBerthsAndDredgerAct2.dev.dr.soft = []) ∧ ((31) < 32) ∧
    (witBerthsAndDredgerAct2.dev.bstate (31) = 0) ∧ (witBerthsAndDredgerAct2.dev.dr.word < 8192) ∧ ((ran (.scrubTick [.berth (31) false])
    witBerthsAndDredgerAct2).fld BH_ECC.CE_CNT (31) = min (witBerthsAndDredgerAct2.dev.fld BH_ECC.CE_CNT (31) + 1) (2 ^ BH_ECC.CE_CNT.len - 1) ∧
    (ran (.scrubTick [.berth (31) false]) witBerthsAndDredgerAct2).fld BH_ECC.LAST_ROW (31) = witBerthsAndDredgerAct2.dev.dr.word / 64 ∧
    (ran (.scrubTick [.berth (31) false]) witBerthsAndDredgerAct2).dr.word = (witBerthsAndDredgerAct2.dev.dr.word + 1) % 8192 ∧
    (ran (.scrubTick [.berth (31) false]) witBerthsAndDredgerAct2).dr.soft = [] ∧ (ran (.scrubTick [.berth (31) false])
    witBerthsAndDredgerAct2).dr.bad = [] ∧ (ran (.scrubTick [.berth (31) false]) witBerthsAndDredgerAct2).mem = witBerthsAndDredgerAct2.dev.mem)
    := by decide +kernel
theorem test_BerthsAndDredgerAct_3 : (witBerthsAndDredgerAct3.dev.flag DR_CFG.SCRUB_EN = true) ∧
    (witBerthsAndDredgerAct3.dev.dr.scrubAt + witBerthsAndDredgerAct3.dev.scrubPeriod ≤ witBerthsAndDredgerAct3.dev.ecNs) ∧
    (witBerthsAndDredgerAct3.dev.dr.bad = []) ∧ (witBerthsAndDredgerAct3.dev.dr.soft = []) ∧ ((31) < 32) ∧
    (witBerthsAndDredgerAct3.dev.bstate (31) = 0) ∧ (witBerthsAndDredgerAct3.dev.dr.word < 8192) ∧ ((ran (.scrubTick [.berth (31) true])
    witBerthsAndDredgerAct3).fld BH_ECC.UE_CNT (31) = min (witBerthsAndDredgerAct3.dev.fld BH_ECC.UE_CNT (31) + 1) (2 ^ BH_ECC.UE_CNT.len - 1) ∧
    (ran (.scrubTick [.berth (31) true]) witBerthsAndDredgerAct3).fld BH_ECC.LAST_ROW (31) = witBerthsAndDredgerAct3.dev.dr.word / 64 ∧
    (ran (.scrubTick [.berth (31) true]) witBerthsAndDredgerAct3).dr.bad = [(31) * 8192 + witBerthsAndDredgerAct3.dev.dr.word]) :=
    by decide +kernel
theorem test_BerthsAndDredgerAct_4 : (witBerthsAndDredgerAct4.dev.loanable (31) = true) ∧ ((∀ w ∈ witBerthsAndDredgerAct4.dev.dr.bad,
    w / 64 ≠ (31) * 128 + get 0 witBerthsAndDredgerAct4.dev.dr.chunk (31))) ∧ ((ran (.loanStart (31) [])
    witBerthsAndDredgerAct4).fld BH_STAT.BSTATE (31) = 1 ∧ (ran (.loanStart (31) []) witBerthsAndDredgerAct4).fld BH_OWNER.CUR_KIND (31) = 3 ∧
    (ran (.loanStart (31) []) witBerthsAndDredgerAct4).fld BH_OWNER.CUR_INDEX (31) = 0 ∧ (ran (.loanStart (31) [])
    witBerthsAndDredgerAct4).dr.loan = some { b := (31), chunk := get 0 witBerthsAndDredgerAct4.dev.dr.chunk (31) } ∧ (ran (.loanStart (31) [])
    witBerthsAndDredgerAct4).fld DR_STAT.LOAN_ACTIVE = 1 ∧ (ran (.loanStart (31) [])
    witBerthsAndDredgerAct4).mem = witBerthsAndDredgerAct4.dev.mem) := by decide +kernel
theorem test_BerthsAndDredgerAct_5 : (witBerthsAndDredgerAct5.dev.dr.loan = some ({ b := 31, chunk := 127 } : Loan)) ∧
    (witBerthsAndDredgerAct5.dev.dr.reloc = none) ∧ (witBerthsAndDredgerAct5.dev.dr.waits = []) ∧
    (witBerthsAndDredgerAct5.dev.flag BH_OWNER.PEND ({ b := 31, chunk := 127 } : Loan).b = false) ∧ ((ran (.loanReturnDone 0)
    witBerthsAndDredgerAct5).fld BH_STAT.BSTATE ({ b := 31, chunk := 127 } : Loan).b = 0 ∧ (ran (.loanReturnDone 0)
    witBerthsAndDredgerAct5).fld BH_OWNER.CUR_KIND ({ b := 31, chunk := 127 } : Loan).b = witBerthsAndDredgerAct5.dev.fld BH_OWNER.HOME_KIND
    ({ b := 31, chunk := 127 } : Loan).b % 2 ^ BH_OWNER.CUR_KIND.len ∧ (ran (.loanReturnDone 0)
    witBerthsAndDredgerAct5).fld BH_OWNER.CUR_INDEX ({ b := 31, chunk := 127 } : Loan).b = witBerthsAndDredgerAct5.dev.fld BH_OWNER.HOME_INDEX
    ({ b := 31, chunk := 127 } : Loan).b % 2 ^ BH_OWNER.CUR_INDEX.len ∧ (ran (.loanReturnDone 0) witBerthsAndDredgerAct5).dr.loan = none ∧
    (ran (.loanReturnDone 0) witBerthsAndDredgerAct5).fld DR_STAT.LOAN_ACTIVE = 0 ∧ (({ b := 31, chunk := 127 } : Loan).back = false →
    (ran (.loanReturnDone 0) witBerthsAndDredgerAct5).fld DR_PASS.CHUNKS = (witBerthsAndDredgerAct5.dev.fld DR_PASS.CHUNKS + 1) % 2 ^ 32 ∧
    get 0 (ran (.loanReturnDone 0) witBerthsAndDredgerAct5).dr.chunk ({ b := 31, chunk := 127 } :
    Loan).b = (({ b := 31, chunk := 127 } : Loan).chunk + 1) % 128) ∧ (({ b := 31, chunk := 127 } : Loan).back = true → (ran (.loanReturnDone 0)
    witBerthsAndDredgerAct5).dr.chunk = witBerthsAndDredgerAct5.dev.dr.chunk)) := by decide +kernel
theorem test_BerthsAndDredgerAct_6 : (witBerthsAndDredgerAct6.dev.bstate (31) = 3) ∧ (witBerthsAndDredgerAct6.dev.repairs (31) = (5)
    :: ([6] : List Nat)) ∧ ((ran (.rowRepairDone (31)) witBerthsAndDredgerAct6).fld BH_STAT.BSTATE (31) = (if ([6] : List Nat) = [] then 0 else 3)
    ∧ (ran (.rowRepairDone (31)) witBerthsAndDredgerAct6).fld BH_STAT.SPARE_ROWS (31) = (witBerthsAndDredgerAct6.dev.fld BH_STAT.SPARE_ROWS (31)
    - 1) % 2 ^ BH_STAT.SPARE_ROWS.len ∧ (ran (.rowRepairDone (31))
    witBerthsAndDredgerAct6).dr.repair = set [] witBerthsAndDredgerAct6.dev.dr.repair (31) ([6] : List Nat) ∧ (ran (.rowRepairDone (31))
    witBerthsAndDredgerAct6).mem = witBerthsAndDredgerAct6.dev.mem) := by decide +kernel
theorem test_BerthsAndDredgerAct_7 : (witBerthsAndDredgerAct7.dev.dr.reloc = some ((2), (31))) ∧ (witBerthsAndDredgerAct7.dev.dr.relocs = []) ∧
    (witBerthsAndDredgerAct7.dev.bstate (2) = 4) ∧ ((2) ≠ (31)) ∧ ((31) < 32) ∧ ((ran (.relocDone) witBerthsAndDredgerAct7).fld BH_STAT.BANK (2)
    = witBerthsAndDredgerAct7.dev.fld BH_STAT.BANK (31) % 2 ^ BH_STAT.BANK.len ∧ (ran (.relocDone)
    witBerthsAndDredgerAct7).fld BH_STAT.SPARE_ROWS (2) = 4 ∧ (ran (.relocDone) witBerthsAndDredgerAct7).fld BH_STAT.BSTATE (2) = 0 ∧
    (ran (.relocDone) witBerthsAndDredgerAct7).fld BH_STAT.BSTATE (31) = 6 ∧ (ran (.relocDone) witBerthsAndDredgerAct7).fbit BH_SPARE.SPARE 0 (31)
    = false ∧ (ran (.relocDone) witBerthsAndDredgerAct7).dr.reloc = none ∧ (ran (.relocDone) witBerthsAndDredgerAct7).fld DR_STAT.RELOCATING = 0 ∧
    (ran (.relocDone) witBerthsAndDredgerAct7).mem = witBerthsAndDredgerAct7.dev.mem) := by decide +kernel
theorem test_BerthsAndDredgerAct_8 : (witBerthsAndDredgerAct8.dev.dr.again = true) ∧ (witBerthsAndDredgerAct8.dev.dr.reloc = none) ∧
    ((ran (.selfTestPassDone) witBerthsAndDredgerAct8).dr.again = false ∧ 6 ∉ (ran (.selfTestPassDone) witBerthsAndDredgerAct8).sys.causes) :=
    by decide +kernel
theorem test_BerthsAndDredgerAct_9 : (witBerthsAndDredgerAct9.dev.dr.zeroing = true) ∧ ((ran (.berthZeroDone)
    witBerthsAndDredgerAct9).peek 5 = 0 ∧ (ran (.berthZeroDone) witBerthsAndDredgerAct9).peek 0x100000 = 7 ∧ (ran (.berthZeroDone)
    witBerthsAndDredgerAct9).dr.bad = [131072]) := by decide +kernel
def witCausewayLinksCarryFrames1 : State := st (fun d => { ((((((ready d).setFld CW_ID.EN 1).setFld CW_ID.DID 5).setFld CW_PSTAT.LSTATE 2 2).setFld CW_PCFG.EN 1 2).setFld CW_PSTAT.LSTATE 0 2) with sys := { powered := true } })
def witCausewayLinksCarryFrames2 : State := st (fun d => { (((((ready d).setFld CW_ID.EN 1).setFld CW_ID.DID 5).setFld CW_PSTAT.LSTATE 2 2).setFld CW_PCFG.EN 1 2) with cw := { ports := [(2, { tx := [{ typ := 1, from_ := 0 }] })] } })
def witCausewayLinksCarryFrames3 : State := st (fun d => { { (((((ready d).setFld CW_ID.EN 1).setFld CW_ID.DID 5).setFld CW_PSTAT.LSTATE 2 2).setFld CW_PSTAT.LSTATE 1 2) with sys := { powered := true } } with tb := { elapsed := 1000 <<< 48 } })
def witCausewayLinksCarryFrames4 : State := st (fun d => { ((((ready d).setFld CW_ID.EN 1).setFld CW_ID.DID 5).setFld CW_PSTAT.LSTATE 2 2) with cw := { ports := [(2, { tx := [{ typ := 9, from_ := 0 }, { typ := 2, from_ := 5, body := 3 }] })] } })
def witCausewayLinksCarryFrames5 : State := st (fun d => { ((((ready d).setFld CW_ID.EN 1).setFld CW_ID.DID 5).setFld CW_PSTAT.LSTATE 2 2) with sys := { powered := true } })
def witCausewayLinksCarryFrames6 : State := st (fun d => { ((((ready d).setFld CW_ID.EN 1).setFld CW_ID.DID 5).setFld CW_PSTAT.LSTATE 2 2) with cw := { ports := [(2, { tx := [{ typ := 9, from_ := 0 }] })] } })
def witCausewayLinksCarryFrames7 : State := st (fun d => { ((((ready d).setFld CW_ID.EN 1).setFld CW_ID.DID 5).setFld CW_PSTAT.LSTATE 2 2) with cw := { ports := [(2, { dreqSeq := 65535, dreqAt := some 3 })] } })
def witCausewayLinksCarryFrames8 : State := st (fun d => { ((((ready d).setFld CW_ID.EN 1).setFld CW_ID.DID 5).setFld CW_PSTAT.LSTATE 2 2) with sys := { powered := true } })
def witCausewayLinksCarryFrames9 : State := st (fun d => { ((((ready d).setFld CW_ID.EN 1).setFld CW_ID.DID 5).setFld CW_PSTAT.LSTATE 2 2) with cw := { ports := [(2, { dreqSeq := 7, dreqAt := some 100, delays := [50] })] } })
def witCausewayLinksCarryFrames10 : State := st (fun d => { ((((ready d).setFld CW_ID.EN 1).setFld CW_ID.DID 5).setFld CW_PSTAT.LSTATE 2 2) with cw := { ports := [(2, { dreqSeq := 7, dreqAt := some 100, delays := [0, 0, 0, 0, 0, 0, 0, 0] })] } })
def witCausewayLinksCarryFrames11 : State := st (fun d => { (((((ready d).setFld CW_ID.EN 1).setFld CW_ID.DID 5).setFld CW_PSTAT.LSTATE 2 2).setFld CW_TSTAT.ROLE 4) with sys := { powered := true } })
def witCausewayLinksCarryFrames12 : State := st (fun d => { ((((ready d).setFld CW_ID.EN 1).setFld CW_ID.DID 5).setFld CW_PSTAT.LSTATE 2 2) with sys := { powered := true } })
theorem test_CausewayLinksCarryFrames_1 : ((2) < 4) ∧ (witCausewayLinksCarryFrames1.dev.flag CW_PCFG.EN (2) = true) ∧
    (witCausewayLinksCarryFrames1.dev.fld CW_PSTAT.LSTATE (2) = 0) ∧ ((ran (.portLinkEvent (2) .locked)
    witCausewayLinksCarryFrames1).fld CW_PSTAT.LSTATE (2) = 1 ∧ ∃ z ∈ (ran (.portLinkEvent (2) .locked) witCausewayLinksCarryFrames1).sl.rises,
    z.src = 0x780 + 8 * (2)) := by decide +kernel
theorem test_CausewayLinksCarryFrames_2 : ((2) < 4) ∧ (witCausewayLinksCarryFrames2.dev.flag CW_PCFG.EN (2) = true) ∧
    (witCausewayLinksCarryFrames2.dev.fld CW_PSTAT.LSTATE (2) ≠ 0) ∧ ((LaneEvent.errors) ≠ .locked) ∧ ((ran (.portLinkEvent (2)
    (LaneEvent.errors)) witCausewayLinksCarryFrames2).fld CW_PSTAT.LSTATE (2) = 0 ∧ ((ran (.portLinkEvent (2) (LaneEvent.errors))
    witCausewayLinksCarryFrames2).cwp (2)).tx = [] ∧ ((ran (.portLinkEvent (2) (LaneEvent.errors))
    witCausewayLinksCarryFrames2).cwp (2)).syncAt = none ∧ ∃ z ∈ (ran (.portLinkEvent (2) (LaneEvent.errors))
    witCausewayLinksCarryFrames2).sl.rises, z.src = 0x780 + 8 * (2)) := by decide +kernel
theorem test_CausewayLinksCarryFrames_3 : ((2) < 4) ∧ (witCausewayLinksCarryFrames3.dev.fld CW_PSTAT.LSTATE (2) = 1) ∧
    ((witCausewayLinksCarryFrames3.dev.cwp (2)).alignAt + 1000 ≤ witCausewayLinksCarryFrames3.dev.elNs) ∧ ((ran (.portUpTimer (2))
    witCausewayLinksCarryFrames3).fld CW_PSTAT.LSTATE (2) = 2 ∧ ∃ z ∈ (ran (.portUpTimer (2)) witCausewayLinksCarryFrames3).sl.rises,
    z.src = 0x780 + 8 * (2)) := by decide +kernel
theorem test_CausewayLinksCarryFrames_4 : ((2) < 4) ∧ (witCausewayLinksCarryFrames4.dev.cwUp (2) = true) ∧
    (nextFrame (witCausewayLinksCarryFrames4.dev.cwp (2)).tx = some ({ typ := 2, from_ := 5, body := 3 } : Frame)) ∧
    ((witCausewayLinksCarryFrames4.dev.cwp (2)).free witCausewayLinksCarryFrames4.dev.elNs = true) ∧ ((ran (.frameTx (2))
    witCausewayLinksCarryFrames4) = witCausewayLinksCarryFrames4.dev.setCwp (2)
    { (witCausewayLinksCarryFrames4.dev.cwp (2)) with tx := (witCausewayLinksCarryFrames4.dev.cwp (2)).tx.erase ({ typ := 2, from_ := 5, body := 3 } : Frame), wire := some (witCausewayLinksCarryFrames4.dev.stamped ({ typ := 2, from_ := 5, body := 3 } : Frame)), wireEnd := 10 * witCausewayLinksCarryFrames4.dev.elNs + frameTime ({ typ := 2, from_ := 5, body := 3 } : Frame).typ, recAt := if ({ typ := 2, from_ := 5, body := 3 } : Frame).typ = 0x0C then ins (cut ({ typ := 2, from_ := 5, body := 3 } : Frame).body 0 16) witCausewayLinksCarryFrames4.dev.elNs (witCausewayLinksCarryFrames4.dev.cwp (2)).recAt else (witCausewayLinksCarryFrames4.dev.cwp (2)).recAt, dreqAt := if ({ typ := 2, from_ := 5, body := 3 } : Frame).typ = 2 then some witCausewayLinksCarryFrames4.dev.t16 else (witCausewayLinksCarryFrames4.dev.cwp (2)).dreqAt })
    := by decide +kernel
theorem test_CausewayLinksCarryFrames_5 : ((2) < 4) ∧ (witCausewayLinksCarryFrames5.dev.cwUp (2) = true) ∧ ((ran (.frameDiscard (2))
    witCausewayLinksCarryFrames5).fld CW_PCNT.CRC_ERR (2) = min (witCausewayLinksCarryFrames5.dev.fld CW_PCNT.CRC_ERR (2) + 1)
    (2 ^ CW_PCNT.CRC_ERR.len - 1) ∧ ∃ z ∈ (ran (.frameDiscard (2)) witCausewayLinksCarryFrames5).sl.rises, z.src = 0x782 + 8 * (2) ∧
    (ran (.frameDiscard (2)) witCausewayLinksCarryFrames5).cw = witCausewayLinksCarryFrames5.dev.cw) := by decide +kernel
theorem test_CausewayLinksCarryFrames_6 : ((2) < 4) ∧ (witCausewayLinksCarryFrames6.dev.cwUp (2) = true) ∧
    (witCausewayLinksCarryFrames6.dev.cwRefused (2) = false) ∧ (witCausewayLinksCarryFrames6.dev.cwOn = true) ∧
    (witCausewayLinksCarryFrames6.dev.upPort ≠ some (2)) ∧ (witCausewayLinksCarryFrames6.dev.cwDue 0 125000 = true) ∧ (((ran (.syncSend)
    witCausewayLinksCarryFrames6).cwp (2)).tx = (witCausewayLinksCarryFrames6.dev.cwp
    (2)).tx ++ [{ typ := 1, from_ := witCausewayLinksCarryFrames6.dev.did, body := witCausewayLinksCarryFrames6.dev.syncBody }]) :=
    by decide +kernel
theorem test_CausewayLinksCarryFrames_7 : ((2) < 4) ∧ (witCausewayLinksCarryFrames7.dev.cwUp (2) = true) ∧
    (witCausewayLinksCarryFrames7.dev.cwDue (4 + (2)) 1000000 = true) ∧ (((ran (.dreqSend (2))
    witCausewayLinksCarryFrames7).cwp (2)).tx = (witCausewayLinksCarryFrames7.dev.cwp
    (2)).tx ++ [{ typ := 2, from_ := witCausewayLinksCarryFrames7.dev.did, body := ((witCausewayLinksCarryFrames7.dev.cwp (2)).dreqSeq + 1) % 65536 }]
    ∧ ((ran (.dreqSend (2)) witCausewayLinksCarryFrames7).cwp (2)).dreqSeq = ((witCausewayLinksCarryFrames7.dev.cwp (2)).dreqSeq + 1) % 65536 ∧
    ((ran (.dreqSend (2)) witCausewayLinksCarryFrames7).cwp (2)).dreqAt = none) := by decide +kernel
theorem test_CausewayLinksCarryFrames_8 : ((2) < 4) ∧ (witCausewayLinksCarryFrames8.dev.cwUp (2) = true) ∧ (((ran (.rxDreq (2) ((7 : BitVec 16))
    (99)) witCausewayLinksCarryFrames8).cwp (2)).tx = (witCausewayLinksCarryFrames8.dev.cwp
    (2)).tx ++ [{ typ := 3, from_ := witCausewayLinksCarryFrames8.dev.did, body := pack [byt 0 2 ((7 : BitVec 16)).toNat, (16, 80, (99))] }]) :=
    by decide +kernel
theorem test_CausewayLinksCarryFrames_9 : ((2) < 4) ∧ (witCausewayLinksCarryFrames9.dev.cwUp (2) = true) ∧
    ((witCausewayLinksCarryFrames9.dev.cwp (2)).dreqAt = some (100)) ∧ (bits ((7 : BitVec 192))
    0 16 = (witCausewayLinksCarryFrames9.dev.cwp (2)).dreqSeq) ∧ ((witCausewayLinksCarryFrames9.dev.cwp (2)).delays.length < 8) ∧
    (((ran (.rxDresp (2) ((7 : BitVec 192)) (65636)) witCausewayLinksCarryFrames9).cwp (2)).delays = (((Int.ofNat (65636) - (100))
    - ((bits ((7 : BitVec 192)) 96 80 : Int) - bits ((7 : BitVec 192)) 16 80)).tdiv 2) :: (witCausewayLinksCarryFrames9.dev.cwp (2)).delays ∧
    ((ran (.rxDresp (2) ((7 : BitVec 192)) (65636)) witCausewayLinksCarryFrames9).cwp (2)).dreqAt = none ∧ ((ran (.rxDresp (2) ((7 : BitVec 192))
    (65636)) witCausewayLinksCarryFrames9).cwp (2)).rejRun = 0 ∧ (ran (.rxDresp (2) ((7 : BitVec 192)) (65636))
    witCausewayLinksCarryFrames9).fld CW_PDELAY.D (2) = ((meanOf ((((Int.ofNat (65636) - (100)) - ((bits ((7 : BitVec 192)) 96 80 : Int)
    - bits ((7 : BitVec 192)) 16 80)).tdiv 2) :: (witCausewayLinksCarryFrames9.dev.cwp (2)).delays)).toNat * 1000 + 32768)
    / 65536 % 2 ^ CW_PDELAY.D.len) := by decide +kernel
theorem test_CausewayLinksCarryFrames_10 : ((2) < 4) ∧ (witCausewayLinksCarryFrames10.dev.cwUp (2) = true) ∧
    ((witCausewayLinksCarryFrames10.dev.cwp (2)).dreqAt = some (100)) ∧ (bits ((7 : BitVec 192))
    0 16 = (witCausewayLinksCarryFrames10.dev.cwp (2)).dreqSeq) ∧ (8 ≤ (witCausewayLinksCarryFrames10.dev.cwp (2)).delays.length) ∧
    ((witCausewayLinksCarryFrames10.dev.cwp (2)).rejRun < 7) ∧ (131072 < (((Int.ofNat (300100) - (100)) - ((bits ((7 : BitVec 192)) 96 80 : Int)
    - bits ((7 : BitVec 192)) 16 80)).tdiv 2 - meanOf (witCausewayLinksCarryFrames10.dev.cwp (2)).delays).natAbs) ∧ (((ran (.rxDresp (2)
    ((7 : BitVec 192)) (300100)) witCausewayLinksCarryFrames10).cwp (2)).delays = (witCausewayLinksCarryFrames10.dev.cwp (2)).delays ∧
    ((ran (.rxDresp (2) ((7 : BitVec 192)) (300100)) witCausewayLinksCarryFrames10).cwp (2)).rejRun = (witCausewayLinksCarryFrames10.dev.cwp
    (2)).rejRun + 1 ∧ (ran (.rxDresp (2) ((7 : BitVec 192)) (300100)) witCausewayLinksCarryFrames10).fld CW_PDELAY.REJ (2)
    = min (witCausewayLinksCarryFrames10.dev.fld CW_PDELAY.REJ (2) + 1) (2 ^ CW_PDELAY.REJ.len - 1)) := by decide +kernel
theorem test_CausewayLinksCarryFrames_11 : ((2) < 4) ∧ (witCausewayLinksCarryFrames11.dev.cwUp (2) = true) ∧
    (witCausewayLinksCarryFrames11.dev.cwRefused (2) = false) ∧ (((3 : BitVec 10)).toNat ≠ witCausewayLinksCarryFrames11.dev.did) ∧
    (witCausewayLinksCarryFrames11.dev.did ≠ 0) ∧ (((ran (.rxSync (2) ((3 : BitVec 10))
    ((0xffffffffffffffffffffffffffffffffffff00030000000100000000000000000000000000000000000000000000 : BitVec 384)) (5))
    witCausewayLinksCarryFrames11).cwp (2)).sync = (syncOf ((3 : BitVec
    10)).toNat ((0xffffffffffffffffffffffffffffffffffff00030000000100000000000000000000000000000000000000000000 : BitVec 384)).toNat) ∧
    ((ran (.rxSync (2) ((3 : BitVec 10)) ((0xffffffffffffffffffffffffffffffffffff00030000000100000000000000000000000000000000000000000000
    : BitVec 384)) (5)) witCausewayLinksCarryFrames11).cwp (2)).syncAt = some witCausewayLinksCarryFrames11.dev.elNs ∧ (ran (.rxSync (2)
    ((3 : BitVec 10)) ((0xffffffffffffffffffffffffffffffffffff00030000000100000000000000000000000000000000000000000000 : BitVec 384)) (5))
    witCausewayLinksCarryFrames11).fld CW_PSTAT.NB_DID (2) = ((3 : BitVec 10)).toNat ∧ (ran (.rxSync (2) ((3 : BitVec 10))
    ((0xffffffffffffffffffffffffffffffffffff00030000000100000000000000000000000000000000000000000000 : BitVec 384)) (5))
    witCausewayLinksCarryFrames11).fld CW_PSTAT.NB_MASTER (2)
    = (syncOf ((3 : BitVec 10)).toNat ((0xffffffffffffffffffffffffffffffffffff00030000000100000000000000000000000000000000000000000000
    : BitVec 384)).toNat).master ∧ (ran (.rxSync (2) ((3 : BitVec 10))
    ((0xffffffffffffffffffffffffffffffffffff00030000000100000000000000000000000000000000000000000000 : BitVec 384)) (5))
    witCausewayLinksCarryFrames11).fld CW_PSTAT.NB_HOPS (2)
    = (if (syncOf ((3 : BitVec 10)).toNat ((0xffffffffffffffffffffffffffffffffffff00030000000100000000000000000000000000000000000000000000
    : BitVec 384)).toNat).nopath then 15 else
    (syncOf ((3 : BitVec 10)).toNat ((0xffffffffffffffffffffffffffffffffffff00030000000100000000000000000000000000000000000000000000
    : BitVec 384)).toNat).hops) % 16 ∧ (ran (.rxSync (2) ((3 : BitVec 10))
    ((0xffffffffffffffffffffffffffffffffffff00030000000100000000000000000000000000000000000000000000 : BitVec 384)) (5))
    witCausewayLinksCarryFrames11).fld CW_PSTAT.NB_STEADY (2)
    = (syncOf ((3 : BitVec 10)).toNat ((0xffffffffffffffffffffffffffffffffffff00030000000100000000000000000000000000000000000000000000
    : BitVec 384)).toNat).steady.toNat) := by decide +kernel
theorem test_CausewayLinksCarryFrames_12 : ((2) < 4) ∧ (witCausewayLinksCarryFrames12.dev.cwUp (2) = true) ∧
    (witCausewayLinksCarryFrames12.dev.cwRefused (2) = false) ∧ (((5 : BitVec 10)).toNat = witCausewayLinksCarryFrames12.dev.did) ∧
    ((ran (.rxSync (2) ((5 : BitVec 10)) ((0 : BitVec 384)) (5)) witCausewayLinksCarryFrames12).fld CW_PSTAT.ROLE (2) = 3 ∧
    ∃ z ∈ (ran (.rxSync (2) ((5 : BitVec 10)) ((0 : BitVec 384)) (5)) witCausewayLinksCarryFrames12).sl.rises, z.src = 0x783 + 8 * (2)) :=
    by decide +kernel
def witCausewayTreeFollowsItsMaster1 : State := st (fun d => { (((((((ready d).setFld CW_ID.EN 1).setFld CW_ID.DID 5).setFld CW_PSTAT.LSTATE 2 2).setFld CW_TSTAT.ROLE 3).setFld CW_TSTAT.UPPORT 2).setFld CW_PSTAT.ROLE 1 2) with cw := { offs := [-3, -2], seen := 2 } })
def witCausewayTreeFollowsItsMaster2 : State := st (fun d => { ((((((((ready d).setFld CW_ID.EN 1).setFld CW_ID.DID 5).setFld CW_PSTAT.LSTATE 2 2).setFld CW_TSTAT.ROLE 3).setFld CW_TSTAT.UPPORT 2).setFld CW_PSTAT.ROLE 1 2).setFld AX0_DSRC.SRC 2) with cw := { offs := [0, 0, 0, 0, 0, 65536], seen := 6 } })
def witCausewayTreeFollowsItsMaster3 : State := st (fun d => { (((((((ready d).setFld CW_ID.EN 1).setFld CW_ID.DID 5).setFld CW_PSTAT.LSTATE 2 2).setFld CW_TSTAT.ROLE 3).setFld CW_TSTAT.UPPORT 2).setFld CW_PSTAT.ROLE 1 2) with cw := { goodRun := 5 } })
def witCausewayTreeFollowsItsMaster4 : State := st (fun d => { { ((((((((ready d).setFld CW_ID.EN 1).setFld CW_ID.DID 5).setFld CW_PSTAT.LSTATE 2 2).setFld CW_TSTAT.ROLE 3).setFld CW_TSTAT.UPPORT 2).setFld CW_PSTAT.ROLE 1 2).setFld CW_TSTAT.MASTER_DID 1) with cw := { ports := [(2, { syncAt := some 0 })] } } with tb := { elapsed := 2 ^ 70 } })
def witCausewayTreeFollowsItsMaster5 : State := st (fun d => { { ((((((((ready d).setFld CW_ID.EN 1).setFld CW_ID.DID 5).setFld CW_PSTAT.LSTATE 2 2).setFld CW_TSTAT.ROLE 3).setFld CW_TSTAT.UPPORT 2).setFld CW_PSTAT.ROLE 1 2).setFld CW_ID.DID 1) with cw := { held := [0] } } with tb := { elapsed := 2 ^ 90 } })
def witCausewayTreeFollowsItsMaster6 : State := st (fun d => { { (((((((ready d).setFld CW_ID.EN 1).setFld CW_ID.DID 5).setFld CW_PSTAT.LSTATE 2 2).setFld CW_TSTAT.ROLE 2).setFld CW_ID.DID 1).setFld CW_PARENT.ORD0 2) with cw := { ports := [(2, { sync := { hops := 9 }, syncAt := some 100000000, zeroAt := some 0 })] } } with tb := { elapsed := 100000000 <<< 48 } })
def witCausewayTreeFollowsItsMaster7 : State := st (fun d => { (((((((ready d).setFld CW_ID.EN 1).setFld CW_ID.DID 5).setFld CW_PSTAT.LSTATE 2 2).setFld CW_TSTAT.ROLE 3).setFld CW_TSTAT.UPPORT 2).setFld CW_PSTAT.ROLE 1 2) with sys := { powered := true } })
def witCausewayTreeFollowsItsMaster8 : State := st (fun d => { ((((ready d).setFld CW_ID.EN 1).setFld CW_ID.DID 5).setFld CW_PSTAT.LSTATE 2 2) with sys := { powered := true } })
def witCausewayTreeFollowsItsMaster9 : State := st (fun d => { ((((ready d).setFld CW_ID.EN 1).setFld CW_ID.DID 5).setFld CW_PSTAT.LSTATE 2 2) with sys := { powered := true } })
def witCausewayTreeFollowsItsMaster10 : State := st (fun d => { { ((((ready d).setFld CW_ID.EN 1).setFld CW_ID.DID 5).setFld CW_PSTAT.LSTATE 2 2) with cw := { ports := [(2, { route := 0x200, routes := [(0, 0x200)] })] } } with tb := { elapsed := 30000000 <<< 48 } })
theorem test_CausewayTreeFollowsItsMaster_1 : (witCausewayTreeFollowsItsMaster1.dev.cwRole = 3) ∧
    (witCausewayTreeFollowsItsMaster1.dev.cw.offs ≠ []) ∧ (witCausewayTreeFollowsItsMaster1.dev.cwDue 2 1000000 = true) ∧ ((ran (.servoInterval)
    witCausewayTreeFollowsItsMaster1).cw.offs = [] ∧ (ran (.servoInterval) witCausewayTreeFollowsItsMaster1).cw.seen = 0 ∧ (ran (.servoInterval)
    witCausewayTreeFollowsItsMaster1).cw.prev = meanOf witCausewayTreeFollowsItsMaster1.dev.cw.offs ∧ (ran (.servoInterval)
    witCausewayTreeFollowsItsMaster1).fld CW_OFFSET.OFFSET = ofS 48 (meanOf witCausewayTreeFollowsItsMaster1.dev.cw.offs) % 2 ^ 48) :=
    by decide +kernel
theorem test_CausewayTreeFollowsItsMaster_2 : (witCausewayTreeFollowsItsMaster2.dev.cwRole = 3) ∧
    (witCausewayTreeFollowsItsMaster2.dev.cw.offs ≠ []) ∧ (witCausewayTreeFollowsItsMaster2.dev.dsrcCauseway = true) ∧
    (6 ≤ witCausewayTreeFollowsItsMaster2.dev.cw.offs.length) ∧
    (witCausewayTreeFollowsItsMaster2.dev.cw.moved ≠ some witCausewayTreeFollowsItsMaster2.dev.tb.eclk) ∧
    (witCausewayTreeFollowsItsMaster2.dev.cwDue 2 1000000 = true) ∧ ((ran (.servoInterval) witCausewayTreeFollowsItsMaster2).cw.offs = [] ∧
    (ran (.servoInterval) witCausewayTreeFollowsItsMaster2).cw.prev = 10922) := by decide +kernel
theorem test_CausewayTreeFollowsItsMaster_3 : (witCausewayTreeFollowsItsMaster3.dev.cwRole = 3) ∧
    (witCausewayTreeFollowsItsMaster3.dev.cw.offs = []) ∧ (witCausewayTreeFollowsItsMaster3.dev.cw.seen = 0) ∧
    (witCausewayTreeFollowsItsMaster3.dev.cwDue 2 1000000 = true) ∧ ((ran (.servoInterval) witCausewayTreeFollowsItsMaster3)
    = ({ witCausewayTreeFollowsItsMaster3.dev with cw := { witCausewayTreeFollowsItsMaster3.dev.cw with goodRun := 0 } } : Dev).cwSent 2) :=
    by decide +kernel
theorem test_CausewayTreeFollowsItsMaster_4 : (witCausewayTreeFollowsItsMaster4.dev.upPort = some (2)) ∧
    (witCausewayTreeFollowsItsMaster4.dev.cwRole = 3) ∧ (witCausewayTreeFollowsItsMaster4.dev.syncEnd (2)
    ≤ witCausewayTreeFollowsItsMaster4.dev.elNs) ∧ (((witCausewayTreeFollowsItsMaster4.dev.noteZero.setFld CW_PSTAT.USABLE 0 (2)).setCwp (2)
    { (witCausewayTreeFollowsItsMaster4.dev.cwp (2)) with syncAt := none }).noteUsable.portRoles.ranked = []) ∧ ((ran (.parentLossTimeout)
    witCausewayTreeFollowsItsMaster4).fld CW_TSTAT.ROLE = 4 ∧ (ran (.parentLossTimeout)
    witCausewayTreeFollowsItsMaster4).fld CW_TSTAT.UPPORT = 7 ∧ (ran (.parentLossTimeout)
    witCausewayTreeFollowsItsMaster4).fld CW_TSTAT.HOPS = 15 ∧ (ran (.parentLossTimeout)
    witCausewayTreeFollowsItsMaster4).fld CW_TSTAT.MASTER_DID = witCausewayTreeFollowsItsMaster4.dev.fld
    CW_TSTAT.MASTER_DID % 2 ^ CW_TSTAT.MASTER_DID.len ∧ ∃ z ∈ (ran (.parentLossTimeout) witCausewayTreeFollowsItsMaster4).sl.rises, z.src = 0x7A1)
    := by decide +kernel
theorem test_CausewayTreeFollowsItsMaster_5 : (witCausewayTreeFollowsItsMaster5.dev.masterLost = true) ∧ ((ran (.masterLossTimeout)
    witCausewayTreeFollowsItsMaster5).fld CW_TSTAT.ROLE = 2 ∧ (ran (.masterLossTimeout)
    witCausewayTreeFollowsItsMaster5).fld CW_TSTAT.UPPORT = 7 ∧ (ran (.masterLossTimeout)
    witCausewayTreeFollowsItsMaster5).fld CW_TSTAT.HOPS = 0 ∧ (ran (.masterLossTimeout)
    witCausewayTreeFollowsItsMaster5).fld CW_TSTAT.MASTER_DID = 1 ∧ (ran (.masterLossTimeout) witCausewayTreeFollowsItsMaster5).cw.held = []) :=
    by decide +kernel
theorem test_CausewayTreeFollowsItsMaster_6 : ((2) < 4) ∧ (witCausewayTreeFollowsItsMaster6.dev.candidateDue (2) = true) ∧
    ((ran (.candidateTimer (2)) witCausewayTreeFollowsItsMaster6).fld CW_TSTAT.ROLE = 3 ∧ (ran (.candidateTimer (2))
    witCausewayTreeFollowsItsMaster6).fld CW_TSTAT.UPPORT = (2) ∧ (ran (.candidateTimer (2))
    witCausewayTreeFollowsItsMaster6).fld CW_TSTAT.HOPS = (witCausewayTreeFollowsItsMaster6.dev.cwp (2)).sync.hops + 1 ∧
    (ran (.candidateTimer (2)) witCausewayTreeFollowsItsMaster6).fld CW_TSTAT.MASTER_DID = (witCausewayTreeFollowsItsMaster6.dev.cwp
    (2)).sync.master % 2 ^ CW_TSTAT.MASTER_DID.len ∧ (ran (.candidateTimer (2)) witCausewayTreeFollowsItsMaster6).fld CW_PSTAT.ROLE (2) = 1 ∧
    ∃ z ∈ (ran (.candidateTimer (2)) witCausewayTreeFollowsItsMaster6).sl.rises, z.src = 0x7A0) := by decide +kernel
theorem test_CausewayTreeFollowsItsMaster_7 : (witCausewayTreeFollowsItsMaster7.dev.cwRole = 3) ∧
    (witCausewayTreeFollowsItsMaster7.dev.upPort = some (2)) ∧ (witCausewayTreeFollowsItsMaster7.dev.cwDue 1 10000000 = true) ∧
    (witCausewayTreeFollowsItsMaster7.dev.cwUp (2) = true) ∧ (witCausewayTreeFollowsItsMaster7.dev.cwRefused (2) = false) ∧ (((ran (.routeSend)
    witCausewayTreeFollowsItsMaster7).cwp (2)).tx = (witCausewayTreeFollowsItsMaster7.dev.cwp
    (2)).tx ++ [{ typ := 8, from_ := witCausewayTreeFollowsItsMaster7.dev.did, body := ((upto 4).filter witCausewayTreeFollowsItsMaster7.dev.isDown).foldl (fun a q => a ||| witCausewayTreeFollowsItsMaster7.dev.routeBits q) (2 ^ witCausewayTreeFollowsItsMaster7.dev.did) }])
    := by decide +kernel
theorem test_CausewayTreeFollowsItsMaster_8 : ((2) < 4) ∧ (witCausewayTreeFollowsItsMaster8.dev.cwUp (2) = true) ∧
    (witCausewayTreeFollowsItsMaster8.dev.cwRefused (2) = false) ∧ (((9 : BitVec 10)).toNat ≠ witCausewayTreeFollowsItsMaster8.dev.did) ∧
    (witCausewayTreeFollowsItsMaster8.dev.upPort ≠ some (2)) ∧ (bit ((0x200 : BitVec 1024)).toNat witCausewayTreeFollowsItsMaster8.dev.did
    = false) ∧ (((0x200 : BitVec 1024)) ≠ 0) ∧ (((ran (.rxRoute (2) ((9 : BitVec 10)) ((0x200 : BitVec 1024)))
    witCausewayTreeFollowsItsMaster8).cwp (2)).route = ((0x200 : BitVec 1024)).toNat ∧ (ran (.rxRoute (2) ((9 : BitVec 10))
    ((0x200 : BitVec 1024))) witCausewayTreeFollowsItsMaster8).fld CW_PSTAT.ROLE (2) = 2 ∧ (witCausewayTreeFollowsItsMaster8.dev.elNs,
    ((0x200 : BitVec 1024)).toNat) ∈ ((ran (.rxRoute (2) ((9 : BitVec 10)) ((0x200 : BitVec 1024)))
    witCausewayTreeFollowsItsMaster8).cwp (2)).routes) := by decide +kernel
theorem test_CausewayTreeFollowsItsMaster_9 : ((2) < 4) ∧ (witCausewayTreeFollowsItsMaster9.dev.cwUp (2) = true) ∧
    (witCausewayTreeFollowsItsMaster9.dev.cwRefused (2) = false) ∧ (((9 : BitVec 10)).toNat ≠ witCausewayTreeFollowsItsMaster9.dev.did) ∧
    (witCausewayTreeFollowsItsMaster9.dev.upPort ≠ some (2)) ∧ (bit ((0x220 : BitVec 1024)).toNat witCausewayTreeFollowsItsMaster9.dev.did = true)
    ∧ ((ran (.rxRoute (2) ((9 : BitVec 10)) ((0x220 : BitVec 1024))) witCausewayTreeFollowsItsMaster9).fld CW_PSTAT.ROLE (2) = 3 ∧
    ∃ z ∈ (ran (.rxRoute (2) ((9 : BitVec 10)) ((0x220 : BitVec 1024))) witCausewayTreeFollowsItsMaster9).sl.rises, z.src = 0x783 + 8 * (2)) :=
    by decide +kernel
theorem test_CausewayTreeFollowsItsMaster_10 : ((2) < 4) ∧ ((∀ e ∈ ((ran (.routeExpire (2) ((9 : BitVec 10)))
    witCausewayTreeFollowsItsMaster10).cwp (2)).routes, e.1 + 30000000 ≤ witCausewayTreeFollowsItsMaster10.dev.elNs →
    bit e.2 ((9 : BitVec 10)).toNat = false) ∧ ((∀ e ∈ (witCausewayTreeFollowsItsMaster10.dev.cwp (2)).routes,
    e.1 + 30000000 ≤ witCausewayTreeFollowsItsMaster10.dev.elNs) → bit ((ran (.routeExpire (2) ((9 : BitVec 10)))
    witCausewayTreeFollowsItsMaster10).cwp (2)).route ((9 : BitVec 10)).toNat = false)) := by decide +kernel
def witCausewayPublishesAndForwards1 : State := st (fun d => { (((((((((ready d).setFld CW_ID.EN 1).setFld CW_ID.DID 5).setFld CW_PSTAT.LSTATE 2 2).setFld CW_PUB.EN 1 3).setFld CW_PUB.AXIS 1 3).setFld AX_CFG.EN 1 1).setFld AX_CFG.TYPE 1 1).setFld SYS_MODE.MODE 2) with cw := { subs := [{ did := 5, slot := 3, ports := [(2, 0)] }] } })
def witCausewayPublishesAndForwards2 : State := st (fun d => { ((((((((((ready d).setFld CW_ID.EN 1).setFld CW_ID.DID 5).setFld CW_PSTAT.LSTATE 2 2).setFld CW_TSTAT.ROLE 3).setFld CW_TSTAT.UPPORT 2).setFld CW_PSTAT.ROLE 1 2).setFld AX_CFG.EN 1 15).setFld AX_CFG.TYPE 5 15).setFld AX_CFG.SRC 0x27 15) with sys := { powered := true } })
def witCausewayPublishesAndForwards3 : State := st (fun d => { ((((((ready d).setFld CW_ID.EN 1).setFld CW_ID.DID 5).setFld CW_PSTAT.LSTATE 2 2).setFld CW_PUB.EN 1 3).setFld SYS_MODE.MODE 2) with sys := { powered := true } })
def witCausewayPublishesAndForwards4 : State := st (fun d => { ((((((((ready d).setFld CW_ID.EN 1).setFld CW_ID.DID 5).setFld CW_PSTAT.LSTATE 2 2).setFld CW_TSTAT.ROLE 3).setFld CW_TSTAT.UPPORT 2).setFld CW_PSTAT.ROLE 1 2).setFld CW_PSTAT.LSTATE 2 1) with sys := { powered := true } })
def witCausewayPublishesAndForwards5 : State := st (fun d => { ((((ready d).setFld CW_ID.EN 1).setFld CW_ID.DID 5).setFld CW_PSTAT.LSTATE 2 2) with sys := { powered := true } })
def witCausewayPublishesAndForwards6 : State := st (fun d => { (((((((ready d).setFld CW_ID.EN 1).setFld CW_ID.DID 5).setFld CW_PSTAT.LSTATE 2 2).setFld AX_CFG.EN 1 15).setFld AX_CFG.TYPE 5 15).setFld AX_CFG.SRC 0x27 15) with sys := { powered := true } })
def witCausewayPublishesAndForwards7 : State := st (fun d => { ((((((((ready d).setFld CW_ID.EN 1).setFld CW_ID.DID 5).setFld CW_PSTAT.LSTATE 2 2).setFld CW_TSTAT.ROLE 3).setFld CW_TSTAT.UPPORT 2).setFld CW_PSTAT.ROLE 1 2).setFld CW_PSTAT.LSTATE 2 1) with sys := { powered := true } })
def witCausewayPublishesAndForwards8 : State := st (fun d => { { ((((ready d).setFld CW_ID.EN 1).setFld CW_ID.DID 5).setFld CW_PSTAT.LSTATE 2 2) with cw := { subs := [{ did := 5, slot := 3, ports := [(2, 0)] }] } } with tb := { elapsed := 30000000 <<< 48 } })
def witCausewayPublishesAndForwards9 : State := st (fun d => { (((((((ready d).setFld CW_ID.EN 1).setFld CW_ID.DID 5).setFld CW_PSTAT.LSTATE 2 2).setFld AX_CFG.EN 1 15).setFld AX_CFG.TYPE 5 15).setFld AX_CFG.SRC 0x27 15) with sys := { powered := true } })
def witCausewayPublishesAndForwards10 : State := st (fun d => { (((((((ready d).setFld CW_ID.EN 1).setFld CW_ID.DID 5).setFld CW_PSTAT.LSTATE 2 2).setFld AX_CFG.EN 1 15).setFld AX_CFG.TYPE 5 15).setFld AX_CFG.SRC 0x27 15) with sys := { powered := true } })
def witCausewayPublishesAndForwards11 : State := st (fun d => { ((((((ready d).setFld CW_ID.EN 1).setFld CW_ID.DID 5).setFld CW_PSTAT.LSTATE 2 2).setFld CW_ID.DID 0).setFld CW_TSTAT.ROLE 1) with cw := { ports := [(2, { rxSeq := 65535 })] } })
def witCausewayPublishesAndForwards12 : State := st (fun d => { ((((ready d).setFld CW_ID.EN 1).setFld CW_ID.DID 5).setFld CW_PSTAT.LSTATE 2 2) with sys := { powered := true } })
def witCausewayPublishesAndForwards13 : State := st (fun d => { ((((ready d).setFld CW_ID.EN 1).setFld CW_ID.DID 5).setFld CW_PSTAT.LSTATE 2 2) with cw := { ports := [(2, { recs := [(65535, 1), (0, 2), (1, 3)] })] } })
def witCausewayPublishesAndForwards14 : State := st (fun d => { { ((((ready d).setFld CW_ID.EN 1).setFld CW_ID.DID 5).setFld CW_PSTAT.LSTATE 2 2) with cw := { ports := [(2, { recs := [(4, 9)], recAt := [(4, 0)] })] } } with tb := { elapsed := 10000 <<< 48 } })
def witCausewayPublishesAndForwards15 : State := st (fun d => { { (((((ready d).setFld CW_ID.EN 1).setFld CW_ID.DID 5).setFld CW_PSTAT.LSTATE 2 2).setFld CW_TSTAT.ROLE 1) with cw := { gaps := [(9, [(3, 0), (4, 0)])] } } with tb := { elapsed := 100000000 <<< 48 } })
theorem test_CausewayPublishesAndForwards_1 : ((3) < 4) ∧ (witCausewayPublishesAndForwards1.dev.cwOn = true) ∧
    (witCausewayPublishesAndForwards1.dev.operate = true) ∧ (witCausewayPublishesAndForwards1.dev.flag CW_PUB.EN (3) = true) ∧
    (witCausewayPublishesAndForwards1.dev.axType (witCausewayPublishesAndForwards1.dev.fld CW_PUB.AXIS (3)) ≠ 6) ∧
    (get none witCausewayPublishesAndForwards1.dev.cw.timers (8 + (3)) ≠ some (witCausewayPublishesAndForwards1.dev.ns / 1000)) ∧
    ((ran (.snapSend (3)) witCausewayPublishesAndForwards1)
    = (({ witCausewayPublishesAndForwards1.dev with cw := { witCausewayPublishesAndForwards1.dev.cw with timers := set none witCausewayPublishesAndForwards1.dev.cw.timers (8 + (3)) (some (witCausewayPublishesAndForwards1.dev.ns / 1000)) } }
    : Dev)).cwCast witCausewayPublishesAndForwards1.dev.did (3)
    4 { typ := 5, from_ := witCausewayPublishesAndForwards1.dev.did, body := witCausewayPublishesAndForwards1.dev.snapBody (3) (witCausewayPublishesAndForwards1.dev.fld CW_PUB.AXIS (3)) })
    := by decide +kernel
theorem test_CausewayPublishesAndForwards_2 : (0 < (15) ∧ (15) < 16) ∧ (witCausewayPublishesAndForwards2.dev.axOn (15) = true) ∧
    (witCausewayPublishesAndForwards2.dev.axType (15) = 5) ∧ (witCausewayPublishesAndForwards2.dev.cwDue (16 + (15)) 10000000 = true) ∧
    (witCausewayPublishesAndForwards2.dev.cwOn = true) ∧ ((witCausewayPublishesAndForwards2.dev.fld AX_CFG.SRC (15))
    / 4 ≠ witCausewayPublishesAndForwards2.dev.did) ∧ (witCausewayPublishesAndForwards2.dev.cwRoute ((witCausewayPublishesAndForwards2.dev.fld
    AX_CFG.SRC (15)) / 4) = some (2)) ∧ (witCausewayPublishesAndForwards2.dev.cwUp (2) = true) ∧
    (witCausewayPublishesAndForwards2.dev.cwRefused (2) = false) ∧ (((ran (.subscribeSend (15))
    witCausewayPublishesAndForwards2).cwp (2)).tx = (witCausewayPublishesAndForwards2.dev.cwp
    (2)).tx ++ [{ typ := 6, from_ := witCausewayPublishesAndForwards2.dev.did, dst := some ((witCausewayPublishesAndForwards2.dev.fld AX_CFG.SRC (15)) / 4), body := pack [(0, 10, (witCausewayPublishesAndForwards2.dev.fld AX_CFG.SRC (15)) / 4), (10, 2, (witCausewayPublishesAndForwards2.dev.fld AX_CFG.SRC (15)) % 4), (16, 10, witCausewayPublishesAndForwards2.dev.did)] }])
    := by decide +kernel
theorem test_CausewayPublishesAndForwards_3 : ((2) < 4) ∧ (witCausewayPublishesAndForwards3.dev.cwUp (2) = true) ∧
    (witCausewayPublishesAndForwards3.dev.cwRefused (2) = false) ∧ (witCausewayPublishesAndForwards3.dev.subRefusal (2)
    (bits ((0xC05 : BitVec 32)) 0 10) (bits ((0xC05 : BitVec 32)) 10 2) = none) ∧ (bits ((0xC05 : BitVec 32))
    0 10 = witCausewayPublishesAndForwards3.dev.did) ∧ ((ran (.rxSubscribe (2) ((0xC05 : BitVec 32))) witCausewayPublishesAndForwards3)
    = witCausewayPublishesAndForwards3.dev.addSub (2) (bits ((0xC05 : BitVec 32)) 0 10) (bits ((0xC05 : BitVec 32)) 10 2) ∧ (2)
    ∈ (ran (.rxSubscribe (2) ((0xC05 : BitVec 32))) witCausewayPublishesAndForwards3).subPorts (bits ((0xC05 : BitVec 32)) 0 10)
    (bits ((0xC05 : BitVec 32)) 10 2)) := by decide +kernel
theorem test_CausewayPublishesAndForwards_4 : ((1) < 4) ∧ (witCausewayPublishesAndForwards4.dev.cwUp (1) = true) ∧
    (witCausewayPublishesAndForwards4.dev.cwRefused (1) = false) ∧ (witCausewayPublishesAndForwards4.dev.subRefusal (1)
    (bits ((0x90C0C : BitVec 32)) 0 10) (bits ((0x90C0C : BitVec 32)) 10 2) = none) ∧ (bits ((0x90C0C : BitVec 32))
    0 10 ≠ witCausewayPublishesAndForwards4.dev.did) ∧ (witCausewayPublishesAndForwards4.dev.cwRoute (bits ((0x90C0C : BitVec 32)) 0 10)
    = some (2)) ∧ (witCausewayPublishesAndForwards4.dev.cwUp (2) = true) ∧ (witCausewayPublishesAndForwards4.dev.cwRefused (2) = false) ∧ ((1)
    ∈ (ran (.rxSubscribe (1) ((0x90C0C : BitVec 32))) witCausewayPublishesAndForwards4).subPorts (bits ((0x90C0C : BitVec 32)) 0 10)
    (bits ((0x90C0C : BitVec 32)) 10 2) ∧
    { typ := 6, from_ := bits ((0x90C0C : BitVec 32)) 16 10, dst := some (bits ((0x90C0C : BitVec 32)) 0 10), body := ((0x90C0C : BitVec 32)).toNat }
    ∈ ((ran (.rxSubscribe (1) ((0x90C0C : BitVec 32))) witCausewayPublishesAndForwards4).cwp (2)).tx) := by decide +kernel
theorem test_CausewayPublishesAndForwards_5 : ((2) < 4) ∧ (witCausewayPublishesAndForwards5.dev.cwUp (2) = true) ∧
    (witCausewayPublishesAndForwards5.dev.cwRefused (2) = false) ∧ (witCausewayPublishesAndForwards5.dev.subRefusal (2)
    (bits ((0xC05 : BitVec 32)) 0 10) (bits ((0xC05 : BitVec 32)) 10 2) = some (1)) ∧ ((ran (.rxSubscribe (2) ((0xC05 : BitVec 32)))
    witCausewayPublishesAndForwards5) = witCausewayPublishesAndForwards5.dev.sendSubnak (1) ((0xC05 : BitVec 32)).toNat ∧ (ran (.rxSubscribe (2)
    ((0xC05 : BitVec 32))) witCausewayPublishesAndForwards5).cw.subs = witCausewayPublishesAndForwards5.dev.cw.subs) := by decide +kernel
theorem test_CausewayPublishesAndForwards_6 : ((2) < 4) ∧ (witCausewayPublishesAndForwards6.dev.cwUp (2) = true) ∧
    (witCausewayPublishesAndForwards6.dev.cwRefused (2) = false) ∧ (((5 : BitVec 10)).toNat = witCausewayPublishesAndForwards6.dev.did) ∧
    ((ran (.rxSubnak (2) ((5 : BitVec 10)) ((4 : BitVec 64))) witCausewayPublishesAndForwards6)
    = witCausewayPublishesAndForwards6.dev.subnakHere (bits ((4 : BitVec 64)) 0 8) (bits ((4 : BitVec 64)) 8 10) (bits ((4 : BitVec 64)) 32 32) ∧
    ∃ z ∈ (ran (.rxSubnak (2) ((5 : BitVec 10)) ((4 : BitVec 64))) witCausewayPublishesAndForwards6).sl.rises, z.src = 0x7A4) := by decide +kernel
theorem test_CausewayPublishesAndForwards_7 : ((1) < 4) ∧ (witCausewayPublishesAndForwards7.dev.cwUp (1) = true) ∧
    (witCausewayPublishesAndForwards7.dev.cwRefused (1) = false) ∧ (((6 : BitVec 10)).toNat ≠ witCausewayPublishesAndForwards7.dev.did) ∧
    (witCausewayPublishesAndForwards7.dev.cwRoute ((6 : BitVec 10)).toNat = some (2)) ∧ (witCausewayPublishesAndForwards7.dev.cwUp (2) = true) ∧
    (witCausewayPublishesAndForwards7.dev.cwRefused (2) = false) ∧ (((ran (.rxSubnak (1) ((6 : BitVec 10)) ((4 : BitVec 64)))
    witCausewayPublishesAndForwards7).cwp (2)).tx = (witCausewayPublishesAndForwards7.dev.cwp
    (2)).tx ++ [{ typ := 7, from_ := bits ((4 : BitVec 64)) 8 10, dst := some ((6 : BitVec 10)).toNat, body := ((4 : BitVec 64)).toNat }]) :=
    by decide +kernel
theorem test_CausewayPublishesAndForwards_8 : (witCausewayPublishesAndForwards8.dev.cw.subs[(0)]?
    = some ({ did := 5, slot := 3, ports := [(2, 0)] } : Sub)) ∧ (({ did := 5, slot := 3, ports := [(2, 0)] } : Sub).ports.any (fun e =>
    e.1 == (2) && decide (e.2 + 30000000 ≤ witCausewayPublishesAndForwards8.dev.elNs)) = true) ∧ ((ran (.subBitExpire (0) (2))
    witCausewayPublishesAndForwards8).cw.subs = (if del (2) ({ did := 5, slot := 3, ports := [(2, 0)] } : Sub).ports = [] then
    witCausewayPublishesAndForwards8.dev.cw.subs.eraseIdx (0) else witCausewayPublishesAndForwards8.dev.cw.subs.set (0)
    { ({ did := 5, slot := 3, ports := [(2, 0)] } : Sub) with ports := del (2) ({ did := 5, slot := 3, ports := [(2, 0)] } : Sub).ports }) ∧
    (ran (.subBitExpire (0) (2)) witCausewayPublishesAndForwards8).cw.ports = witCausewayPublishesAndForwards8.dev.cw.ports) := by decide +kernel
theorem test_CausewayPublishesAndForwards_9 : ((2) < 4) ∧ (witCausewayPublishesAndForwards9.dev.cwUp (2) = true) ∧
    (witCausewayPublishesAndForwards9.dev.cwRefused (2) = false) ∧ (bits ((0x4d00000000000000000000000000000103 : BitVec 256)) 0 8 < 4) ∧
    (((ran (.rxSnap (2) ((9 : BitVec 10)) ((0x4d00000000000000000000000000000103 : BitVec 256)))
    witCausewayPublishesAndForwards9).axis 15).remote.seen = true ∧ ((ran (.rxSnap (2) ((9 : BitVec 10))
    ((0x4d00000000000000000000000000000103 : BitVec 256))) witCausewayPublishesAndForwards9).axis 15).remote.v = 77 ∧ ((ran (.rxSnap (2)
    ((9 : BitVec 10)) ((0x4d00000000000000000000000000000103 : BitVec 256))) witCausewayPublishesAndForwards9).axis 15).remote.typ = 1) :=
    by decide +kernel
theorem test_CausewayPublishesAndForwards_10 : ((2) < 4) ∧ (witCausewayPublishesAndForwards10.dev.cwUp (2) = true) ∧
    (witCausewayPublishesAndForwards10.dev.cwRefused (2) = false) ∧ (bits ((0x4d000000000000000000000000000000000000000000000203 : BitVec 448))
    0 8 < 4) ∧ (((ran (.rxTooth (2) ((9 : BitVec 10)) ((0x4d000000000000000000000000000000000000000000000203 : BitVec 448)))
    witCausewayPublishesAndForwards10).axis 15).remote.base = 77) := by decide +kernel
theorem test_CausewayPublishesAndForwards_11 : ((2) < 4) ∧ (witCausewayPublishesAndForwards11.dev.cwUp (2) = true) ∧
    (witCausewayPublishesAndForwards11.dev.cwRefused (2) = false) ∧ (witCausewayPublishesAndForwards11.dev.cwOn = true) ∧
    (bits ((0xFFFF : BitVec 320)) 0 16 = (witCausewayPublishesAndForwards11.dev.cwp (2)).rxSeq) ∧ (((ran (.rxRec (2) ((0xFFFF : BitVec 320)))
    witCausewayPublishesAndForwards11).cwp (2)).rxSeq = ((witCausewayPublishesAndForwards11.dev.cwp (2)).rxSeq + 1) % 65536 ∧
    { typ := 0x0B, from_ := witCausewayPublishesAndForwards11.dev.did, body := (((witCausewayPublishesAndForwards11.dev.cwp (2)).rxSeq + 1) % 65536 + 65535) % 65536 }
    ∈ ((ran (.rxRec (2) ((0xFFFF : BitVec 320))) witCausewayPublishesAndForwards11).cwp (2)).tx ∧
    (witCausewayPublishesAndForwards11.dev.cwRole = 1 → bits ((0xFFFF : BitVec 320)) 16 16 = get 0 witCausewayPublishesAndForwards11.dev.cw.expect
    (bits ((0xFFFF : BitVec 320)) 112 10) → get 0 (ran (.rxRec (2) ((0xFFFF : BitVec 320)))
    witCausewayPublishesAndForwards11).cw.expect (bits ((0xFFFF : BitVec 320)) 112 10) = (bits ((0xFFFF : BitVec 320)) 16 16 + 1) % 65536 ∧
    ∃ z ∈ (ran (.rxRec (2) ((0xFFFF : BitVec 320))) witCausewayPublishesAndForwards11).sl.rises, z.src = 0x800 + bits ((0xFFFF : BitVec 320))
    32 11)) := by decide +kernel
theorem test_CausewayPublishesAndForwards_12 : ((2) < 4) ∧ (witCausewayPublishesAndForwards12.dev.cwUp (2) = true) ∧
    (witCausewayPublishesAndForwards12.dev.cwRefused (2) = false) ∧ (witCausewayPublishesAndForwards12.dev.cwOn = true) ∧
    (bits ((0xFFFF : BitVec 320)) 0 16 ≠ (witCausewayPublishesAndForwards12.dev.cwp (2)).rxSeq) ∧ (((ran (.rxRec (2) ((0xFFFF : BitVec 320)))
    witCausewayPublishesAndForwards12).cwp (2)).rxSeq = (witCausewayPublishesAndForwards12.dev.cwp (2)).rxSeq ∧ ((ran (.rxRec (2)
    ((0xFFFF : BitVec 320))) witCausewayPublishesAndForwards12).cwp (2)).tx = (witCausewayPublishesAndForwards12.dev.cwp
    (2)).tx ++ [{ typ := 0x0B, from_ := witCausewayPublishesAndForwards12.dev.did, body := ((witCausewayPublishesAndForwards12.dev.cwp (2)).rxSeq + 65535) % 65536 }]
    ∧ (ran (.rxRec (2) ((0xFFFF : BitVec 320))) witCausewayPublishesAndForwards12).sl = witCausewayPublishesAndForwards12.dev.sl) :=
    by decide +kernel
theorem test_CausewayPublishesAndForwards_13 : ((2) < 4) ∧ (witCausewayPublishesAndForwards13.dev.cwUp (2) = true) ∧ ((ran (.rxAck (2)
    ((0 : BitVec 16))) witCausewayPublishesAndForwards13) = witCausewayPublishesAndForwards13.dev.setCwp (2)
    { (witCausewayPublishesAndForwards13.dev.cwp (2)) with recs := ((witCausewayPublishesAndForwards13.dev.cwp (2)).recs.filter (fun e => 32768 ≤ (((0 : BitVec 16)).toNat + 65536 - e.1) % 65536)), recAt := (witCausewayPublishesAndForwards13.dev.cwp (2)).recAt.filter (fun e => ((witCausewayPublishesAndForwards13.dev.cwp (2)).recs.filter (fun e => 32768 ≤ (((0 : BitVec 16)).toNat + 65536 - e.1) % 65536)).any (fun f => f.1 == e.1)) })
    := by decide +kernel
theorem test_CausewayPublishesAndForwards_14 : ((2) < 4) ∧ (witCausewayPublishesAndForwards14.dev.cwUp (2) = true) ∧
    (witCausewayPublishesAndForwards14.dev.cwRefused (2) = false) ∧ ((witCausewayPublishesAndForwards14.dev.cwp (2)).recs.find? (fun y =>
    (witCausewayPublishesAndForwards14.dev.cwp (2)).unacked witCausewayPublishesAndForwards14.dev.elNs y) = some (((4, 9) : Nat × Nat))) ∧
    (((ran (.recRetransmit (2)) witCausewayPublishesAndForwards14).cwp (2)).tx = (witCausewayPublishesAndForwards14.dev.cwp
    (2)).tx ++ [{ typ := 0x0C, from_ := witCausewayPublishesAndForwards14.dev.did, body := (((4, 9) : Nat × Nat)).2 }] ∧ (ran (.recRetransmit (2))
    witCausewayPublishesAndForwards14).fld CW_PCNT.RETX (2) = min (witCausewayPublishesAndForwards14.dev.fld CW_PCNT.RETX (2) + 1)
    (2 ^ CW_PCNT.RETX.len - 1)) := by decide +kernel
theorem test_CausewayPublishesAndForwards_15 : (get [] witCausewayPublishesAndForwards15.dev.cw.gaps ((9 : BitVec 10)).toNat = (((3, 0)
    : Nat × Nat)) :: ([(4, 0)] : List (Nat × Nat))) ∧ (witCausewayPublishesAndForwards15.dev.cwMaster = true) ∧ ((((3, 0)
    : Nat × Nat)).2 + 100000000 ≤ witCausewayPublishesAndForwards15.dev.elNs) ∧ (get [] (ran (.gapTimeout ((9 : BitVec 10)))
    witCausewayPublishesAndForwards15).cw.gaps ((9 : BitVec 10)).toNat = ((((3, 0) : Nat × Nat))
    :: ([(4, 0)] : List (Nat × Nat))).filter (fun x => x.2 != (((3, 0) : Nat × Nat)).2) ∧ (ran (.gapTimeout ((9 : BitVec 10)))
    witCausewayPublishesAndForwards15).fld CW_FCNT.GAPS 0 = min (witCausewayPublishesAndForwards15.dev.fld CW_FCNT.GAPS 0 + 1)
    (2 ^ CW_FCNT.GAPS.len - 1) ∧ ∃ z ∈ (ran (.gapTimeout ((9 : BitVec 10))) witCausewayPublishesAndForwards15).sl.rises, z.src = 0x7A8) :=
    by decide +kernel
def witTalliesCompareConfigurations1 : State := st (fun d => { ((((((ready d).setFld CW_ID.EN 1).setFld CW_ID.DID 5).setFld CW_PSTAT.LSTATE 2 2).setFld CW_TSTAT.ROLE 1).setFld CW_TEXP.SET 1 15) with cw := { devices := 3 } })
def witTalliesCompareConfigurations2 : State := st (fun d => { (((((((ready d).setFld CW_ID.EN 1).setFld CW_ID.DID 5).setFld CW_PSTAT.LSTATE 2 2).setFld CW_TSTAT.ROLE 3).setFld CW_TSTAT.UPPORT 2).setFld CW_PSTAT.ROLE 1 2) with sys := { powered := true } })
def witTalliesCompareConfigurations3 : State := st (fun d => { ((((ready d).setFld CW_ID.EN 1).setFld CW_ID.DID 5).setFld CW_PSTAT.LSTATE 2 2) with cw := { devices := 0xFFFF, reported := false } })
def witTalliesCompareConfigurations4 : State := st (fun d => { ((((((((ready d).setFld CW_ID.EN 1).setFld CW_ID.DID 5).setFld CW_PSTAT.LSTATE 2 2).setFld CW_TSTAT.ROLE 3).setFld CW_TSTAT.UPPORT 2).setFld CW_PSTAT.ROLE 1 2).setFld CW_TSTAT.HOPS 10) with cw := { reported := false } })
def witTalliesCompareConfigurations5 : State := st (fun d => { { ((((((ready d).setFld CW_ID.EN 1).setFld CW_ID.DID 5).setFld CW_PSTAT.LSTATE 2 2).setFld CW_TSTAT.ROLE 1).setFld CW_TLOCAL.RESULT 2 15) with cw := { reported := false, devices := 3, compared := 0x8000 } } with tb := { elapsed := 500000 <<< 48 } })
def witTalliesCompareConfigurations6 : State := st (fun d => { ((((ready d).setFld CW_ID.EN 1).setFld CW_ID.DID 5).setFld CW_PSTAT.LSTATE 2 2) with sys := { powered := true } })
theorem test_TalliesCompareConfigurations_1 : (witTalliesCompareConfigurations1.dev.cwMaster = true) ∧
    (witTalliesCompareConfigurations1.dev.cw.nextSet = []) ∧
    (witTalliesCompareConfigurations1.dev.cwDue 3 (1000000 * witTalliesCompareConfigurations1.dev.fld CW_TALLY.PERIOD_MS) = true) ∧
    ((ran (.tallyRoundStart) witTalliesCompareConfigurations1).fld CW_TROUND.ROUND = 1 ∧ (ran (.tallyRoundStart)
    witTalliesCompareConfigurations1).cw.devices = 0 ∧ bit (ran (.tallyRoundStart) witTalliesCompareConfigurations1).cw.compared 15 = true ∧
    bit (ran (.tallyRoundStart) witTalliesCompareConfigurations1).cw.compared 14 = false) := by decide +kernel
theorem test_TalliesCompareConfigurations_2 : ((2) < 4) ∧ (witTalliesCompareConfigurations2.dev.cwUp (2) = true) ∧
    (witTalliesCompareConfigurations2.dev.cwRole = 3) ∧ (witTalliesCompareConfigurations2.dev.upPort = some (2)) ∧ ((15)
    = bits ((0x900000003000000010000000f : BitVec 160)) 0 8) ∧ ((15) < 16) ∧ ((ran (.rxTally (2) ((0x900000003000000010000000f : BitVec 160)))
    witTalliesCompareConfigurations2).fld CW_TEXP.EPOCH (15) = bits ((0x900000003000000010000000f : BitVec 160)) 64 32 ∧ (ran (.rxTally (2)
    ((0x900000003000000010000000f : BitVec 160))) witTalliesCompareConfigurations2).fld CW_TEXP.SET (15) = 1 ∧ (ran (.rxTally (2)
    ((0x900000003000000010000000f : BitVec 160))) witTalliesCompareConfigurations2).fld CW_TEXP.DIGEST (15)
    = bits ((0x900000003000000010000000f : BitVec 160)) 96 64 ∧ bit (ran (.rxTally (2) ((0x900000003000000010000000f : BitVec 160)))
    witTalliesCompareConfigurations2).cw.compared (15) = true ∧ (ran (.rxTally (2) ((0x900000003000000010000000f : BitVec 160)))
    witTalliesCompareConfigurations2).fld CW_TLOCAL.RESULT (15) = (if witTalliesCompareConfigurations2.dev.fld CW_TLOCAL.EPOCH (15)
    = bits ((0x900000003000000010000000f : BitVec 160)) 64 32 ∧ witTalliesCompareConfigurations2.dev.fld CW_TLOCAL.DIGEST (15)
    = bits ((0x900000003000000010000000f : BitVec 160)) 96 64 then 1 else if witTalliesCompareConfigurations2.dev.fld CW_TLOCAL.EPOCH (15)
    < bits ((0x900000003000000010000000f : BitVec 160)) 64 32 then 2 else 3)) := by decide +kernel
theorem test_TalliesCompareConfigurations_3 : ((2) < 4) ∧ (witTalliesCompareConfigurations3.dev.cwUp (2) = true) ∧
    (witTalliesCompareConfigurations3.dev.cwRefused (2) = false) ∧ ((15) < 16) ∧ (witTalliesCompareConfigurations3.dev.upPort ≠ some (2)) ∧
    (bits ((0xffff0000000000020000000000000000000000000000000000000000000000000000000000000000000000000000000000000000000000000000000000000000000000000000000000000000000000000000000000000000000000000000000000000000000000000000000000000000000000000000000000000000000000000000000300000000
    : BitVec 1088)) 0 32 = witTalliesCompareConfigurations3.dev.fld CW_TROUND.ROUND) ∧ (witTalliesCompareConfigurations3.dev.cw.reported = false)
    ∧ ((ran (.rxTreport (2)
    ((0xffff0000000000020000000000000000000000000000000000000000000000000000000000000000000000000000000000000000000000000000000000000000000000000000000000000000000000000000000000000000000000000000000000000000000000000000000000000000000000000000000000000000000000000000000300000000
    : BitVec 1088))) witTalliesCompareConfigurations3).cw.devices = min (witTalliesCompareConfigurations3.dev.cw.devices
    + bits ((0xffff0000000000020000000000000000000000000000000000000000000000000000000000000000000000000000000000000000000000000000000000000000000000000000000000000000000000000000000000000000000000000000000000000000000000000000000000000000000000000000000000000000000000000000000300000000
    : BitVec 1088)) 32 16) 0xFFFF ∧ get {} (ran (.rxTreport (2)
    ((0xffff0000000000020000000000000000000000000000000000000000000000000000000000000000000000000000000000000000000000000000000000000000000000000000000000000000000000000000000000000000000000000000000000000000000000000000000000000000000000000000000000000000000000000000000300000000
    : BitVec 1088))) witTalliesCompareConfigurations3).cw.groups (15)
    = { stale := min ((get {} witTalliesCompareConfigurations3.dev.cw.groups (15)).stale + bits ((0xffff0000000000020000000000000000000000000000000000000000000000000000000000000000000000000000000000000000000000000000000000000000000000000000000000000000000000000000000000000000000000000000000000000000000000000000000000000000000000000000000000000000000000000000000300000000 : BitVec 1088)) (64 + 64 * (15)) 16) 0xFFFF, mism := min ((get {} witTalliesCompareConfigurations3.dev.cw.groups (15)).mism + bits ((0xffff0000000000020000000000000000000000000000000000000000000000000000000000000000000000000000000000000000000000000000000000000000000000000000000000000000000000000000000000000000000000000000000000000000000000000000000000000000000000000000000000000000000000000000000300000000 : BitVec 1088)) (80 + 64 * (15)) 16) 0xFFFF, lowStale := min (get {} witTalliesCompareConfigurations3.dev.cw.groups (15)).lowStale (bits ((0xffff0000000000020000000000000000000000000000000000000000000000000000000000000000000000000000000000000000000000000000000000000000000000000000000000000000000000000000000000000000000000000000000000000000000000000000000000000000000000000000000000000000000000000000000300000000 : BitVec 1088)) (96 + 64 * (15)) 16), lowMism := min (get {} witTalliesCompareConfigurations3.dev.cw.groups (15)).lowMism (bits ((0xffff0000000000020000000000000000000000000000000000000000000000000000000000000000000000000000000000000000000000000000000000000000000000000000000000000000000000000000000000000000000000000000000000000000000000000000000000000000000000000000000000000000000000000000000300000000 : BitVec 1088)) (112 + 64 * (15)) 16) })
    := by decide +kernel
theorem test_TalliesCompareConfigurations_4 : (witTalliesCompareConfigurations4.dev.upPort = some (2)) ∧
    (witTalliesCompareConfigurations4.dev.cwUp (2) = true) ∧ (witTalliesCompareConfigurations4.dev.cwRefused (2) = false) ∧
    (witTalliesCompareConfigurations4.dev.cwRole = 3) ∧ (witTalliesCompareConfigurations4.dev.cw.reported = false) ∧
    (witTalliesCompareConfigurations4.dev.cw.roundAt + (10 - witTalliesCompareConfigurations4.dev.fld CW_TSTAT.HOPS)
    * 50000 ≤ witTalliesCompareConfigurations4.dev.elNs) ∧ ((ran (.treportWindow) witTalliesCompareConfigurations4).cw.reported = true ∧
    ((ran (.treportWindow) witTalliesCompareConfigurations4).cwp (2)).tx = (witTalliesCompareConfigurations4.dev.cwp
    (2)).tx ++ [{ typ := 0x0A, from_ := witTalliesCompareConfigurations4.dev.did, body := witTalliesCompareConfigurations4.dev.addOwn.reportBody }]
    ∧ (ran (.treportWindow) witTalliesCompareConfigurations4).cw.devices = min (witTalliesCompareConfigurations4.dev.cw.devices + 1) 0xFFFF) :=
    by decide +kernel
theorem test_TalliesCompareConfigurations_5 : ((15) < 16) ∧ (witTalliesCompareConfigurations5.dev.cwMaster = true) ∧
    (witTalliesCompareConfigurations5.dev.cw.reported = false) ∧
    (witTalliesCompareConfigurations5.dev.cw.roundAt + 500000 ≤ witTalliesCompareConfigurations5.dev.elNs) ∧ ((ran (.tallyRoundClose)
    witTalliesCompareConfigurations5).cw.reported = true ∧ (ran (.tallyRoundClose)
    witTalliesCompareConfigurations5).fld CW_TREPORT.REPORTING = min (min (witTalliesCompareConfigurations5.dev.cw.devices + 1) 0xFFFF) 2047 ∧
    (ran (.tallyRoundClose) witTalliesCompareConfigurations5).fld CW_TRES.STALE_CNT (15)
    = (get {} witTalliesCompareConfigurations5.dev.addOwn.cw.groups (15)).stale % 65536 ∧ (ran (.tallyRoundClose)
    witTalliesCompareConfigurations5).fld CW_TRES.MISMATCH_CNT (15) = (get {} witTalliesCompareConfigurations5.dev.addOwn.cw.groups
    (15)).mism % 65536 ∧ (ran (.tallyRoundClose) witTalliesCompareConfigurations5).fld CW_TRES.LOW_STALE (15)
    = (get {} witTalliesCompareConfigurations5.dev.addOwn.cw.groups (15)).lowStale % 65536 ∧ (ran (.tallyRoundClose)
    witTalliesCompareConfigurations5).fld CW_TRES.LOW_MISMATCH (15) = (get {} witTalliesCompareConfigurations5.dev.addOwn.cw.groups
    (15)).lowMism % 65536) := by decide +kernel
theorem test_TalliesCompareConfigurations_6 : ((4) ≤ 4) ∧ (((4) ≠ 0 ∨ witTalliesCompareConfigurations6.dev.sealed = false)) ∧ (True) :=
    by decide +kernel
def witLogRecordsAreQueuedAndWritten1 : State := st (fun d => { ((d.setFld HL_LCFG.LEN 1 31).setFld HL_LIST.KIND 1 31) with lg := { sampling := some { entry := 1, off := 32, since := 0, last := 0 }, sampler := [{ list := 31, src := 5, ev := 7, at_ := 0, steady := true, eclk := 0 }] } })
def witLogRecordsAreQueuedAndWritten2 : State := st (fun d => { d with lg := { queue := [{ cls := 3, ltype := 1, units := 256, img := 0 }], sampler := [{ list := 31, src := 5, ev := 7, at_ := 0, steady := true, eclk := 0 }] } })
def witLogRecordsAreQueuedAndWritten3 : State := st (fun d => { (d.setFld HM_SEAL.SEAL 1) with lg := { pack := [(0, 1), (0, 2)] }, tb := { elapsed := 1000 <<< 48 } })
def witLogRecordsAreQueuedAndWritten4 : State := st (fun d => { ((((d.setFld HL_SEQ.LAST_SEQ 0xFFFFFFFF).setFld HL_SEQ.FIRST_SEQ 0).setFld HL_PTR.HEAD 65343).setFld HL_PTR.TAIL 65343) with lg := { queue := [{ cls := 1, ltype := 4, units := 1, img := 4 }] } })
def witLogRecordsAreQueuedAndWritten5 : State := st (fun d => { d with lg := { writing := some { item := { cls := 1, ltype := 4, units := 1, img := 4 }, seq := 9, units := [65343] } } })
def witLogRecordsAreQueuedAndWritten6 : State := st (fun d => { d with lg := { writing := some { item := { cls := 1, ltype := 4, units := 1, img := 4, act := .mark { w := 5, uid := 3 } }, seq := 9, units := [65343] } } })
def witLogRecordsAreQueuedAndWritten7 : State := st (fun d => { d with lg := { keelBusy := true, keelGen := 0xFFFFFFFF, keel := [{ kind := 1, close := false, seq := 3, at_ := 4, unit := 5, body := 0 }] } })
def witLogRecordsAreQueuedAndWritten8 : State := st (fun d => { (d.setFld HL_STAT.LOCKOUT 1) with lg := { lockUntil := 0 } })
def witLogRecordsAreQueuedAndWritten9 : State := st (fun d => { ((d.setFld HL_STAT.CHALLENGE 1).setFld HL_CFG.CHAL_S 1) with lg := { challenge := some { fn := 0, nonce := 0, cseq := 1, clearTo := 0, first := 1, at_ := 0 } }, tb := { elapsed := 1000000001 <<< 48 } })
theorem test_LogRecordsAreQueuedAndWritten_1 : (witLogRecordsAreQueuedAndWritten1.dev.lg.sampler
    = ({ list := 31, src := 5, ev := 7, at_ := 0, steady := true, eclk := 0 } : Trigger) :: ([] : List Trigger)) ∧
    (witLogRecordsAreQueuedAndWritten1.dev.sampleLeft ({ list := 31, src := 5, ev := 7, at_ := 0, steady := true, eclk := 0 } : Trigger) = []) ∧
    (witLogRecordsAreQueuedAndWritten1.dev.lgFailed = false) ∧ (witLogRecordsAreQueuedAndWritten1.dev.lg.queued < 16384) ∧
    (witLogRecordsAreQueuedAndWritten1.dev.lg.queued + 64 * (max 1 (ceilDiv (40 + (witLogRecordsAreQueuedAndWritten1.dev.sampling
    ({ list := 31, src := 5, ev := 7, at_ := 0, steady := true, eclk := 0 } : Trigger)).off) 64)) ≤ 32768) ∧ ((ran (.snapshotSampled)
    witLogRecordsAreQueuedAndWritten1).lg.sampler = ([] : List Trigger) ∧ (ran (.snapshotSampled)
    witLogRecordsAreQueuedAndWritten1).lg.queue.map (fun q => (q.cls, q.ltype, q.units)) = [(3, 1, 2)]) := by decide +kernel
theorem test_LogRecordsAreQueuedAndWritten_2 : (witLogRecordsAreQueuedAndWritten2.dev.lg.sampler
    = ({ list := 31, src := 5, ev := 7, at_ := 0, steady := true, eclk := 0 } : Trigger) :: ([] : List Trigger)) ∧
    (witLogRecordsAreQueuedAndWritten2.dev.sampleLeft ({ list := 31, src := 5, ev := 7, at_ := 0, steady := true, eclk := 0 } : Trigger) = []) ∧
    (16384 ≤ witLogRecordsAreQueuedAndWritten2.dev.lg.queued) ∧ ((ran (.snapshotSampled)
    witLogRecordsAreQueuedAndWritten2).lg.sampler = ([] : List Trigger) ∧ (ran (.snapshotSampled)
    witLogRecordsAreQueuedAndWritten2).lg.queue = witLogRecordsAreQueuedAndWritten2.dev.lg.queue ∧ (ran (.snapshotSampled)
    witLogRecordsAreQueuedAndWritten2).fld HL_CNT.DROPPED 0 = min (witLogRecordsAreQueuedAndWritten2.dev.fld HL_CNT.DROPPED 0 + 1)
    (2 ^ HL_CNT.DROPPED.len - 1)) := by decide +kernel
theorem test_LogRecordsAreQueuedAndWritten_3 : (witLogRecordsAreQueuedAndWritten3.dev.sealed = true) ∧
    (witLogRecordsAreQueuedAndWritten3.dev.lg.pack ≠ []) ∧ (witLogRecordsAreQueuedAndWritten3.dev.windowEnds = true) ∧
    (witLogRecordsAreQueuedAndWritten3.dev.lgFailed = false) ∧ (witLogRecordsAreQueuedAndWritten3.dev.lg.queued + 64 * (ceilDiv
    (40 + 32 * witLogRecordsAreQueuedAndWritten3.dev.lg.window.length) 64) ≤ 32768) ∧ ((ran (.itemsPackClose)
    witLogRecordsAreQueuedAndWritten3).lg.pack = [] ∧ (ran (.itemsPackClose) witLogRecordsAreQueuedAndWritten3).lg.queue.map (fun q => (q.cls,
    q.ltype, q.units)) = [(2, 2, 2)]) := by decide +kernel
theorem test_LogRecordsAreQueuedAndWritten_4 : (witLogRecordsAreQueuedAndWritten4.dev.lg.writing = none) ∧
    (witLogRecordsAreQueuedAndWritten4.dev.lg.next = some ({ cls := 1, ltype := 4, units := 1, img := 4 } : LogRec)) ∧
    (witLogRecordsAreQueuedAndWritten4.dev.lgFailed = false) ∧ (witLogRecordsAreQueuedAndWritten4.dev.flag HL_CFG.OVERWRITE = false) ∧
    (({ cls := 1, ltype := 4, units := 1, img := 4 } : LogRec).units + 1 ≤ witLogRecordsAreQueuedAndWritten4.dev.lgFree) ∧
    ((({ cls := 1, ltype := 4, units := 1, img := 4 } : LogRec).cls ≠ 3 ∨ witLogRecordsAreQueuedAndWritten4.dev.lgState ≠ 1)) ∧
    ((ran (.logRecordStart 0) witLogRecordsAreQueuedAndWritten4).lg.queue = witLogRecordsAreQueuedAndWritten4.dev.lg.queue.erase
    ({ cls := 1, ltype := 4, units := 1, img := 4 } : LogRec) ∧ (ran (.logRecordStart 0)
    witLogRecordsAreQueuedAndWritten4).lg.writing = some { item := { ({ cls := 1, ltype := 4, units := 1, img := 4 } : LogRec) with img := put (put ({ cls := 1, ltype := 4, units := 1, img := 4 } : LogRec).img 9 1 witLogRecordsAreQueuedAndWritten4.dev.lg.closing.toNat) 176 16 (min witLogRecordsAreQueuedAndWritten4.dev.lg.dropped 0xFFFF) }, seq := (witLogRecordsAreQueuedAndWritten4.dev.lgLast + 1) % 2 ^ 32, units := goodUnits witLogRecordsAreQueuedAndWritten4.dev.lg.bad witLogRecordsAreQueuedAndWritten4.dev.lgTail ({ cls := 1, ltype := 4, units := 1, img := 4 } : LogRec).units, done := witLogRecordsAreQueuedAndWritten4.dev.elNs + 320 * ({ cls := 1, ltype := 4, units := 1, img := 4 } : LogRec).units }
    ∧ (ran (.logRecordStart 0) witLogRecordsAreQueuedAndWritten4).lg.dropped = 0) := by decide +kernel
theorem test_LogRecordsAreQueuedAndWritten_5 : (witLogRecordsAreQueuedAndWritten5.dev.lg.writing
    = some ({ item := { cls := 1, ltype := 4, units := 1, img := 4 }, seq := 9, units := [65343] } : LogWrite)) ∧
    (({ item := { cls := 1, ltype := 4, units := 1, img := 4 }, seq := 9, units := [65343] }
    : LogWrite).done ≤ witLogRecordsAreQueuedAndWritten5.dev.elNs) ∧
    (({ item := { cls := 1, ltype := 4, units := 1, img := 4 }, seq := 9, units := [65343] } : LogWrite).item.act = .nothing) ∧
    ((ran (.logRecordDurable) witLogRecordsAreQueuedAndWritten5).lg.writing = none ∧ (ran (.logRecordDurable)
    witLogRecordsAreQueuedAndWritten5).fld HL_SEQ.LAST_SEQ = ({ item := { cls := 1, ltype := 4, units := 1, img := 4 }, seq := 9, units := [65343] }
    : LogWrite).seq % 2 ^ 32 ∧ (ran (.logRecordDurable) witLogRecordsAreQueuedAndWritten5).fld HL_PTR.TAIL = goodFrom
    witLogRecordsAreQueuedAndWritten5.dev.lg.bad ((({ item := { cls := 1, ltype := 4, units := 1, img := 4 }, seq := 9, units := [65343] }
    : LogWrite).units.getLastD 0 + 1) % ringUnits) % 2 ^ HL_PTR.TAIL.len ∧ ∃ z ∈ (ran (.logRecordDurable)
    witLogRecordsAreQueuedAndWritten5).sl.rises, z.src = 0x7E2) := by decide +kernel
theorem test_LogRecordsAreQueuedAndWritten_6 : (witLogRecordsAreQueuedAndWritten6.dev.lg.writing
    = some ({ item := { cls := 1, ltype := 4, units := 1, img := 4, act := .mark { w := 5, uid := 3 } }, seq := 9, units := [65343] } : LogWrite))
    ∧ (({ item := { cls := 1, ltype := 4, units := 1, img := 4, act := .mark { w := 5, uid := 3 } }, seq := 9, units := [65343] }
    : LogWrite).done ≤ witLogRecordsAreQueuedAndWritten6.dev.elNs) ∧
    (({ item := { cls := 1, ltype := 4, units := 1, img := 4, act := .mark { w := 5, uid := 3 } }, seq := 9, units := [65343] }
    : LogWrite).item.act ≠ .nothing) ∧ ((ran (.logRecordDurable) witLogRecordsAreQueuedAndWritten6).lg.writing = none) := by decide +kernel
theorem test_LogRecordsAreQueuedAndWritten_7 : (witLogRecordsAreQueuedAndWritten7.dev.lg.keelBusy = true) ∧
    (witLogRecordsAreQueuedAndWritten7.dev.lg.keelDone ≤ witLogRecordsAreQueuedAndWritten7.dev.elNs) ∧
    (witLogRecordsAreQueuedAndWritten7.dev.lg.keelActs = []) ∧ (witLogRecordsAreQueuedAndWritten7.dev.lg.keelNew = []) ∧ ((ran (.keelWriteDone)
    witLogRecordsAreQueuedAndWritten7).lg.keelBusy = false ∧ (ran (.keelWriteDone) witLogRecordsAreQueuedAndWritten7).lg.keelGen = 0 ∧
    (ran (.keelWriteDone) witLogRecordsAreQueuedAndWritten7).fld HL_STAT.LOGFAIL = 1) := by decide +kernel
theorem test_LogRecordsAreQueuedAndWritten_8 : (witLogRecordsAreQueuedAndWritten8.dev.flag HL_STAT.LOCKOUT = true) ∧
    (witLogRecordsAreQueuedAndWritten8.dev.lg.lockUntil ≤ witLogRecordsAreQueuedAndWritten8.dev.elNs) ∧ ((ran (.lockoutEnd)
    witLogRecordsAreQueuedAndWritten8) = witLogRecordsAreQueuedAndWritten8.dev.setFld HL_STAT.LOCKOUT 0) := by decide +kernel
theorem test_LogRecordsAreQueuedAndWritten_9 : (witLogRecordsAreQueuedAndWritten9.dev.lg.challenge
    = some ({ fn := 0, nonce := 0, cseq := 1, clearTo := 0, first := 1, at_ := 0 } : Challenge)) ∧
    (({ fn := 0, nonce := 0, cseq := 1, clearTo := 0, first := 1, at_ := 0 } : Challenge).at_ + max 1 (witLogRecordsAreQueuedAndWritten9.dev.fld
    HL_CFG.CHAL_S) * 1000000000 < witLogRecordsAreQueuedAndWritten9.dev.elNs) ∧ ((ran (.challengeExpire)
    witLogRecordsAreQueuedAndWritten9).lg = { witLogRecordsAreQueuedAndWritten9.dev.lg with challenge := none } ∧ (ran (.challengeExpire)
    witLogRecordsAreQueuedAndWritten9).fld HL_STAT.CHALLENGE = 0) := by decide +kernel
def witBootRomLoadsAndTriesItsSources1 : State := st (fun d => { (d.setFld VG_STAT.VALID 1) with sys := { powered := true }, boot := {}, vg := { cnt := 1000 }, mem := [(3, 3)] })
def witBootRomLoadsAndTriesItsSources2 : State := st (fun d => { (d.setFld SYS_BOOT.STAGE 1) with sys := { powered := true }, boot := { loaded := true } })
def witBootRomLoadsAndTriesItsSources3 : State := st (fun d => { (d.setFld SYS_BOOT.STAGE 1) with sys := { powered := true }, boot := { loaded := true }, fuse := fusedDev.fuse })
theorem test_BootRomLoadsAndTriesItsSources_1 : (witBootRomLoadsAndTriesItsSources1.dev.sys.powered = true) ∧
    (witBootRomLoadsAndTriesItsSources1.dev.sys.resetLow = false) ∧ (witBootRomLoadsAndTriesItsSources1.dev.boot.loaded = false) ∧
    (witBootRomLoadsAndTriesItsSources1.dev.mapSound) ∧ (True) := by decide +kernel
theorem test_BootRomLoadsAndTriesItsSources_2 : (witBootRomLoadsAndTriesItsSources2.dev.sys.powered = true) ∧
    ((witBootRomLoadsAndTriesItsSources2.dev.fld SYS_BOOT.STAGE = 1 ∨ witBootRomLoadsAndTriesItsSources2.dev.fld SYS_BOOT.STAGE = 2)) ∧
    (witBootRomLoadsAndTriesItsSources2.dev.boot.sources = []) ∧ (witBootRomLoadsAndTriesItsSources2.dev.mapSound) ∧
    ((ran (.bootFetchDone .noSfdp) witBootRomLoadsAndTriesItsSources2).fld SYS_BOOT.LAST_ERR = 1 ∧ (ran (.bootFetchDone .noSfdp)
    witBootRomLoadsAndTriesItsSources2).fld SYS_BOOT.ERR_OP = 0 ∧ (ran (.bootFetchDone .noSfdp)
    witBootRomLoadsAndTriesItsSources2).fld SYS_RSTCAUSE.CAUSE = 4 ∧ (ran (.bootFetchDone .noSfdp)
    witBootRomLoadsAndTriesItsSources2).fld SYS_BOOT.STAGE = 0xF ∧ (ran (.bootFetchDone .noSfdp)
    witBootRomLoadsAndTriesItsSources2).fld SYS_RSTCAUSE.ATTEMPTS 0 = min (witBootRomLoadsAndTriesItsSources2.dev.fld SYS_RSTCAUSE.ATTEMPTS 0 + 1)
    (2 ^ SYS_RSTCAUSE.ATTEMPTS.len - 1)) := by decide +kernel
theorem test_BootRomLoadsAndTriesItsSources_3 : (witBootRomLoadsAndTriesItsSources3.dev.sys.powered = true) ∧
    ((witBootRomLoadsAndTriesItsSources3.dev.fld SYS_BOOT.STAGE = 1 ∨ witBootRomLoadsAndTriesItsSources3.dev.fld SYS_BOOT.STAGE = 2 ∨
    witBootRomLoadsAndTriesItsSources3.dev.fld SYS_BOOT.STAGE = 4)) ∧ (0 < bootCodeLen (signedImage)) ∧ (bootOpBad (signedImage)
    (bootOpAt (signedImage) 0) = false) ∧ (witBootRomLoadsAndTriesItsSources3.dev.mapSound) ∧ ((ran (.bootFetchDone (.image (signedImage)))
    witBootRomLoadsAndTriesItsSources3).fld SYS_BOOT.STAGE = 6 ∧ (ran (.bootFetchDone (.image (signedImage)))
    witBootRomLoadsAndTriesItsSources3).boot.op = 0) := by decide +kernel
def witBootSourcesAreTriedInOrder1 : State := st (fun d => { (d.setFld VG_STAT.VALID 1) with sys := { powered := true }, boot := {}, vg := { cnt := 1000 }, mem := [(3, 3)] })
def witBootSourcesAreTriedInOrder2 : State := st (fun d => { (d.setFld SYS_BOOT.STAGE 1) with sys := { powered := true }, boot := { loaded := true, sources := [1, 2] } })
def witBootSourcesAreTriedInOrder3 : State := st (fun d => { (d.setFld SYS_BOOT.STAGE 1) with sys := { powered := true }, boot := { loaded := true, sources := [1, 2] } })
def witBootSourcesAreTriedInOrder4 : State := st (fun d => { (d.setFld SYS_BOOT.STAGE 1) with sys := { powered := true }, boot := { loaded := true, sources := [] } })
theorem test_BootSourcesAreTriedInOrder_1 : (witBootSourcesAreTriedInOrder1.dev.sys.powered = true) ∧
    (witBootSourcesAreTriedInOrder1.dev.sys.resetLow = false) ∧ (witBootSourcesAreTriedInOrder1.dev.boot.loaded = false) ∧
    (witBootSourcesAreTriedInOrder1.dev.mapSound) ∧ (True) := by decide +kernel
theorem test_BootSourcesAreTriedInOrder_2 : (witBootSourcesAreTriedInOrder2.dev.sys.powered = true) ∧
    ((witBootSourcesAreTriedInOrder2.dev.fld SYS_BOOT.STAGE = 1 ∨ witBootSourcesAreTriedInOrder2.dev.fld SYS_BOOT.STAGE = 2 ∨
    witBootSourcesAreTriedInOrder2.dev.fld SYS_BOOT.STAGE = 4)) ∧ (witBootSourcesAreTriedInOrder2.dev.boot.sources = (1) :: ([2] : List Nat)) ∧
    ((1) < 3) ∧ (witBootSourcesAreTriedInOrder2.dev.mapSound) ∧ ((ran (.bootFetchDone .failed)
    witBootSourcesAreTriedInOrder2).fld SYS_BOOT.LAST_ERR = 2 ∧ (ran (.bootFetchDone .failed)
    witBootSourcesAreTriedInOrder2).fld SYS_BOOT.ERR_OP = 0 ∧ (ran (.bootFetchDone .failed)
    witBootSourcesAreTriedInOrder2).fld SYS_RSTCAUSE.CAUSE = 4 ∧ (ran (.bootFetchDone .failed)
    witBootSourcesAreTriedInOrder2).fld SYS_BOOT.STAGE = (1) + 1 ∧ (ran (.bootFetchDone .failed)
    witBootSourcesAreTriedInOrder2).fld SYS_BOOT.SOURCE = (1) ∧ (ran (.bootFetchDone .failed)
    witBootSourcesAreTriedInOrder2).boot.sources = ([2] : List Nat) ∧ (ran (.bootFetchDone .failed)
    witBootSourcesAreTriedInOrder2).tb = witBootSourcesAreTriedInOrder2.dev.tb) := by decide +kernel
theorem test_BootSourcesAreTriedInOrder_3 : (witBootSourcesAreTriedInOrder3.dev.sys.powered = true) ∧
    ((witBootSourcesAreTriedInOrder3.dev.fld SYS_BOOT.STAGE = 1 ∨ witBootSourcesAreTriedInOrder3.dev.fld SYS_BOOT.STAGE = 2 ∨
    witBootSourcesAreTriedInOrder3.dev.fld SYS_BOOT.STAGE = 4)) ∧ (witBootSourcesAreTriedInOrder3.dev.boot.sources = (1) :: ([2] : List Nat)) ∧
    ((1) < 3) ∧ ((witBootSourcesAreTriedInOrder3.dev.count SYS_RSTCAUSE.ATTEMPTS).imageError ([1, 2] : List (BitVec 8)) ≠ 0) ∧
    (witBootSourcesAreTriedInOrder3.dev.mapSound) ∧ ((ran (.bootFetchDone (.image ([1, 2] : List (BitVec 8))))
    witBootSourcesAreTriedInOrder3).fld SYS_BOOT.STAGE = (1) + 1 ∧ (ran (.bootFetchDone (.image ([1, 2] : List (BitVec 8))))
    witBootSourcesAreTriedInOrder3).fld SYS_BOOT.SOURCE = (1) ∧ (ran (.bootFetchDone (.image ([1, 2] : List (BitVec 8))))
    witBootSourcesAreTriedInOrder3).boot.sources = ([2] : List Nat)) := by decide +kernel
theorem test_BootSourcesAreTriedInOrder_4 : (witBootSourcesAreTriedInOrder4.dev.sys.powered = true) ∧
    ((witBootSourcesAreTriedInOrder4.dev.fld SYS_BOOT.STAGE = 1 ∨ witBootSourcesAreTriedInOrder4.dev.fld SYS_BOOT.STAGE = 2 ∨
    witBootSourcesAreTriedInOrder4.dev.fld SYS_BOOT.STAGE = 4)) ∧ (witBootSourcesAreTriedInOrder4.dev.boot.sources = []) ∧
    (witBootSourcesAreTriedInOrder4.dev.mapSound) ∧ ((ran (.bootFetchDone .failed) witBootSourcesAreTriedInOrder4).fld SYS_BOOT.STAGE = 0xF) :=
    by decide +kernel
def witBootCodeOperationsAct1 : State := st (fun d => { (d.setFld SYS_BOOT.STAGE 6) with boot := { loaded := true, image := bootImg 1 0x1140 0x1F [] }, sys := { powered := true } })
def witBootCodeOperationsAct2 : State := st (fun d => { (d.setFld SYS_BOOT.STAGE 6) with boot := { loaded := true, image := bootImg 2 0x1140 0x1F [] }, sys := { powered := true } })
def witBootCodeOperationsAct3 : State := st (fun d => { (d.setFld SYS_BOOT.STAGE 6) with boot := { loaded := true, image := bootImg 3 0x1140 0x1F0000001F [] }, sys := { powered := true } })
def witBootCodeOperationsAct4 : State := st (fun d => { (d.setFld SYS_BOOT.STAGE 6) with boot := { loaded := true, image := bootImg 4 0x1140 0x100000001 [] }, sys := { powered := true } })
def witBootCodeOperationsAct5 : State := st (fun d => { (d.setFld SYS_BOOT.STAGE 6) with boot := { loaded := true, image := bootImg 4 0x1140 0x100000000 [], poll := some 5 }, sys := { powered := true } })
def witBootCodeOperationsAct6 : State := st (fun d => { (d.setFld SYS_BOOT.STAGE 6) with boot := { loaded := true, image := bootImg 4 0x1140 1 [], poll := some 2 }, sys := { powered := true }, tb := { eclk := 1 } })
def witBootCodeOperationsAct7 : State := st (fun d => { (d.setFld SYS_BOOT.STAGE 6) with boot := { loaded := true, image := bootImg 5 0 0xFFFF [] }, sys := { powered := true } })
def witBootCodeOperationsAct8 : State := st (fun d => { (d.setFld SYS_BOOT.STAGE 6) with boot := { loaded := true, image := bootImg 5 0 1 [], delay := some 2 }, sys := { powered := true }, tb := { eclk := 1 } })
def witBootCodeOperationsAct9 : State := st (fun d => { (d.setFld SYS_BOOT.STAGE 6) with boot := { loaded := true, image := bootImg 6 0x200 7 [byt 0x200 8 77] }, sys := { powered := true } })
def witBootCodeOperationsAct10 : State := st (fun d => { (d.setFld SYS_BOOT.STAGE 6) with boot := { loaded := true, image := bootImg 7 0x200 0 [byt 0x200 8 77] }, sys := { powered := true } })
def witBootCodeOperationsAct11 : State := st (fun d => { ((d.setFld SYS_BOOT.STAGE 6).setFld HM_EKEY.KEYS 1 23) with boot := { loaded := true, image := bootImg 8 0x200 (0x17 * 2 ^ 32 + 352) [byt 0x200 4 0x494D4B5A, byt 0x204 2 1, byt 0x208 2 1, byt 0x20A 2 1] }, sys := { powered := true } })
def witBootCodeOperationsAct12 : State := st (fun d => { (d.setFld SYS_BOOT.STAGE 6) with boot := { loaded := true, image := bootImg 9 0x200 31 [byt 0x200 2 0x0007, byt 0x261 1 8] }, sys := { powered := true } })
def witBootCodeOperationsAct13 : State := st (fun d => { (d.setFld SYS_BOOT.STAGE 6) with boot := { loaded := true, image := bootImg 10 0 0x301 [], slots := [1] }, sys := { powered := true } })
def witBootCodeOperationsAct14 : State := st (fun d => { (d.setFld SYS_BOOT.STAGE 6) with boot := { loaded := true, image := bootImg 10 0 (0x7F * 65536 + 2) [byt 0xC 4 64] }, sys := { powered := true } })
def witBootCodeOperationsAct15 : State := st (fun d => { (d.setFld SYS_BOOT.STAGE 6) with boot := { loaded := true, image := bootImg 10 0 0x301 [], slots := [3] }, sys := { powered := true } })
def witBootCodeOperationsAct16 : State := st (fun d => { (d.setFld SYS_BOOT.STAGE 6) with boot := { loaded := true, image := bootImg 15 0 0 [], acts := [23] }, sys := { powered := true } })
theorem test_BootCodeOperationsAct_1 : (witBootCodeOperationsAct1.dev.bootAt 1 = true) ∧
    ((regAt witBootCodeOperationsAct1.dev.bootOp.arg).isSome = true) ∧ (served witBootCodeOperationsAct1.dev.bootOp.arg 4 = true) ∧
    (witBootCodeOperationsAct1.dev.mayWrite 0 witBootCodeOperationsAct1.dev.bootOp.arg true = true) ∧ ((ran (.bootWr32)
    witBootCodeOperationsAct1).boot.op = witBootCodeOperationsAct1.dev.boot.op + 1) := by decide +kernel
theorem test_BootCodeOperationsAct_2 : (witBootCodeOperationsAct2.dev.bootAt 2 = true) ∧
    ((regAt witBootCodeOperationsAct2.dev.bootOp.arg).isSome = true) ∧ (served witBootCodeOperationsAct2.dev.bootOp.arg 8 = true) ∧
    (witBootCodeOperationsAct2.dev.mayWrite 0 witBootCodeOperationsAct2.dev.bootOp.arg true = true) ∧ ((ran (.bootWr64)
    witBootCodeOperationsAct2).boot.op = witBootCodeOperationsAct2.dev.boot.op + 1) := by decide +kernel
theorem test_BootCodeOperationsAct_3 : (witBootCodeOperationsAct3.dev.bootAt 3 = true) ∧ ((ran (.bootRmw32)
    witBootCodeOperationsAct3).boot.op = witBootCodeOperationsAct3.dev.boot.op + 1) := by decide +kernel
theorem test_BootCodeOperationsAct_4 : (witBootCodeOperationsAct4.dev.fld SYS_BOOT.STAGE = 6) ∧ (witBootCodeOperationsAct4.dev.bootOp.op = 4) ∧
    (witBootCodeOperationsAct4.dev.boot.poll = none) ∧ ((witBootCodeOperationsAct4.dev.bootRead witBootCodeOperationsAct4.dev.bootOp.arg).1
    &&& cut witBootCodeOperationsAct4.dev.bootOp.val 32 32 ≠ cut witBootCodeOperationsAct4.dev.bootOp.val 0 32) ∧ ((ran (.bootPoll32)
    witBootCodeOperationsAct4).boot.poll = some 10000000) := by decide +kernel
theorem test_BootCodeOperationsAct_5 : (witBootCodeOperationsAct5.dev.fld SYS_BOOT.STAGE = 6) ∧ (witBootCodeOperationsAct5.dev.bootOp.op = 4) ∧
    ((witBootCodeOperationsAct5.dev.bootRead witBootCodeOperationsAct5.dev.bootOp.arg).1
    &&& cut witBootCodeOperationsAct5.dev.bootOp.val 32 32 = cut witBootCodeOperationsAct5.dev.bootOp.val 0 32) ∧
    (16 * (witBootCodeOperationsAct5.dev.boot.op + 1) < bootCodeLen witBootCodeOperationsAct5.dev.boot.image) ∧
    (bootOpBad witBootCodeOperationsAct5.dev.boot.image (bootOpAt witBootCodeOperationsAct5.dev.boot.image (witBootCodeOperationsAct5.dev.boot.op
    + 1)) = false) ∧ ((ran (.bootPoll32) witBootCodeOperationsAct5).boot.op = witBootCodeOperationsAct5.dev.boot.op + 1 ∧ (ran (.bootPoll32)
    witBootCodeOperationsAct5).fld SYS_BOOT.STAGE = 6 ∧ (ran (.bootPoll32)
    witBootCodeOperationsAct5).boot.image = witBootCodeOperationsAct5.dev.boot.image ∧ (ran (.bootPoll32)
    witBootCodeOperationsAct5).boot.poll = none) := by decide +kernel
theorem test_BootCodeOperationsAct_6 : (witBootCodeOperationsAct6.dev.boot.poll = some (2)) ∧
    (witBootCodeOperationsAct6.dev.fld SYS_BOOT.STAGE = 6) ∧ ((2) ≤ 2 * witBootCodeOperationsAct6.dev.tb.eclk) ∧
    (witBootCodeOperationsAct6.dev.mapSound) ∧ ((ran (.bootPollTimeout) witBootCodeOperationsAct6).fld SYS_BOOT.LAST_ERR = 0x0A ∧
    (ran (.bootPollTimeout) witBootCodeOperationsAct6).fld SYS_BOOT.ERR_OP = witBootCodeOperationsAct6.dev.boot.op % 2 ^ SYS_BOOT.ERR_OP.len ∧
    (ran (.bootPollTimeout) witBootCodeOperationsAct6).fld SYS_RSTCAUSE.CAUSE = 4) := by decide +kernel
theorem test_BootCodeOperationsAct_7 : (witBootCodeOperationsAct7.dev.bootAt 5 = true) ∧ ((ran (.bootDelay) witBootCodeOperationsAct7)
    = { witBootCodeOperationsAct7.dev with boot := { witBootCodeOperationsAct7.dev.boot with delay := some (2 * witBootCodeOperationsAct7.dev.tb.eclk + 1000 * witBootCodeOperationsAct7.dev.bootOp.val) } })
    := by decide +kernel
theorem test_BootCodeOperationsAct_8 : (witBootCodeOperationsAct8.dev.boot.delay = some (2)) ∧
    (witBootCodeOperationsAct8.dev.fld SYS_BOOT.STAGE = 6) ∧ ((2) ≤ 2 * witBootCodeOperationsAct8.dev.tb.eclk) ∧
    (16 * (witBootCodeOperationsAct8.dev.boot.op + 1) < bootCodeLen witBootCodeOperationsAct8.dev.boot.image) ∧
    (bootOpBad witBootCodeOperationsAct8.dev.boot.image (bootOpAt witBootCodeOperationsAct8.dev.boot.image (witBootCodeOperationsAct8.dev.boot.op
    + 1)) = false) ∧ ((ran (.bootDelayEnd) witBootCodeOperationsAct8).boot.op = witBootCodeOperationsAct8.dev.boot.op + 1 ∧ (ran (.bootDelayEnd)
    witBootCodeOperationsAct8).fld SYS_BOOT.STAGE = 6 ∧ (ran (.bootDelayEnd)
    witBootCodeOperationsAct8).boot.image = witBootCodeOperationsAct8.dev.boot.image ∧ (ran (.bootDelayEnd)
    witBootCodeOperationsAct8).boot.delay = none) := by decide +kernel
theorem test_BootCodeOperationsAct_9 : (witBootCodeOperationsAct9.dev.bootAt 6 = true) ∧ (witBootCodeOperationsAct9.dev.bootOp.val < 8) ∧
    (16 * (witBootCodeOperationsAct9.dev.boot.op + 1) < bootCodeLen witBootCodeOperationsAct9.dev.boot.image) ∧
    (bootOpBad witBootCodeOperationsAct9.dev.boot.image (bootOpAt witBootCodeOperationsAct9.dev.boot.image (witBootCodeOperationsAct9.dev.boot.op
    + 1)) = false) ∧ ((ran (.hmkey) witBootCodeOperationsAct9).boot.op = witBootCodeOperationsAct9.dev.boot.op + 1 ∧ (ran (.hmkey)
    witBootCodeOperationsAct9).fld SYS_BOOT.STAGE = 6 ∧ (ran (.hmkey)
    witBootCodeOperationsAct9).boot.image = witBootCodeOperationsAct9.dev.boot.image ∧ (ran (.hmkey)
    witBootCodeOperationsAct9).fld HM_KEY.KEY witBootCodeOperationsAct9.dev.bootOp.val
    = field witBootCodeOperationsAct9.dev.boot.image witBootCodeOperationsAct9.dev.bootOp.arg 64 % 2 ^ 512 ∧ (ran (.hmkey)
    witBootCodeOperationsAct9).fbit HM_STATUS.KEYS_SET 0 witBootCodeOperationsAct9.dev.bootOp.val = true) := by decide +kernel
theorem test_BootCodeOperationsAct_10 : (witBootCodeOperationsAct10.dev.bootAt 7 = true) ∧ (16 * (witBootCodeOperationsAct10.dev.boot.op + 1)
    < bootCodeLen witBootCodeOperationsAct10.dev.boot.image) ∧ (bootOpBad witBootCodeOperationsAct10.dev.boot.image (bootOpAt
    witBootCodeOperationsAct10.dev.boot.image (witBootCodeOperationsAct10.dev.boot.op + 1)) = false) ∧ ((ran (.logkey)
    witBootCodeOperationsAct10).boot.op = witBootCodeOperationsAct10.dev.boot.op + 1 ∧ (ran (.logkey)
    witBootCodeOperationsAct10).fld SYS_BOOT.STAGE = 6 ∧ (ran (.logkey)
    witBootCodeOperationsAct10).boot.image = witBootCodeOperationsAct10.dev.boot.image ∧ (ran (.logkey)
    witBootCodeOperationsAct10).boot.logKey = BitVec.ofNat 256 (field
    witBootCodeOperationsAct10.dev.boot.image witBootCodeOperationsAct10.dev.bootOp.arg 32) ∧ (ran (.logkey)
    witBootCodeOperationsAct10).fld HM_STATUS.LOGKEY_SET = 1) := by decide +kernel
theorem test_BootCodeOperationsAct_11 : (witBootCodeOperationsAct11.dev.bootAt 8 = true) ∧ (16 * (witBootCodeOperationsAct11.dev.boot.op + 1)
    < bootCodeLen witBootCodeOperationsAct11.dev.boot.image) ∧ (bootOpBad witBootCodeOperationsAct11.dev.boot.image (bootOpAt
    witBootCodeOperationsAct11.dev.boot.image (witBootCodeOperationsAct11.dev.boot.op + 1)) = false) ∧
    ((cut witBootCodeOperationsAct11.dev.bootOp.val 32 5) < 24) ∧ ((cut witBootCodeOperationsAct11.dev.bootOp.val 0 32) ≤ 90432) ∧
    (headerBad ((witBootCodeOperationsAct11.dev.boot.image.drop witBootCodeOperationsAct11.dev.bootOp.arg).take
    (cut witBootCodeOperationsAct11.dev.bootOp.val 0 32)) (cut witBootCodeOperationsAct11.dev.bootOp.val 0 32) = false) ∧
    (witBootCodeOperationsAct11.dev.fbit HM_EKEY.KEYS (cut witBootCodeOperationsAct11.dev.bootOp.val 32 5)
    (imgKey ((witBootCodeOperationsAct11.dev.boot.image.drop witBootCodeOperationsAct11.dev.bootOp.arg).take
    (cut witBootCodeOperationsAct11.dev.bootOp.val 0 32))) = true) ∧ (microBytesBad ((witBootCodeOperationsAct11.dev.boot.image.drop
    witBootCodeOperationsAct11.dev.bootOp.arg).take (cut witBootCodeOperationsAct11.dev.bootOp.val 0 32)) = false) ∧
    (witBootCodeOperationsAct11.dev.mapSound) ∧ (True) := by decide +kernel
theorem test_BootCodeOperationsAct_12 : (witBootCodeOperationsAct12.dev.bootAt 9 = true) ∧ (16 * (witBootCodeOperationsAct12.dev.boot.op + 1)
    < bootCodeLen witBootCodeOperationsAct12.dev.boot.image) ∧ (bootOpBad witBootCodeOperationsAct12.dev.boot.image (bootOpAt
    witBootCodeOperationsAct12.dev.boot.image (witBootCodeOperationsAct12.dev.boot.op + 1)) = false) ∧
    (blockBad (BitVec.ofNat 1024 (field witBootCodeOperationsAct12.dev.boot.image witBootCodeOperationsAct12.dev.bootOp.arg 128)) = false) ∧
    ((ran (.pnProg) witBootCodeOperationsAct12).boot.op = witBootCodeOperationsAct12.dev.boot.op + 1 ∧ (ran (.pnProg)
    witBootCodeOperationsAct12).fld SYS_BOOT.STAGE = 6 ∧ (ran (.pnProg)
    witBootCodeOperationsAct12).boot.image = witBootCodeOperationsAct12.dev.boot.image ∧ get 0 (ran (.pnProg)
    witBootCodeOperationsAct12).boot.progs witBootCodeOperationsAct12.dev.bootOp.val
    = (BitVec.ofNat 1024 (field witBootCodeOperationsAct12.dev.boot.image witBootCodeOperationsAct12.dev.bootOp.arg 128))) := by decide +kernel
theorem test_BootCodeOperationsAct_13 : (witBootCodeOperationsAct13.dev.bootAt 0xA = true) ∧ (16 * (witBootCodeOperationsAct13.dev.boot.op + 1)
    < bootCodeLen witBootCodeOperationsAct13.dev.boot.image) ∧ (bootOpBad witBootCodeOperationsAct13.dev.boot.image (bootOpAt
    witBootCodeOperationsAct13.dev.boot.image (witBootCodeOperationsAct13.dev.boot.op + 1)) = false) ∧
    (cut witBootCodeOperationsAct13.dev.bootOp.val 0 8 = 1) ∧
    (witBootCodeOperationsAct13.dev.boot.slots.contains (cut witBootCodeOperationsAct13.dev.bootOp.val 8 2) = false) ∧ ((ran (.fuse)
    witBootCodeOperationsAct13).boot.op = witBootCodeOperationsAct13.dev.boot.op + 1 ∧ (ran (.fuse)
    witBootCodeOperationsAct13).fld SYS_BOOT.STAGE = 6 ∧ (ran (.fuse)
    witBootCodeOperationsAct13).boot.image = witBootCodeOperationsAct13.dev.boot.image ∧ (ran (.fuse)
    witBootCodeOperationsAct13).fuse = { witBootCodeOperationsAct13.dev.fuse with revoke := witBootCodeOperationsAct13.dev.fuse.revoke ||| BitVec.ofNat 4 (2 ^ cut witBootCodeOperationsAct13.dev.bootOp.val 8 2) })
    := by decide +kernel
theorem test_BootCodeOperationsAct_14 : (witBootCodeOperationsAct14.dev.bootAt 0xA = true) ∧ (16 * (witBootCodeOperationsAct14.dev.boot.op + 1)
    < bootCodeLen witBootCodeOperationsAct14.dev.boot.image) ∧ (bootOpBad witBootCodeOperationsAct14.dev.boot.image (bootOpAt
    witBootCodeOperationsAct14.dev.boot.image (witBootCodeOperationsAct14.dev.boot.op + 1)) = false) ∧
    (cut witBootCodeOperationsAct14.dev.bootOp.val 0 8 ≠ 1) ∧ (min 64 (cut witBootCodeOperationsAct14.dev.bootOp.val 16 7)
    ≤ field witBootCodeOperationsAct14.dev.boot.image 0xC 4) ∧ ((ran (.fuse)
    witBootCodeOperationsAct14).boot.op = witBootCodeOperationsAct14.dev.boot.op + 1 ∧ (ran (.fuse)
    witBootCodeOperationsAct14).fld SYS_BOOT.STAGE = 6 ∧ (ran (.fuse)
    witBootCodeOperationsAct14).boot.image = witBootCodeOperationsAct14.dev.boot.image ∧ (ran (.fuse)
    witBootCodeOperationsAct14).fuse = { witBootCodeOperationsAct14.dev.fuse with svn := max witBootCodeOperationsAct14.dev.fuse.svn (min 64 (cut witBootCodeOperationsAct14.dev.bootOp.val 16 7)) })
    := by decide +kernel
theorem test_BootCodeOperationsAct_15 : (witBootCodeOperationsAct15.dev.bootAt 0xA = true) ∧
    (cut witBootCodeOperationsAct15.dev.bootOp.val 0 8 = 1) ∧
    (witBootCodeOperationsAct15.dev.boot.slots.contains (cut witBootCodeOperationsAct15.dev.bootOp.val 8 2) = true) ∧
    (witBootCodeOperationsAct15.dev.mapSound) ∧ ((ran (.fuse) witBootCodeOperationsAct15).fld SYS_BOOT.LAST_ERR = 0x0E ∧ (ran (.fuse)
    witBootCodeOperationsAct15).fld SYS_BOOT.ERR_OP = witBootCodeOperationsAct15.dev.boot.op % 2 ^ SYS_BOOT.ERR_OP.len ∧ (ran (.fuse)
    witBootCodeOperationsAct15).fld SYS_RSTCAUSE.CAUSE = 4 ∧ (ran (.fuse) witBootCodeOperationsAct15).fuse = witBootCodeOperationsAct15.dev.fuse)
    := by decide +kernel
theorem test_BootCodeOperationsAct_16 : (witBootCodeOperationsAct16.dev.bootAt 0xF = true) ∧ (True) := by decide +kernel
def witAx0CountsEachPeriod4 : State := st (fun d => { d.setFld AX0_SLEW.SLEW_PPM 1 with tb := { a0 := { rem := -281474977 }, a1 := { rem := -281474977 }, a2 := { rem := -281474977 } } })
theorem test_Ax0CountsEachPeriod_1 : State.reset.dev.tb.a1 ∈ [State.reset.dev.tb.a0, State.reset.dev.tb.a1, State.reset.dev.tb.a2] ∧
    (({ State.reset.dev with tb := { a0 := { rem := -5, rate := 7 } } }
    : Dev).setFld AX0_SLEW.SLEW_PPM 1).tclk.tb.a0 = { rem := 0, rate := 7, val := 281474976710658 } := by decide +kernel
theorem test_Ax0CountsEachPeriod_2 : State.reset.dev.fld AX0_REPAIR.RETIRED = 0 := by decide +kernel
theorem test_Ax0CountsEachPeriod_3 : ({ State.reset.dev with tb := { a0 := { val := 5 }, a1 := { val := 6 }, a2 := { val := 12 } } }
    : Dev).ax0 = 4 := by decide +kernel
theorem test_Ax0CountsEachPeriod_4 : (witAx0CountsEachPeriod4.dev.tb.a0.rem ≠ 0) ∧
    (witAx0CountsEachPeriod4.dev.tb.a1.rem = witAx0CountsEachPeriod4.dev.tb.a0.rem) ∧
    (witAx0CountsEachPeriod4.dev.tb.a2.rem = witAx0CountsEachPeriod4.dev.tb.a0.rem) ∧
    (witAx0CountsEachPeriod4.dev.tb.a0.rem.natAbs ≤ witAx0CountsEachPeriod4.dev.fld AX0_SLEW.SLEW_PPM * 281474977) ∧ ((ran (.slewComplete)
    witAx0CountsEachPeriod4) = witAx0CountsEachPeriod4.dev.tclk ∧ (ran (.slewComplete) witAx0CountsEachPeriod4).tb.a0.rem = 0 ∧
    (ran (.slewComplete) witAx0CountsEachPeriod4).tb.a1.rem = 0 ∧ (ran (.slewComplete) witAx0CountsEachPeriod4).tb.a2.rem = 0) :=
    by decide +kernel
def witStepTimeNeedsItsMode1 : State := st (fun d => (ready d).setFld SYS_MODE.MODE 2)
def witStepTimeNeedsItsMode2 : State := st (fun d => (ready d).setFld SYS_MODE.MODE 1)
def witStepTimeNeedsItsMode3 : State := st (fun d => (ready d).setFld SYS_MODE.MODE 2)
def witStepTimeNeedsItsMode4 : State := st (fun d => { d with lg := { writing := some { item := { cls := 1, ltype := 3, units := 1, img := 0, act := .step { cmd := { w := 7 }, value := 65536, rel := false, unc := 1, force := true, old := 0, new := 281474976710656 } }, seq := 9, units := [5] } } })
theorem test_StepTimeNeedsItsMode_1 : (witStepTimeNeedsItsMode1.dev.takes (0) 0x07 none ((BitVec.ofNat 512 (1000 * 2 ^ 64) : Entry)) = true) ∧
    (((BitVec.ofNat 512 (1000 * 2 ^ 64) : Entry)).getLsbD 8 = false) ∧ (witStepTimeNeedsItsMode1.dev.fld SYS_MODE.MODE ≠ 1) ∧
    (witStepTimeNeedsItsMode1.dev.reports (0) ((BitVec.ofNat 512 (1000 * 2 ^ 64) : Entry)) = true) ∧ ((ran (.stepTime (0)
    ((BitVec.ofNat 512 (1000 * 2 ^ 64) : Entry))) witStepTimeNeedsItsMode1).tb = witStepTimeNeedsItsMode1.dev.tb ∧ (ran (.stepTime (0)
    ((BitVec.ofNat 512 (1000 * 2 ^ 64) : Entry))) witStepTimeNeedsItsMode1).lg.steps = witStepTimeNeedsItsMode1.dev.lg.steps ∧ (ran (.stepTime (0)
    ((BitVec.ofNat 512 (1000 * 2 ^ 64) : Entry))) witStepTimeNeedsItsMode1).lg.queue = witStepTimeNeedsItsMode1.dev.lg.queue ∧
    witStepTimeNeedsItsMode1.dev.completedIn (ran (.stepTime (0) ((BitVec.ofNat 512 (1000 * 2 ^ 64) : Entry))) witStepTimeNeedsItsMode1)
    (witStepTimeNeedsItsMode1.dev.cmdFor (0) 0x07 none ((BitVec.ofNat 512 (1000 * 2 ^ 64) : Entry))) 0x0A (witStepTimeNeedsItsMode1.dev.cmdFor (0)
    0x07 none ((BitVec.ofNat 512 (1000 * 2 ^ 64) : Entry))).rgen ([])) := by decide +kernel
theorem test_StepTimeNeedsItsMode_2 : (witStepTimeNeedsItsMode2.dev.takes (0) 0x07 none ((BitVec.ofNat 512 (1000 * 2 ^ 64) : Entry)) = true) ∧
    (((BitVec.ofNat 512 (1000 * 2 ^ 64) : Entry)).getLsbD 8 = false) ∧ (witStepTimeNeedsItsMode2.dev.fld SYS_MODE.MODE = 1) ∧
    (witStepTimeNeedsItsMode2.dev.fld SYS_MODE.STEPPED = 0) ∧ (witStepTimeNeedsItsMode2.dev.lg.steps = []) ∧
    (witStepTimeNeedsItsMode2.dev.armedOnTime = false) ∧ ((ran (.stepTime (0) ((BitVec.ofNat 512 (1000 * 2 ^ 64) : Entry)))
    witStepTimeNeedsItsMode2).tb = witStepTimeNeedsItsMode2.dev.tb ∧ (ran (.stepTime (0) ((BitVec.ofNat 512 (1000 * 2 ^ 64) : Entry)))
    witStepTimeNeedsItsMode2).lg.steps.map (·.cmd)
    = [(witStepTimeNeedsItsMode2.dev.cmdFor (0) 0x07 none ((BitVec.ofNat 512 (1000 * 2 ^ 64) : Entry)))]) := by decide +kernel
theorem test_StepTimeNeedsItsMode_3 : (witStepTimeNeedsItsMode3.dev.takes (0) 0x07 none ((BitVec.ofNat 512 (1 * 2 ^ 8 + 1000 * 2 ^ 64) : Entry))
    = true) ∧ (((BitVec.ofNat 512 (1 * 2 ^ 8 + 1000 * 2 ^ 64) : Entry)).getLsbD 8 = true) ∧ ((witStepTimeNeedsItsMode3.dev.fld SYS_MODE.MODE = 1 ∨
    witStepTimeNeedsItsMode3.dev.fld SYS_MODE.MODE = 2)) ∧ (witStepTimeNeedsItsMode3.dev.lg.steps = []) ∧
    (witStepTimeNeedsItsMode3.dev.lgFailed = false) ∧ (witStepTimeNeedsItsMode3.dev.lg.queued + 64 ≤ 32768) ∧ ((ran (.stepTime (0)
    ((BitVec.ofNat 512 (1 * 2 ^ 8 + 1000 * 2 ^ 64) : Entry))) witStepTimeNeedsItsMode3).tb = witStepTimeNeedsItsMode3.dev.tb ∧ (ran (.stepTime (0)
    ((BitVec.ofNat 512 (1 * 2 ^ 8 + 1000 * 2 ^ 64) : Entry))) witStepTimeNeedsItsMode3).lg.steps.map (·.cmd)
    = [(witStepTimeNeedsItsMode3.dev.cmdFor (0) 0x07 none ((BitVec.ofNat 512 (1 * 2 ^ 8 + 1000 * 2 ^ 64) : Entry)))] ∧ (ran (.stepTime (0)
    ((BitVec.ofNat 512 (1 * 2 ^ 8 + 1000 * 2 ^ 64) : Entry))) witStepTimeNeedsItsMode3).lg.queue.dropLast = witStepTimeNeedsItsMode3.dev.lg.queue
    ∧ (ran (.stepTime (0) ((BitVec.ofNat 512 (1 * 2 ^ 8 + 1000 * 2 ^ 64) : Entry))) witStepTimeNeedsItsMode3).lg.queue.getLast?.map (·.ltype)
    = some 3) := by decide +kernel
theorem test_StepTimeNeedsItsMode_4 : (witStepTimeNeedsItsMode4.dev.lg.writing
    = some ({ item := { cls := 1, ltype := 3, units := 1, img := 0, act := .step { cmd := { w := 7 }, value := 65536, rel := false, unc := 1, force := true, old := 0, new := 281474976710656 } }, seq := 9, units := [5] }
    : LogWrite)) ∧
    (({ item := { cls := 1, ltype := 3, units := 1, img := 0, act := .step { cmd := { w := 7 }, value := 65536, rel := false, unc := 1, force := true, old := 0, new := 281474976710656 } }, seq := 9, units := [5] }
    : LogWrite).item.act = .step ({ cmd := { w := 7 }, value := 65536, rel := false, unc := 1, force := true, old := 0, new := 281474976710656 }
    : StepReq)) ∧
    (({ item := { cls := 1, ltype := 3, units := 1, img := 0, act := .step { cmd := { w := 7 }, value := 65536, rel := false, unc := 1, force := true, old := 0, new := 281474976710656 } }, seq := 9, units := [5] }
    : LogWrite).done ≤ witStepTimeNeedsItsMode4.dev.elNs) ∧
    ((∀ a ∈ [(ran (.logRecordDurable) witStepTimeNeedsItsMode4).tb.a0, (ran (.logRecordDurable) witStepTimeNeedsItsMode4).tb.a1, (ran (.logRecordDurable) witStepTimeNeedsItsMode4).tb.a2],
    a.val = BitVec.ofNat 112 ({ cmd := { w := 7 }, value := 65536, rel := false, unc := 1, force := true, old := 0, new := 281474976710656 }
    : StepReq).new ∧ a.rem = 0) ∧ (ran (.logRecordDurable) witStepTimeNeedsItsMode4).fld AX0_STATUS.STEP_COUNT = (witStepTimeNeedsItsMode4.dev.fld
    AX0_STATUS.STEP_COUNT + 1) % 256) := by decide +kernel
def witBerthBytesChangeOnlyWhereStored5 : State := st (fun d => { (((((ready d).setFld ME_STATUS.RUNNING 1).setFld BH_OWNER.CUR_KIND 0 1).setFld BH_OWNER.CUR_INDEX 0 1).setFld HM_ENG.BERTH 2) with boot := { loaded := true }, me := [(0, { gpr := [(1, 0x10000), (2, 0x1234)], micro := [0, 0x12000000], nano := [0x20a0000000000000000], frames := [{ pc := 1 }] })] })
theorem test_BerthBytesChangeOnlyWhereStored_1 : (({ State.reset.dev with mem := [(5, 1)] } : Dev).portWrite true 4 [0, 0]).2.mem = [] :=
    by decide +kernel
theorem test_BerthBytesChangeOnlyWhereStored_2 : ltTarget 0x4000000000010008 = .berth 0x10008 := by decide +kernel
theorem test_BerthBytesChangeOnlyWhereStored_3 : ltTarget 0x1000 = .host 0x1000 := by decide +kernel
theorem test_BerthBytesChangeOnlyWhereStored_4 : ({ w := BitVec.ofNat 512 (4 + 2 ^ 128 + 2 ^ 70) } : Cmd).berthBody.map (·.1) = some 64 ∧
    (State.reset.dev.setFld BH_OWNER.CUR_KIND 2 0).onP1 0 2 0 = false := by decide +kernel
theorem test_BerthBytesChangeOnlyWhereStored_5 : (witBerthBytesChangeOnlyWhereStored5.dev.meCanIssue (0) = true) ∧
    (witBerthBytesChangeOnlyWhereStored5.dev.flag ME_STATUS.WAITING (0) = false) ∧
    ((witBerthBytesChangeOnlyWhereStored5.dev.eng (0)).bpWait = none) ∧
    ((witBerthBytesChangeOnlyWhereStored5.dev.eng (0)).micro[(witBerthBytesChangeOnlyWhereStored5.dev.eng (0)).top.pc]?
    = some ((0x12000000 : BitVec 48))) ∧ ((witBerthBytesChangeOnlyWhereStored5.dev.eng (0)).nano[uNano ((0x12000000 : BitVec 48))]?
    = some ((0x20a0000000000000000 : BitVec 192))) ∧ (nIllegal ((0x20a0000000000000000 : BitVec 192)) = false) ∧
    ((witBerthBytesChangeOnlyWhereStored5.dev.eng (0)).runBroken ((0x20a0000000000000000 : BitVec 192)) = false) ∧
    (¬ (uSeq ((0x12000000 : BitVec 48)) = 2 ∧ (witBerthBytesChangeOnlyWhereStored5.dev.meCond (0) (uCond ((0x12000000 : BitVec 48)))) = false)) ∧
    (nChannel ((0x20a0000000000000000 : BitVec 192)) = false) ∧ ((nBp ((0x20a0000000000000000 : BitVec 192)) = 2 ∨
    nBp ((0x20a0000000000000000 : BitVec 192)) = 4)) ∧ (witBerthBytesChangeOnlyWhereStored5.dev.meCause (0) ((0x12000000 : BitVec 48))
    ((0x20a0000000000000000 : BitVec 192)) (witBerthBytesChangeOnlyWhereStored5.dev.meCond (0) (uCond ((0x12000000 : BitVec 48)))) = 0) ∧
    (witBerthBytesChangeOnlyWhereStored5.dev.berthMeets (0) ((0x12000000 : BitVec 48)) ((0x20a0000000000000000 : BitVec 192)) = .served) ∧
    ((witBerthBytesChangeOnlyWhereStored5.dev.meNext (witBerthBytesChangeOnlyWhereStored5.dev.eng (0)) ((0x12000000 : BitVec 48))
    ((0x20a0000000000000000 : BitVec 192)) (witBerthBytesChangeOnlyWhereStored5.dev.meCond (0) (uCond ((0x12000000 : BitVec 48)))))
    = .ok ({ pc := 9, stack := [] } : MeSeq)) ∧ ((ran (.meWord (0) {}) witBerthBytesChangeOnlyWhereStored5).peek 0x10000 = 0x34 ∧
    (ran (.meWord (0) {}) witBerthBytesChangeOnlyWhereStored5).peek 0x10001 = 0x12) := by decide +kernel
theorem test_BerthMemoryStaysCanonical_1 : Memory.wf ({ State.reset.dev with mem := [(0, 1), (65536, 255)] } : Dev).mem = true :=
    by decide +kernel
theorem test_FusesStayBlown_1 : (st (fun d => { d with fuse := { revoke := 5, svn := 7 } })).dev.fuse.revoke.getLsbD 2 = true ∧
    State.reset.pending.head? ≠ some .fuse := by decide +kernel
theorem test_RepairMapStaysSound_1 : (st (fun d => { d with sys := { powered := true, map := [(QY_STATUS.ROLE.key 3 0, 3)] } })).dev.mapSound :=
    by decide +kernel

end Sys2Proof.Tests
end

section
/-! PROOFS. Reading the part after an operation of which `Only` says what it changes: fields, AX0 and records. -/

namespace Sys2Proof.Machine

open Sys2Proof

variable {S : List Part} {d e : Dev}

/-- A field of a block of registers that is kept reads the same. -/
theorem Only.fld (h : Only S d e) (f : Fld) (i j : Nat) (hf : Part.regs f.blk ∉ S) : e.fld f i j = d.fld f i j :=
  h (.regs f.blk) hf _ (blkOf_key f i j) _

theorem Only.tb (h : Only S d e) (ht : Part.tb ∉ S) : e.tb = d.tb := h .tb ht

theorem Only.lg (h : Only S d e) (hl : Part.lg ∉ S) : e.lg = d.lg := h .lg hl

/-- AX0 is a reading of the accumulators and of AX0_REPAIR.RETIRED. -/
theorem Only.ax0 (h : Only S d e) (ht : Part.tb ∉ S) (ha : Part.regs .ax ∉ S) : e.ax0 = d.ax0 := by
  unfold Dev.ax0
  rw [h.tb ht, h.fld AX0_REPAIR.RETIRED 0 0 (by rwa [blk_AX0_REPAIR_RETIRED])]

theorem Only.ns (h : Only S d e) (ht : Part.tb ∉ S) (ha : Part.regs .ax ∉ S) : e.ns = d.ns := by
  unfold Dev.ns
  rw [h.ax0 ht ha]

/-- Of the part, a COMPLETION record tells its DID only. -/
theorem Only.completionRec (h : Only S d e) (hc : Part.regs .cw ∉ S) (c : Cmd) (status gen time : Nat) (b : List (Nat × Nat × Nat)) :
    e.completionRec c status gen time b = d.completionRec c status gen time b := by
  have hdid : e.did = d.did := h.fld CW_ID.DID 0 0 hc
  simp only [Dev.completionRec, Dev.recAt, hdid]

end Sys2Proof.Machine
end

section
/-! PROOFS. A command that a ring takes: its entry, the part in which it runs, and its COMPLETION (09 R312, R316, R318, R322). -/

namespace Sys2Proof.Machine

open Sys2Proof

/-- An entry that is not torn and passes the general checks runs in the part that has begun it. -/
theorem acceptEntry_of_check {d : Dev} {m : Nat} {f : Fetched} (ht : f.torn = false)
    (h : (d.begun m (d.cmdOf m f)).cmdCheck (d.cmdOf m f) = 0) :
    d.acceptEntry m f = (d.begun m (d.cmdOf m f)).runCmd (d.cmdOf m f) := by
  obtain ⟨v, g, t⟩ := f
  subst ht
  unfold Dev.begun at h ⊢
  unfold Dev.acceptEntry
  simp only [Bool.false_eq_true, if_false, h]

/-- A command that its ring takes runs at once in the part that has begun it. -/
theorem entry_of_takes {d : Dev} {m op : Nat} {opt : Option Bool} {w : Entry} (h : d.takes m op opt w = true) :
    d.entry m w op opt = (d.begun m (d.cmdFor m op opt w)).runCmd (d.cmdFor m op opt w) := by
  simp only [Dev.takes, Bool.and_eq_true, decide_eq_true_eq, beq_iff_eq] at h
  obtain ⟨⟨⟨⟨⟨hm, hst⟩, hown⟩, hnone⟩, hturn⟩, hchk⟩ := h
  have hone : ∀ f : Fetched, (d.ring m).fetched ++ [f] = [f] := fun f => by rw [List.isEmpty_iff.1 hnone, List.nil_append]
  unfold Dev.entry
  refine (if_pos ⟨hm, hst, hown⟩).trans ((if_pos ⟨hnone, ?_⟩).trans (acceptEntry_of_check rfl hchk))
  rw [hone]
  exact hturn

theorem cmdFor_op (d : Dev) (m : Nat) {op : Nat} (opt : Option Bool) (w : Entry) (h : op < 256) : (d.cmdFor m op opt w).op = op :=
  entryOf_op op opt w h

/-- A flag in bits 8 to 10 of the entry is the word's. -/
theorem cmdFor_getLsbD (d : Dev) (m op : Nat) (opt : Option Bool) (w : Entry) {k : Nat} (h8 : 8 ≤ k) (h11 : k < 11) :
    (d.cmdFor m op opt w).w.getLsbD k = w.getLsbD k := by
  have hbit : ∀ v : Entry, v.getLsbD k = (bits v k 1 == 1) := fun v => by
    rw [BitVec.getLsbD, Nat.testBit_eq_decide_div_mod_eq, bits, cut, Nat.shiftRight_eq_div_pow, Nat.pow_one]
    rfl
  rw [hbit, hbit w, ← entryOf_bits op opt w k 1 (.inr ⟨h8, h11⟩)]
  rfl

/-! ### The part in which it runs -/

theorem begun_only (d : Dev) (m : Nat) (c : Cmd) : Only [.regs .hi, .hi] d (d.begun m c) :=
  setLong_only _ m (setRing_only _ m _ (only_hi (only_refl _ d) (by simp)) (by simp)) (by simp)

/-- Of the registers, LONG alone changes when a command begins. -/
theorem fld_begun (d : Dev) (m : Nat) (c : Cmd) (f : Fld) (i j : Nat) (h : f.pos % 2 ^ 32 ≠ CQ_STAT.LONG.pos % 2 ^ 32) :
    (d.begun m c).fld f i j = d.fld f i j :=
  Laws.fld_setFld_field _ _ _ _ _ _ _ _ h

/-! ### Its COMPLETION -/

/-- The host queue that takes the COMPLETIONs of a command's ring. -/
def Dev.cmdQueue (d : Dev) (c : Cmd) : Nat := d.fld CQ_CFG.CQ_HQ c.ring

/-- The part with a unit behind those that wait for the write engine of queue q. -/
def Dev.enqueue (d : Dev) (q : Nat) (u : RecUnit) : Dev := d.setHq q { d.hq q with gen := (d.hq q).gen ++ [u] }

theorem enqueue_gen (d : Dev) (q : Nat) (u : RecUnit) : ((d.enqueue q u).hq q).gen = (d.hq q).gen ++ [u] :=
  congrArg HQueue.gen (Laws.get_set_same _ _ _ _)

/-- The COMPLETION of `c`, with this status, becomes a record of its ring's queue at once: `Dev.reports`, said of a command that runs. -/
def Dev.reportsCmd (d : Dev) (c : Cmd) (status : Nat) : Prop :=
  ¬ (status = 0 ∧ c.w.getLsbD 10 = true) ∧
    (d.fld HQ_STAT.QSTATE (d.cmdQueue c) = 1 ∨ d.fld HQ_STAT.QSTATE (d.cmdQueue c) = 3) ∧ d.failWaits = false

theorem reportsCmd_begun {d : Dev} {m op : Nat} {opt : Option Bool} {w : Entry} (h : d.reports m w = true) (status : Nat) :
    (d.begun m (d.cmdFor m op opt w)).reportsCmd (d.cmdFor m op opt w) status := by
  simp only [Dev.reports, Bool.and_eq_true, Bool.or_eq_true, Bool.not_eq_true', beq_iff_eq] at h
  obtain ⟨⟨hquiet, hq⟩, hwait⟩ := h
  refine ⟨fun hs => ?_, ?_, hwait⟩
  · rw [cmdFor_getLsbD d m op opt w (by omega) (by omega), hquiet] at hs
    exact absurd hs.2 (by decide)
  · unfold Dev.cmdQueue
    rw [fld_begun _ _ _ _ _ _ (by decide), fld_begun _ _ _ _ _ _ (by decide)]
    exact hq

/-- A COMPLETION that the part owes is the same once a command has begun. -/
theorem completedIn_of_begun {d e : Dev} {m : Nat} {c c' : Cmd} {status gen : Nat} {b : List (Nat × Nat × Nat)}
    (h : (d.begun m c').completedIn e c status gen b) : d.completedIn e c status gen b := by
  have hb := begun_only d m c'
  unfold Dev.completedIn at h ⊢
  rw [hb.completionRec (by simp), hb.ns (by simp) (by simp), fld_begun _ _ _ _ _ _ (by decide)] at h
  exact h

/-- A queue that is ACTIVE or HELD takes a unit; an owner that sleeps is woken. -/
theorem generate_open {d : Dev} {q : Nat} (h : d.fld HQ_STAT.QSTATE q = 1 ∨ d.fld HQ_STAT.QSTATE q = 3) (u : RecUnit) :
    Only [.hi] (d.enqueue q u) (d.generate q u) := by
  unfold Dev.generate
  simp only [if_pos h]
  split
  · exact wake_only _ _ (only_refl _ _) (by simp)
  · exact only_refl _ _

/-- The part once a command has left its ring's running commands (09 R313, R319). -/
def Dev.ended (d : Dev) (c : Cmd) : Dev :=
  (d.setRing c.ring { d.ring c.ring with
    running := (d.ring c.ring).running.filter (fun x => x.uid ≠ c.uid), fenced := min ((d.ring c.ring).fenced + 1) 0xFFFF }).setLong c.ring

theorem finish_eq (d : Dev) (c : Cmd) (status : Nat) (b : List (Nat × Nat × Nat)) :
    d.finish c status b = ((d.ended c).report c status c.rgen d.ns b).ringDrained c.ring := rfl

theorem ended_only {S : List Part} {e : Dev} (d : Dev) (c : Cmd) (h : Only S e d) (hr : Part.regs .hi ∈ S) (hi : Part.hi ∈ S) :
    Only S e (d.ended c) :=
  setLong_only _ c.ring (setRing_only _ c.ring _ h hi) hr

theorem fld_ended (d : Dev) (c : Cmd) (f : Fld) (i j : Nat) (h : f.pos % 2 ^ 32 ≠ CQ_STAT.LONG.pos % 2 ^ 32) :
    (d.ended c).fld f i j = d.fld f i j :=
  Laws.fld_setFld_field _ _ _ _ _ _ _ _ h

theorem reportsCmd_ended {d : Dev} {c : Cmd} {status : Nat} (h : d.reportsCmd c status) : (d.ended c).reportsCmd c status := by
  obtain ⟨hstat, hq, hwait⟩ := h
  refine ⟨hstat, ?_, hwait⟩
  unfold Dev.cmdQueue
  rw [fld_ended _ _ _ _ _ (by decide), fld_ended _ _ _ _ _ (by decide)]
  exact hq

/-- A COMPLETION that becomes a record at once is generated for the ring's queue (09 R322). -/
theorem report_eq_generate {d : Dev} {c : Cmd} {status : Nat} (h : d.reportsCmd c status) (gen time : Nat) (b : List (Nat × Nat × Nat)) :
    d.report c status gen time b =
      d.generate (d.cmdQueue c) { recs := [d.completionRec c status gen time b], ring := some c.ring } := by
  obtain ⟨hstat, hq, hwait⟩ := h
  have hopen : ¬ (d.fld HQ_STAT.QSTATE (d.cmdQueue c) = 0 ∨ d.fld HQ_STAT.QSTATE (d.cmdQueue c) = 2) := by omega
  unfold Dev.cmdQueue at hopen ⊢
  simp only [Dev.report, if_neg hstat, hwait, Bool.false_eq_true, if_false, Dev.completed, if_neg hopen]

/-- The end of a command whose COMPLETION becomes a record at once puts that record in the queue, and beside that touches the registers of the
host interface and the link only. -/
theorem finish_reports {d : Dev} {c : Cmd} {status : Nat} (h : d.reportsCmd c status) (b : List (Nat × Nat × Nat)) :
    Only [.regs .hi, .hi] (d.enqueue (d.cmdQueue c) { recs := [d.completionRec c status c.rgen d.ns b], ring := some c.ring })
      (d.finish c status b) := by
  have hend := reportsCmd_ended h
  have hqueue : (d.ended c).cmdQueue c = d.cmdQueue c := fld_ended d c _ _ _ (by decide)
  have hrec := (ended_only d c (only_refl [.regs .hi, .hi] d) (by simp) (by simp)).completionRec (by simp) c status c.rgen d.ns b
  have hgen := generate_open hend.2.1 { recs := [d.completionRec c status c.rgen d.ns b], ring := some c.ring }
  rw [finish_eq, report_eq_generate hend, hrec]
  rw [hqueue] at hgen ⊢
  refine ringDrained_only _ _ (only_trans ?_ fun p hp => hgen p (by simp_all)) (by simp) (by simp)
  exact ended_only (d.enqueue _ _) c (only_refl _ _) (by simp) (by simp)

theorem finish_completedIn {d : Dev} {c : Cmd} {status : Nat} (h : d.reportsCmd c status) (b : List (Nat × Nat × Nat)) :
    d.completedIn (d.finish c status b) c status c.rgen b := by
  have hsl : (d.finish c status b).sl = _ := finish_reports h b .sl (by simp)
  unfold Dev.completedIn
  rw [Dev.hq, hsl]
  exact enqueue_gen d _ _

end Sys2Proof.Machine
end

section
/-! PROOFS. STEP_TIME (01 R19; 02 R43 to R45): when it is accepted, the record that it puts in the log, and the load of AX0 when that record is
durable. -/

namespace Sys2Proof.Machine

open Sys2Proof

/-! ### The STEP record -/

/-- The step in turn with the AX0 values that its record gives (02 R45). -/
def Dev.withValues (d : Dev) (r : StepReq) : StepReq := { r with old := d.ax0, new := d.stepValue r }

/-- The STEP record is one unit of class 1 that loads AX0 when it is durable (14 R475, R481). -/
theorem composeStep_cons {d : Dev} {r : StepReq} {t : List StepReq} (h : d.lg.steps = r :: t) :
    ∃ img, d.composeStep = (d.setLog { d.lg with steps := d.withValues r :: t }).pushRecord
      { cls := 1, ltype := 3, units := 1, img := img, act := .step (d.withValues r) } := by
  unfold Dev.composeStep
  rw [h]
  exact ⟨_, rfl⟩

theorem stepAccept_first {d : Dev} (h : d.lg.steps = []) (r : StepReq) :
    ∃ img, d.stepAccept r = (d.setLog { d.lg with steps := [d.withValues r] }).pushRecord
      { cls := 1, ltype := 3, units := 1, img := img, act := .step (d.withValues r) } := by
  have hone : d.stepAccept r = (d.setLog { d.lg with steps := [r] }).composeStep := by
    unfold Dev.stepAccept
    rw [h]
    rfl
  rw [hone]
  exact composeStep_cons (d := d.setLog { d.lg with steps := [r] }) rfl

/-- A record for which the write queue has room waits behind the others (14 R481). -/
theorem pushRecord_room {d : Dev} {r : LogRec} (hf : d.lgFailed = false) (hq : d.lg.queued + 64 * r.units ≤ 32768) :
    d.pushRecord r = d.setLog { d.lg with queue := d.lg.queue ++ [r] } := by
  unfold Dev.pushRecord
  rw [hf, Bool.false_or, if_neg (by simpa using hq)]

theorem keelStart_steps (d : Dev) : d.keelStart.lg.steps = d.lg.steps := by
  unfold Dev.keelStart
  dsimp only
  split <;> rfl

theorem keelAdd_steps (d : Dev) (kind unit seq body : Nat) : (d.keelAdd kind unit seq body).lg.steps = d.lg.steps :=
  keelStart_steps _

/-- The steps accepted are as before whether the ring or the keel keeps the record (02 R44, 14 R482). -/
theorem pushRecord_steps (d : Dev) (img : Nat) (r : StepReq) :
    (d.pushRecord { cls := 1, ltype := 3, units := 1, img := img, act := .step r }).lg.steps = d.lg.steps := by
  unfold Dev.pushRecord
  split
  · exact keelAdd_steps d 3 0 0 (cut img 0 256)
  · rfl

/-- With none in progress, the step that is accepted is the one in turn. -/
theorem stepAccept_steps {d : Dev} (h : d.lg.steps = []) (r : StepReq) : (d.stepAccept r).lg.steps = [d.withValues r] := by
  obtain ⟨img, hacc⟩ := stepAccept_first h r
  rw [hacc, pushRecord_steps]
  rfl

/-- With none in progress and room in the write queue, the step's record waits there (02 R45). -/
theorem stepAccept_queue {d : Dev} (h : d.lg.steps = []) (hf : d.lgFailed = false) (hq : d.lg.queued + 64 ≤ 32768) (r : StepReq) :
    ∃ q : LogRec, (d.stepAccept r).lg.queue = d.lg.queue ++ [q] ∧ q.act = .step (d.withValues r) ∧ q.ltype = 3 := by
  obtain ⟨img, hacc⟩ := stepAccept_first h r
  refine ⟨{ cls := 1, ltype := 3, units := 1, img := img, act := .step (d.withValues r) }, ?_, rfl, rfl⟩
  rw [hacc, pushRecord_room]
  · rfl
  · exact hf
  · exact hq

/-! ### The command -/

/-- The step that the entry of a STEP_TIME asks for (09 R317). -/
def Cmd.stepReq (c : Cmd) : StepReq :=
  { cmd := c, value := bits c.w 64 64 * 65536 + bits c.w 128 16, rel := c.opt, unc := bits c.w 160 32, force := c.force, old := 0 }

/-- Without FORCE, only STEADY lets a step (02 R43). -/
theorem stepTimeCmd_mode {d : Dev} {c : Cmd} (hf : c.force = false) (hm : d.fld SYS_MODE.MODE ≠ 1) : d.stepTimeCmd c = d.finish c 0x0A :=
  if_pos ⟨hf, beq_eq_false_iff_ne.2 hm⟩

theorem stepTimeCmd_forced {d : Dev} {c : Cmd} (hf : c.force = true) : d.stepTimeCmd c = d.stepAccept c.stepReq := by
  simp [Dev.stepTimeCmd, Cmd.stepReq, hf]

/-- Without FORCE, the first step of a STEADY period is accepted while nothing is armed on a time axis (02 R43, R44). -/
theorem stepTimeCmd_steady {d : Dev} {c : Cmd} (hm : d.fld SYS_MODE.MODE = 1) (hs : d.fld SYS_MODE.STEPPED = 0) (hsteps : d.lg.steps = [])
    (harm : d.armedOnTime = false) : d.stepTimeCmd c = d.stepAccept c.stepReq := by
  have hsteady : d.steady = true := beq_iff_eq.2 hm
  have hflag : d.flag SYS_MODE.STEPPED = false := by rw [Dev.flag, hs]; rfl
  simp [Dev.stepTimeCmd, Cmd.stepReq, hsteady, hflag, hsteps, harm]

theorem armedOnTime_begun (d : Dev) (m : Nat) (c : Cmd) : (d.begun m c).armedOnTime = d.armedOnTime := by
  have htype : ∀ n, (d.begun m c).axType n = d.axType n := fun n => fld_begun d m c AX_CFG.TYPE n 0 (by decide)
  have harm : ∀ n, (d.begun m c).armedOn n = d.armedOn n := fun _ => rfl
  simp only [Dev.armedOnTime, htype, harm]

theorem runCmd_stepTime (d : Dev) {c : Cmd} (h : c.op = 0x07) : d.runCmd c = d.stepTimeCmd c := by
  simp only [Dev.runCmd, h]

/-- A STEP_TIME that its ring takes runs at once. -/
theorem exec_stepTime {s : State} {m : Nat} {w : Entry} (h : s.dev.takes m 0x07 none w = true) {post : Dev → Prop}
    (hpost : ∀ t : Dev, t.tb = s.dev.tb →
      t.lg = ((s.dev.begun m (s.dev.cmdFor m 0x07 none w)).stepTimeCmd (s.dev.cmdFor m 0x07 none w)).lg →
      t.sl = ((s.dev.begun m (s.dev.cmdFor m 0x07 none w)).stepTimeCmd (s.dev.cmdFor m 0x07 none w)).sl → post t) :
    Completes (.stepTime m w) s post := by
  have hrun : stepTimeEff m w s.dev = (s.dev.begun m (s.dev.cmdFor m 0x07 none w)).stepTimeCmd (s.dev.cmdFor m 0x07 none w) := by
    unfold stepTimeEff
    rw [entry_of_takes h, runCmd_stepTime _ (cmdFor_op _ _ _ _ (by decide))]
  have htb : (stepTimeEff m w s.dev).tb = s.dev.tb :=
    Only.tb (stepTime_row_only (S := [.regs .hm, .regs .hi, .regs .sl, .regs .hl, .sl, .hi, .lg]) m w s.dev (only_refl _ _)
      (by simp) (by simp) (by simp) (by simp) (by simp) (by simp) (by simp)) (by simp)
  exact ⟨_, rfl, rfl, hpost _ htb (by rw [← hrun]) (by rw [← hrun])⟩

/-! ### The load of AX0 (02 R45) -/

/-- The accumulators hold a value, 2^-48 ns, and no correction remains. -/
def Timebase.holds (t : Timebase) (v : Nat) : Prop := ∀ a ∈ [t.a0, t.a1, t.a2], a.val = BitVec.ofNat 112 v ∧ a.rem = 0

/-- A step keeps what an accumulator holds; it only begins its watch. -/
theorem stepWatch_val_rem (all : Bool) (now : Nat) (a : Accum) (working : Bool) :
    (stepWatch all now a working).val = a.val ∧ (stepWatch all now a working).rem = a.rem := by
  unfold stepWatch
  split <;> exact ⟨rfl, rfl⟩

/-- The part with the accumulators loaded and the watches begun (02 R45, 13 R449). -/
def Dev.stepLoad (d : Dev) (r : StepReq) : Dev :=
  let load (i : Nat) (a : Accum) : Accum := stepWatch d.tb.lost d.ecNs { a with val := BitVec.ofNat 112 r.new, rem := 0 } (d.accWorks i)
  { d.rebase r.new with tb := { d.tb with a0 := load 0 d.tb.a0, a1 := load 1 d.tb.a1, a2 := load 2 d.tb.a2, lost := false } }

/-- The part with STEP_COUNT counted, AX0 LOCKED and STEPPED set. -/
def Dev.stepCounted (d : Dev) (r : StepReq) : Dev :=
  let d2 := if d.tb.lost then (d.stepLoad r).setFld AX0_REPAIR.REPAIRING 1 else d.stepLoad r
  (((d2.setFld AX0_STATUS.STEP_COUNT ((d.fld AX0_STATUS.STEP_COUNT + 1) % 256)).locked r.unc).setFault SYS_FAULT.AX0_INVALID false).setFld
    SYS_MODE.STEPPED 1

/-- The records of a step leave AX0 and its registers. -/
theorem stepApply_only_reports (d : Dev) (r : StepReq) :
    Only [.regs .hi, .regs .sl, .sl, .hi, .lg] (d.stepCounted r) (d.stepApply r) :=
  finish_only _ _ _ _ (generate_only _ _ _ (only_refl _ _) (by simp) (by simp) (by simp) (by simp)) (by simp) (by simp) (by simp) (by simp) (by simp)

/-- Of the registers, STATE alone changes when AX0 changes its state. -/
theorem setAx0State_fld (d : Dev) (st : Nat) (f : Fld) (i j : Nat) (h : f.pos % 2 ^ 32 ≠ AX0_STATUS.STATE.pos % 2 ^ 32) :
    (d.setAx0State st).fld f i j = d.fld f i j := by
  unfold Dev.setAx0State
  dsimp only
  split
  · rfl
  · exact Laws.fld_setFld_field d AX0_STATUS.STATE f _ _ _ _ _ h

theorem locked_stepCount (d : Dev) (unc : Nat) : (d.locked unc).fld AX0_STATUS.STEP_COUNT = d.fld AX0_STATUS.STEP_COUNT :=
  setAx0State_fld _ _ _ _ _ (by decide)

/-- An accepted request begins the timeout and the uncertainty anew and leaves the accumulators (02 R47, R48). -/
theorem locked_holds {d : Dev} {v : Nat} (unc : Nat) (h : d.tb.holds v) : (d.locked unc).tb.holds v := by
  have htb := (setAx0State_only { d with tb := { d.tb with ref := d.tb.elapsed, uncBase := unc, uncAt := d.tb.elapsed } } 1
    (only_refl [.regs .ax, .sl] _) (by simp) (by simp)).tb (by simp)
  unfold Dev.locked
  rw [htb]
  exact h

theorem stepLoad_holds (d : Dev) (r : StepReq) : (d.stepLoad r).tb.holds r.new := by
  intro a ha
  simp only [Dev.stepLoad, List.mem_cons, List.not_mem_nil, or_false] at ha
  rcases ha with rfl | rfl | rfl <;> exact stepWatch_val_rem _ _ _ _

/-- Beside STEPPED, the fault bit and its record, a counted step is the load with STEP_COUNT put in place and AX0 LOCKED. -/
theorem stepCounted_only (d : Dev) (r : StepReq) : ∃ x : Dev, x.tb = (d.stepLoad r).tb ∧
    Only [.regs .sys, .sl] ((x.setFld AX0_STATUS.STEP_COUNT ((d.fld AX0_STATUS.STEP_COUNT + 1) % 256)).locked r.unc) (d.stepCounted r) := by
  refine ⟨if d.tb.lost then (d.stepLoad r).setFld AX0_REPAIR.REPAIRING 1 else d.stepLoad r, ?_, ?_⟩
  · split <;> rfl
  · exact setFld_only _ _ _ _ _ (setFault_only _ _ _ (only_refl _ _) (by simp) (by decide)) (by decide)

theorem stepCounted_holds (d : Dev) (r : StepReq) : (d.stepCounted r).tb.holds r.new := by
  obtain ⟨x, hx, ho⟩ := stepCounted_only d r
  rw [ho.tb (by simp)]
  refine locked_holds r.unc ?_
  rw [Laws.setFld_tb, hx]
  exact stepLoad_holds d r

theorem stepCounted_stepCount (d : Dev) (r : StepReq) :
    (d.stepCounted r).fld AX0_STATUS.STEP_COUNT = (d.fld AX0_STATUS.STEP_COUNT + 1) % 256 := by
  obtain ⟨x, _, ho⟩ := stepCounted_only d r
  rw [ho.fld _ _ _ (by decide), locked_stepCount, Laws.fld_setFld_same]
  exact Nat.mod_mod _ 256

/-- What a durable STEP record brings about: AX0 has the value that it gives, and STEP_COUNT is one more (02 R45). -/
theorem logAct_step (d : Dev) (r : StepReq) (seq : Option Nat) :
    (d.logAct (.step r) seq).tb.holds r.new ∧
      (d.logAct (.step r) seq).fld AX0_STATUS.STEP_COUNT = (d.fld AX0_STATUS.STEP_COUNT + 1) % 256 := by
  have hnext : Only [.regs .hi, .regs .sl, .regs .hl, .sl, .hi, .lg] (d.stepApply r) (d.logAct (.step r) seq) :=
    composeStep_only _ (setLog_only _ _ (only_refl _ _) (by simp)) (by simp) (by simp) (by simp) (by simp) (by simp) (by simp)
  have hrep := stepApply_only_reports d r
  constructor
  · rw [hnext.tb (by simp), hrep.tb (by simp)]
    exact stepCounted_holds d r
  · rw [hnext.fld _ _ _ (by decide), hrep.fld _ _ _ (by decide)]
    exact stepCounted_stepCount d r

/-- LOG_RECORD_DURABLE marks a record whose last word is verified, and then does what the record brings about (14 R474). -/
theorem logRecordDurableEff_done {d : Dev} {x : LogWrite} (h : d.lg.writing = some x) (hdone : x.done ≤ d.elNs) :
    logRecordDurableEff d = d.recMark.logAct x.item.act (some x.seq) := by
  unfold logRecordDurableEff
  rw [h, if_pos (by simpa using hdone)]
  unfold Dev.recDurable
  rw [h]

/-! ### STEP_TIME and the modes -/

theorem stepTime_outside_steady {s : State} {m : Nat} {w : Entry} (h : s.dev.takes m 0x07 none w = true) (hforce : w.getLsbD 8 = false)
    (hmode : s.dev.fld SYS_MODE.MODE ≠ 1) (hrep : s.dev.reports m w = true) :
    Completes (.stepTime m w) s (fun t => t.tb = s.dev.tb ∧ t.lg.steps = s.dev.lg.steps ∧ t.lg.queue = s.dev.lg.queue ∧
      s.dev.completedIn t (s.dev.cmdFor m 0x07 none w) 0x0A (s.dev.cmdFor m 0x07 none w).rgen []) := by
  refine exec_stepTime h fun t htb hlg hsl => ?_
  generalize hc : s.dev.cmdFor m 0x07 none w = c at *
  have hf : c.force = false := by rw [← hc]; exact (cmdFor_getLsbD _ _ _ _ _ (by omega) (by omega)).trans hforce
  have hrep' : (s.dev.begun m c).reportsCmd c 0x0A := hc ▸ reportsCmd_begun hrep 0x0A
  rw [stepTimeCmd_mode hf (by rwa [fld_begun _ _ _ _ _ _ (by decide)])] at hlg hsl
  have hlog : t.lg = s.dev.lg := hlg.trans ((finish_reports hrep' []).lg (by simp))
  have hdone : s.dev.completedIn _ c 0x0A c.rgen [] := completedIn_of_begun (finish_completedIn hrep' [])
  refine ⟨htb, by rw [hlog], by rw [hlog], ?_⟩
  unfold Dev.completedIn Dev.hq at hdone ⊢
  rw [hsl]
  exact hdone

theorem stepTime_in_steady {s : State} {m : Nat} {w : Entry} (h : s.dev.takes m 0x07 none w = true)
    (hmode : s.dev.fld SYS_MODE.MODE = 1) (hstepped : s.dev.fld SYS_MODE.STEPPED = 0) (hsteps : s.dev.lg.steps = [])
    (harm : s.dev.armedOnTime = false) :
    Completes (.stepTime m w) s (fun t => t.tb = s.dev.tb ∧ t.lg.steps.map (·.cmd) = [s.dev.cmdFor m 0x07 none w]) := by
  refine exec_stepTime h fun t htb hlg _ => ⟨htb, ?_⟩
  generalize s.dev.cmdFor m 0x07 none w = c at *
  have hmode' : (s.dev.begun m c).fld SYS_MODE.MODE = 1 := (fld_begun _ _ _ _ _ _ (by decide)).trans hmode
  have hstepped' : (s.dev.begun m c).fld SYS_MODE.STEPPED = 0 := (fld_begun _ _ _ _ _ _ (by decide)).trans hstepped
  have harm' : (s.dev.begun m c).armedOnTime = false := (armedOnTime_begun _ _ _).trans harm
  rw [hlg, stepTimeCmd_steady hmode' hstepped' hsteps harm', stepAccept_steps (d := s.dev.begun m c) hsteps]
  rfl

theorem stepTime_forced {s : State} {m : Nat} {w : Entry} (h : s.dev.takes m 0x07 none w = true) (hforce : w.getLsbD 8 = true)
    (hsteps : s.dev.lg.steps = []) (hfail : s.dev.lgFailed = false) (hroom : s.dev.lg.queued + 64 ≤ 32768) :
    Completes (.stepTime m w) s (fun t => t.tb = s.dev.tb ∧ ∃ r q, t.lg.steps = [r] ∧ r.cmd = s.dev.cmdFor m 0x07 none w ∧ r.force = true ∧
      r.old = s.dev.ax0 ∧ r.new = s.dev.stepValue r ∧ t.lg.queue = s.dev.lg.queue ++ [q] ∧ q.act = .step r ∧ q.ltype = 3) := by
  refine exec_stepTime h fun t htb hlg _ => ⟨htb, ?_⟩
  generalize hc : s.dev.cmdFor m 0x07 none w = c at *
  have hf : c.force = true := by rw [← hc]; exact (cmdFor_getLsbD _ _ _ _ _ (by omega) (by omega)).trans hforce
  have hax : (s.dev.begun m c).ax0 = s.dev.ax0 := (begun_only s.dev m c).ax0 (by simp) (by simp)
  have hfail' : (s.dev.begun m c).lgFailed = false := by
    unfold Dev.lgFailed at hfail ⊢
    rwa [fld_begun _ _ _ _ _ _ (by decide)]
  obtain ⟨q, hq, hact, htype⟩ := stepAccept_queue (d := s.dev.begun m c) hsteps hfail' hroom c.stepReq
  rw [stepTimeCmd_forced hf] at hlg
  refine ⟨(s.dev.begun m c).withValues c.stepReq, q, ?_, rfl, hf, hax, ?_, ?_, hact, htype⟩
  · rw [hlg, stepAccept_steps (d := s.dev.begun m c) hsteps]
  · simp only [Dev.withValues, Dev.stepValue, hax]
  · rw [hlg, hq]
    rfl

theorem stepRecord_durable {s : State} {x : LogWrite} {r : StepReq} (h : s.dev.lg.writing = some x) (hact : x.item.act = .step r)
    (hdone : x.done ≤ s.dev.elNs) :
    Completes .logRecordDurable s (fun t => (∀ a ∈ [t.tb.a0, t.tb.a1, t.tb.a2], a.val = BitVec.ofNat 112 r.new ∧ a.rem = 0) ∧
      t.fld AX0_STATUS.STEP_COUNT = (s.dev.fld AX0_STATUS.STEP_COUNT + 1) % 256) := by
  refine ⟨_, rfl, rfl, ?_⟩
  have hmark : Only [.regs .hl, .sl, .lg] s.dev s.dev.recMark := recMark_only _ (only_refl _ _) (by simp) (by simp) (by simp)
  have hstep := logAct_step s.dev.recMark r (some x.seq)
  rw [hmark.fld _ _ _ (by decide), ← hact, ← logRecordDurableEff_done h hdone] at hstep
  exact hstep

end Sys2Proof.Machine

open Sys2Proof Sys2Proof.Machine

/-- Settles O51: what each of its clauses says of the command is a theorem about `Dev.stepTimeCmd`, and the last one about what a durable
STEP record brings about. -/
theorem stepTimeNeedsItsMode : Obligations.StepTimeNeedsItsMode := by
  unfold Obligations.StepTimeNeedsItsMode
  refine ⟨?_, ?_, ?_, ?_⟩
  · intro s m w htakes c hforce hmode hrep
    exact stepTime_outside_steady htakes hforce hmode hrep
  · intro s m w htakes c _ hmode hstepped hsteps harm
    exact stepTime_in_steady htakes hmode hstepped hsteps harm
  · intro s m w htakes c hforce _ hsteps hfail hroom
    exact stepTime_forced htakes hforce hsteps hfail hroom
  · intro s x r hwriting hact hdone
    exact stepRecord_durable hwriting hact hdone
end

section
/-! PROOFS. An advancing address with a wrap (10 R344): the multiple of 2^k below it, and within the 2^k bytes the remainder of the sum. -/

namespace Sys2Proof.Machine

open Sys2Proof

/-- Replacing the lowest `len` bits keeps the quotient by 2^len. -/
theorem put_zero_eq (v len x : Nat) : put v 0 len x = v / 2 ^ len * 2 ^ len + x % 2 ^ len := by
  have hsplit := Nat.div_add_mod' v (2 ^ len)
  simp only [put, cut, Nat.shiftRight_zero, Nat.shiftLeft_zero]
  omega

/-- Rounding down to 2^k, taken separately in the lowest `n` bits and above them. -/
theorem div_mul_add_mod_div_mul (a : Nat) {k n : Nat} (hk : k ≤ n) :
    a / 2 ^ n * 2 ^ n + a % 2 ^ n / 2 ^ k * 2 ^ k = a / 2 ^ k * 2 ^ k := by
  obtain ⟨j, rfl⟩ := Nat.exists_eq_add_of_le hk
  rw [Nat.pow_add, Nat.mod_mul_right_div_self, ← Nat.div_div_eq_div_mul, Nat.mul_comm (2 ^ k) (2 ^ j), ← Nat.mul_assoc, ← Nat.add_mul,
    Nat.div_add_mod']

theorem ltAdd_wrap_eq (a d : Nat) {k : Nat} (h0 : 0 < k) (hk : k ≤ 62) : ltAdd a k d = a / 2 ^ k * 2 ^ k + (a + d) % 2 ^ k := by
  have hdvd : 2 ^ k ∣ 2 ^ 62 := Nat.pow_dvd_pow 2 hk
  have hlow : (a % 2 ^ 62 + d) % 2 ^ k = (a + d) % 2 ^ k := by rw [Nat.add_mod, Nat.mod_mod_of_dvd _ hdvd, ← Nat.add_mod]
  have hfits : a % 2 ^ 62 / 2 ^ k * 2 ^ k + (a + d) % 2 ^ k < 2 ^ 62 := by
    obtain ⟨j, hj⟩ := hdvd
    have hq : a % 2 ^ 62 / 2 ^ k < j := Nat.div_lt_of_lt_mul (hj ▸ Nat.mod_lt a (Nat.two_pow_pos 62))
    have hlt := Nat.mul_add_lt_mul_of_lt_of_lt hq (Nat.mod_lt (a + d) (Nat.two_pow_pos k))
    rwa [Nat.mul_comm (2 ^ k), Nat.mul_comm j, ← hj] at hlt
  have hr : ltAdd a k d = put a 0 62 (a % 2 ^ 62 / 2 ^ k * 2 ^ k + (a + d) % 2 ^ k) := by
    simp only [ltAdd, if_neg h0.ne', cut, Nat.shiftRight_zero, hlow]
  rw [hr, put_zero_eq, Nat.mod_eq_of_lt hfits, ← Nat.add_assoc, div_mul_add_mod_div_mul a hk]

/-- The mask NOT (2^k - 1) of `n` bits rounds a number of `n` bits down to a multiple of 2^k. -/
theorem and_highMask_eq {a k n : Nat} (ha : a < 2 ^ n) (hk : k ≤ n) : a &&& (2 ^ n - 2 ^ k) = a / 2 ^ k * 2 ^ k := by
  have hmask : 2 ^ n - 2 ^ k = (2 ^ (n - k) - 1) * 2 ^ k := by
    rw [Nat.sub_mul, ← Nat.pow_add, Nat.sub_add_cancel hk, Nat.one_mul]
  have hq : a / 2 ^ k < 2 ^ (n - k) := Nat.div_lt_of_lt_mul (by rwa [← Nat.pow_add, Nat.add_sub_cancel' hk])
  rw [hmask, ← Nat.div_add_mod' (a &&& (2 ^ (n - k) - 1) * 2 ^ k) (2 ^ k), Nat.and_div_two_pow, Nat.and_mod_two_pow,
    Nat.mul_div_cancel _ (Nat.two_pow_pos k), Nat.and_two_pow_sub_one_of_lt_two_pow hq, Nat.mul_mod_left, Nat.and_zero, Nat.add_zero]

end Sys2Proof.Machine

open Sys2Proof Sys2Proof.Machine

/-- Settles O30: both sides are the multiple of 2^k below the address plus the remainder of the sum, which the two masks keep apart. -/
theorem addressesWrap : Obligations.AddressesWrap := by
  unfold Obligations.AddressesWrap
  intro a k d ha h0 hk
  have hrem : (a + d) % 2 ^ k < 2 ^ k := Nat.mod_lt _ (Nat.two_pow_pos k)
  rw [ltAdd_wrap_eq a d h0 hk, and_highMask_eq ha (by omega), Nat.and_two_pow_sub_one_eq_mod, Nat.mul_comm,
    Nat.two_pow_add_eq_or_of_lt hrem]
end

section
/-! PROOFS. The boot ROM's sources (15 R507, R517): the source that is tried next, what a failed one reports, and that neither the scan of the log
nor the repair map writes over these. -/

namespace Sys2Proof.Machine

open Sys2Proof

/-! ### The next source -/

/-- With a source left, the boot ROM tries it, and STAGE and SOURCE say which. -/
theorem nextSource_cons {d : Dev} {n : Nat} {l : List Nat} (h : d.boot.sources = n :: l) (hn : n < 3) :
    d.nextSource.fld SYS_BOOT.STAGE = n + 1 ∧ d.nextSource.fld SYS_BOOT.SOURCE = n ∧ d.nextSource.boot.sources = l := by
  have hstage : (n + 1) % 2 ^ 4 = n + 1 := by omega
  have hsource : n % 2 ^ 2 = n := by omega
  unfold Dev.nextSource
  rw [h]
  refine ⟨?_, (Laws.fld_setFld_same _ _ _ _ _).trans hsource, rfl⟩
  rw [Laws.fld_setFld_field _ _ _ _ _ _ _ _ (by decide), Laws.fld_setFld_same]
  exact hstage

theorem nextSource_nil {d : Dev} (h : d.boot.sources = []) : d.nextSource.fld SYS_BOOT.STAGE = 0xF := by
  unfold Dev.nextSource
  rw [h]
  exact Laws.fld_setFld_same _ _ _ _ _

/-- Going to the next source changes no field but STAGE and SOURCE. -/
theorem nextSource_fld (d : Dev) {g : Fld} (i j : Nat) (hstage : g.pos % 2 ^ 32 ≠ SYS_BOOT.STAGE.pos % 2 ^ 32)
    (hsource : g.pos % 2 ^ 32 ≠ SYS_BOOT.SOURCE.pos % 2 ^ 32) : d.nextSource.fld g i j = d.fld g i j := by
  unfold Dev.nextSource
  split
  · exact Laws.fld_setFld_field _ _ _ _ _ _ _ _ hstage
  · exact (Laws.fld_setFld_field _ _ _ _ _ _ _ _ hsource).trans (Laws.fld_setFld_field _ _ _ _ _ _ _ _ hstage)

/-! ### BOOT_ROM_START -/

/-- The sources of each level of BOOTSEL are those of its row in the table (15 R507). -/
theorem bootSources_row {n : Nat} (h : n < 4) : bootSources n = [[0, 1, 2], [2], [0, 1], [1, 0, 2]].getD n [] := by
  match n, h with
  | 0, _ | 1, _ | 2, _ | 3, _ => rfl

theorem bootSources_cons (n : Nat) : ∃ x l, bootSources n = x :: l ∧ x < 3 := by
  unfold bootSources
  split <;> exact ⟨_, _, rfl, by decide⟩

/-- The part once the boot ROM has sampled BOOTSEL as `sel`. -/
def Dev.bootselSampled (d : Dev) (sel : Nat) : Dev :=
  let e := d.nextFree.setFld SYS_BOOT.BOOTSEL sel
  { e with boot := { e.boot with sources := bootSources sel } }

/-- A start of the boot ROM ends with BOOTSEL sampled, at one of its four levels, and the first of its sources tried. -/
theorem bootRomStartEff_samples {d : Dev} (hp : d.sys.powered = true) (hr : d.sys.resetLow = false) (hl : d.boot.loaded = false) :
    ∃ e : Dev, ∃ n < 4, bootRomStartEff d = (e.bootselSampled n).nextSource :=
  ⟨d.romLocked.loadAx0.romPrepare, _, Nat.mod_lt _ (by decide), if_pos ⟨hp, hr, hl⟩⟩

/-- The sample of BOOTSEL stands when the first source is tried. -/
theorem bootselSampled_fld (d : Dev) {n : Nat} (h : n < 4) : (d.bootselSampled n).nextSource.fld SYS_BOOT.BOOTSEL = n := by
  rw [nextSource_fld _ _ _ (by decide) (by decide)]
  exact (Laws.fld_setFld_same _ _ _ _ _).trans (Nat.mod_eq_of_lt h)

/-! ### The repair map of a boot -/

/-- The faults that the repair map holds (13 R457). -/
def mapFaults : List Fld :=
  [SYS_FAULT.TB_DEGRADED, SYS_FAULT.QUAY_EXHAUSTED, SYS_FAULT.ENGINE_EXHAUSTED, SYS_FAULT.BERTH_EXHAUSTED]

/-- A field that a sound map does not write: one of block SYS, neither MAP_VALID nor a fault that the map holds. -/
abbrev Fld.unmapped (g : Fld) : Prop :=
  g.blk = .sys ∧ ∀ f ∈ SYS_REPAIR.MAP_VALID :: mapFaults, g.pos % 2 ^ 32 ≠ f.pos % 2 ^ 32

/-- What no step of a fold changes, the fold does not change. -/
theorem foldl_keeps {α β γ : Type} {g : β → α → β} {φ : β → γ} {l : List α} (h : ∀ b, ∀ a ∈ l, φ (g b a) = φ b) (b : β) :
    φ (l.foldl g b) = φ b :=
  List.foldlRecOn l g (motive := fun x => φ x = φ b) rfl fun x hx a ha => (h x a ha).trans hx

/-- Of the registers, a fault bit that takes a value is the only one that changes. -/
theorem setFault_fld (d : Dev) (f : Fld) (b : Bool) {g : Fld} (i j : Nat) (h : g.pos % 2 ^ 32 ≠ f.pos % 2 ^ 32) :
    (d.setFault f b).fld g i j = d.fld g i j := by
  unfold Dev.setFault
  split
  · rfl
  · exact ((raiseMode_only _ _ (only_refl [.sl] _) (by simp)).fld g i j (by simp)).trans (Laws.fld_setFld_field _ _ _ _ _ _ _ _ h)

/-- An entry that a sound map puts in the registers is of another block than SYS. -/
theorem mapSound_entry {d : Dev} (hm : d.mapSound) {e : Nat × Nat}
    (he : e ∈ d.sys.map.filter fun e => !(mapFaults.map fun f => f.key 0 0).contains e.1) : blkOf e.1 ≠ .sys := by
  obtain ⟨hmem, hfault⟩ := List.mem_filter.1 he
  rcases hm e hmem with hf | ⟨hsys, _⟩
  · have hheld : (mapFaults.map fun f => f.key 0 0).contains e.1 = true := List.contains_iff_mem.2 hf
    rw [hheld] at hfault
    exact absurd hfault (by decide)
  · exact hsys

/-- A sound map leaves the fields of block SYS that it does not hold (13 R458). -/
theorem applyMap_fld {d : Dev} (hm : d.mapSound) {g : Fld} (hg : g.unmapped) (i j : Nat) : d.applyMap.fld g i j = d.fld g i j := by
  obtain ⟨hsys, hpos⟩ := hg
  unfold Dev.applyMap
  refine (Laws.fld_setFld_field _ _ _ _ _ _ _ _ (hpos _ List.mem_cons_self)).trans ?_
  refine (foldl_keeps (φ := fun x : Dev => x.fld g i j) (fun x f hf => ?_) _).trans ?_
  · split
    · exact setFault_fld x f true i j (hpos f (List.mem_cons_of_mem _ hf))
    · rfl
  refine (foldl_keeps (φ := fun x : Dev => x.fld g i j) (fun x r _ => ?_) _).trans ?_
  · split <;> rfl
  refine foldl_keeps (φ := fun r : Tbl Nat => get (g.rst i) r (g.key i j)) (fun r e he => ?_) _
  refine Laws.get_ins_ne _ _ (fun hkey => mapSound_entry hm he ?_) _
  rw [← hkey, blkOf_key, hsys]

/-- Steps 4 to 7 of 15 R506 leave them too: the scan of the log writes its own registers. -/
theorem romPrepare_fld {d : Dev} (hm : d.mapSound) {g : Fld} (hg : g.unmapped) (i j : Nat) :
    d.romPrepare.fld g i j = d.fld g i j := by
  have hscan := logScan_only ({ d with mem := [], dr := {} } : Dev) d.lgLast d.lgTail (only_refl [.regs .hl, .lg] _) (by simp) (by simp)
  have hmap : (({ d with mem := [], dr := {} } : Dev).logScan d.lgLast d.lgTail).mapSound := hm
  exact (applyMap_fld hmap hg i j).trans (hscan.fld g i j (by simp [hg.1]))

/-! ### A source that fails -/

/-- The part after a failure's core reset, with what it reports, before the boot ROM prepares it again (15 R517). -/
def Dev.failReported (d : Dev) (code op : Nat) : Dev :=
  let kept := [SYS_BOOT.SOURCE, SYS_BOOT.BOOTSEL, SYS_RSTCAUSE.ATTEMPTS].foldl (fun x f => x.setFld f (d.fld f)) (d.coreReset true).romLocked
  ((kept.setFld SYS_BOOT.LAST_ERR code).setFld SYS_BOOT.ERR_OP op).setFld SYS_RSTCAUSE.CAUSE 4

/-- The part after a failure, about to go to the next of the sources that remained. -/
def Dev.failPrepared (d : Dev) (code op : Nat) : Dev :=
  let e := (d.failReported code op).romPrepare
  { e with boot := { e.boot with sources := d.boot.sources } }

theorem bootFail_eq (d : Dev) (code op : Nat) : d.bootFail code op = (d.failPrepared code op).nextSource := rfl

theorem failReported_mapSound {d : Dev} (hm : d.mapSound) (code op : Nat) : (d.failReported code op).mapSound := hm

/-- What a failure reports stands when the next source is tried. -/
theorem bootFail_fld {d : Dev} (hm : d.mapSound) (code op : Nat) {g : Fld} (hg : g.unmapped)
    (hstage : g.pos % 2 ^ 32 ≠ SYS_BOOT.STAGE.pos % 2 ^ 32) (hsource : g.pos % 2 ^ 32 ≠ SYS_BOOT.SOURCE.pos % 2 ^ 32) :
    (d.bootFail code op).fld g = (d.failReported code op).fld g := by
  rw [bootFail_eq, nextSource_fld _ _ _ hstage hsource]
  exact romPrepare_fld (failReported_mapSound hm code op) hg 0 0

theorem bootFail_lastErr {d : Dev} (hm : d.mapSound) (code op : Nat) : (d.bootFail code op).fld SYS_BOOT.LAST_ERR = code % 2 ^ 8 := by
  rw [bootFail_fld hm code op (by decide) (by decide) (by decide)]
  unfold Dev.failReported
  rw [Laws.fld_setFld_field _ _ _ _ _ _ _ _ (by decide), Laws.fld_setFld_field _ _ _ _ _ _ _ _ (by decide), Laws.fld_setFld_same]
  rfl

theorem bootFail_errOp {d : Dev} (hm : d.mapSound) (code op : Nat) : (d.bootFail code op).fld SYS_BOOT.ERR_OP = op % 2 ^ 16 := by
  rw [bootFail_fld hm code op (by decide) (by decide) (by decide)]
  unfold Dev.failReported
  rw [Laws.fld_setFld_field _ _ _ _ _ _ _ _ (by decide), Laws.fld_setFld_same]
  rfl

theorem bootFail_cause {d : Dev} (hm : d.mapSound) (code op : Nat) : (d.bootFail code op).fld SYS_RSTCAUSE.CAUSE = 4 := by
  rw [bootFail_fld hm code op (by decide) (by decide) (by decide)]
  exact Laws.fld_setFld_same _ _ _ _ _

/-- A failure gives way to the next source that remains. -/
theorem bootFail_cons {d : Dev} {n : Nat} {l : List Nat} (h : d.boot.sources = n :: l) (hn : n < 3) (code op : Nat) :
    (d.bootFail code op).fld SYS_BOOT.STAGE = n + 1 ∧ (d.bootFail code op).fld SYS_BOOT.SOURCE = n ∧
      (d.bootFail code op).boot.sources = l :=
  nextSource_cons (d := d.failPrepared code op) h hn

theorem bootFail_nil {d : Dev} (h : d.boot.sources = []) (code op : Nat) : (d.bootFail code op).fld SYS_BOOT.STAGE = 0xF :=
  nextSource_nil (d := d.failPrepared code op) h

/-! ### BOOT_FETCH_DONE -/

/-- The boot ROM waits for the image of a source. -/
abbrev Dev.fetches (d : Dev) : Prop := d.fld SYS_BOOT.STAGE = 1 ∨ d.fld SYS_BOOT.STAGE = 2 ∨ d.fld SYS_BOOT.STAGE = 4

theorem bootFetchDoneEff_failed {d : Dev} (hp : d.sys.powered = true) (hst : d.fetches) :
    bootFetchDoneEff .failed d = (d.count SYS_RSTCAUSE.ATTEMPTS).bootFail 2 0 :=
  if_pos ⟨hp, hst⟩

theorem bootFetchDoneEff_badImage {d : Dev} {b : List Byte} (hp : d.sys.powered = true) (hst : d.fetches)
    (he : (d.count SYS_RSTCAUSE.ATTEMPTS).imageError b ≠ 0) :
    bootFetchDoneEff (.image b) d =
      (d.count SYS_RSTCAUSE.ATTEMPTS).bootFail ((d.count SYS_RSTCAUSE.ATTEMPTS).imageError b) 0 :=
  (if_pos ⟨hp, hst⟩).trans (if_pos he)

/-- BOOT_FETCH_DONE completes with what its effect leaves; AX0 and the fuses stay. -/
theorem exec_bootFetchDone {s : State} {f : BootFetch} {e : Dev} (h : bootFetchDoneEff f s.dev = e) {post : Dev → Prop}
    (hpost : post { e with tb := s.dev.tb, fuse := s.dev.fuse }) : Completes (.bootFetchDone f) s post := by
  subst h
  exact ⟨_, rfl, rfl, hpost⟩

end Sys2Proof.Machine

open Sys2Proof Sys2Proof.Machine

/-- Settles O48: a start and a failure both end in `Dev.nextSource`, and what a failure has reported before it is written over neither by the
scan of the log nor by a sound repair map. -/
theorem bootSourcesAreTriedInOrder : Obligations.BootSourcesAreTriedInOrder := by
  unfold Obligations.BootSourcesAreTriedInOrder
  refine ⟨?_, ?_, ?_, ?_⟩
  · intro s hp hr hl _
    obtain ⟨e, n, hn, heff⟩ := bootRomStartEff_samples hp hr hl
    obtain ⟨x, l, hrow, hx⟩ := bootSources_cons n
    obtain ⟨hstage, hsource, hleft⟩ := nextSource_cons (d := e.bootselSampled n) hrow hx
    have hsel := bootselSampled_fld e hn
    rw [← heff] at hstage hsource hleft hsel
    exact ⟨_, rfl, rfl, n, hn, hsel, x, l, hrow.symm.trans (bootSources_row hn), hsource, hstage, hleft⟩
  · intro s n l hp hst hs hn hm
    have hm' : (s.dev.count SYS_RSTCAUSE.ATTEMPTS).mapSound := hm
    obtain ⟨hstage, hsource, hleft⟩ := bootFail_cons (d := s.dev.count SYS_RSTCAUSE.ATTEMPTS) hs hn 2 0
    exact exec_bootFetchDone (bootFetchDoneEff_failed hp hst)
      ⟨bootFail_lastErr hm' 2 0, bootFail_errOp hm' 2 0, bootFail_cause hm' 2 0, hstage, hsource, hleft, rfl⟩
  · intro s b n l hp hst hs hn he _
    exact exec_bootFetchDone (bootFetchDoneEff_badImage hp hst he) (bootFail_cons (d := s.dev.count SYS_RSTCAUSE.ATTEMPTS) hs hn _ 0)
  · intro s hp hst hs _
    exact exec_bootFetchDone (bootFetchDoneEff_failed hp hst) (bootFail_nil (d := s.dev.count SYS_RSTCAUSE.ATTEMPTS) hs 2 0)
end

section
/-! PROOFS. Offsets where no register lies (17 R562): the ranges of BAR0 beyond a block's last register, and what a read and a write of such
an offset do. -/

namespace Sys2Proof.Machine

open Sys2Proof

/-! ### Beyond a block's last register -/

/-- The end of a register's last instance. -/
def RegRow.top (r : RegRow) : Nat := r.base + (r.count - 1) * r.stride + (r.count2 - 1) * r.stride2 + r.width / 8

/-- An offset that lies in a register lies below the register's end. -/
theorem RegRow.lt_top_of_locate {r : RegRow} {off : Nat} {x : Nat × Nat × Nat} (h : r.locate off = some x) : off < r.top := by
  simp only [RegRow.locate, Option.ite_none_right_eq_some] at h
  obtain ⟨⟨hbase, hi, hj, hk⟩, -⟩ := h
  generalize (if r.stride = 0 then 0 else (off - r.base) / r.stride) = i at hi hj hk
  generalize (if r.stride2 = 0 then 0 else (off - r.base - i * r.stride) / r.stride2) = j at hj hk
  have hstride : i * r.stride ≤ (r.count - 1) * r.stride := Nat.mul_le_mul_right _ (Nat.le_sub_one_of_lt hi)
  have hstride2 : j * r.stride2 ≤ (r.count2 - 1) * r.stride2 := Nat.mul_le_mul_right _ (Nat.le_sub_one_of_lt hj)
  unfold RegRow.top
  omega

/-- Beyond the ends of all the registers of its block, an offset has no register. -/
theorem regAt_beyond {off b : Nat} {l : List RegRow} (hrows : rowsAt off = l) (htop : ∀ r ∈ l, r.top ≤ b) (hoff : b ≤ off) :
    regAt off = none := by
  unfold regAt
  rw [hrows, List.findSome?_eq_none_iff]
  intro r hr
  rw [Option.map_eq_none_iff, Option.eq_none_iff_forall_ne_some]
  intro x hx
  exact absurd ((htop r hr).trans hoff) (Nat.not_le.2 (RegRow.lt_top_of_locate hx))

/-- The range that 17 R559 reserves belongs to no block. -/
theorem rowsAt_reserved {off : Nat} (h : 0x46000 ≤ off) : rowsAt off = [] := by
  unfold rowsAt
  repeat rw [if_neg (by omega)]

theorem rowsAt_qy {off : Nat} (hlo : 0x10000 ≤ off) (hhi : off < 0x20000) : rowsAt off = rowsQY := by
  unfold rowsAt
  iterate 8 rw [if_neg (by omega)]
  rw [if_pos hhi]

theorem rowsAt_me {off : Nat} (hlo : 0x20000 ≤ off) (hhi : off < 0x3C000) : rowsAt off = rowsME := by
  unfold rowsAt
  iterate 9 rw [if_neg (by omega)]
  rw [if_pos hhi]

/-! ### An access where no register lies -/

/-- BAR2 begins where BAR0 ends. -/
theorem inBar2_of_lt {off : Nat} (hoff : off < 0x100000) (size : Nat) : inBar2 off size = false := by
  simp [inBar2, Nat.not_le.2 hoff]

section
variable {off : Nat} (h : regAt off = none)
include h

theorem wordFor_unnamed (d : Dev) (f : Nat) : d.wordFor f off = 0 := by
  unfold Dev.wordFor
  rw [h]

theorem clearRc_unnamed (d : Dev) (size : Nat) : d.clearRc off size = d := by
  unfold Dev.clearRc
  rw [h]

theorem writePart_unnamed (d : Dev) (size val : Nat) (boot first : Bool) : d.writePart off size val boot first = d := by
  unfold Dev.writePart
  rw [h]

/-- A write where no register lies changes nothing, the upper half of one of 8 bytes included. -/
theorem writeBar_unnamed (d : Dev) {size : Nat} (h8 : size = 8 → regAt (off + 4) = none) (val : Nat) (boot first : Bool) :
    d.writeBar off size val boot first = d := by
  simp only [Dev.writeBar, h, and_true]
  split
  next hs => rw [writePart_unnamed h, writePart_unnamed (h8 hs)]
  next => exact writePart_unnamed h d size val boot first

/-- A read of 4 or 8 bytes where no register lies returns 0 and leaves the part as it is. -/
theorem hostRead8_unnamed (d : Dev) (f : Nat) {size : Nat} (hoff : off < 0x100000) (h8 : size = 8 → regAt (off + 4) = none) :
    d.hostRead8 f off size = (0, d) := by
  unfold Dev.hostRead8
  rw [h, inBar2_of_lt hoff, wordFor_unnamed h, clearRc_unnamed h]
  split
  · by_cases hs : size = 8
    · simp [hs, wordFor_unnamed (h8 hs), clearRc_unnamed (h8 hs)]
    · simp [hs]
  · rfl

/-- RC_READ where no register lies returns 0 and changes nothing else, also for a function that is not there. -/
theorem rcReadEff_unnamed (d : Dev) (f : Nat) {size : Nat} (hoff : off < 0x100000) (hs : size = 4 ∨ size = 8)
    (h8 : size = 8 → regAt (off + 4) = none) : rcReadEff f off size d = { d with hi := { d.hi with lastRead := 0 } } := by
  unfold rcReadEff
  rw [hostRead8_unnamed h d f hoff h8, if_pos hs, ite_self]

end

/-- A write of a function that is there, where no register lies, ends the sequence of SYS_RESET (01 R25) and is noted in the cycle. -/
theorem hostWrite_unnamed {d : Dev} {a : BarAcc} (hup : d.barUp = true) (hfn : a.fn < 8 ∧ d.fnOn a.fn = true) (hoff : a.off < 0x100000)
    (ha : regAt a.off = none) (h8 : a.size = 8 → regAt (a.off + 4) = none) :
    ∃ c, d.hostWrite a = { d with hi := { d.hi with key1 := false }, cyc := c } := by
  have hthere : (d.barUp && decide (a.fn < 8) && d.fnOn a.fn) = true := by simp [hup, hfn]
  unfold Dev.hostWrite
  simp only [if_pos hthere, inBar2_of_lt hoff, writeBar_unnamed ha _ h8, Bool.false_eq_true, if_false]
  split
  · exact ⟨_, rfl⟩
  · exact ⟨d.cyc, rfl⟩

/-! ### The rows -/

/-- RC_READ completes with what its effect leaves; AX0, berth memory and the fuses stay. -/
theorem exec_rcRead {s : State} {f off size : Nat} {e : Dev} (he : rcReadEff f off size s.dev = e) {post : Dev → Prop}
    (hpost : post { e with tb := s.dev.tb, mem := s.dev.mem, fuse := s.dev.fuse }) : Completes (.rcRead f off size) s post := by
  subst he
  exact ⟨_, rfl, rfl, hpost⟩

/-- A write of BAR0 completes with what it leaves; berth memory and the fuses stay. -/
theorem exec_regWrite {s : State} {a : BarAcc} {e : Dev} (he : s.dev.hostWrite a = e) {post : Dev → Prop}
    (hpost : post { e with mem := s.dev.mem, fuse := s.dev.fuse }) : Completes (.regWrite a) s post := by
  subst he
  exact ⟨_, rfl, rfl, hpost⟩

end Sys2Proof.Machine

open Sys2Proof Sys2Proof.Machine

/-- Settles O27: the three ranges lie beyond the last register of their block, and each part of an access looks for a register first. -/
theorem unnamedOffsetsAreInert : Obligations.UnnamedOffsetsAreInert := by
  unfold Obligations.UnnamedOffsetsAreInert
  refine ⟨?_, ?_, ?_⟩
  · rintro off (⟨hlo, -⟩ | ⟨hlo, hhi⟩ | ⟨hlo, hhi⟩)
    · exact regAt_beyond (rowsAt_reserved hlo) (by decide) hlo
    · exact regAt_beyond (rowsAt_qy (by omega) hhi) (by decide) hlo
    · exact regAt_beyond (rowsAt_me (by omega) hhi) (by decide) hlo
  · intro s f off size h hoff hsize
    have hs : size = 4 ∨ size = 8 := hsize.imp_right And.left
    have h8 : size = 8 → regAt (off + 4) = none := by
      rintro rfl
      exact (hsize.resolve_left (by decide)).2
    exact exec_rcRead (rcReadEff_unnamed h s.dev f hoff hs h8) rfl
  · intro s a hup hfn hoff h h8
    obtain ⟨c, hc⟩ := hostWrite_unnamed hup hfn hoff h h8
    exact exec_regWrite hc rfl
end
